-- ==== Sys2Proof/Word.lean ====
section
/-! DEFINITION. The index types of the block's units and the plainest word types (R7, R21, R22).
Indexes are bounded numbers (Fin); only what the manual treats as bits is a bit vector. -/

namespace Sys2Proof

/-- One byte of a byte string (R7: multi-byte values are little-endian, byte 0 first). -/
abbrev Byte := BitVec 8

/-- A pack port, P00 to P31 (R21). -/
abbrev PackId := Fin 32
/-- An arm of a pack, 0 or 1 (R21). -/
abbrev ArmId := Fin 2
/-- A head of an arm, 0 to 15; a lane is (pack, arm, head) (R21). -/
abbrev HeadId := Fin 16
/-- A tile, 0 to 7, of four pack ports each (R22). -/
abbrev TileId := Fin 8
/-- A motor bus, A to D (R291). -/
abbrev BusId := Fin 4
/-- A span, 0 to 7 (R312). -/
abbrev SpanId := Fin 8
/-- A host port, 0 to 15 (R22). -/
abbrev PortId := Fin 16
/-- A sub-port of a port under breakout (R391). -/
abbrev SubPortId := Fin 4
/-- A service sequencer, 0 to 15 (R212). -/
abbrev SeqId := Fin 16
/-- A context of a service sequencer, 0 to 15 (R212). -/
abbrev CtxId := Fin 16
/-- A GDDR7 channel, 0 to 23 (R394). -/
abbrev ChanId := Fin 24
/-- A mover channel, 0 to 31 (R427). -/
abbrev MoverId := Fin 32
/-- A fault source, 0 to 415 (R489). -/
abbrev SourceId := Fin 416
/-- A switched rail, 0 to 7 (R517). -/
abbrev RailId := Fin 8
/-- A switched power domain, 0 to 177 (R522). -/
abbrev DomainId := Fin 178
/-- A control cluster: 0 is A, 1 is B (R502). -/
abbrev ClusterId := Fin 2

/-- An AngleTime: REV[39:28], WEDGE[27:19], PHASE[18:0] (R31). -/
abbrev AngleTime := BitVec 40
/-- A general register of a sequencer (R195). -/
abbrev Reg64 := BitVec 64
/-- A microword (R193). -/
abbrev Microword := BitVec 128

end Sys2Proof
end

