-- ==== Sys2Proof/Syntax.lean ====
section
/-! DEFINITION. The commands of the block (one constructor for each row of the opcode table) and the types of
their operands: what a host, the management bus, a pack, a pin or one of the block's own engines brings with
the command. -/

namespace Sys2Proof

/-- The order codes (R1). -/
inductive Part where
  | qh1024 | qh0512 | qh0256
  deriving DecidableEq, Repr

/-- An entry of the boot image's key list (R534). -/
structure KeyEntry where
  index : Nat
  usage : Nat
  revoked : Bool
  deriving DecidableEq, Repr

/-- A section of a firmware image (R533). -/
structure FwSection where
  type : Nat
  offset : Nat
  length : Nat
  deriving DecidableEq, Repr

/-- A firmware image in boot flash (R532): its header and the plaintext of its payload, with the verdicts of the crypto engine on the
header's signature and the payload's tag. -/
structure FwImage where
  header : List Byte
  payload : List Byte
  signatureOk : Bool
  tagOk : Bool
  /-- Routine numbers the image marks writing (R477). -/
  writingRoutines : List Nat
  deriving DecidableEq, Repr

/-- A record of a dictionary image (R472). -/
structure DictRec where
  index : Nat
  sub : Nat
  times : Nat
  type : Nat
  length : Nat
  value : Nat
  deriving DecidableEq, Repr

/-- A dictionary image: base, overlay or stored layer (R471): its header, its body, and the verdict of the crypto engine on its
signature. -/
structure DictImage where
  header : List Byte
  body : List Byte
  signatureOk : Bool
  deriving DecidableEq, Repr

/-- A boot selector copy that is valid (R531). -/
structure Selector where
  seq : Nat
  preferred : Nat
  deriving DecidableEq, Repr

/-- The counter block of the event store (R549, R561). -/
structure SavedCounters where
  opSec : Nat
  powerCycles : Nat
  fatalOverwritten : Nat
  deriving DecidableEq, Repr

/-- The engine that a micro-operation runs on: a formatter of a pack and arm, or a context of a service sequencer
(R192). -/
inductive Eng where
  | formatter (p : PackId) (a : ArmId)
  | service (q : SeqId) (c : CtxId)
  deriving DecidableEq, Repr

/-- A result of the LDPC decoder: the hard decisions at its end and the iterations it took (R172). -/
structure Attempt where
  word : Nat
  iters : Nat
  deriving DecidableEq, Repr

/-- The decode of a candidate of method 2: its shifts and the decode (R175, R176). -/
structure Cand where
  s1 : Int
  s2 : Int
  body : Attempt
  deriving DecidableEq, Repr

/-- What the recovery decoder's decodes come to (R174): those of the candidates of method 2, the extended decode at the
best-ranked alignment, and the one with defect marks ignored. -/
structure Recovered where
  cands : List Cand
  extended : Attempt
  noErasures : Attempt
  deriving DecidableEq, Repr

/-- One bit cell of a read gate as the analog stages and the detector of a lane give it (R135): the interpolated cell sample in
ADC LSB, the detector's tentative decision and soft output for the cell (positive favours 0), and the errors that the loops
see there: timing phase in 1/256 cell, amplitude, offset and asymmetry in the units of their seeds (R136). -/
structure CellSample where
  x : Int
  bit : Bool
  soft : Int
  phase : Int
  gainErr : Int
  offsetErr : Int
  asymErr : Int
  deriving DecidableEq, Repr

/-- A ladder read (R178): the tentative decisions inside each fragment's sync window, the cells of each fragment's read gate,
the detector's soft outputs on the averaged samples (step 5's last read, R180), the first decode with the sector's SNR in
1/256 dB, and recovery on its samples. -/
structure LadderRead where
  window1 : List Bool
  window2 : List Bool
  cells1 : List CellSample
  cells2 : List CellSample
  averaged : List Int
  first : Attempt
  snr : Int
  recovered : Recovered
  deriving DecidableEq, Repr


/-- One lane's report of a wedge (R38, R107): the 16 cells it took for the address mark, the 20 cells of the index field, and
the tile-clock time of the reference point in 1/16 ns. -/
structure Detection where
  arm : ArmId
  head : HeadId
  mark : Nat
  indexCells : Nat
  time : Nat
  deriving DecidableEq, Repr

/-- What reading a pack's identity memory gives (R66 to R76, R101), and the verdict of the signature check. -/
structure PackMem where
  /-- How often the transaction that failed most had failed (R64): with up to three retries it answered, beyond them it never did. -/
  failures : Nat
  identity : List Byte
  signature : List Byte
  geometry : List Byte
  servo : List Byte
  locator : List Byte
  life0 : List Byte
  life1 : List Byte
  logHeader : List Byte
  /-- A new pack's first life record could be written and read back (R76). -/
  lifeWritten : Bool
  deriving DecidableEq, Repr


/-- What a lane's servo demodulator reads of a wedge (R107, R234): the cells of the address mark, the index, the track and
surface, and the runout word, and the burst amplitudes with the polarity of odd tracks removed. -/
structure Demod where
  mark : Nat
  indexCells : Nat
  trackCells : Nat
  runoutCells : Nat
  n : Int
  q : Int
  deriving DecidableEq, Repr

/-- The shunt samples of a PWM period's two windows, Q1.15 of full scale (R274, R276). -/
structure ShuntPair where
  first : Int
  second : Int
  deriving DecidableEq, Repr

/-- A connection request (R353, R354): the sub-port it came in on, the peer's address in 128 bits (IPv4 mapped), its QP
number, the path MTU, and the private data. -/
structure CmReq where
  port : PortId
  sub : SubPortId
  source : Nat
  qp : Nat
  mtu : Nat
  data : List Byte
  deriving DecidableEq, Repr


/-- Who reaches buffer memory: the requester classes of R413. -/
inductive Requester where
  | tile | crypto | erasure | index
  | mover (ch : MoverId)
  | service
  | cluster (c : ClusterId)
  deriving DecidableEq, Repr

/-- What a GDDR7 device does at a read of a granule (R395, R399): transfers whose CRC fails, bytes of the stored code word
altered (0 to 63 data, 64 to 67 check bytes, each with its XOR), another granule's word that came instead, and the bytes of the
segment tag where they are not those written (R398). -/
structure DramRead where
  gran : Nat
  crcFails : Nat
  flips : List (Nat × Nat)
  other : Option Nat
  tag : Option (List Byte)
  deriving DecidableEq, Repr

/-- An error of the cache SRAM at an access (R418). -/
inductive SramErr where
  | none
  | corrected
  /-- Uncorrectable in a granule's data. -/
  | data
  /-- Uncorrectable in a line's tag or state; the address can still be read or not. -/
  | tag (readable : Bool)
  deriving DecidableEq, Repr



/-- What a read of a leaf reported for its worst sector: stripe address, leaf, outcome (R182) and the ladder step that gave it. -/
structure LeafRead where
  addr : Nat
  leaf : Nat
  outcome : Nat
  step : Nat
  deriving DecidableEq, Repr


/-- The operands of a range command of the firmware's own (R422). -/
structure RangeArgs where
  base : Nat
  length : Nat
  mask : Nat
  deriving DecidableEq, Repr

/-- A discrete input (R496). -/
inductive InputPin where
  | wake (w : Fin 4)
  | epo
  | psf (p : PackId)
  | pres (p : PackId)
  | pg (r : RailId)
  deriving DecidableEq, Repr

/-- What the boot flash holds when VDD_AON is applied, where something outside has programmed it: the areas of R530 and the
counter block. -/
structure BootFlash where
  imageA : Option FwImage
  imageB : Option FwImage
  base0 : Option DictImage
  base1 : Option DictImage
  stored0 : Option DictImage
  stored1 : Option DictImage
  overlays : List DictImage
  selector0 : List Byte
  selector1 : List Byte
  counters : Option SavedCounters
  deriving DecidableEq, Repr

/-- What a target of the flash window holds after a data write, as Boot would read it. -/
inductive FlashContent where
  | none
  | image (x : FwImage)
  | dict (x : DictImage)
  deriving DecidableEq, Repr

/-- A read of a regulator over PMBus (R521): acknowledged within three attempts, a fault bit of STATUS_WORD, mV and mA. -/
structure RailSample where
  rail : RailId
  acked : Bool
  fault : Bool
  milliVolt : Nat
  milliAmp : Nat
  deriving DecidableEq, Repr

/-- The temperature that a present pack's sensor gives at a tick, in 1/256 degree Celsius (R544). -/
structure PackTemp where
  pack : PackId
  temp : Int
  deriving DecidableEq, Repr

/-- What the island samples at a tick beside PACK_PRES (R544): temperatures in 1/256 degree Celsius, energy detect as bits. -/
structure TickSample where
  temps : List PackTemp
  die : Int
  energy : Nat
  deriving DecidableEq, Repr

/-- What Boot finds after the fill (R527): the arbiter's lockstep self-test passed, and the channels that failed, as bits. -/
structure BootResult where
  arbiterOk : Bool
  channelsFailed : Nat
  deriving DecidableEq, Repr

/-- The results of SelfTest's tests other than the clusters' own (R538): tests passed, and units that failed as bits. -/
structure SelfTestResult where
  cacheOk : Bool
  enginesOk : Bool
  sequencersBad : Nat
  linksBad : Nat
  servosBad : Nat
  moversBad : Nat
  deriving DecidableEq, Repr

/-- What the arbiter sees of the clusters at a check (R505, R506): heartbeats of A and B, the mirror's lag in microseconds and a
gap in its sequence. -/
structure ArbiterView where
  beatA : Bool
  beatB : Bool
  lag : Nat
  gap : Bool
  deriving DecidableEq, Repr

/-- A band slot as a pack's metadata and media give it (R127, R128, R133): type code, write pointer, list sequence. -/
structure BandImage where
  surface : Nat
  slot : Nat
  type : Nat
  track : Nat
  sector : Nat
  listSeq : Nat
  deriving DecidableEq, Repr

/-- A suspect sector as the pack metadata give it (R190): its address and whether it has been written since. -/
structure SuspectImage where
  addr : Nat
  rewritten : Bool
  deriving DecidableEq, Repr

/-- What the media of a pack hold beside the zone tables: the two copies of the defect list as stored (R132), the band slots that are
not fresh sequential ones (R127), and the suspects (R190). -/
structure MediaLists where
  list0 : List Byte
  list1 : List Byte
  bands : List BandImage
  suspects : List SuspectImage
  deriving DecidableEq, Repr

/-- The commands: one constructor for each row of the opcode table. -/
inductive Instr where
  /-- D2D_KEEPALIVE_SEND (R23). -/
  | cD2dKeepaliveSend (t : TileId) (byHub : Bool)
  /-- D2D_LINK_LOST_TILE (R23). -/
  | cD2dLinkLostTile (t : TileId)
  /-- D2D_LINK_LOST_HUB (R23). -/
  | cD2dLinkLostHub (t : TileId)
  /-- PER_ARRAY_WRITE_APPLY (R18). -/
  | cPerArrayWriteApply (p : PackId) (a : ArmId)
  /-- REFERENCE_100MHZ_LOST (R28). -/
  | cReference100mhzLost
  /-- REFERENCE_156MHZ_LOST (R28). -/
  | cReference156mhzLost
  /-- WEDGE_PHASE_UPDATE (R40). -/
  | cWedgePhaseUpdate (p : PackId) (dets : List Detection)
  /-- TB_COAST_LIMIT (R42). -/
  | cTbCoastLimit (p : PackId)
  /-- TB_ACQUIRE_TIMEOUT (R42). -/
  | cTbAcquireTimeout (p : PackId)
  /-- SKEW_MEASUREMENT_DONE (R49). -/
  | cSkewMeasurementDone (p : PackId)
  /-- SKEW_REMEASURE_START (R51). -/
  | cSkewRemeasureStart (p : PackId)
  /-- ARM_RELOAD (R46). -/
  | cArmReload (p : PackId) (a : ArmId)
  /-- ANGLE_WAIT_REACHED (R54). -/
  | cAngleWaitReached (p : PackId) (a : ArmId)
  /-- PACK_PRES_ASSERT (R90). -/
  | cPackPresAssert (p : PackId)
  /-- PACK_PRES_DEASSERT (R94). -/
  | cPackPresDeassert (p : PackId)
  /-- PACK_SETTLE_DONE (R93). -/
  | cPackSettleDone (p : PackId) (m : PackMem)
  /-- I2C_RETRY (R64). -/
  | cI2cRetry (p : PackId) (dev : Fin 3)
  /-- LIFE_RECORD_WRITE (R75). -/
  | cLifeRecordWrite (p : PackId) (readBack : Bool)
  /-- STATUS_FRAME (R84). -/
  | cStatusFrame (p : PackId) (a : ArmId) (frame : List Byte)
  /-- REGRESP_FRAME (R81). -/
  | cRegrespFrame (p : PackId) (a : ArmId) (frame : List Byte)
  /-- ARM_LINK_RX_TIMEOUT (R86). -/
  | cArmLinkRxTimeout (p : PackId) (a : ArmId)
  /-- CMD_ECHO_TIMEOUT (R85). -/
  | cCmdEchoTimeout (p : PackId) (a : ArmId)
  /-- ARM_LINK_TRAINING_DONE (R86). -/
  | cArmLinkTrainingDone (p : PackId) (a : ArmId)
  /-- ARM_LINK_TRAINING_TIMEOUT (R86). -/
  | cArmLinkTrainingTimeout (p : PackId) (a : ArmId)
  /-- PACK_CMD_DRAIN (R95). -/
  | cPackCmdDrain (p : PackId)
  /-- PACK_CMD_CANCEL_DRAIN (R95). -/
  | cPackCmdCancelDrain (p : PackId)
  /-- PACK_CMD_RETIRE (R95). -/
  | cPackCmdRetire (p : PackId)
  /-- PACK_CMD_PREPARE_REMOVAL (R95). -/
  | cPackCmdPrepareRemoval (p : PackId)
  /-- SPINUP_REQUEST (R97). -/
  | cSpinupRequest (p : PackId)
  /-- SPINUP_TIMEOUT (R90). -/
  | cSpinupTimeout (p : PackId)
  /-- PACK_SENSOR_POLL (R100). -/
  | cPackSensorPoll (p : PackId) (temp : Option Int) (helium : Option Nat)
  /-- PACK_LOG_WRITE (R102). -/
  | cPackLogWrite (p : PackId) (readBack : Bool)
  /-- PACK_LOG_REPEAT_REWRITE (R102). -/
  | cPackLogRepeatRewrite (p : PackId)
  /-- ZONE_TABLE_READ_DONE (R125). -/
  | cZoneTableReadDone (p : PackId) (copy0 copy1 : List Byte) (lists : MediaLists)
  /-- SERVO_PROTECT_START (R109). -/
  | cServoProtectStart (p : PackId) (a : ArmId) (h : HeadId)
  /-- SERVO_WINDOW_OPEN (R153). -/
  | cServoWindowOpen (p : PackId) (a : ArmId) (h : HeadId)
  /-- READ_GATE_OPEN (R139). -/
  | cReadGateOpen (p : PackId) (a : ArmId) (h : HeadId)
  /-- READ_GATE_CLOSE (R145). -/
  | cReadGateClose (p : PackId) (a : ArmId) (h : HeadId) (cells : List CellSample)
  /-- WRITE_GATE_OPEN (R205). -/
  | cWriteGateOpen (p : PackId) (a : ArmId) (h : HeadId)
  /-- WRITE_GATE_CLOSE (R153). -/
  | cWriteGateClose (p : PackId) (a : ArmId) (h : HeadId)
  /-- SYNC_WINDOW_DECISION (R169). -/
  | cSyncWindowDecision (p : PackId) (a : ArmId) (h : HeadId) (bits : List Bool)
  /-- WRITE_BUFFER_DEADLINE (R150). -/
  | cWriteBufferDeadline (p : PackId) (a : ArmId) (h : HeadId) (data : List Byte)
  /-- LANE_ACTIVATE (R161). -/
  | cLaneActivate (p : PackId) (a : ArmId) (h : HeadId)
  /-- LANE_GATING_DELAY_EXPIRY (R161). -/
  | cLaneGatingDelayExpiry (p : PackId) (a : ArmId) (h : HeadId)
  /-- SECTOR_DELIVERY (R148). -/
  | cSectorDelivery (p : PackId) (a : ArmId) (h : HeadId)
  /-- FIRST_DECODE_DONE (R172). -/
  | cFirstDecodeDone (p : PackId) (a : ArmId) (h : HeadId) (result : Attempt) (snr : Int)
  /-- STORED_RECOVERY_DONE (R177). -/
  | cStoredRecoveryDone (p : PackId) (a : ArmId) (h : HeadId) (found : Recovered)
  /-- LADDER_READ_DONE (R178). -/
  | cLadderReadDone (p : PackId) (a : ArmId) (h : HeadId) (addr : Nat) (v : LadderRead)
  /-- NOP (R196). -/
  | cNop (e : Eng)
  /-- ADD (R196). -/
  | cAdd (e : Eng)
  /-- SUB (R196). -/
  | cSub (e : Eng)
  /-- AND (R196). -/
  | cAnd (e : Eng)
  /-- OR (R196). -/
  | cOr (e : Eng)
  /-- XOR (R196). -/
  | cXor (e : Eng)
  /-- SHL (R196). -/
  | cShl (e : Eng)
  /-- SHR (R196). -/
  | cShr (e : Eng)
  /-- CMP (R196). -/
  | cCmp (e : Eng)
  /-- MOVI (R196). -/
  | cMovi (e : Eng)
  /-- MIN (R196). -/
  | cMin (e : Eng)
  /-- MAX (R196). -/
  | cMax (e : Eng)
  /-- ADDA (R196). -/
  | cAdda (e : Eng)
  /-- ACMP (R196). -/
  | cAcmp (e : Eng)
  /-- LD (R196). -/
  | cLd (e : Eng)
  /-- ST (R196). -/
  | cSt (e : Eng)
  /-- LDL (R196). -/
  | cLdl (e : Eng)
  /-- STL (R196). -/
  | cStl (e : Eng)
  /-- JMP (R196). -/
  | cJmp (e : Eng)
  /-- CALL (R196). -/
  | cCall (e : Eng)
  /-- RET (R196). -/
  | cRet (e : Eng)
  /-- JMPR (R196). -/
  | cJmpr (e : Eng)
  /-- END (R209). -/
  | cEnd (e : Eng)
  /-- DISP (R214). -/
  | cDisp (e : Eng)
  /-- WAITA (R204). -/
  | cWaita (e : Eng)
  /-- WAITR (R204). -/
  | cWaitr (e : Eng)
  /-- WAITE (R196). -/
  | cWaite (e : Eng)
  /-- WAITE_CONDITION_MET (R197). -/
  | cWaiteConditionMet (e : Eng)
  /-- WAITE_TIMEOUT (R196). -/
  | cWaiteTimeout (e : Eng)
  /-- MEMORY_LOAD_COMPLETE (R212). -/
  | cMemoryLoadComplete (q : SeqId) (c : CtxId) (x : List DramRead) (e : SramErr)
  /-- SUSPEND (R218). -/
  | cSuspend (e : Eng)
  /-- CONTEXT_BLOCK_AVAILABLE (R218). -/
  | cContextBlockAvailable (q : SeqId) (c : CtxId)
  /-- CONTEXT_RESUME (R218). -/
  | cContextResume (ring slot : Nat)
  /-- COMMIT (R217). -/
  | cCommit (e : Eng)
  /-- ABTSET (R217). -/
  | cAbtset (e : Eng)
  /-- SEEK (R242). -/
  | cSeek (e : Eng) (same : Bool)
  /-- XFER (R202). -/
  | cXfer (e : Eng)
  /-- LADDER (R196). -/
  | cLadder (e : Eng)
  /-- LINK (R203). -/
  | cLink (e : Eng)
  /-- NOW (R196). -/
  | cNow (e : Eng)
  /-- GRP (R196). -/
  | cGrp (e : Eng)
  /-- ENG (R219). -/
  | cEng (e : Eng)
  /-- TOKEN_COMPLETE (R219). -/
  | cTokenComplete (id : Nat) (error : Bool) (x : SpanId) (reads : List LeafRead)
  /-- FORMATTER_REQUEST (R201). -/
  | cFormatterRequest (p : PackId) (a : ArmId) (req : List Byte)
  /-- ROUTINE_RESTART (R207). -/
  | cRoutineRestart (p : PackId) (a : ArmId)
  /-- FORMATTER_CANCEL (R206). -/
  | cFormatterCancel (p : PackId) (a : ArmId)
  /-- SAFE_POINT_OVERRUN (R215). -/
  | cSafePointOverrun (q : SeqId) (c : CtxId)
  /-- CONTROL_STORE_SCRUB (R222). -/
  | cControlStoreScrub (e : Eng) (word : Nat)
  /-- LOCKED_STORE_WRITE (R223). -/
  | cLockedStoreWrite (e : Eng) (word : Nat) (value : Microword)
  /-- CHAIN_START (R378). -/
  | cChainStart
  /-- SERVO_DEMOD_RESULT (R234). -/
  | cServoDemodResult (p : PackId) (a : ArmId) (h : HeadId) (d : Demod) (same : Bool)
  /-- HEAD_LOST (R255). -/
  | cHeadLost (p : PackId) (a : ArmId) (h : HeadId) (same : Bool)
  /-- HEAD_RETURN (R256). -/
  | cHeadReturn (p : PackId) (a : ArmId) (h : HeadId)
  /-- BACK_EMF_VELOCITY_LOOP (R258). -/
  | cBackEmfVelocityLoop (p : PackId) (a : ArmId) (same : Bool)
  /-- SERVO_STATE_CRC_COMPARE (R229). -/
  | cServoStateCrcCompare (p : PackId) (a : ArmId) (crc1 : Nat)
  /-- LOAD_TIME_END (R250). -/
  | cLoadTimeEnd (p : PackId) (a : ArmId)
  /-- SEARCH_TIMEOUT (R250). -/
  | cSearchTimeout (p : PackId) (a : ArmId) (same : Bool)
  /-- SETTLE_TIMEOUT (R252). -/
  | cSettleTimeout (p : PackId) (a : ArmId) (same : Bool)
  /-- ARM_PARK (R259). -/
  | cArmPark (p : PackId) (a : ArmId) (same : Bool)
  /-- PARK_TIMEOUT (R260). -/
  | cParkTimeout (p : PackId) (a : ArmId) (same : Bool)
  /-- UNLOAD_TIME_END (R259). -/
  | cUnloadTimeEnd (p : PackId) (a : ArmId)
  /-- GALE_RETRACT (R263). -/
  | cGaleRetract (p : PackId) (a : ArmId) (out miscompare : Bool)
  /-- GALE_TIME_END (R250). -/
  | cGaleTimeEnd (p : PackId) (a : ArmId)
  /-- VCM_CURRENT_LOOP (R247). -/
  | cVcmCurrentLoop (p : PackId) (a : ArmId) (current : Int)
  /-- VCM_SETPOINT_WATCHDOG (R247). -/
  | cVcmSetpointWatchdog (p : PackId) (a : ArmId)
  /-- TILE_PLL_UNLOCK (R264). -/
  | cTilePllUnlock (t : TileId)
  /-- POWER_STAGE_FAULT (R272). -/
  | cPowerStageFault (p : PackId)
  /-- SPINDLE_CURRENT_LOOP (R278). -/
  | cSpindleCurrentLoop (p : PackId) (shunt : Option ShuntPair) (observer angle : Nat) (moved : Int × Int × Int)
  /-- SPINDLE_SPEED_LOOP (R279). -/
  | cSpindleSpeedLoop (p : PackId) (observer : Nat) (backward : Bool)
  /-- SPEED_IN_WINDOW (R280). -/
  | cSpeedInWindow (p : PackId)
  /-- SPINDLE_OVERSPEED (R280). -/
  | cSpindleOverspeed (p : PackId)
  /-- SPINDLE_SPEED_DEVIATION (R280). -/
  | cSpindleSpeedDeviation (p : PackId)
  /-- WATCH_END (R283). -/
  | cWatchEnd (p : PackId) (speed : Nat) (backward : Bool) (amplitude angle : Nat)
  /-- ALIGN_END (R284). -/
  | cAlignEnd (p : PackId)
  /-- FORCED_HANDOVER (R284). -/
  | cForcedHandover (p : PackId)
  /-- START_ATTEMPT_FAILED (R284). -/
  | cStartAttemptFailed (p : PackId)
  /-- CONTROLLED_STOP_BEGIN (R287). -/
  | cControlledStopBegin (p : PackId)
  /-- MOTOR_BUS_SAMPLE (R291). -/
  | cMotorBusSample (x : BusId) (code : Nat) (feedback : Bool)
  /-- CHOPPER_FEEDBACK_TIMEOUT (R292). -/
  | cChopperFeedbackTimeout (x : BusId)
  /-- CHOPPER_FAULT (R293). -/
  | cChopperFault (x : BusId)
  /-- BUS_FREEWHEEL (R293). -/
  | cBusFreewheel (x : BusId)
  /-- BUS_FREEWHEEL_RELEASE (R282). -/
  | cBusFreewheelRelease (x : BusId)
  /-- BUS_UNDERVOLTAGE (R294). -/
  | cBusUndervoltage (x : BusId)
  /-- BUS_UNDERVOLTAGE_END (R294). -/
  | cBusUndervoltageEnd (x : BusId)
  /-- PUT (R321). -/
  | cPut (q : SeqId) (c : CtxId) (data : List Byte)
  /-- GET (R321). -/
  | cGet (q : SeqId) (c : CtxId)
  /-- PATCH (R322). -/
  | cPatch (q : SeqId) (c : CtxId) (data : List Byte)
  /-- DELETE (R321). -/
  | cDelete (q : SeqId) (c : CtxId)
  /-- LIST (R330). -/
  | cList (q : SeqId) (c : CtxId)
  /-- NOP_COMMAND (R368). -/
  | cNopCommand (q : SeqId) (c : CtxId)
  /-- KEY_LOCK_GRANT (R325). -/
  | cKeyLockGrant (hash : Nat)
  /-- PETIT_FOUR_DURABLE_SEAL (R320). -/
  | cPetitFourDurableSeal (x : SpanId)
  /-- PETIT_FOUR_LAZY_SEAL (R320). -/
  | cPetitFourLazySeal (x : SpanId)
  /-- STRIPE_PLACEMENT_RETRY (R320). -/
  | cStripePlacementRetry (x : SpanId) (addr : Nat)
  /-- LEAF_WRITE_DONE (R335). -/
  | cLeafWriteDone (p : PackId) (a : ArmId) (tag : Nat)
  /-- JOURNAL_SECTOR_COMMIT (R332). -/
  | cJournalSectorCommit (untorn : Bool)
  /-- JOURNAL_LAG_EXPIRY (R333). -/
  | cJournalLagExpiry
  /-- CHECKPOINT_SEGMENT_WRITE (R334). -/
  | cCheckpointSegmentWrite
  /-- JOURNAL_PACK_REPLACE (R331). -/
  | cJournalPackReplace (p : PackId)
  /-- BACKGROUND_WINDOW (R339). -/
  | cBackgroundWindow (p : PackId) (a : ArmId)
  /-- REBUILD_DELAY_EXPIRY (R340). -/
  | cRebuildDelayExpiry (p : PackId)
  /-- REBUILD_STRIPE (R340). -/
  | cRebuildStripe (x : SpanId) (addr : Nat)
  /-- DRAIN_LEAF (R341). -/
  | cDrainLeaf (x : SpanId) (addr leaf : Nat)
  /-- COMPACTION_BAND (R342). -/
  | cCompactionBand (p : PackId) (b : Nat) (merge : Option Nat)
  /-- SCRUB_LEAF (R343). -/
  | cScrubLeaf (x : SpanId) (addr leaf : Nat)
  /-- SELF_TEST_SHORT (R344). -/
  | cSelfTestShort
  /-- SELF_TEST_EXTENDED (R344). -/
  | cSelfTestExtended
  /-- SELF_TEST_STOP (R344). -/
  | cSelfTestStop
  /-- SELF_TEST_SHARE_END (R344). -/
  | cSelfTestShareEnd (p : PackId)
  /-- STORE_INITIALISE (R312). -/
  | cStoreInitialise
  /-- SPAN_ADD_PACK (R347). -/
  | cSpanAddPack (x : SpanId)
  /-- SPAN_START_REBUILD (R347). -/
  | cSpanStartRebuild (x : SpanId)
  /-- SPAN_DRAIN_PACK (R347). -/
  | cSpanDrainPack (x : SpanId)
  /-- CM_REQ (R356). -/
  | cCmReq (r : CmReq)
  /-- CM_RTU (R355). -/
  | cCmRtu (conn : Nat)
  /-- CM_DREQ (R385). -/
  | cCmDreq (conn : Nat)
  /-- CM_DREP (R353). -/
  | cCmDrep (_conn : Nat)
  /-- INVALID_REQUEST (R349). -/
  | cInvalidRequest (conn : Nat)
  /-- DOORBELL (R361). -/
  | cDoorbell (conn key offset : Nat) (data : List Byte)
  /-- CHAIN_FRAME (R371). -/
  | cChainFrame (ring : Nat)
  /-- DESCRIPTOR_READ_RESPONSE (R362). -/
  | cDescriptorReadResponse (ring : Nat) (data : List Byte)
  /-- HEAD_PUBLISH (R376). -/
  | cHeadPublish (ring : Nat)
  /-- RNR_NAK (R377). -/
  | cRnrNak (ring : Nat)
  /-- ACK_TIMEOUT (R393). -/
  | cAckTimeout (conn made : Nat)
  /-- CE_MARKED_PACKET (R350). -/
  | cCeMarkedPacket (conn : Nat)
  /-- CNP_RECEIVED (R350). -/
  | cCnpReceived (conn : Nat)
  /-- DCQCN_RATE_INCREASE_TIMER (R350). -/
  | cDcqcnRateIncreaseTimer (conn : Nat)
  /-- DCQCN_BYTE_COUNTER (R350). -/
  | cDcqcnByteCounter (conn : Nat)
  /-- PFC_FRAME (R351). -/
  | cPfcFrame (q : PortId) (sub : SubPortId) (prio : Fin 8) (pause : Bool)
  /-- PAUSE_FRAME (R348). -/
  | cPauseFrame
  /-- PORT_LINK_TRAINING (R352). -/
  | cPortLinkTraining (q : PortId) (up : Nat)
  /-- CREATE_RING (R367). -/
  | cCreateRing (q : SeqId) (c : CtxId)
  /-- DELETE_RING (R384). -/
  | cDeleteRing (q : SeqId) (c : CtxId)
  /-- DELETE_RING_DONE (R384). -/
  | cDeleteRingDone (ring : Nat)
  /-- ABORT (R381). -/
  | cAbort (q : SeqId) (c : CtxId)
  /-- DICT_READ (R464). -/
  | cDictRead (q : SeqId) (c : CtxId)
  /-- DICT_WRITE (R464). -/
  | cDictWrite (q : SeqId) (c : CtxId) (data : List Byte)
  /-- BUFFER_READ (R399). -/
  | cBufferRead (r : Requester) (own : Bool) (addr len : Nat) (x : List DramRead) (e : SramErr)
  /-- BUFFER_WRITE (R414). -/
  | cBufferWrite (r : Requester) (own : Bool) (addr : Nat) (data : List Byte) (x : List DramRead) (e : SramErr)
  /-- CORE_NARROW_WRITE (R408). -/
  | cCoreNarrowWrite (c : ClusterId) (own : Bool) (addr : Nat) (data : List Byte) (x : List DramRead) (e : SramErr)
  /-- BUFFER_FILL_DONE (R402). -/
  | cBufferFillDone
  /-- CHANNEL_REINIT (R403). -/
  | cChannelReinit (c : ChanId)
  /-- CHANNEL_REINIT_DONE (R403). -/
  | cChannelReinitDone (c : ChanId)
  /-- BUFFER_SCRUB (R410). -/
  | cBufferScrub (g : Nat) (x : DramRead)
  /-- RANGE_CLEAN (R419). -/
  | cRangeClean (own : Option RangeArgs)
  /-- RANGE_INVALIDATE (R419). -/
  | cRangeInvalidate (own : Option RangeArgs)
  /-- RANGE_CLEAN_INVALIDATE (R419). -/
  | cRangeCleanInvalidate (own : Option RangeArgs)
  /-- RANGE_FILL (R419). -/
  | cRangeFill (own : Option RangeArgs)
  /-- RANGE_OP_DONE (R421). -/
  | cRangeOpDone
  /-- CACHE_DISABLE (R423). -/
  | cCacheDisable
  /-- CACHE_ENABLE (R424). -/
  | cCacheEnable
  /-- DIAGNOSTIC_MODE_SET (R406). -/
  | cDiagnosticModeSet (v : Nat)
  /-- MOVER_DESCRIPTOR_SUBMIT (R428). -/
  | cMoverDescriptorSubmit (desc : List Byte)
  /-- MOVER_DESCRIPTOR_START (R441). -/
  | cMoverDescriptorStart (c : MoverId) (x : List DramRead) (host : List Byte)
  /-- MOVER_RATE_WINDOW (R440). -/
  | cMoverRateWindow (c : MoverId) (host : List Byte)
  /-- MOVER_DESCRIPTOR_COMPLETE (R443). -/
  | cMoverDescriptorComplete (c : MoverId)
  /-- USDO_EXPEDITED_DOWNLOAD (R459). -/
  | cUsdoExpeditedDownload (client idx sub : Nat) (data : List Byte)
  /-- USDO_EXPEDITED_UPLOAD (R459). -/
  | cUsdoExpeditedUpload (client idx sub : Nat)
  /-- USDO_SEGMENTED_DOWNLOAD_INIT (R459). -/
  | cUsdoSegmentedDownloadInit (client idx sub : Nat)
  /-- USDO_DOWNLOAD_SEGMENT (R459). -/
  | cUsdoDownloadSegment (client : Nat) (data : List Byte) (last : Bool)
  /-- USDO_SEGMENTED_UPLOAD_INIT (R459). -/
  | cUsdoSegmentedUploadInit (client idx sub : Nat)
  /-- USDO_UPLOAD_SEGMENT (R459). -/
  | cUsdoUploadSegment (client size : Nat)
  /-- USDO_ABORT (R459). -/
  | cUsdoAbort (client : Nat)
  /-- USDO_SEGMENT_TIMEOUT (R459). -/
  | cUsdoSegmentTimeout (client : Nat)
  /-- DICTIONARY_WRITE (R448). -/
  | cDictionaryWrite (who idx sub : Nat) (data : List Byte)
  /-- LOCK_TAKE (R468). -/
  | cLockTake (who : Nat)
  /-- LOCK_FREE (R468). -/
  | cLockFree (who : Nat)
  /-- LOCK_LEASE_EXPIRY (R469). -/
  | cLockLeaseExpiry
  /-- STORE_PARAMETERS (R474). -/
  | cStoreParameters (flashOk : Bool)
  /-- RESTORE_DEFAULT_PARAMETERS (R475). -/
  | cRestoreDefaultParameters
  /-- ERROR_HISTORY_CLEAR (R463). -/
  | cErrorHistoryClear
  /-- OVERLAY_APPLY (R477). -/
  | cOverlayApply (who mask : Nat)
  /-- OVERLAY_QUIET_POINT (R477). -/
  | cOverlayQuietPoint
  /-- OVERLAY_QUIET_TIMEOUT (R477). -/
  | cOverlayQuietTimeout
  /-- RAW_READ_QUICK (R481). -/
  | cRawReadQuick
  /-- RAW_READ_FULL (R481). -/
  | cRawReadFull
  /-- RAW_SECTOR_WRITE (R481). -/
  | cRawSectorWrite
  /-- NMT_START_REMOTE_NODE (R460). -/
  | cNmtStartRemoteNode
  /-- NMT_ENTER_PRE_OPERATIONAL (R460). -/
  | cNmtEnterPreOperational
  /-- NMT_STOP_REMOTE_NODE (R460). -/
  | cNmtStopRemoteNode
  /-- NMT_RESET_COMMUNICATION (R460). -/
  | cNmtResetCommunication
  /-- NMT_RESET_NODE (R460). -/
  | cNmtResetNode
  /-- HEARTBEAT (R460). -/
  | cHeartbeat
  /-- EMCY_TRANSMIT (R461). -/
  | cEmcyTransmit
  /-- CAN_BUS_OFF (R489). -/
  | cCanBusOff
  /-- FAULT_OCCURRENCE (R491). -/
  | cFaultOccurrence (source : Nat)
  /-- CHIP_RESET_REACTION (R494). -/
  | cChipResetReaction
  /-- CLEAR_STICKY (R492). -/
  | cClearSticky (source : Nat)
  /-- READMIT_CLUSTER (R509). -/
  | cReadmitCluster (c : ClusterId)
  /-- INPUT_FILTERED_CHANGE (R498). -/
  | cInputFilteredChange (pin : InputPin) (level : Bool)
  /-- RATE_WINDOW_END (R498). -/
  | cRateWindowEnd (pin : InputPin)
  /-- STUCK_TIMEOUT (R499). -/
  | cStuckTimeout (pin : InputPin)
  /-- STUCK_MASK_LIFT (R499). -/
  | cStuckMaskLift (pin : InputPin)
  /-- EPO_N_ASSERT (R500). -/
  | cEpoNAssert
  /-- ARBITER_CHECK (R506). -/
  | cArbiterCheck (v : ArbiterView)
  /-- FAILOVER_HUB_RELEASE (R507). -/
  | cFailoverHubRelease
  /-- CLUSTER_SELF_TEST_DONE (R502). -/
  | cClusterSelfTestDone (c : ClusterId) (pass : Bool)
  /-- CLUSTER_SYNC_DONE (R509). -/
  | cClusterSyncDone (c : ClusterId)
  /-- MIRROR_ACK (R504). -/
  | cMirrorAck (n : Nat)
  /-- ROLE_SWAP (R510). -/
  | cRoleSwap (pass : Bool)
  /-- ROLE_SWAP_NOW (R510). -/
  | cRoleSwapNow (pass : Bool)
  /-- ARBITER_LOCKSTEP_MISMATCH (R511). -/
  | cArbiterLockstepMismatch
  /-- ARBITER_WATCHDOG_EXPIRY (R511). -/
  | cArbiterWatchdogExpiry
  /-- INJECTION_TOKEN_WRITE (R512). -/
  | cInjectionTokenWrite (token : List Byte)
  /-- INJECTION_ARM (R513). -/
  | cInjectionArm (arm : Bool)
  /-- INJECTION_PERIODIC (R513). -/
  | cInjectionPeriodic
  /-- TAP_UNLOCK_TOKEN (R548). -/
  | cTapUnlockToken (token : List Byte)
  /-- VDD_AON_APPLY (R580). -/
  | cVddAonApply (flash : Option BootFlash) (resetN crystal : Bool)
  /-- VDD_AON_REMOVED (R525). -/
  | cVddAonRemoved
  /-- RESET_N_ASSERT (R518). -/
  | cResetNAssert
  /-- BOOT_START (R527). -/
  | cBootStart (factory : Bool) (nodeId : Nat) (fusesOk : Bool)
  /-- RAIL_PG_ACCEPT (R518). -/
  | cRailPgAccept (r : RailId)
  /-- RAIL_EN_DELAY (R518). -/
  | cRailEnDelay (r : RailId)
  /-- RAIL_PG_TIMEOUT (R518). -/
  | cRailPgTimeout (r : RailId)
  /-- START_RETRY (R528). -/
  | cStartRetry
  /-- BOOT_END (R527). -/
  | cBootEnd (r : BootResult)
  /-- LOSS_OF_SUPPLY (R520). -/
  | cLossOfSupply (r : RailId)
  /-- LOSS_OF_SUPPLY_RAIL_OFF (R520). -/
  | cLossOfSupplyRailOff
  /-- PMBUS_POLL (R521). -/
  | cPmbusPoll (samples : List RailSample)
  /-- DOMAIN_SWITCH_ON (R523). -/
  | cDomainSwitchOn (d : DomainId)
  /-- ENGINE_SLICE_IDLE (R522). -/
  | cEngineSliceIdle (d : DomainId)
  /-- STATE_CMD_OPEN (R526). -/
  | cStateCmdOpen
  /-- STATE_CMD_QUIESCE (R526). -/
  | cStateCmdQuiesce
  /-- STATE_CMD_LEE (R526). -/
  | cStateCmdLee
  /-- STATE_CMD_START (R526). -/
  | cStateCmdStart
  /-- STATE_CMD_POWER_DOWN (R526). -/
  | cStateCmdPowerDown
  /-- STATE_CMD_ZEPHYR (R526). -/
  | cStateCmdZephyr
  /-- STATE_CMD_ASSEMBLE (R526). -/
  | cStateCmdAssemble
  /-- SELFTEST_DONE (R538). -/
  | cSelftestDone (r : SelfTestResult)
  /-- ORDERLY_CLOSE_STEP_DONE (R540). -/
  | cOrderlyCloseStepDone
  /-- SHUTDOWN_TIMEOUT (R540). -/
  | cShutdownTimeout
  /-- LEE_ENTRY_ARMS_UNLOADED (R525). -/
  | cLeeEntryArmsUnloaded
  /-- REDUCED_FORM_RAIL_OFF (R539). -/
  | cReducedFormRailOff
  /-- ZEPHYR_DELAY_EXPIRY (R525). -/
  | cZephyrDelayExpiry
  /-- ZEPHYR_ENTRY_DONE (R543). -/
  | cZephyrEntryDone (energy : Nat)
  /-- ZEPHYR_TICK (R544). -/
  | cZephyrTick (x : TickSample)
  /-- WAKE_EVENT (R545). -/
  | cWakeEvent (bit : Fin 8) (chatter : Nat)
  /-- SECURITY_VERSION_COMMIT (R536). -/
  | cSecurityVersionCommit (version : Nat)
  /-- FLASH_DATA_WRITE (R537). -/
  | cFlashDataWrite (data : List Byte)
  /-- FLASH_ERASE (R537). -/
  | cFlashErase
  /-- FLASH_VERIFY (R537). -/
  | cFlashVerify
  /-- BOOT_SELECTOR_WRITE (R531). -/
  | cBootSelectorWrite (image : Nat)
  /-- KEY_INDEX_REVOKE (R551). -/
  | cKeyIndexRevoke (index : Nat)
  /-- ESCROW_KEY_WRITE (R547). -/
  | cEscrowKeyWrite (key : List Byte)
  /-- STORE_KEY_IMPORT (R547). -/
  | cStoreKeyImport (block : List Byte)
  /-- COUNTER_SAVE (R549). -/
  | cCounterSave (flashOk : Bool)
  /-- STAGING_FLUSH (R556). -/
  | cStagingFlush (flashOk : Bool)
  /-- STAGING_HOLD_EXPIRY (R556). -/
  | cStagingHoldExpiry (flashOk : Bool)
  /-- EVENT_MARK (R561). -/
  | cEventMark (who : Nat) (data : List Byte)
  /-- EVENT_READ_WINDOW (R559). -/
  | cEventReadWindow (client : Nat)
  /-- NAK_RECEIVED (R385). -/
  | cNakReceived (conn : Nat)
  /-- REFERENCE_MEASUREMENT_END (R528). -/
  | cReferenceMeasurementEnd (ok100 ok156 : Bool)
  /-- PLL_LOCK_TIMEOUT (R529). -/
  | cPllLockTimeout
  /-- CHIP_RESET_PARK_WAIT_END (R494). -/
  | cChipResetParkWaitEnd
  /-- FLASH_OPERATION_DONE (R537). -/
  | cFlashOperationDone (ok : Bool) (content : FlashContent)
  /-- PORT_LINK_DOWN (R391). -/
  | cPortLinkDown (q : PortId) (sub : SubPortId)
  /-- GDDR7_REFRESH (R395). -/
  | cGddr7Refresh (c : ChanId) (hot fastest : Bool)
  /-- OPERATING_SECONDS_TICK (R549). -/
  | cOperatingSecondsTick
  deriving DecidableEq, Repr

end Sys2Proof
end

