-- ==== Sys2Proof/Config.lean ====
section
/-! DEFINITION. The values the manual leaves open, as constants without a body (free values), and the
signatures and secrets the manual names. Nothing can be proved of their values. -/

namespace Sys2Proof.Config

/-- The `n`-th free value of the run: a value that the manual does not state. A step that needs one applies it
to the counter `State.free` and advances the counter (assumption 2). -/
opaque freeValue : Nat → Nat

/-- The nominal voltage of a motor bus in mV, which R247 names without a value. -/
opaque nominalBus : Nat

/-- The set-point of a back-EMF velocity loop for a free value of its run, the wanted and the estimated velocity: R258 states no gains. -/
opaque velocityLoop : Nat → Int → Int → Int

/-- The current of the d and of the q axis and the RMS phase current, from the currents of phases U, V, W and the electrical angle in 2^-28 of a
revolution; the phase voltages from the voltage vector, the feedforward and the angle: R278 and R285 name the transformations only. -/
opaque dCurrent : Int → Int → Int → Nat → Int
opaque qCurrent : Int → Int → Int → Nat → Int
opaque rmsCurrent : Int → Int → Int → Nat
opaque phaseVolts : Int → Int → Nat → Nat → Int × Int × Int

/-- The RMS phase current in Q1.15 of full scale from the sum that short braking samples: R298 states no form. -/
opaque brakeCurrent : Int → Nat

/-- The amplitude of the back-EMF vector in mV confirms a speed and direction against the back-EMF constant: R283 states no tolerance. -/
opaque emfConfirms : Nat → Bool → Nat → Nat → Bool

/-- The equalised sample, in units of its 8 bits, that a level of 1 in the partial-response target stands for: R141 states no scale. -/
opaque targetLevel : Int

/-- The error of the speed loop in Q1.15 from the reference in rpm * 2^10 and the speed in rpm: R279 states no full scale. -/
opaque speedError : Nat → Nat → Int

/-- The device's fused configuration key (R471), which never leaves it. -/
opaque configKey : List Byte

/-- The ECDSA P-384 signature of a pack verifies (R70, R71): the pack-signing key's entry in the key list, the digest, r then s as bytes. -/
opaque packSigned : Nat → Nat → List Byte → Bool

/-- The signature of a token (R512, R548) verifies: revision of the running image, key index, the token's bytes. -/
opaque tokenSigned : Nat → Nat → List Byte → Bool

/-- What the wrapped data of an import block unwrap to under the device key (R547), where they unwrap. -/
opaque unwrapImport : List Byte → Option (List Byte)

/-- How the software version string writes the revision of the firmware image (R463 gives it no form). -/
opaque revisionText : Nat → List Byte

end Sys2Proof.Config
end

