-- ==== Sys2Proof/Machine/State.lean ====
section
/-! DEFINITION. The state of the block as plain data: every register, buffer, counter, mode and input level the
manual gives it, and the queue of waiting commands. Each field's default value is its value at reset; the rules
that name it stand beside it. -/

namespace Sys2Proof.Machine

/-! ### Event recorder (17) -/

/-- A 64-byte event record, field by field (R552); `detail` is the 24 detail bytes as a little-endian number. -/
structure EvRec where
  seq : Nat := 0
  opSec : Nat := 0
  power : Nat := 0
  subsec : Nat := 0
  type : Nat := 0
  flags : Nat := 0
  source : Nat := 0xFFFF
  code : Nat := 0
  repeats : Nat := 0
  pack : Nat := 0xFF
  lane : Nat := 0
  subject : Nat := 0xFFFF
  devState : Nat := 0
  active : Nat := 255
  serial : Nat := 0
  detail : Nat := 0
  deriving DecidableEq, Repr

/-- One written place of a record ring in flash: the place, whether the record's CRC checks, the record (R558). -/
structure EvSlot where
  place : Nat
  valid : Bool
  body : EvRec
  deriving DecidableEq, Repr

/-- A ring of 4 KiB sectors of 64 records: what it holds, oldest first, and the next place (R557). -/
structure EvRing where
  slots : List EvSlot := []
  next : Nat := 0
  deriving DecidableEq, Repr

/-- A record waiting for flash: in buffer memory region 1 or in island SRAM (R556). -/
structure Staged where
  inRegion : Bool
  body : EvRec
  deriving DecidableEq, Repr

/-- What the dictionary server keeps for one reading identity (R559). -/
structure Reader where
  who : Nat
  cursor : Option Nat := none
  filter : Nat := 0xFF00
  returned : Nat := 0
  deriving DecidableEq, Repr

/-- The event recorder (R554 to R561). -/
structure Recorder where
  /-- The sequence the next record gets (R554). -/
  nextSeq : Nat := 0
  /-- Records not yet in flash, in sequence order (R556). -/
  staging : List Staged := []
  /-- The island's copy of the 64 newest records, oldest first (R556). -/
  newest : List EvRec := []
  /-- Readers, most recently used first (R559). -/
  readers : List Reader := []
  formed : Nat := 0
  merged : Nat := 0
  lost : Nat := 0
  /-- Records lost since the last type 0x70 code 2 record (R556). -/
  lostUnreported : Nat := 0
  /-- Fatal records overwritten; kept in the counter block (R561). -/
  fatalOverwritten : Nat := 0
  ordinaryOverwritten : Nat := 0
  invalidSkipped : Nat := 0
  writeFailures : Nat := 0
  deriving DecidableEq, Repr

/-! ### Faults (15) -/

/-- One of the 416 fault sources (R491, R493, R555). -/
structure FaultSource where
  sticky : Bool := false
  inState : Bool := false
  count : Nat := 0
  /-- Occurrences held back since the source's last record (R555). -/
  heldBack : Nat := 0
  /-- When the source's last record was formed (R555). -/
  formedAt : Option Nat := none
  deriving DecidableEq, Repr

/-- The fault block of the always-on island (R490, R514). -/
structure FaultBlock where
  sources : Vector FaultSource 416 := Vector.replicate 416 {}
  firstSticky : Nat := 0xFFFF
  lastSticky : Nat := 0xFFFF
  lastStickySec : Nat := 0
  /-- When the first and the last source set their sticky bits: of several in one cycle the lowest index is shown (R491). -/
  firstAt : Nat := 0
  lastAt : Nat := 0
  firstError : Nat := 0xFFFF
  firstFatal : Nat := 0xFFFF
  /-- The island has loaded the fault reactions in Boot (R495). -/
  reactionsLoaded : Bool := false
  /-- FATAL_N held by an arbiter failure or a device stop until chip reset (R495). -/
  fatalLatch : Bool := false
  /-- A reaction 3 waits to be carried out: its source (R494). -/
  resetRequest : Option Nat := none
  /-- The parks of reaction 3 have started (R494). -/
  resetParking : Bool := false
  deriving DecidableEq, Repr

/-- A conditioned discrete input (R497 to R499). -/
structure InputSt where
  conditioned : Bool := false
  filtered : Bool := false
  /-- A rate window is running (R498). -/
  window : Bool := false
  chatter : Nat := 0
  /-- A stuck event has been reported while the input stays active (R499). -/
  stuck : Bool := false
  masked : Bool := false
  /-- When the window that runs ends, when the filtered level last changed, and since when the conditioned level stands (R498, R499). -/
  windowEnd : Nat := 0
  changedAt : Nat := 0
  activeAt : Nat := 0
  /-- The stuck timeout in force, in ms: that of the last filtered change (R515). -/
  stuckMs : Nat := 0
  deriving DecidableEq, Repr

/-- The discrete inputs by class (R496). -/
structure Inputs where
  wake : Vector InputSt 4 := Vector.replicate 4 {}
  epo : InputSt := {}
  psf : Vector InputSt 32 := Vector.replicate 32 {}
  pres : Vector InputSt 32 := Vector.replicate 32 {}
  pg : Vector InputSt 8 := Vector.replicate 8 {}
  /-- Chatter edges and stuck events of the five classes, 0x7083 and 0x7084 (R515). -/
  chatterEdges : Vector Nat 5 := Vector.replicate 5 0
  stuckEvents : Vector Nat 5 := Vector.replicate 5 0
  /-- The latched action of the first filtered EPO_N assertion is under way (R500). -/
  epoActing : Bool := false
  deriving DecidableEq, Repr

/-- The roles of a cluster (R502). -/
inductive Role where
  | off | active | standby | synchronising | selfTest | out
  deriving DecidableEq, Repr

/-- One control cluster (R502 to R510). -/
structure Cluster where
  role : Role := .off
  /-- Consecutive checks with the heartbeat missed (R506). -/
  missRun : Nat := 0
  missed : Nat := 0
  traps : Nat := 0
  /-- Times of the traps delivered to it, newest first (R506). -/
  trapTimes : List Nat := []
  /-- Times of the fail-overs away from it (R509). -/
  failTimes : List Nat := []
  deriving DecidableEq, Repr

/-- An interrupt or a non-maskable trap carrying a source (R494). -/
structure Irq where
  trap : Bool
  source : Nat
  deriving DecidableEq, Repr

/-- A fail-over or role swap in progress (R507, R510). -/
structure FailOver where
  /-- Cause as in 0x8010.07. -/
  cause : Nat
  old : ClusterId
  new : ClusterId
  swap : Bool
  startedAt : Nat
  /-- Interrupts and traps held for the new active cluster (R494). -/
  held : List Irq
  deriving DecidableEq, Repr

/-- A numbered record of the mirror channel (R503): the intent of a command in flight, an index delta not yet committed to the store journal, a
span's or a pack's state, a ring's positions P, C and H. -/
inductive MirrorRec where
  | intent (ring slot : Nat)
  | delta (hash gen : Nat)
  | span (n state : Nat)
  | pack (n state : Nat)
  | ring (n prod cons head : Nat)
  deriving DecidableEq, Repr

/-- The cluster pair and its mirror channel (R502 to R510, R514). -/
structure Clusters where
  unit : Vector Cluster 2 := Vector.replicate 2 {}
  active : Option ClusterId := none
  /-- The boot image names this cluster to become Active (R502). -/
  bootCluster : ClusterId := 0
  failOver : Option FailOver := none
  failOvers : Nat := 0
  roleSwaps : Nat := 0
  lastCause : Nat := 0
  lastDuration : Nat := 0
  lastSwapOpSec : Nat := 0
  /-- A role swap waits for its postponement (R510). -/
  swapPostponed : Bool := false
  mirrorSent : Nat := 0
  mirrorApplied : Nat := 0
  /-- The mirror records not yet acknowledged, oldest first; the last is number `mirrorSent` (R503, R504). -/
  mirrorLog : List MirrorRec := []
  mirrorGap : Bool := false
  /-- Consecutive checks with the lag limit exceeded (R506). -/
  lagRun : Nat := 0
  /-- Lag beyond the limit at some check of the last 1 ms: time of the last one (R505). -/
  lagAt : Option Nat := none
  peakLag : Nat := 0
  noStandbyCompletions : Nat := 0
  trapStorms : Nat := 0
  deriving DecidableEq, Repr

/-- The arbiter (R506, R511). -/
structure Arbiter where
  failed : Bool := false
  cause : Nat := 0
  decisions : Nat := 0
  /-- The arbiter took the device stop of source 7 (R506). -/
  stopped : Bool := false
  deriving DecidableEq, Repr

/-- Fault injection (R512, R513, R516). -/
structure Injection where
  /-- Which free value is the current nonce 0xF100.01 (R512). -/
  nonce : Nat := 0
  tokenState : Nat := 0
  permissions : Nat := 0
  validUntil : Nat := 0
  deriving DecidableEq, Repr

/-! ### Dictionary (14) -/

/-- The object dictionary's values: key = index * 256 + subindex, sorted by key, only keys whose value differs
from the entry's default (R446, R470). -/
structure Dict where
  vals : List (Nat × Nat) := []
  /-- Base-image values of the entries whose default is img, in the same form (R470). -/
  base : List (Nat × Nat) := []
  /-- Values beneath the active overlays, for the entries an active overlay sets (R479). -/
  beneath : List (Nat × Nat) := []
  deriving DecidableEq, Repr

/-- The dictionary lock (R468, R469). -/
structure DictLock where
  holder : Nat := 0
  /-- The lease timer: when the holder's last write was accepted (R469). -/
  since : Nat := 0
  deriving DecidableEq, Repr

/-- The state of an overlay slot in flash and in 0x2420 to 0x2422 (R476, R482). -/
structure OverlaySt where
  state : Nat := 0
  name : Nat := 0
  revision : Nat := 0
  /-- Boot has accepted it, and an apply may name it (R473, R537). -/
  loaded : Bool := false
  /-- The values it sets, key and value. -/
  sets : List (Nat × Nat) := []
  deriving DecidableEq, Repr

/-- The configuration layers and the overlay apply (R470 to R478). -/
structure Layers where
  overlays : Vector OverlaySt 16 := Vector.replicate 16 {}
  mask : Nat := 0
  prevMask : Nat := 0
  applyStatus : Nat := 0
  applies : Nat := 0
  storedState : Nat := 0
  /-- Formatter requests that the hub holds while an apply waits: pack, arm, request (R477). -/
  held : List (PackId × ArmId × List Byte) := []
  baseName : Nat := 0
  baseRevision : Nat := 0
  baseDigest : Nat := 0
  deriving DecidableEq, Repr

/-- Raw sector access 0x2410 (R481). -/
structure RawAccess where
  status : Nat := 0
  /-- Ciphertext then tag, 0x2410.04. -/
  sector : List Byte := []
  state : Nat := 0
  /-- The command under way: 1 quick, 2 full, 3 write. -/
  command : Nat := 0
  /-- The tag of its routine (R200, R211). -/
  tag : Nat := 0
  /-- The arm that carries it (R17, R481). -/
  arm : ArmId := 0
  deriving DecidableEq, Repr

/-- NMT states (R460). -/
inductive Nmt where
  | preOperational | operational | stopped
  deriving DecidableEq, Repr

/-- A queued EMCY message: error code, error register and operating seconds as they were when queued (R461). -/
structure Emcy where
  code : Nat
  register : Nat
  source : Nat
  cls : Nat
  unit : Nat
  opSec : Nat
  deriving DecidableEq, Repr

/-- A dictionary access that waits for the release of the hub (R466): the writer, the kind of request, entry and data. -/
structure DictReq where
  /-- 0 a plain write; of USDO 1 expedited download, 2 expedited upload, 3 segmented download, 4 a segment, 5 the last segment,
  6 segmented upload, 7 a request for the next segment of `idx` bytes. -/
  kind : Nat
  who : Nat
  idx : Nat
  sub : Nat
  data : List Byte
  deriving DecidableEq, Repr

/-- A segmented USDO session (R459). -/
structure UsdoSession where
  client : Nat
  upload : Bool
  index : Nat
  sub : Nat
  /-- Download: bytes received so far. Upload: bytes still to send. -/
  data : List Byte
  deriving DecidableEq, Repr

/-- The CAN controller and its counters (R457 to R463). -/
structure Can where
  started : Bool := false
  nodeId : Nat := 0
  /-- NODE_ID has been sampled since chip reset (R495). -/
  sampled : Bool := false
  nmt : Nmt := .preOperational
  sessions : List UsdoSession := []
  emcyQueue : List Emcy := []
  /-- When the last EMCY message left (R461). -/
  emcyAt : Option Nat := none
  /-- Data bit rate in force, code of 0x1FC0.02. -/
  rate : Nat := 0
  busOffs : Nat := 0
  nmtIgnored : Nat := 0
  emcyLost : Nat := 0
  /-- Error codes, newest first, at most 16 (R461). -/
  history : List Nat := []
  deriving DecidableEq, Repr

/-! ### Power and start (16) -/

/-- Device states in the order of their codes (R524). -/
inductive DevState where
  | off | zephyr | lee | boot | selfTest | assemble | opened | quiesce | bench
  deriving DecidableEq, Repr

/-- An entry to Lee that waits until every arm is Unloaded or Out (R525). -/
structure PendingLee where
  reduced : Bool
  cause : Nat
  deriving DecidableEq, Repr

/-- The steps of Boot as the island waits for them (R527). -/
inductive BootStep where
  /-- The reset has not ended or the rails are not yet disabled. -/
  | waiting
  /-- Started; RAIL_EN[r] is asserted next. -/
  | enable (r : Nat)
  /-- RAIL_EN[r] is asserted; its power-good is awaited. -/
  | powerGood (r : Nat)
  /-- The reference measurement runs (after RAIL_PG[1], or at once with the rails on). -/
  | references
  /-- Every rail good: the PLLs lock and the rest of Boot runs. -/
  | plls
  /-- A failed attempt waits 100 ms for the next (R528). -/
  | retryWait
  /-- Boot has ended. -/
  | done
  deriving DecidableEq, Repr

/-- Boot (R527, R528, R545). -/
structure Boot where
  step : BootStep := .waiting
  attempt : Nat := 1
  /-- The wake that started it: 0 none, 1 a start wake, 2 a report wake (R545). -/
  wake : Nat := 0
  /-- Started by the start command from Lee in full form: rails stay on (R527). -/
  railsKept : Bool := false
  /-- A Boot from Lee keeps CAN running (R527). -/
  fromLee : Bool := false
  deriving DecidableEq, Repr

/-- A switched rail (R517, R518, R550). -/
structure Rail where
  enable : Bool := false
  /-- 0 off, 1 enabling, 2 good, 3 failed. -/
  state : Nat := 0
  milliVolt : Nat := 0
  milliAmp : Nat := 0
  deriving DecidableEq, Repr

/-- A switched power domain (R522, R550): 0 off, 1 switching, 2 on. -/
structure Domain where
  state : Nat := 0
  switchOns : Nat := 0
  seconds : Nat := 0
  deriving DecidableEq, Repr

/-- The device (R524 to R526, R540, R550). -/
structure Device where
  state : DevState := .boot
  /-- The dictionary image has been loaded since the last start, the motor entries with it (R10, R271). -/
  motorLoaded : Bool := false
  leeForm : Nat := 255
  leeCause : Nat := 255
  startFail : Nat := 0
  wakeAttempts : Nat := 0
  lastCommand : Nat := 0
  /-- A state command is still being carried out (R526). -/
  commandBusy : Bool := false
  pendingLee : Option PendingLee := none
  /-- Orderly close: 0 not running, else the step in progress (R540). -/
  closeStep : Nat := 0
  /-- SelfTest's tests have ended (R538). -/
  testsEnded : Bool := false
  factory : Bool := false
  /-- Loss of supply has been declared and its 10 ms run (R520). -/
  supplyLost : Bool := false
  /-- VDD_AON is applied. -/
  aonUp : Bool := true
  /-- The power down command waits for every spindle to be Off (R525). -/
  powerDown : Bool := false
  /-- Zephyr entry in progress (R543). -/
  zephyrEntry : Bool := false
  /-- A wake event latched during the entry: 0 none, 1 start, 2 report (R543). -/
  latchedWake : Nat := 0
  lastWake : Nat := 0
  wakes : Nat := 0
  ticks : Nat := 0
  /-- Levels at entry to Zephyr: PACK_PRES and energy detect, bit per pack and port (R544). -/
  presAtEntry : Nat := 0
  energyAtEntry : Nat := 0
  /-- Records of tick events kept in SRAM, at most 64 (R544). -/
  tickRecords : List EvRec := []
  crystal : Bool := false
  opSec : Nat := 0
  /-- When the current operating second began (R552). -/
  secondAt : Nat := 0
  powerCycles : Nat := 0
  deriving DecidableEq, Repr

/-- The fuse block (R535, R536, R551): one-time programmable. -/
structure Fuses where
  revision : Nat := 0
  serial : Nat := 0
  uniqueId : Nat := 0
  securityVersion : Nat := 0
  rootRevoked : Nat := 0
  /-- The hash fused for each root key slot (R535), the bytes of SHA-384 as a number, byte 0 lowest. -/
  rootHash : Vector Nat 4 := Vector.replicate 4 0
  keyRevoked : Nat := 0
  devicePublicKey : Nat := 0
  deriving DecidableEq, Repr

/-- Boot flash: what its areas hold (R530, R531). -/
structure Flash where
  image : Vector (Option FwImage) 2 := Vector.replicate 2 none
  base : Vector (Option DictImage) 2 := Vector.replicate 2 none
  stored : Vector (Option DictImage) 2 := Vector.replicate 2 none
  overlay : Vector (Option DictImage) 16 := Vector.replicate 16 none
  /-- The bytes of each boot selector copy; no bytes where the area is empty. -/
  selector : Vector (List Byte) 2 := Vector.replicate 2 []
  counters : Option SavedCounters := none
  pinned : EvRing := {}
  ordinary : EvRing := {}
  deriving DecidableEq, Repr

/-- The flash window and the boot selection (R537, R551). -/
structure FlashWindow where
  state : Nat := 0
  /-- The operation under way: 0 none, 1 erase, 2 verify, 3 data. -/
  op : Nat := 0
  /-- Bytes of the window's targets that are not erased: (target * 2^24 + offset, byte), rising, none 0xFF. -/
  bytes : List Host.Cell := []
  /-- Targets that something outside has programmed and no erase has cleared since. -/
  placed : List Nat := []
  /-- The target and offset of the operation under way, and the bytes of a data write. -/
  target : Nat := 0
  offset : Nat := 0
  data : List Byte := []
  running : Nat := 0
  /-- Image states 0x7400.03 and .04. -/
  imageState : Vector Nat 2 := Vector.replicate 2 0
  /-- Base copy from which the dictionary was loaded. -/
  baseUsed : Option Nat := none
  /-- Key list of the running image. -/
  keys : List KeyEntry := []
  /-- Revision of the running image, and the routines it marks writing (R477, R532). -/
  revision : Nat := 0
  writing : List Nat := []
  deriving DecidableEq, Repr

/-- Security (R546 to R548). -/
structure Security where
  tapUnlocked : Bool := false
  tapPermissions : Nat := 0
  /-- Which free value is the current nonce 0x7405.02 (R548). -/
  tapNonce : Nat := 1
  deriving DecidableEq, Repr

/-! ### Packs (02, 03) -/

/-- Time-base states in the order of their codes (R41). -/
inductive TbState where
  | stopped | freeRun | acquire | locked | coast | lost
  deriving DecidableEq, Repr

/-- A pack's rotation time base (R31 to R51, R60). -/
structure TimeBase where
  state : TbState := .stopped
  /-- Pack AngleTime (R31). -/
  angle : AngleTime := 0
  /-- Remainder of the exact fractional increment (assumption 3). -/
  frac : Nat := 0
  /-- Measured revolution period in units of 10 ps; 0 while not measured (R60). -/
  revPeriod : Nat := 0
  /-- The loop's increment as a period, 10 ps; updated each wedge (R40). -/
  loopPeriod : Nat := 0
  missed : Nat := 0
  lossRun : Nat := 0
  badIndexRun : Nat := 0
  goodRun : Nat := 0
  sawWedge0 : Bool := false
  poorRun : Nat := 0
  acquireWedges : Nat := 0
  /-- Times of the losses of lock of the last 10 minutes (R46). -/
  lossTimes : List Nat := []
  acquisitions : Nat := 0
  losses : Nat := 0
  lateEvents : Nat := 0
  /-- A skew measurement runs on the pack's loaded arms (R49). -/
  measuring : Bool := false
  /-- The arms it covers, and wedges passed so far, missed ones too. -/
  measSet : Vector Bool 2 := Vector.replicate 2 false
  measured : Nat := 0
  /-- Arms whose skews are wanted measured again (R51). -/
  remeasure : Vector Bool 2 := Vector.replicate 2 false
  /-- Wedges since the last revolution-period update (R40). -/
  sinceRev : Nat := 0
  deriving DecidableEq, Repr

/-- Pack states in the order of their codes (R88). -/
inductive PackState where
  | absent | present | verified | spinning | loaded | ready | draining | spent | failed | retired
  deriving DecidableEq, Repr

/-- The life counters of one head (R73). -/
structure HeadLife where
  bytes : Nat := 0
  strokes : Nat := 0
  mediaSec : Nat := 0
  deriving DecidableEq, Repr

/-- The life counters of a pack as hub memory keeps them (R73 to R76). -/
structure Life where
  sequence : Nat := 0
  loads : Vector Nat 2 := Vector.replicate 2 0
  spindleSec : Nat := 0
  worn : Bool := false
  spent : Bool := false
  retired : Bool := false
  /-- Index arm * 16 + head. -/
  heads : Vector HeadLife 32 := Vector.replicate 32 {}
  /-- The copy that holds the higher sequence. -/
  newer : Nat := 0
  deriving DecidableEq, Repr

/-- A pack's log in its identity memory (R101, R102). -/
structure PackLog where
  next : Nat := 0
  wraps : Nat := 0
  dropped : Nat := 0
  /-- Records waiting in hub memory, at most 64, oldest first. -/
  waiting : List EvRec := []
  /-- The header of the pack seated has been read, or written as new (R101). -/
  ready : Bool := false
  /-- The newest slot's record as last written, and when. -/
  newest : Option EvRec := none
  rewrittenAt : Nat := 0
  /-- The newest record's repeat count has changed since (R102). -/
  stale : Bool := false
  /-- Slots that were the newest when their repeat count changed and still await the rewrite: slot, record, time last written (R102). -/
  due : List (Nat × EvRec × Nat) := []
  /-- Slots written: slot number and record. -/
  slots : List (Nat × EvRec) := []
  deriving DecidableEq, Repr

/-- Arm link states in the order of their codes (R103). -/
inductive LinkState where
  | down | training | up | out
  deriving DecidableEq, Repr

/-- A CMD or REG frame not yet echoed (R85). -/
structure Unechoed where
  seq : Nat
  frame : List Byte
  resends : Nat
  deriving DecidableEq, Repr

/-- An arm link (R78 to R87). -/
structure ArmLink where
  state : LinkState := .down
  discarded : Nat := 0
  seq : Nat := 0
  unechoed : List Unechoed := []
  attempts : Nat := 0
  /-- The preamplifier's last STATUS frame and REGRESP frame, bytes after the header. -/
  status : List Byte := []
  regResp : List Byte := []
  deriving DecidableEq, Repr

/-- A pack's identity, as accepted (R67, R90). -/
structure Identity where
  modelCode : Nat := 0
  serial : Nat := 0
  uniqueId : Nat := 0
  made : Nat := 0
  zones : Nat := 0
  microWindow : Nat := 0
  speed0 : Nat := 0
  speed1 : Nat := 0
  capacity : Nat := 0
  maxWriteWidth : Nat := 0
  preampModel : Nat := 0
  loadLimit : Nat := 0
  spindleLimit : Nat := 0
  writeLimit : Nat := 0
  strokeLimit : Nat := 0
  mediaLimit : Nat := 0
  maxTemp : Int := 0
  minTemp : Int := 0
  heliumWarn : Nat := 0
  heliumFail : Nat := 0
  deriving DecidableEq, Repr

/-- Geometry of one surface (R69). -/
structure Surface where
  tracks : Nat := 0
  firstData : Nat := 0
  lastData : Nat := 0
  reference : Nat := 0
  deriving DecidableEq, Repr

/-- The factory areas other than the identity block (R69). -/
structure Factory where
  surfaces : List Surface := []
  nominalOffset : Nat := 0
  minRevision : Nat := 0
  /-- Microactuator gain trims, index arm * 16 + head, Q1.15. -/
  maTrims : List Int := []
  vcmTrims : List Int := []
  location0 : Nat := 0
  location1 : Nat := 0
  tableSectors : Nat := 0
  digest0 : Nat := 0
  digest1 : Nat := 0
  deriving DecidableEq, Repr

/-- I2C transactions of the pack's three devices (R64): retries made of the one under way. -/
structure I2c where
  identity : Nat := 0
  temperature : Nat := 0
  helium : Nat := 0
  deriving DecidableEq, Repr

/-- A pack's sensors (R100). -/
structure Sensors where
  temp : Int := 0
  helium : Nat := 0
  tempBad : Nat := 0
  heliumBad : Nat := 0
  hold : Bool := false
  /-- Below the minimum operating temperature: spin-up not granted. -/
  cold : Bool := false
  heliumWarn : Bool := false
  deriving DecidableEq, Repr

/-! ### Servo (08) -/

/-- Arm servo modes in the order of their codes (R249). -/
inductive ArmMode where
  | unloaded | loading | searching | following | seeking | settling | parking | gale | out
  deriving DecidableEq, Repr

/-- Lane servo status in the order of its codes (R268). -/
inductive LaneServo where
  | notInService | following | settling | coasting | coastingInhibited | lost | satOut | seeking
  deriving DecidableEq, Repr

/-- Lane time status in the order of its codes (R60). -/
inductive TimeStatus where
  | notMeasured | provisional | valid | drifting | excluded
  deriving DecidableEq, Repr

/-- The delayed values of a second-order stage (R231, R238). -/
structure Biquad where
  x1 : Int := 0
  x2 : Int := 0
  u1 : Int := 0
  u2 : Int := 0
  deriving DecidableEq, Repr

/-- The servo state of one head (R234 to R241, R252 to R256, R268). -/
structure HeadServo where
  status : LaneServo := .notInService
  /-- Last position error, 2^-10 track (R237). -/
  err : Int := 0
  /-- RMS of the last revolution in Following, with its running sum and count (R268). -/
  rms : Nat := 0
  rmsSum : Nat := 0
  rmsCount : Nat := 0
  inhibits : Nat := 0
  missedWedges : Nat := 0
  saturations : Nat := 0
  missRun : Nat := 0
  validRun : Nat := 0
  releaseRun : Nat := 0
  settleRun : Nat := 0
  settled : Bool := false
  inhibit : Bool := true
  /-- PI integrator, accumulator form (R232). -/
  integ : Int := 0
  /-- Lead-lag: previous input and output. -/
  leadX : Int := 0
  leadU : Int := 0
  notch1 : Biquad := {}
  notch2 : Biquad := {}
  /-- Last command sent (R239). -/
  command : Int := 0
  /-- The command saturated in the last wedge (R253). -/
  satLast : Bool := false
  /-- STATUS has named the head under a microactuator driver fault since the arm loaded (R253). -/
  driverFault : Bool := false
  /-- Microactuator displacement estimate m_h, command units (R245). -/
  micro : Int := 0
  /-- Head offset from the arm target d_h (R242). -/
  offset : Int := 0
  /-- Last target given by SEEK for this head. -/
  target : Nat := 0
  /-- Predicted head position, 2^-10 track (R236). -/
  predicted : Int := 0
  /-- The position of the last valid wedge, 2^-10 track (R236, R251). -/
  place : Int := 0
  /-- Direction of the command, its last turning point, and reversals not yet counted by the thousand (R241). -/
  dir : Int := 0
  turn : Int := 0
  reversals : Nat := 0
  /-- Off-track offset of a ladder read, 1/256 track (R179). -/
  ladderOffset : Int := 0
  deriving DecidableEq, Repr

/-- The values a Gale retract generator latches at load (R263). -/
structure GaleLatch where
  current : Nat := 0
  time : Nat := 0
  holdCurrent : Nat := 0
  holdTime : Nat := 0
  direction : Int := 0
  deriving DecidableEq, Repr

/-- What a Gale retract generator drives: the retract current, the hold current, or no gate (R263). -/
inductive GaleStage where
  | off | retract | hold
  deriving DecidableEq, Repr

/-- The targets that a SEEK gave (R242, R244): the subset taken, the arm target, and the track of each lane. -/
structure SeekOrder where
  set : Nat
  target : Nat
  tracks : List Nat
  deriving DecidableEq, Repr

/-- The stages of a park (R259). -/
inductive ParkStage where
  | none | position | backEmf | unload
  deriving DecidableEq, Repr

/-- What the gate outputs of a bridge leg do in a PWM period, ns from its start (R269, R271): the high switch is on from the first time of
`high` to the second, the low switch in each interval of `low`; both off where there is none. -/
structure Leg where
  high : Nat × Nat := (0, 0)
  low : List (Nat × Nat) := []
  deriving DecidableEq, Repr

/-- The servo state of one arm (R242 to R265). -/
structure ArmServo where
  mode : ArmMode := .unloaded
  /-- Coefficient memory copied at load: (offset * 256 + subindex, value), nonzero values only (R230). -/
  coef : List (Nat × Nat) := []
  /-- Trims of the servo parameter area copied at load (R230). -/
  vcmTrim : Int := 0
  maTrim : List Int := []
  gale : GaleLatch := {}
  /-- A miscompare, a watchdog or a park timeout is among the triggers of the Gale in progress (R250). -/
  galeHard : Bool := false
  /-- A watchdog or a park timeout is among them (R265). -/
  galeOut : Bool := false
  /-- A miscompare is among them: the spindles stop when it ends (R266). -/
  galeMiscompare : Bool := false
  target : Nat := 0
  /-- The position of the arm, 2^-10 track, and its velocity, 1/256 track per wedge (R251); whether a head has given a position since the
  load (R259). -/
  position : Int := 0
  velocity : Int := 0
  known : Bool := false
  /-- The targets of a SEEK that take effect at the next wedge boundary (R244). -/
  order : Option SeekOrder := none
  /-- In a back-EMF park, the way left to the park track as it is reckoned, 1/512 track (R259). -/
  parkLeft : Int := 0
  /-- What the Gale retract generator drives, and for how many ns more (R263). -/
  galeStage : GaleStage := .off
  galeLeft : Nat := 0
  /-- Estimator of position error, velocity and bias (R245). -/
  est0 : Int := 0
  est1 : Int := 0
  est2 : Int := 0
  integ : Int := 0
  notch1 : Biquad := {}
  notch2 : Biquad := {}
  notch3 : Biquad := {}
  notch4 : Biquad := {}
  /-- Current set-point i* (Q1.15 of full-scale current). -/
  setPoint : Int := 0
  /-- A new set-point has come since the last current-loop period (R247). -/
  setPointNew : Bool := false
  noSetPoint : Nat := 0
  currentInteg : Int := 0
  current : Int := 0
  /-- The sample of the period before (R258). -/
  lastCurrent : Int := 0
  /-- The bridge's on-time, Q1.15, and the gate outputs of its legs A and B (R247, R269). -/
  duty : Int := 0
  legs : Vector Leg 2 := Vector.replicate 2 {}
  /-- Lanes of the last SEEK, and those that sit out (R242). -/
  seekLanes : Nat := 0
  sitOut : Nat := 0
  wedgesSettling : Nat := 0
  /-- Wedges of the head-loop command ramp left in a park (R259). -/
  ramp : Nat := 0
  stage : ParkStage := .none
  /-- Consecutive wedges with no head valid in a position park (R259). -/
  blindRun : Nat := 0
  loadFailRun : Nat := 0
  outLink : Bool := false
  outLoad : Bool := false
  outGale : Bool := false
  /-- A reload waits for Free-run and the speed window (R46, R86). -/
  reloadPending : Bool := false
  /-- The arm has just loaded: skews are measured at Locked (R42). -/
  justLoaded : Bool := false
  /-- Offset O_a (R34). -/
  angleOffset : Nat := 0
  armedSent : Nat := 0
  armedEchoed : Nat := 0
  microEnabled : Nat := 0
  readEnabled : Nat := 0
  seeks : Nat := 0
  parks : Nat := 0
  gales : Nat := 0
  missedParks : Nat := 0
  /-- Heads whose result of the current wedge has come (R245). -/
  reported : Nat := 0
  loadFailures : Nat := 0
  saturations : Nat := 0
  deriving DecidableEq, Repr

/-! ### Sequencers (07) -/

/-- Registers and flags of a formatter or of a service context (R194). -/
structure Regs where
  g : Vector Reg64 16 := Vector.replicate 16 0
  z : Bool := false
  n : Bool := false
  c : Bool := false
  later : Bool := false
  timeout : Bool := false
  deriving DecidableEq, Repr

/-- A control store (R192, R222, R223): the words of the loaded section; words beyond it are filled with END. A mark is
a bit error in one store's word: store number, word, whether it is uncorrectable. -/
structure ControlStore where
  words : List Microword := []
  /-- Words that one store alone holds otherwise, written through its own load port: store number, word, value. -/
  own : List (Nat × Nat × Microword) := []
  revision : Nat := 0
  locked : Bool := false
  marks : List (Nat × Nat × Bool) := []
  deriving DecidableEq, Repr

/-- What a formatter waits for (R196, R204 to R207). -/
inductive FmtWait where
  | none
  /-- WAITA, WAITR: the arm-local target (R204). -/
  | angle (target : AngleTime)
  /-- WAITE: condition, inversion, time limit in ns from `now` or none. -/
  | event (cond : Nat) (neg : Bool) (deadline : Option Nat)
  /-- Abandoned: restarts at the next wedge boundary (R207). -/
  | restart
  deriving DecidableEq, Repr

/-- A sector that has ended on a lane and waits for its delivery (R183 to R185). -/
structure SectorEnd where
  addr : Nat
  outcome : Nat
  step : Nat := 0
  method : Nat := 0
  /-- The shift of the fragment that method 2 shifted (R175, R176, R191). -/
  moved : Int := 0
  split : Bool := false
  shift1 : Int := 0
  shift2 : Int := 0
  dist : Nat := 0
  crcBad : Bool := false
  /-- Timing slips of the last read (R140). -/
  slips : Nat := 0
  flywheel : Bool := false
  iter : Nat := 0
  marked : Nat := 0
  off : Int := 0
  /-- The 4,160 bytes of a good sector. -/
  data : List Byte := []
  /-- SNR of the sector when its first decode succeeded, 1/256 dB (R164). -/
  snr : Option Int := none
  tag : Nat := 0
  restart : Nat := 0
  verify : Bool := false
  deriving DecidableEq, Repr

/-- A transfer on one lane (R202): what XFER asked for and how far it is. -/
structure Run where
  lane : HeadId
  track : Nat
  first : Nat
  count : Nat
  /-- 0 read, 1 write, 2 verify. -/
  type : Nat
  /-- Sectors finished so far. -/
  done : Nat := 0
  /-- Reads delivered with outcome 0x00 or 0x01, writes closed untorn. -/
  good : Nat := 0
  /-- The lane transfers in a group, one after another (R158, R159): the group's number; and the XFER that made the run. -/
  group : Nat := 0
  xfer : Nat := 0
  /-- Lane-local time from which the next gate is sought (R36, R202 item 2): each gate opens at the first pass at or after it. -/
  fromTime : AngleTime := 0
  ended : Bool := false
  deriving DecidableEq, Repr

/-- A sector of the routine that awaits the ladder, or has met it (R178). -/
structure LadderSector where
  lane : HeadId
  addr : Nat
  /-- The reason of the last read that failed (R184). -/
  reason : Nat
  step : Nat := 0
  reads : Nat := 0
  /-- Marked cells of the last reads on the routine's arm and on the other arm (R189). -/
  marksOwn : Nat := 0
  marksOther : Nat := 0
  /-- Step 0 found the whole read gate marked as dropout (R182). -/
  drop0 : Bool := false
  verify : Bool := false
  /-- Its ladder read is under way: the gate is open or between its two fragments (R179). -/
  passing : Bool := false
  /-- Lane-local time from which its next pass is sought (R179). -/
  fromTime : AngleTime := 0
  /-- LLRs of the read before it, in code-bit order (R180). -/
  llr : List Int := []
  /-- Equalised samples of the averaged read, summed by code bit (R180). -/
  sum : List Int := []
  /-- A converged decode of it has failed its CRC last (R183). -/
  crcBad : Bool := false
  /-- P+0x15.01 to .0A as its read began (R182). -/
  params : List Nat := []
  /-- What its last read would have ended with (R183); none where it was never read. -/
  last : Option SectorEnd := none
  deriving DecidableEq, Repr

/-- A formatter sequencer (R192, R194, R200 to R210, R227). -/
structure Formatter where
  /-- In fault state until chip reset (R221). -/
  fault : Bool := false
  running : Bool := false
  /-- The 128-byte request in progress (R200). -/
  req : List Byte := []
  regs : Regs := {}
  pc : Nat := 0
  stack : List Nat := []
  /-- Scratch: 8-byte words by number, nonzero ones only (R199). -/
  scratch : List (Nat × Nat) := []
  wait : FmtWait := .none
  /-- Held at its next write gate by Coast (R44). -/
  held : Bool := false
  restarts : Nat := 0
  /-- Restarts that do not count toward the limit (R206). -/
  uncounted : Nat := 0
  /-- Sequence of the last LINK frame of the routine (R195 ECHOED). -/
  lastLink : Option Nat := none
  /-- Register LINKs that await their REGRESP, oldest first: the register that takes the data, and the sequence (R203). -/
  regWait : List (Fin 16 × Nat) := []
  committed : Bool := false
  underrun : Bool := false
  cancel : Bool := false
  runs : List Run := []
  ladder : List LadderSector := []
  /-- The ladder of the routine is running (R196 LADDER). -/
  laddering : Bool := false
  torn : Nat := 0
  satOut : Nat := 0
  incomplete : Nat := 0
  /-- Lanes that sit out the rest of the routine after a gate conflict (R206). -/
  conflicts : Nat := 0
  /-- Lanes holding a sector that ended with an outcome other than 0x00 or 0x01 (R209). -/
  badLanes : Nat := 0
  /-- Lanes in the order of waiting for Active so far (R161). -/
  waitCount : Nat := 0
  /-- Write groups issued in the routine (R159). -/
  groups : Nat := 0
  /-- A per-lane or per-arm write waits for a wedge boundary (R18). -/
  writesDue : Bool := false
  /-- Waiting requests, oldest first, at most 16; and those held on the link (R201). -/
  queue : List (List Byte) := []
  linkHeld : List (List Byte) := []
  /-- The kind of background work that the routine belongs to, and when it began (R339). -/
  back : Option Nat := none
  since : Nat := 0
  /-- Sectors whose ladder step 6 this formatter is to read for the pack's other arm, in order, and the one whose routine runs
  (R179, R201). -/
  sixes : List (HeadId × Nat) := []
  six : Option (HeadId × Nat) := none
  /-- The last completion record (R210). -/
  lastRecord : List Byte := []
  restartCount : Nat := 0
  endedCount : Nat := 0
  deriving DecidableEq, Repr

/-- What a service context waits for (R196, R212, R216, R218, R219). -/
inductive CtxWait where
  | none
  | event (cond : Nat) (neg : Bool) (deadline : Option Nat)
  /-- LD or LDL from buffer memory: destination register (16 for LDL's G8 to G15) and address. -/
  | load (rd : Nat) (addr : Nat)
  /-- SUSPEND with no free context block: the token. -/
  | block (token : Nat)
  /-- ENG with 1,024 tokens outstanding. -/
  | tokens
  /-- ENG on engine 3 whose channel's queue is full: the token (R428). -/
  | place (token : Nat)
  /-- END waits for the context's tokens: the status. -/
  | ending (status : Nat)
  deriving DecidableEq, Repr

/-- A hardware context of a service sequencer (R212). -/
structure Ctx where
  busy : Bool := false
  regs : Regs := {}
  pc : Nat := 0
  stack : List Nat := []
  scratch : List (Nat × Nat) := []
  ring : Nat := 0
  slot : Nat := 0
  port : Nat := 0
  cls : Nat := 0
  admin : Bool := false
  /-- The command's descriptors, in chain order (R199). -/
  chain : List Byte := []
  wait : CtxWait := .none
  /-- Microwords issued since the last safe point (R215). -/
  sinceSafe : Nat := 0
  forcedSafe : Bool := false
  /-- Held at a safe point by a fault or a fail-over (R216). -/
  held : Bool := false
  deriving DecidableEq, Repr

/-- A service sequencer (R192, R221). -/
structure Sequencer where
  fault : Bool := false
  /-- The context that issued last (R212). -/
  last : CtxId := 15
  ctx : Vector Ctx 16 := Vector.replicate 16 {}
  deriving DecidableEq, Repr

/-- A command in flight in the command state table (R217). -/
structure CmdEntry where
  ring : Nat
  slot : Nat
  aborted : Bool := false
  committed : Bool := false
  /-- It has issued a mirror record (R504). -/
  mirrored : Bool := false
  deriving DecidableEq, Repr

/-- An engine token (R219): outstanding 0, done 1, done with an error 2. -/
structure Token where
  id : Nat
  seq : Nat
  ring : Nat
  slot : Nat
  engine : Nat
  body : List Reg64
  state : Nat := 0
  deriving DecidableEq, Repr

/-- A suspended command in its context block (R218). -/
structure Suspended where
  ctx : Ctx
  token : Nat
  deriving DecidableEq, Repr

/-- The service side as a whole (R212 to R227). -/
structure Service where
  seqs : Vector Sequencer 16 := Vector.replicate 16 {}
  store : ControlStore := {}
  dispatch : List (BitVec 32) := []
  /-- Bit errors of dispatch entries: sequencer, entry, whether uncorrectable (R221, R222). -/
  dispatchMarks : List (Nat × Nat × Bool) := []
  cmds : List CmdEntry := []
  tokens : List Token := []
  nextToken : Nat := 1
  suspended : List Suspended := []
  /-- The sequencer that gets the next command (R213). -/
  next : Nat := 0
  corrected : Nat := 0
  uncorrectable : Nat := 0
  overruns : Nat := 0
  delayed : Nat := 0
  deriving DecidableEq, Repr

/-! ### Media format (04), lanes (05) and recovery (06) -/

/-- A zone record (R123). -/
structure ZoneRec where
  cells : Nat := 0
  sectors : Nat := 0
  skew : Nat := 0
  first : Nat := 0
  gain : Int := 0
  offset : Int := 0
  asym : Int := 0
  cutoff : Nat := 0
  boost : Nat := 0
  taps : List Int := []
  pre1 : Nat := 0
  pre2 : Nat := 0
  deriving DecidableEq, Repr

/-- A zone table set as loaded into the tile: records in the order surface * 64 + zone (R122, R125). -/
structure ZoneTable where
  speed : Nat
  zones : Nat
  recs : List ZoneRec
  deriving DecidableEq, Repr

/-- Types of a band slot in the order of their codes (R127). -/
inductive BandType where
  | sequential | random | retired
  deriving DecidableEq, Repr

/-- A band slot of a surface with its write pointer, as track offset and sector, and the defect list sequence at its
last reset (R127, R128, R133). -/
structure Band where
  surface : Nat
  slot : Nat
  type : BandType := .sequential
  track : Nat := 0
  sector : Nat := 0
  listSeq : Nat := 0
  deriving DecidableEq, Repr

/-- A suspect sector (R190). -/
structure Suspect where
  addr : Nat
  rewritten : Bool
  deriving DecidableEq, Repr

/-- What a pack's tile holds of the media (R122 to R133, R189 to R191). -/
structure Media where
  /-- Zone table copy in use, 255 none (R134). -/
  zoneCopy : Nat := 255
  zones : Option ZoneTable := none
  /-- Defect list entries as 64-bit numbers, sorted by address (R131, R132). -/
  defects : List Nat := []
  listSeq : Nat := 0
  /-- Band slots other than a fresh sequential slot. -/
  bands : List Band := []
  servoProtect : Nat := 0
  /-- Sectors recovered at steps 0 to 6 (R191). -/
  recovered : Vector Nat 7 := Vector.replicate 7 0
  unrecovered : Nat := 0
  tornReads : Nat := 0
  misplaced : Nat := 0
  blank : Nat := 0
  flywheel : Nat := 0
  suspects : List Suspect := []
  /-- Method 2 recoveries at shifts -4 to +4. -/
  shifts : Vector Nat 9 := Vector.replicate 9 0
  deriving DecidableEq, Repr

/-- Power levels of a lane in the order of their codes (R160). -/
inductive LanePower where
  | off | servoOnly | idle | reading | writing
  deriving DecidableEq, Repr

/-- Values of the adaptive loops (R144, R145). -/
structure Adapt where
  gain : Int := 0
  offset : Int := 0
  asym : Int := 0
  taps : List Int := []
  deriving DecidableEq, Repr

/-- An entry of a lane's adapted-value cache (R145). -/
structure AdaptEntry where
  zone : Nat
  speed : Nat
  body : Adapt
  deriving DecidableEq, Repr

/-- An accepted mark: its position minus e, its Hamming distance, found by relaxed sync (R169, R170). -/
structure Mark where
  pos : Int
  dist : Nat
  relaxed : Bool
  deriving DecidableEq, Repr

/-- Where a sector in the sample store stands (R147, R172, R177). -/
inductive ReadPhase where
  | reading | decoding | recovering | ended
  deriving DecidableEq, Repr

/-- The adaptive loops while a gate runs (R140, R144), in 1/65,536 of their units: gain, offset, asymmetry and taps, and the
timing loop's frequency and phase corrections in 2^-32 cell. -/
structure Loops where
  gain : Int := 0
  offset : Int := 0
  asym : Int := 0
  taps : List Int := []
  freq : Int := 0
  shift : Int := 0
  deriving DecidableEq, Repr

/-- What the sample store keeps of a fragment (R147): equalised samples, detector outputs and tentative decisions by cell from
the gate's first cell, the defect marks, and the decisions inside the sync window. -/
structure Fragment where
  samples : List Int := []
  soft : List Int := []
  bits : List Bool := []
  marks : List Bool := []
  window : List Bool := []
  deriving DecidableEq, Repr

/-- A sector in a lane's sample store (R147, R168 to R171). -/
structure Reading where
  addr : Nat
  split : Bool
  /-- Delivered with data (read) or as status only (verify). -/
  verify : Bool
  /-- Code bits of the first fragment: all 37,440 of an unsplit sector (R119). -/
  first : Nat := 37440
  /-- Routine tag and restart count at which it is read (R207). -/
  tag : Nat := 0
  restart : Nat := 0
  phase : ReadPhase := .reading
  /-- Fragments whose read gate has closed. -/
  closed : Nat := 0
  /-- Sync decisions made. -/
  decided : Nat := 0
  mark1 : Option Mark := none
  mark2 : Option Mark := none
  frag1 : Fragment := {}
  frag2 : Fragment := {}
  slips : Nat := 0
  /-- The whole read gate was marked as dropout (R182). -/
  dropout : Bool := true
  /-- The loops, held across a servo field, with their values at the gate's closing (R145, R146). -/
  loops : Loops := {}
  /-- The first decode converged and failed its CRC (R183). -/
  crcBad : Bool := false
  /-- Iterations of its last decode (R183). -/
  iter : Nat := 0
  /-- P+0x15.01 to .0A as the read began (R182). -/
  params : List Nat := []
  deriving DecidableEq, Repr

/-- A sector's delivery as the hub receives it (R185, R207). -/
structure Delivery where
  head : Nat
  tag : Nat
  restart : Nat
  status : Nat
  data : List Byte
  deriving DecidableEq, Repr

/-- A sector in a lane's write buffer (R150): its address and the bytes the hub has placed. -/
structure WriteSector where
  addr : Nat
  data : List Byte
  deriving DecidableEq, Repr

/-- The sector being written with the gate open (R150, R153). -/
structure Writing where
  addr : Nat
  /-- Fragments finished. -/
  closed : Nat := 0
  /-- Its write gate is open: not so between the fragments of a split sector, while the pair is idle (R109, R153). -/
  isOpen : Bool := true
  /-- The gate was open already when the sector began (R153). -/
  joined : Bool := false
  torn : Bool := false
  /-- No further fragment follows: its gate is cancelled (R206). -/
  last : Bool := false
  /-- Written under underrun with the torn pattern (R150). -/
  underrun : Bool := false
  /-- Its routine has ended: the gate runs to its scheduled close, and no further fragment follows (R206). -/
  orphan : Bool := false
  deriving DecidableEq, Repr

/-- Health metrics of a lane (R164, R165). -/
structure Health where
  read : Nat := 0
  written : Nat := 0
  recovered : Nat := 0
  unrecovered : Nat := 0
  shifted : Nat := 0
  snr : Int := 0
  /-- A sector has been counted in the means since chip reset (assumption 7). -/
  seen : Bool := false
  /-- Sectors counted in the SNR estimate since the arm last loaded. -/
  snrCount : Nat := 0
  iterations : Nat := 0
  marked : Nat := 0
  slips : Nat := 0
  /-- Lane quality status, code of R165. -/
  quality : Nat := 0
  /-- Last shift of a method 2 recovery (R191). -/
  lastShift : Int := 0
  /-- Last status word (R199 space 2 item 5). -/
  status : Nat := 0
  deriving DecidableEq, Repr

/-- The channel of a lane (R139 to R161). -/
structure Channel where
  power : LanePower := .off
  /-- An instruction waits for the lane to be Active: its place in the order of waiting (R161). -/
  waiting : Option Nat := none
  /-- Lane-local time at which the servo window closes, once it has opened (R153). -/
  servoUntil : Option AngleTime := none
  readOpen : Bool := false
  /-- Lane-local times at which the open read or write gate opened and is scheduled to close (R153). -/
  gateFrom : AngleTime := 0
  gateEnd : AngleTime := 0
  /-- Magnitudes of the last 1,024 cell samples outside dropouts, newest first (R143). -/
  tail : List Nat := []
  /-- Bench overrides as the lane applies them (R18, R484): gain 0x7FFF and boost 255 are none. -/
  gainOver : Nat := 0x7FFF
  boostOver : Nat := 255
  freeze : Nat := 0
  /-- No further write gate opens in this routine (R150, R156). -/
  noMoreWrites : Bool := false
  /-- Timing seed: cell rate in cells per second, and the cell at which the gate opens (R139). -/
  cellRate : Nat := 0
  phaseCell : Nat := 0
  /-- Starting values of the loops at the last read gate (R144, R145). -/
  start : Adapt := {}
  boost : Nat := 0
  /-- Adapted-value cache, most recently used first, at most 4 (R145). -/
  cache : List AdaptEntry := []
  /-- Sample store, oldest first: two slots, and a sector whose first decode still runs (R147, R177). -/
  store : List Reading := []
  /-- Sectors awaiting delivery, oldest first. -/
  ends : List SectorEnd := []
  /-- Write buffer, at most 4 sectors (R150). -/
  wbuf : List WriteSector := []
  writing : Option Writing := none
  /-- The read gate's samples go to the capture buffer (R485). -/
  capturing : Bool := false
  deriving DecidableEq, Repr

/-- Bench (R483 to R485). -/
structure Bench where
  captures : Nat := 0
  entrySec : Nat := 0
  /-- Capture buffers: pack and samples. -/
  buffers : List (Nat × List Byte) := []
  deriving DecidableEq, Repr

/-! ### Spindle and motor bus (09) -/

/-- Spindle states in the order of their codes (R281). -/
inductive SpinState where
  | off | watch | brake | align | forced | accelerate | atSpeed | stop | faultBrake | freewheel
  deriving DecidableEq, Repr

/-- The spindle controller of a pack (R273 to R298). -/
structure Spindle where
  state : SpinState := .off
  /-- Measured speed, rpm (P+0x30.02), and its direction. -/
  speed : Nat := 0
  backward : Bool := false
  /-- Speed in use, rpm; 0 while stopped (P+0x00.05). -/
  target : Nat := 0
  /-- Reference speed, rpm * 2^10. -/
  ref : Nat := 0
  /-- The forced speed, rpm * 2^10, and what its ramp holds below that, in 10^-9 (R284). -/
  forced : Nat := 0
  forcedFrac : Nat := 0
  agreeRun : Nat := 0
  attempts : Nat := 0
  inWindowRun : Nat := 0
  overRun : Nat := 0
  devRun : Nat := 0
  inWindow : Bool := false
  /-- Freewheel was entered through the bus (R282). -/
  byBus : Bool := false
  /-- A stop trigger came during Brake (R282). -/
  stopAfterBrake : Bool := false
  /-- A controlled stop waits for the arms (R287). -/
  stopDue : Bool := false
  /-- The stop ends at this lower speed in Accelerate (R296). -/
  stopTo : Option Nat := none
  /-- Short braking below 3 % (R288). -/
  shortBrake : Bool := false
  /-- The pack counts as spinning up (R99). -/
  spinningUp : Bool := false
  /-- Motor part of the coefficient set copied at the entry to Watch: (offset * 256 + subindex, value) (R297). -/
  motor : List (Nat × Nat) := []
  /-- RMS phase current, mA (P+0x30.03). -/
  current : Nat := 0
  /-- The commutation offset, 2^-28 of an electrical revolution, once it has been learned (R278); while it is being learned the first difference,
  the sum of the others from it, and their number. -/
  commutation : Nat := 0
  offsetKnown : Bool := false
  learning : Bool := false
  learnFirst : Nat := 0
  learnSum : Int := 0
  learnCount : Nat := 0
  /-- The electrical angle measured in Watch, with which a catch starts its first period (R285). -/
  caught : Option Nat := none
  missedSamples : Nat := 0
  starts : Nat := 0
  catches : Nat := 0
  faultStops : Nat := 0
  /-- Set-point of the q axis, and the last currents of the d and q axes, Q1.15 of full scale (R278). -/
  qSet : Int := 0
  idLast : Int := 0
  iqLast : Int := 0
  dInteg : Int := 0
  qInteg : Int := 0
  sInteg : Int := 0
  /-- Voltage vector asked for, Q1.15, and the duties of phases U, V, W in ns of on-time (R273). -/
  vd : Int := 0
  vq : Int := 0
  duty : Vector Nat 3 := Vector.replicate 3 0
  /-- The gate outputs of legs U, V, W (R269, R271). -/
  legs : Vector Leg 3 := Vector.replicate 3 {}
  /-- How much earlier the edges of the phase that rises first and later those of the one that rises last lie, ns, and when the shunt is sampled
in the two windows (R274, R276). -/
  shift : Nat × Nat := (0, 0)
  sampleAt : Nat × Nat := (0, 0)
  /-- Electrical angle of the forced start, 2^-28 of a revolution (R278). -/
  forcedAngle : Nat := 0
  /-- Voltage feedforward of a catch: the back-EMF measured in Watch, mV (R285). -/
  feed : Nat := 0
  /-- The short interval of current-limited short braking, ns (R289). -/
  brakeOn : Nat := 0
  /-- On-time owed to each phase by moved edges, ns (R277). -/
  debt : Vector Int 3 := Vector.replicate 3 0
  /-- The q axis is held at zero by bus undervoltage (R294). -/
  noDrive : Bool := false
  deriving DecidableEq, Repr

/-- A motor bus (R291 to R299). -/
structure Bus where
  /-- Bus voltage, mV (0x7032), its peak (0x7034), chopper activations (0x7033). -/
  volts : Nat := 0
  peak : Nat := 0
  activations : Nat := 0
  gate : Bool := false
  feedback : Bool := false
  /-- The chopper fault stays until chip reset (R293). -/
  fault : Bool := false
  freewheel : Bool := false
  undervoltage : Bool := false
  freewheelRun : Nat := 0
  releaseRun : Nat := 0
  faultRun : Nat := 0
  underRun : Nat := 0
  underEndRun : Nat := 0
  deriving DecidableEq, Repr

/-! ### Host ports, connections and rings (11) -/

/-- A framed chain that has not been published: its first index, its length, its status block issued (R370, R376). -/
structure Chain where
  first : Nat
  len : Nat
  done : Bool := false
  deriving DecidableEq, Repr

/-- States of a ring: Active, Fatal with its cause, Deleting (R375, R383, R384). -/
inductive RingState where
  | active
  | fatal (cause : Nat)
  | deleting
  deriving DecidableEq, Repr

/-- A ring (R358, R359, R367). -/
structure Ring where
  num : Nat
  conn : Nat
  /-- Local index on its connection. -/
  loc : Nat
  admin : Bool := false
  /-- 0 Urgent, 1 High, 2 Medium, 3 Low. -/
  cls : Nat := 0
  /-- log2 of slots. -/
  size : Nat := 6
  limit : Nat := 1
  addr : Nat := 0
  key : Nat := 0
  headAddr : Nat := 0
  headKey : Nat := 0
  coalesce : Nat := 0
  notify : Bool := false
  state : RingState := .active
  /-- Indices P, C and the published H (R359). -/
  prod : Nat := 0
  cons : Nat := 0
  head : Nat := 0
  /-- The service context that frames the ring's next chain (sequencer, context), and the slot bytes it has read. -/
  framing : Option (SeqId × CtxId) := none
  fetched : List Byte := []
  /-- Bytes of the descriptor read under way, 0 for none, and of them those of slots already framed. -/
  reading : Nat := 0
  skip : Nat := 0
  /-- Chains framed and not yet published, oldest first. -/
  chains : List Chain := []
  /-- RNR retries made of the notify head word under way (R377). -/
  rnr : Nat := 0
  deriving DecidableEq, Repr

/-- A connection (R353 to R357, R385) with its QP's congestion control (R350). -/
structure Conn where
  num : Nat
  port : PortId
  sub : SubPortId
  management : Bool
  /-- Peer address as a 128-bit number, IPv4 in mapped form. -/
  source : Nat
  /-- Local and remote QP numbers. -/
  qp : Nat
  remote : Nat
  mtu : Nat
  /-- RTU has come: the connection is set up. -/
  ready : Bool := false
  /-- A DREQ has been sent for it. -/
  leaving : Bool := false
  /-- The admin ring asked for in the connect block. -/
  adminRing : Ring
  /-- Doorbell window address and key. -/
  window : Nat := 0
  windowKey : Nat := 0
  /-- Retries of the oldest request unacknowledged (R393), and the limits in force at setup. -/
  retries : Nat := 0
  retryLimit : Nat := 7
  rnrLimit : Nat := 7
  /-- When the last CNP left for the QP (R350). -/
  cnpAt : Option Nat := none
  /-- DCQCN: current rate, target rate in Mbit/s, and alpha in 1/65,536. -/
  rate : Nat := 0
  target : Nat := 0
  alpha : Nat := 65536
  /-- When the rate-increase timer started, bytes sent since the byte counter did, and the expiries of each since the last CNP. -/
  raisedAt : Nat := 0
  sent : Nat := 0
  ticks : Nat := 0
  rounds : Nat := 0
  deriving DecidableEq, Repr

/-- Link states of a sub-port in the order of their codes (R391). -/
inductive SubLink where
  | down | training | up
  deriving DecidableEq, Repr

/-- A host port (R348, R351, R352, R391). -/
structure Port where
  link : Vector SubLink 4 := Vector.replicate 4 .down
  /-- The breakout that the last link training applied: sub-ports 1, 2 or 4. -/
  subs : Nat := 1
  cnps : Vector Nat 4 := Vector.replicate 4 0
  /-- Priorities paused by received PFC frames, per sub-port. -/
  paused : Vector Nat 4 := Vector.replicate 4 0
  deriving DecidableEq, Repr

/-- What every packet of a message carries below its RoCEv2 headers: port, sub-port, first lane and count of lanes (R352); source MAC address
and VLAN ID, 0 for none (R348, R352); network layer, peer address, DSCP, PCP and ECN field (R350, R351); UDP ports (R348). -/
structure Wire where
  port : PortId
  sub : SubPortId
  lane : Nat
  lanes : Nat
  mac : Nat
  vlan : Nat
  ipv6 : Bool
  peer : Nat
  dscp : Nat
  pcp : Nat
  /-- ECT(0) is the codepoint 0b10. -/
  ecn : Nat := 2
  udpSource : Nat
  udpDest : Nat := 4791
  deriving DecidableEq, Repr

/-- A message of the controller to a host. -/
inductive HostMsg where
  /-- An RDMA WRITE on a connection: address, memory key, bytes, immediate data of a notify head word (R348, R377). -/
  | write (conn addr key : Nat) (bytes : List Byte) (imm : Option Nat)
  /-- An RDMA READ request on a connection: address, memory key, length (R362). -/
  | read (conn addr key len : Nat)
  /-- A connection-management message: 1 REP, 2 REJ, 3 DREQ, 4 DREP, with its private data (R353 to R356). -/
  | cm (kind conn : Nat) (data : List Byte)
  /-- A NAK on a connection: 1 Invalid Request, 2 Remote Access Error (R349). -/
  | nak (conn kind : Nat)
  /-- A CNP for a connection's QP (R350). -/
  | cnp (conn : Nat)
  deriving DecidableEq, Repr

/-- The host side as a whole (R389). -/
structure HostSide where
  conns : List Conn := []
  rings : List Ring := []
  ports : Vector Port 16 := Vector.replicate 16 {}
  /-- The ring last served in each class, and the class whose turn it is with the chain starts left to it (R378). -/
  served : Vector Nat 4 := Vector.replicate 4 4095
  turn : Nat := 3
  left : Nat := 0
  fatals : Nat := 0
  ended : Nat := 0
  ignored : Nat := 0
  pauses : Nat := 0
  /-- DELETE_RING commands that wait for a ring: ring deleted, ring and slot of the command (R384). -/
  deletes : List (Nat × Nat × Nat) := []
  /-- Messages that wait for a paused priority of their sub-port, oldest first (R351). -/
  waiting : List (Wire × HostMsg) := []
  deriving DecidableEq, Repr


/-! ### Object store (10) -/

/-- A leaf locator (R309). -/
structure Locator where
  pack : Nat
  band : Nat
  leaf : Nat
  deriving DecidableEq, Repr

/-- An object entry of the index and the slot it lies in (R304). -/
structure ObjEntry where
  slot : Nat
  hash : Nat
  version : Nat
  size : Nat
  span : Nat
  /-- A petit-four object: stripe address, first sector, sector count. -/
  petit : Option (Nat × Nat × Nat) := none
  /-- Runs in order: first stripe address and stripe count. -/
  runs : List (Nat × Nat) := []
  /-- Slots of its extent blocks in chain order (R305). -/
  extents : List Nat := []
  deriving DecidableEq, Repr

/-- States of a stripe entry in the order of their codes (R308). -/
inductive StripeState where
  | free | staged | placing | placed | dead
  deriving DecidableEq, Repr

/-- An object of a petit-four stripe, as its directory names it (R319). -/
structure PetitObj where
  hash : Nat
  first : Nat
  count : Nat
  size : Nat
  deriving DecidableEq, Repr

/-- A stripe of a span (R308) with the bytes it holds. -/
structure Stripe where
  addr : Nat
  gen : Nat
  k : Nat
  m : Nat
  /-- Data leaves present. -/
  present : Nat
  state : StripeState := .staged
  /-- Index slot of its object; none for a petit-four stripe. -/
  owner : Option Nat := none
  /-- Stripe number within the object and the key hash; 0 for a petit-four stripe (R316). -/
  num : Nat := 0
  hash : Nat := 0
  /-- Leaf slots chosen for leaves 0 to k + m - 1 (R314); none for absent leaves and while placement waits. -/
  slots : List (Option Locator) := []
  /-- Leaf locators set: the leaves on media. -/
  locs : List (Option Locator) := []
  /-- Plaintext of the stripe, zero beyond its end (R315). -/
  plain : List Byte := []
  /-- Objects of a petit-four stripe (R319). -/
  dir : List PetitObj := []
  /-- It has been counted lost (R336). -/
  lostCounted : Bool := false
  /-- Leaf sequence of each leaf, given when it was first written (R112, R342); when each was last verified by scrub (R343). -/
  seqs : List (Option Nat) := []
  scrubbed : List (Option Nat) := []
  deriving DecidableEq, Repr

/-- The open petit-four stripe of a span (R318, R320): the sectors in use and when durable and other objects first
entered it. -/
structure OpenPetit where
  addr : Nat
  gen : Nat
  objs : List PetitObj := []
  plain : List Byte := []
  durableAt : Option Nat := none
  lazyAt : Option Nat := none
  deriving DecidableEq, Repr

/-- A band slot of a pack that leaves have been allocated in: its next leaf slot (R310, R314). -/
structure BandUse where
  pack : Nat
  band : Nat
  next : Nat
  /-- It is the open band of its writing arm. -/
  isOpen : Bool := true
  deriving DecidableEq, Repr

/-- A span (R312 to R320, R337, R340, R347). -/
structure Span where
  configured : Bool := false
  members : Nat := 0
  k : Nat := 0
  m : Nat := 0
  /-- XTS key, 512 bits (R316). -/
  key : Nat := 0
  forming : Bool := false
  lost : Bool := false
  stripes : List Stripe := []
  petit : Option OpenPetit := none
  bands : List BandUse := []
  /-- Unique identifiers of the members, as (pack, identifier) (R340). -/
  ids : List (Nat × Nat) := []
  /-- Leaves written so far, the leaf sequence of their tags (R112). -/
  leafSeq : Nat := 0
  /-- Pack last chosen for a leaf (R314). -/
  lastPack : Nat := 31
  /-- Packs whose leaves are being rebuilt (R340), and those being drained to leave the span (R347). -/
  rebuilding : Nat := 0
  leaving : Nat := 0
  /-- Leaves rebuilt since the rebuild began. -/
  rebuilt : Nat := 0
  /-- Leaves read of each member as a survivor of a rebuild (R340). -/
  survived : Vector Nat 32 := Vector.replicate 32 0
  lostStripes : Nat := 0
  deriving DecidableEq, Repr

/-- A key lock: the command that holds it and those that wait, in order of request (R325). -/
structure KeyLock where
  hash : Nat
  holder : Option (Nat × Nat)
  waiters : List (Nat × Nat) := []
  deriving DecidableEq, Repr

/-- An index change that is not committed: the slot, the new entry or none, the stripes it rests on, and the durable command
that waits for it (R323, R332, R333). -/
structure Change where
  slot : Nat
  hash : Nat
  entry : Option ObjEntry
  needs : List (Nat × Nat) := []
  /-- The version that the command reports. -/
  gen : Nat
  /-- Ring and slot of a durable command. -/
  durable : Option (Nat × Nat) := none
  deriving DecidableEq, Repr

/-- What a journal record carries (R332). -/
inductive JournalBody where
  | image (e : ObjEntry)
  | extent (slot : Nat) (e : ObjEntry)
  | freed (slot hash : Nat)
  | stripe (span : Nat) (st : Stripe)
  | counter (v : Nat)
  | mark (segment : Nat)
  deriving DecidableEq, Repr

/-- A journal record waiting for its sector (R332); `fin` is the change whose last record it is. -/
structure JournalRec where
  seq : Nat
  body : JournalBody
  fin : Option Change := none
  deriving DecidableEq, Repr

/-- A leaf being written: routine tag, stripe and leaf, and the leaf slot (R335). -/
structure LeafWrite where
  tag : Nat
  span : Nat
  addr : Nat
  leaf : Nat
  loc : Locator
  /-- The kind of background work it belongs to (R339): 0 rebuild, 1 compaction and drain, 2 scrub, 3 self-test. -/
  back : Option Nat := none
  deriving DecidableEq, Repr

/-- A leaf that the object layer has asked a formatter to read (R181, R186, R336, R340 to R343). -/
structure LeafJob where
  tag : Nat
  span : Nat
  addr : Nat
  leaf : Nat
  pack : Nat
  arm : Nat
  full : Bool
  verify : Bool := false
  /-- Ring and slot of the command that it is for. -/
  who : Option (Nat × Nat) := none
  back : Option Nat := none
  /-- The outcome and step that it ended with (R182, R183). -/
  ended : Option (Nat × Nat) := none
  deriving DecidableEq, Repr

/-- The version that a GET found, held until it completes (R324). -/
structure HeldGet where
  ring : Nat
  slot : Nat
  entry : ObjEntry
  deriving DecidableEq, Repr

/-- A background request that waits in the hub for its arm's formatter (R339). -/
structure BackRequest where
  pack : Nat
  arm : Nat
  kind : Nat
  req : List Byte
  deriving DecidableEq, Repr

/-- A segment as the checkpoint writer left it (R334): its number, the sequence of its mark, and the journal position where the mark was
queued; the object entries and the stripes, by span, that it holds. -/
structure DiskSegment where
  num : Nat
  mark : Nat
  position : Nat
  objs : List ObjEntry
  stripes : List (Nat × Stripe)
  deriving DecidableEq, Repr

/-- What the media hold of the store (R334). -/
structure Disk where
  present : Bool := false
  hashKey : Nat := 0
  slots : Nat := 0
  counter : Nat := 0
  objs : List ObjEntry := []
  spans : Vector Span 8 := Vector.replicate 8 {}
  seq : Nat := 0
  packs : List Nat := []
  /-- The newest segment written by the checkpoint writer. -/
  segment : Nat := 0
  /-- The segments, and the committed records that the journal holds, oldest first. -/
  segs : List DiskSegment := []
  log : List JournalRec := []
  /-- An escrow block stands beside the wrapped block (R547). -/
  escrow : Bool := false
  deriving DecidableEq, Repr

/-- Background work granted to an arm for its 1 s window, ns of routine time: in all, and to rebuild, compaction, scrub and
self-test (R339). -/
structure BackWindow where
  pack : Nat
  arm : Nat
  start : Nat
  total : Nat
  parts : List Nat
  /-- Routine time that each has used. -/
  used : List Nat := [0, 0, 0, 0]
  deriving DecidableEq, Repr

/-- Self-tests (R344): the one running, and packs as bits. -/
structure SelfTest where
  kind : Nat := 0
  running : Nat := 0
  passed : Nat := 0
  failed : Nat := 0
  stopped : Nat := 0
  /-- Its routines: tag, pack, arm (R344). -/
  jobs : List (Nat × Nat × Nat) := []
  deriving DecidableEq, Repr

/-- The object store (R300 to R347). -/
structure Store where
  /-- The store has been initialised or replayed since Boot. -/
  formed : Bool := false
  /-- It counts as open for R525 (R334). -/
  isOpen : Bool := false
  hashKey : Nat := 0
  counter : Nat := 0
  /-- Index slots, S_idx (R302). -/
  slots : Nat := 0
  objs : List ObjEntry := []
  spans : Vector Span 8 := Vector.replicate 8 {}
  locks : List KeyLock := []
  changes : List Change := []
  journal : List JournalRec := []
  nextSeq : Nat := 1
  committed : Nat := 0
  /-- Journal packs, and those of them that hold the current checkpoint and journal (R331). -/
  packs : List Nat := []
  current : List Nat := []
  segment : Nat := 0
  writes : List LeafWrite := []
  nextTag : Nat := 0
  /-- Leaves queued for relocation: span, stripe address, leaf (R186, R342). -/
  relocate : List (Nat × Nat × Nat) := []
  /-- Leaves being read, versions that GETs hold, background requests that wait. -/
  reads : List LeafJob := []
  gets : List HeldGet := []
  back : List BackRequest := []
  /-- The next journal position (R332). -/
  position : Nat := 0
  indexFull : Nat := 0
  dataLost : Nat := 0
  windows : List BackWindow := []
  selfTest : SelfTest := {}
  disk : Disk := {}
  deriving DecidableEq, Repr


/-! ### Buffer memory and near cache (12) -/

/-- A code word of buffer memory that differs from zero data with valid check bytes: granule, data, check bytes (R396, R397). -/
structure CodeWord where
  gran : Nat
  data : Nat
  check : Nat
  deriving DecidableEq, Repr

/-- A GDDR7 channel (R395 to R404, R425). -/
structure MemChan where
  /-- Code of 0x6001. -/
  state : Nat := 0
  epoch : Nat := 0
  /-- The background fill has written the segments below this one; segments beyond whose valid bit a write set (R403). -/
  filled : Nat := 0
  valid : List Nat := []
  corrected : Nat := 0
  errors : Nat := 0
  /-- Refresh commands issued (R395). -/
  refreshes : Nat := 0
  deriving DecidableEq, Repr

/-- A line of the near cache (R412): its place, its line address, the valid and dirty bits and data of its granules, its age. -/
structure Line where
  set : Nat
  way : Nat
  addr : Nat
  valid : Nat
  dirty : Nat
  age : Nat
  lo : Nat := 0
  hi : Nat := 0
  deriving DecidableEq, Repr

/-- A range operation under way (R419). -/
structure RangeOp where
  code : Nat
  base : Nat
  length : Nat
  mask : Nat
  deriving DecidableEq, Repr

/-- Buffer memory and its near cache. -/
structure Buffer where
  /-- The power-on fill has ended (R402). -/
  reachable : Bool := false
  /-- Device density in force since Boot, Gbit; 0 before (R394). -/
  density : Nat := 0
  /-- Pin rate in force since Boot, Gbit/s; 0 before (R394). -/
  pinRate : Nat := 0
  words : List CodeWord := []
  chans : Vector MemChan 24 := Vector.replicate 24 {}
  fillTime : Nat := 0
  checkerPassed : Nat := 0
  /-- 0x6004, newest first. -/
  errorLog : List Nat := []
  /-- Base in GiB and size in MiB of regions 1 to 5 (R401). -/
  regions : List (Nat × Nat) := []
  checkCapture : Nat := 0
  verdict : Nat := 0
  lines : List Line := []
  op : Option RangeOp := none
  /-- A disable is in progress (R423). -/
  disabling : Bool := false
  result : Nat := 0
  skipped : Nat := 0
  hits : Nat := 0
  misses : Nat := 0
  writtenBack : Nat := 0
  bypasses : Nat := 0
  sramCorrected : Nat := 0
  sramUncorrectable : Nat := 0
  /-- Granules that the scrubber has read in the scrub period that began at `scrubFrom` (R410). -/
  scrubbed : List Nat := []
  scrubFrom : Nat := 0
  deriving DecidableEq, Repr

/-! ### Data movers (13) -/

/-- A descriptor in a mover channel: its bytes and the token that names it, 0 for the firmware's (R428). -/
structure MoverReq where
  desc : List Byte
  token : Nat
  deriving DecidableEq, Repr

/-- A descriptor that has started (R441 to R444). -/
structure MoverRun where
  req : MoverReq
  status : Nat := 0
  /-- Stream bytes moved; the bytes of the source not yet written. -/
  done : Nat := 0
  stream : List Byte := []
  ops : Nat := 0
  held : Nat := 0
  /-- Its last read has been issued. -/
  readsDone : Bool := false
  deriving DecidableEq, Repr

/-- A mover channel (R427 to R445). -/
structure Mover where
  queue : List MoverReq := []
  /-- Submissions waiting for a free place or for the bank's power. -/
  waiting : List MoverReq := []
  running : List MoverRun := []
  allowance : Int := 0
  completed : Nat := 0
  moved : Nat := 0
  failed : Nat := 0
  deriving DecidableEq, Repr


/-! ### The machine -/

/-- One lane: (pack, arm, head) (R21). -/
structure Lane where
  /-- Lane skew S_h (R34). -/
  skew : Int := 0
  time : TimeStatus := .notMeasured
  /-- Sum and count of the lane's phase errors over the current revolution (R51). -/
  driftSum : Int := 0
  driftCount : Nat := 0
  /-- Sum and count of its raw phase errors in the skew measurement (R49). -/
  measSum : Int := 0
  measCount : Nat := 0
  servo : HeadServo := {}
  chan : Channel := {}
  health : Health := {}
  deriving DecidableEq, Repr

/-- One arm of a pack (R21). -/
structure Arm where
  link : ArmLink := {}
  servo : ArmServo := {}
  fmt : Formatter := {}
  /-- The lane group domain is on (R161, R162). -/
  laneGroup : Bool := false
  /-- Arm synthesizer rate, samples per second (R27). -/
  synth : Nat := 0
  /-- The rate that the last SEEK asks for, applied at a wedge boundary with no gate of the arm open; 0 none (R27). -/
  synthWant : Nat := 0
  /-- Write width and active-lane limit as the tile applies them (R18, R163). -/
  width : Nat := 16
  activeLimit : Nat := 16
  lanes : Vector Lane 16 := Vector.replicate 16 {}
  /-- Deliveries that the hub holds of the arm's routine, oldest first (R207). -/
  received : List Delivery := []
  deriving DecidableEq, Repr

/-- One pack port with its pack (R21, R22). -/
structure Pack where
  state : PackState := .absent
  cause : Nat := 0
  tb : TimeBase := {}
  identity : Option Identity := none
  factory : Option Factory := none
  /-- The identity block that passed R68, accepted or not: the limits that R100 uses. -/
  block : Option Identity := none
  unsignedFlag : Bool := false
  counterfeit : Bool := false
  removable : Bool := false
  /-- A Prepare removal command waits for the spindle to fall below 1 % (R95). -/
  removalDue : Bool := false
  /-- The settle timer runs (R93). -/
  settling : Bool := false
  life : Life := {}
  /-- The life record of the pack seated has been read (R76). -/
  lifeRead : Bool := false
  log : PackLog := {}
  i2c : I2c := {}
  sensors : Sensors := {}
  /-- P+0x2B.01 to .06 as the arm units use them (R268). -/
  tuning : List Nat := [123, 82, 82, 4, 4, 24]
  media : Media := {}
  spindle : Spindle := {}
  arms : Vector Arm 2 := Vector.replicate 2 {}
  deriving DecidableEq, Repr

/-- A lane tile's own blocks (R22). -/
structure Tile where
  /-- Its die-to-die link is in service (R23). -/
  linkUp : Bool := true
  /-- The tile has lost the link from its own side (R23). -/
  orphaned : Bool := false
  /-- Its PLL is in holdover (R28). -/
  holdover : Bool := false
  /-- Its servo engine pair is out until chip reset (R266). -/
  servoOut : Bool := false
  deriving DecidableEq, Repr

/-- The cells that a write gate drove for a fragment of a sector (R116, R151, R152): their number and their levels, cell i in bit
i; the cells that begin with a transition shifted late by the first and by the second precompensation value, and those values
in 1/256 cell; how early the pair was launched, in 0.1 ns; and whether the write was cut. -/
structure Driven where
  addr : Nat
  fragment : Nat
  len : Nat
  bits : Nat
  late1 : Nat
  late2 : Nat
  delay1 : Nat
  delay2 : Nat
  early : Nat
  cut : Bool
  deriving DecidableEq, Repr

/-- What the block sends out (frames, messages, transfers and interrupts), oldest first. -/
inductive Out where
  /-- An interrupt or non-maskable trap to a cluster, carrying a source (R494). -/
  | irq (cluster : Nat) (trap : Bool) (source : Nat)
  /-- A downstream frame of an arm link, its bytes with the CRC (R79). -/
  | frame (pack arm : Nat) (bytes : List Byte)
  /-- A sector's delivery to the hub: routine tag, restart count, status word, bytes (R183, R185, R207). -/
  | sector (pack arm head tag restart status : Nat) (data : List Byte)
  /-- A routine's completion record (R210). -/
  | completion (pack arm : Nat) (record : List Byte)
  /-- The report of a torn sector (R187). -/
  | torn (pack arm head addr : Nat)
  /-- What a lane's write gate drove on its pair (R149, R151). -/
  | media (pack arm head : Nat) (x : Driven)
  /-- A copy of the defect list goes to the system area of a surface, at track 64 (R132, R133). -/
  | defectList (pack surface track : Nat) (bytes : List Byte)
  /-- The band slots of a pack go to its pack metadata (R127, R133): surface, slot, type code, write pointer, list sequence at the last reset. -/
  | bands (pack : Nat) (list : List BandImage)
  /-- The suspects go to the pack metadata: addresses, and whether each has been written since (R190). -/
  | suspects (pack : Nat) (list : List (Nat × Bool))
  /-- A pack is reported lost to its span (R90, R94). -/
  | packLost (pack : Nat)
  /-- A die-to-die keep-alive frame, by the hub or by the tile (R23). -/
  | keepAlive (tile : Nat) (byHub : Bool)
  /-- A message of an I2C bus: nine SCL pulses and STOP (R64), or a write of bytes at a word address (R63). -/
  | i2cRecover (pack : Nat)
  | i2cWrite (pack addr : Nat) (bytes : List Byte)
  /-- A message to a host, and what its packets carry (R348 to R352). -/
  | host (w : Wire) (m : HostMsg)
  /-- The ciphertext of a leaf as it goes to the tile for its leaf slot (R316, R317, R335). -/
  | leafData (pack band leaf : Nat) (bytes : List Byte)
  /-- A journal sector, user bytes and tag, goes to a journal pack (R332); a 1 MiB segment of the checkpoint does, to the tracks from the
  address of its first sector on, with the wrapped block and, where
  one is kept, the escrow block (R334, R546, R547). -/
  | journal (pack : Nat) (bytes : List Byte)
  | checkpoint (pack segment addr : Nat) (bytes : List Byte) (escrow : Bool)
  /-- What a read of buffer memory answers to its requester class: the bytes, or none with an error (R399, R414). -/
  | bufferData (cls : Nat) (bytes : Option (List Byte))
  /-- A USDO answer to a client: an abort code or 0, and the bytes of an upload (R459). -/
  | usdo (client abort : Nat) (data : List Byte)
  /-- The boot-up message, a heartbeat with its NMT state, and an EMCY message with its fields (R460, R461). -/
  | bootUp (node : Nat)
  | heartbeat (node : Nat) (nmt : Nmt)
  | emcy (code register : Nat) (field : List Byte)
  /-- A request to an engine of R219, with its token and body. -/
  | engine (sel token : Nat) (body : List Reg64)
  /-- RAIL_EN[r] as it changes (R518). -/
  | rail (r : Nat) (on : Bool)
  /-- The flash is written: area of R530 (0 stored layer, 1 boot selector), the half or copy. -/
  | flashWrite (area half : Nat)
  deriving DecidableEq, Repr

/-- The whole machine. -/
structure State where
  /-- Commands waiting, first in first out. -/
  pending : List Instr := []
  /-- Time in ns since reset: one tile core clock cycle each (R26, assumption 1). -/
  now : Nat := 0
  /-- How many free values the run has used (assumption 2). -/
  free : Nat := 2
  part : Part := .qh1024
  tiles : Vector Tile 8 := Vector.replicate 8 {}
  packs : Vector Pack 32 := Vector.replicate 32 {}
  /-- Packs waiting for spin-up in order of arrival (R98). -/
  spinQueue : List PackId := []
  buses : Vector Bus 4 := Vector.replicate 4 {}
  /-- Control store of the formatters: the same section in each of them (R223). -/
  fmtStore : ControlStore := {}
  svc : Service := {}
  bench : Bench := {}
  ref100Lost : Bool := false
  ref156Lost : Bool := false
  dict : Dict := {}
  lock : DictLock := {}
  host : HostSide := {}
  store : Store := {}
  buf : Buffer := {}
  movers : Vector Mover 32 := Vector.replicate 32 {}
  lastMoverError : Nat := 0
  layers : Layers := {}
  raw : RawAccess := {}
  can : Can := {}
  /-- Dictionary accesses held during a fail-over, oldest first (R466). -/
  heldAccess : List DictReq := []
  faults : FaultBlock := {}
  inputs : Inputs := {}
  clusters : Clusters := {}
  arbiter : Arbiter := {}
  injection : Injection := {}
  dev : Device := {}
  boot : Boot := {}
  rails : Vector Rail 8 := Vector.replicate 8 {}
  domains : Vector Domain 178 := Vector.replicate 178 {}
  flash : Flash := {}
  fuses : Fuses := {}
  window : FlashWindow := {}
  sec : Security := {}
  recorder : Recorder := {}
  /-- Status and head writes held for the standby's acknowledgement, with the mirror sequence they wait for (R504), or for
  the release of the hub (R387). -/
  mirrorHeld : List (HostMsg × Nat) := []
  /-- Cluster service responses held in the same way: token, error, and the mirror sequence they wait for (R504). -/
  heldTokens : List (Nat × Bool × Nat) := []
  /-- Deliveries and completions held in the tiles while the die-to-die link does not take them: pack and message, oldest first (R24,
  R25). -/
  tileHeld : List (PackId × ArmId × Out) := []
  out : List Out := []
  deriving DecidableEq, Repr

/-- A command ends in no fault: what the manual calls a fault of the part is an effect on the state. -/
inductive Fault where
  deriving DecidableEq, Repr

/-- Why a command has no meaning here. -/
inductive Refusal where
  /-- Raised by an arm of `exec` whose command has no meaning yet; safe: the run stops. -/
  | notModelled (mnemonic : String)
  deriving DecidableEq, Repr

/-- The machine right after a chip reset: every field at its reset value. -/
def State.reset : State := {}

end Sys2Proof.Machine
end

