-- ==== Sys2Proof/Machine/DictTable.lean ====
section
/-! DEFINITION. The object dictionary's entries (R446 to R453): for every entry its type, access, default, the states
it is changeable in, whether it is overlayable, and its range, area by area as the chapters' entry tables give them. -/

namespace Sys2Proof.Machine

/-- Data types (R449); strings and domains carry their largest length. -/
inductive VType where
  | u8 | u16 | u32 | u40 | u48 | u64 | i8 | i16 | i32
  | str (n : Nat) | oct (n : Nat) | dom (n : Nat)
  deriving DecidableEq, Repr

/-- Access codes (R9). -/
inductive Access where
  | ro | rw | wo | rwl
  deriving DecidableEq, Repr

/-- The range a write must lie in, read with the entry's type (R448 check 6). -/
inductive Range where
  | any
  | within (lo hi : Int)
  | withinOr (lo hi other : Int)
  | oneOf (l : List Nat)
  /-- Filter coefficients whose last subindex is a post-shift, 0 to 3 (R267, R297). -/
  | shiftLast
  /-- FIR taps: tap 5 is 8,192 to 32,767 (R136). -/
  | tap5
  /-- A 16-byte prefix and its length, 0 to 128 (R389). -/
  | pre
  /-- A physical address, whose sector 2,047 is reserved (R13, R121). -/
  | address
  deriving DecidableEq, Repr

/-- A row of an entry table: index or block offset, its subindexes, and the entry's description. -/
structure Row where
  off : Nat
  lo : Nat
  hi : Nat
  ty : VType
  acc : Access
  /-- Defaults by subindex; the last stands for the rest. -/
  dflt : List Nat := [0]
  img : Bool := false
  /-- States of R524 in which it is changeable: bit of the state's code. -/
  chg : Nat := 0
  ovl : Bool := false
  rng : Range := .any
  /-- The bits that are not reserved, where some are (R12). -/
  mask : Option Nat := none
  deriving DecidableEq, Repr

/-- Pack blocks, offsets from P (R451) (part). -/
def packRows0 : List Row := [
  { off := 0x20, lo := 1, hi := 1, ty := .u8, acc := .ro },
  { off := 0x20, lo := 2, hi := 2, ty := .u40, acc := .ro },
  { off := 0x20, lo := 3, hi := 3, ty := .u32, acc := .ro },
  { off := 0x20, lo := 4, hi := 4, ty := .u16, acc := .rw, dflt := [32], chg := 420, rng := (.within 16 512) },
  { off := 0x20, lo := 5, hi := 5, ty := .u32, acc := .rw, dflt := [4096], chg := 420, rng := (.within 512 16384) },
  { off := 0x20, lo := 6, hi := 6, ty := .u32, acc := .rw, dflt := [32768], chg := 420, rng := (.within 8192 131072) },
  { off := 0x20, lo := 7, hi := 7, ty := .u8, acc := .rw, dflt := [8], chg := 420, rng := (.within 2 32) },
  { off := 0x20, lo := 8, hi := 8, ty := .u32, acc := .rw, dflt := [524288], chg := 420, rng := (.within 0 16777216) },
  { off := 0x20, lo := 9, hi := 9, ty := .u8, acc := .rw, dflt := [2], chg := 420, rng := (.within 0 3) },
  { off := 0x20, lo := 10, hi := 10, ty := .u32, acc := .rw, chg := 292, rng := (.within 0 1048575) },
  { off := 0x20, lo := 11, hi := 11, ty := .u32, acc := .rw, chg := 292, rng := (.within 0 262143) },
  { off := 0x20, lo := 12, hi := 12, ty := .u32, acc := .ro },
  { off := 0x20, lo := 13, hi := 13, ty := .u32, acc := .ro },
  { off := 0x20, lo := 14, hi := 14, ty := .u32, acc := .ro },
  { off := 0x21, lo := 1, hi := 32, ty := .i16, acc := .ro },
  { off := 0x22, lo := 1, hi := 32, ty := .u8, acc := .ro },
  { off := 0x23, lo := 1, hi := 2, ty := .u32, acc := .ro },
  { off := 0x0, lo := 1, hi := 1, ty := .u8, acc := .ro },
  { off := 0x0, lo := 2, hi := 2, ty := .u16, acc := .ro },
  { off := 0x0, lo := 3, hi := 3, ty := .u8, acc := .ro },
  { off := 0x0, lo := 4, hi := 4, ty := .u8, acc := .wo, chg := 480, rng := (.within 1 4) },
  { off := 0x0, lo := 5, hi := 5, ty := .u16, acc := .ro },
  { off := 0x1, lo := 1, hi := 1, ty := (.str 20), acc := .ro },
  { off := 0x1, lo := 2, hi := 2, ty := .u64, acc := .ro }]

/-- Pack blocks, offsets from P (R451) (part). -/
def packRows1 : List Row := [
  { off := 0x1, lo := 3, hi := 3, ty := .u32, acc := .ro },
  { off := 0x1, lo := 4, hi := 4, ty := .u32, acc := .ro },
  { off := 0x2, lo := 1, hi := 5, ty := .u16, acc := .ro },
  { off := 0x2, lo := 6, hi := 6, ty := .u16, acc := .ro },
  { off := 0x3, lo := 1, hi := 32, ty := .u64, acc := .ro },
  { off := 0x4, lo := 1, hi := 2, ty := .u8, acc := .ro },
  { off := 0x4, lo := 3, hi := 4, ty := .u32, acc := .ro },
  { off := 0x5, lo := 1, hi := 1, ty := .i8, acc := .ro },
  { off := 0x5, lo := 2, hi := 2, ty := .u8, acc := .ro },
  { off := 0x6, lo := 1, hi := 1, ty := .u8, acc := .ro, dflt := [255] },
  { off := 0x6, lo := 2, hi := 2, ty := .u8, acc := .ro },
  { off := 0x6, lo := 3, hi := 3, ty := .u32, acc := .ro },
  { off := 0x6, lo := 4, hi := 4, ty := .u32, acc := .ro },
  { off := 0x6, lo := 5, hi := 5, ty := .u32, acc := .ro },
  { off := 0x6, lo := 6, hi := 6, ty := .u32, acc := .ro },
  { off := 0x8, lo := 1, hi := 32, ty := .u8, acc := .ro },
  { off := 0x9, lo := 1, hi := 2, ty := .u8, acc := .rw, dflt := [16], chg := 484, ovl := true, rng := (.within 1 16) },
  { off := 0x9, lo := 3, hi := 4, ty := .u8, acc := .rw, dflt := [16], chg := 484, ovl := true, rng := (.within 1 16) },
  { off := 0x9, lo := 5, hi := 5, ty := .u16, acc := .rw, dflt := [200], chg := 484, ovl := true, rng := (.within 10 10000) },
  { off := 0x9, lo := 6, hi := 6, ty := .u16, acc := .rw, dflt := [3072], chg := 420, rng := (.within 0 10240) },
  { off := 0x9, lo := 7, hi := 7, ty := .u16, acc := .rw, dflt := [2432], chg := 420, rng := (.within 0 10240) },
  { off := 0x9, lo := 8, hi := 9, ty := .u8, acc := .ro },
  { off := 0xA, lo := 1, hi := 32, ty := .u64, acc := .ro },
  { off := 0xB, lo := 1, hi := 32, ty := .u64, acc := .ro }]

/-- Pack blocks, offsets from P (R451) (part). -/
def packRows2 : List Row := [
  { off := 0xC, lo := 1, hi := 32, ty := .u32, acc := .ro },
  { off := 0xD, lo := 1, hi := 32, ty := .u32, acc := .ro },
  { off := 0xE, lo := 1, hi := 32, ty := .u32, acc := .ro },
  { off := 0xF, lo := 1, hi := 32, ty := .i16, acc := .ro },
  { off := 0x10, lo := 1, hi := 32, ty := .u16, acc := .ro },
  { off := 0x11, lo := 1, hi := 32, ty := .u32, acc := .ro },
  { off := 0x12, lo := 1, hi := 32, ty := .u32, acc := .ro },
  { off := 0x13, lo := 1, hi := 32, ty := .u8, acc := .ro },
  { off := 0x14, lo := 1, hi := 7, ty := .u32, acc := .ro },
  { off := 0x14, lo := 8, hi := 8, ty := .u32, acc := .ro },
  { off := 0x14, lo := 9, hi := 9, ty := .u32, acc := .ro },
  { off := 0x14, lo := 10, hi := 10, ty := .u32, acc := .ro },
  { off := 0x14, lo := 11, hi := 11, ty := .u32, acc := .ro },
  { off := 0x14, lo := 12, hi := 12, ty := .u32, acc := .ro },
  { off := 0x14, lo := 13, hi := 13, ty := .u16, acc := .ro },
  { off := 0x15, lo := 1, hi := 1, ty := .u8, acc := .rw, dflt := [3], chg := 420, rng := (.within 0 6) },
  { off := 0x15, lo := 2, hi := 2, ty := .u8, acc := .rw, dflt := [2], chg := 420, rng := (.within 0 4) },
  { off := 0x15, lo := 3, hi := 3, ty := .u8, acc := .rw, dflt := [16], chg := 420, rng := (.within 6 31) },
  { off := 0x15, lo := 4, hi := 4, ty := .u8, acc := .rw, dflt := [16], chg := 420, rng := (.within 4 16) },
  { off := 0x15, lo := 5, hi := 5, ty := .u8, acc := .rw, dflt := [64], chg := 420, rng := (.within 16 64) },
  { off := 0x15, lo := 6, hi := 6, ty := .u8, acc := .rw, dflt := [16], chg := 420, rng := (.within 1 16) },
  { off := 0x15, lo := 7, hi := 7, ty := .u16, acc := .rw, dflt := [1400], chg := 420, rng := (.within 0 4160) },
  { off := 0x15, lo := 8, hi := 8, ty := .u8, acc := .rw, dflt := [15], chg := 420, rng := (.within 4 40) },
  { off := 0x15, lo := 9, hi := 9, ty := .u8, acc := .rw, dflt := [30], chg := 420, rng := (.within 5 60) }]

/-- Pack blocks, offsets from P (R451) (part). -/
def packRows3 : List Row := [
  { off := 0x15, lo := 10, hi := 10, ty := .u8, acc := .rw, dflt := [2], chg := 484, ovl := true, rng := (.within 1 5) },
  { off := 0x16, lo := 1, hi := 32, ty := .i8, acc := .ro },
  { off := 0x17, lo := 1, hi := 9, ty := .u32, acc := .ro },
  { off := 0x18, lo := 1, hi := 2, ty := .u32, acc := .ro },
  { off := 0x18, lo := 3, hi := 4, ty := .u32, acc := .ro },
  { off := 0x18, lo := 5, hi := 6, ty := .u8, acc := .ro },
  { off := 0x18, lo := 7, hi := 8, ty := .u8, acc := .ro },
  { off := 0x24, lo := 1, hi := 2, ty := .u8, acc := .ro },
  { off := 0x24, lo := 3, hi := 4, ty := .u32, acc := .ro },
  { off := 0x24, lo := 5, hi := 6, ty := .u32, acc := .ro },
  { off := 0x24, lo := 7, hi := 8, ty := .u32, acc := .ro },
  { off := 0x24, lo := 9, hi := 10, ty := .u32, acc := .ro },
  { off := 0x24, lo := 11, hi := 12, ty := .u32, acc := .ro },
  { off := 0x24, lo := 13, hi := 14, ty := .u32, acc := .ro },
  { off := 0x24, lo := 15, hi := 16, ty := .u32, acc := .ro },
  { off := 0x25, lo := 1, hi := 32, ty := .u8, acc := .ro },
  { off := 0x26, lo := 1, hi := 32, ty := .i16, acc := .ro },
  { off := 0x27, lo := 1, hi := 32, ty := .u16, acc := .ro },
  { off := 0x28, lo := 1, hi := 32, ty := .u32, acc := .ro },
  { off := 0x29, lo := 1, hi := 32, ty := .u32, acc := .ro },
  { off := 0x2A, lo := 1, hi := 32, ty := .u32, acc := .ro },
  { off := 0x2B, lo := 1, hi := 1, ty := .u16, acc := .rw, dflt := [123], chg := 420, rng := (.within 41 512) },
  { off := 0x2B, lo := 2, hi := 2, ty := .u16, acc := .rw, dflt := [82], chg := 420, rng := (.within 20 512) },
  { off := 0x2B, lo := 3, hi := 3, ty := .u16, acc := .rw, dflt := [82], chg := 420, rng := (.within 20 512) }]

/-- Pack blocks, offsets from P (R451) (part). -/
def packRows4 : List Row := [
  { off := 0x2B, lo := 4, hi := 4, ty := .u8, acc := .rw, dflt := [4], chg := 420, rng := (.within 1 64) },
  { off := 0x2B, lo := 5, hi := 5, ty := .u8, acc := .rw, dflt := [4], chg := 420, rng := (.within 0 23) },
  { off := 0x2B, lo := 6, hi := 6, ty := .u16, acc := .rw, dflt := [24], chg := 420, rng := (.within 8 1024) },
  { off := 0x30, lo := 1, hi := 1, ty := .u8, acc := .ro },
  { off := 0x30, lo := 2, hi := 2, ty := .u16, acc := .ro },
  { off := 0x30, lo := 3, hi := 3, ty := .u16, acc := .ro },
  { off := 0x30, lo := 4, hi := 4, ty := .u8, acc := .ro },
  { off := 0x30, lo := 5, hi := 5, ty := .u32, acc := .ro },
  { off := 0x30, lo := 6, hi := 6, ty := .u32, acc := .ro },
  { off := 0x30, lo := 7, hi := 7, ty := .u32, acc := .ro },
  { off := 0x30, lo := 8, hi := 8, ty := .u32, acc := .ro },
  { off := 0x30, lo := 9, hi := 9, ty := .u32, acc := .ro },
  { off := 0x31, lo := 1, hi := 1, ty := .u8, acc := .rw, chg := 484, ovl := true, rng := (.within 0 1) }]

/-- Pack blocks, offsets from P (R451). -/
def packRows : List Row := packRows0 ++ packRows1 ++ packRows2 ++ packRows3 ++ packRows4

/-- Coefficient sets, offsets from S (R452) (part). -/
def setRows0 : List Row := [
  { off := 0x0, lo := 1, hi := 1, ty := .u32, acc := .rw, img := true, chg := 292 },
  { off := 0x0, lo := 2, hi := 2, ty := .u16, acc := .rw, img := true, chg := 292 },
  { off := 0x1, lo := 1, hi := 4, ty := .i16, acc := .rw, img := true, chg := 292, rng := .shiftLast },
  { off := 0x2, lo := 1, hi := 4, ty := .i16, acc := .rw, img := true, chg := 292, rng := .shiftLast },
  { off := 0x3, lo := 1, hi := 6, ty := .i16, acc := .rw, img := true, chg := 292, rng := .shiftLast },
  { off := 0x4, lo := 1, hi := 6, ty := .i16, acc := .rw, img := true, chg := 292, rng := .shiftLast },
  { off := 0x5, lo := 1, hi := 1, ty := .i16, acc := .rw, img := true, chg := 292 },
  { off := 0x5, lo := 2, hi := 2, ty := .i16, acc := .rw, img := true, chg := 292 },
  { off := 0x5, lo := 3, hi := 3, ty := .i16, acc := .rw, img := true, chg := 292 },
  { off := 0x5, lo := 4, hi := 4, ty := .u8, acc := .rw, img := true, chg := 292, rng := (.within 1 64) },
  { off := 0x6, lo := 1, hi := 16, ty := .i16, acc := .rw, img := true, chg := 292, rng := .shiftLast },
  { off := 0x7, lo := 1, hi := 5, ty := .i16, acc := .rw, img := true, chg := 292, rng := .shiftLast },
  { off := 0x8, lo := 1, hi := 6, ty := .i16, acc := .rw, img := true, chg := 292, rng := .shiftLast },
  { off := 0x9, lo := 1, hi := 6, ty := .i16, acc := .rw, img := true, chg := 292, rng := .shiftLast },
  { off := 0xA, lo := 1, hi := 6, ty := .i16, acc := .rw, img := true, chg := 292, rng := .shiftLast },
  { off := 0xB, lo := 1, hi := 6, ty := .i16, acc := .rw, img := true, chg := 292, rng := .shiftLast },
  { off := 0xC, lo := 1, hi := 16, ty := .i16, acc := .rw, img := true, chg := 292, rng := (.within 0 32767) },
  { off := 0xD, lo := 1, hi := 4, ty := .i16, acc := .rw, img := true, chg := 292, rng := .shiftLast },
  { off := 0xD, lo := 5, hi := 5, ty := .u16, acc := .rw, img := true, chg := 292, rng := (.within 100 4000) },
  { off := 0xD, lo := 6, hi := 6, ty := .u16, acc := .rw, img := true, chg := 292 },
  { off := 0xD, lo := 7, hi := 7, ty := .u16, acc := .rw, img := true, chg := 292 },
  { off := 0xD, lo := 8, hi := 8, ty := .u16, acc := .rw, img := true, chg := 292 },
  { off := 0xD, lo := 9, hi := 9, ty := .i16, acc := .rw, img := true, chg := 292, rng := (.within 16384 32112) },
  { off := 0xE, lo := 1, hi := 1, ty := .u16, acc := .rw, img := true, chg := 292 }]

/-- Coefficient sets, offsets from S (R452) (part). -/
def setRows1 : List Row := [
  { off := 0xE, lo := 2, hi := 2, ty := .u16, acc := .rw, img := true, chg := 292 },
  { off := 0xE, lo := 3, hi := 4, ty := .i16, acc := .rw, img := true, chg := 292 },
  { off := 0xF, lo := 1, hi := 1, ty := .u16, acc := .rw, img := true, chg := 292 },
  { off := 0xF, lo := 2, hi := 2, ty := .u8, acc := .rw, img := true, chg := 292, rng := (.within 5 200) },
  { off := 0xF, lo := 3, hi := 3, ty := .u32, acc := .rw, img := true, chg := 292 },
  { off := 0xF, lo := 4, hi := 5, ty := .u16, acc := .rw, img := true, chg := 292 },
  { off := 0xF, lo := 6, hi := 6, ty := .u8, acc := .rw, img := true, chg := 292, rng := (.within 5 200) },
  { off := 0xF, lo := 7, hi := 7, ty := .u16, acc := .rw, img := true, chg := 292, rng := (.within 100 450) },
  { off := 0xF, lo := 8, hi := 9, ty := .i8, acc := .rw, img := true, chg := 292, rng := (.oneOf [1, 255]) },
  { off := 0x10, lo := 1, hi := 1, ty := .u8, acc := .rw, img := true, chg := 292, rng := (.within 5 60) },
  { off := 0x10, lo := 2, hi := 2, ty := .u16, acc := .rw, img := true, chg := 292, rng := (.within 20 500) },
  { off := 0x10, lo := 3, hi := 3, ty := .u8, acc := .rw, img := true, chg := 292, rng := (.within 0 30) },
  { off := 0x10, lo := 4, hi := 4, ty := .u16, acc := .rw, img := true, chg := 292, rng := (.within 0 200) },
  { off := 0x18, lo := 1, hi := 1, ty := .u8, acc := .rw, img := true, chg := 292, rng := (.within 1 16) },
  { off := 0x18, lo := 2, hi := 2, ty := .u16, acc := .rw, img := true, chg := 292 },
  { off := 0x18, lo := 3, hi := 3, ty := .u16, acc := .rw, img := true, chg := 292 },
  { off := 0x18, lo := 4, hi := 4, ty := .u16, acc := .rw, img := true, chg := 292, rng := (.within 100 1900) },
  { off := 0x18, lo := 5, hi := 5, ty := .u16, acc := .rw, img := true, chg := 292 },
  { off := 0x19, lo := 1, hi := 4, ty := .i16, acc := .rw, img := true, chg := 292, rng := .shiftLast },
  { off := 0x1A, lo := 1, hi := 4, ty := .i16, acc := .rw, img := true, chg := 292, rng := .shiftLast },
  { off := 0x1B, lo := 1, hi := 4, ty := .i16, acc := .rw, img := true, chg := 292, rng := .shiftLast },
  { off := 0x1B, lo := 5, hi := 5, ty := .u16, acc := .rw, img := true, chg := 292, rng := (.within 500 8000) },
  { off := 0x1C, lo := 1, hi := 1, ty := .u16, acc := .rw, img := true, chg := 292 },
  { off := 0x1C, lo := 2, hi := 2, ty := .u16, acc := .rw, img := true, chg := 292 }]

/-- Coefficient sets, offsets from S (R452) (part). -/
def setRows2 : List Row := [
  { off := 0x1C, lo := 3, hi := 3, ty := .u16, acc := .rw, img := true, chg := 292, rng := (.within 50 2000) },
  { off := 0x1C, lo := 4, hi := 4, ty := .u16, acc := .rw, img := true, chg := 292, rng := (.within 100 4000) },
  { off := 0x1D, lo := 1, hi := 1, ty := .u16, acc := .rw, img := true, chg := 292, rng := (.within 100 5000) },
  { off := 0x1D, lo := 2, hi := 2, ty := .u16, acc := .rw, img := true, chg := 292, rng := (.within 100 5000) },
  { off := 0x1D, lo := 3, hi := 3, ty := .u8, acc := .rw, img := true, chg := 292, rng := (.within 1 20) },
  { off := 0x1D, lo := 4, hi := 4, ty := .u16, acc := .rw, img := true, chg := 292, rng := (.within 10 600) },
  { off := 0x28, lo := 1, hi := 5, ty := .i16, acc := .rw, img := true, chg := 292 },
  { off := 0x29, lo := 1, hi := 1, ty := .u8, acc := .rw, img := true, chg := 292, rng := (.within 16 63) },
  { off := 0x29, lo := 2, hi := 2, ty := .i16, acc := .rw, img := true, chg := 292, rng := (.within 1024 24576) },
  { off := 0x2A, lo := 1, hi := 2, ty := .u8, acc := .rw, img := true, chg := 292, rng := (.within 0 100) },
  { off := 0x2B, lo := 1, hi := 1, ty := .i16, acc := .rw, img := true, chg := 292, rng := (.within (-3072) (13312)) },
  { off := 0x2B, lo := 2, hi := 2, ty := .i16, acc := .rw, img := true, chg := 292, rng := (.within (-2048) (2047)) },
  { off := 0x2B, lo := 3, hi := 3, ty := .i16, acc := .rw, img := true, chg := 292, rng := (.within (-8192) (8192)) },
  { off := 0x2B, lo := 4, hi := 4, ty := .u8, acc := .rw, img := true, chg := 292, rng := (.within 0 175) },
  { off := 0x2B, lo := 5, hi := 5, ty := .u8, acc := .rw, img := true, chg := 292, rng := (.within 0 150) },
  { off := 0x2B, lo := 6, hi := 6, ty := .u16, acc := .rw, img := true, chg := 292, rng := (.within 0 64) },
  { off := 0x2B, lo := 7, hi := 7, ty := .u16, acc := .rw, img := true, chg := 292, rng := (.within 0 64) },
  { off := 0x2C, lo := 1, hi := 16, ty := .i16, acc := .rw, img := true, chg := 292, rng := .tap5 },
  { off := 0x2D, lo := 1, hi := 32, ty := .i16, acc := .rw, img := true, chg := 292 },
  { off := 0x30, lo := 1, hi := 1, ty := .u8, acc := .rw, img := true, chg := 292 },
  { off := 0x31, lo := 1, hi := 32, ty := .u32, acc := .rw, img := true, chg := 292, mask := some 0xFFFF01FF }]

/-- Coefficient sets, offsets from S (R452). -/
def setRows : List Row := setRows0 ++ setRows1 ++ setRows2

/-- Span blocks, offsets from B (R347). -/
def spanRows : List Row := [
  { off := 0x0, lo := 1, hi := 1, ty := .u8, acc := .ro, dflt := [255] },
  { off := 0x0, lo := 2, hi := 2, ty := .u32, acc := .ro },
  { off := 0x0, lo := 3, hi := 4, ty := .u8, acc := .ro },
  { off := 0x0, lo := 5, hi := 5, ty := .u8, acc := .ro },
  { off := 0x0, lo := 6, hi := 6, ty := .u8, acc := .ro },
  { off := 0x0, lo := 7, hi := 7, ty := .u16, acc := .ro },
  { off := 0x0, lo := 8, hi := 8, ty := .u32, acc := .ro },
  { off := 0x0, lo := 9, hi := 9, ty := .u32, acc := .ro },
  { off := 0x0, lo := 10, hi := 10, ty := .u32, acc := .ro },
  { off := 0x0, lo := 11, hi := 11, ty := .u32, acc := .ro },
  { off := 0x0, lo := 12, hi := 12, ty := .u32, acc := .ro },
  { off := 0x1, lo := 1, hi := 1, ty := .u8, acc := .wo, chg := 192, rng := (.within 1 3) },
  { off := 0x1, lo := 2, hi := 2, ty := .u8, acc := .rw, chg := 192, rng := (.within 0 31) },
  { off := 0x2, lo := 1, hi := 1, ty := .u32, acc := .rw, img := true, chg := 36 },
  { off := 0x2, lo := 2, hi := 3, ty := .u8, acc := .rw, img := true, chg := 36 }]

/-- Port blocks, offsets from Q (R391). -/
def portRows : List Row := [
  { off := 0x0, lo := 1, hi := 4, ty := .u8, acc := .ro },
  { off := 0x1, lo := 1, hi := 1, ty := .u8, acc := .rw, chg := 292, rng := (.within 0 2) },
  { off := 0x1, lo := 2, hi := 2, ty := .u48, acc := .rw, img := true, chg := 292 },
  { off := 0x1, lo := 3, hi := 3, ty := .u16, acc := .rw, dflt := [4096], chg := 292, rng := (.oneOf [1024, 2048, 4096]) },
  { off := 0x2, lo := 1, hi := 4, ty := .u16, acc := .rw, chg := 292, rng := (.within 0 4094) },
  { off := 0x3, lo := 1, hi := 16, ty := (.oct 16), acc := .rw, chg := 292 },
  { off := 0x4, lo := 1, hi := 4, ty := .u16, acc := .ro },
  { off := 0x4, lo := 5, hi := 8, ty := .u32, acc := .ro }]

/-- Power domain entries 0x7100 + d (R550). -/
def domainRows : List Row := [
  { off := 0x0, lo := 1, hi := 1, ty := .u32, acc := .ro },
  { off := 0x0, lo := 2, hi := 2, ty := .u32, acc := .ro }]

/-- Fault source entries 0x8100 + s (R453). -/
def sourceRows : List Row := [
  { off := 0x0, lo := 1, hi := 1, ty := .u8, acc := .rw, img := true, chg := 292, rng := (.within 0 31), mask := some 0x1F },
  { off := 0x0, lo := 2, hi := 2, ty := .u64, acc := .ro }]

/-- Bench pack blocks, offsets from T (R484). -/
def benchPackRows : List Row := [
  { off := 0x0, lo := 1, hi := 32, ty := .i16, acc := .rw, dflt := [32767], chg := 256, rng := (.withinOr (-3072) 13312 0x7FFF) },
  { off := 0x1, lo := 1, hi := 32, ty := .u8, acc := .rw, dflt := [255], chg := 256, rng := (.withinOr 0 150 255) },
  { off := 0x2, lo := 1, hi := 32, ty := .u8, acc := .rw, chg := 256, mask := some 0x1F },
  { off := 0x3, lo := 0, hi := 0, ty := .u8, acc := .rw, chg := 256, rng := (.within 0 32) },
  { off := 0x4, lo := 0, hi := 0, ty := (.dom 65536), acc := .ro }]

/-- CANopen FD communication (R463). -/
def commRows : List Row := [
  { off := 0x1000, lo := 0, hi := 0, ty := .u32, acc := .ro },
  { off := 0x1001, lo := 0, hi := 0, ty := .u8, acc := .ro },
  { off := 0x1003, lo := 0, hi := 0, ty := .u8, acc := .rw, chg := 500, rng := (.within 0 0) },
  { off := 0x1003, lo := 1, hi := 16, ty := .u32, acc := .ro },
  { off := 0x1008, lo := 0, hi := 0, ty := (.str 32), acc := .ro },
  { off := 0x1009, lo := 0, hi := 0, ty := (.str 8), acc := .ro },
  { off := 0x100A, lo := 0, hi := 0, ty := (.str 32), acc := .ro, img := true },
  { off := 0x1010, lo := 1, hi := 1, ty := .u32, acc := .rw, dflt := [1], chg := 484 },
  { off := 0x1011, lo := 1, hi := 1, ty := .u32, acc := .rw, dflt := [1], chg := 484 },
  { off := 0x1014, lo := 0, hi := 0, ty := .u32, acc := .ro },
  { off := 0x1015, lo := 0, hi := 0, ty := .u16, acc := .rw, dflt := [10], chg := 500, rng := (.within 0 10000) },
  { off := 0x1017, lo := 0, hi := 0, ty := .u16, acc := .rw, dflt := [100], chg := 500, rng := (.within 10 10000) },
  { off := 0x1018, lo := 1, hi := 1, ty := .u32, acc := .ro, dflt := [1309] },
  { off := 0x1018, lo := 2, hi := 2, ty := .u32, acc := .ro },
  { off := 0x1018, lo := 3, hi := 3, ty := .u32, acc := .ro },
  { off := 0x1018, lo := 4, hi := 4, ty := .u32, acc := .ro },
  { off := 0x1FC0, lo := 1, hi := 1, ty := .u8, acc := .ro },
  { off := 0x1FC0, lo := 2, hi := 2, ty := .u8, acc := .rw, dflt := [1], chg := 292, rng := (.within 0 3) },
  { off := 0x1FC0, lo := 3, hi := 3, ty := .u16, acc := .rw, dflt := [1000], chg := 500, rng := (.within 100 10000) },
  { off := 0x1FC0, lo := 4, hi := 4, ty := .u32, acc := .ro },
  { off := 0x1FC0, lo := 5, hi := 5, ty := .u32, acc := .ro },
  { off := 0x1FC0, lo := 6, hi := 6, ty := .u32, acc := .ro }]

/-- Store (R346). -/
def storeRows : List Row := [
  { off := 0x2000, lo := 1, hi := 1, ty := .u64, acc := .ro },
  { off := 0x2000, lo := 2, hi := 2, ty := .u32, acc := .ro },
  { off := 0x2000, lo := 3, hi := 3, ty := .u64, acc := .ro },
  { off := 0x2000, lo := 4, hi := 4, ty := .u64, acc := .ro },
  { off := 0x2000, lo := 5, hi := 5, ty := .u32, acc := .ro },
  { off := 0x2000, lo := 6, hi := 6, ty := .u32, acc := .ro },
  { off := 0x2000, lo := 7, hi := 7, ty := .u32, acc := .ro },
  { off := 0x2001, lo := 1, hi := 1, ty := .u8, acc := .rw, dflt := [36], chg := 36, rng := (.oneOf [3, 6, 9, 12, 15, 18, 21, 24, 27, 30, 33, 36, 39, 42, 45, 48]) },
  { off := 0x2001, lo := 2, hi := 2, ty := .u32, acc := .wo, chg := 32, rng := (.oneOf [0x494E4954]) },
  { off := 0x2010, lo := 1, hi := 1, ty := .u16, acc := .rw, dflt := [32], chg := 484, ovl := true, rng := (.within 0 256) },
  { off := 0x2010, lo := 2, hi := 5, ty := .u8, acc := .rw, dflt := [128, 32, 16, 16], chg := 484, ovl := true, rng := (.within 0 255) },
  { off := 0x2010, lo := 6, hi := 6, ty := .u16, acc := .rw, dflt := [28], chg := 356, ovl := true, rng := (.within 7 365) },
  { off := 0x2010, lo := 7, hi := 7, ty := .u16, acc := .rw, dflt := [60], chg := 356, ovl := true, rng := (.within 0 3600) },
  { off := 0x2010, lo := 8, hi := 8, ty := .u16, acc := .rw, dflt := [500], chg := 356, ovl := true, rng := (.within 100 900) },
  { off := 0x2010, lo := 9, hi := 9, ty := .u16, acc := .rw, dflt := [500], chg := 356, ovl := true, rng := (.within 50 10000) },
  { off := 0x2010, lo := 10, hi := 10, ty := .u16, acc := .rw, dflt := [5], chg := 356, ovl := true, rng := (.within 1 1000) },
  { off := 0x2010, lo := 11, hi := 11, ty := .u16, acc := .rw, dflt := [1000], chg := 356, ovl := true, rng := (.within 10 10000) },
  { off := 0x2020, lo := 1, hi := 1, ty := .u8, acc := .wo, chg := 80, rng := (.within 1 3) },
  { off := 0x2020, lo := 2, hi := 2, ty := .u8, acc := .ro },
  { off := 0x2020, lo := 3, hi := 3, ty := .u16, acc := .ro },
  { off := 0x2020, lo := 4, hi := 4, ty := .u32, acc := .ro },
  { off := 0x2020, lo := 5, hi := 5, ty := .u32, acc := .ro },
  { off := 0x2020, lo := 6, hi := 6, ty := .u32, acc := .ro }]

/-- Configuration and overlays (R482). -/
def confRows : List Row := [
  { off := 0x2400, lo := 1, hi := 1, ty := (.str 16), acc := .ro, img := true },
  { off := 0x2400, lo := 2, hi := 2, ty := .u32, acc := .ro, img := true },
  { off := 0x2400, lo := 3, hi := 3, ty := .u8, acc := .ro },
  { off := 0x2400, lo := 4, hi := 4, ty := (.oct 48), acc := .ro, img := true },
  { off := 0x2401, lo := 1, hi := 1, ty := .u16, acc := .rw, chg := 500, rng := (.within 0 1) },
  { off := 0x2401, lo := 2, hi := 2, ty := .u16, acc := .rw, dflt := [60], chg := 500, rng := (.within 1 3600) },
  { off := 0x2401, lo := 3, hi := 3, ty := .u8, acc := .rwl, chg := 500, rng := (.within 0 1) },
  { off := 0x2402, lo := 1, hi := 1, ty := .u8, acc := .rw, chg := 484, ovl := true, rng := (.within 0 1) },
  { off := 0x2403, lo := 1, hi := 1, ty := .u8, acc := .rw, dflt := [2], chg := 484, ovl := true, rng := (.within 1 2) },
  { off := 0x2410, lo := 1, hi := 1, ty := .u40, acc := .rw, chg := 448, rng := .address },
  { off := 0x2410, lo := 2, hi := 2, ty := .u8, acc := .wo, chg := 448, rng := (.within 1 3) },
  { off := 0x2410, lo := 3, hi := 3, ty := .u64, acc := .ro },
  { off := 0x2410, lo := 4, hi := 4, ty := (.dom 4152), acc := .rw, chg := 448 },
  { off := 0x2410, lo := 5, hi := 5, ty := .u8, acc := .ro },
  { off := 0x2420, lo := 1, hi := 16, ty := (.str 16), acc := .ro, img := true },
  { off := 0x2421, lo := 1, hi := 16, ty := .u32, acc := .ro, img := true },
  { off := 0x2422, lo := 1, hi := 16, ty := .u8, acc := .ro },
  { off := 0x2423, lo := 1, hi := 1, ty := .u16, acc := .rwl, chg := 484 },
  { off := 0x2423, lo := 2, hi := 2, ty := .u8, acc := .ro },
  { off := 0x2423, lo := 3, hi := 3, ty := .u16, acc := .rw, dflt := [1000], chg := 484, rng := (.within 10 5000) },
  { off := 0x2423, lo := 4, hi := 4, ty := .u32, acc := .ro },
  { off := 0x2423, lo := 5, hi := 5, ty := .u16, acc := .rw, chg := 484 }]

/-- Memory, ECC, cache and movers (R425, R426, R445) (part). -/
def memRows0 : List Row := [
  { off := 0x6000, lo := 1, hi := 1, ty := .u8, acc := .rw, img := true, chg := 256, rng := (.oneOf [16, 24, 32]) },
  { off := 0x6000, lo := 2, hi := 2, ty := .u8, acc := .rw, img := true, chg := 256, rng := (.oneOf [24, 28, 32]) },
  { off := 0x6000, lo := 3, hi := 3, ty := .u32, acc := .ro },
  { off := 0x6000, lo := 4, hi := 4, ty := .u32, acc := .ro },
  { off := 0x6000, lo := 5, hi := 5, ty := .u8, acc := .rw, dflt := [24], chg := 484, rng := (.within 1 168) },
  { off := 0x6000, lo := 6, hi := 6, ty := .u32, acc := .ro },
  { off := 0x6000, lo := 7, hi := 7, ty := .u32, acc := .ro },
  { off := 0x6001, lo := 1, hi := 24, ty := .u8, acc := .ro },
  { off := 0x6002, lo := 1, hi := 24, ty := .u32, acc := .ro },
  { off := 0x6003, lo := 1, hi := 24, ty := .u32, acc := .ro },
  { off := 0x6004, lo := 1, hi := 16, ty := .u64, acc := .ro },
  { off := 0x6005, lo := 1, hi := 1, ty := .u8, acc := .rw, dflt := [4], chg := 36, rng := (.within 1 16) },
  { off := 0x6006, lo := 1, hi := 5, ty := .u8, acc := .ro },
  { off := 0x6007, lo := 1, hi := 5, ty := .u32, acc := .ro },
  { off := 0x6008, lo := 1, hi := 1, ty := .u8, acc := .wo, chg := 272, rng := (.within 0 23) },
  { off := 0x6009, lo := 1, hi := 1, ty := .u8, acc := .rw, chg := 272, rng := (.within 0 1) },
  { off := 0x6009, lo := 2, hi := 2, ty := .u32, acc := .rw, chg := 272 },
  { off := 0x6009, lo := 3, hi := 3, ty := .u32, acc := .ro },
  { off := 0x6009, lo := 4, hi := 4, ty := .u8, acc := .ro },
  { off := 0x6100, lo := 1, hi := 1, ty := .u8, acc := .rw, dflt := [1], chg := 432, rng := (.within 0 1) },
  { off := 0x6100, lo := 2, hi := 2, ty := .u8, acc := .ro },
  { off := 0x6100, lo := 3, hi := 3, ty := .u16, acc := .rw, chg := 432 },
  { off := 0x6100, lo := 4, hi := 4, ty := .u8, acc := .wo, chg := 304, rng := (.within 1 4) },
  { off := 0x6100, lo := 5, hi := 5, ty := .u64, acc := .rw, chg := 304 }]

/-- Memory, ECC, cache and movers (R425, R426, R445) (part). -/
def memRows1 : List Row := [
  { off := 0x6100, lo := 6, hi := 6, ty := .u64, acc := .rw, chg := 304 },
  { off := 0x6100, lo := 7, hi := 7, ty := .u16, acc := .rw, dflt := [65535], chg := 304 },
  { off := 0x6100, lo := 8, hi := 8, ty := .u8, acc := .ro },
  { off := 0x6100, lo := 9, hi := 9, ty := .u32, acc := .ro },
  { off := 0x6101, lo := 1, hi := 8, ty := .u32, acc := .rw, dflt := [69631, 69631, 69631, 65535, 4095, 65535, 65535, 65535], chg := 436, mask := some 0x1FFFF },
  { off := 0x6102, lo := 1, hi := 1, ty := .u64, acc := .ro },
  { off := 0x6102, lo := 2, hi := 2, ty := .u64, acc := .ro },
  { off := 0x6102, lo := 3, hi := 3, ty := .u64, acc := .ro },
  { off := 0x6102, lo := 4, hi := 4, ty := .u64, acc := .ro },
  { off := 0x6102, lo := 5, hi := 5, ty := .u32, acc := .ro },
  { off := 0x6102, lo := 6, hi := 6, ty := .u32, acc := .ro },
  { off := 0x6102, lo := 7, hi := 7, ty := .u32, acc := .ro },
  { off := 0x6102, lo := 8, hi := 8, ty := .u32, acc := .ro },
  { off := 0x6200, lo := 1, hi := 32, ty := .u8, acc := .ro, dflt := [4] },
  { off := 0x6201, lo := 1, hi := 32, ty := .u32, acc := .ro },
  { off := 0x6202, lo := 1, hi := 32, ty := .u64, acc := .ro },
  { off := 0x6203, lo := 1, hi := 32, ty := .u32, acc := .ro },
  { off := 0x6204, lo := 1, hi := 32, ty := .u8, acc := .rw, chg := 484, ovl := true },
  { off := 0x6205, lo := 1, hi := 1, ty := .u32, acc := .ro }]

/-- Memory, ECC, cache and movers (R425, R426, R445). -/
def memRows : List Row := memRows0 ++ memRows1

/-- Host and Unsia (R389 to R393). -/
def hostRows : List Row := [
  { off := 0x6400, lo := 1, hi := 1, ty := .u16, acc := .ro },
  { off := 0x6400, lo := 2, hi := 2, ty := .u16, acc := .ro },
  { off := 0x6400, lo := 3, hi := 3, ty := .u32, acc := .ro },
  { off := 0x6400, lo := 4, hi := 4, ty := .u32, acc := .ro },
  { off := 0x6400, lo := 5, hi := 5, ty := .u32, acc := .ro },
  { off := 0x6400, lo := 6, hi := 6, ty := .u32, acc := .ro },
  { off := 0x6410, lo := 1, hi := 3, ty := .u8, acc := .rw, dflt := [64, 16, 4], chg := 484, ovl := true, rng := (.within 1 255) },
  { off := 0x6411, lo := 1, hi := 1, ty := .u8, acc := .rw, dflt := [26], chg := 292, rng := (.within 0 63) },
  { off := 0x6411, lo := 2, hi := 2, ty := .u8, acc := .rw, dflt := [3], chg := 292, rng := (.within 0 7) },
  { off := 0x6411, lo := 3, hi := 3, ty := .u8, acc := .rw, dflt := [48], chg := 292, rng := (.within 0 63) },
  { off := 0x6411, lo := 4, hi := 4, ty := .u8, acc := .rw, dflt := [6], chg := 292, rng := (.within 0 7) },
  { off := 0x6411, lo := 5, hi := 5, ty := .u8, acc := .rw, dflt := [72], chg := 292 },
  { off := 0x6412, lo := 1, hi := 1, ty := .u16, acc := .rw, dflt := [256], chg := 292, rng := (.within 1 65535) },
  { off := 0x6412, lo := 2, hi := 2, ty := .u16, acc := .rw, dflt := [55], chg := 292, rng := (.within 10 1000) },
  { off := 0x6412, lo := 3, hi := 3, ty := .u16, acc := .rw, dflt := [10240], chg := 292, rng := (.within 64 65535) },
  { off := 0x6412, lo := 4, hi := 4, ty := .u16, acc := .rw, dflt := [40], chg := 292, rng := (.within 1 1000) },
  { off := 0x6412, lo := 5, hi := 5, ty := .u16, acc := .rw, dflt := [100], chg := 292, rng := (.within 10 10000) },
  { off := 0x6412, lo := 6, hi := 6, ty := .u8, acc := .rw, dflt := [4], chg := 292, rng := (.within 1 100) },
  { off := 0x6413, lo := 1, hi := 1, ty := .u8, acc := .rw, dflt := [14], chg := 356, rng := (.within 10 20) },
  { off := 0x6413, lo := 2, hi := 2, ty := .u8, acc := .rw, dflt := [7], chg := 356, rng := (.within 0 7) },
  { off := 0x6413, lo := 3, hi := 3, ty := .u8, acc := .rw, dflt := [7], chg := 356, rng := (.within 0 7) },
  { off := 0x6420, lo := 1, hi := 16, ty := (.oct 17), acc := .rw, chg := 292, rng := .pre }]

/-- Power, clocks, thermal, wake and input conditioning (R104, R299, R515, R550) (part). -/
def powerRows0 : List Row := [
  { off := 0x7000, lo := 1, hi := 1, ty := .u8, acc := .ro, dflt := [3] },
  { off := 0x7000, lo := 2, hi := 2, ty := .u8, acc := .rw, chg := 500, rng := (.within 1 7) },
  { off := 0x7000, lo := 3, hi := 3, ty := .u8, acc := .ro, dflt := [255] },
  { off := 0x7000, lo := 4, hi := 4, ty := .u8, acc := .ro },
  { off := 0x7000, lo := 5, hi := 5, ty := .u8, acc := .ro, dflt := [255] },
  { off := 0x7000, lo := 6, hi := 6, ty := .u8, acc := .ro },
  { off := 0x7001, lo := 1, hi := 1, ty := .u8, acc := .rw, chg := 484, rng := (.within 0 1) },
  { off := 0x7001, lo := 2, hi := 2, ty := .u8, acc := .rw, dflt := [1], chg := 484, rng := (.within 0 1) },
  { off := 0x7001, lo := 3, hi := 3, ty := .u16, acc := .rw, dflt := [60], chg := 484, rng := (.within 10 600) },
  { off := 0x7001, lo := 4, hi := 4, ty := .u32, acc := .rw, chg := 484, rng := (.withinOr 10 86400 0) },
  { off := 0x7001, lo := 5, hi := 5, ty := .u8, acc := .rw, chg := 484, rng := (.within 0 1) },
  { off := 0x7010, lo := 1, hi := 1, ty := .u32, acc := .ro },
  { off := 0x7010, lo := 2, hi := 2, ty := .u32, acc := .ro },
  { off := 0x7010, lo := 3, hi := 3, ty := .u8, acc := .ro },
  { off := 0x7020, lo := 1, hi := 1, ty := .u8, acc := .rw, dflt := [4], chg := 356, ovl := true, rng := (.within 1 32) },
  { off := 0x7020, lo := 2, hi := 2, ty := .u8, acc := .rw, dflt := [1], chg := 356, ovl := true, rng := (.within 1 8) },
  { off := 0x7020, lo := 3, hi := 3, ty := .u8, acc := .rw, dflt := [30], chg := 292, rng := (.within 10 120) },
  { off := 0x7030, lo := 1, hi := 1, ty := .u16, acc := .rw, dflt := [26000], chg := 292 },
  { off := 0x7030, lo := 2, hi := 2, ty := .u16, acc := .rw, dflt := [25500], chg := 292 },
  { off := 0x7030, lo := 3, hi := 3, ty := .u16, acc := .rw, dflt := [28000], chg := 292 },
  { off := 0x7030, lo := 4, hi := 4, ty := .u16, acc := .rw, dflt := [30000], chg := 292, rng := (.within 29000 32000) },
  { off := 0x7030, lo := 5, hi := 5, ty := .u16, acc := .rw, dflt := [29000], chg := 292 },
  { off := 0x7030, lo := 6, hi := 6, ty := .u16, acc := .rw, dflt := [19000], chg := 292 },
  { off := 0x7030, lo := 7, hi := 7, ty := .u16, acc := .rw, dflt := [2000], chg := 292, rng := (.within 500 20000) }]

/-- Power, clocks, thermal, wake and input conditioning (R104, R299, R515, R550) (part). -/
def powerRows1 : List Row := [
  { off := 0x7030, lo := 8, hi := 8, ty := .u16, acc := .rw, dflt := [1200], chg := 292, rng := (.within 600 5000) },
  { off := 0x7030, lo := 9, hi := 9, ty := .u16, acc := .rw, dflt := [900], chg := 292, rng := (.within 300 4700) },
  { off := 0x7030, lo := 10, hi := 10, ty := .u32, acc := .rw, dflt := [10000], chg := 292, rng := (.within 1000 100000) },
  { off := 0x7030, lo := 11, hi := 11, ty := .u16, acc := .rw, dflt := [300], chg := 292, rng := (.within 50 2000) },
  { off := 0x7031, lo := 1, hi := 4, ty := .u8, acc := .ro },
  { off := 0x7032, lo := 1, hi := 4, ty := .u16, acc := .ro },
  { off := 0x7033, lo := 1, hi := 4, ty := .u32, acc := .ro },
  { off := 0x7034, lo := 1, hi := 4, ty := .u16, acc := .ro },
  { off := 0x7040, lo := 1, hi := 178, ty := .u8, acc := .ro },
  { off := 0x7041, lo := 1, hi := 8, ty := .u8, acc := .ro },
  { off := 0x7042, lo := 1, hi := 1, ty := .u8, acc := .rw, chg := 292, rng := (.within 0 1) },
  { off := 0x7042, lo := 2, hi := 9, ty := .u8, acc := .rw, chg := 292, rng := (.withinOr 8 0x77 0) },
  { off := 0x7043, lo := 1, hi := 8, ty := .u16, acc := .ro },
  { off := 0x7044, lo := 1, hi := 8, ty := .u32, acc := .ro },
  { off := 0x7050, lo := 1, hi := 1, ty := .u16, acc := .rw, dflt := [223], chg := 484, mask := some 0xFF },
  { off := 0x7050, lo := 2, hi := 2, ty := .u8, acc := .rw, dflt := [15], chg := 484, mask := some 0xF },
  { off := 0x7050, lo := 3, hi := 3, ty := .u16, acc := .ro },
  { off := 0x7050, lo := 4, hi := 4, ty := .u32, acc := .ro },
  { off := 0x7060, lo := 1, hi := 1, ty := .u8, acc := .rw, dflt := [10], chg := 484, rng := (.within 1 60) },
  { off := 0x7060, lo := 2, hi := 2, ty := .i8, acc := .rw, dflt := [60], chg := 484, rng := (.within 20 85) },
  { off := 0x7060, lo := 3, hi := 3, ty := .i8, acc := .rw, dflt := [5], chg := 484, rng := (.within (-20) (30)) },
  { off := 0x7060, lo := 4, hi := 4, ty := .i8, acc := .rw, dflt := [70], chg := 484, rng := (.within 30 100) },
  { off := 0x7060, lo := 5, hi := 5, ty := .u32, acc := .ro },
  { off := 0x7061, lo := 1, hi := 1, ty := .i8, acc := .ro }]

/-- Power, clocks, thermal, wake and input conditioning (R104, R299, R515, R550) (part). -/
def powerRows2 : List Row := [
  { off := 0x7061, lo := 2, hi := 2, ty := .i8, acc := .rw, dflt := [100], chg := 292, rng := (.within 80 110) },
  { off := 0x7061, lo := 3, hi := 3, ty := .i8, acc := .rw, dflt := [115], chg := 292, rng := (.within 100 125) },
  { off := 0x7080, lo := 1, hi := 5, ty := .u16, acc := .rw, dflt := [20], chg := 292, rng := (.within 1 1000) },
  { off := 0x7081, lo := 1, hi := 5, ty := .u32, acc := .rw, dflt := [1000], chg := 292, rng := (.within 100 100000) },
  { off := 0x7082, lo := 1, hi := 5, ty := .u32, acc := .rw, dflt := [10000, 2000, 100, 0, 0], chg := 292, rng := (.withinOr 10 600000 0) },
  { off := 0x7083, lo := 1, hi := 5, ty := .u32, acc := .ro },
  { off := 0x7084, lo := 1, hi := 5, ty := .u32, acc := .ro },
  { off := 0x7085, lo := 1, hi := 1, ty := .u32, acc := .ro },
  { off := 0x7085, lo := 2, hi := 2, ty := .u32, acc := .ro }]

/-- Power, clocks, thermal, wake and input conditioning (R104, R299, R515, R550). -/
def powerRows : List Row := powerRows0 ++ powerRows1 ++ powerRows2

/-- Boot, security and microcode (R104, R226, R551) (part). -/
def bootRows0 : List Row := [
  { off := 0x7400, lo := 1, hi := 1, ty := .u8, acc := .ro },
  { off := 0x7400, lo := 2, hi := 2, ty := .u8, acc := .rw, chg := 484, rng := (.within 0 1) },
  { off := 0x7400, lo := 3, hi := 4, ty := .u8, acc := .ro },
  { off := 0x7400, lo := 5, hi := 6, ty := .u32, acc := .ro },
  { off := 0x7400, lo := 7, hi := 8, ty := .u8, acc := .ro },
  { off := 0x7401, lo := 1, hi := 1, ty := .u8, acc := .ro },
  { off := 0x7401, lo := 2, hi := 2, ty := .u8, acc := .wo, chg := 480, rng := (.within 0 64) },
  { off := 0x7402, lo := 1, hi := 1, ty := .u8, acc := .rw, chg := 484, rng := (.oneOf [0, 1, 2, 3, 16, 17, 18, 19, 20, 21, 22, 23, 24, 25, 26, 27, 28, 29, 30, 31]) },
  { off := 0x7402, lo := 2, hi := 2, ty := .u32, acc := .rw, chg := 484 },
  { off := 0x7402, lo := 3, hi := 3, ty := (.dom 65536), acc := .wo, chg := 484 },
  { off := 0x7402, lo := 4, hi := 4, ty := .u8, acc := .wo, chg := 484, rng := (.within 1 2) },
  { off := 0x7402, lo := 5, hi := 5, ty := .u8, acc := .ro },
  { off := 0x7403, lo := 1, hi := 1, ty := .u8, acc := .ro },
  { off := 0x7403, lo := 2, hi := 2, ty := .u64, acc := .ro },
  { off := 0x7403, lo := 3, hi := 3, ty := .u8, acc := .wo, chg := 256, rng := (.within 0 63) },
  { off := 0x7404, lo := 1, hi := 1, ty := (.oct 96), acc := .ro },
  { off := 0x7404, lo := 2, hi := 2, ty := (.oct 96), acc := .rw, chg := 36 },
  { off := 0x7404, lo := 3, hi := 3, ty := (.dom 1024), acc := .wo, chg := 32 },
  { off := 0x7405, lo := 1, hi := 1, ty := .u8, acc := .ro },
  { off := 0x7405, lo := 2, hi := 2, ty := .u64, acc := .ro },
  { off := 0x7405, lo := 3, hi := 3, ty := (.oct 160), acc := .wo, chg := 260 },
  { off := 0x7410, lo := 1, hi := 1, ty := .u8, acc := .rw, chg := 292, rng := (.within 0 2) },
  { off := 0x7430, lo := 1, hi := 1, ty := .u32, acc := .ro, img := true },
  { off := 0x7430, lo := 2, hi := 2, ty := .u32, acc := .ro, img := true }]

/-- Boot, security and microcode (R104, R226, R551) (part). -/
def bootRows1 : List Row := [
  { off := 0x7430, lo := 3, hi := 3, ty := .u32, acc := .ro },
  { off := 0x7430, lo := 4, hi := 4, ty := .u32, acc := .ro },
  { off := 0x7430, lo := 5, hi := 5, ty := .u8, acc := .rw, dflt := [8], chg := 420, rng := (.within 1 32) },
  { off := 0x7430, lo := 6, hi := 6, ty := .u16, acc := .rw, dflt := [1000], chg := 420, rng := (.within 200 10000) },
  { off := 0x7430, lo := 7, hi := 7, ty := .u32, acc := .rw, dflt := [65536], chg := 292, rng := (.within 4096 262144) },
  { off := 0x7430, lo := 8, hi := 8, ty := .u32, acc := .ro },
  { off := 0x7430, lo := 9, hi := 9, ty := .u32, acc := .ro },
  { off := 0x7430, lo := 10, hi := 10, ty := .u32, acc := .ro },
  { off := 0x7430, lo := 11, hi := 26, ty := .u8, acc := .ro }]

/-- Boot, security and microcode (R104, R226, R551). -/
def bootRows : List Row := bootRows0 ++ bootRows1

/-- Fault sources and fail-over (R514) (part). -/
def faultRows0 : List Row := [
  { off := 0x8000, lo := 1, hi := 1, ty := .u16, acc := .ro, dflt := [416] },
  { off := 0x8000, lo := 2, hi := 2, ty := .u16, acc := .ro },
  { off := 0x8000, lo := 3, hi := 3, ty := .u16, acc := .ro },
  { off := 0x8000, lo := 4, hi := 4, ty := .u16, acc := .ro, dflt := [65535] },
  { off := 0x8000, lo := 5, hi := 5, ty := .u8, acc := .ro },
  { off := 0x8000, lo := 6, hi := 6, ty := .u8, acc := .ro },
  { off := 0x8000, lo := 7, hi := 7, ty := .u16, acc := .ro, dflt := [65535] },
  { off := 0x8000, lo := 8, hi := 8, ty := .u16, acc := .ro, dflt := [65535] },
  { off := 0x8001, lo := 1, hi := 1, ty := .u16, acc := .wo, chg := 500, rng := (.within 0 415) },
  { off := 0x8001, lo := 2, hi := 2, ty := .u8, acc := .wo, chg := 480, rng := (.within 0 1) },
  { off := 0x8002, lo := 1, hi := 13, ty := .u32, acc := .ro },
  { off := 0x8003, lo := 1, hi := 13, ty := .u32, acc := .ro },
  { off := 0x8010, lo := 1, hi := 1, ty := .u8, acc := .ro, img := true },
  { off := 0x8010, lo := 2, hi := 3, ty := .u8, acc := .ro },
  { off := 0x8010, lo := 4, hi := 4, ty := .u8, acc := .ro },
  { off := 0x8010, lo := 5, hi := 5, ty := .u32, acc := .ro },
  { off := 0x8010, lo := 6, hi := 6, ty := .u32, acc := .ro },
  { off := 0x8010, lo := 7, hi := 7, ty := .u8, acc := .ro },
  { off := 0x8010, lo := 8, hi := 8, ty := .u32, acc := .ro },
  { off := 0x8010, lo := 9, hi := 9, ty := .u32, acc := .ro },
  { off := 0x8011, lo := 1, hi := 1, ty := .u16, acc := .rw, dflt := [24], chg := 484, rng := (.withinOr 1 720 0) },
  { off := 0x8011, lo := 2, hi := 2, ty := .u8, acc := .wo, chg := 192, rng := (.within 1 1) },
  { off := 0x8011, lo := 3, hi := 3, ty := .u8, acc := .rw, dflt := [2], chg := 292, rng := (.within 2 10) },
  { off := 0x8011, lo := 4, hi := 4, ty := .u8, acc := .rw, dflt := [16], chg := 292, rng := (.within 4 255) }]

/-- Fault sources and fail-over (R514) (part). -/
def faultRows1 : List Row := [
  { off := 0x8011, lo := 5, hi := 5, ty := .u16, acc := .rw, dflt := [10], chg := 292, rng := (.within 1 1000) },
  { off := 0x8011, lo := 6, hi := 6, ty := .u16, acc := .rw, dflt := [1000], chg := 292, rng := (.within 100 10000) },
  { off := 0x8011, lo := 7, hi := 7, ty := .u8, acc := .rw, dflt := [1], chg := 484, rng := (.within 0 1) },
  { off := 0x8011, lo := 8, hi := 8, ty := .u16, acc := .rw, dflt := [60], chg := 484, rng := (.within 1 1440) },
  { off := 0x8012, lo := 1, hi := 1, ty := .u64, acc := .ro },
  { off := 0x8012, lo := 2, hi := 2, ty := .u64, acc := .ro },
  { off := 0x8012, lo := 3, hi := 3, ty := .u32, acc := .ro },
  { off := 0x8012, lo := 4, hi := 4, ty := .u64, acc := .ro },
  { off := 0x8012, lo := 5, hi := 6, ty := .u32, acc := .ro },
  { off := 0x8012, lo := 7, hi := 8, ty := .u32, acc := .ro },
  { off := 0x8012, lo := 9, hi := 9, ty := .u32, acc := .ro },
  { off := 0x8020, lo := 1, hi := 1, ty := .u8, acc := .ro },
  { off := 0x8020, lo := 2, hi := 2, ty := .u8, acc := .ro },
  { off := 0x8020, lo := 3, hi := 3, ty := .u32, acc := .ro },
  { off := 0x8030, lo := 1, hi := 1, ty := .u16, acc := .ro, dflt := [65535] },
  { off := 0x8030, lo := 2, hi := 2, ty := .u32, acc := .ro }]

/-- Fault sources and fail-over (R514). -/
def faultRows : List Row := faultRows0 ++ faultRows1

/-- Event recorder (R561). -/
def recRows : List Row := [
  { off := 0x8800, lo := 1, hi := 1, ty := .u32, acc := .ro },
  { off := 0x8800, lo := 2, hi := 2, ty := .u32, acc := .ro },
  { off := 0x8800, lo := 3, hi := 3, ty := .u32, acc := .ro },
  { off := 0x8800, lo := 4, hi := 4, ty := .u32, acc := .ro },
  { off := 0x8800, lo := 5, hi := 5, ty := .u32, acc := .ro },
  { off := 0x8800, lo := 6, hi := 6, ty := .u32, acc := .ro },
  { off := 0x8800, lo := 7, hi := 7, ty := .u32, acc := .ro },
  { off := 0x8800, lo := 8, hi := 8, ty := .u32, acc := .ro },
  { off := 0x8800, lo := 9, hi := 9, ty := .u32, acc := .ro },
  { off := 0x8800, lo := 10, hi := 10, ty := .u8, acc := .ro },
  { off := 0x8801, lo := 1, hi := 1, ty := .u16, acc := .rw, dflt := [60], chg := 484, rng := (.within 0 3600) },
  { off := 0x8801, lo := 2, hi := 2, ty := .u16, acc := .rw, dflt := [60], chg := 484, rng := (.within 1 600) },
  { off := 0x8801, lo := 3, hi := 3, ty := .u32, acc := .ro },
  { off := 0x8802, lo := 1, hi := 1, ty := .u32, acc := .rw, chg := 500 },
  { off := 0x8802, lo := 2, hi := 2, ty := .u32, acc := .rw, dflt := [65280], chg := 500, mask := some 0xFF01 },
  { off := 0x8802, lo := 3, hi := 3, ty := (.dom 65536), acc := .ro },
  { off := 0x8802, lo := 4, hi := 4, ty := .u16, acc := .ro },
  { off := 0x8803, lo := 1, hi := 1, ty := (.oct 24), acc := .wo, chg := 500 }]

/-- Bench only (R483, R516). -/
def benchRows : List Row := [
  { off := 0xF000, lo := 1, hi := 1, ty := .u8, acc := .rw, chg := 256, rng := (.within 0 1) },
  { off := 0xF000, lo := 2, hi := 2, ty := .u32, acc := .ro },
  { off := 0xF000, lo := 3, hi := 3, ty := .u32, acc := .ro },
  { off := 0xF000, lo := 4, hi := 4, ty := .u16, acc := .ro },
  { off := 0xF100, lo := 1, hi := 1, ty := .u64, acc := .ro },
  { off := 0xF100, lo := 2, hi := 2, ty := (.oct 160), acc := .wo, chg := 256 },
  { off := 0xF100, lo := 3, hi := 3, ty := .u8, acc := .ro },
  { off := 0xF100, lo := 4, hi := 4, ty := .u16, acc := .rw, chg := 256, rng := (.within 0 415) },
  { off := 0xF100, lo := 5, hi := 5, ty := .u8, acc := .rw, chg := 256, rng := (.within 1 4) },
  { off := 0xF100, lo := 6, hi := 6, ty := .u8, acc := .rw, chg := 256, rng := (.within 0 1) }]

/-- The table that holds an index and the offset at which it stands there (R450). -/
def rowsAt (idx : Nat) : List Row × Nat :=
  if idx < 0x1000 then ([], 0)
  else if idx < 0x2000 then (commRows, idx)
  else if idx < 0x2400 then (storeRows, idx)
  else if idx < 0x2800 then (confRows, idx)
  else if idx < 0x3000 then ([], 0)
  else if idx < 0x3200 then (spanRows, (idx - 0x3000) % 0x40)
  else if idx < 0x4000 then ([], 0)
  else if idx < 0x5000 then (packRows, (idx - 0x4000) % 0x80)
  else if idx < 0x5400 then (setRows, (idx - 0x5000) % 0x40)
  else if idx < 0x6000 then ([], 0)
  else if idx < 0x6400 then (memRows, idx)
  else if idx < 0x6500 then (hostRows, idx)
  else if idx < 0x6600 then (portRows, (idx - 0x6500) % 0x10)
  else if idx < 0x6800 then ([], 0)
  else if idx < 0x7100 then (powerRows, idx)
  else if idx < 0x71B2 then (domainRows, 0)
  else if idx < 0x7400 then (powerRows, idx)
  else if idx < 0x7800 then (bootRows, idx)
  else if idx < 0x8000 then ([], 0)
  else if idx < 0x8100 then (faultRows, idx)
  else if idx < 0x82A0 then (sourceRows, 0)
  else if idx < 0x8800 then (faultRows, idx)
  else if idx < 0x8900 then (recRows, idx)
  else if idx < 0xF000 then ([], 0)
  else if idx < 0xF200 then (benchRows, idx)
  else if idx < 0xF300 then (benchPackRows, (idx - 0xF200) % 0x08)
  else ([], 0)

/-- The rows of one index. -/
def rowsOfIndex (idx : Nat) : List Row :=
  let (l, off) := rowsAt idx
  l.filter (fun r => r.off == off)

/-- The row of an entry, if index and subindex are named by a table (R446). -/
def findRow (idx sub : Nat) : Option Row :=
  (rowsOfIndex idx).find? (fun r => r.lo ≤ sub && sub ≤ r.hi)

/-- The highest subindex in use of an index, which its subindex 0 reads (R446). -/
def highestSub (idx : Nat) : Nat := ((rowsOfIndex idx).map (fun r => r.hi)).foldl max 0

/-- The key of an entry's value in the dictionary store. -/
def dictKey (idx sub : Nat) : Nat := idx * 256 + sub

/-- Element `i` of a default list; the last element stands for the rest. -/
def dfltAt : List Nat → Nat → Nat
  | [], _ => 0
  | [x], _ => x
  | x :: _, 0 => x
  | _ :: y :: l, i + 1 => dfltAt (y :: l) i

/-- The default of an entry of the part (R10; an img entry holds zero until Boot). -/
def dictDefault (part : Part) (key : Nat) : Nat :=
  if key = dictKey 0x2001 1 then
    match part with
    | .qh1024 => 36
    | .qh0512 => 18
    | .qh0256 => 9
  else match findRow (key / 256) (key % 256) with
    | some r => dfltAt r.dflt (key % 256 - r.lo)
    | none => 0

/-- Size of a fixed-size type in bytes; of the others the largest length (R449). -/
def VType.size : VType → Nat
  | .u8 => 1 | .u16 => 2 | .u32 => 4 | .u40 => 5 | .u48 => 6 | .u64 => 8
  | .i8 => 1 | .i16 => 2 | .i32 => 4
  | .str n => n | .oct n => n | .dom n => n

/-- A value of the type as a number: two's complement for the INTEGER types (R449). -/
def VType.toInt (t : VType) (v : Nat) : Int :=
  match t with
  | .i8 => if v < 128 then v else (v : Int) - 256
  | .i16 => if v < 32768 then v else (v : Int) - 65536
  | .i32 => if v < 2 ^ 31 then v else (v : Int) - 2 ^ 32
  | _ => v

/-- A value of the row's type at subindex `sub` lies in the row's range (R448 check 6). -/
def Row.inRange (r : Row) (sub v : Nat) : Bool :=
  let x := r.ty.toInt v
  match r.rng with
  | .any => true
  | .within lo hi => decide (lo ≤ x ∧ x ≤ hi)
  | .withinOr lo hi o => decide ((lo ≤ x ∧ x ≤ hi) ∨ x = o)
  | .oneOf l => l.contains v
  | .shiftLast => if sub = r.hi then decide (0 ≤ x ∧ x ≤ 3) else true
  | .tap5 => if sub = 6 then decide (8192 ≤ x ∧ x ≤ 32767) else true
  | .pre => decide (v / 2 ^ 128 ≤ 128)
  | .address => v % 2 ^ 11 != 2047

/-- The CiA 301 code of a type (R449). -/
def VType.code : VType → Nat
  | .i8 => 0x0002 | .i16 => 0x0003 | .i32 => 0x0004
  | .u8 => 0x0005 | .u16 => 0x0006 | .u32 => 0x0007
  | .u40 => 0x0018 | .u48 => 0x0019 | .u64 => 0x001B
  | .str _ => 0x0009 | .oct _ => 0x000A | .dom _ => 0x000F

end Sys2Proof.Machine
end

