-- ==== Sys2Proof/Machine/Ops.lean ====
section
/-! DEFINITION. The named operations on registers shared by every family: saturating counters, free values, the
dictionary store, packs, arms and lanes by number, which units the part has, and the outgoing queue. -/

namespace Sys2Proof.Machine

/-- What a command's meaning answers. -/
abbrev Res := Host.Outcome State Fault Refusal

/-- Adds `k` to an UNSIGNED32 counter, which saturates. -/
def sat32 (n k : Nat) : Nat := min (n + k) 0xFFFFFFFF

/-- Adds `k` to an UNSIGNED16 counter, which saturates. -/
def satU16 (n k : Nat) : Nat := min (n + k) 0xFFFF

/-- Adds `k` to an UNSIGNED64 counter, which saturates. -/
def sat64 (n k : Nat) : Nat := min (n + k) 0xFFFFFFFFFFFFFFFF

/-- Keeps the last `n` elements of a list. -/
def keepLast (n : Nat) (l : List α) : List α := l.drop (l.length - n)

/-- Little-endian value of a byte list (R7). -/
def leNat : List Byte → Nat
  | [] => 0
  | b :: l => b.toNat + 256 * leNat l

/-- The first `n` bytes of a number, little-endian (R7). -/
def natBytes : Nat → Nat → List Byte
  | 0, _ => []
  | n + 1, v => BitVec.ofNat 8 v :: natBytes n (v / 256)

/-- Field of `n` bytes at offset `off` of a byte list, little-endian (R7). -/
def fieldAt (l : List Byte) (off n : Nat) : Nat := leNat ((l.drop off).take n)

/-- Two's complement reading of an `n`-bit number. -/
def signedNat (n v : Nat) : Int := if v < 2 ^ (n - 1) then v else (v : Int) - 2 ^ n

/-- The low `n` bits of an integer, two's complement. -/
def lowBits (n : Nat) (x : Int) : Nat := (x % 2 ^ n).toNat

/-- `a` is later than `b` among numbers of `n` bits that wrap (R52). -/
def laterMod (n a b : Nat) : Bool :=
  let d := (a + 2 ^ n - b % 2 ^ n) % 2 ^ n
  decide (0 < d ∧ d < 2 ^ (n - 1))

/-- A fresh free value and the state that has used it (assumption 2). -/
def State.takeFree (s : State) : Nat × State := (Config.freeValue s.free, { s with free := s.free + 1 })

/-- The active cluster, or the hub's ring logic, sends a mirror record to the standby (R503). -/
def State.mirror (s : State) (r : MirrorRec) : State :=
  if s.clusters.active.isNone then s
  else { s with clusters := { s.clusters with mirrorSent := s.clusters.mirrorSent + 1, mirrorLog := s.clusters.mirrorLog ++ [r] } }

/-- The standby has applied the mirror up to record `n` (R504). -/
def State.mirrorUpTo (s : State) (n : Nat) : State :=
  let k := max s.clusters.mirrorApplied (min n s.clusters.mirrorSent)
  { s with clusters := { s.clusters with
      mirrorApplied := k, mirrorLog := s.clusters.mirrorLog.drop (s.clusters.mirrorLog.length - (s.clusters.mirrorSent - k)) } }

/-- Appends to the outgoing queue. -/
def State.send (s : State) (o : Out) : State := { s with out := s.out ++ [o] }

/-! ### Units of the part -/

/-- How many tiles the part has (R1). -/
def partTiles : Part → Nat
  | .qh1024 => 8 | .qh0512 => 4 | .qh0256 => 2

/-- The product code (R1). -/
def partProduct : Part → Nat
  | .qh1024 => 0x400 | .qh0512 => 0x200 | .qh0256 => 0x100

/-- The tile that serves a pack (R3). -/
def tileOf (p : PackId) : TileId := ⟨p.val / 4, by omega⟩

/-- The motor bus that carries a pack (R3). -/
def busOf (p : PackId) : BusId := ⟨p.val / 8, by omega⟩

/-- The packs of a tile (R3). -/
def packsOfTile (t : TileId) : List PackId := (List.finRange 32).filter (fun p => p.val / 4 = t.val)

/-- The packs of a motor bus (R3). -/
def packsOfBus (b : BusId) : List PackId := (List.finRange 32).filter (fun p => p.val / 8 = b.val)

/-- A pack slot is fitted on the part (R4). -/
def State.packFitted (s : State) (p : PackId) : Bool := p.val < 4 * partTiles s.part

/-- A tile is fitted (R4). -/
def State.tileFitted (s : State) (t : TileId) : Bool := t.val < partTiles s.part

/-- A motor bus is fitted (R4). -/
def State.busFitted (s : State) (b : BusId) : Bool := 2 * b.val < partTiles s.part

/-- A host port is fitted (R4). -/
def State.portFitted (s : State) (q : PortId) : Bool := q.val < 2 * partTiles s.part

/-- A GDDR7 channel is fitted (R4). -/
def State.chanFitted (s : State) (c : ChanId) : Bool := c.val < 3 * partTiles s.part

/-- The lowest and the highest sample rate of an arm synthesizer, samples per second (R27, R135). -/
def synthLeast : Nat := 3570000000
def synthMost : Nat := 6600000000

/-! ### Packs, arms and lanes by number -/

/-- Changes one pack. -/
def State.updPack (s : State) (p : PackId) (f : Pack → Pack) : State :=
  { s with packs := s.packs.set p.val (f s.packs[p]) p.isLt }

/-- Changes one arm of a pack. -/
def Pack.updArm (k : Pack) (a : ArmId) (f : Arm → Arm) : Pack :=
  { k with arms := k.arms.set a.val (f k.arms[a]) a.isLt }

/-- Changes one lane of an arm. -/
def Arm.updLane (x : Arm) (h : HeadId) (f : Lane → Lane) : Arm :=
  { x with lanes := x.lanes.set h.val (f x.lanes[h]) h.isLt }

/-- One arm of the machine. -/
def State.arm (s : State) (p : PackId) (a : ArmId) : Arm := s.packs[p].arms[a]

/-- One lane of the machine. -/
def State.lane (s : State) (p : PackId) (a : ArmId) (h : HeadId) : Lane := s.packs[p].arms[a].lanes[h]

/-- Changes one arm of the machine. -/
def State.updArm (s : State) (p : PackId) (a : ArmId) (f : Arm → Arm) : State :=
  s.updPack p (fun k => k.updArm a f)

/-- Changes one lane of the machine. -/
def State.updLane (s : State) (p : PackId) (a : ArmId) (h : HeadId) (f : Lane → Lane) : State :=
  s.updArm p a (fun x => x.updLane h f)

/-- Changes every lane of an arm. -/
def Arm.mapLanes (x : Arm) (f : Lane → Lane) : Arm := { x with lanes := x.lanes.map f }

/-- Changes the servo state of an arm. -/
def State.updServo (s : State) (p : PackId) (a : ArmId) (f : ArmServo → ArmServo) : State :=
  s.updArm p a (fun x => { x with servo := f x.servo })

/-- Changes one tile. -/
def State.updTile (s : State) (t : TileId) (f : Tile → Tile) : State :=
  { s with tiles := s.tiles.set t.val (f s.tiles[t]) t.isLt }

/-- The subindex of a lane in the per-lane arrays (R17). -/
def laneSub (a : ArmId) (h : HeadId) : Nat := a.val * 16 + h.val + 1

/-! ### The dictionary store -/

/-- Writes `v` at key `k` of a sorted store that holds nothing equal to `d` (R446): writing `d` removes the key. -/
def putVal (k v d : Nat) : List (Nat × Nat) → List (Nat × Nat)
  | [] => if v = d then [] else [(k, v)]
  | (k', v') :: l =>
    if k < k' then (if v = d then (k', v') :: l else (k, v) :: (k', v') :: l)
    else if k = k' then (if v = d then l else (k, v) :: l)
    else (k', v') :: putVal k v d l

/-- The value at key `k` of a store whose unlisted keys read as `d`. -/
def getVal (k d : Nat) (l : List (Nat × Nat)) : Nat := (l.lookup k).getD d

/-- A store's form: keys strictly rising, and none equal to what an unlisted key reads as. -/
def storeWf (d : Nat → Nat) (l : List (Nat × Nat)) : Bool :=
  (l.all (fun x => x.2 != d x.1)) && decide (l.Pairwise (fun x y => x.1 < y.1))

/-- The present value of a parameter entry. -/
def State.param (s : State) (idx sub : Nat) : Nat :=
  getVal (dictKey idx sub) (dictDefault s.part (dictKey idx sub)) s.dict.vals

/-- Stores the present value of a parameter entry. -/
def State.setParam (s : State) (idx sub v : Nat) : State :=
  { s with dict := { s.dict with
      vals := putVal (dictKey idx sub) v (dictDefault s.part (dictKey idx sub)) s.dict.vals } }

/-- A parameter of a pack block, at offset `off` from P (R451). -/
def State.packParam (s : State) (p : PackId) (off sub : Nat) : Nat := s.param (0x4000 + p.val * 0x80 + off) sub

/-- The number of seconds since chip reset or start, from the model's clock. -/
def State.seconds (s : State) : Nat := s.now / 1000000000

/-! ### Gate outputs (R271, R519) -/

/-- The motor gates are driven: VDD_IO33, rail 0, is on, and the motor entries have been loaded since the chip reset. -/
def State.gatesLive (s : State) : Bool := s.rails[(0 : Fin 8)].enable && s.dev.motorLoaded

/-- Every gate of a spindle bridge is off, and no phase carries current (R281). -/
def Spindle.gatesOff (x : Spindle) : Spindle :=
  { x with duty := Vector.replicate 3 0, legs := Vector.replicate 3 {}, debt := Vector.replicate 3 0, brakeOn := 0, current := 0 }

/-- A leg whose high switch is on from `rise` to `fall` of a period of PWM, and its low switch for the rest: each on command comes the dead time
after the other switch's off command (R271, R273). -/
def Leg.pwm (period rise fall dead : Nat) : Leg := { high := (rise + dead, fall), low := [(0, rise), (fall + dead, period)] }

/-- The high switch, or the low one, is on at a time of the period. -/
def Leg.highOn (l : Leg) (t : Nat) : Bool := decide (l.high.1 ≤ t) && decide (t < l.high.2)
def Leg.lowOn (l : Leg) (t : Nat) : Bool := l.low.any (fun x => decide (x.1 ≤ t) && decide (t < x.2))

/-- Every motor gate is low: no phase, coil or chopper is driven. -/
def State.gatesOff (s : State) : State :=
  { s with
    packs := s.packs.map (fun k => { k with
      spindle := k.spindle.gatesOff,
      arms := k.arms.map (fun x => { x with servo := { x.servo with duty := 0, legs := Vector.replicate 2 {} } }) }),
    buses := s.buses.map (fun b => { b with gate := false }) }

/-! ### Device states -/

/-- The code of a device state (R524). -/
def DevState.code : DevState → Nat
  | .off => 0 | .zephyr => 1 | .lee => 2 | .boot => 3 | .selfTest => 4
  | .assemble => 5 | .opened => 6 | .quiesce => 7 | .bench => 8

/-- The states in which packs spin up and the host is served in some way: SelfTest to Bench (R97, R525). -/
def DevState.running : DevState → Bool
  | .selfTest | .assemble | .opened | .quiesce | .bench => true
  | _ => false

/-- The code of the active cluster, 255 for none (R514). -/
def State.activeCode (s : State) : Nat :=
  match s.clusters.active with
  | some c => c.val
  | none => 255

/-- A quotient rounded up. -/
def ceilDiv (a b : Nat) : Nat := (a + b - 1) / b

/-- No arm is in a mode other than Unloaded or Out (R525). -/
def Arm.isDown (x : Arm) : Bool := x.servo.mode = .unloaded || x.servo.mode = .out

/-- Both arms of a pack are Unloaded or Out. -/
def Pack.armsDown (k : Pack) : Bool := k.arms.all Arm.isDown

/-- Every arm of the device is Unloaded or Out (R525). -/
def State.allArmsDown (s : State) : Bool := s.packs.all Pack.armsDown

/-- Changes a power domain. -/
def State.updDomain (s : State) (d : DomainId) (f : Domain → Domain) : State :=
  { s with domains := s.domains.set d.val (f s.domains[d]) d.isLt }

/-- The domain of an arm's lane group (R162, R522). -/
def armDomain (p : PackId) (a : ArmId) : DomainId := ⟨2 * p.val + a.val, by omega⟩

/-- The lane's group is powered: its demodulator and channel run (R161, R162). -/
def State.laneOn (s : State) (p : PackId) (a : ArmId) (h : HeadId) : Bool := (s.lane p a h).chan.power != .off

end Sys2Proof.Machine
end

