-- ==== Sys2Proof/Machine/ServoMath.lean ====
section
/-! DEFINITION. The arithmetic of the servo control engine: formats and saturation (R231 to R233), the reading of the
servo field (R234 to R237), the head and arm loops (R238 to R246), the choice of the cylinder set (R242), and what one
wedge does to one head (R252 to R256). Every function is on plain values; nothing here touches State. -/

namespace Sys2Proof.Machine

/-- A value together with the number of saturations and clamps met in forming it (R233). -/
structure Sat where
  val : Int
  sats : Nat
  deriving DecidableEq, Repr

/-- Clamps `x` to `lo..hi`, counting one saturation when it moves (R233). -/
def clampSat (lo hi x : Int) : Sat :=
  if x < lo then ⟨lo, 1⟩ else if hi < x then ⟨hi, 1⟩ else ⟨x, 0⟩

/-- The 40-bit accumulator, Q10.30: saturates, never wraps (R231). -/
def accSat (x : Int) : Sat := clampSat (-(2 ^ 39)) (2 ^ 39 - 1) x

/-- INTEGER16 saturation of a stage output (R231). -/
def sat16 (x : Int) : Sat := clampSat (-32768) 32767 x

/-- Rounds `x / 2^n` half up, the way R231 rounds a stage output (assumption 5 for the conversions it does not name). -/
def roundShift (x : Int) (n : Nat) : Int := (x + 2 ^ n / 2) / 2 ^ n

/-- Output of a stage: accumulator, post-shift `p`, rounding, INTEGER16 saturation (R231). -/
def stageOut (acc : Int) (p : Nat) : Sat :=
  let a := accSat acc
  let b := accSat (a.val * 2 ^ p)
  let c := sat16 (roundShift b.val 15)
  ⟨c.val, a.sats + b.sats + c.sats⟩

/-- An integrator update, clamped to the limit `lim` in Q1.15 (R232). -/
def integStep (st add lim : Int) : Sat :=
  let a := accSat (st + add)
  let b := clampSat (-(lim * 2 ^ 15)) (lim * 2 ^ 15) a.val
  ⟨b.val, a.sats + b.sats⟩

/-- A second-order stage (R238): new output and delayed values. -/
def biquadStep (b0 b1 b2 a1 a2 : Int) (p : Nat) (s : Biquad) (x : Int) : Sat × Biquad :=
  let u := stageOut (b0 * x + b1 * s.x1 + b2 * s.x2 + a1 * s.u1 + a2 * s.u2) p
  (u, { x1 := x, x2 := s.x1, u1 := u.val, u2 := s.u1 })

/-- The value held at offset `off`, subindex `sub` of a copied coefficient set (R230). -/
def coefAt (c : List (Nat × Nat)) (off sub : Nat) : Nat := (c.lookup (off * 256 + sub)).getD 0

/-- The same as INTEGER16 (R267). -/
def coefInt (c : List (Nat × Nat)) (off sub : Nat) : Int :=
  let v := coefAt c off sub % 65536
  if v < 32768 then v else (v : Int) - 65536

/-- A notch biquad whose six coefficients stand at offset `off` (R238, R267). -/
def notchStep (c : List (Nat × Nat)) (off : Nat) (s : Biquad) (x : Int) : Sat × Biquad :=
  biquadStep (coefInt c off 1) (coefInt c off 2) (coefInt c off 3) (coefInt c off 4) (coefInt c off 5)
    (coefAt c off 6) s x

/-! ### Reading the servo field -/

/-- The fraction f of R236, in 2^-30 track: `k` the burst slope, `n`, `q` the burst amplitudes, all Q1.15. -/
def burstFraction (k n q : Int) : Int :=
  if n.natAbs ≤ q.natAbs then k * n
  else (if n < 0 then -1 else 1) * (2 ^ 29 - k * q.natAbs)

/-- The one of d - 1, d, d + 1 for which t + f lies nearest the predicted position `pred` (2^-10 track) (R236). -/
def nearestTrack (d f pred : Int) : Int :=
  let dist := fun t : Int => (t * 2 ^ 30 + f - pred * 2 ^ 20).natAbs
  let t := if dist (d - 1) ≤ dist d then d - 1 else d
  if dist t ≤ dist (d + 1) then t else d + 1

/-- The head position y of R236 in 2^-30 track. -/
def headPosition (k n q d pred : Int) : Int :=
  let f := burstFraction k n q
  nearestTrack d f pred * 2 ^ 30 + f

/-- The position error e_h of R237: 1 LSB is 2^-10 track, saturating; `rro` Q1.15 of track pitch, `off` in 1/256 of
track pitch. -/
def positionError (y : Int) (target : Int) (rro off : Int) : Int :=
  (sat16 (roundShift (y - (target * 2 ^ 30 + rro * 2 ^ 15 + off * 2 ^ 22)) 20)).val

/-- R235's test of the bursts and of the plausibility limit `plaus` (tracks) against the prediction (2^-10 track). -/
def burstsPlausible (minAmp n q y pred plaus : Int) : Bool :=
  decide (minAmp ≤ (n.natAbs : Int) + q.natAbs) && decide ((y - pred * 2 ^ 20).natAbs ≤ (plaus * 2 ^ 30).natAbs)

/-! ### Head loop -/

/-- The four stages of the head loop for the error `e`; `hold` keeps the integrator, as in a missed wedge (R238). -/
def headLoop (c : List (Nat × Nat)) (h : HeadServo) (e : Int) (hold : Bool) : Sat × HeadServo :=
  let i := if hold then ⟨h.integ, 0⟩ else integStep h.integ (coefInt c 1 2 * e) (coefInt c 1 3)
  let u1 := stageOut (coefInt c 1 1 * e + i.val) (coefAt c 1 4)
  let u2 := stageOut (coefInt c 2 1 * u1.val + coefInt c 2 2 * h.leadX + coefInt c 2 3 * h.leadU) (coefAt c 2 4)
  let (u3, n1) := notchStep c 3 h.notch1 u2.val
  let (u4, n2) := notchStep c 4 h.notch2 u3.val
  (⟨u4.val, i.sats + u1.sats + u2.sats + u3.sats + u4.sats⟩,
   { h with integ := i.val, leadX := u1.val, leadU := u2.val, notch1 := n1, notch2 := n2 })

/-- The head loop's integrator and filter states at zero (R240, R255). -/
def HeadServo.clearLoop (h : HeadServo) : HeadServo :=
  { h with integ := 0, leadX := 0, leadU := 0, notch1 := {}, notch2 := {} }

/-- Rounds `x / d` half up, for a positive `d` (assumption 5). -/
def roundDiv (x d : Int) : Int := (2 * x + d) / (2 * d)

/-- Feedforward F_h of R239 for the offset `d` from the arm target and the micro window `m`. -/
def feedForward (d : Int) (m : Nat) : Int := if m = 0 then 0 else roundDiv (d * 32767) m

/-- The command c_h of R239 from v = F_h + u_h and the gain trim `t`. -/
def microCommand (v t : Int) : Sat := sat16 (v + v * t / 2 ^ 15)

/-- The microactuator displacement estimate after one wedge (R245 step 1). -/
def microEstimate (alpha m c : Int) : Int := m + roundShift (alpha * (c - m)) 15

/-- Command units (32,767 is the micro window `m`) to 2^-10 track (R81, R245). -/
def commandToTracks (c : Int) (m : Nat) : Int := roundDiv (c * m * 1024) 32767

/-- Reversal tracking of the command (R241): a change of direction after an excursion of at least one track. -/
def trackReversal (h : HeadServo) (c : Int) (m : Nat) : HeadServo :=
  let step := c - h.command
  let d : Int := if 0 < step then 1 else if step < 0 then -1 else h.dir
  if h.dir ≠ 0 ∧ d ≠ h.dir then
    let big : Bool := m ≠ 0 ∧ 32767 ≤ (h.command - h.turn).natAbs * m
    { h with dir := d, turn := h.command, reversals := h.reversals + (if big then 1 else 0) }
  else { h with dir := d }

/-! ### Arm loop -/

/-- Σ w ε / Σ w over the heads given as (weight, error); none when the weights sum to zero (R245 step 2). -/
def weightedError (l : List (Int × Int)) : Option Int :=
  let w := (l.map (fun x => x.1)).sum
  if w ≤ 0 then none else some (roundDiv ((l.map (fun x => x.1 * x.2)).sum) w)

/-- The estimator of R245 step 3; without an error the L term is left out (R246). -/
def estimatorStep (c : List (Nat × Nat)) (a : ArmServo) (err : Option Int) : ArmServo :=
  let p := coefAt c 6 16
  let inn := match err with | some e => e - a.est0 | none => 0
  let row := fun (i : Nat) => stageOut
    (coefInt c 6 (3 * i + 1) * a.est0 + coefInt c 6 (3 * i + 2) * a.est1 + coefInt c 6 (3 * i + 3) * a.est2
      + coefInt c 6 (10 + i) * a.setPoint + coefInt c 6 (13 + i) * inn) p
  { a with est0 := (row 0).val, est1 := (row 1).val, est2 := (row 2).val,
           saturations := min (a.saturations + (row 0).sats + (row 1).sats + (row 2).sats) (2 ^ 32 - 1) }

/-- Steps 3 to 6 of R245: estimator, PID, four notches, and the set-point i*. -/
def armLoop (a0 : ArmServo) (err : Option Int) : ArmServo :=
  let c := a0.coef
  let a := estimatorStep c a0 err
  let i := integStep a.integ (coefInt c 7 2 * a.est0) (coefInt c 7 4)
  let u := stageOut (coefInt c 7 1 * a.est0 + i.val + coefInt c 7 3 * a.est1 - a.est2 * 2 ^ 15) (coefAt c 7 5)
  let (v1, n1) := notchStep c 8 a.notch1 u.val
  let (v2, n2) := notchStep c 9 a.notch2 v1.val
  let (v3, n3) := notchStep c 10 a.notch3 v2.val
  let (v4, n4) := notchStep c 11 a.notch4 v3.val
  { a with integ := i.val, notch1 := n1, notch2 := n2, notch3 := n3, notch4 := n4,
           setPoint := v4.val, setPointNew := true,
           saturations := min (a.saturations + i.sats + u.sats + v1.sats + v2.sats + v3.sats + v4.sats) (2 ^ 32 - 1) }

/-- The arm's loop state at zero, as at the change to Settling (R252). -/
def ArmServo.clearLoop (a : ArmServo) : ArmServo :=
  { a with est0 := 0, est1 := 0, est2 := 0, integ := 0, notch1 := {}, notch2 := {}, notch3 := {}, notch4 := {} }

/-- Integer square root by bisection on bits, for RMS values (R268). -/
def isqrtFrom : Nat → Nat → Nat → Nat
  | 0, _, r => r
  | k + 1, n, r => if (r + 2 ^ k) * (r + 2 ^ k) ≤ n then isqrtFrom k n (r + 2 ^ k) else isqrtFrom k n r

/-- The largest r below 2^16 with r * r at most n. -/
def isqrt16 (n : Nat) : Nat := isqrtFrom 16 n 0

/-! ### Seeks (R251) -/

/-- v_ref for the distance to go `d` (2^-10 track), in 1/256 track per wedge: sign(D) * min(V_max, sqrt(2 * A_dec * |D|)). -/
def seekVelocity (c : List (Nat × Nat)) (d : Int) : Int :=
  d.sign * (min (coefAt c 0x0E 1 * 16) (isqrtFrom 24 (coefAt c 0x0E 2 * d.natAbs / 2) 0) : Nat)

/-- a_ref, the slope of v_ref along the path, in 1/256 track per wedge squared: 0 at V_max, otherwise -sign(D) * A_dec. -/
def seekSlope (c : List (Nat × Nat)) (d : Int) : Int :=
  if coefAt c 0x0E 1 * 16 ≤ isqrtFrom 24 (coefAt c 0x0E 2 * d.natAbs / 2) 0 then 0 else -d.sign * coefAt c 0x0E 2

/-- The seek set-point i* = Kv (v_ref - v) + Ka a_ref for the distance to go `d` and the velocity `v` (R251), as a stage of R231 with velocities in
1/256 track per wedge and no post-shift, since the set holds none for it (DEDUCED: log entry 150). -/
def seekDrive (c : List (Nat × Nat)) (d v : Int) : Sat :=
  stageOut (coefInt c 0x0E 3 * (seekVelocity c d - v) + coefInt c 0x0E 4 * seekSlope c d) 0

/-! ### Cylinder sets -/

/-- How many of lanes 0 to 15 the mask names. -/
def laneCount (m : Nat) : Nat := ((List.range 16).filter (fun h => m.testBit h)).length

/-- The lanes of `l` (lane, target) whose targets lie in `lo .. lo + span`. -/
def lanesWithin (l : List (Nat × Nat)) (lo span : Nat) : Nat :=
  ((l.filter (fun x => lo ≤ x.2 && x.2 ≤ lo + span)).map (fun x => 2 ^ x.1)).sum

/-- Of two lane subsets the one R242 step 2 takes: the larger; of equal ones, the one that holds the lowest-numbered
lane found in only one of them. -/
def betterLanes (a b : Nat) : Nat :=
  if laneCount a < laneCount b then b
  else if laneCount b < laneCount a then a
  else match (List.range 16).find? (fun h => a.testBit h != b.testBit h) with
    | some h => if a.testBit h then a else b
    | none => a

/-- R242 steps 2 and 3 over the lanes that remain, as (lane, target), for the micro window `m`: the subset and the
arm target. -/
def cylinderSet (l : List (Nat × Nat)) (m : Nat) : Nat × Nat :=
  let span := 2 * (m - 1)
  let set := (l.map (fun x => lanesWithin l x.2 span)).foldl betterLanes 0
  let ts := (l.filter (fun x => set.testBit x.1)).map (fun x => x.2)
  let lo := ts.foldl min (ts.headD 0)
  let hi := ts.foldl max 0
  (set, (lo + hi) / 2)

/-! ### One wedge of one head -/

/-- The pack's servo parameters P+0x2B in force (R268). -/
structure ServoParams where
  inhibit : Nat
  release : Nat
  window : Nat
  count : Nat
  deriving DecidableEq, Repr

/-- Miss counting of R255 and R256. -/
def missStep (valid : Bool) (h : HeadServo) : HeadServo :=
  if valid then { h with missRun := 0, validRun := min (h.validRun + 1) 16 }
  else { h with missRun := h.missRun + 1, validRun := 0, missedWedges := min (h.missedWedges + 1) (2 ^ 32 - 1) }

/-- Settling of one lane of the set (R252): consecutive valid wedges inside the window. -/
def settleStep (q : ServoParams) (valid : Bool) (h : HeadServo) : HeadServo :=
  if valid ∧ h.err.natAbs ≤ q.window then
    let run := h.settleRun + 1
    { h with settleRun := run, settled := h.settled || decide (q.count ≤ run) }
  else { h with settleRun := 0 }

/-- Some case of R253 holds for the head: `following` is the arm's mode, `driver` a driver fault in STATUS. -/
def inhibitCase (q : ServoParams) (following driver valid : Bool) (h : HeadServo) : Bool :=
  (valid && decide (q.inhibit < h.err.natAbs)) || decide (2 ≤ h.missRun) || h.satLast || !h.settled
    || h.status = .lost || h.status = .satOut || !following || driver

/-- Write inhibit after one wedge (R253, R254): asserted in any case, released after 2 consecutive valid wedges within
the release threshold. -/
def inhibitStep (q : ServoParams) (following driver valid : Bool) (h : HeadServo) : HeadServo :=
  if inhibitCase q following driver valid h then
    { h with inhibit := true, releaseRun := 0,
             inhibits := if h.inhibit then h.inhibits else min (h.inhibits + 1) (2 ^ 32 - 1) }
  else
    let run := if valid ∧ h.err.natAbs ≤ q.release then h.releaseRun + 1 else 0
    { h with releaseRun := min run 2, inhibit := h.inhibit && decide (run < 2) }

/-- A head that sits out follows the arm target itself (R239). -/
def HeadServo.followArm (h : HeadServo) (target : Nat) : HeadServo := { h with target := target, offset := 0 }

/-- The Gale retract generator over one nanosecond (R263): the retract current for the retract time, the hold current for the hold time,
then every gate off. -/
def ArmServo.galeTick (v : ArmServo) : ArmServo :=
  match v.galeStage with
  | .off => v
  | .retract =>
    if 1 < v.galeLeft then { v with galeLeft := v.galeLeft - 1 }
    else if v.gale.holdTime = 0 then { v with galeStage := .off, galeLeft := 0 }
    else { v with galeStage := .hold, galeLeft := v.gale.holdTime * 10 ^ 6 }
  | .hold => if 1 < v.galeLeft then { v with galeLeft := v.galeLeft - 1 } else { v with galeStage := .off, galeLeft := 0 }

/-- The current that the Gale retract generator holds, in per cent of full scale, with the latched ramp direction (R263). -/
def ArmServo.galeCurrent (v : ArmServo) : Int :=
  v.gale.direction * (match v.galeStage with | .off => 0 | .retract => v.gale.current | .hold => v.gale.holdCurrent)

/-- RMS of e_h over the last revolution (512 wedges) in Following (R268). -/
def rmsStep (h : HeadServo) : HeadServo :=
  let sum := h.rmsSum + h.err.natAbs * h.err.natAbs
  if 512 ≤ h.rmsCount + 1 then { h with rms := isqrt16 (sum / 512), rmsSum := 0, rmsCount := 0 }
  else { h with rmsSum := sum, rmsCount := h.rmsCount + 1 }

end Sys2Proof.Machine
end

