-- ==== Sys2Proof/Machine/Clock.lean ====
section
/-! DEFINITION. What a nanosecond does while no command waits (assumptions 1 and 3). -/

namespace Sys2Proof.Machine

/-- The time base turns by one nanosecond at the loop's period (R31, R33, R40): AngleTime advances by 2^28 RU in a loop
period, the fraction kept exactly. -/
def TimeBase.turn (t : TimeBase) : TimeBase :=
  if t.state = .stopped ∨ t.loopPeriod = 0 then t
  else
    let n := t.frac + 2 ^ 28 * 100
    { t with angle := t.angle + BitVec.ofNat 40 (n / t.loopPeriod), frac := n % t.loopPeriod }

/-- A pack over one nanosecond: its time base turns, and its arms' Gale retract generators go on (R263). -/
def Pack.turn (k : Pack) : Pack :=
  { k with tb := k.tb.turn, arms := k.arms.map (fun x => { x with servo := x.servo.galeTick }) }

/-- One nanosecond passes: the clock counts, every turning time base advances and every Gale retract goes on. -/
def State.tick (s : State) : State := { s with now := s.now + 1, packs := s.packs.map Pack.turn }

end Sys2Proof.Machine
end

