-- ==== Sys2Proof/Machine/Crypto.lean ====
section
/-! DEFINITION. The standard functions that the manual names for its keys and data: SHA-384 (R70, R224, R471, R535) and HMAC-SHA-384
(R300, R471), AES-256 and its XTS mode (R29, R316). The manual names them; what they compute is PRESUMED from the standards it names
(log entry 160). -/

namespace Sys2Proof.Machine

/-! ### SHA-384 -/

/-- Round constants 0 to 19 of SHA-384. -/
def shaK0 : List (BitVec 64) :=
  [0x428A2F98D728AE22, 0x7137449123EF65CD, 0xB5C0FBCFEC4D3B2F, 0xE9B5DBA58189DBBC, 0x3956C25BF348B538,
   0x59F111F1B605D019, 0x923F82A4AF194F9B, 0xAB1C5ED5DA6D8118, 0xD807AA98A3030242, 0x12835B0145706FBE,
   0x243185BE4EE4B28C, 0x550C7DC3D5FFB4E2, 0x72BE5D74F27B896F, 0x80DEB1FE3B1696B1, 0x9BDC06A725C71235,
   0xC19BF174CF692694, 0xE49B69C19EF14AD2, 0xEFBE4786384F25E3, 0x0FC19DC68B8CD5B5, 0x240CA1CC77AC9C65]

/-- Round constants 20 to 39 of SHA-384. -/
def shaK1 : List (BitVec 64) :=
  [0x2DE92C6F592B0275, 0x4A7484AA6EA6E483, 0x5CB0A9DCBD41FBD4, 0x76F988DA831153B5, 0x983E5152EE66DFAB,
   0xA831C66D2DB43210, 0xB00327C898FB213F, 0xBF597FC7BEEF0EE4, 0xC6E00BF33DA88FC2, 0xD5A79147930AA725,
   0x06CA6351E003826F, 0x142929670A0E6E70, 0x27B70A8546D22FFC, 0x2E1B21385C26C926, 0x4D2C6DFC5AC42AED,
   0x53380D139D95B3DF, 0x650A73548BAF63DE, 0x766A0ABB3C77B2A8, 0x81C2C92E47EDAEE6, 0x92722C851482353B]

/-- Round constants 40 to 59 of SHA-384. -/
def shaK2 : List (BitVec 64) :=
  [0xA2BFE8A14CF10364, 0xA81A664BBC423001, 0xC24B8B70D0F89791, 0xC76C51A30654BE30, 0xD192E819D6EF5218,
   0xD69906245565A910, 0xF40E35855771202A, 0x106AA07032BBD1B8, 0x19A4C116B8D2D0C8, 0x1E376C085141AB53,
   0x2748774CDF8EEB99, 0x34B0BCB5E19B48A8, 0x391C0CB3C5C95A63, 0x4ED8AA4AE3418ACB, 0x5B9CCA4F7763E373,
   0x682E6FF3D6B2B8A3, 0x748F82EE5DEFB2FC, 0x78A5636F43172F60, 0x84C87814A1F0AB72, 0x8CC702081A6439EC]

/-- Round constants 60 to 79 of SHA-384. -/
def shaK3 : List (BitVec 64) :=
  [0x90BEFFFA23631E28, 0xA4506CEBDE82BDE9, 0xBEF9A3F7B2C67915, 0xC67178F2E372532B, 0xCA273ECEEA26619C,
   0xD186B8C721C0C207, 0xEADA7DD6CDE0EB1E, 0xF57D4F7FEE6ED178, 0x06F067AA72176FBA, 0x0A637DC5A2C898A6,
   0x113F9804BEF90DAE, 0x1B710B35131C471B, 0x28DB77F523047D84, 0x32CAAB7B40C72493, 0x3C9EBE0A15C9BEBC,
   0x431D67C49C100D4C, 0x4CC5D4BECB3E42B6, 0x597F299CFC657E2A, 0x5FCB6FAB3AD6FAEC, 0x6C44198C4A475817]

/-- The initial value of SHA-384. -/
def shaInit : List (BitVec 64) :=
  [0xCBBB9D5DC1059ED8, 0x629A292A367CD507, 0x9159015A3070DD17, 0x152FECD8F70E5939, 0x67332667FFC00B31,
   0x8EB44A8768581511, 0xDB0C2E0D64F98FA7, 0x47B5481DBEFA4FA4]

/-- A big-endian number of a byte list. -/
def beNat (l : List Byte) : Nat := l.foldl (fun n b => 256 * n + b.toNat) 0

/-- The message with its padding: a 1 bit, zeros to 112 bytes modulo 128, the length in bits as 128 bits. -/
def shaPadded (l : List Byte) : List Byte :=
  l ++ [0x80] ++ List.replicate ((239 - l.length % 128) % 128) 0 ++ (natBytes 16 (8 * l.length)).reverse

/-- The message schedule, newest word first, extended by `n` words. -/
def shaExtend : Nat → List (BitVec 64) → List (BitVec 64)
  | 0, w => w
  | n + 1, w =>
    let a := w.getD 14 0
    let b := w.getD 1 0
    let s0 := a.rotateRight 1 ^^^ a.rotateRight 8 ^^^ a >>> 7
    let s1 := b.rotateRight 19 ^^^ b.rotateRight 61 ^^^ b >>> 6
    shaExtend n ((s1 + w.getD 6 0 + s0 + w.getD 15 0) :: w)

/-- One round on the eight working words, with its constant and schedule word. -/
def shaRound (v : List (BitVec 64)) (kw : BitVec 64 × BitVec 64) : List (BitVec 64) :=
  match v with
  | [a, b, c, d, e, f, g, h] =>
    let t1 := h + (e.rotateRight 14 ^^^ e.rotateRight 18 ^^^ e.rotateRight 41) + (e &&& f ^^^ ~~~e &&& g) + kw.1 + kw.2
    let t2 := (a.rotateRight 28 ^^^ a.rotateRight 34 ^^^ a.rotateRight 39) + (a &&& b ^^^ a &&& c ^^^ b &&& c)
    [t1 + t2, a, b, c, d + t1, e, f, g]
  | _ => v

/-- One block of 128 bytes taken into the hash value. -/
def shaBlock (v : List (BitVec 64)) (block : List Byte) : List (BitVec 64) :=
  let first := (List.range 16).map (fun i => BitVec.ofNat 64 (beNat ((block.drop (8 * i)).take 8)))
  let w := (shaExtend 64 first.reverse).reverse
  List.zipWith (· + ·) v (((shaK0 ++ shaK1 ++ shaK2 ++ shaK3).zip w).foldl shaRound v)

/-- The blocks of a message in order. -/
def shaBlocks : Nat → List (BitVec 64) → List Byte → List (BitVec 64)
  | 0, v, _ => v
  | n + 1, v, l => shaBlocks n (shaBlock v (l.take 128)) (l.drop 128)

/-- SHA-384 of a byte string: 48 bytes. -/
def sha384Bytes (l : List Byte) : List Byte :=
  let m := shaPadded l
  ((shaBlocks (m.length / 128) shaInit m).take 6).flatMap (fun w => (natBytes 8 w.toNat).reverse)

/-- SHA-384 as a number, its byte 0 in the lowest bits. -/
@[irreducible] def sha384 (l : List Byte) : BitVec 384 := BitVec.ofNat 384 (leNat (sha384Bytes l))

/-- HMAC-SHA-384 of a byte string under a key: 48 bytes. -/
def hmac384 (key l : List Byte) : List Byte :=
  let k := if key.length ≤ 128 then key else sha384Bytes key
  let pad := k ++ List.replicate (128 - k.length) 0
  sha384Bytes (pad.map (· ^^^ 0x5C) ++ sha384Bytes (pad.map (· ^^^ 0x36) ++ l))

/-- The MAC of a kind 3 image under the device's fused configuration key (R471), byte 0 in the lowest bits. -/
@[irreducible] def configMac (l : List Byte) : BitVec 384 := BitVec.ofNat 384 (leNat (hmac384 Config.configKey l))

/-- The first 16 bytes of HMAC-SHA-384 of a key under the store hash key (R300). -/
@[irreducible] def keyHash (hashKey : Nat) (key : List Byte) : Nat := leNat ((hmac384 (natBytes 48 hashKey) key).take 16)

/-! ### AES-256 -/

/-- Multiplication by x in the field of AES. -/
def aesDouble (b : Byte) : Byte := if b.msb then (b <<< 1) ^^^ 0x1B else b <<< 1

/-- Product of two bytes in the field of AES, over `n` bits of the second. -/
def aesMul : Nat → Byte → Byte → Byte
  | 0, _, _ => 0
  | n + 1, a, b => (if b.getLsbD 0 then a else 0) ^^^ aesMul n (aesDouble a) (b >>> 1)

/-- The power of a byte by an exponent of 2^n - 1 doubled: the inverse for n = 7. -/
def aesInverse (a : Byte) : Byte :=
  (List.range 7).foldl (fun r i => aesMul 8 r ((List.range (i + 1)).foldl (fun x _ => aesMul 8 x x) a)) 1

/-- The substitution of a byte and its inverse. -/
def aesSub (b : Byte) : Byte :=
  let v := aesInverse b
  v ^^^ v.rotateLeft 1 ^^^ v.rotateLeft 2 ^^^ v.rotateLeft 3 ^^^ v.rotateLeft 4 ^^^ 0x63
def aesUnsub (b : Byte) : Byte := aesInverse (b.rotateLeft 1 ^^^ b.rotateLeft 3 ^^^ b.rotateLeft 6 ^^^ 0x05)

/-- Bytes of two lists added. -/
def xorBytes (a b : List Byte) : List Byte := List.zipWith (· ^^^ ·) a b

/-- The key schedule of a 32-byte key as words, newest first, extended by `n` words from word `i`; `c` is the round constant. -/
def aesExpand : Nat → Nat → Byte → List (List Byte) → List (List Byte)
  | 0, _, _, w => w
  | n + 1, i, c, w =>
    let t := w.getD 0 []
    let u :=
      if i % 8 = 0 then (match t with
        | a :: l => ((l ++ [a]).map aesSub).modifyHead (· ^^^ c)
        | [] => [])
      else if i % 8 = 4 then t.map aesSub else t
    aesExpand n (i + 1) (if i % 8 = 0 then aesDouble c else c) (xorBytes (w.getD 7 []) u :: w)

/-- The 15 round keys of 16 bytes. -/
def aesKeys (key : List Byte) : List (List Byte) :=
  let w := (aesExpand 52 8 1 ((List.range 8).map (fun i => (key.drop (4 * i)).take 4)).reverse).reverse
  (List.range 15).map (fun i => ((w.drop (4 * i)).take 4).flatten)

/-- The rows of a block shifted left by their number, `d` columns a step (1 to encrypt, 3 to decrypt). -/
def aesShift (d : Nat) (b : List Byte) : List Byte := (List.range 16).map (fun i => b.getD ((i + 4 * d * (i % 4)) % 16) 0)

/-- The columns of a block multiplied by a circulant matrix of first row `m`. -/
def aesMix (m : List Byte) (b : List Byte) : List Byte :=
  (List.range 16).map (fun i =>
    (List.range 4).foldl (fun r j => r ^^^ aesMul 8 (b.getD (i / 4 * 4 + j) 0) (m.getD ((j + 4 - i % 4) % 4) 0)) 0)

/-- AES-256 of a 16-byte block, and its inverse. -/
def aesEncrypt (key block : List Byte) : List Byte :=
  match aesKeys key with
  | k0 :: l =>
    let x := (l.take 13).foldl (fun b k => xorBytes (aesMix [2, 3, 1, 1] (aesShift 1 (b.map aesSub))) k) (xorBytes block k0)
    xorBytes (aesShift 1 (x.map aesSub)) (l.getD 13 [])
  | [] => block
def aesDecrypt (key block : List Byte) : List Byte :=
  match (aesKeys key).reverse with
  | k0 :: l =>
    let x := (l.take 13).foldl (fun b k => aesMix [14, 11, 13, 9] (xorBytes ((aesShift 3 b).map aesUnsub) k)) (xorBytes block k0)
    xorBytes ((aesShift 3 x).map aesUnsub) (l.getD 13 [])
  | [] => block

/-! ### XTS -/

/-- The tweak of the next block of a data unit. -/
def xtsNext (t : Nat) : Nat := let u := 2 * t; if 2 ^ 128 ≤ u then (u - 2 ^ 128) ^^^ 0x87 else u

/-- The blocks of a data unit of whole blocks, each under its tweak. -/
def xtsBlocks (f : List Byte → List Byte) : Nat → Nat → List Byte → List Byte
  | 0, _, _ => []
  | n + 1, t, l =>
    let m := natBytes 16 t
    xorBytes (f (xorBytes (l.take 16) m)) m ++ xtsBlocks f n (xtsNext t) (l.drop 16)

/-- The two AES-256 keys of a 512-bit key: the data key in its low half (R316). -/
def xtsKeys (key : Nat) : List Byte × List Byte := (natBytes 32 key, natBytes 32 (key / 2 ^ 256))

/-- A data unit encrypted, and decrypted, under a key and a tweak (R316). -/
@[irreducible] def xtsEncrypt (key tweak : Nat) (l : List Byte) : List Byte :=
  let (k1, k2) := xtsKeys key
  xtsBlocks (aesEncrypt k1) (l.length / 16) (leNat (aesEncrypt k2 (natBytes 16 tweak))) l
@[irreducible] def xtsDecrypt (key tweak : Nat) (l : List Byte) : List Byte :=
  let (k1, k2) := xtsKeys key
  xtsBlocks (aesDecrypt k1) (l.length / 16) (leNat (aesEncrypt k2 (natBytes 16 tweak))) l

end Sys2Proof.Machine
end

