-- ==== Sys2Proof/Machine/Format.lean ====
section
/-! DEFINITION. The recording format on plain values (04, 06): checks and codes of a sector (R112 to R115), where sectors
lie on a track (R117 to R119), addresses and zone tables (R121 to R125), the sync decision (R169), the order of recovery
(R173 to R177), and the status word (R183). -/

namespace Sys2Proof.Machine

/-! ### Check codes -/

/-- `n` steps of a reflected CRC register with polynomial `poly`. -/
def crcShift (poly : Nat) : Nat → Nat → Nat
  | 0, r => r
  | n + 1, r => crcShift poly n (if r % 2 = 1 then (r / 2) ^^^ poly else r / 2)

/-- A reflected CRC of `width` bits, initial value and final XOR all ones. -/
def crcReflected (width poly : Nat) (l : List Byte) : Nat :=
  (l.foldl (fun r b => crcShift poly 8 (r ^^^ b.toNat)) (2 ^ width - 1)) ^^^ (2 ^ width - 1)

/-- CRC-64 of a sector: the polynomial of ECMA-182, reflected (R113). -/
def crc64 (l : List Byte) : Nat := crcReflected 64 0xC96C5795D7870F42 l

/-- CRC-32C (R7). -/
def crc32c (l : List Byte) : Nat := crcReflected 32 0x82F63B78 l

/-- An area ends with the CRC-32C of what precedes it (R66). -/
def areaOk (l : List Byte) (n : Nat) : Bool := l.length == n && crc32c (l.take (n - 4)) == fieldAt l (n - 4) 4

/-- Every byte of a list is `v`. -/
def allBytes (v : Nat) (l : List Byte) : Bool := l.all (fun b => b.toNat == v)

/-- A span of an area that must be zero. -/
def zeroSpan (l : List Byte) (off n : Nat) : Bool := allBytes 0 ((l.drop off).take n)

/-- `n` steps of the arm link's CRC-8 register (R79). -/
def crc8Shift : Nat → Nat → Nat
  | 0, r => r
  | n + 1, r => crc8Shift n (if 128 ≤ r then (2 * r % 256) ^^^ 7 else 2 * r)

/-- CRC-8, polynomial 0x07, initial value 0, no reflection (R79). -/
def crc8 (l : List Byte) : Nat := l.foldl (fun r b => crc8Shift 8 (r ^^^ b.toNat)) 0

/-! ### Sector -/

/-- The shift register of R114 after one step. -/
def scrambleStep (b : Nat) : Nat := (2 * b) % 2 ^ 15 + ((b / 2 ^ 14) % 2 + (b / 2 ^ 13) % 2) % 2

/-- The next eight output bits of the scrambler, first bit in bit 7, and the register after them (R114). -/
def scrambleByte : Nat → Nat → Nat → Nat × Nat
  | 0, b, acc => (acc, b)
  | n + 1, b, acc => scrambleByte n (scrambleStep b) (2 * acc + scrambleStep b % 2)

/-- XORs a byte list with the scrambler's output from register value `b` (R114). Descrambling is the same. -/
def scrambleFrom : Nat → List Byte → List Byte
  | _, [] => []
  | b, x :: l =>
    let o := scrambleByte 8 b 0
    (x ^^^ BitVec.ofNat 8 o.1) :: scrambleFrom o.2 l

/-- Fields of a physical address (R121). -/
def addrPack (a : Nat) : Nat := a / 2 ^ 35 % 32
def addrSurface (a : Nat) : Nat := a / 2 ^ 31 % 16
def addrTrack (a : Nat) : Nat := a / 2 ^ 11 % 2 ^ 20
def addrSector (a : Nat) : Nat := a % 2 ^ 11

/-- A physical address from its fields (R121). -/
def mkAddr (pack surface track sector : Nat) : Nat := pack * 2 ^ 35 + surface * 2 ^ 31 + track * 2 ^ 11 + sector

/-- The scrambler seed of an address (R114). -/
def scrambleSeed (addr : Nat) : Nat := (addrTrack addr * 2047 + addrSector addr) % 32767 + 1

/-- Scrambles or descrambles a sector at an address (R114). -/
def scramble (addr : Nat) (l : List Byte) : List Byte := scrambleFrom (scrambleSeed addr) l

/-- A byte with its bits in reverse order. -/
def revBits : Nat → Nat → Nat → Nat
  | 0, _, acc => acc
  | n + 1, v, acc => revBits n (v / 2) (2 * acc + v % 2)

/-- The scrambled bits of a sector as the number whose bit n is c_n: each byte with bit 7 first (R114, R115). -/
def bitsOf : List Byte → Nat
  | [] => 0
  | b :: l => revBits 8 b.toNat 0 + 256 * bitsOf l

/-- The bytes of the first `n` bytes' worth of code bits. -/
def bytesOf : Nat → Nat → List Byte
  | 0, _ => []
  | n + 1, w => BitVec.ofNat 8 (revBits 8 (w % 256) 0) :: bytesOf n (w / 256)

/-- Rotates a 416-bit block so that bit r takes bit (r + s) mod 416 (R115). -/
def rot416 (x s : Nat) : Nat := (x / 2 ^ s + x * 2 ^ (416 - s)) % 2 ^ 416

/-- Block column `j` of a code word (R115). -/
def block416 (w j : Nat) : Nat := w / 2 ^ (416 * j) % 2 ^ 416

/-- The shift of block (row `i`, column `j`) of the parity check matrix, none where the block is zero (R115). -/
def ldpcShift (i j : Nat) : Option Nat :=
  if j < 80 then
    if i = j % 10 ∨ i = (j + 3) % 10 ∨ i = (j + 7) % 10 then some ((37 * i + 11 * j * j) % 416) else none
  else if j = 80 then
    if i = 0 ∨ i = 9 then some 1 else if i = 5 then some 0 else none
  else if i = j - 81 ∨ i = j - 80 then some 0 else none

/-- XOR of the rotated blocks of columns `cols` in check row `i`. -/
def ldpcRow (w i : Nat) (cols : List Nat) : Nat :=
  cols.foldl (fun a j => match ldpcShift i j with
    | some s => a ^^^ rot416 (block416 w j) s
    | none => a) 0

/-- Every check of R115 is satisfied: the decode is converged. -/
def ldpcOk (w : Nat) : Bool := (List.range 10).all (fun i => ldpcRow w i (List.range 90) == 0)

/-- The parity blocks of columns 81 to 89 from the row sums `s` of columns 0 to 79 and the block `p` of column 80. -/
def ldpcChain (s : Nat → Nat) (p : Nat) : Nat → Nat
  | 0 => s 0 ^^^ rot416 p 1
  | r + 1 => s (r + 1) ^^^ (if r + 1 = 5 then p else 0) ^^^ ldpcChain s p r

/-- The code word whose first 33,280 bits are `u` (R115): the sum of all rows gives column 80, each row the next
column. -/
def ldpcEncode (u : Nat) : Nat :=
  let s := fun i => ldpcRow u i (List.range 80)
  let p := (List.range 10).foldl (fun a i => a ^^^ s i) 0
  u % 2 ^ 33280 + p * 2 ^ 33280
    + ((List.range 9).map (fun r => ldpcChain s p r * 2 ^ (416 * (81 + r)))).sum

/-- The 64 bits stored little-endian at the end of a sector (R111, R113): the CRC checks. -/
def sectorCrcOk (l : List Byte) : Bool := crc64 (l.take 0x1038) == fieldAt l 0x1038 8

/-- The tag's reserved bytes are zero (R112, R173). -/
def tagClean (l : List Byte) : Bool := fieldAt l 0x102D 1 == 0 && fieldAt l 0x1030 8 == 0

/-- The tag's other fields hold no reserved bit or value (R112): the hub rejects a sector of which one does (R14; that the lane's check of
R173 row 3 is about the reserved bytes alone is DEDUCED: log entry 140). -/
def tagLegal (l : List Byte) : Bool := fieldAt l 0x1026 1 < 8 && fieldAt l 0x1027 1 < 7

/-- The tag names this address and its reserved bytes are zero (R112). -/
def tagOk (addr : Nat) (l : List Byte) : Bool := tagClean l && fieldAt l 0x1028 5 == addr

/-- The code word written for the 4,096 + 56 bytes of a sector (R113 to R115, R149). -/
def sectorCode (addr : Nat) (l : List Byte) : Nat :=
  ldpcEncode (bitsOf (scramble addr (l ++ natBytes 8 (crc64 l))))

/-! ### Tracks -/

/-- Cells of one data area: N of R117. -/
def dataCells (c : Nat) : Nat := 489984 * c / 2 ^ 28

/-- Where a cell of the data area of physical wedge `w` starts, arm-local RU (R117). -/
def cellAngle (c w cell : Nat) : Nat := w * 2 ^ 19 + 16384 + cell * 2 ^ 28 / c

/-- First physical wedge of track `t` with skew `s` (R118). -/
def startWedge (t s : Nat) : Nat := t * s % 512

/-- Where a sector lies: relative wedge, cell, and the code bits of its first fragment when it is split (R119). -/
structure Place where
  wedge : Nat
  cell : Nat
  first : Option Nat
  deriving DecidableEq, Repr

/-- The walk of R119 from (v, p) for at most `k` sectors, `n` cells per data area. -/
def walkFrom (n : Nat) : Nat → Nat → Nat → List Place
  | 0, _, _ => []
  | k + 1, v0, p0 =>
    let skip : Bool := n < p0 + 664
    let v := if skip then v0 + 1 else v0
    let p := if skip then 0 else p0
    let first := n - p - 152
    if 511 < v then []
    else if 37440 ≤ first then ⟨v, p, none⟩ :: walkFrom n k v (min (p + 37656) n)
    else if v = 511 then []
    else ⟨v, p, some first⟩ :: walkFrom n k (v + 1) (min (80 + (37440 - first) + 64) n)

/-- Where the sectors of a track lie (R119). -/
def walk (c count : Nat) : List Place := walkFrom (dataCells c) count 0 0

/-- Physical wedge of relative wedge `v` on a track with start wedge `w0` (R118). -/
def physWedge (w0 v : Nat) : Nat := (w0 + v) % 512

/-- Cells of a sector's fragments in their data areas, relative wedge, first cell, cell after the last code bit, and the end of
what is written: postamble and gap cut at the end of an area of `n` cells (R116, R119, R153). -/
structure FragPlace where
  wedge : Nat
  cell : Nat
  codeEnd : Nat
  areaEnd : Nat
  deriving DecidableEq, Repr

/-- The first or only fragment of a sector. -/
def Place.fragment1 (x : Place) (n : Nat) : FragPlace :=
  match x.first with
  | none => ⟨x.wedge, x.cell, x.cell + 152 + 37440, min (x.cell + 37656) n⟩
  | some b => ⟨x.wedge, x.cell, x.cell + 152 + b, n⟩

/-- The second fragment of a split sector. -/
def Place.fragment2 (x : Place) (n : Nat) : FragPlace :=
  let rest := 37440 - x.first.getD 37440
  ⟨x.wedge + 1, 0, 80 + rest, min (80 + rest + 64) n⟩

/-- A fragment of a sector. -/
def Place.fragment (x : Place) (n : Nat) (second : Bool) : FragPlace := if second then x.fragment2 n else x.fragment1 n

/-- The expected position e of a fragment's mark, in cells from its read gate's opening (R116, R168). -/
def expectedMark (second : Bool) : Nat := if second then 64 else 128

/-- Length of the mark of a fragment (R116, R168). -/
def markLen (second : Bool) : Nat := if second then 16 else 24

/-- The system format of R117: cells per revolution and the sectors the walk places (R119). -/
def systemCells : Nat := 20480000
def systemSectors : Nat := 507

/-! ### Zone tables -/

/-- A signed field of two bytes. -/
def i16At (l : List Byte) (off : Nat) : Int := signedNat 16 (fieldAt l off 2)

/-- A zone record from its 64 bytes (R123). -/
def parseZone (l : List Byte) : ZoneRec :=
  { cells := fieldAt l 0 4, sectors := fieldAt l 4 2, skew := fieldAt l 6 2, first := fieldAt l 8 4,
    gain := i16At l 12, offset := i16At l 14, asym := i16At l 16,
    cutoff := fieldAt l 18 1, boost := fieldAt l 19 1,
    taps := (List.range 16).map (fun i => i16At l (0x14 + 2 * i)), pre1 := fieldAt l 0x34 2, pre2 := fieldAt l 0x36 2 }

/-- Splits a byte list into `n` records of 64 bytes. -/
def chunks64 : Nat → List Byte → List (List Byte)
  | 0, _ => []
  | n + 1, l => l.take 64 :: chunks64 n (l.drop 64)

/-- Reserved values of R136 are absent from the record (R137). -/
def ZoneRec.seedsOk (z : ZoneRec) : Bool :=
  decide (-3072 ≤ z.gain ∧ z.gain ≤ 13312 ∧ -2048 ≤ z.offset ∧ z.offset ≤ 2047 ∧ -8192 ≤ z.asym ∧ z.asym ≤ 8192
    ∧ z.cutoff ≤ 175 ∧ z.boost ≤ 150 ∧ 8192 ≤ z.taps.getD 5 0 ∧ z.pre1 ≤ 64 ∧ z.pre2 ≤ 64)

/-- The checks of R120 and R124 on a zone in use at `speed` rpm: C / T_rev * 1.05 is at most 6.6 GS/s. -/
def ZoneRec.fits (z : ZoneRec) (speed : Nat) : Bool :=
  decide (37008 ≤ dataCells z.cells ∧ z.cells * speed * 105 ≤ 6600000000 * 60 * 100
    ∧ 1 ≤ z.sectors ∧ z.sectors ≤ 2047 ∧ z.skew ≤ 511)
  && (walk z.cells z.sectors).length == z.sectors

/-- The record of a surface's zone. -/
def ZoneTable.record (t : ZoneTable) (surface zone : Nat) : ZoneRec := t.recs.getD (surface * 64 + zone) {}

/-- The records of a surface's zones, outermost first. -/
def ZoneTable.surface (t : ZoneTable) (surface : Nat) : List ZoneRec := (t.recs.drop (surface * 64)).take t.zones

/-- The 65,600 bytes of the set for speed 0 or speed 1 among the sectors read from the locator's track: sectors 0 to 16 and 17 to 33
(R122). -/
def zoneSetBytes (l : List Byte) (second : Bool) : List Byte := (if second then l.drop (17 * 4096) else l).take 65600

/-- A table set read from the media: its 65,600 bytes parsed (R122). -/
def parseZones (l : List Byte) : ZoneTable :=
  { speed := fieldAt l 6 2, zones := fieldAt l 8 1, recs := (chunks64 1024 (l.drop 64)).map parseZone }

/-- The header of R122 for a pack with `zones` zones, at `speed`. -/
def zoneHeaderOk (l : List Byte) (zones speed : Nat) : Bool :=
  fieldAt l 0 4 == 0x545A564F && fieldAt l 4 2 == 1 && fieldAt l 6 2 == speed && fieldAt l 8 1 == zones
    && fieldAt l 9 1 == 16 && fieldAt l 10 2 == 64 && fieldAt l 12 52 == 0

/-- The zones of one surface rise strictly from its first data track and pass R120, R124 and R136. -/
def surfaceOk (t : ZoneTable) (s : Nat) (firstData : Nat) : Bool :=
  let z := t.surface s
  (z.head?.map (fun r => r.first)) == some firstData
    && (z.zip (z.drop 1)).all (fun x => decide (x.1.first < x.2.first))
    && z.all (fun r => r.fits t.speed && r.seedsOk)

/-- Records at or above the zone count are all zero, and reserved bytes of every record are zero (R123). -/
def recordsClean (l : List Byte) (zones : Nat) : Bool :=
  ((chunks64 1024 (l.drop 64)).zipIdx).all (fun x =>
    if x.2 % 64 < zones then fieldAt x.1 0x38 8 == 0 else x.1.all (fun b => b == 0))

/-- A copy matches its digest and passes R124 and R137. `other` is the speed 0 set when this is the speed 1 set. -/
def zoneSetMatches (l : List Byte) (zones speed digest : Nat) (surfaces : List Surface) (other : Option ZoneTable) : Bool :=
  let t := parseZones l
  l.length == 65600 && (sha384 l).toNat == digest && zoneHeaderOk l zones speed && recordsClean l zones
    && (List.range 16).all (fun s => surfaceOk t s ((surfaces.getD s {}).firstData))
    && (match other with
        | none => true
        | some o => (t.recs.zip o.recs).all (fun x =>
            x.1.cells == x.2.cells && x.1.sectors == x.2.sectors && x.1.skew == x.2.skew && x.1.first == x.2.first))

/-- The zone of a data track: the last zone that begins at or before it (R106). -/
def ZoneTable.zoneOf (t : ZoneTable) (surface track : Nat) : Nat :=
  ((t.surface surface).filter (fun z => z.first ≤ track)).length - 1

/-! ### Defect list -/

/-- Fields of a defect list entry (R131). -/
def defectAddr (e : Nat) : Nat := e % 2 ^ 35
def defectType (e : Nat) : Nat := e / 2 ^ 35 % 4
def defectSeq (e : Nat) : Nat := e / 2 ^ 37

/-- Fills up with zero bytes to a multiple of a sector's 4,096. -/
def padSector (l : List Byte) : List Byte := l ++ List.replicate ((4096 - l.length % 4096) % 4096) 0

/-- The entries of a defect list, 8 bytes each (R131, R132). -/
def defectEntries (e : List Nat) : List Byte := (e.map (natBytes 8)).flatten

/-- The stored defect list: the header sector with magic, entry count, list sequence and CRC-32C of the entries, 4 bytes each in this
order (assumption 115), and the entry sectors (R132). -/
def defectListBytes (seq : Nat) (e : List Nat) : List Byte :=
  padSector ([0x4F, 0x56, 0x44, 0x4C] ++ natBytes 4 e.length ++ natBytes 4 seq ++ natBytes 4 (crc32c (defectEntries e)))
    ++ padSector (defectEntries e)

/-- The list sequence and entries of a stored copy, where its magic, count and CRC hold and no entry has the reserved type (R14, R131, R132). -/
def parseDefects (l : List Byte) : Option (Nat × List Nat) :=
  let n := fieldAt l 4 4
  let body := (l.drop 4096).take (8 * n)
  if l.take 4 = [0x4F, 0x56, 0x44, 0x4C] ∧ n ≤ 65536 ∧ body.length = 8 * n ∧ fieldAt l 12 4 = crc32c body
      ∧ (List.range n).all (fun i => defectType (fieldAt body (8 * i) 8) != 3) then
    some (fieldAt l 8 4, (List.range n).map (fun i => fieldAt body (8 * i) 8))
  else none

/-- The list that a pack's two copies give: the one with the higher sequence, copy 0 when they are equal; an empty list when none holds
(assumption 115). -/
def readDefects (l0 l1 : List Byte) : Nat × List Nat :=
  match parseDefects l0, parseDefects l1 with
  | some a, some b => if a.1 < b.1 then b else a
  | some a, none => a
  | none, some b => b
  | none, none => (0, [])

/-! ### Sync decision -/

/-- Of two candidates (offset from e, distance) the better: less distance, then nearer e, then earlier (R169). -/
def betterMark (a b : Int × Nat) : Int × Nat :=
  if b.2 < a.2 then b
  else if a.2 < b.2 then a
  else if b.1.natAbs < a.1.natAbs then b
  else a

/-- The candidate of R169: the distances `d` stand for offsets -w, -w + 1, ... in order. -/
def bestMark (w : Nat) (d : List Nat) : Option (Int × Nat) :=
  match (d.zipIdx).map (fun x => ((x.2 : Int) - w, x.1)) with
  | [] => none
  | x :: l => some (l.foldl betterMark x)

/-- The decision of R169 at `threshold`, and on a miss that of R170 with the threshold raised by one. -/
def decideMark (w threshold : Nat) (d : List Nat) : Option Mark :=
  match bestMark w (d.take (2 * w + 1)) with
  | none => none
  | some x =>
    if x.2 ≤ threshold then some ⟨x.1, x.2, false⟩
    else if x.2 ≤ threshold + 1 then some ⟨x.1, x.2, true⟩
    else none

/-- The alignments of R171, as offsets from e, and whether one is a flywheel alignment. -/
def alignments (split : Bool) (m1 m2 : Option Mark) : Option (Int × Int × Bool) :=
  if split then
    match m1, m2 with
    | some a, some b => some (a.pos, b.pos, false)
    | some a, none => if a.pos.natAbs ≤ 4 then some (a.pos, 0, true) else none
    | none, some b => if b.pos.natAbs ≤ 4 then some (0, b.pos, true) else none
    | none, none => none
  else m1.map (fun a => (a.pos, 0, false))

/-! ### Recovery on stored samples -/

/-- What one attempt comes to under R173. -/
inductive Verdict where
  | good | torn | crc | misplaced | failed
  deriving DecidableEq, Repr

/-- R173 for an attempt at a sector's address, with iteration limit `limit`. -/
def verdict (addr limit : Nat) (a : Attempt) : Verdict :=
  if limit < a.iters ∨ ¬ ldpcOk a.word then .failed
  else if a.word % 2 ^ 37440 = 0 then .torn
  else
    let l := scramble addr (bytesOf 4160 a.word)
    if ¬ sectorCrcOk l then .crc
    else if ¬ tagOk addr l then .misplaced
    else .good

/-- The alignments that method 2 tries: for an unsplit sector the shifts -4 to 4 of its only alignment other than the one
decoded; for a split one those of each fragment, paired with the other's (R175, R176). -/
def shiftCandidates (split : Bool) (a1 a2 : Int) : List (Int × Int) :=
  let r : List Int := [-4, -3, -2, -1, 0, 1, 2, 3, 4]
  ((r.filter (· ≠ a1)).map (fun x => (x, if split then a2 else 0)))
    ++ (if split then (r.filter (· ≠ a2)).map (fun x => (a1, x)) else [])

/-- A candidate with its initial syndrome weight (R175). -/
structure Ranked where
  s1 : Int
  s2 : Int
  weight : Nat
  body : Attempt
  deriving DecidableEq, Repr

/-- Candidate `a` is decoded before `b`: less weight, then nearer e, then earlier, then in the first fragment (R175). The
distance from e is that of the fragment which is shifted. -/
def candBefore (a1 : Int) (a b : Ranked) : Bool :=
  let off := fun c : Ranked => if c.s1 = a1 then c.s2 else c.s1
  if a.weight ≠ b.weight then decide (a.weight < b.weight)
  else if (off a).natAbs ≠ (off b).natAbs then decide ((off a).natAbs < (off b).natAbs)
  else if off a ≠ off b then decide (off a < off b)
  else decide (a.s1 ≠ a1)

/-- Puts a candidate into its place in a ranked list. -/
def insertCand (a1 : Int) (c : Ranked) : List Ranked → List Ranked
  | [] => [c]
  | x :: l => if candBefore a1 c x then c :: x :: l else x :: insertCand a1 c l

/-- The candidates ranked by R175: those that R175 and R176 name with the weights of `weigh`, skipped above `skip`, in order, at
most `limit`. -/
def rankCands (split : Bool) (a1 a2 : Int) (skip limit : Nat) (weigh : Int → Int → Nat) (l : List Cand) : List Ranked :=
  let named := (shiftCandidates split a1 a2).filterMap (fun s =>
    (l.find? (fun c => c.s1 = s.1 ∧ c.s2 = s.2)).map (fun c => (⟨s.1, s.2, weigh s.1 s.2, c.body⟩ : Ranked)))
  ((named.filter (fun c => c.weight ≤ skip)).foldl (fun r c => insertCand a1 c r) []).take limit

/-! ### Status word -/

/-- A signed value clipped to `lo..hi`, in `n` bits. -/
def clipBits (n : Nat) (lo hi x : Int) : Nat := lowBits n (max lo (min hi x))

/-- The status word of a sector's end (R183). -/
def SectorEnd.word (e : SectorEnd) : Nat :=
  e.outcome + e.step * 2 ^ 8 + e.method * 2 ^ 12 + (if e.split then 2 ^ 15 else 0)
    + clipBits 4 (-8) 7 e.shift1 * 2 ^ 16 + (if e.split then clipBits 4 (-8) 7 e.shift2 * 2 ^ 20 else 0)
    + e.dist * 2 ^ 24 + (if e.crcBad then 2 ^ 29 else 0) + (if 0 < e.slips then 2 ^ 30 else 0)
    + (if e.flywheel then 2 ^ 31 else 0) + min e.iter 255 * 2 ^ 32 + min e.marked 65535 * 2 ^ 40
    + clipBits 6 (-32) 31 e.off * 2 ^ 56

/-- SHIFT1 as the status word carries it, clipped (R183, R185). -/
def SectorEnd.shiftField (e : SectorEnd) : Int := max (-8) (min 7 e.shift1)

/-- The sector is delivered as good (R184). -/
def SectorEnd.good (e : SectorEnd) : Bool := e.outcome ≤ 1

end Sys2Proof.Machine
end

