-- ==== Sys2Proof/Machine/Galois.lean ====
section
/-! DEFINITION. Arithmetic in GF(2^8) with the polynomial 0x11D: the code words of buffer memory (R397, R399) and the parity
leaves of a stripe (R317). -/

namespace Sys2Proof.Machine

/-- Product in GF(2^8) by shift and add, over the bits of the second factor. -/
def gfMulFrom (a : Nat) : Nat → Nat → Nat
  | 0, _ => 0
  | n + 1, b =>
    let x := gfMulFrom a n (b / 2)
    let d := 2 * x
    let r := if 256 ≤ d then d ^^^ 0x11D else d
    if b % 2 = 1 then r ^^^ a else r

/-- Product in GF(2^8), polynomial x^8 + x^4 + x^3 + x^2 + 1. -/
def gfMul (a b : Nat) : Nat := gfMulFrom a 8 b

/-- Powers of an element. -/
def gfPow (a : Nat) : Nat → Nat
  | 0 => 1
  | n + 1 => gfMul a (gfPow a n)

/-- Inverse of a nonzero element: its power 254. -/
def gfInv (a : Nat) : Nat := gfPow a 254

/-! ### Code words of buffer memory -/

/-- One step of the division by the generator (x - 1)(x - α)(x - α^2)(x - α^3) = x^4 + 0x0F x^3 + 0x36 x^2 + 0x78 x + 0x40 (R397). -/
def rsStep (r : Nat × Nat × Nat × Nat) (sym : Nat) : Nat × Nat × Nat × Nat :=
  let f := sym ^^^ r.1
  (r.2.1 ^^^ gfMul f 0x0F, r.2.2.1 ^^^ gfMul f 0x36, r.2.2.2 ^^^ gfMul f 0x78, gfMul f 0x40)

/-- Check bytes of a message of symbols, as a number with the coefficient of x^3 in its low byte (R397). -/
def rsCheck (syms : List Nat) : Nat :=
  let r := syms.foldl rsStep (0, 0, 0, 0)
  r.1 + 256 * r.2.1 + 65536 * r.2.2.1 + 16777216 * r.2.2.2

/-- The `n` bytes of a number, low byte first, as symbols. -/
def symsOf (n v : Nat) : List Nat := (List.range n).map (fun i => v / 256 ^ i % 256)

/-- Syndrome `j` of the 72 symbols (R399). -/
def rsSyndrome (syms : List Nat) (j : Nat) : Nat := syms.foldl (fun r s => gfMul r (gfPow 2 j) ^^^ s) 0

/-- The symbol in error and its error value, when one symbol alone explains the syndrome (R399). -/
def rsLocate (syms : List Nat) : Option (Nat × Nat) :=
  let s0 := rsSyndrome syms 0
  let s1 := rsSyndrome syms 1
  let s2 := rsSyndrome syms 2
  let s3 := rsSyndrome syms 3
  if s0 = 0 then none
  else
    ((List.range 72).find? (fun i =>
      let x := gfPow 2 (71 - i)
      gfMul s0 x == s1 && gfMul s1 x == s2 && gfMul s2 x == s3)).map (fun i => (i, s0))

/-- Every syndrome is zero. -/
def rsClean (syms : List Nat) : Bool := (List.range 4).all (fun j => rsSyndrome syms j == 0)

/-! ### Parity leaves -/

/-- Coefficient C[j][i] (R317). -/
def cauchy (j i : Nat) : Nat := gfInv (i ^^^ (16 + j))

/-- Parity byte `j` over the data bytes of the leaves in order (R317). -/
def parityByte (j : Nat) (data : List Nat) : Nat := (data.zipIdx).foldl (fun r x => r ^^^ gfMul (cauchy j x.2) x.1) 0

end Sys2Proof.Machine
end

