-- ==== Sys2Proof/Machine/Tables.lean ====
section
/-! DEFINITION. The store's tables as bytes: index slots (R302 to R305), stripe entries and leaf locators (R308, R309), and where they lie
in buffer memory (R401). -/

namespace Sys2Proof.Machine

/-! ### What the tables tell -/

/-- The reserved slot of a 48 GiB index (R302). -/
def noSlot : Nat := 0x3FFFFFFF

/-- Stripe addresses of an object in order. -/
def ObjEntry.addrs (e : ObjEntry) : List Nat := (e.runs.map (fun r => (List.range r.2).map (fun i => r.1 + i))).flatten

/-- The stripe at an address of a span. -/
def Span.stripe? (x : Span) (addr : Nat) : Option Stripe := x.stripes.find? (fun t => t.addr = addr)

/-- A stripe, as (span, address), is placed on media. -/
def Store.isPlaced (t : Store) (x : Nat × Nat) : Bool :=
  if h : x.1 < 8 then (match t.spans[x.1].stripe? x.2 with | some u => u.state = .placed | none => false) else true

/-- A stripe of the version is not yet placed (R304, R308). -/
def Store.isStaged (t : Store) (e : ObjEntry) : Bool :=
  match e.petit with
  | some (a, _, _) => !t.isPlaced (e.span, a)
  | none => e.addrs.any (fun a => !t.isPlaced (e.span, a))

/-- Flags of an entry (R304). -/
def Store.entryFlags (t : Store) (e : ObjEntry) : Nat :=
  e.span + (if e.petit.isSome then 8 else 0) + (if e.extents.isEmpty then 0 else 16) + (if t.isStaged e then 32 else 0)

/-! ### Index slots -/

/-- A run of R304: the first stripe address and the stripe count minus 1. -/
def runBits (r : Nat × Nat) : Nat := r.1 % 2 ^ 27 + (r.2 - 1) % 2 ^ 9 * 2 ^ 27

/-- Runs of 36 bits side by side. -/
def packRun : List Nat → Nat
  | [] => 0
  | x :: l => x % 2 ^ 36 + 2 ^ 36 * packRun l

/-- The four runs of an object entry (R304). -/
def ObjEntry.runFields (e : ObjEntry) : List Nat :=
  match e.petit, e.extents with
  | some (a, first, count), _ => [a % 2 ^ 27, first % 2 ^ 12 + (count - 1) % 2 ^ 6 * 2 ^ 12]
  | none, [] => e.runs.map runBits
  | none, x :: _ => (e.runs.take 3).map runBits ++ [x % 2 ^ 30]

/-- The slot of an object entry (R304). -/
def Store.objectBytes (t : Store) (e : ObjEntry) : List Byte :=
  natBytes 16 e.hash ++ natBytes 8 e.version ++ natBytes 5 e.size ++ natBytes 1 (t.entryFlags e) ++ natBytes 18 (packRun e.runFields)

/-- Extent block `j` of an object entry (R305). -/
def ObjEntry.extentBytes (e : ObjEntry) (j : Nat) : List Byte :=
  let runs := (e.runs.drop (3 + 7 * j)).take 7
  natBytes 4 (e.slot % 2 ^ 30) ++ natBytes 4 (e.extents.getD (j + 1) noSlot % 2 ^ 30) ++ natBytes 1 runs.length ++ natBytes 6 0
    ++ natBytes 1 0x80 ++ natBytes 32 (packRun (runs.map runBits))

/-- What index slot `n` holds (R303). -/
def Store.slotBytes (t : Store) (n : Nat) : List Byte :=
  match t.objs.find? (fun e => e.slot = n ∨ e.extents.contains n) with
  | none => natBytes 48 0
  | some e => if e.slot = n then t.objectBytes e else e.extentBytes (e.extents.idxOf n)

/-! ### Stripe entries -/

/-- A leaf locator (R309). -/
def Locator.bits (l : Locator) : Nat := l.pack % 32 * 2 ^ 27 + l.band % 1024 * 2 ^ 17 + l.leaf % 2 ^ 17

/-- Codes of the states of a stripe (R308). -/
def StripeState.code : StripeState → Nat
  | .free => 0 | .staged => 1 | .placing => 2 | .placed => 3 | .dead => 4

/-- A stripe entry (R308). -/
def Stripe.entryBytes (t : Stripe) : List Byte :=
  natBytes 8 t.gen ++ natBytes 1 t.k ++ natBytes 1 t.m ++ natBytes 1 t.present ++ natBytes 1 t.state.code
    ++ natBytes 4 (t.owner.getD noSlot)
    ++ ((List.range 16).map (fun i => natBytes 4 (match t.locs.getD i none with | some l => l.bits | none => 0xFFFFFFFF))).flatten
    ++ natBytes 48 0

/-- Sectors that objects occupy in a petit-four stripe, and sectors of its directory (R319). -/
def petitUsed (l : List PetitObj) : Nat := l.foldl (fun n o => max n (o.first + o.count)) 0
def dirSectors (n : Nat) : Nat := (64 + 32 * n + 4095) / 4096

/-- Data leaves that a petit-four stripe fills with its directory. -/
def petitLeaves (l : List PetitObj) : Nat := (petitUsed l + dirSectors l.length + 255) / 256

/-- The open petit-four stripe as a stripe: staged, with no leaf slot (R320). -/
def Span.openStripe (x : Span) (q : OpenPetit) : Stripe :=
  { addr := q.addr, gen := q.gen, k := x.k, m := x.m, present := max 1 (petitLeaves q.objs), state := .staged, owner := none,
    locs := List.replicate (x.k + x.m) none }

/-- The stripe entry at an address of a span; a free one is zero. -/
def Span.entryBytes (x : Span) (addr : Nat) : List Byte :=
  match x.stripe? addr, x.petit with
  | some t, _ => t.entryBytes
  | none, some q => if q.addr = addr then (x.openStripe q).entryBytes else natBytes 128 0
  | none, none => natBytes 128 0

/-! ### In buffer memory -/

/-- 64 bytes of the index region at byte `o` of it, and of the stripe tables (R401): span s at s times the table size of `per` bytes. -/
def Store.indexPart (t : Store) (o : Nat) : List Byte :=
  (((List.range 3).map (fun i => t.slotBytes (o / 48 + i))).flatten.drop (o % 48)).take 64
def Store.tablePart (t : Store) (per o : Nat) : List Byte :=
  match (t.spans.toList.filter (fun x => x.configured))[o / max per 1]? with
  | some x => ((x.entryBytes (o % max per 1 / 128)).drop (o % 128)).take 64
  | none => natBytes 64 0

/-- What the store's tables hold at a granule of buffer memory: none outside their regions. -/
def State.tableGranule (s : State) (g : Nat) : Option Nat :=
  let inside := fun r : Nat × Nat => decide (r.1 * 2 ^ 30 ≤ 64 * g) && decide (64 * g < r.1 * 2 ^ 30 + r.2 * 2 ^ 20)
  if ¬ s.store.formed then none
  else match s.buf.regions with
    | _ :: i :: t :: _ =>
      if inside i then some (leNat (s.store.indexPart (64 * g - i.1 * 2 ^ 30)))
      else if inside t then some (leNat (s.store.tablePart (s.param 0x6005 1 * 2 ^ 30) (64 * g - t.1 * 2 ^ 30)))
      else none
    | _ => none

/-- What a granule reads as: of the tables what the store keeps there, unless something else has written the granule. -/
def State.tabled (s : State) (g v : Nat) : Nat :=
  match s.tableGranule g with
  | none => v
  | some t =>
    let written := s.buf.words.any (fun w => w.gran = g) || s.buf.lines.any (fun x => x.addr = g / 2 && x.dirty.testBit (g % 2))
    if written then v else t

end Sys2Proof.Machine
end

