-- ==== Sys2Proof/Machine/BufferOps.lean ====
section
/-! DEFINITION. Buffer memory and the near cache (R394 to R424): addresses, code words, reads and writes of granules, lines and
victims. Fault sources are answered as a list, for the command to raise. -/

namespace Sys2Proof.Machine

/-! ### Size and addresses -/

/-- Channels fitted (R4, R394). -/
def State.chanCount (s : State) : Nat := 3 * partTiles s.part

/-- Segments of a channel, S_ch (R394). -/
def State.segments (s : State) : Nat := s.buf.density * 65536

/-- Usable size U in bytes (R400). -/
def State.bufSize (s : State) : Nat := s.chanCount * s.segments * 1920

/-- Channel, segment and slot of a granule (R400). -/
def State.granPlace (s : State) (g : Nat) : Nat × Nat × Nat :=
  let c := max s.chanCount 1
  (g / 30 % c, g / 30 / c, g % 30)

/-- The location word of a granule; `poison` is its POISON bit (R397). -/
def State.location (s : State) (g : Nat) (poison : Bool) : Nat :=
  let (ch, n, j) := s.granPlace g
  j + n * 2 ^ 5 + ch * 2 ^ 26 + (if poison then 2 ^ 31 else 0)

/-- Check bytes of a granule's data (R397). -/
def State.checkBytes (s : State) (g data : Nat) (poison : Bool) : Nat :=
  rsCheck (symsOf 4 (s.location g poison) ++ symsOf 64 data)

/-- A channel by number. -/
def State.chan? (s : State) (n : Nat) : Option MemChan := s.buf.chans.toList[n]?

/-- Changes a channel. -/
def State.updMem (s : State) (n : Nat) (f : MemChan → MemChan) : State :=
  if h : n < 24 then { s with buf := { s.buf with chans := s.buf.chans.set n (f s.buf.chans[n]) h } } else s

/-- Changes the buffer. -/
def State.updBuf (s : State) (f : Buffer → Buffer) : State := { s with buf := f s.buf }

/-! ### Segments (R396, R398) -/

/-- Bank and row of segment `n`; bits [3:2] of the bank select its group (R396). -/
def segmentBank (n : Nat) : Nat := n % 16 ^^^ n / 16 % 16
def segmentRow (n : Nat) : Nat := n / 16 % 2 ^ 17

/-- The tag of a segment (R398). -/
def segmentTag (ch n epoch : Nat) : List Byte :=
  let l := natBytes 4 (n * 2 ^ 5 + ch * 2 ^ 26) ++ natBytes 2 epoch ++ natBytes 1 0
  l ++ natBytes 1 (crc8 l)

/-- A tag checks: its CRC holds, and its location and epoch are those expected (R398). -/
def tagChecks (ch n epoch : Nat) (l : List Byte) : Bool :=
  l.length == 8 && crc8 (l.take 7) == fieldAt l 7 1 && fieldAt l 0 4 == n * 2 ^ 5 + ch * 2 ^ 26 && fieldAt l 4 2 == epoch % 65536

/-- The tag that a read of a granule's segment finds checks. -/
def State.tagReads (s : State) (g : Nat) (x : DramRead) : Bool :=
  let (ch, n, _) := s.granPlace g
  match x.tag, s.chan? ch with
  | some l, some c => tagChecks ch n c.epoch l
  | _, _ => true

/-! ### Stored code words -/

/-- The stored data and check bytes of a granule; one that is not listed holds zero data with valid check bytes. -/
def State.stored (s : State) (g : Nat) : Nat × Nat :=
  match s.buf.words.find? (fun w => w.gran = g) with
  | some w => (w.data, w.check)
  | none => (0, s.checkBytes g 0 false)

/-- Places a code word in a sorted list. -/
def putWord (w : CodeWord) : List CodeWord → List CodeWord
  | [] => [w]
  | x :: l => if w.gran < x.gran then w :: x :: l else if w.gran = x.gran then w :: l else x :: putWord w l

/-- Stores a code word: the list holds no word equal to what an unlisted granule holds. -/
def State.storeWord (s : State) (g data check : Nat) : State :=
  s.updBuf (fun b =>
    { b with words := if data = 0 ∧ check = s.checkBytes g 0 false then b.words.filter (fun w => w.gran ≠ g)
                      else putWord ⟨g, data, check⟩ b.words })

/-- The form of the list: granules strictly rising, and no word equal to an unlisted one's. -/
def Memory.wf (s : State) : Bool :=
  decide (s.buf.words.Pairwise (fun a b => a.gran < b.gran))
    && s.buf.words.all (fun w => !(w.data == 0 && w.check == s.checkBytes w.gran 0 false))

/-! ### Decoding (R399) -/

/-- Classes of a read. -/
inductive ReadClass where
  | clean | corrected | poisoned | misdirected | uncorrectable
  deriving DecidableEq, Repr

/-- The class code of the verdict entry (R425). -/
def ReadClass.code : ReadClass → Nat
  | .clean => 0 | .corrected => 1 | .uncorrectable => 2 | .poisoned => 3 | .misdirected => 4

/-- The class of a code word read at a granule, with its data and check bytes corrected (R399). -/
def State.classify (s : State) (g data check : Nat) : ReadClass × Nat × Nat :=
  let syms := symsOf 4 (s.location g false) ++ symsOf 64 data ++ symsOf 4 check
  if rsClean syms then (.clean, data, check)
  else match rsLocate syms with
    | none => (.uncorrectable, data, check)
    | some (i, e) =>
      if i = 3 ∧ e = 0x80 then (.poisoned, data, check)
      else if i < 4 then (.misdirected, data, check)
      else if i < 68 then (.corrected, data ^^^ (e * 256 ^ (i - 4)), check)
      else (.corrected, data, check ^^^ (e * 256 ^ (i - 68)))

/-- Applies alterations of stored bytes (0 to 63 data, 64 to 67 check). -/
def applyFlips (l : List (Nat × Nat)) (w : Nat × Nat) : Nat × Nat :=
  l.foldl (fun w x =>
    if x.1 < 64 then (w.1 ^^^ (x.2 % 256 * 256 ^ x.1), w.2)
    else if x.1 < 68 then (w.1, w.2 ^^^ (x.2 % 256 * 256 ^ (x.1 - 64)))
    else w) w

/-- A read at which nothing goes wrong. -/
def cleanRead (g : Nat) : DramRead := ⟨g, 0, [], none, none⟩

/-- The valid bit of a segment: while its channel is re-initialised, set by the fill or by a first write (R403). -/
def MemChan.isValid (c : MemChan) (n : Nat) : Bool := c.state ≠ 3 || decide (n < c.filled) || c.valid.contains n

/-- A channel fails after its CRC retries (R395): the source to raise with it. -/
def State.failChannel (s : State) (ch : Nat) : State × List Nat := (s.updMem ch (fun c => { c with state := 4 }), [56 + 4 * ch + 3])

/-- An error returned to a requester: counted and logged, newest first (R409, R425). -/
def State.logError (s : State) (g kind : Nat) : State :=
  let ch := (s.granPlace g).1
  (s.updMem ch (fun c => { c with errors := sat32 c.errors 1 })).updBuf (fun b =>
    { b with errorLog := ((g * 64 + kind * 2 ^ 37) :: b.errorLog).take 16 })

/-- Reads a granule from its channel (R395, R398, R399, R403, R409): the data or none, the state, the sources to raise. -/
def State.memRead (s : State) (g : Nat) (x : DramRead) : Option Nat × State × List Nat :=
  let (ch, n, _) := s.granPlace g
  match s.chan? ch with
  | none => (none, s, [])
  | some c =>
    if c.state = 4 then (none, s.logError g 0, [])
    else if 4 < x.crcFails then (let (s1, l) := s.failChannel ch; (none, s1, l))
    else if ¬ c.isValid n then (some 0, s, [])
    else
      let w := applyFlips x.flips (s.stored g)
      let s0 := if x.flips.isEmpty then s else s.storeWord g w.1 w.2
      if ¬ s.tagReads g x then (none, s0.logError g 3, [56 + 4 * ch + 2])
      else
        let v := match x.other with | some o => s0.stored o | none => w
        match s0.classify g v.1 v.2 with
        | (.clean, d, _) => (some d, s0, [])
        | (.corrected, d, k) =>
          (some d, (s0.storeWord g d k).updMem ch (fun c => { c with corrected := sat32 c.corrected 1 }), [56 + 4 * ch])
        | (.poisoned, _, _) => (none, s0.logError g 1, [56 + 4 * ch + 1])
        | (.misdirected, _, _) => (none, s0.logError g 2, [56 + 4 * ch + 1])
        | (.uncorrectable, _, _) => (none, s0.logError g 0, [56 + 4 * ch + 1])

/-- Writes a granule to its channel with check bytes `check`; a first write to a segment being re-initialised sets its valid bit
(R403). A failed channel takes nothing. -/
def State.memPut (s : State) (g data check : Nat) : State :=
  let (ch, n, _) := s.granPlace g
  match s.chan? ch with
  | none => s
  | some c =>
    if c.state = 4 then s
    else
      let s1 := if c.isValid n then s else s.updMem ch (fun c => { c with valid := n :: c.valid })
      s1.storeWord g data check

/-- Writes a granule with its own check bytes (R397). -/
def State.memWrite (s : State) (g data : Nat) : State := s.memPut g data (s.checkBytes g data false)

/-- Writes a poison mark over data (R399, R410). -/
def State.memPoison (s : State) (g data : Nat) : State := s.memPut g data (s.checkBytes g data true)

/-! ### Near cache -/

/-- Set of a line address (R412). -/
def lineSet (l : Nat) : Nat := (l ^^^ l / 2 ^ 15) % 98304

/-- The line that holds a line address. -/
def State.line? (s : State) (l : Nat) : Option Line := s.buf.lines.find? (fun x => x.addr = l)

/-- The line in a slot. -/
def State.lineAt? (s : State) (set way : Nat) : Option Line := s.buf.lines.find? (fun x => x.set = set ∧ x.way = way)

/-- Changes the line with an address. -/
def State.updLine (s : State) (l : Nat) (f : Line → Line) : State :=
  s.updBuf (fun b => { b with lines := b.lines.map (fun x => if x.addr = l then f x else x) })

/-- Drops a line. -/
def State.dropLine (s : State) (l : Nat) : State := s.updBuf (fun b => { b with lines := b.lines.filter (fun x => x.addr ≠ l) })

/-- Data of granule `i` of a line. -/
def Line.data (x : Line) (i : Nat) : Nat := if i = 0 then x.lo else x.hi

/-- Sets a granule of a line valid with data. -/
def Line.put (x : Line) (i data : Nat) (dirty : Bool) : Line :=
  let y := if i = 0 then { x with lo := data } else { x with hi := data }
  { y with valid := y.valid ||| 2 ^ i, dirty := if dirty then y.dirty ||| 2 ^ i else y.dirty }

/-- A granule has been written back (R426). -/
def State.countBack (s : State) : State := s.updBuf (fun b => { b with writtenBack := sat64 b.writtenBack 1 })

/-- Writes a line's dirty granules back to memory (R415). -/
def State.writeBack (s : State) (x : Line) : State :=
  [0, 1].foldl (fun s i =>
    if x.dirty.testBit i then (s.memWrite (2 * x.addr + i) (x.data i)).countBack else s) s

/-- The cache serves requests: it is enabled, or a disable is in progress (R423, R424). -/
def State.cacheOn (s : State) : Bool := s.param 0x6100 1 = 1

/-- The lock mask (R416). -/
def State.lockMask (s : State) : Nat := s.param 0x6100 3

/-- Ways of a set that may take a line under a mask: every slot of an unlocked way, and an invalid slot of a locked one (R415). -/
def State.candidates (s : State) (set mask : Nat) : List Nat :=
  (List.range 16).filter (fun w => mask.testBit w && (!s.lockMask.testBit w || (s.lineAt? set w).isNone))

/-- The way a line goes to, with the set's ages moved on (R415). -/
def State.victim (s : State) (set mask : Nat) : Option (Nat × State) :=
  let c := s.candidates set mask
  match c.find? (fun w => (s.lineAt? set w).isNone) with
  | some w => some (w, s)
  | none =>
    let age := fun w => match s.lineAt? set w with | some x => x.age | none => 0
    match c with
    | [] => none
    | _ =>
      let add := 3 - min 3 ((c.map age).foldl max 0)
      let s1 := s.updBuf (fun b =>
        { b with lines := b.lines.map (fun x => if x.set = set ∧ c.contains x.way then { x with age := x.age + add } else x) })
      (c.find? (fun w => match s1.lineAt? set w with | some x => x.age = 3 | none => false)).map (fun w => (w, s1))

/-- Allocates a line under a mask at an age, its victim written back: none without a candidate slot (R415, R417). -/
def State.allocate (s : State) (l mask age : Nat) : Option State :=
  match s.victim (lineSet l) mask with
  | none => none
  | some (w, s1) =>
    let s2 := match s1.lineAt? (lineSet l) w with
      | some x => (s1.writeBack x).dropLine x.addr
      | none => s1
    some (s2.updBuf (fun b => { b with lines := b.lines ++ [⟨lineSet l, w, l, 0, 0, age, 0, 0⟩] }))

/-- The class of a requester (R413). -/
def reqClass : Requester → Nat
  | .tile => 0 | .crypto => 1 | .erasure => 2 | .index => 3 | .mover _ => 4 | .service => 5 | .cluster c => 6 + c.val

/-- Way mask and streaming of a request (R413). -/
def State.classMask (s : State) (r : Requester) : Nat := s.param 0x6101 (reqClass r + 1) % 65536
def State.streams (s : State) (r : Requester) (own : Bool) : Bool := own || (s.param 0x6101 (reqClass r + 1)).testBit 16

/-- The ordinary flow: cache counters. -/
def State.countHit (s : State) : State := s.updBuf (fun b => { b with hits := sat64 b.hits 1 })
def State.countMiss (s : State) : State := s.updBuf (fun b => { b with misses := sat64 b.misses 1 })
def State.countBypass (s : State) : State := s.updBuf (fun b => { b with bypasses := sat64 b.bypasses 1 })

/-- What an SRAM error does to the line of a granule before the access is served (R418): the state and the sources to raise. -/
def State.sramError (s : State) (g : Nat) (e : SramErr) : State × List Nat :=
  let l := g / 2
  match s.line? l, e with
  | none, _ => (s, [])
  | _, .none => (s, [])
  | some _, .corrected => (s.updBuf (fun b => { b with sramCorrected := sat32 b.sramCorrected 1 }), [152])
  | some x, .data =>
    let s1 := s.updBuf (fun b => { b with sramUncorrectable := sat32 b.sramUncorrectable 1 })
    if x.dirty.testBit (g % 2) then
      let other := 1 - g % 2
      let s2 := if x.dirty.testBit other then (s1.memWrite (2 * l + other) (x.data other)).countBack else s1
      (((s2.memPoison g (x.data (g % 2))).countBack).dropLine l, [153])
    else (s1.updLine l (fun x => { x with valid := x.valid &&& (3 ^^^ 2 ^ (g % 2)) }), [152])
  | some x, .tag readable =>
    let s1 := s.updBuf (fun b => { b with sramUncorrectable := sat32 b.sramUncorrectable 1 })
    if readable then
      (([0, 1].foldl (fun s i => if x.dirty.testBit i then (s.memPoison (2 * l + i) (x.data i)).countBack else s) s1).dropLine l, [156])
    else (s1.dropLine l, [156])

/-- A request reads a granule of memory and cache (R414 to R418, R423). -/
def State.cacheRead (s : State) (r : Requester) (own : Bool) (g : Nat) (x : DramRead) (e : SramErr) :
    Option Nat × State × List Nat :=
  let l := g / 2
  if ¬ s.cacheOn then (let (d, s1, f) := s.memRead g x; (d, s1.countBypass, f))
  else
    let (s0, f0) := s.sramError g e
    match s0.line? l with
    | some y =>
      let touch := fun (s : State) => if s.streams r own then s else s.updLine l (fun z => { z with age := 0 })
      if y.valid.testBit (g % 2) then (some (y.data (g % 2)), (touch s0).countHit, f0)
      else
        let (d, s1, f) := s0.countMiss.memRead g x
        match d with
        | some v =>
          if s1.buf.disabling then (some v, s1.countBypass, f0 ++ f) else (some v, s1.updLine l (fun z => z.put (g % 2) v false), f0 ++ f)
        | none => (none, s1, f0 ++ f)
    | none =>
      let (d, s1, f) := s0.countMiss.memRead g x
      match d with
      | none => (none, s1, f0 ++ f)
      | some v =>
        if s1.buf.disabling then (some v, s1.countBypass, f0 ++ f)
        else match s1.allocate l (s1.classMask r) (if s1.streams r own then 3 else 2) with
          | some s2 => (some v, s2.updLine l (fun z => z.put (g % 2) v false), f0 ++ f)
          | none => (some v, s1.countBypass, f0 ++ f)

/-- A request reads a granule; one of the store's tables reads as the store keeps it (R302, R308, R401). -/
def State.granRead (s : State) (r : Requester) (own : Bool) (g : Nat) (x : DramRead) (e : SramErr) : Option Nat × State × List Nat :=
  let (d, s1, f) := s.cacheRead r own g x e
  (d.map (s1.tabled g), s1, f)

/-- A request writes a whole granule (R407, R414 to R418, R423). -/
def State.granWrite (s : State) (r : Requester) (own : Bool) (g data : Nat) (e : SramErr) : State × List Nat :=
  let l := g / 2
  if ¬ s.cacheOn then ((s.memWrite g data).countBypass, [])
  else
    let (s0, f0) := s.sramError g e
    match s0.line? l with
    | some y =>
      let hit := y.valid.testBit (g % 2)
      let s1 := if s0.streams r own ∨ ¬ hit then s0 else s0.updLine l (fun z => { z with age := 0 })
      let s2 := s1.updLine l (fun z => z.put (g % 2) data (!s0.buf.disabling))
      let s3 := if s0.buf.disabling then s2.memWrite g data else s2
      (if hit then s3.countHit else s3.countMiss, f0)
    | none =>
      let s1 := s0.countMiss
      if s1.buf.disabling then ((s1.memWrite g data).countBypass, f0)
      else match s1.allocate l (s1.classMask r) (if s1.streams r own then 3 else 2) with
        | some s2 => (s2.updLine l (fun z => z.put (g % 2) data true), f0)
        | none => ((s1.memWrite g data).countBypass, f0)

/-- A merged granule goes back: into its line when the line is resident, else to the memory controller (R408); while a disable is in
progress it is written through (R423). -/
def State.mergePut (s : State) (g data : Nat) : State :=
  match s.line? (g / 2) with
  | some _ =>
    let s1 := s.updLine (g / 2) (fun z => z.put (g % 2) data (!s.buf.disabling))
    if s.buf.disabling then s1.memWrite g data else s1
  | none => s.memWrite g data

/-! ### Byte ranges -/

/-- The event of a granule among those given. -/
def dramOf (l : List DramRead) (g : Nat) : DramRead := (l.find? (fun x => x.gran = g)).getD (cleanRead g)

/-- Reads granules one after another; the first error ends the read. -/
def State.gransRead (s : State) (r : Requester) (own : Bool) (x : List DramRead) (e : SramErr) :
    List Nat → Option (List Byte) × State × List Nat
  | [] => (some [], s, [])
  | g :: l =>
    let (d, s1, f) := s.granRead r own g (dramOf x g) e
    match d with
    | none => (none, s1, f)
    | some v =>
      let (rest, s2, f2) := s1.gransRead r own x .none l
      (rest.map (fun t => natBytes 64 v ++ t), s2, f ++ f2)

/-- Granules that a range of bytes touches. -/
def gransOf (addr len : Nat) : List Nat :=
  if len = 0 then [] else (List.range ((addr + len - 1) / 64 - addr / 64 + 1)).map (fun i => addr / 64 + i)

/-- A read of any size and alignment (R400, R407): an access at or beyond U is an address fault. -/
def State.bufRead (s : State) (r : Requester) (own : Bool) (addr len : Nat) (x : List DramRead) (e : SramErr) :
    Option (List Byte) × State × List Nat :=
  if s.bufSize < addr + len then (none, s, [154])
  else
    let (d, s1, f) := s.gransRead r own x e (gransOf addr len)
    (d.map (fun l => (l.drop (addr % 64)).take len), s1, f)

/-- Writes granules one after another. -/
def State.gransWrite (s : State) (r : Requester) (own : Bool) (e : SramErr) : Nat → List Byte → Nat → State × List Nat
  | _, _, 0 => (s, [])
  | g, l, n + 1 =>
    let (s1, f) := s.granWrite r own g (leNat (l.take 64)) e
    let (s2, f2) := s1.gransWrite r own .none (g + 1) (l.drop 64) n
    (s2, f ++ f2)

/-- The source of a narrow write of a requester (R411, R489). -/
def reqNarrow : Requester → Nat
  | .mover ch => 180 + ch.val
  | _ => 155

/-- A write of whole granules (R400, R407): an access beyond U, or a narrow or unaligned one, writes nothing. -/
def State.bufWrite (s : State) (r : Requester) (own : Bool) (addr : Nat) (l : List Byte) (e : SramErr) : State × List Nat :=
  if s.bufSize < addr + l.length then (s, [154])
  else if addr % 64 ≠ 0 ∨ l.length % 64 ≠ 0 then (s, [reqNarrow r])
  else s.gransWrite r own e (addr / 64) l (l.length / 64)

end Sys2Proof.Machine
end

