-- ==== Sys2Proof/Machine/HostWire.lean ====
section
/-! DEFINITION. Host ports as the controller sends on them (R348, R350 to R352): breakout, the fields that every packet carries, and the
messages that wait while their priority is paused. -/

namespace Sys2Proof.Machine

/-- Index of a port's dictionary block (R391). -/
def portBlock (q : PortId) : Nat := 0x6500 + q.val * 0x10

/-- Sub-ports of a breakout code (R352). -/
def breakoutSubs (v : Nat) : Nat := if v = 0 then 1 else if v = 1 then 2 else 4

/-- Line rate of a sub-port, Mbit/s (R352). -/
def Port.lineRate (p : Port) : Nat := 400000 / p.subs

/-- A peer address that is IPv4 in mapped form. -/
def mappedV4 (a : Nat) : Bool := a / 2 ^ 32 == 0xFFFF

/-- What packets from a sub-port to a peer carry: lanes 4/n × s to 4/n × s + 4/n - 1 and MAC base + s (R352), the VLAN ID of the sub-port, the
network layer of the peer, the UDP source port of the local QP (R348), ECT(0) (R350), the DSCP and PCP of data or of CNPs (R351). -/
def State.wire (s : State) (q : PortId) (sub : SubPortId) (peer qp : Nat) (cnp : Bool) : Wire :=
  let per := 4 / s.host.ports[q].subs
  { port := q, sub := sub, lane := per * sub.val, lanes := per,
    mac := (s.param (portBlock q + 1) 2 + sub.val) % 2 ^ 48, vlan := s.param (portBlock q + 2) (sub.val + 1),
    ipv6 := !mappedV4 peer, peer := peer,
    dscp := s.param 0x6411 (if cnp then 3 else 1), pcp := s.param 0x6411 (if cnp then 4 else 2),
    udpSource := 0xC000 + qp % 16384 }

/-- A priority of a sub-port is paused, one of the two that the PFC entry names (R351). -/
def State.pausedOn (s : State) (w : Wire) : Bool := s.host.ports[w.port].paused[w.sub].testBit w.pcp && (s.param 0x6411 5).testBit w.pcp

/-- A message goes out, or waits while its priority is paused (R351). -/
def State.sendOn (s : State) (w : Wire) (m : HostMsg) : State :=
  if s.pausedOn w then { s with host := { s.host with waiting := s.host.waiting ++ [(w, m)] } } else s.send (.host w m)

/-- Messages whose priority is no longer paused go out, oldest first (R351). -/
def State.resumeHost (s : State) : State :=
  (s.host.waiting.filter (fun x => !s.pausedOn x.1)).foldl (fun s x => s.send (.host x.1 x.2))
    { s with host := { s.host with waiting := s.host.waiting.filter (fun x => s.pausedOn x.1) } }

/-- A message is one of connection management, on QP1. -/
def HostMsg.onQp1 : HostMsg → Bool
  | .cm _ _ _ => true
  | _ => false

/-- The connection of a message on a connection's QP. -/
def HostMsg.conn : HostMsg → Nat
  | .write c _ _ _ _ | .read c _ _ _ | .cm _ c _ | .nak c _ | .cnp c => c

/-- Bytes of object, descriptor or status data that a message sends. -/
def HostMsg.payload : HostMsg → Nat
  | .write _ _ _ l _ => l.length
  | _ => 0

/-- The connection with a number. -/
def State.conn? (s : State) (n : Nat) : Option Conn := s.host.conns.find? (fun c => c.num = n)

/-- Changes the host side. -/
def State.updHost (s : State) (f : HostSide → HostSide) : State := { s with host := f s.host }

/-- Changes a connection. -/
def State.updConn (s : State) (n : Nat) (f : Conn → Conn) : State :=
  s.updHost (fun h => { h with conns := h.conns.map (fun c => if c.num = n then f c else c) })

/-- A message leaves on its connection's QP, which counts the bytes (R350); without the connection there is no QP to send on. -/
def State.sendHost (s : State) (m : HostMsg) : State :=
  match s.conn? m.conn with
  | none => s
  | some c =>
    (s.updConn c.num (fun c => { c with sent := c.sent + m.payload })).sendOn
      (s.wire c.port c.sub c.source c.qp (match m with | .cnp _ => true | _ => false)) m

/-- A connection-management message leaves on QP1 of a sub-port (R348, R353). -/
def State.sendCm (s : State) (q : PortId) (sub : SubPortId) (peer : Nat) (kind conn : Nat) (l : List Byte) : State :=
  s.sendOn (s.wire q sub peer 1 false) (.cm kind conn l)

/-- The lowest rate that a QP sends at (R350, R392). -/
def State.minRate (s : State) : Nat := s.param 0x6412 5

end Sys2Proof.Machine
end

