-- ==== Sys2Proof/Machine/BlockResets.lean ====
section
/-! DEFINITION. Resets of single blocks: a GDDR7 channel (R403) and a host port (R489). -/

namespace Sys2Proof.Machine

/-- A channel is re-initialised (R403): the cache discards the lines that map to it, it is retrained with its epoch one higher,
its contents are lost and the background fill starts. -/
def State.reinitChannel (s : State) (c : ChanId) : State :=
  let on := fun g : Nat => (s.granPlace g).1 = c.val
  let s1 := s.updBuf (fun b =>
    { b with words := b.words.filter (fun w => !on w.gran), lines := b.lines.filter (fun x => !on (2 * x.addr)) })
  s1.updMem c.val (fun m => { m with state := 3, epoch := (m.epoch + 1) % 65536, filled := 0, valid := [] })

/-- A host port is reset: its sub-ports' links go down and train again (R489). Connections stay. -/
def State.resetPort (s : State) (q : PortId) : State :=
  { s with host := { s.host with
      ports := s.host.ports.set q.val { s.host.ports[q] with link := Vector.replicate 4 .down, paused := Vector.replicate 4 0 } q.isLt } }.resumeHost

end Sys2Proof.Machine
end

