-- ==== Sys2Proof/Machine/Contexts.lean ====
section
/-! DEFINITION. The contexts of the service sequencers and what a safe point decides (R212, R215, R216): an abort or a fail-over acts at
once on a context that waits at its safe point. -/

namespace Sys2Proof.Machine

/-- One service context. -/
def State.ctx (s : State) (q : SeqId) (c : CtxId) : Ctx := s.svc.seqs[q].ctx[c]

/-- Changes one service context. -/
def State.updCtx (s : State) (q : SeqId) (c : CtxId) (f : Ctx → Ctx) : State :=
  { s with svc := { s.svc with
      seqs := s.svc.seqs.set q.val { s.svc.seqs[q] with ctx := s.svc.seqs[q].ctx.set c.val (f s.svc.seqs[q].ctx[c]) c.isLt } q.isLt } }

/-- Changes the service side. -/
def State.updSvc (s : State) (f : Service → Service) : State := { s with svc := f s.svc }

/-- A command in the command state table (R217). -/
def Service.cmd (v : Service) (ring slot : Nat) : Option CmdEntry := v.cmds.find? (fun c => c.ring = ring ∧ c.slot = slot)

/-- The abort handler word of a command's dispatch entry (R213, R216): the entry of its first descriptor's opcode. -/
def State.abortWord (s : State) (x : Ctx) : Nat :=
  ((s.svc.dispatch.getD (fieldAt x.chain 0 1) 0).toNat / 2 ^ 16) % 2 ^ 14

/-- What a safe point decides (R216): go on, hold, or jump to the abort handler. -/
inductive SafeAct where
  | go | hold | abort
  deriving DecidableEq, Repr

/-- The checks of R216 in their order, for a context of sequencer `q`. -/
def State.safeAct (s : State) (q : SeqId) (x : Ctx) : SafeAct :=
  if s.svc.seqs[q].fault then .hold
  else if s.clusters.failOver.isSome then .hold
  else match s.svc.cmd x.ring x.slot with
    | some y => if y.aborted ∧ ¬ y.committed then .abort else .go
    | none => .go

def State.safeCheck (s : State) (q : SeqId) (c : CtxId) : SafeAct := s.safeAct q (s.ctx q c)

/-- The context goes to its abort handler. -/
def State.abortCtx (s : State) (x : Ctx) : Ctx := { x with pc := s.abortWord x, wait := .none, sinceSafe := 0, forcedSafe := false }

def State.toAbort (s : State) (q : SeqId) (c : CtxId) : State := s.updCtx q c (fun x => s.abortCtx x)

/-- The wait is a safe point for its whole length: WAITE, and SUSPEND without a free block (R215, R218). -/
def CtxWait.isSafe : CtxWait → Bool
  | .event _ _ _ => true
  | .block _ => true
  | _ => false

/-- A context that waits at its safe point acts at once on what R216 finds there. -/
def State.waitCtx (s : State) (q : SeqId) (x : Ctx) : Ctx :=
  if x.busy ∧ x.wait.isSafe then
    match s.safeAct q x with
    | .go => x
    | .hold => { x with held := true }
    | .abort => s.abortCtx x
  else x

/-- Every context that waits at its safe point. -/
def State.waitChecks (s : State) : State :=
  { s with svc := { s.svc with seqs := Vector.ofFn (fun q : SeqId => { s.svc.seqs[q] with ctx := s.svc.seqs[q].ctx.map (s.waitCtx q) }) } }

end Sys2Proof.Machine
end

