-- ==== Sys2Proof/Machine/Recorder.lean ====
section
/-! DEFINITION. Forming, merging, staging and storing event records (R552 to R558), and the queue of a pack's own log
(R101, R102). -/

namespace Sys2Proof.Machine

/-- The boot flash can be reached: the rail of xSPI is good (R517, R560). -/
def State.flashReachable (s : State) : Bool := s.rails[1].state = 2

/-- Detail field of `v` at record offset `off` (R552). -/
def detailAt (off v : Nat) : Nat := v * 256 ^ (off - 0x24)

/-- µs within the operating second (R552). -/
def State.subSecond (s : State) : Nat := (s.now - s.dev.secondAt) / 1000 % 1000000

/-- Flags of R552 that the record's pack gives it: [3] unsigned, [4] counterfeit (R72). -/
def State.packFlags (s : State) (p : Nat) : Nat :=
  if h : p < 32 then
    (if s.packs[p].unsignedFlag then 8 else 0) + (if s.packs[p].counterfeit then 16 else 0)
  else 0

/-- Completes a record with its sequence, its stamps and the flags of its pack (R552, R554). Flag [5] is set while no
cluster is active (assumption 6). -/
def State.stamp (s : State) (t : EvRec) : EvRec :=
  { t with
    seq := s.recorder.nextSeq, opSec := s.dev.opSec, power := s.dev.powerCycles, subsec := s.subSecond,
    flags := t.flags + s.packFlags t.pack + (if s.clusters.active.isNone then 32 else 0),
    devState := s.dev.state.code, active := s.activeCode, serial := s.fuses.serial }

/-- A record is fatal (R552 flag [0]). -/
def EvRec.fatal (r : EvRec) : Bool := r.flags % 2 = 1

/-- The fields that R555 compares. -/
def EvRec.sameEvent (a b : EvRec) : Bool :=
  a.type = b.type && a.source = b.source && a.code = b.code && a.pack = b.pack && a.lane = b.lane
    && a.subject = b.subject

/-- Writes a record at a ring's next place; a sector is erased just before its first record (R557). Answers the ring and
how many valid records the erase discarded. -/
def EvRing.write (sectors : Nat) (g : EvRing) (r : EvRec) : EvRing × Nat :=
  let here := fun x : EvSlot => x.place / 64 = g.next / 64
  let kept := if g.next % 64 = 0 then g.slots.filter (fun x => !here x) else g.slots
  let gone := if g.next % 64 = 0 then (g.slots.filter (fun x => here x && x.valid)).length else 0
  ({ slots := kept ++ [⟨g.next, true, r⟩], next := (g.next + 1) % (sectors * 64) }, gone)

/-- Changes the recorder. -/
def State.updRecorder (s : State) (f : Recorder → Recorder) : State := { s with recorder := f s.recorder }

/-- A record waits for the pack it names (R102): at most 64, the rest dropped and counted; the count stays at its maximum (DESIGN CHOICE: log
entry 107). -/
def State.queueForPack (s : State) (r : EvRec) : State :=
  if h : r.pack < 32 then
    if s.packs[r.pack].state = .absent then s
    else s.updPack ⟨r.pack, h⟩ (fun k =>
      if k.log.waiting.length < 64 then { k with log := { k.log with waiting := k.log.waiting ++ [r] } }
      else { k with log := { k.log with dropped := sat32 k.log.dropped 1 } })
  else s

/-- A stamped record gets its number and enters the island's copy of the 64 newest (R554, R556). -/
def State.numberRecord (s : State) (r : EvRec) : State :=
  (s.updRecorder (fun c => { c with nextSeq := (c.nextSeq + 1) % 2 ^ 32, formed := sat32 c.formed 1,
                                    newest := keepLast 64 (c.newest ++ [r]) })).queueForPack r

/-- A stamped record is staged, or lost when its place is full (R556). -/
def State.stageRecord (s : State) (r : EvRec) : State :=
  let region := s.clusters.active.isSome
  let room := if region then 4096 else 64
  if (s.recorder.staging.filter (fun x => x.inRegion = region)).length < room then
    s.updRecorder (fun c => { c with staging := c.staging ++ [⟨region, r⟩] })
  else s.updRecorder (fun c => { c with lost := sat32 c.lost 1, lostUnreported := c.lostUnreported + 1 })

/-- A new record that is not fatal: stamped, numbered, staged. -/
def State.formRecord (s : State) (t : EvRec) : State :=
  let r := s.stamp t
  (s.numberRecord r).stageRecord r

/-- A record into the ordinary region (R557). -/
def State.storeOrdinary (s : State) (r : EvRec) : State :=
  let (g, gone) := s.flash.ordinary.write 4016 r
  { s with flash := { s.flash with ordinary := g },
           recorder := { s.recorder with ordinaryOverwritten := sat32 s.recorder.ordinaryOverwritten gone } }

/-- A record into the pinned region (R557); when the erase discards fatal records a type 0x70 record follows. -/
def State.storePinned (s : State) (r : EvRec) : State :=
  let (g, gone) := s.flash.pinned.write 64 r
  let s1 := { s with flash := { s.flash with pinned := g },
                     recorder := { s.recorder with fatalOverwritten := sat32 s.recorder.fatalOverwritten gone } }
  if gone = 0 then s1 else s1.formRecord { type := 0x70, code := 1, detail := detailAt 0x24 gone }

/-- A new fatal record goes straight to the pinned region, ahead of staged records; while the flash cannot be reached it
stays staged (R557, R560). -/
def State.formFatal (s : State) (t : EvRec) : State :=
  let r := s.stamp { t with flags := t.flags + 1 }
  let s1 := s.numberRecord r
  if s.flashReachable then s1.storePinned r else s1.stageRecord r

/-- The newest record is this event's, still staged and not fatal: a further occurrence is merged into it (R555). -/
def State.mergeable (s : State) (t : EvRec) : Bool :=
  match s.recorder.newest.getLast?, s.recorder.staging.getLast? with
  | some n, some g => n.sameEvent t && g.body.seq = n.seq && !n.fatal
  | _, _ => false

/-- Adds 1 to the repeat count of the last record of a list. -/
def bumpLast (l : List EvRec) : List EvRec :=
  match l.reverse with
  | [] => []
  | r :: rest => (({ r with repeats := satU16 r.repeats 1 }) :: rest).reverse

/-- The same for the last staged record. -/
def bumpStaged (l : List Staged) : List Staged :=
  match l.reverse with
  | [] => []
  | g :: rest => (({ g with body := { g.body with repeats := satU16 g.body.repeats 1 } }) :: rest).reverse

/-- The repeat count of a pack log's newest record has changed: of the waiting one, or of the written slot, which is
then to be rewritten (R102). -/
def PackLog.bump (l : PackLog) (r : EvRec) : PackLog :=
  if l.waiting.any (fun x => x.seq = r.seq) then { l with waiting := bumpLast l.waiting }
  else match l.newest with
    | some n => if n.seq = r.seq then { l with newest := some { n with repeats := satU16 n.repeats 1 }, stale := true } else l
    | none => l

/-- Merges an occurrence into the newest record (R555). -/
def State.mergeRecord (s : State) : State :=
  let s1 := s.updRecorder (fun c => { c with merged := sat32 c.merged 1, staging := bumpStaged c.staging,
                                             newest := bumpLast c.newest })
  match s.recorder.newest.getLast? with
  | some n => if h : n.pack < 32 then s1.updPack ⟨n.pack, h⟩ (fun k => { k with log := k.log.bump n }) else s1
  | none => s1

/-- An event of no fault source: merged when it repeats the newest record, else a new record (R555). -/
def State.record (s : State) (t : EvRec) : State := if s.mergeable t then s.mergeRecord else s.formRecord t

/-- Writes one staged record to its region of flash: fatal ones to the pinned, the rest to the ordinary (R557). -/
def State.storeStaged (s : State) (g : Staged) : State :=
  if g.body.fatal then s.storePinned g.body else s.storeOrdinary g.body

/-- Everything staged but the last `keep` records is written to flash in sequence order (R556). Afterwards a loss of
records inside staging is reported by a type 0x70 record. -/
def State.flushStaging (s : State) (keep : Nat) : State :=
  let n := s.recorder.staging.length - keep
  let s1 := (s.recorder.staging.take n).foldl State.storeStaged
    (s.updRecorder (fun c => { c with staging := c.staging.drop n }))
  if s1.recorder.lostUnreported = 0 then s1
  else (s1.updRecorder (fun c => { c with lostUnreported := 0 })).formRecord
    { type := 0x70, code := 2, detail := detailAt 0x24 s1.recorder.lostUnreported }

/-- Everything staged is written without waiting, when the flash can be reached (R556). -/
def State.flushAll (s : State) : State := if s.flashReachable then s.flushStaging 0 else s

end Sys2Proof.Machine
end

