-- ==== Sys2Proof/Machine/Faults.lean ====
section
/-! DEFINITION. The fault sources (R486 to R495): class, fault state, EMCY code, what an occurrence does, the reactions,
and the pins ERROR_N and FATAL_N. -/

namespace Sys2Proof.Machine

/-- Class of source `s`: 0 corrected, 1 uncorrected-contained, 2 fatal (R486, R489). -/
def srcClass (s : Nat) : Nat :=
  if s < 4 then 2
  else if s < 16 then (if s = 4 ∨ s = 6 ∨ s = 9 ∨ s = 10 ∨ s = 14 then 1 else if s = 5 ∨ s = 12 then 0 else 2)
  else if s < 32 then (if s % 8 = 3 then 0 else 1)
  else if s < 40 then 2
  else if s < 48 then 1
  else if s < 56 then (if s % 2 = 0 then 2 else 1)
  else if s < 152 then (if s % 4 = 0 then 0 else if s % 4 = 3 then 2 else 1)
  else if s < 160 then (if s = 152 ∨ s = 159 then 0 else if s = 157 then 2 else 1)
  else if s < 176 then 1
  else if s < 180 then (if s = 176 ∨ s = 178 then 0 else if s = 177 then 1 else 2)
  else if s < 228 then 1
  else if s < 232 then 2
  else if s < 392 then (if (s - 232) % 5 = 0 then 0 else 1)
  else if s < 401 then 1
  else if s < 409 then 2
  else if s = 409 then 0
  else if s = 410 then 2
  else if s = 412 then 0
  else 1

/-- The source's row reads Yes: it enters fault state (R489, R493). -/
def srcHasState (s : Nat) : Bool :=
  if s < 40 then srcClass s = 2 || (16 ≤ s && s < 32 && s % 8 ≠ 3)
  else if s < 48 then true
  else if s < 160 then srcClass s = 2
  else if s < 176 then true
  else if s < 212 then srcClass s = 2
  else if s < 232 then true
  else if s < 392 then decide (3 ≤ (s - 232) % 5)
  else srcClass s = 2

/-- EMCY code of source `s` (R489). -/
def srcCode (s : Nat) : Nat :=
  if s < 16 then 0x5000 + s
  else if s < 32 then 0x6010 + (s - 16)
  else if s < 40 then 0x8130 + (s - 32)
  else if s < 48 then 0xFF10 + (s - 40)
  else if s < 56 then (if s % 2 = 0 then 0x3200 + (s - 48) / 2 else 0x3100 + (s - 49) / 2)
  else if s < 152 then 0x5100 + (s - 56)
  else if s < 160 then 0x5200 + (s - 152)
  else if s < 176 then 0x6100 + (s - 160)
  else if s < 180 then 0x6120 + (s - 176)
  else if s < 212 then 0x6200 + (s - 180)
  else if s < 228 then 0x8120 + (s - 212)
  else if s < 232 then 0x6300 + (s - 228)
  else if s < 392 then
    let p := (s - 232) / 5
    let k := (s - 232) % 5
    if k = 4 then 0x2300 + p else 0x7100 + 32 * k + p
  else if s < 396 then 0xFF20 + (s - 392)
  else if s = 396 then 0xFF24
  else if s < 401 then 0x2320 + (s - 397)
  else if s < 409 then 0x3300 + (s - 401)
  else if s = 409 then 0x4210
  else if s = 410 then 0x4220
  else if s = 411 then 0x8150
  else if s = 412 then 0x8140
  else if s = 413 then 0xFF30
  else if s = 414 then 0x6400
  else 0x6401

/-- The default of F.01 that R489 gives for the source; the base image carries it (R453). -/
def srcDefaultReaction (s : Nat) : Nat :=
  if s = 409 then 0x08 else if srcClass s = 0 then 0x00 else if srcClass s = 1 then 0x08 else 0x19

/-- The pack a source names; 0xFF for none (R489). -/
def srcPack (s : Nat) : Nat := if 232 ≤ s ∧ s < 392 then (s - 232) / 5 else 0xFF

/-- The pack, channel or port a source names in its EMCY message; 0xFF for none (R461). -/
def srcUnit (s : Nat) : Nat :=
  if 56 ≤ s ∧ s < 152 then (s - 56) / 4
  else if 180 ≤ s ∧ s < 212 then s - 180
  else if 212 ≤ s ∧ s < 228 then s - 212
  else srcPack s

/-- The subject a source's record names: channel, port, rail, bus, tile or cluster; 0xFFFF for none (R552). -/
def srcSubject (s : Nat) : Nat :=
  if 16 ≤ s ∧ s < 32 then (s - 16) / 8
  else if 32 ≤ s ∧ s < 40 then s - 32
  else if 40 ≤ s ∧ s < 48 then s - 40
  else if 48 ≤ s ∧ s < 56 then (s - 48) / 2
  else if 56 ≤ s ∧ s < 152 then (s - 56) / 4
  else if 180 ≤ s ∧ s < 212 then s - 180
  else if 212 ≤ s ∧ s < 228 then s - 212
  else if 397 ≤ s ∧ s < 401 then s - 397
  else if 401 ≤ s ∧ s < 409 then s - 401
  else 0xFFFF

/-- The sources that a block reset of source `s`'s row clears; none where the row's group has no block reset (R489,
R492). -/
def srcBlock (s : Nat) : List Nat :=
  if 16 ≤ s ∧ s < 32 then (List.range 8).map (fun k => 16 + (s - 16) / 8 * 8 + k)
  else if 56 ≤ s ∧ s < 152 then (List.range 4).map (fun k => 56 + (s - 56) / 4 * 4 + k)
  else if 212 ≤ s ∧ s < 228 then [s]
  else []

/-- R487's table: F.01 value `v` is allowed for source `s`. -/
def reactionAllowed (s v : Nat) : Bool :=
  let r := v % 8
  let fatalPin := v.testBit 4
  if s < 2 then v = srcDefaultReaction s
  else if srcClass s = 0 then r = 0 && !fatalPin
  else if srcClass s = 1 then r = 0 || r = 1 || r = 3 || (r = 2 && !(srcBlock s).isEmpty)
  else (r = 1 || r = 3 || (r = 2 && !(srcBlock s).isEmpty)) && fatalPin

/-- The state of a source. -/
def State.source (s : State) (k : Nat) : FaultSource := (s.faults.sources.toList[k]?).getD {}

/-- Changes the state of a source. -/
def State.updSource (s : State) (k : Nat) (f : FaultSource → FaultSource) : State :=
  if h : k < 416 then
    { s with faults := { s.faults with sources := s.faults.sources.set k (f s.faults.sources[k]) h } }
  else s

/-- F.01 of source `k` (R453). -/
def State.reaction (s : State) (k : Nat) : Nat := s.param (0x8100 + k) 1

/-- F.02 of source `k` (R453). -/
def State.sourceStatus (s : State) (k : Nat) : Nat :=
  let f := s.source k
  srcClass k + (if f.sticky then 4 else 0) + (if f.inState then 8 else 0) + f.count * 2 ^ 32

/-- The sources whose sticky bit is set, lowest first. -/
def State.stickySources (s : State) : List Nat := (List.range 416).filter (fun k => (s.source k).sticky)

/-- The error register 0x1001 (R461). -/
def State.errorRegister (s : State) : Nat :=
  let l := s.stickySources
  let hi := fun (d : Nat) => l.any (fun k => srcCode k / 0x1000 = d)
  (if l.any (fun k => srcClass k ≠ 0) then 1 else 0) + (if hi 2 then 2 else 0) + (if hi 3 then 4 else 0)
    + (if hi 4 then 8 else 0) + (if l.any (fun k => srcCode k / 0x100 = 0x81) then 16 else 0)
    + (if l.any (fun k => srcClass k = 2) then 128 else 0)

/-- ERROR_N is asserted (R495). -/
def State.errorN (s : State) : Bool :=
  (s.faults.reactionsLoaded && s.stickySources.any (fun k => (s.reaction k).testBit 3))
    || (s.can.sampled && s.can.nodeId = 0) || (s.dev.state = .lee && s.dev.startFail ≠ 0)

/-- FATAL_N is asserted (R495). -/
def State.fatalN (s : State) : Bool :=
  (s.faults.reactionsLoaded && s.stickySources.any (fun k => (s.reaction k).testBit 4)) || s.faults.fatalLatch

/-- The CAN controller is listen-only: NODE_ID reads 0 (R458). -/
def Can.listenOnly (c : Can) : Bool := c.nodeId = 0

/-- Queues an EMCY message: error register and operating seconds as now; a message beyond 32 is lost (R461). -/
def State.emcy (s : State) (code src : Nat) : State :=
  if s.can.listenOnly then s
  else if s.can.emcyQueue.length < 32 then
    { s with can := { s.can with emcyQueue := s.can.emcyQueue ++
        [⟨code, s.errorRegister, src, srcClass src, srcUnit src, s.dev.opSec⟩] } }
  else { s with can := { s.can with emcyLost := sat32 s.can.emcyLost 1 } }

/-- Puts an error code at the head of the error history (R461). -/
def State.pushHistory (s : State) (code : Nat) : State :=
  { s with can := { s.can with history := (code :: s.can.history).take 16 } }

/-- The record of a source's occurrence (R553 type 0x01). -/
def State.faultRecord (s : State) (k : Nat) (first : Bool) (lane subject flags repeats : Nat) : EvRec :=
  { type := 0x01, flags := flags + (if first then 2 else 0), source := k, code := srcCode k, repeats := repeats,
    pack := srcPack k, lane := lane, subject := if subject = 0xFFFF then srcSubject k else subject,
    detail := detailAt 0x24 (srcClass k) + detailAt 0x25 (s.reaction k) + detailAt 0x28 ((s.source k).count) }

/-- A further occurrence of a source is merged, held back, recorded anew or only counted (R555). -/
def State.recordAgain (s : State) (k lane subject flags : Nat) : State :=
  let f := s.source k
  let t := s.faultRecord k false lane subject flags 0
  if s.mergeable t then s.mergeRecord
  else if srcClass k = 2 then s
  else
    let due : Bool := match f.formedAt with
      | some t0 => decide (t0 + s.param 0x8801 1 * 1000000000 ≤ s.now)
      | none => true
    if srcClass k = 0 ∧ ¬ due then s.updSource k (fun f => { f with heldBack := f.heldBack + 1 })
    else (s.formRecord { t with repeats := min f.heldBack 0xFFFF }).updSource k
      (fun f => { f with heldBack := 0, formedAt := some s.now })

/-- The record that opens a source's history (R491, R557): a fatal-class one is fatal. -/
def State.recordFirst (s : State) (k lane subject flags : Nat) : State :=
  let t := s.faultRecord k true lane subject flags (min (s.source k).heldBack 0xFFFF)
  (if srcClass k = 2 then s.formFatal t else s.formRecord t).updSource k
    (fun f => { f with heldBack := 0, formedAt := some s.now })

/-- Changes one cluster. -/
def State.updCluster (s : State) (c : ClusterId) (f : Cluster → Cluster) : State :=
  { s with clusters := { s.clusters with unit := s.clusters.unit.set c.val (f s.clusters.unit[c]) c.isLt } }

/-- Delivers an interrupt or a trap to the active cluster; held during a fail-over, only recorded while no cluster is
active; traps are counted toward trap storms (R494, R506, R514). -/
def State.deliver (s : State) (q : Irq) : State :=
  match s.clusters.failOver with
  | some f => { s with clusters := { s.clusters with failOver := some { f with held := f.held ++ [q] } } }
  | none => match s.clusters.active with
    | none => s
    | some c =>
      let s1 := s.send (.irq c.val q.trap q.source)
      if q.trap then
        s1.updCluster c (fun u => { u with traps := sat32 u.traps 1, trapTimes := (s.now :: u.trapTimes).take 256 })
      else s1

/-- The sources named leave fault state and lose their sticky bits; each that was in fault state writes a type 0x02
record and sends an EMCY message with code 0 (R492, R493). `why` is 2 block reset, 4 pack reached Absent. -/
def State.leaveFaults (s : State) (l : List Nat) (why : Nat) : State :=
  let left := l.filter (fun k => (s.source k).inState)
  let s1 := l.foldl (fun s k => s.updSource k (fun f => { f with sticky := false, inState := false })) s
  left.foldl (fun s k => ((s.record { type := 0x02, source := k, pack := srcPack k, subject := srcSubject k,
                                      detail := detailAt 0x24 why }).emcy 0 k)) s1

/-- The fault's sticky bit is set: the first and last indicators, of several sources in one cycle the lowest
index, and the pins' first causes (R491, R514). -/
def State.setSticky (s : State) (k : Nat) : State :=
  let s1 := s.updSource k (fun f => { f with sticky := true, inState := f.inState || srcHasState k })
  let rl := s.faults.reactionsLoaded
  { s1 with faults := { s1.faults with
      firstSticky := if s.faults.firstSticky = 0xFFFF then k
                     else if s.faults.firstAt = s.now then min k s.faults.firstSticky else s.faults.firstSticky,
      firstAt := if s.faults.firstSticky = 0xFFFF then s.now else s.faults.firstAt,
      lastSticky := if s.faults.lastSticky ≠ 0xFFFF ∧ s.faults.lastAt = s.now then min k s.faults.lastSticky else k,
      lastAt := s.now, lastStickySec := s.dev.opSec,
      firstError := if s.faults.firstError = 0xFFFF ∧ rl ∧ (s.reaction k).testBit 3 then k else s.faults.firstError,
      firstFatal := if s.faults.firstFatal = 0xFFFF ∧ rl ∧ (s.reaction k).testBit 4 then k else s.faults.firstFatal } }

/-- The pins' first causes as F.01 now stands: a source already sticky asserts a pin whose bit is set (R495, R514). -/
def State.notePins (s : State) : State :=
  let first := fun (was b : Nat) =>
    if was ≠ 0xFFFF ∨ ¬ s.faults.reactionsLoaded then was
    else match s.stickySources.find? (fun k => (s.reaction k).testBit b) with | some k => k | none => 0xFFFF
  { s with faults := { s.faults with firstError := first s.faults.firstError 3, firstFatal := first s.faults.firstFatal 4 } }

/-- The other cluster. -/
def otherCluster (c : ClusterId) : ClusterId := if c = 0 then 1 else 0

/-- The standby cluster is fit (R505). -/
def State.standbyFit (s : State) : Bool :=
  match s.clusters.active with
  | none => false
  | some c =>
    let u := s.clusters.unit[otherCluster c]
    u.role = .standby && u.missRun = 0 && !s.clusters.mirrorGap
      && (match s.clusters.lagAt with | some t => decide (t + 1000000 ≤ s.now) | none => true)

/-- A fail-over or role swap begins: the old active cluster is fenced and held in reset (a swap's cooperates), and the
hub holds until the new one releases it (R507, R510). `cause` is that of 0x8010.07. -/
def State.beginFailOver (s : State) (cause : Nat) (swap : Bool) : State :=
  match s.clusters.active with
  | none => s
  | some c =>
    let s1 := if swap then s else s.updCluster c (fun u => { u with role := .off, failTimes := s.now :: u.failTimes })
    ({ s1 with clusters := { s1.clusters with
        active := none, lastCause := cause,
        failOver := some ⟨cause, c, otherCluster c, swap, s.now, []⟩ } }).waitChecks

/-- A cluster is reset by the arbiter: it returns through Self-test, and the sources of its block leave fault state
(R489, R492, R505). -/
def State.resetCluster (s : State) (c : ClusterId) : State :=
  (s.updCluster c (fun u => { u with role := .selfTest, missRun := 0 })).leaveFaults (srcBlock (16 + 8 * c.val)) 2

/-- Reaction 2 on a source of cluster `c`: of the active cluster a fail-over, followed by the reset when the hub is
released; of the other one a reset (R494). -/
def State.resetClusterBlock (s : State) (c : ClusterId) : State :=
  if s.clusters.active = some c then (if s.standbyFit then s.beginFailOver 3 false else s)
  else if s.clusters.failOver.isSome then s
  else match s.clusters.unit[c].role with
    | .off => s
    | .out => s
    | _ => s.resetCluster c

/-- Reaction 3 asks for a chip reset; the first request stands (R494). -/
def State.requestReset (s : State) (k : Nat) : State :=
  if s.faults.resetRequest.isSome then s
  else { s with faults := { s.faults with resetRequest := some k } }

/-- The reaction of F.01 [2:0] for source `k` (R494). -/
def State.react (s : State) (k : Nat) : State :=
  match s.reaction k % 8 with
  | 0 => s.deliver ⟨false, k⟩
  | 1 => s.deliver ⟨true, k⟩
  | 2 =>
    if 16 ≤ k ∧ k < 32 then s.resetClusterBlock (if k < 24 then 0 else 1)
    else if h : 56 ≤ k ∧ k < 152 then
      if s.dev.state = .selfTest ∨ s.dev.state = .bench then
        (s.reinitChannel ⟨(k - 56) / 4, by omega⟩).leaveFaults (srcBlock k) 2
      else s.requestReset k
    else if h : 212 ≤ k ∧ k < 228 then (s.resetPort ⟨k - 212, by omega⟩).leaveFaults (srcBlock k) 2
    else s
  | 3 => s.requestReset k
  | _ => s

/-- A fault source reports an occurrence (R491): it is counted; the first since its sticky bit was cleared sets the bit
and fault state, raises the EMCY message, the record and the reaction; later ones only add to the records. `lane`,
`subject` and `flags` complete the record. -/
def State.raiseWith (s : State) (k lane subject flags : Nat) : State :=
  if 416 ≤ k then s else
  let s1 := s.updSource k (fun f => { f with count := sat32 f.count 1 })
  if (s.source k).sticky then s1.recordAgain k lane subject flags
  else
    let s2 := (s1.setSticky k).pushHistory (srcCode k)
    (((s2.emcy (srcCode k) k).recordFirst k lane subject flags)).react k

/-- An occurrence of source `k` with nothing to add to its record. -/
def State.raise (s : State) (k : Nat) : State := s.raiseWith k 0 0xFFFF 0

/-- An occurrence of one of a pack's five sources (R489): 0 corrected, 1 lane out, 2 pack condition, 3 pack Failed,
4 power stage. -/
def State.raisePack (s : State) (p : PackId) (k : Nat) : State := s.raise (232 + 5 * p.val + k)

/-- The same for a lane of the pack (R552 field Lane). -/
def State.raiseLane (s : State) (p : PackId) (a : ArmId) (h : HeadId) (k : Nat) : State :=
  s.raiseWith (232 + 5 * p.val + k) (laneSub a h) 0xFFFF 0

end Sys2Proof.Machine
end

