-- ==== Sys2Proof/Machine/Links.lean ====
section
/-! DEFINITION. Frames on the arm links (R78 to R87): building, sending, numbering, and the echo. -/

namespace Sys2Proof.Machine

/-- Appends the CRC-8 of R79. -/
def withCrc (l : List Byte) : List Byte := l ++ [BitVec.ofNat 8 (crc8 l)]

/-- An MA frame (R81). -/
def maFrame (head : Nat) (c : Int) (wedge : Nat) : List Byte :=
  withCrc ([BitVec.ofNat 8 (0x10 + head)] ++ natBytes 2 (lowBits 16 c) ++ [BitVec.ofNat 8 wedge])

/-- A CMD frame (R81). -/
def cmdFrame (opcode mask seq : Nat) : List Byte :=
  withCrc ([0x20, BitVec.ofNat 8 opcode] ++ natBytes 2 mask ++ [BitVec.ofNat 8 seq])

/-- A REG frame (R81): `wide` an arm-wide register, which takes a zero head field. -/
def regFrame (head reg : Nat) (write wide : Bool) (data seq : Nat) : List Byte :=
  withCrc ([BitVec.ofNat 8 (0x30 + (if wide then 0 else head)), BitVec.ofNat 8 reg,
            BitVec.ofNat 8 ((if write then 1 else 0) + (if wide then 2 else 0))]
    ++ natBytes 2 (if write then data else 0) ++ [BitVec.ofNat 8 seq])

/-- Changes an arm's link. -/
def State.updLink (s : State) (p : PackId) (a : ArmId) (f : ArmLink → ArmLink) : State :=
  s.updArm p a (fun x => { x with link := f x.link })

/-- Sends a numbered frame while the link is up: the sequence advances by 1 modulo 256 and the frame awaits its echo
(R85). -/
def State.sendNumbered (s : State) (p : PackId) (a : ArmId) (frame : Nat → List Byte) : State :=
  let l := (s.arm p a).link
  if l.state = .up then
    let n := (l.seq + 1) % 256
    (s.updLink p a (fun l => { l with seq := n, unechoed := l.unechoed ++ [⟨n, frame n, 0⟩] })).send
      (.frame p.val a.val (frame n))
  else s

/-- The masks that the preamplifier's commands set, as last sent (R82). -/
def ArmServo.noteCmd (v : ArmServo) (opcode mask : Nat) : ArmServo :=
  if opcode = 1 then { v with readEnabled := mask }
  else if opcode = 2 then { v with armedSent := mask }
  else if opcode = 3 then { v with microEnabled := mask }
  else if opcode = 4 ∨ opcode = 5 ∨ opcode = 6 then
    { v with readEnabled := 0, armedSent := 0, armedEchoed := 0, microEnabled := 0 }
  else v

/-- Sends a CMD frame (R82). -/
def State.sendCmd (s : State) (p : PackId) (a : ArmId) (opcode mask : Nat) : State :=
  (s.updServo p a (fun v => v.noteCmd opcode mask)).sendNumbered p a (cmdFrame opcode mask)

/-- WRITE_ARM with an empty mask, if any head is armed (R207, R259). -/
def State.disarm (s : State) (p : PackId) (a : ArmId) : State :=
  if (s.arm p a).servo.armedSent = 0 then s else s.sendCmd p a 2 0

/-- Drops the numbered frame of sequence `n`: an echo covers the frame whose sequence it carries, no other (R85). -/
def dropEchoed (n : Nat) (l : List Unechoed) : List Unechoed := l.filter (fun u => u.seq ≠ n)

/-- The frame that an echo of sequence `n` covers. -/
def takeEchoed (n : Nat) (l : List Unechoed) : List Unechoed := l.filter (fun u => u.seq = n)

/-- A WRITE_ARM frame among those echoed sets the echoed mask (R157). -/
def ArmServo.noteEcho (v : ArmServo) (u : Unechoed) : ArmServo :=
  if fieldAt u.frame 0 1 / 16 = 2 ∧ fieldAt u.frame 1 1 = 2 then { v with armedEchoed := fieldAt u.frame 2 2 } else v

/-- The preamplifier has echoed sequence `n` (R85, R157). -/
def State.echo (s : State) (p : PackId) (a : ArmId) (n : Nat) : State :=
  let got := takeEchoed n (s.arm p a).link.unechoed
  (s.updLink p a (fun l => { l with unechoed := dropEchoed n l.unechoed })).updServo p a
    (fun v => got.foldl ArmServo.noteEcho v)

end Sys2Proof.Machine
end

