-- ==== Sys2Proof/Machine/ServoField.lean ====
section
/-! DEFINITION. The servo field of a wedge (R107, R108): where its parts lie, its cell patterns, and what a demodulator reads
from the cells. -/

namespace Sys2Proof.Machine

/-! ### Positions, in RU from the reference point (R107, R153) -/

/-- Servo-protect period of a lane (R109). -/
def protectFrom : Nat := 17920
def protectTo : Nat := 16384

/-- The servo window and the one of a provisional lane (R48, R153): before and after the reference point. -/
def windowBefore (provisional : Bool) : Nat := if provisional then 2 ^ 15 else 13312
def windowAfter (provisional : Bool) : Nat := if provisional then 2 ^ 15 else 14592

/-- A servo address mark whose reference point lies `e` RU from the predicted one was found inside the lane's window (R38): the mark is the
1,024 RU before the point (R107). -/
def inServoWindow (provisional : Bool) (e : Int) : Bool :=
  decide (1024 ≤ e + windowBefore provisional ∧ e ≤ windowAfter provisional)

/-- End of the runout word, the burst end (R107, R234). -/
def burstEnd : Nat := 14592

/-- Cells of the parts of a servo field, 64 RU each, in order from -12,288 RU: preamble, address mark, index with parity, track
and surface, bursts N and Q, runout word (R107). -/
def servoParts : List Nat := [176, 16, 20, 48, 64, 64, 32]

/-! ### Patterns (R108) -/

/-- The servo address mark, bit 15 first. -/
def addressMark : Nat := 0x0F59

/-- `n` cells of the pattern 1, 1, 0, 0 repeated, first cell in the top bit: the servo preamble. -/
def preambleCells : Nat → Nat
  | 0 => 0
  | n + 1 => preambleCells n * 2 + (if n % 4 < 2 then 1 else 0)

/-- The low `n` bits of `v` as dibits, most significant bit first: a 1 is 1, 0 and a 0 is 0, 1. -/
def dibitsOf : Nat → Nat → Nat
  | 0, _ => 0
  | n + 1, v => dibitsOf n (v / 2) * 4 + (if v % 2 = 1 then 2 else 1)

/-- The `n` bits that 2n cells carry; none when a dibit is 1, 1 or 0, 0. -/
def readDibits : Nat → Nat → Option Nat
  | 0, _ => some 0
  | n + 1, c =>
    match readDibits n (c / 4) with
    | none => none
    | some v => if c % 4 = 2 then some (2 * v + 1) else if c % 4 = 1 then some (2 * v) else none

/-- Parity of the low `n` bits of a number. -/
def parityBit : Nat → Nat → Nat
  | 0, _ => 0
  | n + 1, v => (v + parityBit n (v / 2)) % 2

/-- Gray code of a number, and the number of a Gray code of `n` bits. -/
def toGray (v : Nat) : Nat := v ^^^ (v / 2)
def fromGray : Nat → Nat → Nat
  | 0, _ => 0
  | n + 1, g => let r := fromGray n (g / 2); 2 * r + (g + r) % 2

/-- Cells of the index field: 9 bits and the even parity bit. -/
def indexCells (w : Nat) : Nat := dibitsOf 10 (w % 512 * 2 + parityBit 9 (w % 512))

/-- Cells of the track number in Gray code followed by the surface number in binary. -/
def trackCells (track surface : Nat) : Nat := dibitsOf 24 (toGray (track % 2 ^ 20) * 16 + surface % 16)

/-- The wedge index that an index field gives: none with an invalid dibit or a parity error (R38, R235). -/
def readIndex (cells : Nat) : Option Nat :=
  match readDibits 10 cells with
  | some v => if parityBit 10 v = 0 then some (v / 2) else none
  | none => none

/-- Track and surface of a track field; none with an invalid dibit (R234). -/
def readTrack (cells : Nat) : Option (Nat × Nat) :=
  (readDibits 24 cells).map (fun v => (fromGray 20 (v / 16), v % 16))

/-- The runout word, Q1.15 of track pitch (R234). -/
def readRunout (cells : Nat) : Option Int := (readDibits 16 cells).map (signedNat 16)

/-- The address mark was found (R38). -/
def detFound (d : Detection) : Bool := d.mark == addressMark

/-- The index decoded without error behind a mark (R38); none otherwise. -/
def detIndex (d : Detection) : Option Nat := if d.mark = addressMark then readIndex d.indexCells else none

end Sys2Proof.Machine
end

