-- ==== Sys2Proof/Machine/ReadChannel.lean ====
section
/-! DEFINITION. The read data path of a lane on plain lists (05, 06): defect marks (R143), LLRs (R142, R146, R180), the adaptive
loops and the timing loop over the cells of a gate (R140, R141, R144), the sync mark comparison (R169), and the syndrome
weight (R175). -/

namespace Sys2Proof.Machine

/-! ### Defect detector (R143) -/

/-- Marks the elements that stand in a run of at least `n` set ones; `k` set ones went before. -/
def markRuns (n : Nat) : Nat → List Bool → List Bool
  | k, [] => List.replicate k (decide (n ≤ k))
  | k, true :: l => markRuns n (k + 1) l
  | k, false :: l => List.replicate k (decide (n ≤ k)) ++ false :: markRuns n 0 l

/-- Extends every mark by `n` cells behind it; `k` of them are still due. -/
def spreadMarks (n : Nat) : Nat → List Bool → List Bool
  | _, [] => []
  | k, b :: l => (b || decide (0 < k)) :: spreadMarks n (if b then n else k - 1) l

/-- Marked ranges extended by 32 cells on each side and joined. -/
def extendMarks (l : List Bool) : List Bool :=
  List.zipWith (· || ·) (spreadMarks 32 0 l) (spreadMarks 32 0 l.reverse).reverse

/-- The cells below `frac` (Q1.15) of the running mean of the 1,024 cells before them. Cells of a dropout, 24 low ones in a row,
do not enter the mean (assumption 109); `pend` are the low cells of the run in progress. -/
def lowCells (frac : Nat) : List Nat → List Nat → List Int → List Bool × List Nat
  | tail, pend, [] => ([], if pend.length < 24 then (pend ++ tail).take 1024 else tail)
  | tail, pend, x :: l =>
    let m := x.natAbs
    if m * 32768 * tail.length < frac * tail.sum then
      let r := lowCells frac tail (m :: pend) l
      (true :: r.1, r.2)
    else
      let r := lowCells frac ((m :: ((if pend.length < 24 then pend else []) ++ tail)).take 1024) [] l
      (false :: r.1, r.2)

/-- What the defect detector finds in the cells of a gate: the marks, whether dropout covers them all, and the cells that the
running mean goes on from. -/
structure DefectMarks where
  marks : List Bool
  blank : Bool
  tail : List Nat

/-- The defect detector with asperity threshold `asp` and dropout fraction `frac`. -/
def findDefects (asp frac : Nat) (tail : List Nat) (x : List Int) : DefectMarks :=
  let low := lowCells frac tail [] x
  let drops := markRuns 24 0 low.1
  let peaks := markRuns 4 0 (x.map (fun v => decide (asp < v.natAbs)))
  { marks := extendMarks (List.zipWith (· || ·) peaks drops),
    blank := !x.isEmpty && (extendMarks drops).all id,
    tail := low.2 }

/-! ### LLRs (R142, R146, R180) -/

/-- The LLR of a measured bit: limited to -31 to +31 and at least 1 in magnitude; the tentative decision gives the sign of a zero
(assumption 110). -/
def clampLlr (bit : Bool) (v : Int) : Int :=
  if v = 0 then (if bit then -1 else 1) else max (-31) (min 31 v)

/-- Half the magnitude, at least 1 for a measured bit (R142, R146). -/
def halveLlr (v : Int) : Int :=
  if v = 0 then 0 else if 0 < v then max 1 (v / 2) else -(max 1 (-v / 2))

/-- The eight bits at each end of a fragment with their LLRs halved (R146). -/
def halveEdges (l : List Int) : List Int :=
  (l.zipIdx).map (fun x => if x.2 < 8 ∨ l.length < x.2 + 9 then halveLlr x.1 else x.1)

/-- The LLRs of `n` code bits of a fragment from its cell `start` on; a bit in a marked range is erased, unless marks are
ignored (R142, R143, R174 method 4). -/
def Fragment.llr (f : Fragment) (ignore : Bool) (start n : Nat) : List Int :=
  (((f.soft.zip (f.bits.zip f.marks)).drop start).take n).map (fun x =>
    if x.2.2 && !ignore then 0 else clampLlr x.2.1 x.1)

/-- First cell, counted from the gate's opening, of the code bits of a fragment at alignment `a` from its expected mark (R116,
R168, R172). -/
def codeCell (second : Bool) (a : Int) : Nat := ((expectedMark second + markLen second : Nat) + a).toNat

/-- The LLRs of a sector's code bits at alignments `a1` and `a2` (R172). -/
def Reading.llr (r : Reading) (a1 a2 : Int) (ignore : Bool) : List Int :=
  if r.split then
    halveEdges (r.frag1.llr ignore (codeCell false a1) r.first)
      ++ halveEdges (r.frag2.llr ignore (codeCell true a2) (37440 - r.first))
  else r.frag1.llr ignore (codeCell false a1) 37440

/-- The equalised samples of a sector's code bits at alignments `a1` and `a2` (R180). -/
def Reading.codeSamples (r : Reading) (a1 a2 : Int) : List Int :=
  if r.split then
    (r.frag1.samples.drop (codeCell false a1)).take r.first ++ (r.frag2.samples.drop (codeCell true a2)).take (37440 - r.first)
  else (r.frag1.samples.drop (codeCell false a1)).take 37440

/-- LLRs of two reads summed and clipped; a bit erased in one takes the other's (R180). -/
def combineLlr : List Int → List Int → List Int
  | [], l => l
  | l, [] => l
  | x :: l, y :: m => max (-31) (min 31 (x + y)) :: combineLlr l m

/-- Samples of two reads summed bit by bit (R180). -/
def sumSamples : List Int → List Int → List Int
  | [], l => l
  | l, [] => l
  | x :: l, y :: m => (x + y) :: sumSamples l m

/-- A list aligned by code bits seen `k` cells later; bits beyond it are erased. -/
def shiftLlr (k : Int) (l : List Int) : List Int :=
  if 0 ≤ k then l.drop k.toNat else List.replicate (-k).toNat 0 ++ l.take (l.length - (-k).toNat)

/-- Hard decisions of LLRs as the number whose bit n is c_n; an erased bit counts as 0 (assumption 110). -/
def hardWord : List Int → Nat
  | [] => 0
  | x :: l => (if x < 0 then 1 else 0) + 2 * hardWord l

/-- Set bits among the low `n` of a number. -/
def popCount : Nat → Nat → Nat
  | 0, _ => 0
  | n + 1, v => v % 2 + popCount n (v / 2)

/-- Initial syndrome weight: checks of R115 that a word leaves unsatisfied (R175). -/
def syndromeWeight (w : Nat) : Nat := ((List.range 10).map (fun i => popCount 416 (ldpcRow w i (List.range 90)))).sum

/-- What the decoder gives for LLRs: hard decisions that satisfy every check converge at iteration zero (R172); otherwise the
decode as it came out. -/
def decodeOf (llr : List Int) (a : Attempt) : Attempt :=
  if llr.length = 37440 ∧ llr.all (fun v => v ≠ 0) ∧ ldpcOk (hardWord llr) then ⟨hardWord llr, 0⟩ else a

/-! ### Sync marks (R116, R169) -/

/-- The cells of a sync mark or of a resync mark, first cell first (R116). -/
def markBits (second : Bool) : List Bool :=
  if second then (List.range 16).map (fun i => (0x6B2D).testBit (15 - i))
  else (List.range 24).map (fun i => (0xE2D4B7).testBit (23 - i))

/-- Hamming distance of a pattern from the cells at its place; a cell that is not there differs. -/
def hamming : List Bool → List Bool → Nat
  | [], _ => 0
  | _ :: p, [] => 1 + hamming p []
  | a :: p, b :: l => (if a = b then 0 else 1) + hamming p l

/-- The distances at the candidate positions e - W to e + W of tentative decisions that begin at e - W (R168, R169). -/
def markDistances (second : Bool) (w : Nat) (bits : List Bool) : List Nat :=
  (List.range (2 * w + 1)).map (fun k => hamming (markBits second) (bits.drop k))

/-! ### Loops (R140, R141, R144, R485) -/

/-- What the loops of a gate run with: their starting values, the freeze bits of Bench, the cell that ends acquire mode, and the
partial-response target. -/
structure LoopSetup where
  start : Adapt
  freeze : Nat
  acquire : Nat
  target : List Int

/-- A value held within limits. -/
def limitTo (lo hi x : Int) : Int := max lo (min hi x)

/-- A loop's next value, in 1/65,536 of its unit: moved by `d` inside its start value +- `r` and the range of R136. -/
def loopStep (start r lo hi old d : Int) : Int :=
  limitTo (max (start - r) lo * 65536) (min (start + r) hi * 65536) (old + d)

/-- The loops that start a gate. -/
def Adapt.loops (v : Adapt) : Loops :=
  { gain := v.gain * 65536, offset := v.offset * 65536, asym := v.asym * 65536, taps := v.taps.map (· * 65536) }

/-- The loops' final values (R145). -/
def Loops.values (l : Loops) : Adapt :=
  { gain := roundDiv l.gain 65536, offset := roundDiv l.offset 65536, asym := roundDiv l.asym 65536,
    taps := l.taps.map (fun t => roundDiv t 65536) }

/-- Gain, offset, asymmetry and timing after cell `n` of the gate (R140, R144); in a marked range the timing loop coasts and the
rest is frozen. -/
def Loops.cell (l : Loops) (g : LoopSetup) (n : Nat) (marked : Bool) (c : CellSample) : Loops :=
  if marked then { l with shift := l.shift + l.freq }
  else
    let acq := decide (n < g.acquire)
    let every := fun k : Nat => decide ((n + 1) % k = 0)
    let freq := if g.freeze.testBit 4 then l.freq
      else limitTo (-2147483) 2147483 (l.freq + c.phase * (if acq then 65536 else 4096))
    { l with
      gain := if every 4 && !g.freeze.testBit 0 then
          loopStep g.start.gain 3072 (-3072) 13312 l.gain (c.gainErr * (if acq then 2048 else 128)) else l.gain,
      offset := if every 4 && !g.freeze.testBit 1 then
          loopStep g.start.offset 1024 (-2048) 2047 l.offset (c.offsetErr * (if acq then 1024 else 64)) else l.offset,
      asym := if every 16 && !acq && !g.freeze.testBit 2 then
          loopStep g.start.asym 2048 (-8192) 8192 l.asym (c.asymErr * 16) else l.asym,
      freq := freq,
      shift := l.shift + freq + c.phase * (if acq then 2097152 else 524288) }

/-- The taps after one sign-error step on the sample window of a cell, 2^-14 per cell; tap 5 stays (R141, R144,
assumption 111). -/
def tapStep (start taps : List Int) (win : List Int) (sign : Int) : List Int :=
  (((taps.zip win).zip start).zipIdx).map (fun x =>
    if x.2 = 5 then x.1.1.1
    else limitTo (max ((x.1.2 - 8192) * 65536) (-(32768 * 65536))) (min ((x.1.2 + 8192) * 65536) (32767 * 65536))
      (x.1.1.1 + sign * x.1.1.2 * 2048))

/-- Sum of products. -/
def dot (a b : List Int) : Int := (List.zipWith (· * ·) a b).sum

/-- The 16 cell samples under the equaliser's taps at a cell: tap 5 on the cell itself, later cells on the lower taps. -/
def tapWindow (here : List CellSample) (past : List CellSample) : List Int :=
  let ahead := (here.take 6).map (fun c => c.x)
  ((List.replicate (6 - ahead.length) 0) ++ ahead.reverse) ++ (past.take 10).map (fun c => c.x)
    ++ List.replicate (10 - past.length) 0

/-- The level of a cell's tentative decision. -/
def cellLevel (c : CellSample) : Int := if c.bit then 1 else -1

/-- The equaliser and the loops over the cells of a gate from cell `n` on: the loops at its end, and the equalised samples, 8 bits
each (R135). `past` are the cells before, newest first; `due` the taps' errors of the last 24 cells, whose tentative
decisions are not out yet (R141). -/
def runLoops (g : LoopSetup) : Nat → List CellSample → List CellSample → List (List Int × Int) → List Bool → Loops →
    Loops × List Int
  | _, [], _, _, _, l => (l, [])
  | n, c :: rest, past, due, marks, l =>
    let marked := marks.headD false
    let win := tapWindow (c :: rest) past
    let y := dot l.taps win
    let want := dot g.target ((c :: past).map cellLevel) * Config.targetLevel * 65536
    let due1 := due ++ [(win, Int.sign (want - y))]
    let l1 := l.cell g n marked c
    let l2 :=
      if due1.length ≤ 24 ∨ n < g.acquire ∨ marked ∨ g.freeze.testBit 3 then l1
      else match due1 with
        | d :: _ => { l1 with taps := tapStep g.start.taps l1.taps d.1 d.2 }
        | [] => l1
    let r := runLoops g (n + 1) rest (c :: past) (if due1.length ≤ 24 then due1 else due1.drop 1) (marks.drop 1) l2
    (r.1, limitTo (-128) 127 (roundDiv y (32768 * 65536)) :: r.2)

/-- Timing slips: phase errors beyond half a cell for 16 consecutive cells, counted once in each such run (R140); `k` cells of the
run in progress. -/
def slipCount : Nat → List Int → Nat
  | _, [] => 0
  | k, e :: l =>
    if 128 < e.natAbs then (if k + 1 = 16 then 1 else 0) + slipCount (k + 1) l else slipCount 0 l

end Sys2Proof.Machine
end

