-- ==== Sys2Proof/Machine/WriteChannel.lean ====
section
/-! DEFINITION. What a lane's write encoder and serializer drive on the pair (R116, R119, R149, R151): the framed cells of a
fragment as numbers whose bit i is cell i, and the transitions that precompensation shifts. -/

namespace Sys2Proof.Machine

/-- A stretch of cells: how many, and their levels, cell i in bit i. -/
structure Cells where
  len : Nat
  bits : Nat
  deriving DecidableEq, Repr

/-- Cells after cells. -/
def Cells.append (a b : Cells) : Cells := ⟨a.len + b.len, a.bits + b.bits * 2 ^ a.len⟩

/-- `n` cells of the pattern 1, 1, 0, 0 repeated: preambles, postamble and gap (R116). -/
def patternCells : Nat → Cells
  | 0 => ⟨0, 0⟩
  | n + 1 => let r := patternCells n; ⟨n + 1, r.bits + (if n % 4 < 2 then 2 ^ n else 0)⟩

/-- The sync mark and the resync mark, first cell in bit 0 (R116). -/
def markCells (second : Bool) : Cells :=
  if second then ⟨16, revBits 16 0x6B2D 0⟩ else ⟨24, revBits 24 0xE2D4B7 0⟩

/-- Code bits `from` to `from + n - 1` of a code word, c_n in bit n. -/
def codeCells (word start n : Nat) : Cells := ⟨n, word / 2 ^ start % 2 ^ n⟩

/-- The framed cells of a fragment of a sector whose code word is `word` (R116, R119): preamble, mark, code bits, and, after the last
code bit of the sector, postamble and gap, cut at the end of the data area of `n` cells. -/
def frameCells (x : Place) (n word : Nat) (second : Bool) : Cells :=
  let f := x.fragment n second
  let b := x.first.getD 37440
  if second then
    (((patternCells 64).append (markCells true)).append (codeCells word b (37440 - b))).append (patternCells (f.areaEnd - f.codeEnd))
  else
    let head := ((patternCells 128).append (markCells false)).append (codeCells word 0 b)
    match x.first with
    | some _ => head
    | none => head.append (patternCells (f.areaEnd - f.codeEnd))

/-- The first `k` cells. -/
def Cells.cut (c : Cells) (k : Nat) : Cells := ⟨min k c.len, c.bits % 2 ^ min k c.len⟩

/-- Cells that begin with a transition, cell i in bit i. The levels before the first cell are those of an idle pair, or, when the gate
stays open over a sector boundary, the last cells of the gap (R153, assumption 114). -/
def Cells.transitions (c : Cells) (joined : Bool) : Nat × Nat :=
  let all := (if joined then 3 else 0) + c.bits * 16
  let t := (all ^^^ (all * 2)) % 2 ^ (c.len + 4)
  ((t &&& (t * 2)) / 16 % 2 ^ c.len, (t &&& (t * 4) &&& ((2 ^ (c.len + 4) - 1) ^^^ (t * 2 % 2 ^ (c.len + 4)))) / 16 % 2 ^ c.len)

/-- What the gate drives (R151): the transitions whose previous cell held one too, and those where only the cell two before did. -/
def Cells.driven (c : Cells) (addr fragment : Nat) (z : ZoneRec) (early : Nat) (joined cut : Bool) : Driven :=
  let t := c.transitions joined
  { addr := addr, fragment := fragment, len := c.len, bits := c.bits, late1 := t.1, late2 := t.2, delay1 := z.pre1, delay2 := z.pre2,
    early := early, cut := cut }

end Sys2Proof.Machine
end

