-- ==== Sys2Proof/Machine/LaneOps.lean ====
section
/-! DEFINITION. What the lanes and the media share: the zone of a track, bands and their write pointers, the defect list,
the closing of a write gate, and the delivery of a sector with its counters (04, 05, 06). -/

namespace Sys2Proof.Machine

/-- Changes the formatter of an arm. -/
def State.updFmt (s : State) (p : PackId) (a : ArmId) (f : Formatter → Formatter) : State :=
  s.updArm p a (fun x => { x with fmt := f x.fmt })

/-- Changes the channel of a lane. -/
def State.updChan (s : State) (p : PackId) (a : ArmId) (h : HeadId) (f : Channel → Channel) : State :=
  s.updLane p a h (fun l => { l with chan := f l.chan })

/-- Changes the health metrics of a lane. -/
def State.updHealth (s : State) (p : PackId) (a : ArmId) (h : HeadId) (f : Health → Health) : State :=
  s.updLane p a h (fun l => { l with health := f l.health })

/-- Changes a pack's media tables. -/
def State.updMedia (s : State) (p : PackId) (f : Media → Media) : State :=
  s.updPack p (fun k => { k with media := f k.media })

/-- The lanes of a mask, lowest first. -/
def maskLanes (m : Nat) : List HeadId := (List.finRange 16).filter (fun h => m.testBit h.val)

/-- The mask of a lane. -/
def laneBit (h : HeadId) : Nat := 2 ^ h.val

/-- Runs `f` for each lane of a mask, lowest first. -/
def State.forLanes (s : State) (m : Nat) (f : State → HeadId → State) : State := (maskLanes m).foldl f s

/-! ### Angles (R33 to R37) -/

/-- Pack AngleTime minus O_a (R34). -/
def State.armAngle (s : State) (p : PackId) (a : ArmId) : AngleTime :=
  s.packs[p].tb.angle - BitVec.ofNat 40 (s.arm p a).servo.angleOffset

/-- Lane-local time: arm-local time minus S_h (R34). -/
def State.laneAngle (s : State) (p : PackId) (a : ArmId) (h : HeadId) : AngleTime :=
  s.armAngle p a - BitVec.ofInt 40 (s.lane p a h).skew

/-- The time base is Locked or Coast. -/
def State.tbUsable (s : State) (p : PackId) : Bool := s.packs[p].tb.state = .locked || s.packs[p].tb.state = .coast

/-- RU to ns at the measured revolution period, and ns to RU (R33). -/
def State.ruToNs (s : State) (p : PackId) (ru : Nat) : Nat := ru * s.packs[p].tb.revPeriod / 2 ^ 28 / 100
def State.nsToRu (s : State) (p : PackId) (ns : Nat) : Nat := ns * 2 ^ 28 * 100 / max s.packs[p].tb.revPeriod 1

/-- The first time at or after `start` at which the position `pos` of the revolution passes. -/
def nextPass (start : AngleTime) (pos : Nat) : AngleTime :=
  start + BitVec.ofNat 40 ((pos % 2 ^ 28 + 2 ^ 28 - start.toNat % 2 ^ 28) % 2 ^ 28)

/-- A scheduled time has come: an edge fires at or after its angle (R36, R37, R52). -/
def angleReached (target now : AngleTime) : Bool := !laterMod 40 target.toNat now.toNat

/-! ### Zones of tracks -/

/-- Geometry of a surface (R69). -/
def Pack.geometry (k : Pack) (s : Nat) : Surface :=
  match k.factory with
  | some f => f.surfaces.getD s {}
  | none => {}

/-- The system format as a record, with the seeds of a coefficient set (R117, R454). Its track skew is 0 (assumption
8). -/
def systemRec (c : List (Nat × Nat)) : ZoneRec :=
  { cells := systemCells, sectors := systemSectors, gain := coefInt c 0x2B 1, offset := coefInt c 0x2B 2,
    asym := coefInt c 0x2B 3, cutoff := coefAt c 0x2B 4, boost := coefAt c 0x2B 5,
    taps := (List.range 16).map (fun i => coefInt c 0x2C (i + 1)), pre1 := coefAt c 0x2B 6, pre2 := coefAt c 0x2B 7 }

/-- The zone and record of a track on a surface; zone 255 stands for the system format; none outside both areas or while
no table is loaded (R105, R106). -/
def Pack.trackZone (k : Pack) (c : List (Nat × Nat)) (surface track : Nat) : Option (Nat × ZoneRec) :=
  let g := k.geometry surface
  if track < g.firstData then some (255, systemRec c)
  else if track ≤ g.lastData then
    match k.media.zones with
    | some t => some (t.zoneOf surface track, t.record surface (t.zoneOf surface track))
    | none => none
  else none

/-- The same with the coefficients of the arm that reaches it. -/
def State.trackZone (s : State) (p : PackId) (a : ArmId) (h : HeadId) (track : Nat) : Option (Nat × ZoneRec) :=
  s.packs[p].trackZone (s.arm p a).servo.coef h.val track

/-- Where a sector of a track lies (R119). -/
def State.place (s : State) (p : PackId) (a : ArmId) (h : HeadId) (addr : Nat) : Option Place :=
  match s.trackZone p a h (addrTrack addr) with
  | some (_, z) => (walk z.cells z.sectors)[addrSector addr]?
  | none => none

/-- The sector is recorded in two fragments (R119). -/
def State.isSplit (s : State) (p : PackId) (a : ArmId) (h : HeadId) (addr : Nat) : Bool :=
  match s.place p a h addr with
  | some x => x.first.isSome
  | none => false

/-- Where the gates of a fragment of a sector lie (R117 to R119, R153): the zone, its record, the sector's place, and as positions of the
revolution the first cell, the read gate's close and the write gate's close. -/
structure GatePlan where
  zone : Nat
  zrec : ZoneRec
  place : Place
  first : Nat
  readEnd : Nat
  writeEnd : Nat

/-- The gates of a sector's first or second fragment on a lane. -/
def State.gatePlan (s : State) (p : PackId) (a : ArmId) (h : HeadId) (addr : Nat) (second : Bool) : Option GatePlan :=
  match s.trackZone p a h (addrTrack addr), s.place p a h addr with
  | some (zone, z), some x =>
    let f := x.fragment (dataCells z.cells) second
    let w := physWedge (startWedge (addrTrack addr) z.skew) f.wedge
    some { zone := zone, zrec := z, place := x, first := cellAngle z.cells w f.cell, readEnd := cellAngle z.cells w (f.codeEnd + 4),
           writeEnd := cellAngle z.cells w f.areaEnd }
  | _, _ => none

/-- The lane's servo window stands open (R153). -/
def State.servoOpen (s : State) (p : PackId) (a : ArmId) (h : HeadId) : Bool :=
  match (s.lane p a h).chan.servoUntil with
  | some t => !angleReached t (s.laneAngle p a h)
  | none => false

/-- The lane holds its pair idle around a wedge reference point, from -17,920 RU to +16,384 RU of lane-local time (R109). -/
def State.inProtect (s : State) (p : PackId) (a : ArmId) (h : HeadId) : Bool :=
  let x := (s.laneAngle p a h).toNat % 2 ^ 19
  decide (x < protectTo ∨ 2 ^ 19 - protectFrom ≤ x)

/-! ### Bands and defects -/

/-- The band slot of a data track and its track offset (R127). -/
def bandSlot (g : Surface) (track : Nat) : Nat × Nat := ((track - g.firstData) / 1024, (track - g.firstData) % 1024)

/-- A slot is the partial last slot of its surface (R127). -/
def partialSlot (g : Surface) (slot : Nat) : Bool := g.lastData + 1 < g.firstData + 1024 * (slot + 1)

/-- A band slot; one that is not listed is a fresh sequential slot, and a partial last slot is always Random (R127,
assumption 9). -/
def Pack.band (k : Pack) (surface slot : Nat) : Band :=
  let b := (k.media.bands.find? (fun b => b.surface = surface ∧ b.slot = slot)).getD { surface := surface, slot := slot }
  if partialSlot (k.geometry surface) slot then { b with type := .random } else b

/-- Replaces a band slot. -/
def Media.putBand (m : Media) (b : Band) : Media :=
  { m with bands := m.bands.filter (fun x => ¬(x.surface = b.surface ∧ x.slot = b.slot)) ++ [b] }

/-- The entry lists the sector at (surface, track, sector) (R131). -/
def defectCovers (e surface track sector : Nat) : Bool :=
  addrSurface e == surface && addrTrack e == track && (defectType e == 2 || addrSector e == sector)

/-- The sector is listed by an entry that applies there: in a sequential band only entries older than its last reset
(R133). -/
def Pack.listed (k : Pack) (surface track sector : Nat) : Bool :=
  let g := k.geometry surface
  let b := k.band surface (bandSlot g track).1
  let seqBand : Bool := decide (g.firstData ≤ track) && b.type = .sequential
  k.media.defects.any (fun e => defectCovers e surface track sector && (!seqBand || decide (defectSeq e < b.listSeq)))

/-- The place after (track, sector) in a band whose tracks hold `n` sectors. -/
def bandNext (n track sector : Nat) : Nat × Nat := if n ≤ sector + 1 then (track + 1, 0) else (track, sector + 1)

/-- A read or a write of a run skips the sector (R133): in a sequential band every listed one, where no band shifts its sectors only a write. -/
def Pack.skips (k : Pack) (write : Bool) (surface track sector : Nat) : Bool :=
  let g := k.geometry surface
  let seqBand : Bool := decide (g.firstData ≤ track) && (k.band surface (bandSlot g track).1).type = .sequential
  (write || seqBand) && k.listed surface track sector

/-- Moves a write pointer past listed sectors (R133), at most `fuel` of them. -/
def Pack.passListed (k : Pack) (surface first n : Nat) : Nat → Nat × Nat → Nat × Nat
  | 0, x => x
  | fuel + 1, x =>
    if k.listed surface (first + x.1) x.2 then k.passListed surface first n fuel (bandNext n x.1 x.2) else x

/-- First track of a band slot. -/
def Pack.bandTrack (k : Pack) (b : Nat) : Nat := (k.geometry 0).firstData + 1024 * b

/-- G_b: the least sectors per track over the zones that a band slot meets on any surface, by 16 (R310). -/
def Pack.bandG (k : Pack) (b : Nat) : Nat :=
  match k.media.zones with
  | none => 0
  | some t =>
    let lo := k.bandTrack b
    let counts := ((List.range 16).map (fun f => (List.range t.zones).filterMap (fun z =>
      let r := t.record f z
      let next := if z + 1 < t.zones then (t.record f (z + 1)).first else lo + 1024
      if r.first < lo + 1024 ∧ lo < next then some r.sectors else none))).flatten
    match counts with
    | [] => 0
    | c :: l => l.foldl min c / 16

/-- Moves the write pointer of a band slot of a surface from `x` past what is never written there: listed sectors (R133) and the sectors
beyond 16 * G_b of a track (R310). -/
def Pack.settlePointer (k : Pack) (surface slot : Nat) (x : Nat × Nat) : Nat × Nat :=
  let n := 16 * k.bandG slot
  k.passListed surface ((k.geometry surface).firstData + 1024 * slot) n (2048 * k.media.defects.length) (if n ≤ x.2 then (x.1 + 1, 0) else x)

/-- A sector of a sequential band counts as written: its pointer passes it and what is never written behind it (R128, R133, R310). -/
def State.passPointer (s : State) (p : PackId) (h : HeadId) (addr : Nat) : State :=
  let k := s.packs[p]
  let g := k.geometry h.val
  let t := addrTrack addr
  if t < g.firstData then s
  else
    let (slot, off) := bandSlot g t
    let b := k.band h.val slot
    if b.type = .sequential then
      let q := k.settlePointer h.val slot (off, addrSector addr + 1)
      s.updMedia p (fun m => m.putBand { b with track := q.1, sector := q.2 })
    else s

/-- A track that only the factory writes: one that the locator names, or the reference track (R69, R126). -/
def Pack.factoryTrack (k : Pack) (surface track : Nat) : Bool :=
  match k.factory with
  | some f =>
    (f.location0 / 2 ^ 20 % 16 == surface && f.location0 % 2 ^ 20 == track)
      || (f.location1 / 2 ^ 20 % 16 == surface && f.location1 % 2 ^ 20 == track)
      || track == (k.geometry surface).reference
  | none => false

/-- A track inward of the data area (R105). -/
def Surface.innerGuard (g : Surface) (track : Nat) : Bool := decide (g.lastData < track ∧ track < g.tracks)

/-- A write at an address is refused by R130 with outcome band order: guard tracks, the factory's tracks, an odd system-area track
outside R483's permission, and what the band's type and write pointer forbid. -/
def State.bandRefuses (s : State) (p : PackId) (h : HeadId) (track sector : Nat) : Bool :=
  let k := s.packs[p]
  let g := k.geometry h.val
  if track < g.firstData then
    decide (track < 16) || k.factoryTrack h.val track
      || (track % 2 = 1 && !(s.dev.state = .bench && s.param 0xF000 1 = 1))
  else if g.innerGuard track then true
  else
    let (slot, off) := bandSlot g track
    let b := k.band h.val slot
    match b.type with
    | .retired => true
    | .random => off % 2 = 1
    | .sequential => decide (1020 ≤ off) || !(decide (b.track = off) && decide (b.sector = sector))

/-- A write of `n` sectors from `sector` on is refused by R130: each that is not skipped must be allowed where it stands, in a sequential band at
the write pointer as the sectors before it have moved it (R128, R133). -/
def State.runRefused (s : State) (p : PackId) (h : HeadId) (track : Nat) : Nat → Nat → Bool
  | _, 0 => false
  | sector, n + 1 =>
    if s.packs[p].skips true h.val track sector then s.runRefused p h track (sector + 1) n
    else s.bandRefuses p h track sector
      || (s.passPointer p h (mkAddr p.val h.val track sector)).runRefused p h track (sector + 1) n

/-- The type code of a band slot (R127). -/
def BandType.code : BandType → Nat
  | .sequential => 0
  | .random => 1
  | .retired => 2

/-- The band slots go to the pack metadata (R127, R133). -/
def State.recordBands (s : State) (p : PackId) : State :=
  s.send (.bands p.val (s.packs[p].media.bands.map (fun b => ⟨b.surface, b.slot, b.type.code, b.track, b.sector, b.listSeq⟩)))

/-- Puts a defect entry into the list, sorted by address (R131, R132). -/
def insertDefect (e : Nat) : List Nat → List Nat
  | [] => [e]
  | x :: l => if defectAddr e ≤ defectAddr x then e :: x :: l else x :: insertDefect e l

/-- The surfaces that hold zone table copies (R69, R126). -/
def Pack.tableSurfaces (k : Pack) : List Nat :=
  match k.factory with
  | some f => [f.location0 / 2 ^ 20 % 16, f.location1 / 2 ^ 20 % 16]
  | none => []

/-- Both copies of the defect list are written, at track 64 of the surfaces that hold zone table copies (R132, R133). -/
def State.writeDefects (s : State) (p : PackId) : State :=
  let k := s.packs[p]
  k.tableSurfaces.foldl (fun s f => s.send (.defectList p.val f 64 (defectListBytes k.media.listSeq k.media.defects))) s

/-- A grown entry of `type` is added with the list sequence as it stood (DESIGN CHOICE: log entry 108); the sequence then
increments and both copies are written. A full list records nothing and raises the pack's condition fault (R132, R133). -/
def State.addDefect (s : State) (p : PackId) (type addr : Nat) : State :=
  let m := s.packs[p].media
  if 65536 ≤ m.defects.length then s.raisePack p 2
  else
    let e := addr % 2 ^ 35 + type * 2 ^ 35 + m.listSeq * 2 ^ 37
    ((s.updMedia p (fun m => { m with listSeq := m.listSeq + 1, defects := insertDefect e m.defects })).writeDefects p).record
      { type := 0x23, pack := p.val, code := type, detail := detailAt 0x24 e }

/-- Sectors of one track that have grown entries (R190). -/
def Media.grownOn (m : Media) (surface track : Nat) : Nat :=
  ((m.defects.filter (fun e => defectType e = 1 && addrSurface e == surface && addrTrack e == track)).map addrSector).eraseDups.length

/-- A grown sector is listed, and with 16 of them its whole track (R189, R190). -/
def State.growDefect (s : State) (p : PackId) (addr : Nat) : State :=
  let s1 := s.addDefect p 1 addr
  let m := s1.packs[p].media
  let whole := m.defects.any (fun e => defectType e = 2 && addrSurface e == addrSurface addr && addrTrack e == addrTrack addr)
  if 16 ≤ m.grownOn (addrSurface addr) (addrTrack addr) ∧ ¬ whole then
    s1.addDefect p 2 (addr - addrSector addr)
  else s1

/-! ### Lane quality -/

/-- Power level code of a lane (R160). -/
def LanePower.code : LanePower → Nat
  | .off => 0 | .servoOnly => 1 | .idle => 2 | .reading => 3 | .writing => 4

/-- The lane is Active (R160). -/
def LanePower.active : LanePower → Bool
  | .idle | .reading | .writing => true
  | _ => false

/-- Active lanes of an arm. -/
def Arm.activeLanes (x : Arm) : Nat := (x.lanes.toList.filter (fun l => l.chan.power.active)).length

/-- Sets a lane's quality status: an event record at each change, and the faults of Marginal and Poor (R165). -/
def State.setQuality (s : State) (p : PackId) (a : ArmId) (h : HeadId) (q : Nat) : State :=
  let old := (s.lane p a h).health.quality
  if old = q then s
  else
    let s1 := (s.updHealth p a h (fun x => { x with quality := q })).record
      { type := 0x22, pack := p.val, lane := laneSub a h, code := q,
        detail := detailAt 0x24 (lowBits 16 (s.lane p a h).health.snr) + detailAt 0x26 old }
    if q = 2 then s1.raiseLane p a h 0 else if q = 3 then s1.raiseLane p a h 1 else s1

/-- The quality status that the SNR estimate gives (R165); Removed and Poor stay until the arm next loads. -/
def State.assessLane (s : State) (p : PackId) (a : ArmId) (h : HeadId) : State :=
  let x := (s.lane p a h).health
  if x.quality = 4 then s
  else if x.snrCount < 256 then s
  else
    let q := if s.packParam p 0x09 6 ≤ x.snr then 1 else if s.packParam p 0x09 7 ≤ x.snr then 2 else 3
    if x.quality = 3 then s else s.setQuality p a h q

/-- A running mean with weight 1/256 (R164); the first sector sets it (assumption 7). -/
def mean256 (first : Bool) (old x : Int) : Int := if first then x else old + roundDiv (x - old) 256

/-! ### Deliveries -/

/-- The SNR and the iterations of a first decode that succeeded enter a lane's means (R164). -/
def Health.learn (x : Health) (e : SectorEnd) : Health :=
  match e.snr with
  | some v => { x with snr := mean256 (!x.seen) x.snr v,
                       iterations := (mean256 (!x.seen) x.iterations (e.iter * 256)).toNat,
                       seen := true, snrCount := x.snrCount + 1 }
  | none => x

/-- What the defect detector and the timing loop count in a read of the lane (R164). -/
def Health.sawRead (x : Health) (marked slips : Nat) : Health :=
  { x with marked := sat32 x.marked marked, slips := sat32 x.slips slips }

/-- The counters of a sector's end (R164, R185, R191). -/
def Health.count (x : Health) (e : SectorEnd) : Health :=
  Health.learn { x with
    read := if e.outcome < 0x20 then sat64 x.read 1 else x.read,
    recovered := if e.outcome = 1 then sat32 x.recovered 1 else x.recovered,
    unrecovered := if 0x10 ≤ e.outcome ∧ e.outcome ≤ 0x15 then sat32 x.unrecovered 1 else x.unrecovered,
    shifted := if e.outcome = 1 ∧ e.method = 2 then sat32 x.shifted 1 else x.shifted,
    lastShift := if e.outcome = 1 ∧ e.method = 2 then e.shiftField else x.lastShift,
    status := e.word } e

/-- The pack's recovery counters for a sector's end (R191): a method 2 recovery counts at the shift of the fragment that was shifted (DEDUCED:
log entry 146). -/
def Media.count (m : Media) (e : SectorEnd) : Media :=
  { m with
    recovered := if h : e.outcome = 1 ∧ e.step < 7 then m.recovered.set e.step (sat32 m.recovered[e.step] 1) h.2 else m.recovered,
    unrecovered := if 0x10 ≤ e.outcome ∧ e.outcome ≤ 0x12 then sat32 m.unrecovered 1 else m.unrecovered,
    tornReads := if e.outcome = 0x14 then sat32 m.tornReads 1 else m.tornReads,
    misplaced := if e.outcome = 0x13 then sat32 m.misplaced 1 else m.misplaced,
    blank := if e.outcome = 0x15 then sat32 m.blank 1 else m.blank,
    flywheel := if e.flywheel ∧ e.outcome < 0x20 then sat32 m.flywheel 1 else m.flywheel,
    shifts := if e.outcome = 1 ∧ e.method = 2 then
        let i := (e.moved + 4).toNat
        if h : i < 9 then m.shifts.set i (sat32 m.shifts[i] 1) h else m.shifts
      else m.shifts }

/-- A tile's die-to-die link carries deliveries and completions to the hub: in service, and no fail-over under way (R23 to R25). -/
def State.hubTakes (s : State) (p : PackId) : Bool :=
  let t := s.tiles[tileOf p]
  t.linkUp && !t.orphaned && s.clusters.failOver.isNone

/-- What the hub does with what it receives from a tile: it keeps a delivery with its routine, but for a sector whose tag is malformed (R14), and
at the completion record drops those of another restart count (R207). -/
def Arm.hubGets (x : Arm) : Out → Arm
  | .sector _ _ h tag restart status data =>
    if data = [] ∨ tagLegal data then { x with received := x.received ++ [⟨h, tag, restart, status, data⟩] } else x
  | .completion _ _ r =>
    { x with received := x.received.filter (fun d => d.tag ≠ fieldAt r 0 4 ∨ d.restart % 256 = fieldAt r 5 1) }
  | _ => x

/-- The hub receives a message of an arm's tile. -/
def State.hubGets (s : State) (p : PackId) (a : ArmId) (o : Out) : State := (s.send o).updArm p a (fun x => x.hubGets o)

/-- What a tile sends to the hub; while the link does not take it, it is held in the tile (R24, R25). -/
def State.toHub (s : State) (p : PackId) (a : ArmId) (o : Out) : State :=
  if s.hubTakes p then s.hubGets p a o else { s with tileHeld := s.tileHeld ++ [(p, a, o)] }

/-- What the tiles held goes to the hub, oldest first, once the links take it again (R25). -/
def State.releaseTiles (s : State) : State :=
  let go := fun x : PackId × ArmId × Out => s.hubTakes x.1
  (s.tileHeld.filter go).foldl (fun s x => s.hubGets x.1 x.2.1 x.2.2) { s with tileHeld := s.tileHeld.filter (fun x => !go x) }

/-- The sector belongs to the routine in progress, as it was last started. -/
def Formatter.owns (f : Formatter) (e : SectorEnd) : Bool :=
  f.running && e.tag == fieldAt f.req 4 4 && e.restart == f.restarts

/-- Sends a sector's end to the hub: bytes only with a good outcome of a read, otherwise the status word alone; counters
and lane quality follow (R148, R165, R185). A lane on which a sector of the routine ends otherwise than good is noted for R209. -/
def State.deliverEnd (s : State) (p : PackId) (a : ArmId) (h : HeadId) (e : SectorEnd) : State :=
  let s1 := (((s.updHealth p a h (fun x => x.count e)).updMedia p (fun m => m.count e)).toHub p a
    (.sector p.val a.val h.val e.tag e.restart e.word (if e.good && !e.verify then e.data else [])))
  let s2 := if e.good || !(s.arm p a).fmt.owns e then s1
    else s1.updFmt p a (fun f => { f with badLanes := f.badLanes ||| laneBit h })
  if e.outcome < 0x20 then s2.assessLane p a h else s2

/-- Delivers everything a lane has waiting (R210: before the completion record). -/
def State.deliverAll (s : State) (p : PackId) (a : ArmId) (h : HeadId) : State :=
  ((s.lane p a h).chan.ends).foldl (fun s e => s.deliverEnd p a h e) (s.updChan p a h (fun c => { c with ends := [] }))

/-! ### Write gates -/

/-- The next sector of the lane's run has been dealt with; a lane whose count is reached ends its run. -/
def Run.advance (r : Run) (good : Bool) : Run :=
  { r with done := r.done + 1, good := r.good + (if good then 1 else 0), ended := r.ended || decide (r.count ≤ r.done + 1) }

/-- Changes the first writing, or reading, run of a lane that has not ended. -/
def updRun (h : HeadId) (write : Bool) (f : Run → Run) : List Run → List Run
  | [] => []
  | r :: l => if r.lane = h ∧ decide (r.type = 1) = write ∧ ¬ r.ended then f r :: l else r :: updRun h write f l

/-- The writing, or reading, run of a lane in progress. Runs of one kind on a lane follow one another, while those of different kinds meet at
their gates (R155, R202; DEDUCED: log entry 147). -/
def Formatter.run (f : Formatter) (h : HeadId) (write : Bool) : Option Run :=
  f.runs.find? (fun r => r.lane = h && decide (r.type = 1) == write && !r.ended)

/-- The suspects go to the pack metadata (R190). -/
def State.saveSuspects (s : State) (p : PackId) : State :=
  s.send (.suspects p.val (s.packs[p].media.suspects.map (fun x => (x.addr, x.rewritten))))

/-- A sector of the suspect list has been written, which the pack metadata records (R190). -/
def State.noteWritten (s : State) (p : PackId) (addr : Nat) : State :=
  if s.packs[p].media.suspects.any (fun x => x.addr = addr ∧ ¬ x.rewritten) then
    (s.updMedia p (fun m =>
      { m with suspects := m.suspects.map (fun x => if x.addr = addr then { x with rewritten := true } else x) })).saveSuspects p
  else s

/-- The code word that a lane writes for a sector: its data from the write buffer, all zeros under underrun (R149, R150). -/
def Channel.writeWord (c : Channel) (w : Writing) : Nat :=
  if w.underrun then 0
  else sectorCode w.addr ((c.wbuf.find? (fun b => b.addr = w.addr)).map (fun b => b.data) |>.getD [])

/-- Cells that have passed since a lane's gate opened, at its zone's cell rate (R117). -/
def State.cellsPassed (s : State) (p : PackId) (a : ArmId) (h : HeadId) (cells : Nat) : Nat :=
  (s.laneAngle p a h - (s.lane p a h).chan.gateFrom).toNat * cells / 2 ^ 28

/-- What a lane's pair carries for a fragment of a sector with its code word, up to now when the write is cut (R116, R149, R151). -/
def State.driven (s : State) (p : PackId) (a : ArmId) (h : HeadId) (addr word : Nat) (second joined cut : Bool) : Option Driven :=
  match s.trackZone p a h (addrTrack addr), s.place p a h addr with
  | some (_, z), some x =>
    let f := frameCells x (dataCells z.cells) word second
    some ((if cut then f.cut (s.cellsPassed p a h z.cells) else f).driven addr (if second then 1 else 0) z
      (coefAt (s.arm p a).servo.coef 0x2A (1 + a.val)) joined cut)
  | _, _ => none

/-- What the open write gate has driven leaves on the pair (R149, R151 to R153). -/
def State.drive (s : State) (p : PackId) (a : ArmId) (h : HeadId) (cut : Bool) : State :=
  let c := (s.lane p a h).chan
  match c.writing with
  | none => s
  | some w =>
    if ¬ w.isOpen then s
    else match s.driven p a h w.addr (c.writeWord w) (decide (0 < w.closed)) w.joined cut with
      | some d => s.send (.media p.val a.val h.val d)
      | none => s

/-- A lane's write gate has closed on a sector: it counts as written, torn or not (R74, R128, R164); a torn sector is
reported (R187). The lane's pair is idle and the lane stays Active. -/
def State.closeWrite (s0 : State) (p : PackId) (a : ArmId) (h : HeadId) (torn : Bool) : State :=
  match (s0.lane p a h).chan.writing with
  | none => s0
  | some w =>
    let t := torn || w.torn
    let i : Fin 32 := ⟨a.val * 16 + h.val, by omega⟩
    let s := s0.drive p a h torn
    let s1 := (s.updChan p a h (fun c =>
        { c with writing := none, power := if c.power = .writing then .idle else c.power })).updHealth p a h
      (fun x => { x with written := sat64 x.written 1 })
    let s2 := (s1.updPack p (fun k => { k with life := { k.life with
      heads := k.life.heads.set i { k.life.heads[i] with bytes := sat64 k.life.heads[i].bytes 4096 } } })).passPointer p h w.addr
    let s3 := (s2.noteWritten p w.addr).updFmt p a (fun f =>
      if w.orphan then f
      else { f with runs := updRun h true (fun r => r.advance (!t)) f.runs, torn := if t then f.torn ||| laneBit h else f.torn })
    let s5 := s3.updChan p a h (fun c => { c with wbuf := c.wbuf.filter (fun b => b.addr ≠ w.addr) })
    if t then s5.send (.torn p.val a.val h.val w.addr) else s5

/-- A lane's write gate is open (R153). -/
def Channel.writeOpen (c : Channel) : Bool := match c.writing with | some w => w.isOpen | none => false

/-- The least group of some runs. -/
def leastGroup (l : List Run) : Option Nat :=
  match l.map (fun r => r.group) with
  | [] => none
  | g :: l => some (l.foldl min g)

/-- The write group whose turn it is: the least among those that have not ended (R159). -/
def Formatter.turn (f : Formatter) : Option Nat := leastGroup (f.runs.filter (fun r => r.type = 1 && !r.ended))

/-- It is a reading run's turn: its group is the least of its own XFER that has not ended; other XFERs go on beside it (R159, R202). -/
def Formatter.readTurn (f : Formatter) (r : Run) : Bool :=
  leastGroup (f.runs.filter (fun x => x.type ≠ 1 && !x.ended && x.xfer = r.xfer)) == some r.group

/-- The lanes of the write group whose turn it is. -/
def Formatter.turnLanes (f : Formatter) : Nat :=
  match f.turn with
  | none => 0
  | some g => (f.runs.filter (fun r => r.type = 1 && !r.ended && r.group = g)).foldl (fun m r => m ||| 2 ^ r.lane.val) 0

/-- Sends WRITE_ARM for the group whose turn it is; after the last group an empty mask (R157, R159, R203). -/
def State.armTurn (s : State) (p : PackId) (a : ArmId) : State :=
  let m := (s.arm p a).fmt.turnLanes
  if m = 0 then s.disarm p a
  else if m = (s.arm p a).servo.armedSent then s
  else s.sendCmd p a 2 m

/-- A lane of the arm has its write gate open, or stands between the fragments of a sector. -/
def Arm.writing (x : Arm) : Bool := x.lanes.any (fun l => l.chan.writing.isSome)

/-- After the last gate of a write group the next group is armed, after the last group none (R157, R159). -/
def State.afterGates (s : State) (p : PackId) (a : ArmId) : State :=
  if (s.arm p a).writing then s
  else if (s.arm p a).fmt.running then s.armTurn p a
  else s.disarm p a

/-- The lanes of `m` write no further sector in the routine: an open gate closes with its sector torn, and the lane's share of the writes is
marked incomplete (R150, R156, R206). A lane with no write of the routine under way or left is not concerned: each SEEK asserts the inhibit of
every head ahead of the routine's writes (R253). -/
def State.barWrites (s : State) (p : PackId) (a : ArmId) (m : Nat) : State :=
  let due := fun (s : State) (h : HeadId) =>
    (s.lane p a h).chan.writing.isSome || (s.arm p a).fmt.runs.any (fun r => r.lane = h && r.type = 1 && !r.ended)
  let lanes := (maskLanes m).filter (due s)
  let s1 := lanes.foldl (fun s h =>
    ((s.closeWrite p a h true).updChan p a h (fun c => { c with noMoreWrites := true })).updFmt p a (fun f =>
      { f with incomplete := f.incomplete ||| laneBit h,
               runs := f.runs.map (fun r => if r.lane = h ∧ r.type = 1 then { r with ended := true } else r) })) s
  if lanes = [] then s else s1.afterGates p a

/-- The other arm of a pack. -/
def otherArm (a : ArmId) : ArmId := if a = 0 then 1 else 0

/-- Every lane of an arm takes its write pair to idle; open sectors are torn (R86, R259, R266). -/
def State.idleWrites (s : State) (p : PackId) (a : ArmId) : State :=
  s.forLanes 0xFFFF (fun s h => s.closeWrite p a h true)

/-- Closes a lane's read gate and discards the sector being read (R206). -/
def Channel.dropRead (c : Channel) : Channel :=
  { c with readOpen := false,
           power := if c.power = .reading then .idle else c.power,
           store := c.store.filter (fun r => r.phase ≠ .reading) }

end Sys2Proof.Machine
end

