-- ==== Sys2Proof/Machine/LeafSlots.lean ====
section
/-! DEFINITION. Leaf slots of packs (R310, R311, R313), and the arms that take new leaves (R314). -/

namespace Sys2Proof.Machine

/-- Bytes of a leaf. -/
def leafBytes : Nat := 1048576

/-- Data tracks of a surface (R127). -/
def Pack.dataTracks (k : Pack) : Nat := (k.geometry 0).lastData + 1 - (k.geometry 0).firstData

/-- Band slots of a pack that hold leaves: the whole slots of type Sequential. -/
def Pack.leafBands (k : Pack) : List Nat :=
  (List.range (k.dataTracks / 1024)).filter (fun b => (k.band 0 b).type = .sequential)

/-- Leaf slots of a Sequential band slot. -/
def Pack.bandLeaves (k : Pack) (b : Nat) : Nat := 1020 * k.bandG b

/-- Track and first sector of a leaf slot (R310). -/
def Pack.leafPlace (k : Pack) (b i : Nat) : Nat × Nat :=
  (k.bandTrack b + i / max (k.bandG b) 1, 16 * (i % max (k.bandG b) 1))

/-- One of the leaf slot's sectors is named by a defect list entry that applies to the band (R311). -/
def Pack.leafBad (k : Pack) (b i : Nat) : Bool :=
  let (t, f) := k.leafPlace b i
  k.media.defects.any (fun e => addrTrack e == t && (defectType e == 2 || decide (f ≤ addrSector e ∧ addrSector e < f + 16))
    && k.listed (addrSurface e) t (if defectType e = 2 then f else addrSector e))

/-- The first allocatable leaf slot of a band at or after `i`. -/
def Pack.nextSlot (k : Pack) (b : Nat) : Nat → Nat → Option Nat
  | 0, _ => none
  | fuel + 1, i => if k.bandLeaves b ≤ i then none else if k.leafBad b i then k.nextSlot b fuel (i + 1) else some i

/-- The next leaf slot of a band in use. -/
def Span.useOf (x : Span) (p b : Nat) : Nat :=
  match x.bands.find? (fun u => u.pack = p ∧ u.band = b) with
  | some u => u.next
  | none => 0

/-- A pack by number. -/
def State.pack? (s : State) (p : Nat) : Option Pack := if h : p < 32 then some s.packs[p] else none

/-- Leaf slot count L_p of a pack (R313). -/
def Pack.leafCount (k : Pack) : Nat := (k.leafBands.map k.bandLeaves).foldl (· + ·) 0

/-- Free leaf slots of a pack; slots excluded by R311 are none of them. -/
def State.freeLeaves (s : State) (x : Span) (p : Nat) : Nat :=
  match s.pack? p with
  | none => 0
  | some k =>
    let bad := fun b => ((List.range (k.bandLeaves b)).filter (fun i => decide (x.useOf p b ≤ i) && k.leafBad b i)).length
    (k.leafBands.map (fun b => k.bandLeaves b - x.useOf p b - (if k.media.defects.isEmpty then 0 else bad b))).foldl (· + ·) 0

/-- Modes 1 to 5: a park request reaches the arm (R250, R261). -/
def ArmMode.parkable : ArmMode → Bool
  | .loading | .searching | .following | .seeking | .settling => true
  | _ => false

/-- Modes 1 to 6: a Gale trigger takes the arm (R250); the arm is loaded or on its way. -/
def ArmMode.loaded (m : ArmMode) : Bool := m.parkable || m = .parking

/-- The arm takes new leaves: loaded, every lane in service and none Poor or Removed, its formatter not in fault state (R166,
R221, R314, R480). -/
def Arm.takesLeaves (x : Arm) : Bool := x.servo.mode.loaded && !x.fmt.fault && x.lanes.all (fun l => l.health.quality != 3 && l.health.quality != 4)

end Sys2Proof.Machine
end

