-- ==== Sys2Proof/Machine/SpanWatch.lean ====
section
/-! DEFINITION. Spans as the states of their packs make them (R331, R334, R337, R338, R340), the journal packs, and the store's
opening; the record of a device state change (R525, R553). -/

namespace Sys2Proof.Machine

/-! ### Device state -/

/-- The device changes its state (R525): Lee form and cause are kept only in Lee (R539), and the change is recorded (R553). -/
def State.setDevState (s : State) (d : DevState) (form cause : Nat) : State :=
  let s1 := { s with dev := { s.dev with state := d, leeForm := form, leeCause := cause } }
  s1.record { type := 0x10, code := d.code * 256 + s.dev.state.code,
              detail := detailAt 0x24 cause + detailAt 0x25 s.dev.startFail + detailAt 0x26 form }

/-! ### Packs of a span -/

/-- Changes a span. -/
def State.updSpan (s : State) (x : SpanId) (f : Span → Span) : State :=
  { s with store := { s.store with spans := s.store.spans.set x.val (f s.store.spans[x]) x.isLt } }

/-- Changes the store. -/
def State.updStore (s : State) (f : Store → Store) : State := { s with store := f s.store }

/-- The span a pack is a member of (R312). -/
def State.spanOf (s : State) (p : PackId) : Option SpanId :=
  (List.finRange 8).find? (fun x : Fin 8 => s.store.spans[x].configured && s.store.spans[x].members.testBit p.val)

/-- The pack is a span member. -/
def State.inSpan (s : State) (p : PackId) : Bool := (s.spanOf p).isSome

/-- State of a pack by number. -/
def State.packState (s : State) (p : Nat) : PackState := if h : p < 32 then s.packs[p].state else .absent

/-- The pack now seated is the member that the span knows (R340). -/
def State.sameMember (s : State) (x : Span) (p : Nat) : Bool :=
  match x.ids.lookup p with
  | none => true
  | some u => if h : p < 32 then (match s.packs[p].identity with | some i => i.uniqueId == u | none => false) else false

/-- The leaves on a pack can be read (R337). -/
def State.packReads (s : State) (x : Span) (p : Nat) : Bool :=
  (match s.packState p with | .ready => true | .draining => true | .spent => true | _ => false) && s.sameMember x p

/-- Members of a span. -/
def Span.packs (x : Span) : List Nat := (List.range 32).filter (fun p => x.members.testBit p)

/-- Leaves of a stripe that are unreadable: on media, on a pack that does not read (R337). -/
def State.lostLeaves (s : State) (x : Span) (t : Stripe) : Nat :=
  (t.locs.filter (fun l => match l with | some v => !s.packReads x v.pack | none => false)).length

/-- Stripes that belong to a live version. -/
def Span.live (x : Span) : List Stripe := x.stripes.filter (fun t => t.state ≠ .dead && t.state ≠ .free)

/-- U of a span (R337). -/
def State.unreadable (s : State) (x : Span) : Nat := (x.live.map (s.lostLeaves x)).foldl max 0

/-- Leaves that a pack holds of a stripe. -/
def Stripe.on (t : Stripe) (p : Nat) : Nat := (t.locs.filter (fun l => match l with | some v => v.pack = p | none => false)).length

/-- Inserts a number into a falling list. -/
def insertDown (n : Nat) : List Nat → List Nat
  | [] => [n]
  | x :: l => if x ≤ n then n :: x :: l else x :: insertDown n l

/-- Pack losses of the costs given, dearest first, that a budget bears. -/
def lossesBorne : Nat → List Nat → Nat
  | _, [] => 0
  | b, c :: l => if c ≤ b then 1 + lossesBorne (b - c) l else 0

/-- Further pack losses that a stripe survives (R338). -/
def State.stripeTolerance (s : State) (x : Span) (t : Stripe) : Nat :=
  let costs := ((x.packs.filter (s.packReads x)).map t.on).foldl (fun l c => if c = 0 then l else insertDown c l) []
  lossesBorne (t.m - s.lostLeaves x t) costs

/-- Pack tolerance of a span (R338): of its stripes on media, those still in buffer memory losing nothing with a pack; with none it is m. -/
def State.tolerance (s : State) (x : Span) : Nat :=
  ((x.live.filter (fun t => t.state = .placed)).map (s.stripeTolerance x)).foldl min x.m

/-- Arms of a pack that take new leaves. -/
def State.leafArms (s : State) (p : Nat) : List Nat :=
  if h : p < 32 then (List.range 2).filter (fun a => if g : a < 2 then (s.arm ⟨p, h⟩ ⟨a, g⟩).takesLeaves else false) else []

/-- A pack of the span is placeable. -/
def State.placeable (s : State) (x : Span) (p : Nat) : Bool :=
  s.packState p = .ready && s.sameMember x p && !x.leaving.testBit p && !(s.leafArms p).isEmpty

/-- Spare reserve of a member (R313). -/
def State.reserve (s : State) (x : Span) (p : Nat) : Nat :=
  match s.pack? p with
  | some k => ceilDiv k.leafCount (x.packs.length - 1)
  | none => 0

/-- States of a span in the order of their codes (R337). -/
inductive SpanState where
  | forming | healthy | degraded | rebuilding | critical | lost
  deriving DecidableEq, Repr

/-- The code of a span state (R337). -/
def SpanState.code : SpanState → Nat
  | .forming => 0 | .healthy => 1 | .degraded => 2 | .rebuilding => 3 | .critical => 4 | .lost => 5

/-- Leaves of the span are to be rebuilt: a pack is being rebuilt that does not read (R340). -/
def State.rebuildDue (s : State) (x : Span) : Bool := x.packs.any (fun p => x.rebuilding.testBit p && !s.packReads x p)

/-- A rebuild of the span runs; with no leaf slot left for a regenerated leaf it is stalled (R337, R340). -/
def State.rebuilds (s : State) (x : Span) : Bool :=
  s.rebuildDue x && x.packs.any (fun p => s.placeable x p && s.freeLeaves x p != 0)

/-- State of a span: the row placed higher takes effect (R337). -/
def State.spanState (s : State) (x : Span) : SpanState :=
  let u := s.unreadable x
  if x.forming then .forming
  else if x.lost ∨ x.m < u then .lost
  else if u = 0 then .healthy
  else if u = x.m then .critical
  else if s.rebuilds x then .rebuilding
  else .degraded

/-! ### Journal packs (R331) -/

/-- A pack shares a tile, or a motor bus, with another. -/
def sameTile (p q : Nat) : Bool := p / 4 == q / 4
def sameBus (p q : Nat) : Bool := p / 8 == q / 8

/-- One pass over the candidates in rising pack number, until three are chosen. -/
def journalPass (ok : Nat → List Nat → Bool) (cands : List Nat) (chosen : List Nat) : List Nat :=
  cands.foldl (fun l p => if l.length < 3 ∧ ¬ l.contains p ∧ ok p l then l ++ [p] else l) chosen

/-- The three passes. -/
def journalPasses (cands chosen : List Nat) : List Nat :=
  let a := journalPass (fun p l => l.all (fun q => !sameTile p q && !sameBus p q)) cands chosen
  let b := journalPass (fun p l => l.all (fun q => !sameTile p q)) cands a
  journalPass (fun _ _ => true) cands b

/-- Ready span members. -/
def State.readyMembers (s : State) : List Nat :=
  (List.range 32).filter (fun p => s.packState p = .ready && s.store.spans.any (fun x => x.configured && x.members.testBit p))

/-- Journal packs that left Ready are replaced; a replacement holds the journal only once it is brought up to date. -/
def State.noteJournal (s : State) : State :=
  let keep := s.store.packs.filter (fun p => s.packState p = .ready)
  let l := journalPasses s.readyMembers keep
  s.updStore (fun t => { t with packs := l, current := t.current.filter (fun p => keep.contains p) })

/-! ### Opening (R334) -/

/-- An object's runs name a stripe address. -/
def ObjEntry.names (e : ObjEntry) (addr : Nat) : Bool :=
  match e.petit with
  | some (a, _, _) => a == addr
  | none => e.runs.any (fun r => decide (r.1 ≤ addr ∧ addr < r.1 + r.2))

/-- A stripe of a span belongs to a version among those listed. -/
def namedBy (objs : List ObjEntry) (span addr : Nat) : Bool := objs.any (fun e => e.span == span && e.names addr)

/-- Segments of 1 MiB of the index region, and of one span's stripe table (R334, R401). -/
def indexSegments (slots : Nat) : Nat := slots * 48 / 1048576
def State.tableSegments (s : State) : Nat := s.param 0x6005 1 * 1024

/-- The segment in which an index slot begins; the segment of a stripe entry, the tables of the spans formed following in rising order. -/
def slotSegment (slot : Nat) : Nat := slot * 48 / 1048576
def State.stripeSegment (s : State) (slots : Nat) (l : List Span) (span addr : Nat) : Nat :=
  indexSegments slots + ((l.take span).filter (fun x => x.configured)).length * s.tableSegments + addr / 8192

/-- The segment that a record belongs to (R332). -/
def State.recordSegment (s : State) (slots : Nat) (l : List Span) : JournalBody → Nat
  | .image e => slotSegment e.slot
  | .extent a _ => slotSegment a
  | .freed a _ => slotSegment a
  | .stripe i t => s.stripeSegment slots l i t.addr
  | .counter _ => 0
  | .mark n => n

/-- Applies a record to what the media hold (R332, R334). -/
def Disk.apply (d : Disk) (r : JournalRec) : Disk :=
  let d' := { d with seq := r.seq }
  match r.body with
  | .image e => { d' with objs := d.objs.filter (fun x => x.slot ≠ e.slot) ++ [e] }
  | .freed a h => { d' with objs := d.objs.filter (fun x => ¬(x.slot = a ∧ x.hash = h)) }
  | .extent _ _ => d'
  | .stripe i t =>
    { d' with spans := Vector.ofFn (fun j : Fin 8 =>
        if j.val = i then { d.spans[j] with stripes := d.spans[j].stripes.filter (fun y => y.addr ≠ t.addr) ++ [t] } else d.spans[j]) }
  | .counter v => { d' with counter := max d.counter v }
  | .mark n => { d' with segment := n }

/-- Sequence of a segment's mark; 0 while it has never been written. -/
def Disk.markOf (d : Disk) (n : Nat) : Nat := match d.segs.find? (fun g => g.num = n) with | some g => g.mark | none => 0

/-- Steps 1 and 2 of the rebuild of buffer memory: every segment, then each record later than its segment's mark (R334). -/
def State.loadDisk (s : State) : Disk :=
  let d := s.store.disk
  let l := d.spans.toList
  let base : Disk :=
    { d with
      objs := (d.segs.map (fun g => g.objs)).flatten,
      spans := Vector.ofFn (fun i : Fin 8 =>
        { d.spans[i] with stripes := (d.segs.map (fun g => (g.stripes.filter (fun x => x.1 = i.val)).map (fun x => x.2))).flatten }) }
  d.log.foldl (fun (b : Disk) (r : JournalRec) => if d.markOf (s.recordSegment d.slots l r.body) < r.seq then b.apply r else b) base

/-- Replay: the index and the stripe tables as the checkpoint and the committed records give them, and the generation counter
above every value seen; stripes of no version are dead, and the leaves that no stripe entry names are free again. -/
def State.replay (s : State) : State :=
  let d := s.loadDisk
  let seen := (d.objs.map (fun e => e.version)) ++ (d.spans.toList.map (fun x => x.stripes.map (fun t => t.gen))).flatten
  let spans : Vector Span 8 := Vector.ofFn (fun i : Fin 8 =>
    let x := d.spans[i]
    { x with stripes := x.stripes.map (fun t => if namedBy d.objs i.val t.addr then t else { t with state := .dead }) })
  s.updStore (fun t =>
    { t with formed := true, hashKey := d.hashKey, slots := d.slots, counter := max d.counter (seen.foldl max 0 + 1), objs := d.objs,
             spans := spans, nextSeq := d.seq + 1, committed := d.seq, packs := d.packs, current := d.packs, segment := d.segment,
             locks := [], changes := [], journal := [], writes := [], relocate := [], reads := [], gets := [], back := [] })

/-- Three journal packs are Ready and hold the current checkpoint and journal. -/
def Store.journalWhole (t : Store) : Bool := t.current.length == 3

/-- At Assemble an existing store is replayed from a journal pack of the newest checkpoint, and counts as open once three
journal packs hold the journal; with auto-open the device then goes to Open (R334, R525). -/
def State.tryOpen (s : State) : State :=
  if s.dev.state ≠ .assemble ∨ ¬ s.store.disk.present ∨ s.clusters.active.isNone then s
  else
    let s1 := if s.store.formed then s
      else if s.store.disk.packs.any (fun p => match s.packState p with | .ready => true | .draining => true | .spent => true | _ => false) then
        s.replay.noteJournal
      else s
    if s1.store.formed ∧ s1.store.journalWhole then
      let s2 := s1.updStore (fun t => { t with isOpen := true })
      if s.param 0x7001 2 = 1 ∧ ¬ s.dev.commandBusy ∧ s.dev.pendingLee.isNone then s2.setDevState .opened 255 255 else s2
    else s1

/-- The spans, the journal packs and the store take note of the packs' states: a Failed member is rebuilt, one that has come back
is taken back, Forming ends, and a span with more leaves unreadable than parity leaves is Lost (R331, R334, R337, R340). -/
def State.noteSpans (s : State) : State :=
  let s1 := if s.store.formed then s.noteJournal else s
  let note := fun x : Span =>
    if ¬ x.configured then x
    else
      let y := { x with rebuilding := x.packs.foldl (fun r p =>
        if s1.packState p = .failed then r ||| 2 ^ p
        else if s1.packReads x p then r &&& (0xFFFFFFFF ^^^ 2 ^ p) else r) x.rebuilding }
      let y := if x.rebuilding = 0 ∧ y.rebuilding ≠ 0 then { y with rebuilt := 0 } else y
      let z := if y.forming ∧ s1.store.journalWhole ∧ y.packs.all (fun p => s1.packState p = .ready) then { y with forming := false } else y
      if s1.store.isOpen ∧ ¬ z.forming ∧ z.m < s1.unreadable z then { z with lost := true } else z
  let s2 := if s.store.formed then s1.updStore (fun t =>
    { t with spans := t.spans.map note,
             disk := { t.disk with spans := Vector.ofFn (fun i : Fin 8 =>
               { t.disk.spans[i] with forming := (note t.spans[i]).forming, lost := (note t.spans[i]).lost }) } }) else s1
  let key := fun x : Span => (x.forming, x.lost, x.rebuilding)
  let changed := (List.finRange 8).filter (fun i : Fin 8 => key s2.store.spans[i] != key s.store.spans[i])
  (changed.foldl (fun (s : State) i => s.mirror (.span i.val (s.spanState s.store.spans[i]).code)) s2).tryOpen

end Sys2Proof.Machine
end

