-- ==== Sys2Proof/Machine/ServoOps.lean ====
section
/-! DEFINITION. What moves an arm without a formatter: load, park, Gale retract and their ends (R250, R258 to R265), the
time base's return to Free-run (R42), and the life record (R73 to R77). -/

namespace Sys2Proof.Machine

/-! ### Speeds -/

/-- Highest and lowest declared speed of a pack (R67, R298). -/
def Identity.highSpeed (i : Identity) : Nat := max i.speed0 i.speed1
def Identity.lowSpeed (i : Identity) : Nat := if i.speed1 = 0 then i.speed0 else min i.speed0 i.speed1

/-- The speed that the speed choice P+0x31.01 names for the next spin-up (R296, R298); 0 without an identity. -/
def State.chosenSpeed (s : State) (p : PackId) : Nat :=
  match s.packs[p].identity with
  | some i => if s.packParam p 0x31 1 = 1 then i.lowSpeed else i.highSpeed
  | none => 0

/-- The pack's nominal speed: the speed in use, or the one it would start with. -/
def State.nominal (s : State) (p : PackId) : Nat :=
  if s.packs[p].spindle.target = 0 then s.chosenSpeed p else s.packs[p].spindle.target

/-- The spindle turns, driven or coasting (R89, R103 flag [9]). -/
def Spindle.turning (x : Spindle) : Bool := x.speed ≠ 0

/-- The micro window M of the accepted identity (R67). -/
def Pack.micro (k : Pack) : Nat := match k.identity with | some i => i.microWindow | none => 0

/-! ### Life record -/

/-- The bytes of a life record (R73). -/
def lifeBytes (l : Life) : List Byte :=
  let flags := (if l.worn then 1 else 0) + (if l.spent then 2 else 0) + (if l.retired then 4 else 0)
  let b := natBytes 4 l.sequence ++ natBytes 2 1 ++ natBytes 2 1024 ++ natBytes 4 l.loads[0] ++ natBytes 4 l.loads[1]
    ++ natBytes 4 l.spindleSec ++ natBytes 4 flags ++ natBytes 8 0
    ++ (l.heads.toList.map (fun h => natBytes 8 h.bytes ++ natBytes 4 h.strokes ++ natBytes 4 h.mediaSec)).flatten
    ++ natBytes 476 0
  b ++ natBytes 4 (crc32c b)

/-- Word address of a life record copy (R66). -/
def lifeCopy (n : Nat) : Nat := if n = 0 then 0x1000 else 0x1400

/-- The life counters go to the copy that does not hold the higher sequence, with the sequence incremented; the write is
complete when the copy reads back the same (R75). A pack whose record has not been read has none to write. -/
def State.writeLife (s : State) (p : PackId) (readBack : Bool) : State :=
  if ¬ s.packs[p].lifeRead then s
  else
  let l := s.packs[p].life
  let next := { l with sequence := (l.sequence + 1) % 2 ^ 32 }
  let copy := if l.newer = 0 then 1 else 0
  let s1 := s.send (.i2cWrite p.val (lifeCopy copy) (lifeBytes next))
  s1.updPack p (fun k => { k with life := if readBack then { next with newer := copy } else k.life, i2c := { k.i2c with identity := 0 } })

/-- A write of the life record at an event of the controller's own (R75): whether the copy reads back the same is a free value. -/
def State.saveLife (s : State) (p : PackId) : State :=
  let (n, s1) := s.takeFree
  s1.writeLife p (n % 2 = 1)

/-- A life fraction in per mille (R77). -/
def perMille (count limit : Nat) : Nat := count * 1000 / limit

/-- The life fractions of P+0x02: load/unload, spindle, writes, stroke, head on media (R77). -/
def lifeFractions (i : Identity) (l : Life) : List Nat :=
  let top := fun f : HeadLife → Nat => (l.heads.toList.map f).foldl max 0
  [perMille (max l.loads[0] l.loads[1]) i.loadLimit, perMille l.spindleSec (i.spindleLimit * 3600),
   perMille (top (fun h => h.bytes)) (i.writeLimit * 10 ^ 12), perMille (top (fun h => h.strokes)) (i.strokeLimit * 1000),
   perMille (top (fun h => h.mediaSec)) (i.mediaLimit * 3600)]

/-- A pack's fractions; all 0 without an identity. -/
def Pack.fractions (k : Pack) : List Nat :=
  match k.identity with
  | some i => lifeFractions i k.life
  | none => [0, 0, 0, 0, 0]

/-- The pack's life (R77). -/
def Pack.lifeMille (k : Pack) : Nat := k.fractions.foldl max 0

/-- Details of a pack warning record (R553 type 0x21). -/
def Pack.warnDetail (k : Pack) : Nat :=
  ((k.fractions.zipIdx).map (fun x => detailAt (0x24 + 2 * x.2) (min x.1 65535))).sum
    + detailAt 0x2E (lowBits 8 k.sensors.temp) + detailAt 0x2F k.sensors.helium

/-- A pack warning: 1 Worn, 2 helium, 3 hold set, 4 hold cleared (R553). -/
def State.packWarning (s : State) (p : PackId) (code : Nat) : State :=
  s.record { type := 0x21, pack := p.val, code := code, detail := s.packs[p].warnDetail }

/-! ### Time base -/

/-- Changes a pack's time base. -/
def State.updTb (s : State) (p : PackId) (f : TimeBase → TimeBase) : State :=
  s.updPack p (fun k => { k with tb := f k.tb })

/-- Entry to Free-run: the runs of Acquire, Coast and of losses start afresh (R42). -/
def TimeBase.freeRun (t : TimeBase) : TimeBase :=
  { t with state := .freeRun, missed := 0, lossRun := 0, badIndexRun := 0, goodRun := 0, sawWedge0 := false,
           poorRun := 0, acquireWedges := 0, measuring := false, measured := 0, measSet := Vector.replicate 2 false }

/-- With both arms Unloaded or Out the time base returns to Free-run, with no lock-loss count (R42). -/
def State.tbArmsDown (s : State) (p : PackId) : State :=
  if s.packs[p].armsDown then
    match s.packs[p].tb.state with
    | .stopped => s
    | .freeRun => s
    | _ => s.updTb p TimeBase.freeRun
  else s

/-! ### Arm modes -/

/-- The code of an arm mode (R249). -/
def ArmMode.code : ArmMode → Nat
  | .unloaded => 0 | .loading => 1 | .searching => 2 | .following => 3 | .seeking => 4
  | .settling => 5 | .parking => 6 | .gale => 7 | .out => 8

/-- An arm from Searching to Settling: a passage to Lost is then a loss of lock (R46). -/
def ArmMode.onTrack : ArmMode → Bool
  | .searching | .following | .seeking | .settling => true
  | _ => false

/-- The arm is out for good: by its link, its load failures, or a Gale (R86, R262, R265). -/
def ArmServo.isOut (v : ArmServo) : Bool := v.outLink || v.outLoad || v.outGale || v.mode = .out

/-- Both arms of a pack are out (R262, R265). -/
def Pack.bothOut (k : Pack) : Bool := k.arms.all (fun x => x.servo.isOut)

/-- The Failed cause of both arms out (R265). -/
def Pack.outCause (k : Pack) : Nat :=
  if k.arms.any (fun x => x.servo.outGale || x.servo.mode = .out) then 12
  else if k.arms.any (fun x => x.servo.outLink) then 11
  else 6

/-- Write inhibit is asserted on a head (R253): counted when it was not. -/
def HeadServo.inhibitNow (h : HeadServo) : HeadServo :=
  if h.inhibit then { h with releaseRun := 0 } else { h with inhibit := true, releaseRun := 0, inhibits := sat32 h.inhibits 1 }

/-- Write inhibit on every head of an arm (R253); `cut` takes the write pairs idle at once, tearing open sectors (R156). -/
def State.inhibitArm (s : State) (p : PackId) (a : ArmId) (cut : Bool) : State :=
  let s1 := s.updArm p a (fun x => x.mapLanes (fun l => { l with servo := l.servo.inhibitNow }))
  if cut then s1.barWrites p a 0xFFFF else s1

/-- A head of the arm was valid in the last wedge (R259). -/
def Arm.someValid (x : Arm) : Bool := x.lanes.any (fun l => l.servo.missRun = 0 && l.servo.validRun ≠ 0)

/-- The way from the last known position of an arm, or from the innermost track when none is known, to its park track, 1/512 track (R259). -/
def Pack.wayToPark (k : Pack) (v : ArmServo) : Int :=
  let inner := ((List.range 16).map (fun f => (k.geometry f).tracks)).foldl max 1 - 1
  (if v.known then v.position / 2 else (inner : Int) * 512) - coefAt v.coef 0x0F 3 * 512

/-- Servo side of a park (R259): writes stop, the command ramp begins, and the park takes its form. On the loss of the time base an open
write gate runs to its scheduled close instead (R45): `cut` is then false. -/
def State.parkServo (s : State) (p : PackId) (a : ArmId) (cut : Bool) : State :=
  let x := s.arm p a
  if x.servo.mode.parkable then
    let tb := s.packs[p].tb.state
    let byPos : Bool := (tb = .locked || tb = .coast) && x.someValid
    ((if cut ∨ ¬ x.writing then s.disarm p a else s).inhibitArm p a cut).updServo p a (fun v =>
      { v with mode := .parking, parks := sat32 v.parks 1, ramp := 8, blindRun := 0, order := none,
               stage := if byPos then .position else .backEmf, parkLeft := s.packs[p].wayToPark v,
               target := if byPos then coefAt v.coef 0x0F 3 else v.target })
  else s

/-- Lanes when the arm's lane group switches off (R161), with no lane in service (R268). -/
def Lane.powerOff (l : Lane) : Lane :=
  { l with chan := { l.chan with power := .off, waiting := none, servoUntil := none, readOpen := false },
           servo := { l.servo.clearLoop with status := .notInService, settled := false, missRun := 0, validRun := 0,
                                             inhibit := true, command := 0, micro := 0, offset := 0 } }

/-- An arm reaches Unloaded or Out (R250): bridge off, the lane group's domain and synthesizer off (R26, R162), the life record written (R75), the time base in
Free-run when both arms are down. -/
def State.armDown (s : State) (p : PackId) (a : ArmId) (m : ArmMode) : State :=
  let s1 := s.updArm p a (fun x =>
    { x.mapLanes Lane.powerOff with
      laneGroup := false, synth := 0, synthWant := 0,
      servo := { x.servo with mode := m, stage := .none, ramp := 0, setPoint := 0, setPointNew := false, noSetPoint := 0,
                              duty := 0, legs := Vector.replicate 2 {}, currentInteg := 0, seekLanes := 0, sitOut := 0, order := none,
                              galeStage := .off, galeLeft := 0 } })
  ((s1.updDomain (armDomain p a) (fun d => { d with state := 0 })).saveLife p).tbArmsDown p

/-- Coefficient set that names the pack model code; none where no set does (R230). -/
def State.modelSet (s : State) (model : Nat) : Option Nat :=
  if model = 0 then none else (List.range 16).find? (fun k => s.param (0x5000 + 64 * k) 1 = model)

/-- The whole of a coefficient set as the arm unit copies it: offset * 256 + subindex and value, nonzero ones (R230). -/
def State.copySet (s : State) (k : Nat) : List (Nat × Nat) :=
  (s.dict.vals.filter (fun x => (0x5000 + 64 * k) * 256 ≤ x.1 && x.1 < (0x5000 + 64 * k + 0x40) * 256)).map
    (fun x => (x.1 - (0x5000 + 64 * k) * 256, x.2))

/-- The set passes the checks of R230 and R455 for the pack. -/
def State.setFits (s : State) (p : PackId) : Option Nat :=
  match s.packs[p].identity, s.packs[p].factory with
  | some i, some f =>
    match s.modelSet i.modelCode with
    | some k => if f.minRevision ≤ s.param (0x5000 + 64 * k) 2 ∧ s.param (0x5030 + 64 * k) 1 = i.preampModel then some k else none
    | none => none
  | _, _ => none

/-- An arm that R480 passes over: out, or with a lane Poor or Removed. -/
def Arm.passedOver (x : Arm) : Bool := x.servo.isOut || x.lanes.any (fun l => l.health.quality == 3 || l.health.quality == 4)

/-- The one arm that a pack keeps loaded while 0x2403.01 is 1 (R480). -/
def Pack.keptArm (k : Pack) : ArmId := if k.arms[0].passedOver then 1 else 0

/-- The arm may be loaded under the number of arms per pack (R480). -/
def State.armKept (s : State) (p : PackId) (a : ArmId) : Bool := s.param 0x2403 1 != 1 || a == s.packs[p].keptArm

/-- The arm may load: Unloaded, not barred, its tile's engine in service (R266), spindle in its window, time base not Stopped (R250). -/
def State.mayLoad (s : State) (p : PackId) (a : ArmId) : Bool :=
  let v := (s.arm p a).servo
  s.armKept p a && v.mode = .unloaded && !v.isOut && !s.tiles[tileOf p].servoOut && s.packs[p].spindle.inWindow && s.packs[p].tb.state ≠ .stopped

/-- A lane at an arm load: off until its group's domain is on (R161), provisional, cache cleared, quality assessed anew (R48, R145, R162, R165). -/
def Lane.atLoad (l : Lane) (skew : Int) : Lane :=
  { l with skew := skew, time := .provisional, driftSum := 0, driftCount := 0,
           chan := { l.chan with power := .off, cache := [], store := [], waiting := none },
           health := { l.health with quality := 0, snrCount := 0 },
           servo := { l.servo.clearLoop with status := .notInService, missRun := 0, validRun := 0, settled := false,
                                             driverFault := false,
                                             inhibit := true, command := 0, micro := 0, offset := 0 } }

/-- The values the Gale generator latches at load (R263). -/
def galeLatch (c : List (Nat × Nat)) (a : ArmId) : GaleLatch :=
  { current := coefAt c 0x10 1, time := coefAt c 0x10 2, holdCurrent := coefAt c 0x10 3, holdTime := coefAt c 0x10 4,
    direction := signedNat 8 (coefAt c 0x0F (8 + a.val) % 256) }

/-- The arm enters Loading with coefficient set `k` copied (R48, R230, R258). Arm 1 starts with arm 0's skews and the nominal offset;
the lane group's domain begins to switch on (R162). -/
def State.loadServo (s : State) (p : PackId) (a : ArmId) (k : Nat) : State :=
  let c := s.copySet k
  let f := s.packs[p].factory.getD {}
  (s.updDomain (armDomain p a) (fun d => { d with state := max 1 d.state })).updArm p a (fun x =>
    { x with
      laneGroup := true,
      lanes := Vector.ofFn (fun h : Fin 16 => x.lanes[h].atLoad (s.lane p 0 h).skew),
      servo := { x.servo.clearLoop with
        mode := .loading, coef := c, gale := galeLatch c a, vcmTrim := f.vcmTrims.getD a.val 0,
        maTrim := (f.maTrims.drop (a.val * 16)).take 16, galeHard := false, galeOut := false, galeMiscompare := false,
        angleOffset := if a = 1 then f.nominalOffset else 0, stage := .none, blindRun := 0, noSetPoint := 0,
        reloadPending := false, justLoaded := true, seekLanes := 0, sitOut := 0, order := none, known := false, velocity := 0 } })

/-- Servo side of a Gale trigger (R263, R264): write pairs idle, mode Gale, the count, and the generator drives the retract current for its
time; the bridge's own on-time is overridden. During a Gale only the count and the kind of trigger. -/
def State.galeServo (s : State) (p : PackId) (a : ArmId) (outs miscompare : Bool) : State :=
  let v := (s.arm p a).servo
  if v.mode.loaded then
    (s.inhibitArm p a true).updServo p a (fun v =>
      { v with mode := .gale, gales := sat32 v.gales 1, galeHard := outs || miscompare, galeOut := outs,
               galeMiscompare := miscompare, stage := .none, ramp := 0, microEnabled := 0, order := none, duty := 0, legs := Vector.replicate 2 {},
               galeStage := .retract, galeLeft := v.gale.time * 10 ^ 6 })
  else if v.mode = .gale then
    s.updServo p a (fun v =>
      { v with gales := sat32 v.gales 1, galeHard := v.galeHard || outs || miscompare, galeOut := v.galeOut || outs,
               galeMiscompare := v.galeMiscompare || miscompare })
  else s

end Sys2Proof.Machine
end

