-- ==== Sys2Proof/Machine/Routines.lean ====
section
/-! DEFINITION. The life of a formatter routine (R200 to R210): its request, its start, abandonment and restart, its end
with the completion record, and the parks, Gale retracts and losses that end it. -/

namespace Sys2Proof.Machine

/-! ### The request -/

/-- Fields of a request (R200). -/
def reqRoutine (l : List Byte) : Nat := fieldAt l 0 1
def reqFlags (l : List Byte) : Nat := fieldAt l 1 1
def reqLanes (l : List Byte) : Nat := fieldAt l 2 2
def reqTag (l : List Byte) : Nat := fieldAt l 4 4
def reqParam (l : List Byte) (i : Nat) : Nat := fieldAt l (0x10 + 8 * i) 8
def reqTarget (l : List Byte) (h : Nat) : Nat := fieldAt l (0x40 + 4 * h) 4 % 2 ^ 20

/-- The request is well formed (R200). -/
def reqOk (l : List Byte) : Bool :=
  l.length == 128 && reqRoutine l ≤ 63 && reqFlags l < 4 && fieldAt l 8 8 == 0
    && (List.range 16).all (fun h => fieldAt l (0x40 + 4 * h) 4 < 2 ^ 20)

/-- A priority request (R200, R201). -/
def reqPriority (l : List Byte) : Bool := reqFlags l % 2 = 1

/-- Full depth is asked for (R181, R200). -/
def reqFull (l : List Byte) : Bool := 2 ≤ reqFlags l

/-- The request of ladder step 6 (R201, R211): routine 0x02 with priority, on one lane, with the routine's own tag
(assumption 13). -/
def stepSixRequest (f : Formatter) (h : HeadId) (addr : Nat) : List Byte :=
  natBytes 1 2 ++ natBytes 1 (1 + reqFlags f.req / 2 * 2) ++ natBytes 2 (2 ^ h.val) ++ natBytes 4 (reqTag f.req)
    ++ natBytes 8 0 ++ natBytes 8 (addrSector addr) ++ natBytes 40 0
    ++ natBytes (4 * h.val) 0 ++ natBytes 4 (addrTrack addr) ++ natBytes (60 - 4 * h.val) 0

/-! ### Per-arm elements -/

/-- A lane's Bench overrides as the dictionary holds them (R484): gain, boost, freeze mask. -/
def State.overrides (s : State) (p : PackId) (a : ArmId) (h : HeadId) : Nat × Nat × Nat :=
  let t := 0xF200 + p.val * 8
  let k := laneSub a h
  (s.param t k % 65536, s.param (t + 1) k, s.param (t + 2) k)

/-- The tile takes over the arm's write width and active-lane limit and its lanes' Bench overrides (R18, R163, R484). -/
def State.applyArrays (s : State) (p : PackId) (a : ArmId) : State :=
  s.updArm p a (fun x =>
    { x with width := s.packParam p 0x09 (1 + a.val), activeLimit := s.packParam p 0x09 (3 + a.val),
             fmt := { x.fmt with writesDue := false },
             lanes := Vector.ofFn (fun h : Fin 16 =>
               let l := x.lanes[h]
               let o := s.overrides p a h
               { l with chan := { l.chan with gainOver := o.1, boostOver := o.2.1, freeze := o.2.2 } }) })

/-- Lanes Active beyond the limit return to Servo-only as their routine has finished (R163): the highest-numbered idle ones
(assumption 14). -/
def State.trimActive (s : State) (p : PackId) (a : ArmId) : State :=
  let x := s.arm p a
  if x.fmt.running then s
  else
    let idle := ((List.finRange 16).filter (fun h => x.lanes[h].chan.power = .idle)).reverse.take (x.activeLanes - x.activeLimit)
    idle.foldl (fun s h => s.updChan p a h (fun c => { c with power := .servoOnly })) s

/-! ### Start and restart -/

/-- Registers at the start of a routine: G1 to G6 from the request, the rest and the flags zero (R194, R200). -/
def startRegs (req : List Byte) : Regs :=
  { g := Vector.ofFn (fun i : Fin 16 => if 1 ≤ i.val ∧ i.val ≤ 6 then BitVec.ofNat 64 (reqParam req (i.val - 1)) else 0) }

/-- A formatter with its routine at its entry word (R201, R207). -/
def Formatter.enter (f : Formatter) (req : List Byte) : Formatter :=
  { f with running := true, req := req, regs := startRegs req, pc := reqRoutine req, stack := [], scratch := [],
           wait := .none, held := false, lastLink := none, regWait := [], committed := false, underrun := false, cancel := false,
           runs := [], ladder := [], laddering := false, torn := 0, satOut := 0, incomplete := 0, conflicts := 0, badLanes := 0,
           groups := 0 }

/-- A formatter at rest (R201). -/
def Formatter.rest (f : Formatter) : Formatter :=
  { f with running := false, wait := .none, held := false, runs := [], ladder := [], laddering := false, cancel := false, six := none }

/-- Removes the first request of the queue that goes first: priority ones before the rest, each in order of arrival
(R201). -/
def nextRequest (l : List (List Byte)) : Option (List Byte × List (List Byte)) :=
  match l.find? reqPriority with
  | some r => some (r, l.eraseP reqPriority)
  | none => match l with
    | [] => none
    | r :: rest => some (r, rest)

/-- Closes the read gates of an arm; the sectors being read are discarded (R206). -/
def State.dropReads (s : State) (p : PackId) (a : ArmId) : State :=
  s.updArm p a (fun x => x.mapLanes (fun l => { l with chan := l.chan.dropRead }))

/-- A routine is abandoned before its commit point: its gates are cancelled and it waits for the next wedge boundary
(R206, R207). `counted` is false for a per-array write. -/
def State.abandonRoutine (s : State) (p : PackId) (a : ArmId) (counted : Bool) : State :=
  let f := (s.arm p a).fmt
  if f.running ∧ ¬ f.committed then
    (s.dropReads p a).updFmt p a (fun f =>
      { f with wait := .restart, runs := [], ladder := [], laddering := false,
               uncounted := if counted then f.uncounted else f.uncounted + 1 })
  else s

/-- The off-track offset of a read of a sector: outward first, then inward, in step 3 alone (R178, R179). -/
def ladderOffset (off step reads : Nat) : Int :=
  if step = 3 then (if reads = 0 then -(off : Int) else off) else 0

/-! ### End -/

/-- A sector of the routine that ends without having been read (R182). -/
def stoppedEnd (f : Formatter) (addr outcome : Nat) (split verify : Bool) : SectorEnd :=
  { addr := addr, outcome := outcome, split := split, tag := reqTag f.req, restart := f.restarts, verify := verify }

/-- The addresses of a run's sectors that have not finished. -/
def Run.left (r : Run) (p : PackId) : List Nat :=
  if r.ended then [] else (List.range (r.count - r.done)).map (fun i => mkAddr p.val r.lane.val r.track (r.first + r.done + i))

/-- A sector that step 6 reads for the other arm has its end: it stands for that arm's sector, whose ladder is over (R179). The other
arm's lane delivers it under its own routine; the means of R164 are those of the lane that read it. -/
def State.giveBack (s : State) (p : PackId) (b : ArmId) (h : HeadId) (e : SectorEnd) : State :=
  let f := (s.arm p b).fmt
  if f.ladder.any (fun x => x.lane = h ∧ x.addr = e.addr ∧ x.step = 6) then
    (s.updFmt p b (fun f => { f with ladder := f.ladder.filter (fun x => ¬(x.lane = h ∧ x.addr = e.addr)) })).updChan p b h (fun c =>
      { c with ends := c.ends ++ [{ e with tag := reqTag f.req, restart := f.restarts, snr := none }] })
  else s

/-- A sector ends at once; one read for the other arm ends that arm's step the same way (R182). -/
def State.stopWith (s : State) (p : PackId) (a : ArmId) (h : HeadId) (e : SectorEnd) : State :=
  if (s.arm p a).fmt.six = some (h, e.addr) then s.giveBack p (otherArm a) h e else s.deliverEnd p a h e

/-- A sector that has not been read ends at once with `outcome`. -/
def State.stopSector (s : State) (p : PackId) (a : ArmId) (h : HeadId) (addr outcome : Nat) (verify : Bool) : State :=
  s.stopWith p a h (stoppedEnd (s.arm p a).fmt addr outcome (s.isSplit p a h addr) verify)

/-- A sector of the ladder that stops with `outcome`: its status tells of its last read (R183). -/
def LadderSector.stopped (x : LadderSector) (f : Formatter) (outcome : Nat) (split : Bool) : SectorEnd :=
  match x.last with
  | some e => { e with outcome := outcome, tag := reqTag f.req, restart := f.restarts, data := [], snr := none, verify := x.verify }
  | none => stoppedEnd f x.addr outcome split x.verify

/-- The other arm's ladder sector whose step 6 this arm was to read ends with `outcome` (R182). -/
def State.stopSix (s : State) (p : PackId) (a : ArmId) (outcome : Nat) (x : HeadId × Nat) : State :=
  let b := otherArm a
  let f := (s.arm p b).fmt
  match f.ladder.find? (fun y => y.lane = x.1 ∧ y.addr = x.2 ∧ y.step = 6) with
  | some y => s.giveBack p b x.1 (y.stopped f outcome (s.isSplit p b x.1 x.2))
  | none => s

/-- The reads of step 6 that wait on an arm for the heads of `m` are not made: the other arm's sectors end not completed (R182). -/
def State.dropSixes (s : State) (p : PackId) (a : ArmId) (m : Nat) : State :=
  let g := (s.arm p a).fmt
  let gone := g.sixes.filter (fun x => m.testBit x.1.val)
  let other := (s.arm p (otherArm a)).fmt
  let keep := fun r : List Byte => !gone.any (fun x => stepSixRequest other x.1 x.2 = r)
  gone.foldl (fun s x => s.stopSix p a 0x20 x) (s.updFmt p a (fun g =>
    { g with sixes := g.sixes.filter (fun x => !gone.contains x), queue := g.queue.filter keep, linkHeld := g.linkHeld.filter keep }))

/-- Cells marked in a read (R143). -/
def Reading.marked (r : Reading) : Nat := r.frag1.marks.count true + r.frag2.marks.count true

/-- What every end of this read carries (R183). -/
def Reading.base (r : Reading) (step : Nat) : SectorEnd :=
  { addr := r.addr, outcome := 0, step := step, split := r.split,
    dist := match r.mark1 with | some m => m.dist | none => 31,
    off := match r.mark1 with | some m => m.pos | none => -32,
    shift1 := match r.mark1 with | some m => m.pos | none => 0,
    shift2 := match r.mark2 with | some m => m.pos | none => 0,
    crcBad := r.crcBad, iter := r.iter, slips := r.slips, marked := r.marked, tag := r.tag, restart := r.restart, verify := r.verify }

/-- The ladder step that a formatter's own reads count as (R178, R179). -/
def Formatter.readStep (f : Formatter) (h : HeadId) (addr : Nat) : Nat := if f.six = some (h, addr) then 6 else 0

/-- Every sector of the routine on a lane that has no final outcome ends with `outcome` (R182): those being decoded or recovered, those
on the ladder, and those its runs have not read. Step 6 of a ladder that stops is dropped on the other arm. -/
def State.stopLane (s : State) (p : PackId) (a : ArmId) (h : HeadId) (outcome : Nat) : State :=
  let f := (s.arm p a).fmt
  let stored := ((s.lane p a h).chan.store).filter (fun r => r.phase = .decoding ∨ r.phase = .recovering)
  let reads := f.runs.filter (fun r => r.lane = h ∧ r.type ≠ 1)
  let s1 := (s.updChan p a h (fun c => { c with store := c.store.filter (fun r => r.phase = .ended) })).updFmt p a (fun f =>
    { f with ladder := f.ladder.filter (fun x => x.lane ≠ h),
             runs := f.runs.map (fun r => if r.lane = h ∧ r.type ≠ 1 then { r with ended := true } else r) })
  let s2 := s1.updFmt p (otherArm a) (fun g =>
    let gone := g.sixes.filter (fun x => x.1 = h ∧ f.ladder.any (fun y => y.lane = h ∧ y.addr = x.2 ∧ y.step = 6))
    let keep := fun r : List Byte => !gone.any (fun x => stepSixRequest f x.1 x.2 = r)
    { g with sixes := g.sixes.filter (fun x => !gone.contains x), queue := g.queue.filter keep, linkHeld := g.linkHeld.filter keep })
  let s3 := stored.foldl (fun s r => s.stopWith p a h { r.base (f.readStep h r.addr) with outcome := outcome }) s2
  let s4 := (f.ladder.filter (fun x => x.lane = h)).foldl (fun s x =>
    s.stopWith p a h (x.stopped f outcome (s.isSplit p a h x.addr))) s3
  reads.foldl (fun s r => (r.left p).foldl (fun s d => s.stopSector p a h d outcome (r.type = 2)) s) s4

/-- Ends every unfinished sector of the routine with `outcome` (R182). -/
def State.stopSectors (s : State) (p : PackId) (a : ArmId) (outcome : Nat) : State :=
  (List.finRange 16).foldl (fun s h => s.stopLane p a h outcome) s

/-- Lanes of the routine on which every sector ended 0x00 or 0x01, or every write closed untorn (R210). -/
def Formatter.goodLanes (f : Formatter) : Nat :=
  let named := f.runs.foldl (fun m r => m ||| 2 ^ r.lane.val) 0
  let open_ := (f.runs.filter (fun r => !r.ended || (r.type = 1 && r.good < r.done))).foldl (fun m r => m ||| 2 ^ r.lane.val) 0
  let bad := f.torn ||| f.satOut ||| f.incomplete ||| f.badLanes ||| open_
  named &&& (0xFFFF ^^^ (named &&& bad))

/-- The completion record of R210. -/
def completionRecord (f : Formatter) (outcome : Nat) (angle : AngleTime) : List Byte :=
  natBytes 4 (reqTag f.req) ++ natBytes 1 outcome ++ natBytes 1 f.restarts
    ++ natBytes 1 ((if f.committed then 1 else 0) + (if reqPriority f.req then 2 else 0)) ++ natBytes 1 0
    ++ natBytes 2 f.goodLanes ++ natBytes 2 f.torn ++ natBytes 2 f.satOut ++ natBytes 2 0
    ++ natBytes 5 angle.toNat ++ natBytes 11 0

/-- Outcomes 0x10 to 0x1D count as routines ended so (R227). -/
def countsAsEnded (o : Nat) : Bool := 0x10 ≤ o && o ≤ 0x1D

/-- The write gates of a lane that have not opened are cancelled (R206): a sector whose second fragment is among them is torn (R187), at once
or when its open gate closes, and a share of which gates are left is incomplete (R209). `ends` says that the routine ends too. -/
def State.cancelWrites (s : State) (p : PackId) (a : ArmId) (ends : Bool) (h : HeadId) : State :=
  let f := (s.arm p a).fmt
  let open_ := (s.lane p a h).chan.writeOpen
  let left := f.runs.any (fun r => r.lane = h && r.type = 1 && !r.ended && decide (r.done + (if open_ then 1 else 0) < r.count))
  let s1 := s.updFmt p a (fun f => { f with incomplete := if left then f.incomplete ||| laneBit h else f.incomplete })
  match (s.lane p a h).chan.writing with
  | none => s1
  | some w =>
    if ¬ w.isOpen then s1.closeWrite p a h true
    else
      let t := w.torn || (s.isSplit p a h w.addr && decide (w.closed = 0))
      (s1.updChan p a h (fun c => { c with writing := some { w with last := true, torn := t, orphan := ends } })).updFmt p a (fun f =>
        { f with torn := if t then f.torn ||| laneBit h else f.torn })

/-- What a routine leaves open when it ends (R182, R206, R210): open read gates close and their sectors are discarded; write gates not yet
open are cancelled; what waits for delivery goes; every other sector ends with `outcome`, one of the other arm's too whose step 6 this was. -/
def State.settleRoutine (s : State) (p : PackId) (a : ArmId) (outcome : Nat) : State :=
  let s1 := (List.finRange 16).foldl (fun s h => s.cancelWrites p a true h) (s.dropReads p a)
  let s2 := ((List.finRange 16).foldl (fun s h => s.deliverAll p a h) s1).stopSectors p a outcome
  match (s2.arm p a).fmt.six with
  | some x => s2.stopSix p a outcome x
  | none => s2

/-- A background routine that ends has used its time of its kind's part of the window (R339). -/
def State.chargeBack (s : State) (p : PackId) (a : ArmId) : State :=
  let f := (s.arm p a).fmt
  match f.back with
  | none => s
  | some k => s.updStore (fun t =>
    { t with windows := t.windows.map (fun w =>
      if w.pack = p.val ∧ w.arm = a.val then { w with used := w.used.set k (w.used.getD k 0 + (s.now - max f.since w.start)) } else w) })

/-- The routine ends: its gates not yet open are cancelled, its sectors have their ends, and the completion record follows the last
delivery; no head stays armed once no write gate is open (R206, R207, R210). The outcome is formed of the routine as its sectors have
left it (R209), `left` being that of the sectors not finished. -/
def State.closeRoutine (s : State) (p : PackId) (a : ArmId) (left : Nat) (result : Formatter → Nat) : State :=
  if (s.arm p a).fmt.running then
    let s1 := s.settleRoutine p a left
    let f := (s1.arm p a).fmt
    let s1 := s1.chargeBack p a
    let outcome := result f
    let r := completionRecord f outcome (s1.armAngle p a)
    let s2 := (s1.toHub p a (.completion p.val a.val r)).updFmt p a (fun f =>
      { f.rest with lastRecord := r, endedCount := if countsAsEnded outcome then sat32 f.endedCount 1 else f.endedCount })
    let s3 := s2.updArm p a (fun x => x.mapLanes (fun l =>
      { l with chan := { l.chan with noMoreWrites := false, waiting := none } }))
    let s4 := s3.trimActive p a
    if (s4.arm p a).writing then s4 else s4.disarm p a
  else s

/-- A routine ends with an outcome of its own; the sectors left are cancelled with the cancel's, else not completed (R182, R206). -/
def State.endRoutine (s : State) (p : PackId) (a : ArmId) (outcome : Nat) : State :=
  s.closeRoutine p a (if outcome = 0x1A then 0x21 else 0x20) (fun _ => outcome)

/-- A request that is not run ends at once (R200, R221). -/
def State.refuseRequest (s : State) (p : PackId) (a : ArmId) (req : List Byte) (outcome : Nat) : State :=
  let f := ({} : Formatter).enter req
  let r := completionRecord { f with runs := [] } outcome (s.armAngle p a)
  (s.toHub p a (.completion p.val a.val r)).updFmt p a (fun f =>
    { f with lastRecord := r, endedCount := if countsAsEnded outcome then sat32 f.endedCount 1 else f.endedCount })

/-- The formatter enters fault state: its routine and every request it holds end with 0x17 (R206, R221). Its sequencer
raises the fault of the pack's condition. -/
def State.formatterFault (s : State) (p : PackId) (a : ArmId) : State :=
  let s1 := ((s.endRoutine p a 0x17).dropSixes p a 0xFFFF).updFmt p a (fun f => { f with fault := true })
  let f := (s1.arm p a).fmt
  let mine := fun b : BackRequest => b.pack == p.val && b.arm == a.val
  let s2 := (f.queue ++ f.linkHeld ++ (s1.store.back.filter mine).map (fun b => b.req)).foldl (fun s r => s.refuseRequest p a r 0x17)
    ((s1.updFmt p a (fun f => { f with queue := [], linkHeld := [] })).updStore (fun t => { t with back := t.back.filter (fun b => !mine b) }))
  s2.raisePack p 2

/-! ### Parks and Gale retracts -/

/-- The running routine is the UNLOAD routine of R211, whose park does not end it. -/
def Formatter.unloading (f : Formatter) : Bool := f.running && reqRoutine f.req = 5

/-- A park request (R259 to R261): the arm parks and its routine ends with 0x18; an UNLOAD routine goes on. On the loss of the time base
open write gates run on (R45). -/
def State.parkArmBy (s : State) (p : PackId) (a : ArmId) (cut : Bool) : State :=
  if (s.arm p a).servo.mode.parkable then
    let s1 := (s.parkServo p a cut).dropSixes p a 0xFFFF
    if (s1.arm p a).fmt.unloading then s1 else s1.endRoutine p a 0x18
  else s

/-- A park request that stops writes at once. -/
def State.parkArm (s : State) (p : PackId) (a : ArmId) : State := s.parkArmBy p a true

/-- Both arms of a pack. -/
def State.parkPack (s : State) (p : PackId) : State := (s.parkArm p 0).parkArm p 1

/-- Every arm of the device parks. -/
def State.parkAll (s : State) : State := (List.finRange 32).foldl State.parkPack s

/-- A Gale trigger on an arm; its routine ends with 0x18 (R206, R264, assumption 10). -/
def State.galeArm (s : State) (p : PackId) (a : ArmId) (outs miscompare : Bool) : State :=
  if (s.arm p a).servo.mode.loaded then ((s.galeServo p a outs miscompare).dropSixes p a 0xFFFF).endRoutine p a 0x18
  else s.galeServo p a outs miscompare

/-- Gale retract on both arms of a pack. -/
def State.galePack (s : State) (p : PackId) (outs miscompare : Bool) : State :=
  (s.galeArm p 0 outs miscompare).galeArm p 1 outs miscompare

/-- The link is lost (R86): lanes hold their pairs idle, the arm parks, and the link is retrained. -/
def State.loseLink (s : State) (p : PackId) (a : ArmId) : State :=
  let s1 := ((s.barWrites p a 0xFFFF).updLink p a (fun l => { l with state := .training, attempts := 0, unechoed := [] }))
  let s2 := ((s1.parkArm p a).dropSixes p a 0xFFFF).endRoutine p a 0x18
  s2.updServo p a (fun v => { v with armedSent := 0, armedEchoed := 0, reloadPending := true })

end Sys2Proof.Machine
end

