-- ==== Sys2Proof/Machine/PackOps.lean ====
section
/-! DEFINITION. Pack states (R88 to R99): changes and their records, Failed with its cause, spin-up requests and the
admission pass, and the start and stop of a spindle (R282 to R288). -/

namespace Sys2Proof.Machine

/-- The code of a pack state (R88). -/
def PackState.code : PackState → Nat
  | .absent => 0 | .present => 1 | .verified => 2 | .spinning => 3 | .loaded => 4
  | .ready => 5 | .draining => 6 | .spent => 7 | .failed => 8 | .retired => 9

/-- Changes a pack's spindle. -/
def State.updSpin (s : State) (p : PackId) (f : Spindle → Spindle) : State :=
  s.updPack p (fun k => { k with spindle := f k.spindle })

/-- Changes a motor bus. -/
def State.updBus (s : State) (x : BusId) (f : Bus → Bus) : State :=
  { s with buses := s.buses.set x.val (f s.buses[x]) x.isLt }

/-- A pack changes its state: the event record of R553 type 0x20, and what its span makes of it. -/
def State.setPackState (s : State) (p : PackId) (n : PackState) : State :=
  let old := s.packs[p].state
  if old = n then s
  else
    let s1 := (s.updPack p (fun k => { k with state := n })).mirror (.pack p.val n.code)
    (s1.record
      { type := 0x20, pack := p.val, code := n.code * 256 + old.code,
        detail := detailAt 0x24 s1.packs[p].cause + detailAt 0x26 (min s1.packs[p].lifeMille 65535)
          + detailAt 0x28 (match s1.packs[p].identity with | some i => i.uniqueId | none => 0) }).noteSpans

/-! ### Spindle -/

/-- Counts of the speed checks start afresh (R280). -/
def Spindle.fresh (x : Spindle) : Spindle :=
  { x with inWindowRun := 0, overRun := 0, devRun := 0, inWindow := false }

/-- The spindle starts at a grant (R282, R286, R296): from Off through Watch with the motor part copied (R297), from Stop
or to a higher speed from the present speed. -/
def Spindle.start (x : Spindle) (speed : Nat) (motor : List (Nat × Nat)) : Spindle :=
  match x.state with
  | .off =>
    { x.fresh.gatesOff with
      state := .watch, target := speed, motor := motor, attempts := 0, stopDue := false,
      stopAfterBrake := false, stopTo := none, spinningUp := true }
  | .stop => { x.fresh with state := .accelerate, target := speed, stopDue := false, stopTo := none, shortBrake := false,
                            spinningUp := true }
  | .atSpeed => { x.fresh with state := .accelerate, target := speed, stopDue := false, stopTo := none, spinningUp := true }
  | _ => x

/-- A stop trigger (R287): the controlled stop begins when the arms allow it. A pack that was spinning up counts no more
(R99). -/
def Spindle.stop (x : Spindle) : Spindle :=
  let y := { x with spinningUp := false }
  match x.state with
  | .off => y
  | .freewheel => y
  | .faultBrake => y
  | .stop => { y with stopTo := none }
  | .brake => { y with stopAfterBrake := true }
  | _ => { y with stopDue := true }

/-- Off (R282, R298): no speed in use, the commutation offset is forgotten (R278). A pack that spins up counts on (R99). -/
def Spindle.off (x : Spindle) : Spindle :=
  { x.fresh.gatesOff with
    state := .off, target := 0, ref := 0, forced := 0, forcedFrac := 0, agreeRun := 0, byBus := false, stopDue := false,
    stopAfterBrake := false, stopTo := none, shortBrake := false, commutation := 0, offsetKnown := false, learning := false,
    qSet := 0, dInteg := 0, qInteg := 0, sInteg := 0, vd := 0, vq := 0, forcedAngle := 0, feed := 0, caught := none }

/-- Gates off while turning (R282). The pack still counts as spinning up where it did (R99). -/
def Spindle.freewheelBy (x : Spindle) (bus : Bool) : Spindle :=
  if x.state = .off then x
  else if x.state = .freewheel then { x with byBus := x.byBus && bus }
  else { x.fresh.gatesOff with state := .freewheel, byBus := bus, stopDue := false, stopTo := none, qSet := 0 }

/-! ### Spin-up -/

/-- The conditions of R97 on pack and device. -/
def State.spinWanted (s : State) (p : PackId) : Bool :=
  let k := s.packs[p]
  (k.state = .verified || k.state = .draining || k.state = .spent) && s.dev.state.running
    && !k.removable && !k.sensors.hold && !k.sensors.cold
    && !s.buses[busOf p].fault && !s.buses[busOf p].freewheel

/-- The spindle has a start to make: it is Off or stopping, or At speed below the speed chosen (R97, R286, R296). -/
def State.spinNeeded (s : State) (p : PackId) : Bool :=
  let x := s.packs[p].spindle
  x.state = .off || x.state = .stop || (x.state = .atSpeed && decide (x.target < s.chosenSpeed p))

/-- A change of a turning spindle's speed takes place only with both arms down (R47, R296). -/
def State.spinReady (s : State) (p : PackId) : Bool := s.packs[p].spindle.state ≠ .atSpeed || s.packs[p].armsDown

/-- Packs spinning up on the device, or on a bus (R98, R99). -/
def State.spinningCount (s : State) (on : PackId → Bool) : Nat :=
  ((List.finRange 32).filter (fun p => on p && s.packs[p].spindle.spinningUp)).length

/-- Both counts of R98 allow one more pack. -/
def State.spinRoom (s : State) (p : PackId) : Bool :=
  decide (s.spinningCount (fun _ => true) < s.param 0x7020 1)
    && decide (s.spinningCount (fun q => busOf q = busOf p) < s.param 0x7020 2)

/-- The motor part of the set that names the pack's model (R297). -/
def State.motorSet (s : State) (p : PackId) : List (Nat × Nat) :=
  match s.packs[p].identity with
  | some i => match s.modelSet i.modelCode with
    | some k => (s.copySet k).filter (fun x => 0x1800 ≤ x.1 && x.1 < 0x1E00)
    | none => []
  | none => []

/-- A request is granted: a Verified pack goes to Spinning, and the spindle starts (R90, R98). A bus that holds at or
above its freewheel threshold takes the spindle at once (R282). -/
def State.grantSpin (s : State) (p : PackId) : State :=
  let s1 := if s.packs[p].state = .verified then s.setPackState p .spinning else s
  (s1.updSpin p (fun x => x.start (s.chosenSpeed p) (s.motorSet p)))

/-- One admission pass over the requests named (R98): each that fits is granted, the rest stay queued in order; a change of speed also
waits for the arms (R47). -/
def State.passOver (s : State) : List PackId → State
  | [] => s
  | p :: l =>
    if ¬ (s.spinWanted p && s.spinNeeded p) then s.passOver l
    else if s.spinRoom p && s.spinReady p then (s.grantSpin p).passOver l
    else ({ s with spinQueue := s.spinQueue ++ [p] }).passOver l

/-- An admission pass (R98, R99). A request whose conditions have ceased is withdrawn. -/
def State.admissionPass (s : State) : State := ({ s with spinQueue := [] }).passOver s.spinQueue

/-- The pack no longer counts as spinning up, nor waits (R99). -/
def State.releaseSpin (s : State) (p : PackId) : State :=
  { s.updSpin p (fun x => { x with spinningUp := false }) with spinQueue := s.spinQueue.filter (fun q => q ≠ p) }

/-! ### Leaving service -/

/-- A pack that leaves Spinning, Loaded or Ready for Verified: arms unloaded, spindle stopped (R90, R260, R287). -/
def State.packToVerified (s : State) (p : PackId) : State :=
  (((s.releaseSpin p).setPackState p .verified).parkPack p).updSpin p Spindle.stop

/-- A state in which a pack condition takes the pack to Failed (R90). -/
def PackState.inService : PackState → Bool
  | .present | .verified | .spinning | .loaded | .ready | .draining | .spent => true
  | _ => false

/-- A pack goes to Failed (R90): arms parked, spindle stopped by a controlled stop where R287 has one, its span
informed, the fault of R489 k = 3 raised. -/
def State.packFail (s : State) (p : PackId) (cause : Nat) : State :=
  if s.packs[p].state.inService then
    let s1 := ((s.releaseSpin p).updPack p (fun k => { k with cause := cause })).setPackState p .failed
    let s2 := ((s1.raisePack p 3).parkPack p).send (.packLost p.val)
    (if cause = 12 ∨ cause = 13 then s2 else s2.updSpin p Spindle.stop).admissionPass
  else s

/-- With both arms of a pack out it goes to Failed with the cause of R265. -/
def State.checkOut (s : State) (p : PackId) : State :=
  if s.packs[p].bothOut then s.packFail p s.packs[p].outCause else s

/-- A Spinning pack whose speed is in its window, with an arm loaded whose skews are measured, is Loaded (R90). -/
def State.checkLoaded (s : State) (p : PackId) : State :=
  let k := s.packs[p]
  if k.state = .spinning ∧ k.spindle.inWindow ∧ k.tb.state = .locked ∧ k.arms.any (fun x => x.servo.mode.onTrack && !x.servo.justLoaded) then
    s.setPackState p .loaded
  else s

/-- A lane is Removed (R50, R87, R165, R182): quality code 4 until the arm next loads; the sectors it was to deliver end not completed, and
its write gate closes. -/
def State.removeLane (s : State) (p : PackId) (a : ArmId) (h : HeadId) : State :=
  if (s.lane p a h).health.quality = 4 then s
  else ((((s.updChan p a h Channel.dropRead).barWrites p a (laneBit h)).dropSixes p a (laneBit h)).stopLane p a h 0x20).setQuality p a h 4

/-! ### Loading and the next routine -/

/-- A load failure (R250, R262): counted; after three in a row the arm is out, which raises the pack's condition. -/
def State.countLoadFailure (s : State) (p : PackId) (a : ArmId) : State :=
  let s1 := s.updServo p a (fun v =>
    { v with loadFailures := sat32 v.loadFailures 1, loadFailRun := v.loadFailRun + 1, outLoad := v.outLoad || decide (3 ≤ v.loadFailRun + 1) })
  if (s1.arm p a).servo.outLoad ∧ ¬ (s.arm p a).servo.outLoad then (s1.raisePack p 2).checkOut p else s1

/-- The elements of the preamplifier load list up to the first zero (R454, R456). -/
def loadList (c : List (Nat × Nat)) : List Nat :=
  ((List.range 32).map (fun i => coefAt c 0x31 (i + 1))).takeWhile (fun v => v ≠ 0)

/-- Sends one element: once when arm-wide, otherwise for each head (R456). -/
def State.sendElement (s : State) (p : PackId) (a : ArmId) (v : Nat) : State :=
  if v.testBit 8 then s.sendNumbered p a (regFrame 0 (v % 256) true true (v / 2 ^ 16))
  else (List.range 16).foldl (fun s h => s.sendNumbered p a (regFrame h (v % 256) true false (v / 2 ^ 16))) s

/-- WAKE, then the load list of the set (R456). -/
def State.wakePreamp (s : State) (p : PackId) (a : ArmId) : State :=
  (loadList (s.arm p a).servo.coef).foldl (fun s v => s.sendElement p a v) (s.sendCmd p a 5 0)

/-- The LOAD routine starts an arm load (R230, R250, R258); a set that fails its checks fails the pack (R90). An arm that
may not load stays as it is. -/
def State.loadArm (s : State) (p : PackId) (a : ArmId) : State :=
  if s.mayLoad p a then
    match s.setFits p with
    | some k =>
      let s1 := (List.finRange 16).foldl (fun s h => s.setQuality p a h 0) s
      ((s1.loadServo p a k).applyArrays p a).wakePreamp p a
    | none => s.packFail p 4
  else s

/-- A routine that starts an arm's mechanics: LOAD and UNLOAD of the standard library (R211, R250, R260). -/
def State.routineMechanics (s : State) (p : PackId) (a : ArmId) : State :=
  let f := (s.arm p a).fmt
  if f.running ∧ reqRoutine f.req = 4 then s.loadArm p a
  else if f.running ∧ reqRoutine f.req = 5 then s.parkServo p a true
  else s

/-- An arm that is not kept is unloaded at its idle point (R480). -/
def State.idlePoint (s : State) (p : PackId) (a : ArmId) : State := if s.armKept p a then s else s.parkServo p a true

/-- Routine time that background work is still owed on an arm in its window (R339). -/
def BackWindow.owed (w : BackWindow) : Bool := decide (w.used.foldl (· + ·) 0 < w.total)

/-- The window of an arm. -/
def State.backWindow (s : State) (p : PackId) (a : ArmId) : Option BackWindow :=
  s.store.windows.find? (fun w => w.pack = p.val ∧ w.arm = a.val)

/-- What is left of a kind's part of the window: a kind of weight 0 has none. -/
def BackWindow.left (w : BackWindow) (kind : Nat) : Int := (w.parts.getD kind 0 : Int) - w.used.getD kind 0

/-- The background request that an arm's formatter takes next: of the kind with the most left of its part, kinds of weight 0 only when none of
another waits; each kind in order (R339). -/
def State.nextBack (s : State) (p : PackId) (a : ArmId) : Option BackRequest :=
  let mine := s.store.back.filter (fun b => b.pack = p.val ∧ b.arm = a.val)
  let weighed := mine.filter (fun b => s.param 0x2010 (2 + b.kind) != 0)
  let left : Nat → Int := fun k => match s.backWindow p a with | some w => w.left k | none => 0
  match (if weighed.isEmpty then mine else weighed) with
  | [] => none
  | b :: l => some (l.foldl (fun x y => if left x.kind < left y.kind then y else x) b)

/-- The formatter starts a request; `back` is the kind of background work it belongs to. -/
def State.startRequest (s : State) (p : PackId) (a : ArmId) (r : List Byte) (rest held : List (List Byte)) (back : Option Nat) : State :=
  let f := (s.arm p a).fmt
  let other := (s.arm p (otherArm a)).fmt
  let six := f.sixes.find? (fun x => stepSixRequest other x.1 x.2 = r)
  let s1 := s.updArm p a (fun x =>
    { x with
      fmt := { x.fmt.enter r with
        restarts := 0, uncounted := 0, queue := rest, linkHeld := held, back := back, since := s.now,
        six := six, sixes := f.sixes.filter (fun y => some y ≠ six) } })
  s1.routineMechanics p a

/-- The formatter starts a background request that waited in the hub. -/
def State.startBack (s : State) (p : PackId) (a : ArmId) (b : BackRequest) : State :=
  let f := (s.arm p a).fmt
  ({ s with store := { s.store with back := s.store.back.erase b } }).startRequest p a b.req f.queue f.linkHeld (some b.kind)

/-- An idle formatter takes its next request; a request held on the link moves into the freed place (R201). A formatter in
fault state refuses it (R221). A request of the tile's own for ladder step 6 reads a sector of the other arm (R179). During a
fail-over new routines wait (R25). Background work goes first while its share of the window is owed, and else only when no host routine
waits (R339). -/
def State.kick (s : State) (p : PackId) (a : ArmId) : State :=
  let f := (s.arm p a).fmt
  if f.running ∨ f.fault ∨ s.clusters.failOver.isSome then s
  else
    let due : Bool := match s.backWindow p a with | some w => w.owed | none => false
    match nextRequest f.queue, s.nextBack p a with
    | some (r, rest), b =>
      match (if due ∧ ¬ reqPriority r then b else none) with
      | some b => s.startBack p a b
      | none => s.startRequest p a r (rest ++ f.linkHeld.take 1) (f.linkHeld.drop 1) none
    | none, some b => s.startBack p a b
    | none, none => s.idlePoint p a

/-- Both arms of a pack. -/
def State.kickPack (s : State) (p : PackId) : State := (s.kick p 0).kick p 1

/-- Both arms of every pack. -/
def State.kickAll (s : State) : State := (List.finRange 32).foldl State.kickPack s

/-- A microcode fault of a running routine (R198, R206, R221). -/
def State.microFault (s : State) (p : PackId) (a : ArmId) : State := s.formatterFault p a

/-! ### Lockstep (R229, R266) -/

/-- A word of core 1 that differs from core 0's is a miscompare (R229, R266): the tile's engine is
out, lanes idle, Gale retract on every loaded arm, empty masks on the links, routines ended, the four packs failed. -/
def State.miscompare (s : State) (t : TileId) : State :=
  if s.tiles[t].servoOut then s
  else
    let l := packsOfTile t
    let arms := l.flatMap (fun p => [(p, (0 : ArmId)), (p, (1 : ArmId))])
    let s1 := arms.foldl (fun s x => s.idleWrites x.1 x.2) (s.updTile t (fun x => { x with servoOut := true }))
    let s2 := arms.foldl (fun s x => s.galeServo x.1 x.2 false true) s1
    let s3 := arms.foldl (fun s x => (s.sendCmd x.1 x.2 2 0).sendCmd x.1 x.2 3 0) s2
    let s4 := arms.foldl (fun s x => s.endRoutine x.1 x.2 0x18) s3
    let s5 := s4.raise (40 + t.val)
    l.foldl (fun s p => (s.packFail p 14).kickPack p) s5

/-- An output word of the engine leaves it only when core 1 formed the same one (R229): otherwise a miscompare takes its place. -/
def State.compared (s : State) (t : TileId) (same : Bool) (f : State → State) : State := if same then f s else s.miscompare t

/-! ### Packs emptied of leaves (R90, R341) -/

/-- A pack goes to Retired: arms unloaded, spindle stopped, the flag written where the memory answers (R90). -/
def State.retirePack (s : State) (p : PackId) : State :=
  let s1 := ((s.releaseSpin p).updPack p (fun k => { k with life := { k.life with retired := true } })).setPackState p .retired
  ((((s1.parkPack p).updSpin p Spindle.stop).saveLife p).kickPack p).admissionPass

/-- A leaf of a stripe lies on a pack. -/
def Stripe.onPack (t : Stripe) (p : Nat) : Bool := t.locs.any (fun l => match l with | some v => v.pack == p | none => false)

/-- No stripe names a pack: neither a live one nor one that a committed version rests on (R333, R341). -/
def State.packEmpty (s : State) (p : Nat) : Bool :=
  (List.finRange 8).all (fun x : Fin 8 =>
    let y := s.store.spans[x]
    let rests := fun t : Stripe => t.onPack p && namedBy s.store.disk.objs x.val t.addr
      && !y.live.any (fun u => u.addr == t.addr && u.gen == t.gen)
    !y.live.any (fun t => t.onPack p) && !s.store.disk.spans[x].stripes.any rests)
    && !s.store.writes.any (fun w => w.loc.pack == p)

/-- A Draining or Spent pack that no stripe of an open store names goes to Retired (R90, R341). -/
def State.noteEmpty (s : State) : State :=
  if ¬ s.store.isOpen then s
  else (List.finRange 32).foldl (fun s p =>
    if (s.packs[p].state = .draining ∨ s.packs[p].state = .spent) ∧ s.packEmpty p.val then s.retirePack p else s) s

end Sys2Proof.Machine
end

