-- ==== Sys2Proof/Machine/RingOps.lean ====
section
/-! DEFINITION. Rings and chains (R359, R372 to R377, R380, R383, R504): status blocks, head words, completion of a framed
command, a ring that enters Fatal. -/

namespace Sys2Proof.Machine

/-! ### Connections, rings and commands by number -/

/-- The ring with a number. -/
def State.ring? (s : State) (n : Nat) : Option Ring := s.host.rings.find? (fun r => r.num = n)

/-- The ring at a local index of a connection (R358). -/
def State.ringAt? (s : State) (conn loc : Nat) : Option Ring := s.host.rings.find? (fun r => r.conn = conn ∧ r.loc = loc)

/-- Changes a ring. -/
def State.updRing (s : State) (n : Nat) (f : Ring → Ring) : State :=
  s.updHost (fun h => { h with rings := h.rings.map (fun r => if r.num = n then f r else r) })

/-- Changes a host port. -/
def State.updPort (s : State) (q : PortId) (f : Port → Port) : State :=
  s.updHost (fun h => { h with ports := h.ports.set q.val (f h.ports[q]) q.isLt })

/-- Changes the entry of a command. -/
def State.updCmd (s : State) (ring slot : Nat) (f : CmdEntry → CmdEntry) : State :=
  { s with svc := { s.svc with cmds := s.svc.cmds.map (fun c => if c.ring = ring ∧ c.slot = slot then f c else c) } }

/-- Slots that the next chain of a ring takes, from its first descriptor: a slot that cannot begin a chain counts alone. -/
def chainLen (l : List Byte) : Nat :=
  let n := fieldAt l 2 1
  if (fieldAt l 1 1).testBit 0 ∧ 1 ≤ n ∧ n ≤ 32 then n else 1

/-- Slots from C up to P. -/
def Ring.waiting (r : Ring) : Nat := (r.prod + 2 ^ 32 - r.cons) % 2 ^ 32

/-- Address of a ring's slot in host memory (R358, R359). -/
def Ring.slotAddr (r : Ring) (i : Nat) : Nat := r.addr + 64 * (i % 2 ^ r.size)

/-- The code of a ring's state in its head word (R375). -/
def RingState.code : RingState → Nat
  | .active => 0
  | .fatal c => c
  | .deleting => 0

/-! ### Writes to the host -/

/-- The controller writes no status or head word any more: arbiter failure or device stop (R386, R506, R511), nor without the
100 MHz reference (R28). -/
def State.hostStopped (s : State) : Bool := s.arbiter.failed || s.arbiter.stopped || s.ref100Lost

/-- A cluster serves the dictionary, or will when it releases the hub (R462, R466). -/
def State.fullServer (s : State) : Bool := s.clusters.active.isSome || s.clusters.failOver.isSome

/-- The fit standby has not acknowledged every mirror record issued (R504). -/
def State.mirrorOwed (s : State) : Bool := s.standbyFit && decide (s.clusters.mirrorApplied < s.clusters.mirrorSent)

/-- A write of a status block or a head word goes out, unless it is held: during a fail-over (R387), behind a held write, or, with a fit standby,
while mirror records are not yet acknowledged, but for the status of a command that issued none (R504). -/
def State.hostOut (s : State) (o : HostMsg) (mirrored : Bool) : State :=
  if s.hostStopped then s
  else if s.clusters.failOver.isSome ∨ ¬ s.mirrorHeld.isEmpty
      ∨ (mirrored ∧ s.mirrorOwed) then
    { s with mirrorHeld := s.mirrorHeld ++ [(o, s.clusters.mirrorSent)] }
  else s.sendHost o

/-- A head word (R375). -/
def Ring.headWord (r : Ring) : List Byte := natBytes 4 r.head ++ natBytes 2 r.num ++ natBytes 1 r.state.code ++ natBytes 1 0

/-- Writes a ring's head word, with immediate data on a notify ring (R375, R377). -/
def State.sendHead (s : State) (r : Ring) : State :=
  s.hostOut (.write r.conn r.headAddr r.headKey r.headWord (if r.notify then some r.num else none)) true

/-- The chains that have completed at the front: the head they make publishable, and the chains left (R376). -/
def advanceHead : Nat → List Chain → Nat × List Chain
  | h, [] => (h, [])
  | h, c :: l => if c.done then advanceHead ((c.first + c.len) % 2 ^ 32) l else (h, c :: l)

/-- A ring's positions go to the standby (R503). -/
def State.mirrorRing (s : State) (n : Nat) : State :=
  match s.ring? n with
  | none => s
  | some r => s.mirror (.ring n r.prod r.cons r.head)

/-- Publishes the head index of a ring that has a new one (R376). Nothing is published while the hub is held, a status block is, or the head word
would be (R387, R504). -/
def State.publish (s : State) (n : Nat) : State :=
  match s.ring? n with
  | none => s
  | some r =>
    let (h, left) := advanceHead r.head r.chains
    if h = r.head ∨ s.clusters.failOver.isSome ∨ ¬ s.mirrorHeld.isEmpty ∨ s.mirrorOwed ∨ s.hostStopped then s
    else
      let r' := { r with head := h, chains := left, rnr := 0 }
      ((s.updRing n (fun _ => r')).sendHead r').mirrorRing n

/-! ### Completion -/

/-- The 16-byte status block (R372). -/
def statusBlock (status size value : Nat) : List Byte := natBytes 2 status ++ natBytes 5 size ++ natBytes 1 0 ++ natBytes 8 value

/-- A command gives up its key lock, or its place in the order of waiting (R325). -/
def State.dropLocks (s : State) (ring slot : Nat) : State :=
  { s with store := { s.store with
      locks := (s.store.locks.map (fun k =>
        { k with holder := k.holder.filter (fun x => x ≠ (ring, slot)), waiters := k.waiters.filter (fun x => x ≠ (ring, slot)) })).filter
          (fun k => k.holder.isSome || !k.waiters.isEmpty) } }

/-- What the store holds for a command's reads goes with its completion (R324). -/
def State.endReads (s : State) (ring slot : Nat) : State :=
  { s with store := { s.store with reads := s.store.reads.filter (fun j => j.who ≠ some (ring, slot)),
                                   gets := s.store.gets.filter (fun g => ¬(g.ring = ring ∧ g.slot = slot)) } }

/-- INDEX_FULL and DATA_LOST completions are counted (R346). -/
def State.countStatus (s : State) (status : Nat) : State :=
  { s with store := { s.store with indexFull := if status = 0x30 then sat32 s.store.indexFull 1 else s.store.indexFull,
                                   dataLost := if status = 0x34 then sat32 s.store.dataLost 1 else s.store.dataLost } }

/-- A framed command completes: its status block is written into its first slot, it is no longer in flight, and with a
coalesce time of 0 the head is published at once (R373, R376, R380, R504). The ring may be gone with its connection (R385). -/
def State.completeWith (s : State) (ring slot status size value : Nat) : State :=
  let mirrored := match s.svc.cmd ring slot with | some c => c.mirrored | none => false
  let s1 := (({ s with svc := { s.svc with cmds := s.svc.cmds.filter (fun c => ¬(c.ring = ring ∧ c.slot = slot)) } }.dropLocks ring slot).endReads
    ring slot).countStatus status
  match s1.ring? ring with
  | none => s1
  | some r =>
    let s2 := if s1.standbyFit then s1
      else { s1 with clusters := { s1.clusters with noStandbyCompletions := sat64 s1.clusters.noStandbyCompletions 1 } }
    let s3 := s2.hostOut (.write r.conn (r.slotAddr slot + 0x30) r.key (statusBlock status size value) none) mirrored
    let s4 := s3.updRing ring (fun r =>
      { r with chains := r.chains.map (fun c => if c.first = slot then { c with done := true } else c) })
    if r.coalesce = 0 then s4.publish ring else s4

/-- A command that ends with a status and nothing to add. -/
def State.completeCommand (s : State) (ring slot status : Nat) : State := s.completeWith ring slot status 0 0

/-! ### Ring-fatal -/

/-- Registers an abort against every framed command of a ring that has not committed (R383, R384). The slots not framed are
dropped, with the aborts registered against them. -/
def State.abortRing (s : State) (n : Nat) : State :=
  let framed := fun slot : Nat => s.host.rings.any (fun r => r.num = n && r.chains.any (fun c => c.first = slot))
  (s.updSvc (fun v => { v with
      cmds := (v.cmds.filter (fun c => c.ring ≠ n || framed c.slot)).map (fun c =>
        if c.ring = n ∧ ¬ c.committed then { c with aborted := true } else c) })).waitChecks

/-- The context that frames a ring's next chain is free again, and what it read is dropped (R383, R384). -/
def State.dropFraming (s : State) (n : Nat) : State :=
  match s.ring? n with
  | none => s
  | some r =>
    let s0 := s.updRing n (fun r => { r with framing := none, fetched := [], reading := 0, skip := 0 })
    let s1 := s0.updSvc (fun v => { v with tokens := v.tokens.filter (fun t => ¬(t.engine = 4 ∧ t.ring = n ∧ t.slot = r.cons)) })
    match r.framing with
    | none => s1
    | some (q, c) =>
      { s1 with svc := { s1.svc with
          seqs := s1.svc.seqs.set q.val { s1.svc.seqs[q] with ctx := s1.svc.seqs[q].ctx.set c.val {} c.isLt } q.isLt } }

/-- A service sequencer fails while one of its contexts brings a chain in: the chain counts as framed, over the slots that its first
descriptor names, or one where that has not been read (R221, R371; DESIGN CHOICE: log entry 134). Slots read beyond them keep what was read,
and no slot is read again (R359). -/
def State.faultFraming (s : State) (q : SeqId) : State :=
  let s1 := s.updHost (fun h => { h with rings := h.rings.map (fun r =>
    match r.framing with
    | some (k, _) =>
      if k = q then
        let len := max 1 (min (chainLen r.fetched) r.waiting)
        { r with cons := (r.cons + len) % 2 ^ 32, framing := none, fetched := r.fetched.drop (64 * len),
                 skip := min r.reading (r.skip + (64 * len - r.fetched.length)),
                 chains := r.chains ++ [{ first := r.cons, len := len }] }
      else r
    | none => r) })
  (s.host.rings.filter (fun r => match r.framing with | some (k, _) => k = q | none => false)).foldl (fun s r => s.mirrorRing r.num) s1

/-- A ring enters Fatal (R383, R389): its record, the aborts, and a head word without a change of HEAD. -/
def State.ringFatal (s : State) (n cause : Nat) : State :=
  match s.ring? n with
  | none => s
  | some r =>
    let s1 := s.updRing n (fun r => { r with state := .fatal cause })
    let s2 := s1.record { type := 0x41, code := cause, subject := n, detail := detailAt 0x24 r.prod + detailAt 0x28 r.head }
    let s3 := (s2.updHost (fun h => { h with fatals := sat32 h.fatals 1 })).dropFraming n
    (s3.abortRing n).sendHead { r with state := .fatal cause }

/-! ### Connection end -/

/-- The host side and the connection of a mover descriptor (R430). -/
def descHost (d : List Byte) : Bool := fieldAt d 2 1 % 4 = 1 || fieldAt d 2 1 / 4 % 4 = 1
def descConn (d : List Byte) : Nat := fieldAt d 6 2

/-- Framed commands of the rings named that have not committed are aborted and leave nothing behind: contexts, context blocks,
tokens, reads and places in key-lock queues (R385). -/
def State.dropCommands (s : State) (rings : List Nat) : State :=
  let gone := s.svc.cmds.filter (fun c => rings.contains c.ring && !c.committed)
  let isGone := fun (r i : Nat) => gone.any (fun c => c.ring = r ∧ c.slot = i)
  { s with
    svc := { s.svc with
      cmds := s.svc.cmds.filter (fun c => !(rings.contains c.ring) || c.committed),
      tokens := s.svc.tokens.filter (fun t => !isGone t.ring t.slot),
      suspended := s.svc.suspended.filter (fun b => !isGone b.ctx.ring b.ctx.slot),
      seqs := s.svc.seqs.map (fun q => { q with ctx := q.ctx.map (fun x => if x.busy && isGone x.ring x.slot then {} else x) }) },
    store := { s.store with
      reads := s.store.reads.filter (fun j => match j.who with | some x => !isGone x.1 x.2 | none => true),
      locks := s.store.locks.map (fun k =>
        { k with holder := k.holder.filter (fun x => !isGone x.1 x.2), waiters := k.waiters.filter (fun x => !isGone x.1 x.2) }) } }

/-- Frees the dictionary lock with its record (R469): code 1 lease ended, 2 connection ended. -/
def State.freeLock (s : State) (code : Nat) : State :=
  ({ s with lock := { s.lock with holder := 0 } }).record { type := 0x50, code := code, detail := detailAt 0x24 s.lock.holder }

/-- Movers stop using an ended connection: descriptors that run complete with `status` (R438). -/
def State.stopMovers (s : State) (conn status : Nat) : State :=
  { s with movers := s.movers.map (fun v =>
      { v with running := v.running.map (fun r =>
          if descHost r.req.desc ∧ descConn r.req.desc = conn ∧ r.status = 0 then { r with status := status, readsDone := true } else r) }) }

/-- A connection ends (R385, R389, R438, R469): causes are those of record type 0x40. The controller sends DREQ when it ends
the connection itself and the link can carry it. -/
def State.endConn (s : State) (n cause : Nat) : State :=
  match s.conn? n with
  | none => s
  | some c =>
    let mine := (s.host.rings.filter (fun r => r.conn = n)).map (fun r => r.num)
    let s1 := mine.foldl State.dropFraming s
    let s2 := (s1.dropCommands mine).stopMovers n (if cause = 2 then 5 else 6)
    let s3 := s2.updHost (fun h =>
      { h with conns := h.conns.filter (fun x => x.num ≠ n), rings := h.rings.filter (fun r => r.conn ≠ n),
               waiting := h.waiting.filter (fun x => x.2.onQp1 || x.2.conn != n), ended := if cause = 1 then h.ended else sat32 h.ended 1 })
    let s4 := { s3 with mirrorHeld := s3.mirrorHeld.filter (fun x => x.1.conn ≠ n) }
    let s5 := s4.record { type := 0x40, code := cause, subject := n,
                          detail := detailAt 0x24 c.source + detailAt 0x34 c.qp + detailAt 0x38 c.port.val + detailAt 0x39 c.sub.val }
    let s6 := if s.lock.holder = 0x100 + n then s5.freeLock 2 else s5
    if cause = 1 ∨ cause = 7 then s6 else s6.sendCm c.port c.sub c.source 3 n []

/-- Every connection ends (R386). -/
def State.endAllConns (s : State) (cause : Nat) : State :=
  (s.host.conns.map (fun c => c.num)).foldl (fun s n => s.endConn n cause) s

end Sys2Proof.Machine
end

