-- ==== Sys2Proof/Machine/Micro.lean ====
section
/-! DEFINITION. Microwords and the two kinds of sequencer (R192 to R199, R215, R216, R221, R222): fields, legality, fetch,
conditions, safe points, and the registers of an engine. -/

namespace Sys2Proof.Machine

/-! ### Microword -/

/-- The fields of a microword (R193). -/
structure Word where
  opc : Nat
  cond : Nat
  cneg : Bool
  safe : Bool
  reserved : Nat
  rd : Fin 16
  ra : Fin 16
  rb : Fin 16
  immb : Bool
  msrc : Bool
  target : Nat
  sel : Nat
  mask : Nat
  imm : Reg64
  deriving DecidableEq, Repr

/-- Splits a microword into its fields (R193). -/
def splitWord (m : Microword) : Word :=
  let v := m.toNat
  { opc := v / 2 ^ 122, cond := v / 2 ^ 117 % 32, cneg := v.testBit 116, safe := v.testBit 115,
    reserved := v / 2 ^ 112 % 8, rd := ⟨v / 2 ^ 108 % 16, by omega⟩, ra := ⟨v / 2 ^ 104 % 16, by omega⟩,
    rb := ⟨v / 2 ^ 100 % 16, by omega⟩, immb := v.testBit 99, msrc := v.testBit 98, target := v / 2 ^ 84 % 2 ^ 14,
    sel := v / 2 ^ 80 % 16, mask := v / 2 ^ 64 % 2 ^ 16, imm := BitVec.ofNat 64 v }

/-- A microword of its fields (R193). -/
def Word.pack (w : Word) : Microword :=
  BitVec.ofNat 128 (w.opc * 2 ^ 122 + w.cond * 2 ^ 117 + (if w.cneg then 2 ^ 116 else 0) + (if w.safe then 2 ^ 115 else 0)
    + w.reserved * 2 ^ 112 + w.rd.val * 2 ^ 108 + w.ra.val * 2 ^ 104 + w.rb.val * 2 ^ 100 + (if w.immb then 2 ^ 99 else 0)
    + (if w.msrc then 2 ^ 98 else 0) + w.target * 2 ^ 84 + w.sel * 2 ^ 80 + w.mask * 2 ^ 64 + w.imm.toNat)

/-- A microword as it is stored: 16 bytes, little-endian (R193). -/
def wordBytesOf (m : Microword) : List Byte := natBytes 16 m.toNat

/-- The microwords that bytes hold, word 0 first (R193, R224). -/
def wordsOfBytes (l : List Byte) (n : Nat) : List Microword := (List.range n).map (fun i => BitVec.ofNat 128 (fieldAt l (16 * i) 16))

/-- END with operand `n`, the fill of a control store (R223). -/
def fillWord (n : Nat) : Microword := BitVec.ofNat 128 (0x1C * 2 ^ 122 + n)

/-- Micro-operations of both engines (R196). -/
def opcBoth : List Nat :=
  [0x00, 0x01, 0x02, 0x03, 0x04, 0x05, 0x06, 0x07, 0x08, 0x09, 0x0A, 0x0B, 0x10, 0x11, 0x18, 0x19, 0x1A, 0x1B, 0x1C, 0x22]

/-- Micro-operations of a formatter alone, and of a service sequencer alone (R196). -/
def opcFormatter : List Nat := [0x0C, 0x0D, 0x20, 0x21, 0x28, 0x29, 0x2A, 0x2B, 0x2C, 0x2D]
def opcService : List Nat := [0x12, 0x13, 0x1D, 0x23, 0x24, 0x25, 0x30]

/-- Condition codes of an engine (R195). -/
def condOf (service : Bool) : List Nat :=
  if service then [0, 1, 2, 3, 5, 16, 20, 21, 22] else [0, 1, 2, 3, 4, 5, 8, 9, 10, 11, 12, 13, 14, 15, 16, 17]

/-- The SEL value of the micro-operation is defined (R196, R199, R202, R203, R219). -/
def selOk (service : Bool) (w : Word) : Bool :=
  if w.opc = 0x10 then (if service then w.sel ≤ 3 else w.sel ≤ 2)
  else if w.opc = 0x11 then w.sel = 0
  else if w.opc = 0x29 then w.sel ≤ 2
  else if w.opc = 0x2B then w.sel ≤ 1
  else if w.opc = 0x30 then w.sel ≤ 6
  else true

/-- The static rules of R198 for a word of an engine whose section holds `count` words. TARGET matters for JMP and CALL. A
LINK of WRITE_ARM, and a register LINK with MSRC 1, are illegal (R203). -/
def wordLegal (service : Bool) (count : Nat) (w : Word) : Bool :=
  (opcBoth.contains w.opc || (if service then opcService else opcFormatter).contains w.opc)
    && (condOf service).contains w.cond && selOk service w && w.reserved == 0
    && (if service then !w.msrc && w.mask == 0 else !w.safe && w.target < 2 ^ 12)
    && (if w.opc = 0x18 ∨ w.opc = 0x19 then decide (w.target < count) else true)
    && (if w.opc = 0x2B then (if w.sel = 0 then w.imm.toNat % 256 ≠ 2 else !w.msrc) else true)

/-! ### Registers -/

/-- Reads a register: G0 is zero (R194). -/
def Regs.get (r : Regs) (i : Fin 16) : Reg64 := if i = 0 then 0 else r.g[i]

/-- Writes a register: a write to G0 is ignored (R194). -/
def Regs.set (r : Regs) (i : Fin 16) (v : Reg64) : Regs := if i = 0 then r else { r with g := r.g.set i.val v i.isLt }

/-- Operand B (R196). -/
def Regs.opB (r : Regs) (w : Word) : Reg64 := if w.immb then w.imm else r.get w.rb

/-- The lane set (R196). -/
def Regs.lanes (r : Regs) (w : Word) : Nat := if w.msrc then (r.get w.rd).toNat % 2 ^ 16 else w.mask

/-- Flags Z and N of a result. -/
def Regs.zn (r : Regs) (v : Reg64) : Regs := { r with z := v == 0, n := v.msb }

/-- RA + IMM [31:0] (R196). -/
def Regs.address (r : Regs) (w : Word) : Nat := (r.get w.ra + BitVec.ofNat 64 (w.imm.toNat % 2 ^ 32)).toNat

/-! ### Engines -/

/-- What an engine runs with: registers, program counter, stack and scratch (R194, R199). -/
structure Thread where
  regs : Regs
  pc : Nat
  stack : List Nat
  scratch : List (Nat × Nat)
  deriving DecidableEq, Repr

/-- An engine's thread. -/
def State.thread (s : State) : Eng → Thread
  | .formatter p a => let f := (s.arm p a).fmt; ⟨f.regs, f.pc, f.stack, f.scratch⟩
  | .service q c => let x := s.ctx q c; ⟨x.regs, x.pc, x.stack, x.scratch⟩

/-- Changes an engine's thread. -/
def State.setThread (s : State) (e : Eng) (t : Thread) : State :=
  match e with
  | .formatter p a => s.updFmt p a (fun f => { f with regs := t.regs, pc := t.pc, stack := t.stack, scratch := t.scratch })
  | .service q c => s.updCtx q c (fun x => { x with regs := t.regs, pc := t.pc, stack := t.stack, scratch := t.scratch })

/-- The engine is a service context. -/
def engService : Eng → Bool
  | .formatter _ _ => false
  | .service _ _ => true

/-- Depth of the engine's stack (R192). -/
def engStackDepth : Eng → Nat
  | .formatter _ _ => 8
  | .service _ _ => 16

/-- Words of an engine's control store (R192). -/
def engStoreSize : Eng → Nat
  | .formatter _ _ => 4096
  | .service _ _ => 16384

/-- Bytes of an engine's scratch (R199). -/
def engScratchSize : Eng → Nat
  | .formatter _ _ => 2048
  | .service _ _ => 512

/-- The store an engine fetches from. -/
def State.ctlStore (s : State) : Eng → ControlStore
  | .formatter _ _ => s.fmtStore
  | .service _ _ => s.svc.store

/-- The number of the engine's own copy of its store, as marks name it. -/
def engStoreNo : Eng → Nat
  | .formatter p a => p.val * 2 + a.val
  | .service q _ => q.val

/-- The word at `pc` of one store: a loaded word, else the fill, or what its load port has written since (R223). -/
def ControlStore.wordAt (c : ControlStore) (fill : Nat) (store pc : Nat) : Microword :=
  match c.own.find? (fun x => x.1 = store && x.2.1 = pc) with
  | some x => x.2.2
  | none => c.words.getD pc (fillWord fill)

/-- The status internal fault of the fill words (R223; the code is the ring protocol's). -/
def statusInternalFault : Nat := 0x00F0

/-- The word an engine is about to issue. -/
def State.wordOf (s : State) (e : Eng) : Word :=
  splitWord ((s.ctlStore e).wordAt (if (engService e) then statusInternalFault else 0x17) (engStoreNo e) (s.thread e).pc)

/-- A context is ready (R212, R216, R221). -/
def Sequencer.ctxReady (q : Sequencer) (c : CtxId) : Bool :=
  let x := q.ctx[c]
  x.busy && x.wait = .none && !x.held && !q.fault

/-- The context whose turn it is: the first ready one after the one that issued last (R212). -/
def Sequencer.turn (q : Sequencer) : Option CtxId :=
  ((List.finRange 16).map (fun i : Fin 16 => (⟨(q.last.val + 1 + i.val) % 16, by omega⟩ : CtxId))).find? q.ctxReady

/-- The engine may issue a microword: a formatter that runs, the context of a service sequencer whose turn it is (R212, R216, R221). -/
def State.ready (s : State) : Eng → Bool
  | .formatter p a => let f := (s.arm p a).fmt; f.running && !f.fault && f.wait = .none
  | .service q c => s.svc.seqs[q].turn == some c

/-! ### Conditions -/

/-- Conditions of both engines read from the flags (R195). -/
def Regs.flag (r : Regs) : Nat → Bool
  | 0 => true
  | 1 => r.z
  | 2 => r.n
  | 3 => r.c
  | 4 => r.later
  | 5 => r.timeout
  | _ => false

/-- Lanes of the last SEEK that are neither settled nor sat out; none is settled before its targets are in place (R244). -/
def Arm.unsettled (x : Arm) : Bool :=
  (List.finRange 16).any (fun h => x.servo.seekLanes.testBit h.val && !x.servo.sitOut.testBit h.val
    && (x.servo.order.isSome || !x.lanes[h].servo.settled))

/-- Every sector of the routine has a final outcome (R195 LADDER_DONE). -/
def Arm.sectorsFinal (x : Arm) : Bool :=
  x.fmt.runs.all (fun r => r.ended) && x.fmt.ladder.isEmpty
    && x.lanes.all (fun l => l.chan.store.all (fun r => r.phase = .ended))

/-- A formatter condition (R195). -/
def State.fmtCond (s : State) (p : PackId) (a : ArmId) (code : Nat) : Bool :=
  let x := s.arm p a
  let f := x.fmt
  match code with
  | 8 => s.packs[p].tb.state = .locked
  | 9 => s.tbUsable p
  | 10 => match f.lastLink with
    | some n => !x.link.unechoed.any (fun u => u.seq = n)
    | none => false
  | 11 => !x.unsettled
  | 12 => f.runs.all (fun r => r.ended)
  | 13 => !f.ladder.isEmpty
  | 14 => x.sectorsFinal
  | 15 => f.cancel
  | 16 => f.committed
  | 17 => x.servo.seekLanes &&& (0xFFFF ^^^ x.servo.sitOut) = 0
  | n => f.regs.flag n

/-- The state of a token: none where it is not held (R219). -/
def Service.token (v : Service) (id : Nat) : Option Token := v.tokens.find? (fun t => t.id = id)

/-- A service condition; RA names the token (R195). -/
def State.svcCond (s : State) (q : SeqId) (c : CtxId) (ra : Fin 16) (code : Nat) : Bool :=
  let x := s.ctx q c
  let tok := s.svc.token (x.regs.get ra).toNat
  let cmd := s.svc.cmd x.ring x.slot
  match code with
  | 16 => match cmd with | some y => y.committed | none => false
  | 20 => match tok with | some t => t.state ≠ 0 | none => false
  | 21 => match tok with | some t => t.state = 2 | none => false
  | 22 => match cmd with | some y => y.aborted | none => false
  | n => x.regs.flag n

/-- A condition of an engine. -/
def State.cond (s : State) (e : Eng) (ra : Fin 16) (code : Nat) : Bool :=
  match e with
  | .formatter p a => s.fmtCond p a code
  | .service q c => s.svcCond q c ra code

/-- COND, inverted when CNEG is 1 (R197). -/
def State.holds (s : State) (e : Eng) (w : Word) : Bool := s.cond e w.ra w.cond != w.cneg

/-! ### Faults -/

/-- A service sequencer enters fault state (R221): the active cluster completes each command that had a context on it,
not committed ones with internal fault; a committed one with SUCCESS (assumption 11); a chain that was being brought in counts as framed
(assumption 134). -/
def State.serviceFault (s : State) (q : SeqId) : State :=
  let had := (s.svc.seqs[q].ctx.toList.filter (fun x => x.busy))
  let s1 := (s.faultFraming q).updSvc (fun v => { v with seqs := v.seqs.set q.val { v.seqs[q] with fault := true } q.isLt })
  let s2 := had.foldl (fun s x =>
    s.completeCommand x.ring x.slot (match s.svc.cmd x.ring x.slot with
      | some y => if y.committed then 0 else statusInternalFault
      | none => statusInternalFault)) s1
  (List.finRange 16).foldl (fun s c => s.updCtx q c (fun x => { x with busy := false })) (s2.raise (160 + q.val))

/-- A microcode fault or an uncorrectable word on an engine (R221). -/
def State.engFault (s : State) : Eng → State
  | .formatter p a => (s.microFault p a).kick p a
  | .service q _ => s.serviceFault q

/-! ### Safe points -/

/-- A microword that is a safe point (R215): WAITE, SUSPEND and COMMIT always are. -/
def Word.isSafe (w : Word) : Bool := w.safe || w.opc = 0x22 || w.opc = 0x23 || w.opc = 0x24

/-! ### Issue -/

/-- The program counter advances to the next word. -/
def State.advance (s : State) (e : Eng) : State :=
  let t := s.thread e
  s.setThread e { t with pc := t.pc + 1 }

/-- The rotation of a sequencer goes on behind the context that has issued (R212). -/
def State.noteTurn (s : State) (q : SeqId) (c : CtxId) : State :=
  s.updSvc (fun v => { v with seqs := v.seqs.set q.val { v.seqs[q] with last := c } q.isLt })

/-- A service context has issued a microword: after a safe point its count starts afresh, and the rotation goes on
behind it (R212, R215). -/
def State.countIssue (s : State) (e : Eng) (safe : Bool) : State :=
  match e with
  | .formatter _ _ => s
  | .service q c => (s.noteTurn q c).updCtx q c (fun x =>
      { x with sinceSafe := if safe then 0 else x.sinceSafe + 1, forcedSafe := if safe then false else x.forcedSafe })

/-- A fetched word carries a bit error of R222: a single one is corrected, written back, counted and reported; an
uncorrectable one is counted and puts the engine in fault state. -/
def State.fetchErrors (s : State) (e : Eng) : State × Bool :=
  let st := s.ctlStore e
  let here := fun x : Nat × Nat × Bool => x.1 = (engStoreNo e) && x.2.1 = (s.thread e).pc
  match st.marks.find? here with
  | none => (s, false)
  | some m =>
    let rest := st.marks.filter (fun x => !here x)
    if m.2.2 then (({ s with svc := { s.svc with uncorrectable := sat32 s.svc.uncorrectable 1 } }).engFault e, true)
    else
      let s1 := { s with svc := { s.svc with corrected := sat32 s.svc.corrected 1 } }
      let s2 := match e with
        | .formatter _ _ => { s1 with fmtStore := { s1.fmtStore with marks := rest } }
        | .service _ _ => s1.updSvc (fun v => { v with store := { v.store with marks := rest } })
      (s2.raise 176, false)

/-- The opcode is that of a micro-operation of either engine (R196). -/
def opcKnown (n : Nat) : Bool := opcBoth.contains n || opcFormatter.contains n || opcService.contains n

/-- Issues the word at the engine's program counter when its micro-operation is `opc`: an illegal word is a microcode
fault (R198), a safe point is checked first (R216), a false predicate only takes the cycle (R197), otherwise `f` acts.
With another micro-operation in turn, or an engine that may not issue, the event does not happen (assumption 4); a word with a reserved
opcode is the microcode fault whichever micro-operation is named. -/
def State.issue (s : State) (e : Eng) (opc : Nat) (f : Word → State → State) : State :=
  let w := s.wordOf e
  if ¬ s.ready e ∨ (w.opc ≠ opc ∧ opcKnown w.opc) then s
  else
    let (s1, dead) := s.fetchErrors e
    if dead then s1
    else if ¬ wordLegal (engService e) (s1.ctlStore e).words.length w then s1.engFault e
    else
      let safe := w.isSafe || (match e with | .service q c => (s1.ctx q c).forcedSafe | .formatter _ _ => false)
      let act := match e with
        | .service q c => if safe then s1.safeCheck q c else .go
        | .formatter _ _ => .go
      match act, e with
      | .hold, .service q c => s1.updCtx q c (fun x => { x with held := true })
      | .abort, .service q c => s1.toAbort q c
      | _, _ =>
        let s2 := s1.countIssue e safe
        if w.opc ≠ 0x22 ∧ ¬ s2.holds e w then s2.advance e else f w s2

/-- An arithmetic micro-operation: `g` gives the registers after it; the next word follows. -/
def State.alu (s : State) (e : Eng) (opc : Nat) (g : Word → Regs → Regs) : State :=
  s.issue e opc (fun w s =>
    let t := s.thread e
    s.setThread e { t with regs := g w t.regs, pc := t.pc + 1 })

/-! ### Scratch and stack -/

/-- The 8-byte word of the scratch at a byte address (R199). -/
def scratchGet (l : List (Nat × Nat)) (addr : Nat) : Nat := getVal (addr / 8) 0 l

/-- Stores 8 bytes in the scratch. -/
def scratchPut (l : List (Nat × Nat)) (addr v : Nat) : List (Nat × Nat) := putVal (addr / 8) v 0 l

/-- An address of a space of `size` bytes: in range and 8-byte aligned (R198). -/
def spaceOk (size addr : Nat) : Bool := addr % 8 = 0 && addr + 8 ≤ size

end Sys2Proof.Machine
end

