-- ==== Sys2Proof/Machine/Sequencers.lean ====
section
/-! DEFINITION. The micro-operations common to both engines and the formatter's own (R196 to R204), its waits, and the
upkeep of the control stores (R222, R223). -/

namespace Sys2Proof.Machine

/-! ### Arithmetic and logic (R196) -/

/-- NOP (R196). -/
def execNop (e : Eng) (s : State) : Res := .next (s.alu e 0x00 (fun _ r => r))

/-- ADD with carry out (R196). -/
def Regs.add (r : Regs) (w : Word) : Regs :=
  let x := (r.get w.ra).toNat + (r.opB w).toNat
  let v := BitVec.ofNat 64 x
  { (r.zn v).set w.rd v with c := decide (2 ^ 64 ≤ x) }

def execAdd (e : Eng) (s : State) : Res := .next (s.alu e 0x01 (fun w r => r.add w))

/-- The flags of RA - B, C the borrow (R195, R196). -/
def Regs.subFlags (r : Regs) (w : Word) : Regs :=
  { r.zn (r.get w.ra - r.opB w) with c := decide ((r.get w.ra).toNat < (r.opB w).toNat) }

def execSub (e : Eng) (s : State) : Res :=
  .next (s.alu e 0x02 (fun w r => (r.subFlags w).set w.rd (r.get w.ra - r.opB w)))

/-- A result that sets Z and N. -/
def Regs.put (r : Regs) (w : Word) (v : Reg64) : Regs := (r.zn v).set w.rd v

def execAnd (e : Eng) (s : State) : Res := .next (s.alu e 0x03 (fun w r => r.put w (r.get w.ra &&& r.opB w)))
def execOr (e : Eng) (s : State) : Res := .next (s.alu e 0x04 (fun w r => r.put w (r.get w.ra ||| r.opB w)))
def execXor (e : Eng) (s : State) : Res := .next (s.alu e 0x05 (fun w r => r.put w (r.get w.ra ^^^ r.opB w)))

/-- Shifts are by B [5:0] (R196). -/
def execShl (e : Eng) (s : State) : Res :=
  .next (s.alu e 0x06 (fun w r => r.put w (r.get w.ra <<< ((r.opB w).toNat % 64))))
def execShr (e : Eng) (s : State) : Res :=
  .next (s.alu e 0x07 (fun w r => r.put w (r.get w.ra >>> ((r.opB w).toNat % 64))))

def execCmp (e : Eng) (s : State) : Res := .next (s.alu e 0x08 (fun w r => r.subFlags w))
def execMovi (e : Eng) (s : State) : Res := .next (s.alu e 0x09 (fun w r => r.set w.rd w.imm))

/-- MIN and MAX set Z alone (R196). -/
def Regs.putZ (r : Regs) (w : Word) (v : Reg64) : Regs := { r.set w.rd v with z := v == 0 }

def execMin (e : Eng) (s : State) : Res :=
  .next (s.alu e 0x0A (fun w r => r.putZ w (if (r.opB w).toNat < (r.get w.ra).toNat then r.opB w else r.get w.ra)))
def execMax (e : Eng) (s : State) : Res :=
  .next (s.alu e 0x0B (fun w r => r.putZ w (if (r.get w.ra).toNat < (r.opB w).toNat then r.opB w else r.get w.ra)))

/-! ### Angles (R52 to R55, R204) -/

/-- An angle-range fault of a routine: it ends with 0x12 (R53, R206). -/
def State.angleFault (s : State) (e : Eng) : State :=
  match e with
  | .formatter p a => (s.endRoutine p a 0x12).kick p a
  | .service _ _ => s

/-- ADDA (R53, R196). -/
def execAdda (e : Eng) (s : State) : Res :=
  .next (s.issue e 0x0C (fun w s =>
    let t := s.thread e
    let b := (t.regs.opB w).toNat % 2 ^ 40
    if 2 ^ 39 ≤ b then s.angleFault e
    else
      let v := BitVec.ofNat 64 (((t.regs.get w.ra).toNat + b) % 2 ^ 40)
      s.setThread e { t with regs := t.regs.putZ w v, pc := t.pc + 1 }))

/-- ACMP compares two AngleTimes by R52. -/
def execAcmp (e : Eng) (s : State) : Res :=
  .next (s.alu e 0x0D (fun w r =>
    let a := (r.get w.ra).toNat % 2 ^ 40
    let b := (r.opB w).toNat % 2 ^ 40
    { r with z := a == b, later := laterMod 40 a b }))

/-- NOW reads arm-local AngleTime (R196). -/
def execNow (e : Eng) (s : State) : Res :=
  .next (s.issue e 0x2C (fun w s =>
    match e with
    | .formatter p a =>
      let t := s.thread e
      s.setThread e { t with regs := t.regs.set w.rd ((s.armAngle p a).zeroExtend 64), pc := t.pc + 1 }
    | .service _ _ => s))

/-- Issues an angle wait on a target (R53 to R55; a relative one of 0 is due at once and counts as late: DESIGN CHOICE, log entry 142): refused when the time base is not usable, fired at once when it
is late within the tolerance, rejected when later. -/
def State.angleWait (s : State) (p : PackId) (a : ArmId) (target : AngleTime) : State :=
  if ¬ s.tbUsable p then (s.endRoutine p a 0x11).kick p a
  else
    let d := (target - s.armAngle p a).toNat
    if 0 < d ∧ d < 2 ^ 39 then s.updFmt p a (fun f => { f with wait := .angle target })
    else if d = 0 ∨ 2 ^ 40 - d ≤ s.packParam p 0x20 8 then
      (s.updTb p (fun t => { t with lateEvents := sat32 t.lateEvents 1 })).advance (.formatter p a)
    else (s.endRoutine p a 0x12).kick p a

def execWaita (e : Eng) (s : State) : Res :=
  .next (s.issue e 0x20 (fun w s =>
    match e with
    | .formatter p a => s.angleWait p a (((s.thread e).regs.get w.ra).setWidth 40)
    | .service _ _ => s))

/-- A relative wait; a delta of 2^39 or more is an angle-range fault whatever the time base (R53, R55; their order DESIGN CHOICE: log entry 141). -/
def execWaitr (e : Eng) (s : State) : Res :=
  .next (s.issue e 0x21 (fun w s =>
    match e with
    | .formatter p a =>
      let d := ((s.thread e).regs.opB w).setWidth 40
      if 2 ^ 39 ≤ d.toNat then s.angleFault e else s.angleWait p a (s.armAngle p a + d)
    | .service _ _ => s))

/-- An angle wait completes when arm-local AngleTime has reached its target (R54). -/
def execAngleWaitReached (p : PackId) (a : ArmId) (s : State) : Res :=
  .next (match (s.arm p a).fmt.wait with
    | .angle t =>
      if laterMod 40 t.toNat (s.armAngle p a).toNat then s
      else (s.updFmt p a (fun f => { f with wait := .none })).advance (.formatter p a)
    | _ => s)

/-! ### Memory spaces (R198, R199) -/

/-- Value of a lane state item (R199 space 2). -/
def State.laneItem (s : State) (p : PackId) (a : ArmId) (h : HeadId) (item : Nat) : Nat :=
  let x := s.arm p a
  let track := reqTarget x.fmt.req h.val
  let l := x.lanes[h]
  match item with
  | 0 => track
  | 1 => match s.trackZone p a h track with | some z => z.1 | none => 0
  | 2 => match s.trackZone p a h track with | some z => z.2.sectors | none => 0
  | 3 => (match l.time with | .notMeasured => 0 | .provisional => 1 | .valid => 2 | .drifting => 3 | .excluded => 4)
  | 4 => l.health.quality
  | _ => l.health.status

/-- What LD finds in a formatter's space: none where the address is illegal (R198, R199). -/
def State.fmtLoad (s : State) (p : PackId) (a : ArmId) (space addr : Nat) : Option Nat :=
  let f := (s.arm p a).fmt
  match space with
  | 0 => if spaceOk 2048 addr then some (scratchGet f.scratch addr) else none
  | 1 => if spaceOk 128 addr then some (fieldAt f.req addr 8) else none
  | 2 =>
    if addr % 8 ≠ 0 then none
    else if addr = 0x400 then some (reqLanes f.req &&& (0xFFFF ^^^ (s.arm p a).servo.sitOut))
    else if h : addr < 0x400 ∧ addr % 64 < 48 then some (s.laneItem p a ⟨addr / 64, by omega⟩ (addr % 64 / 8))
    else none
  | _ => none

/-- What LD finds in a service context's spaces 0, 1 and 3 (R199). -/
def Ctx.load (x : Ctx) (space addr : Nat) : Option Nat :=
  match space with
  | 0 => if spaceOk 512 addr then some (scratchGet x.scratch addr) else none
  | 1 => if spaceOk (min x.chain.length 2048) addr then some (fieldAt x.chain addr 8) else none
  | 3 =>
    if addr % 8 ≠ 0 then none
    else if addr = 0 then some x.ring else if addr = 8 then some x.slot else if addr = 0x10 then some x.cls
    else if addr = 0x18 then some x.port else if addr = 0x20 then some (x.chain.length / 64) else none
  | _ => none

/-- LD: buffer memory makes the context wait; elsewhere the value comes at once (R196, R199, R212). -/
def execLd (e : Eng) (s : State) : Res :=
  .next (s.issue e 0x10 (fun w s =>
    let t := s.thread e
    let addr := t.regs.address w
    let done := fun v : Nat => s.setThread e { t with regs := t.regs.set w.rd (BitVec.ofNat 64 v), pc := t.pc + 1 }
    match e with
    | .formatter p a => match s.fmtLoad p a w.sel addr with
      | some v => done v
      | none => s.engFault e
    | .service q c =>
      if w.sel = 2 then
        if addr % 8 = 0 ∧ addr + 8 ≤ s.bufSize then s.updCtx q c (fun x => { x with wait := .load w.rd.val addr }) else s.engFault e
      else match (s.ctx q c).load w.sel addr with
        | some v => done v
        | none => s.engFault e))

/-- ST: only the scratch is writable (R196, R198, R199). -/
def execSt (e : Eng) (s : State) : Res :=
  .next (s.issue e 0x11 (fun w s =>
    let t := s.thread e
    let addr := t.regs.address w
    if spaceOk (engScratchSize e) addr then
      s.setThread e { t with scratch := scratchPut t.scratch addr (t.regs.get w.rb).toNat, pc := t.pc + 1 }
    else s.engFault e))

/-! ### Control flow -/

def execJmp (e : Eng) (s : State) : Res :=
  .next (s.issue e 0x18 (fun w s => s.setThread e { s.thread e with pc := w.target }))

/-- CALL: a push onto a full stack is a microcode fault (R196, R198). -/
def execCall (e : Eng) (s : State) : Res :=
  .next (s.issue e 0x19 (fun w s =>
    let t := s.thread e
    if t.stack.length < engStackDepth e then s.setThread e { t with stack := (t.pc + 1) :: t.stack, pc := w.target }
    else s.engFault e))

/-- RET: from an empty stack it is a microcode fault (R196, R198). -/
def execRet (e : Eng) (s : State) : Res :=
  .next (s.issue e 0x1A (fun _ s =>
    let t := s.thread e
    match t.stack with
    | x :: l => s.setThread e { t with stack := l, pc := x }
    | [] => s.engFault e))

def execJmpr (e : Eng) (s : State) : Res :=
  .next (s.issue e 0x1B (fun w s =>
    let t := s.thread e
    s.setThread e { t with pc := (t.regs.get w.ra).toNat % 2 ^ 14 }))

/-! ### WAITE -/

/-- Sets TIMEOUT and goes on to the next word. -/
def State.endWait (s : State) (e : Eng) (timeout : Bool) : State :=
  let t := s.thread e
  let s1 := s.setThread e { t with regs := { t.regs with timeout := timeout }, pc := t.pc + 1 }
  match e with
  | .formatter p a => s1.updFmt p a (fun f => { f with wait := .none })
  | .service q c => s1.updCtx q c (fun x => { x with wait := .none })

/-- WAITE: an IMM [31:0] of 0 means no timeout (R196). -/
def execWaite (e : Eng) (s : State) : Res :=
  .next (s.issue e 0x22 (fun w s =>
    if s.holds e w then s.endWait e false
    else
      let ns := w.imm.toNat % 2 ^ 32
      let dl : Option Nat := if ns = 0 then none else some (s.now + ns)
      match e with
      | .formatter p a => s.updFmt p a (fun f => { f with wait := .event w.cond w.cneg dl })
      | .service q c => s.updCtx q c (fun x => { x with wait := .event w.cond w.cneg dl })))

/-- The wait for a condition that an engine is in, if any. -/
def State.eventWait (s : State) : Eng → Option (Nat × Bool × Option Nat)
  | .formatter p a => match (s.arm p a).fmt.wait with | .event c n d => some (c, n, d) | _ => none
  | .service q c => match (s.ctx q c).wait with | .event k n d => some (k, n, d) | _ => none

/-- A service context held at its safe point or with its abort registered does not go on in the common way (R216). -/
def State.waitAct (s : State) : Eng → SafeAct
  | .formatter _ _ => .go
  | .service q c => s.safeCheck q c

/-- Ends a WAITE, unless the safe point that the whole wait is decides otherwise (R215, R216). -/
def State.leaveWait (s : State) (e : Eng) (timeout : Bool) : State :=
  match s.waitAct e, e with
  | .hold, .service q c => s.updCtx q c (fun x => { x with held := true })
  | .abort, .service q c => s.toAbort q c
  | _, _ => s.endWait e timeout

def execWaiteConditionMet (e : Eng) (s : State) : Res :=
  .next (match s.eventWait e with
    | some (c, n, _) => if s.cond e (s.wordOf e).ra c != n then s.leaveWait e false else s
    | none => s)

def execWaiteTimeout (e : Eng) (s : State) : Res :=
  .next (match s.eventWait e with
    | some (c, n, some _) => if s.cond e (s.wordOf e).ra c != n then s else s.leaveWait e true
    | _ => s)

/-! ### SEEK (R242 to R244) -/

/-- The short-move limit in force: below the micro window (R268). -/
def State.shortMove (s : State) (p : PackId) : Nat :=
  let l := s.packs[p].tuning.getD 4 0
  let m := s.packs[p].micro
  if m ≤ l then m - 1 else l

/-- The arm's estimated position, 2^-10 track (R250). -/
def ArmServo.estPosition (v : ArmServo) : Int := if v.mode = .seeking then v.position else v.target * 1024 + v.est0

/-- Lanes that a SEEK may use (R242 step 1). -/
def Lane.seekable (l : Lane) : Bool := l.time ≠ .excluded && l.health.quality ≠ 4 && l.servo.status ≠ .lost

/-- The synthesizer rate of R27 for a SEEK: 1.05 times the highest cell rate among the zones that the arm's enabled heads occupy where they
go and, until they have left, where they are; at least 3.57 GS/s and at most 6.6 GS/s (assumption 12). -/
def State.synthFor (s : State) (p : PackId) (a : ArmId) (track : HeadId → Nat) : Nat :=
  let x := s.arm p a
  let rate := fun (h : HeadId) (t : Nat) => match s.trackZone p a h t with
    | some z => ceilDiv (z.2.cells * s.nominal p * 105) 6000
    | none => 0
  let rates := ((List.finRange 16).filter (fun h => x.lanes[h].seekable)).map (fun h =>
    max (rate h (track h)) (max (rate h x.lanes[h].servo.target) (rate h (x.servo.estPosition / 1024).toNat)))
  max synthLeast (min (rates.foldl max 0) 6600000000)

/-- No read or write gate of an arm is open. -/
def Arm.gatesClosed (x : Arm) : Bool := x.lanes.all (fun l => !l.chan.readOpen && !l.chan.writeOpen)

/-- The rate that the last SEEK asked for is set at a wedge boundary at which no gate of the arm is open (R27). -/
def State.applySynth (s : State) (p : PackId) (a : ArmId) : State :=
  s.updArm p a (fun x => if x.synthWant ≠ 0 ∧ x.gatesClosed then { x with synth := x.synthWant, synthWant := 0 } else x)

/-- The mode that a SEEK to `target` leads to (R250). -/
def ArmServo.seekMode (v : ArmServo) (target short : Nat) : ArmMode :=
  if (short : Int) * 1024 < ((target : Int) * 1024 - v.estPosition).natAbs then .seeking
  else if v.mode = .following then .settling
  else v.mode

/-- The targets of a SEEK take effect (R242, R244, R250): the mode they lead to, each head's own target and offset, and those of the heads that
sit out, which follow the arm target (R239). The loops start from zero when the arm enters Settling, and the 1,024 wedges of R252 with them. -/
def State.takeOrder (s : State) (p : PackId) (a : ArmId) : State :=
  let x := s.arm p a
  match x.servo.order with
  | none => s
  | some o =>
    let m := if o.set = 0 then x.servo.mode else x.servo.seekMode o.target (s.shortMove p)
    let starts : Bool := m = .settling ∧ x.servo.mode = .following
    let s1 := s.updArm p a (fun x =>
      { x with
        servo := { (if starts then x.servo.clearLoop else x.servo) with
          mode := m, position := x.servo.estPosition, target := o.target, order := none,
          wedgesSettling := if starts then 0 else x.servo.wedgesSettling },
        lanes := Vector.ofFn (fun h : Fin 16 =>
          let l := x.lanes[h]
          let v := if starts then l.servo.clearLoop else l.servo
          let t := o.tracks.getD h.val 0
          { l with servo := { (if o.set.testBit h.val then { v with target := t, offset := (t : Int) - o.target } else v.followArm o.target) with
              settled := false, settleRun := 0,
              status := if v.status = .lost ∨ v.status = .notInService then v.status
                else if x.servo.sitOut.testBit h.val then .satOut
                else if m = .seeking then .seeking else .settling } }) })
    if m = .following then s1 else s1.inhibitArm p a true

/-- Gives the servo engine the targets of `lanes` (R242 to R244): the lanes that sit out are known at once. While the arm is Following the
targets take effect at once, while it is Seeking or Settling at the next wedge boundary. -/
def State.seek (s : State) (p : PackId) (a : ArmId) (lanes : Nat) : State :=
  let x := s.arm p a
  let track := fun h : HeadId => reqTarget x.fmt.req h.val
  if x.servo.mode = .following ∨ x.servo.mode = .seeking ∨ x.servo.mode = .settling then
    let left := (maskLanes lanes).filter (fun h => x.lanes[h].seekable)
    let (set, mid) := cylinderSet (left.map (fun h => (h.val, track h))) s.packs[p].micro
    let target := if set = 0 then x.servo.target else mid
    let out := lanes &&& (0xFFFF ^^^ set)
    let s1 := s.updArm p a (fun x =>
      { x with
        synthWant := s.synthFor p a (fun h => if set.testBit h.val then track h else target),
        servo := { x.servo with
          order := some { set := set, target := target, tracks := (List.finRange 16).map track },
          seekLanes := lanes, sitOut := out, seeks := sat32 x.servo.seeks 1 } })
    (if x.servo.mode = .following then s1.takeOrder p a else s1).updFmt p a (fun f => { f with satOut := f.satOut ||| out })
  else
    (s.updServo p a (fun v => { v with seekLanes := lanes, sitOut := lanes, seeks := sat32 v.seeks 1 })).updFmt p a
      (fun f => { f with satOut := f.satOut ||| lanes })

/-- SEEK; `same` says that core 1 of the engine chose the same lanes (R229). -/
def execSeek (e : Eng) (same : Bool) (s : State) : Res :=
  .next (s.issue e 0x28 (fun w s =>
    match e with
    | .formatter p a => s.compared (tileOf p) same (fun s => (s.seek p a ((s.thread e).regs.lanes w)).advance e)
    | .service _ _ => s))

/-! ### GRP and XFER (R118, R202) -/

/-- Zone and start wedge of a lane's target track (R118). -/
def State.laneGroupKey (s : State) (p : PackId) (a : ArmId) (h : HeadId) : Option (Nat × Nat) :=
  let t := reqTarget (s.arm p a).fmt.req h.val
  (s.trackZone p a h t).map (fun z => (z.1, startWedge t z.2.skew))

/-- The lanes of a mask that share zone and start wedge with its lowest-numbered lane (R196 GRP, R202). -/
def State.sameGroup (s : State) (p : PackId) (a : ArmId) (m : Nat) : Nat :=
  match maskLanes m with
  | [] => 0
  | h :: l =>
    let k := s.laneGroupKey p a h
    ((h :: l).filter (fun x => s.laneGroupKey p a x = k)).foldl (fun r x => r ||| laneBit x) 0

def execGrp (e : Eng) (s : State) : Res :=
  .next (s.issue e 0x2D (fun w s =>
    match e with
    | .formatter p a =>
      let t := s.thread e
      let v := BitVec.ofNat 64 (s.sameGroup p a ((t.regs.get w.ra).toNat % 2 ^ 16))
      s.setThread e { t with regs := t.regs.putZ w v, pc := t.pc + 1 }
    | .service _ _ => s))

/-- Effective write width W (R158). -/
def State.writeWidth (s : State) (p : PackId) (a : ArmId) : Nat :=
  let x := s.arm p a
  min (min x.width x.activeLimit) (match s.packs[p].identity with | some i => i.maxWriteWidth | none => 16)

/-- The lane's sample-to-cell ratio lies in 1.05 to 2.0 (R138). -/
def State.ratioOk (s : State) (p : PackId) (a : ArmId) (z : ZoneRec) : Bool :=
  let rate := z.cells * 10 ^ 11 / max s.packs[p].tb.revPeriod 1
  let f := (s.arm p a).synth
  decide (105 * rate ≤ 100 * f + 105) && decide (f ≤ 2 * rate + 2)

/-- The lane may not take part in an XFER (R138, R155, R165, R243, R253): it sits out. -/
def State.laneSitsOut (s : State) (p : PackId) (a : ArmId) (h : HeadId) (write : Bool) (z : ZoneRec) : Bool :=
  let l := s.lane p a h
  let tb := s.packs[p].tb
  (s.arm p a).servo.sitOut.testBit h.val || (s.arm p a).fmt.conflicts.testBit h.val || l.time = .provisional || l.time = .excluded
    || (l.time = .drifting && tb.measuring) || l.health.quality = 4 || l.servo.status = .lost || !s.ratioOk p a z
    || (write && (l.health.quality = 3 || l.servo.inhibit || l.chan.noMoreWrites))

/-- Groups of at most `w` lanes, in rising head order: group number of the i-th lane (R159). -/
def groupOf (w i : Nat) : Nat := if w = 0 then i else i / w

/-- The runs of an XFER (R159, R202): writes in groups of the effective write width, reads in groups of the active-lane limit; each
lane's first gate is sought from `start h` on. `base` numbers the XFER. -/
def mkRuns (lanes : List HeadId) (track : HeadId → Nat) (first count type base w : Nat) (start : HeadId → AngleTime) : List Run :=
  (lanes.zipIdx).map (fun x =>
    { lane := x.1, track := track x.1, first := first, count := count, type := type, group := base + groupOf w x.2, xfer := base,
      fromTime := start x.1 })

/-- A lane named by an instruction while it is not Active begins to wait (R155, R161). -/
def State.wantActive (s : State) (p : PackId) (a : ArmId) (h : HeadId) : State :=
  let c := (s.lane p a h).chan
  if c.power.active ∨ c.waiting.isSome then s
  else
    let n := (s.arm p a).fmt.waitCount
    (s.updChan p a h (fun c => { c with waiting := some n })).updFmt p a (fun f => { f with waitCount := n + 1 })

/-- The lanes of an XFER that take part and those that sit out (R202 item 1 and R155). -/
def State.xferLanes (s : State) (p : PackId) (a : ArmId) (set : Nat) (write : Bool) : Nat × Nat :=
  let same := s.sameGroup p a set
  let go := ((maskLanes same).filter (fun h =>
    match s.trackZone p a h (reqTarget (s.arm p a).fmt.req h.val) with
    | some z => !s.laneSitsOut p a h write z.2
    | none => false)).foldl (fun r h => r ||| laneBit h) 0
  (go, set &&& (0xFFFF ^^^ go))

/-- XFER is refused: 0x14 for a bad count or address (R121, R202), 0x13 for a write of which any sector breaks R130. -/
def State.xferRefusal (s : State) (p : PackId) (a : ArmId) (set first count type : Nat) : Option Nat :=
  let track := fun h : HeadId => reqTarget (s.arm p a).fmt.req h.val
  let guard := fun h : HeadId => decide (type = 1) && (s.packs[p].geometry h.val).innerGuard (track h)
  let badCount := (maskLanes set).any (fun h => match s.trackZone p a h (track h) with
    | some z => decide (z.2.sectors < first + count)
    | none => !guard h)
  if count = 0 ∨ 256 < count ∨ badCount ∨ ¬ s.packFitted p then some 0x14
  else if type = 1 ∧ (maskLanes set).any (fun h => s.runRefused p h (track h) first count) then some 0x13
  else none

/-- The sectors of the lanes that sit out end with outcome 0x22; a write leaves the lane incomplete (R202). -/
def State.sitOutXfer (s : State) (p : PackId) (a : ArmId) (out first count type : Nat) : State :=
  let f := (s.arm p a).fmt
  let s1 := s.updFmt p a (fun f => { f with satOut := f.satOut ||| out })
  if type = 1 then s1
  else s1.forLanes out (fun s h =>
    (List.range count).foldl (fun s i =>
      s.stopSector p a h (mkAddr p.val h.val (reqTarget f.req h.val) (first + i)) 0x22 (type = 2)) s)

/-- XFER schedules sectors first to first + count - 1 of each lane's target track (R202). -/
def State.xfer (s : State) (p : PackId) (a : ArmId) (set first count type : Nat) : State :=
  if ¬ s.tbUsable p then s.endRoutine p a 0x11
  else match s.xferRefusal p a set first count type with
    | some o => s.endRoutine p a o
    | none =>
      let (go, out) := s.xferLanes p a set (type = 1)
      let f := (s.arm p a).fmt
      let w := if type = 1 then s.writeWidth p a else (s.arm p a).activeLimit
      let lead := BitVec.ofNat 40 (s.nsToRu p (s.param 0x7430 6))
      let runs := mkRuns (maskLanes go) (fun h => reqTarget f.req h.val) first count type f.groups w (fun h => s.laneAngle p a h + lead)
      let s1 := (s.sitOutXfer p a out first count type).updFmt p a (fun f =>
        { f with runs := f.runs ++ runs, groups := f.groups + runs.length })
      let s2 := s1.forLanes go (fun s h => s.wantActive p a h)
      (if type = 1 then s2.armTurn p a else s2).advance (.formatter p a)

def execXfer (e : Eng) (s : State) : Res :=
  .next (s.issue e 0x29 (fun w s =>
    match e with
    | .formatter p a =>
      let r := (s.thread e).regs
      (s.xfer p a (r.lanes w) ((r.get w.ra).toNat % 2 ^ 11) ((r.opB w).toNat % 2 ^ 9) w.sel).kick p a
    | .service _ _ => s))

/-! ### LADDER and LINK -/

/-- The last ladder step of the routine's depth (R181). -/
def State.lastStep (s : State) (p : PackId) (a : ArmId) : Nat :=
  if reqFull (s.arm p a).fmt.req then 6 else s.packParam p 0x15 0x0A

/-- LADDER starts the ladder of every failed sector of the routine, whose lanes it names (R161, R178, R196). -/
def execLadder (e : Eng) (s : State) : Res :=
  .next (s.issue e 0x2A (fun _ s =>
    match e with
    | .formatter p a =>
      let s1 := (s.arm p a).fmt.ladder.foldl (fun s x => s.wantActive p a x.lane) s
      (s1.updFmt p a (fun f => { f with laddering := true, ladder := f.ladder.map (fun x =>
        if x.step = 0 then { x with step := 1, reads := 0 } else x) })).advance e
    | .service _ _ => s))

/-- LINK sends a CMD or a REG frame (R203). -/
def execLink (e : Eng) (s : State) : Res :=
  .next (s.issue e 0x2B (fun w s =>
    match e with
    | .formatter p a =>
      let imm := w.imm.toNat
      let next := ((s.arm p a).link.seq + 1) % 256
      let s1 :=
        if w.sel = 0 then s.sendCmd p a (imm % 256) ((s.thread e).regs.lanes w)
        else s.sendNumbered p a (regFrame (match maskLanes w.mask with | h :: _ => h.val | [] => 0) (imm % 256)
          (imm.testBit 8) (imm.testBit 9) (imm / 2 ^ 16 % 2 ^ 16))
      (s1.updFmt p a (fun f =>
        { f with lastLink := some next, regWait := if w.sel = 1 then f.regWait ++ [(w.rd, next)] else f.regWait })).advance e
    | .service _ _ => s))

/-! ### The standard routine library (R211) -/

/-- A microword that names nothing beyond its operation. -/
def bareWord (opc : Nat) : Word :=
  { opc := opc, cond := 0, cneg := false, safe := false, reserved := 0, rd := 0, ra := 0, rb := 0, immb := false, msrc := false,
    target := 0, sel := 0, mask := 0, imm := 0 }

/-- JMP to `t` on a condition, inverted where `neg` says so; END with an operand; WAITE with a timeout in ns. -/
def jmpWord (c : Nat) (neg : Bool) (t : Nat) : Word := { bareWord 0x18 with cond := c, cneg := neg, target := t }
def endWord (n : Nat) : Word := { bareWord 0x1C with imm := BitVec.ofNat 64 n }
def waiteWord (c ns : Nat) : Word := { bareWord 0x22 with cond := c, imm := BitVec.ofNat 64 ns }

/-- The first words of R211's listing: the time base, the seek, its end; `fail` is the word that holds END 0x11, END 0x1D following. -/
def seekWords (fail lanes : Nat) : List Word :=
  [jmpWord 9 true fail, { bareWord 0x28 with mask := lanes }, waiteWord 11 50000000, jmpWord 5 false (fail + 1)]

/-- One transfer for each group of the lanes still in service, and the wait for them (R211). -/
def groupWords (type base : Nat) : List Word :=
  [{ bareWord 0x10 with rd := 7, sel := 2, imm := 0x400 },
   { bareWord 0x2D with rd := 8, ra := 7 },
   { bareWord 0x29 with rd := 8, ra := 1, rb := 2, msrc := true, sel := type },
   { bareWord 0x05 with rd := 7, ra := 7, rb := 8 },
   jmpWord 1 true (base + 1),
   waiteWord 12 0]

/-- The ladder for what failed, and the three ends. -/
def ladderWords (base : Nat) : List Word := [jmpWord 13 true (base + 3), bareWord 0x2A, waiteWord 14 0]
def endWords : List Word := [endWord 0x00, endWord 0x11, endWord 0x1D]

/-- The work of a routine that transfers sectors, from control-store word `base`, for the lanes of the request (R211). -/
def transferWords (type base lanes : Nat) : List Word :=
  if type = 1 then seekWords (base + 11) lanes ++ groupWords type (base + 4) ++ endWords
  else seekWords (base + 14) lanes ++ groupWords type (base + 4) ++ ladderWords (base + 10) ++ endWords

/-- Values loaded into registers that the routine's parameters do not hold: register and value. -/
def loadValues (l : List (Fin 16 × Nat)) : List Word :=
  l.map (fun x => { bareWord 0x09 with rd := x.1, imm := BitVec.ofNat 64 x.2 })
def transferWith (l : List (Fin 16 × Nat)) (type base lanes : Nat) : List Word :=
  loadValues l ++ transferWords type (base + l.length) lanes

/-- READ_LEAF as R211 lists it, WRITE_LEAF and VERIFY. -/
def readLeaf (base lanes : Nat) : List Word := transferWords 0 base lanes
def writeLeaf (base lanes : Nat) : List Word := transferWords 1 base lanes
def verifyLeaf (base lanes : Nat) : List Word := transferWords 2 base lanes

/-- READ_ONE and RAW_READ, RAW_WRITE: one sector. -/
def readOne (base lanes : Nat) : List Word := transferWith [(2, 1)] 0 base lanes
def writeOne (base lanes : Nat) : List Word := transferWith [(2, 1)] 1 base lanes

/-- ZONE_READ: the 17 sectors from the first on that hold a copy of 65,600 bytes (R125); REF_CHECK: a verify of every sector of the reference
track, in two transfers of at most 256 (R126, R202). -/
def zoneRead (base lanes : Nat) : List Word := transferWith [(1, 0), (2, 17)] 0 base lanes
def refCheck (base lanes : Nat) : List Word :=
  loadValues [(1, 0), (2, 256)] ++ seekWords (base + 24) lanes ++ groupWords 2 (base + 6)
    ++ loadValues [(1, 256), (2, 251)] ++ groupWords 2 (base + 14) ++ ladderWords (base + 20) ++ endWords

/-- LOAD: MA_ENABLE and READ_ENABLE for its lanes once the servo engine has loaded the arm, then the wait until Locked (R82, R211); UNLOAD:
SLEEP after the servo engine's own unload to the ramp (R211, R259). -/
def loadWords (_base lanes : Nat) : List Word :=
  [{ bareWord 0x2B with mask := lanes, imm := 3 }, { bareWord 0x2B with mask := lanes, imm := 1 }, waiteWord 8 0, endWord 0x00]
def unloadWords (_base lanes : Nat) : List Word := [{ bareWord 0x2B with mask := lanes, imm := 4 }, endWord 0x00]

/-- The work of each routine of the standard library, by number (R211). What microwords the Ovixo image has for those but READ_LEAF, whose
listing is the manual's, it does not say (log entry 166). -/
def libraryWork : Nat → Option (Nat → Nat → List Word)
  | 0 => some readLeaf | 1 => some writeLeaf | 2 => some readOne | 3 => some verifyLeaf | 4 => some loadWords | 5 => some unloadWords
  | 6 => some zoneRead | 7 => some refCheck | 8 => some readOne | 9 => some writeOne | 10 => some writeLeaf
  | _ => none

/-- The routines that the standard library gives the entry words (R211): names by number; the entry words from 0x0B to 0x3F hold END
0x17. -/
def libraryRoutines : List String :=
  ["READ_LEAF", "WRITE_LEAF", "READ_ONE", "VERIFY", "LOAD", "UNLOAD", "ZONE_READ", "REF_CHECK", "RAW_READ", "RAW_WRITE", "SYS_WRITE"]
def libraryEntry (n start : Nat) : Word := if n < libraryRoutines.length then jmpWord 0 false start else endWord 0x17

/-! ### Control stores -/

/-- Every 1 µs the scrubber reads a word of a store: a single-bit error is corrected, written back and counted; an
uncorrectable word puts the sequencer in fault state (R221, R222). `word` is the word read. -/
def execControlStoreScrub (e : Eng) (word : Nat) (s : State) : Res :=
  .next (
    let st := s.ctlStore e
    let here := fun x : Nat × Nat × Bool => x.1 = engStoreNo e && x.2.1 = word
    match st.marks.find? here with
    | none => s
    | some m =>
      if m.2.2 then
        let dead := match e with
          | .formatter p a => (s.arm p a).fmt.fault
          | .service q _ => s.svc.seqs[q].fault
        if dead then s else (s.updSvc (fun v => { v with uncorrectable := sat32 v.uncorrectable 1 })).engFault e
      else
        let rest := st.marks.filter (fun x => !here x)
        let s1 := s.updSvc (fun v => { v with corrected := sat32 v.corrected 1 })
        let s2 := match e with
          | .formatter _ _ => { s1 with fmtStore := { s1.fmtStore with marks := rest } }
          | .service _ _ => s1.updSvc (fun v => { v with store := { v.store with marks := rest } })
        s2.raise 176)

/-- A load-port write: a locked store ignores it and the fault is raised (R223); before the lock it writes a word of the
sequencer's own store. -/
def execLockedStoreWrite (e : Eng) (word : Nat) (value : Microword) (s : State) : Res :=
  .next (
    if (s.ctlStore e).locked then s.raise 177
    else if engStoreSize e ≤ word then s
    else
      let put := fun c : ControlStore =>
        { c with own := (engStoreNo e, word, value) :: c.own.filter (fun x => ¬(x.1 = engStoreNo e ∧ x.2.1 = word)) }
      match e with
      | .formatter _ _ => { s with fmtStore := put s.fmtStore }
      | .service _ _ => s.updSvc (fun v => { v with store := put v.store }))

/-- A formatter store with the standard library for some lanes: entry words 0x00 to 0x3F, then the routines one after another (R211). -/
def libraryStore (lanes : Nat) : List Word :=
  let place := fun (r : List Nat × List Word) (n : Nat) => match libraryWork n with
    | some f => (r.1 ++ [64 + r.2.length], r.2 ++ f (64 + r.2.length) lanes)
    | none => (r.1 ++ [0], r.2)
  let (starts, body) := (List.range 64).foldl place ([], [])
  (List.range 64).map (fun n => libraryEntry n (starts.getD n 0)) ++ body

end Sys2Proof.Machine
end

