-- ==== Sys2Proof/Machine/FormatterCmds.lean ====
section
/-! DEFINITION. What the hub sends a formatter, and the wedge boundary that restarts a routine or applies a per-arm write
(R18, R163, R200, R201, R206, R207). -/

namespace Sys2Proof.Machine

/-- A routine that can open a write gate: 0x01, 0x09 and 0x0A of the standard library, and those the image marks writing (R477). -/
def State.routineWrites (s : State) (r : Nat) : Bool := [1, 9, 10].contains r || s.window.writing.contains r

/-- A request enters the formatter's queue, or is held on the link while its 16 places are taken (R201). -/
def State.enqueue (s : State) (p : PackId) (a : ArmId) (req : List Byte) : State :=
  if (s.arm p a).fmt.queue.length < 16 then (s.updFmt p a (fun f => { f with queue := f.queue ++ [req] })).kick p a
  else s.updFmt p a (fun f => { f with linkHeld := f.linkHeld ++ [req] })

/-- A request arrives (R200, R201, R221): malformed it ends at once with 0x1C, to a formatter in fault state with 0x17, to
an arm whose link is out with 0x18; otherwise it is queued. While an overlay apply waits for its quiet point the hub holds writing
routines (R477), and during a fail-over every new routine (R25). -/
def State.formatterRequest (s : State) (p : PackId) (a : ArmId) (req : List Byte) : State :=
  let x := s.arm p a
  if s.clusters.failOver.isSome ∨ (s.layers.applyStatus = 1 ∧ s.routineWrites (reqRoutine req)) then
    { s with layers := { s.layers with held := s.layers.held ++ [(p, a, req)] } }
  else if ¬ reqOk req then s.refuseRequest p a req 0x1C
  else if x.fmt.fault then s.refuseRequest p a req 0x17
  else if x.link.state = .out then s.refuseRequest p a req 0x18
  else s.enqueue p a req

/-- Held requests are released, in order of arrival. -/
def State.releaseRequests (s : State) : State :=
  s.layers.held.foldl (fun (s : State) x => s.formatterRequest x.1 x.2.1 x.2.2) { s with layers := { s.layers with held := [] } }

/-- A request from the hub. -/
def execFormatterRequest (p : PackId) (a : ArmId) (req : List Byte) (s : State) : Res := .next (s.formatterRequest p a req)

/-- An abandoned routine starts again at its entry word at a wedge boundary, with no head armed and one restart more; beyond
the restart limit it ends with 0x16 (R207). Restarts forced by a per-array write do not count (R206). -/
def execRoutineRestart (p : PackId) (a : ArmId) (s : State) : Res :=
  .next (
    let f := (s.arm p a).fmt
    if f.running ∧ f.wait = .restart then
      if s.param 0x7430 5 < f.restarts + 1 - f.uncounted then (s.endRoutine p a 0x16).kick p a
      else
        (((s.dropReads p a).disarm p a).updFmt p a (fun f =>
          { f.enter f.req with restarts := f.restarts + 1, restartCount := sat32 f.restartCount 1 })).routineMechanics p a
    else s)

/-- A cancel from the hub (R206): before the commit point the routine ends with 0x1A; after it the cancel waits for the
routine's next read gate. -/
def execFormatterCancel (p : PackId) (a : ArmId) (s : State) : Res :=
  .next (
    let f := (s.arm p a).fmt
    if ¬ f.running then s
    else if f.committed then s.updFmt p a (fun f => { f with cancel := true })
    else (s.endRoutine p a 0x1A).kick p a)

/-- A written per-lane or per-arm element is applied at a wedge boundary (R18, R163): the routine running before its commit
point is abandoned without counting a restart, one past it keeps the write waiting, and a parked arm takes it at its next
load. -/
def execPerArrayWriteApply (p : PackId) (a : ArmId) (s : State) : Res :=
  .next (
    let x := s.arm p a
    if ¬ x.fmt.writesDue ∨ ¬ x.servo.mode.parkable ∨ (x.fmt.running ∧ x.fmt.committed) then s
    else
      let s1 := if x.fmt.running then s.abandonRoutine p a false else s
      (s1.applyArrays p a).trimActive p a)

end Sys2Proof.Machine
end

