-- ==== Sys2Proof/Machine/TimeBases.lean ====
section
/-! DEFINITION. The rotation time base of each pack (R38 to R51): the wedge's phase error, the lock states, the skew
measurement, and the reload after a loss. -/

namespace Sys2Proof.Machine

/-! ### Detections -/

/-- Insertion into a rising list. -/
def insertInt (x : Int) : List Int → List Int
  | [] => [x]
  | y :: l => if x ≤ y then x :: y :: l else y :: insertInt x l

/-- Median; of an even count the mean of the two middle values (R39). None of an empty list. -/
def median (l : List Int) : Option Int :=
  let r := l.foldl (fun acc x => insertInt x acc) []
  let n := r.length
  if n = 0 then none
  else if n % 2 = 1 then r[n / 2]?
  else match r[n / 2 - 1]?, r[n / 2]? with
    | some a, some b => some (roundDiv (a + b) 2)
    | _, _ => none

/-- A difference of angles within the revolution as a signed number of RU. -/
def signedAngle (x : Int) : Int :=
  let d := x % 2 ^ 28
  if d < 2 ^ 27 then d else d - 2 ^ 28

/-- The wedge whose reference point the arm reaches next to the present angle (R38). -/
def State.predictedWedge (s : State) (p : PackId) (a : ArmId) : Nat := ((s.armAngle p a).toNat % 2 ^ 28 + 2 ^ 18) / 2 ^ 19 % 512

/-- The pack angle within the revolution at a tile-clock time of 1/16 ns: the time base's angle now, less what it has turned since (R33,
R39). -/
def State.detAngle (s : State) (p : PackId) (time : Nat) : Int :=
  let t := s.packs[p].tb
  ((t.angle.toNat % 2 ^ 28 : Nat) : Int) - ((16 * s.now : Nat) - (time : Int)) * (2 ^ 28 * 100) / (16 * max t.loopPeriod 1 : Nat)

/-- Phase error of a detection of wedge `w` with skew `skew` (R39). -/
def State.phaseError (s : State) (p : PackId) (d : Detection) (w : Nat) (skew : Int) : Int :=
  signedAngle (s.detAngle p d.time - w * 2 ^ 19 - (s.arm p d.arm).servo.angleOffset - skew)

/-- The mark was found and decoded with the predicted index, on a lane that is powered. -/
def State.detected (s : State) (p : PackId) (d : Detection) : Bool :=
  s.laneOn p d.arm d.head && detIndex d == some (s.predictedWedge p d.arm)

/-- The detection is valid (R38). -/
def State.detectionValid (s : State) (p : PackId) (d : Detection) : Bool :=
  let l := s.lane p d.arm d.head
  s.detected p d && (l.time = .valid || l.time = .provisional)
    && inServoWindow (l.time = .provisional) (s.phaseError p d (s.predictedWedge p d.arm) l.skew)

/-- The detection enters the skew measurement (R49, R51): a drifting lane is measured too. -/
def State.measurable (s : State) (p : PackId) (d : Detection) : Bool :=
  s.detected p d && (s.lane p d.arm d.head).time ≠ .excluded

/-- The phase error of a valid detection, whose index is the predicted one. -/
def State.validError (s : State) (p : PackId) (d : Detection) (skew : Int) : Int :=
  s.phaseError p d (s.predictedWedge p d.arm) skew

/-- The pack phase error of a wedge; none when fewer than 3 detections are valid (R39). -/
def State.packError (s : State) (p : PackId) (dets : List Detection) : Option Int :=
  let v := dets.filter (s.detectionValid p)
  if v.length < 3 then none else median (v.map (fun d => s.validError p d (s.lane p d.arm d.head).skew))

/-- More than half of the lanes that found a mark report another index than predicted (R42). -/
def State.indexAstray (s : State) (p : PackId) (dets : List Detection) : Bool :=
  let f := dets.filter (fun d => detFound d && s.laneOn p d.arm d.head)
  let other := f.filter (fun d => match detIndex d with
    | some w => w != s.predictedWedge p d.arm
    | none => false)
  decide (f.length < 2 * other.length)

/-! ### Changes of state -/

/-- Entry to Lost (R45, R46): routines end with 0x10; sectors being written are torn and close at their scheduled angles; a loss of lock
is counted, and the third within 10 minutes fails the pack. Both arms park, one still loading too; otherwise the arms parked here reload later. -/
def State.tbLost (s : State) (p : PackId) : State :=
  let loss := s.packs[p].arms.any (fun x => x.servo.mode.onTrack)
  let parked := s.packs[p].arms.map (fun x => x.servo.mode.parkable)
  let s1 := (s.updTb p (fun t => { t with state := .lost, measuring := false })).updPack p (fun k =>
    { k with arms := k.arms.map (fun x => x.mapLanes (fun l =>
      { l with chan := { l.chan with writing := l.chan.writing.map (fun w => { w with torn := true }) } })) })
  let s2 := (s1.endRoutine p 0 0x10).endRoutine p 1 0x10
  let times := if loss then (s.now :: s.packs[p].tb.lossTimes).filter (fun t => s.now ≤ t + 600 * 10 ^ 9) else []
  let s3 := if loss then s2.updTb p (fun t => { t with losses := sat32 t.losses 1, lossTimes := times }) else s2
  let s4 := (s3.parkArmBy p 0 false).parkArmBy p 1 false
  let s5 := if 3 ≤ times.length then s4.packFail p 7
    else (List.finRange 2).foldl (fun s a => if parked[a] then s.updServo p a (fun v => { v with reloadPending := true }) else s) s4
  s5.kickPack p

/-- Entry to Acquire from an index that at least 3 lanes report (R42, R43): WEDGE and PHASE are set from the median of their
detections; REV stays. Of two indexes reported by 3 lanes each the first in the list of detections is taken (DESIGN CHOICE: log entry
102). -/
def State.tbAcquire (s : State) (p : PackId) (dets : List Detection) : State :=
  let f := dets.filter (fun d => (detIndex d).isSome && s.laneOn p d.arm d.head)
  match f.find? (fun d => 3 ≤ (f.filter (fun e => detIndex e = detIndex d)).length) with
  | none => s
  | some d =>
    let w := (detIndex d).getD 0
    match median ((f.filter (fun e => detIndex e = detIndex d)).map (fun e => s.phaseError p e w (s.lane p e.arm e.head).skew)) with
    | none => s
    | some e =>
      s.updTb p (fun t =>
        let low := (((t.angle.toNat % 2 ^ 28 : Nat) : Int) - e) % 2 ^ 28
        { t with state := .acquire, angle := BitVec.ofNat 40 (t.angle.toNat / 2 ^ 28 * 2 ^ 28 + low.toNat),
                 goodRun := 0, sawWedge0 := false, poorRun := 0, acquireWedges := 0, missed := 0, lossRun := 0,
                 badIndexRun := 0 })

/-- The loop corrects the increment and the phase from a wedge's error; its gains are not stated, so both results are free
values (R40, assumption 18). -/
def State.tbCorrect (s : State) (p : PackId) : State :=
  let (dp, s1) := s.takeFree
  let (per, s2) := s1.takeFree
  s2.updTb p (fun t => { t with angle := t.angle + BitVec.ofNat 40 dp, loopPeriod := per })

/-! ### Skews -/

/-- The sums of the skew measurement and of the drift watch take a wedge's detections (R49, R51). -/
def State.sumSkews (s : State) (p : PackId) (dets : List Detection) : State :=
  let s1 :=
    if s.packs[p].tb.measuring ∧ s.packs[p].tb.measured < 2048 then
      (dets.filter (fun d => s.measurable p d && s.packs[p].tb.measSet[d.arm])).foldl (fun s d => s.updLane p d.arm d.head (fun l =>
        { l with measSum := l.measSum + s.validError p d 0, measCount := l.measCount + 1 })) s
    else s
  (dets.filter (s.detectionValid p)).foldl (fun s d => s.updLane p d.arm d.head (fun l =>
    { l with driftSum := l.driftSum + s.validError p d l.skew, driftCount := l.driftCount + 1 })) s1

/-- At each revolution a lane whose mean phase error exceeds 2^11 RU becomes drifting, and its arm is to be measured again; this is
watched in Locked, and the sums start afresh with each revolution (R51). -/
def State.watchDrift (s : State) (p : PackId) (a : ArmId) : State :=
  (List.finRange 16).foldl (fun s h =>
    let l := s.lane p a h
    let s1 := s.updLane p a h (fun l => { l with driftSum := 0, driftCount := 0 })
    if s.packs[p].tb.state = .locked ∧ l.time = .valid ∧ l.driftCount ≠ 0 ∧ 2 ^ 11 < (roundDiv l.driftSum l.driftCount).natAbs then
      ((s1.updLane p a h (fun l => { l with time := .drifting })).updTb p (fun t =>
        { t with remeasure := t.remeasure.set a.val true a.isLt })).raiseLane p a h 0
    else s1) s

/-- Each wedge of a time base that follows the disk counts toward its revolution and toward the 4 revolutions of a skew measurement, missed or
not (R49). Once per revolution the measured period follows the increment (R33, R40) and the drift is judged (R51). -/
def State.countWedge (s0 : State) (p : PackId) : State :=
  let s := s0.updTb p (fun t => if t.measuring ∧ t.measured < 2048 then { t with measured := t.measured + 1 } else t)
  let t := s.packs[p].tb
  if t.state ≠ .acquire ∧ t.state ≠ .locked ∧ t.state ≠ .coast then s0
  else if t.sinceRev + 1 < 512 then s.updTb p (fun t => { t with sinceRev := t.sinceRev + 1 })
  else ((s.updTb p (fun t => { t with sinceRev := 0, revPeriod := t.loopPeriod })).watchDrift p 0).watchDrift p 1

/-- An arm has loaded and is not yet measured. -/
def Arm.freshlyLoaded (x : Arm) : Bool := x.servo.justLoaded && x.servo.mode.onTrack

/-- A measurement begins with empty sums, over the loaded arms after a load, else over the arms wanted again (R49, R51). -/
def State.startMeasuring (s : State) (p : PackId) : State :=
  let fresh := s.packs[p].arms.any Arm.freshlyLoaded
  let again := s.packs[p].tb.remeasure
  let on := fun a : ArmId => (s.arm p a).servo.mode.onTrack && (fresh || !(again[(0 : ArmId)] || again[(1 : ArmId)]) || again[a])
  (s.updTb p (fun t => { t with measuring := true, measured := 0, measSet := Vector.ofFn on })).updPack p (fun k =>
    { k with arms := k.arms.map (fun x => x.mapLanes (fun l => { l with measSum := 0, measCount := 0 })) })

/-! ### The position of an arm (R250, R251, R258) -/

/-- The lanes whose head the arm serves: neither excluded nor Removed (R256). -/
def Lane.inService (l : Lane) : Bool := l.time ≠ .excluded && l.health.quality ≠ 4

/-- The position of the arm under its valid heads, 2^-10 track: the mean of their positions less their microactuators' displacements, with the
weights of R245 (DEDUCED: log entry 151); none where no head counts. -/
def Arm.headPlace (x : Arm) (micro : Nat) : Option Int :=
  weightedError ((List.finRange 16).filterMap (fun h =>
    let l := x.lanes[h]
    if l.inService ∧ l.servo.status ≠ .lost ∧ l.servo.missRun = 0 ∧ l.servo.validRun ≠ 0 then
      some (coefInt x.servo.coef 0x0C (h.val + 1), l.servo.place - commandToTracks l.servo.micro micro)
    else none))

/-- The position is kept as 20 integer and 10 fraction bits of track (R251). -/
def keptPlace (y : Int) : Int := max 0 (min (2 ^ 30 - 1) y)

/-- The arm's position and velocity at the end of a wedge (R251): from the valid heads, otherwise carried on (DEDUCED: log entry 151). -/
def ArmServo.track (v : ArmServo) (place : Option Int) : ArmServo :=
  match place with
  | some y => { v with position := keptPlace y, velocity := if v.known then roundDiv (keptPlace y - v.position) 4 else 0, known := true }
  | none => { v with position := keptPlace (v.position + v.velocity * 4) }

/-- An arm finds itself Locked while Searching (R250, R258): it follows the track under it, with every head at offset 0; its load is complete
(R74). Where no head has given a position yet the track is a free value. -/
def State.startFollowing (s : State) (p : PackId) (a : ArmId) : State :=
  let (t, s1) := s.takeFree
  let v := (s.arm p a).servo
  let track := if v.known then (roundDiv v.position 1024).toNat else t % 2 ^ 20
  let s2 := s1.updArm p a (fun x =>
    { x.mapLanes (fun l => { l with servo := { l.servo.clearLoop.followArm track with status := .following, settled := true, settleRun := 0 } })
      with servo := { x.servo.clearLoop with mode := .following, target := track, loadFailRun := 0, seekLanes := 0, sitOut := 0 } })
  s2.updPack p (fun k => { k with life := { k.life with loads := k.life.loads.set a.val (sat32 k.life.loads[a] 1) a.isLt } })

/-- An arm that searches under a Locked time base follows (R250). -/
def State.followLocked (s : State) (p : PackId) (a : ArmId) : State :=
  if (s.arm p a).servo.mode = .searching ∧ s.packs[p].tb.state = .locked then s.startFollowing p a else s

/-- Both arms of a pack whose time base is Locked. -/
def State.followPack (s : State) (p : PackId) : State := (s.followLocked p 0).followLocked p 1

/-! ### The commands -/

/-- The time base enters Locked: the commutation offset is learned from then on (R278), and arms that search follow (R250). -/
def State.tbLocked (s : State) (p : PackId) : State :=
  (s.updSpin p (fun x => { x with learning := true, learnSum := 0, learnCount := 0 })).followPack p

/-- A wedge in Acquire (R42): the run of wedges inside the lock window decides on Locked. Whether wedge 0 was among them is judged in arm 0's frame, which is the pack's (DESIGN CHOICE:
log entry 137). -/
def State.acquireWedge (s : State) (p : PackId) (err : Option Int) : State :=
  let t0 := s.packs[p].tb
  let inside : Bool := match err with
    | some e => decide (e.natAbs ≤ s.packParam p 0x20 5)
    | none => false
  let run := if inside then t0.goodRun + 1 else 0
  let zero := if inside then t0.sawWedge0 || s.predictedWedge p 0 == 0 else false
  let s1 := s.updTb p (fun t => { t with goodRun := run, sawWedge0 := zero, acquireWedges := t.acquireWedges + 1,
                                         poorRun := if err.isSome then 0 else t.poorRun + 1 })
  let s2 := if err.isSome then s1.tbCorrect p else s1
  if s.packParam p 0x20 4 ≤ run ∧ zero then
    let s3 := s2.updTb p (fun t => { t with state := .locked, acquisitions := sat32 t.acquisitions 1, missed := 0,
                                            lossRun := 0, badIndexRun := 0 })
    let s4 := s3.tbLocked p
    if s4.packs[p].arms.any (fun x => x.servo.justLoaded) then s4.startMeasuring p else s4
  else s2

/-- Routines held at a write gate go on: the time base is Locked again (R44). -/
def State.endHold (s : State) (p : PackId) : State :=
  (s.updFmt p 0 (fun f => { f with held := false })).updFmt p 1 (fun f => { f with held := false })

/-- A wedge in Locked or Coast (R42, R44). In Coast the base advances uncorrected (R41). No row of R42 names a single wedge whose error lies
beyond the loss threshold: state and missed-wedge count stay (DESIGN CHOICE: log entry 101). -/
def State.lockedWedge (s : State) (p : PackId) (dets : List Detection) (err : Option Int) : State :=
  let t0 := s.packs[p].tb
  let beyond : Bool := match err with
    | some e => decide (s.packParam p 0x20 6 < e.natAbs)
    | none => false
  let loss := if beyond then t0.lossRun + 1 else 0
  let astray := if s.indexAstray p dets then t0.badIndexRun + 1 else 0
  let s1 := s.updTb p (fun t => { t with lossRun := loss, badIndexRun := astray })
  if 2 ≤ loss ∨ 2 ≤ astray then s1.tbLost p
  else match err with
    | none => s1.updTb p (fun t => { t with state := .coast, missed := if t.state = .coast then t.missed + 1 else 1 })
    | some e =>
      let inside : Bool := decide (e.natAbs ≤ s.packParam p 0x20 5)
      let s2 := if inside ∧ t0.state = .coast then ((s1.updTb p (fun t => { t with state := .locked, missed := 0 })).endHold p).tbLocked p else s1
      if s2.packs[p].tb.state ≠ .locked then s2
      else
        let s3 := (s2.sumSkews p dets).tbCorrect p
        if ¬ s3.packs[p].tb.measuring ∧ s3.packs[p].arms.any Arm.freshlyLoaded then s3.startMeasuring p else s3

/-- Writes to P+0x2B take effect at a wedge boundary at which no arm of the pack has a write gate open (R268). -/
def State.applyTuning (s : State) (p : PackId) : State :=
  if s.packs[p].arms.any (fun x => x.lanes.any (fun l => l.chan.writeOpen)) then s
  else s.updPack p (fun k => { k with tuning := (List.range 6).map (fun i => s.packParam p 0x2B (i + 1)) })

/-- What waits for a wedge boundary: the synthesizer rates and the targets of SEEKs, and written servo entries (R27, R244, R268). -/
def State.atWedge (s : State) (p : PackId) : State :=
  ((((s.applySynth p 0).applySynth p 1).takeOrder p 0).takeOrder p 1).applyTuning p

/-- Once per wedge the pack port forms the pack phase error and moves its lock state (R38 to R44), and what waits for a
wedge boundary takes effect. In Lost detections are ignored (R46); at the coast limit the wedge has no effect, since the loss is due
first. -/
def execWedgePhaseUpdate (p : PackId) (dets : List Detection) (s0 : State) : Res :=
  .next (
    let s := s0.atWedge p
    let t := s.packs[p].tb
    match t.state with
    | .stopped => s
    | .lost => s
    | .freeRun => s.tbAcquire p dets
    | .acquire => (s.acquireWedge p (s.packError p dets)).countWedge p
    | .locked => (s.lockedWedge p dets (s.packError p dets)).countWedge p
    | .coast =>
      if s.packParam p 0x20 7 ≤ t.missed then s else (s.lockedWedge p dets (s.packError p dets)).countWedge p)

/-- The missed-wedge count has reached the coast limit: Lost (R42). -/
def execTbCoastLimit (p : PackId) (s : State) : Res :=
  .next (
    let t := s.packs[p].tb
    if t.state = .coast ∧ s.packParam p 0x20 7 ≤ t.missed then s.tbLost p else s)

/-- Acquire has seen no wedge with 3 valid detections for 512 wedge periods, or has lasted 64 revolutions (R42). -/
def execTbAcquireTimeout (p : PackId) (s : State) : Res :=
  .next (
    let t := s.packs[p].tb
    if t.state = .acquire ∧ (512 ≤ t.poorRun ∨ 64 * 512 ≤ t.acquireWedges) then s.updTb p TimeBase.freeRun else s)

/-- Mean of a lane's raw phase errors; none without a detection. -/
def Lane.measMean (l : Lane) : Option Int := if l.measCount = 0 then none else some (roundDiv l.measSum l.measCount)

/-- The arm mean M_a over the lanes within 2^15 RU of the median (R49); 0 for an arm whose lanes gave no mean (DESIGN CHOICE: log entry
103). -/
def Arm.skewMean (x : Arm) : Int :=
  let m := x.lanes.toList.filterMap Lane.measMean
  match median m with
  | none => 0
  | some c =>
    let near := m.filter (fun v => (v - c).natAbs ≤ 2 ^ 15)
    roundDiv near.sum near.length

/-- A lane takes its skew S_h = m_h - M_a, or is excluded (R49, R50). A lane without a mean, or whose skew exceeds 2^14 RU, which no skew may
(R34), keeps the skew it had (DESIGN CHOICE: log entry 103). The drift watch of R51 starts afresh with the new skew, whose first mean is over
the rest of the revolution (DESIGN CHOICE: log entry 139). -/
def Lane.takeSkew (l0 : Lane) (mean : Int) : Lane :=
  let l := { l0 with driftSum := 0, driftCount := 0 }
  match l.measMean with
  | none => { l with time := .excluded }
  | some m =>
    let k := m - mean
    if 2 ^ 14 < k.natAbs then { l with time := .excluded }
    else { l with skew := k, time := if l.measCount < 1024 then .excluded else .valid }

/-- The arm's new values (R49, R50). -/
def State.takeSkews (s : State) (p : PackId) (a : ArmId) : State :=
  let m := (s.arm p a).skewMean
  let s0 := s.updArm p a (fun x => { x.mapLanes (fun l => l.takeSkew m) with servo := { x.servo with justLoaded := false } })
  let s1 := (List.finRange 16).foldl (fun s h => if (s.lane p a h).time = .excluded then s.removeLane p a h else s) s0
  if a = 0 then s1.updTb p (fun t => { t with angle := t.angle - BitVec.ofInt 40 m })
  else
    let o := (((s.arm p a).servo.angleOffset : Int) + m) % 2 ^ 28
    let s2 := s1.updServo p a (fun v => { v with angleOffset := o.toNat })
    let nom := match s.packs[p].factory with | some f => f.nominalOffset | none => 0
    if 2 ^ 16 < (signedAngle (o - nom)).natAbs then (s2.parkArm p a).raisePack p 2 else s2

/-- After 4 revolutions of measurement the skews and the arm offset take effect together, at the first wedge boundary at which no arm measured
runs a routine past its commit point (R18, R49, R50); a Spinning pack with an arm loaded is then Loaded (R90). -/
def execSkewMeasurementDone (p : PackId) (s : State) : Res :=
  .next (
    let t := s.packs[p].tb
    let members := (List.finRange 2).filter (fun a => t.measSet[a] && (s.arm p a).servo.mode.onTrack)
    if t.state = .locked ∧ t.measuring ∧ 2048 ≤ t.measured ∧ ¬ members.any (fun a => (s.arm p a).fmt.running && (s.arm p a).fmt.committed) then
      let left := Vector.ofFn (fun a : Fin 2 => t.remeasure[a] && !t.measSet[a])
      let s1 := s.updTb p (fun t => { t with measuring := false, measured := 0, remeasure := left })
      let s2 := members.foldl (fun s a => s.takeSkews p a) s1
      (s2.checkLoaded p).kickPack p
    else s)

/-- No arm of the pack writes: the skews of a drifting arm are measured again (R51). -/
def execSkewRemeasureStart (p : PackId) (s : State) : Res :=
  .next (
    let t := s.packs[p].tb
    if t.state = .locked ∧ ¬ t.measuring ∧ ¬ s.packs[p].arms.any Arm.writing ∧ (t.remeasure[(0 : Fin 2)] ∨ t.remeasure[(1 : Fin 2)]) then
      s.startMeasuring p
    else s)

/-- The bytes of a request for routine `r` on all lanes with a tag and G1 (R200). -/
def requestBytes (r tag g1 : Nat) : List Byte :=
  natBytes 1 r ++ natBytes 1 0 ++ natBytes 2 0xFFFF ++ natBytes 4 tag ++ natBytes 8 0 ++ natBytes 8 g1 ++ natBytes 40 0
    ++ natBytes 64 0

/-- A pack state in which its arms may be loaded (R89, R90). -/
def PackState.mayCarry : PackState → Bool
  | .spinning | .loaded | .ready | .draining | .spent => true
  | _ => false

/-- An arm that parked on a lost lock or link reloads once its time base is out of Lost and the spindle is in its window
(R46, R86): its LOAD routine is requested under a tag of the hub's choice (assumption 22). -/
def execArmReload (p : PackId) (a : ArmId) (s : State) : Res :=
  .next (
    let v := (s.arm p a).servo
    if v.reloadPending ∧ s.mayLoad p a ∧ s.packs[p].state.mayCarry ∧ s.packs[p].tb.state ≠ .lost ∧ (s.arm p a).link.state = .up
        ∧ ¬ (s.arm p a).fmt.fault then
      let (tag, s1) := s.takeFree
      (s1.updServo p a (fun v => { v with reloadPending := false })).enqueue p a
        (requestBytes 4 (tag % 2 ^ 32) s.packs[p].spindle.target)
    else s)

end Sys2Proof.Machine
end

