-- ==== Sys2Proof/Machine/Servo.lean ====
section
/-! DEFINITION. The servo engine's wedge of a head and of an arm (R234 to R246, R251 to R256), loads, parks and Gale retracts
as their timers end (R258 to R265), the VCM loops (R247, R258), and the miscompare (R229, R266). -/

namespace Sys2Proof.Machine

/-! ### One head -/

/-- Servo parameters in force (R268). -/
def State.servoParams (s : State) (p : PackId) : ServoParams :=
  let t := s.packs[p].tuning
  { inhibit := t.getD 0 0, release := t.getD 1 0, window := t.getD 2 0, count := t.getD 3 0 }

/-- Position of a demodulator result, 2^-30 track (R234, R236). -/
def demodPosition (c : List (Nat × Nat)) (h : HeadServo) (d : Demod) : Int :=
  headPosition (coefInt c 5 2) d.n d.q ((readTrack d.trackCells).getD (0, 0)).1 h.predicted

/-- The demodulator found the mark and read every field without a bad dibit or parity error, and the surface is the lane's own (R234, R235). -/
def demodReads (d : Demod) (h : HeadId) : Bool :=
  d.mark == addressMark && (readIndex d.indexCells).isSome && (readTrack d.trackCells).map (fun x => x.2) == some h.val
    && (readRunout d.runoutCells).isSome

/-- The lane's position for the wedge is valid (R235). -/
def State.demodValid (s : State) (p : PackId) (a : ArmId) (h : HeadId) (d : Demod) : Bool :=
  let x := s.arm p a
  let v := x.lanes[h].servo
  demodReads d h && (!s.tbUsable p || readIndex d.indexCells == some (s.predictedWedge p a))
    && burstsPlausible (coefInt x.servo.coef 5 3) d.n d.q (demodPosition x.servo.coef v d) v.predicted
      (coefAt x.servo.coef 5 4)

/-- The status that the count of misses gives (R255); the eighth miss is HEAD_LOST's. -/
def HeadServo.statusAfter (h : HeadServo) (mode : ArmMode) (valid : Bool) : LaneServo :=
  match h.status with
  | .notInService => .notInService
  | .lost => .lost
  | .satOut => .satOut
  | _ =>
    if valid then
      (match mode with
        | .seeking => .seeking
        | .settling => if h.settled then .following else .settling
        | .following => if h.settled then .following else .settling
        | _ => h.status)
    else if h.missRun < 2 then .coasting else .coastingInhibited

/-- The command of a head for the wedge, with the head loop where it runs (R238 to R240, R255, R258, R259). The count is of the loop's own
saturations (R233); a saturated command has its own counter, P+0x2A. -/
def headCommand (x : ArmServo) (micro : Nat) (trim : Int) (h : HeadServo) (valid : Bool) : Sat × HeadServo :=
  let f := feedForward h.offset micro
  match x.mode with
  | .following | .settling =>
    if 8 ≤ h.missRun then (⟨(microCommand f trim).val, 0⟩, h.clearLoop)
    else
      let (u, g) := headLoop x.coef h h.err (!valid)
      (⟨(microCommand (f + u.val) trim).val, u.sats⟩, g)
  | .seeking => (⟨(microCommand f trim).val, 0⟩, h.clearLoop)
  | .parking => (⟨h.command * (x.ramp - 1 : Nat) / (max x.ramp 1 : Nat), 0⟩, h.clearLoop)
  | _ => (⟨0, 0⟩, h.clearLoop)

/-- A saturated command is +32,767 or -32,768 (R253). -/
def commandSaturated (c : Int) : Bool := c == 32767 || c == -32768

/-- The head after its wedge: misses, error, command, settling, inhibit, RMS (R237 to R241, R252 to R255). -/
def headWedge (x : ArmServo) (q : ServoParams) (micro : Nat) (trim : Int) (d : Demod) (valid : Bool) (h0 : HeadServo) :
    HeadServo × Nat :=
  let h1 := missStep valid h0
  let h2 : HeadServo := if valid then
      { h1 with err := positionError (demodPosition x.coef h0 d) h1.target ((readRunout d.runoutCells).getD 0) h1.ladderOffset,
                place := roundShift (demodPosition x.coef h0 d) 20 } else h1
  let (c, h3) := headCommand x micro trim h2 valid
  let sat := commandSaturated c.val
  let h4 : HeadServo := { trackReversal h3 c.val micro with
                command := c.val, satLast := sat,
                saturations := if sat then min (h3.saturations + 1) (2 ^ 32 - 1) else h3.saturations,
                micro := microEstimate (coefInt x.coef 5 1) h3.micro c.val }
  let h5 : HeadServo := if x.mode = .settling ∨ (x.mode = .following ∧ ¬ h4.settled) then settleStep q valid h4 else h4
  let h6 := inhibitStep q (x.mode = .following) h5.driverFault valid h5
  let h7 := if x.mode = .following ∧ valid then rmsStep h6 else h6
  ({ h7 with status := h7.statusAfter x.mode valid }, c.sats)

/-- Reversals in pairs are stroke cycles, counted by the thousand (R74, R241). -/
def State.countStrokes (s : State) (p : PackId) (a : ArmId) (h : HeadId) : State :=
  let r := (s.lane p a h).servo.reversals
  if 2000 ≤ r then
    let i : Fin 32 := ⟨a.val * 16 + h.val, by omega⟩
    (s.updLane p a h (fun l => { l with servo := { l.servo with reversals := r - 2000 } })).updPack p (fun k =>
      { k with life := { k.life with
          heads := k.life.heads.set i { k.life.heads[i] with strokes := sat32 k.life.heads[i].strokes 1 } } })
  else s

/-! ### Lockstep (R229, R266) -/

/-- The filters of a notch as numbers. -/
def Biquad.words (b : Biquad) : List Int := [b.x1, b.x2, b.u1, b.u2]

/-- The filter and integrator state of an arm unit (R229): the arm's loops and every head's. Their order is the model's (log entry 119). -/
def Arm.unitState (x : Arm) : List Int :=
  let v := x.servo
  [v.est0, v.est1, v.est2, v.integ] ++ v.notch1.words ++ v.notch2.words ++ v.notch3.words ++ v.notch4.words
    ++ (x.lanes.toList.map (fun l => [l.servo.integ, l.servo.leadX, l.servo.leadU, l.servo.micro] ++ l.servo.notch1.words ++ l.servo.notch2.words)).flatten

/-- The CRC-32C that core 0 forms over the arm unit's state (R229). -/
def Arm.unitCrc (x : Arm) : Nat := crc32c ((x.unitState.map (fun v => natBytes 8 (v % 2 ^ 64).toNat)).flatten)

/-- At each wedge boundary of each arm the cores compare the CRCs over their state (R229): `crc1` is core 1's. -/
def execServoStateCrcCompare (p : PackId) (a : ArmId) (crc1 : Nat) (s : State) : Res :=
  .next (s.compared (tileOf p) (crc1 == (s.arm p a).unitCrc) id)

/-! ### One arm -/

/-- The arm error of the wedge (R245 steps 1 and 2). -/
def Arm.error (x : Arm) (micro : Nat) : Option Int :=
  weightedError ((List.finRange 16).filterMap (fun h =>
    let l := x.lanes[h]
    if l.inService ∧ l.servo.status ≠ .lost ∧ l.servo.missRun = 0 ∧ l.servo.validRun ≠ 0 then
      some (coefInt x.servo.coef 0x0C (h.val + 1), l.servo.err - commandToTracks l.servo.micro micro)
    else none))

/-- Every lane of the last SEEK has settled or sits out: Settling ends (R250). -/
def Arm.settle (x : Arm) : Arm :=
  if x.servo.mode = .settling ∧ ¬ x.unsettled then { x with servo := { x.servo with mode := .following } } else x

/-- The change to Settling: the loops start from zero (R240, R252). -/
def Arm.toSettling (x : Arm) : Arm :=
  { x.mapLanes (fun l =>
      { l with servo := { l.servo.clearLoop with settled := false, settleRun := 0,
                                                  status := if l.servo.status = .seeking then .settling else l.servo.status } })
    with servo := { x.servo.clearLoop with mode := .settling, wedgesSettling := 0 } }

/-- The set-point of a wedge toward the arm target while the arm seeks or parks by position (R251, R259); its saturations count (R233). -/
def ArmServo.seekWedge (v : ArmServo) : ArmServo :=
  let u := seekDrive v.coef ((v.target : Int) * 1024 - v.position) v.velocity
  { v with setPoint := u.val, setPointNew := true, saturations := sat32 v.saturations u.sats }

/-- The end of a wedge of the arm: every head in service has its result (R245, R246, R250 to R252, R256, R259). An arm that is Loading is not
parked by R256: its heads come off the ramp, and there is no wedge for them to miss (DEDUCED: log entry 152). -/
def State.armWedge (s0 : State) (p : PackId) (a : ArmId) : State :=
  let micro := s0.packs[p].micro
  let s := s0.updServo p a (fun v => v.track ((s0.arm p a).headPlace micro))
  let x := s.arm p a
  let served := (x.lanes.toList.filter Lane.inService)
  let lost := served.filter (fun l => 8 ≤ l.servo.missRun)
  let blind := served.all (fun l => l.servo.missRun ≠ 0)
  if x.servo.mode.onTrack ∧ served.length < 2 * lost.length then
    ((s.updServo p a (fun v => { v with missedParks := sat32 v.missedParks 1 })).parkArm p a).kick p a
  else match x.servo.mode with
    | .following => s.updServo p a (fun v => armLoop v (x.error micro))
    | .settling =>
      s.updArm p a (fun x =>
        ({ x with servo := { armLoop x.servo (x.error micro) with wedgesSettling := x.servo.wedgesSettling + 1 } }).settle)
    | .seeking =>
      let s1 := s.updServo p a ArmServo.seekWedge
      let d := ((s1.arm p a).servo.target : Int) * 1024 - (s1.arm p a).servo.position
      if d.natAbs ≤ s.packs[p].tuning.getD 5 0 * 1024 then s1.updArm p a Arm.toSettling else s1
    | .searching => s.followLocked p a
    | .parking =>
      let ramp := x.servo.ramp
      let s1 := s.updServo p a (fun v => { v with ramp := v.ramp - 1 })
      let s2 := if ramp = 1 then s1.sendCmd p a 3 0 else s1
      if x.servo.stage = .position then
        let run := if blind then x.servo.blindRun + 1 else 0
        let d := (x.servo.target : Int) * 1024 - x.servo.position
        s2.updServo p a (fun v =>
          { v.seekWedge with blindRun := run, stage := if 8 ≤ run then .backEmf else if d.natAbs ≤ 512 then .unload else v.stage,
                             parkLeft := s.packs[p].wayToPark v })
      else s2
    | _ => s

/-- The microactuator drivers of the head are enabled and its arm's link is up. -/
def Arm.sendsMa (x : Arm) (h : HeadId) : Bool := x.servo.microEnabled.testBit h.val && x.link.state = .up

/-- The off-track offset of a head for the wedge (R179, R237): that of a step 3 read of its ladder whose sector passes in the wedge that this
servo field begins, or is passing in two fragments; zero otherwise. -/
def State.passOffset (s : State) (p : PackId) (a : ArmId) (h : HeadId) : Int :=
  let f := (s.arm p a).fmt
  let here := (s.laneAngle p a h).toNat / 2 ^ 19 % 512
  let passes := fun (y : LadderSector) => y.passing || (match s.gatePlan p a h y.addr false with
    | some g => g.first / 2 ^ 19 % 512 == here
    | none => false)
  if ¬ f.running ∨ ¬ f.laddering then 0
  else match f.ladder.find? (fun y => y.lane = h && y.step = 3 && passes y) with
    | some y => ladderOffset (if y.passing then y.params.getD 7 0 else s.packParam p 0x15 8) 3 y.reads
    | none => 0

/-- A lane's demodulator delivers its results (R234 to R241, R245, R252 to R255); the prediction for the next wedge is the
arm unit's own and a free value. `same` says that core 1's output words equal core 0's; nothing leaves the engine before they matched (R229).
With the last head in service of the arm, the arm's wedge follows. -/
def execServoDemodResult (p : PackId) (a : ArmId) (h : HeadId) (d : Demod) (same : Bool) (s : State) : Res :=
  .next (
    let x := s.arm p a
    if ¬ s.laneOn p a h ∨ ¬ x.servo.mode.loaded ∨ s.tiles[tileOf p].servoOut then s
    else if ¬ same then s.miscompare (tileOf p)
    else
      let valid := s.demodValid p a h d
      let v0 := { x.lanes[h].servo with ladderOffset := s.passOffset p a h }
      let (v, sats) := headWedge x.servo (s.servoParams p) s.packs[p].micro (x.servo.maTrim.getD h.val 0) d valid v0
      let (pred, s1) := s.takeFree
      let s2 := (s1.updLane p a h (fun l => { l with servo := { v with predicted := signedNat 40 (pred % 2 ^ 40) } })).updServo p a
        (fun u => { u with saturations := sat32 u.saturations sats, reported := u.reported ||| laneBit h })
      let s3 := s2.countStrokes p a h
      let s4 := if v.inhibit ∧ ¬ v0.inhibit then s3.barWrites p a (laneBit h) else s3
      let s5 := if x.sendsMa h then s4.send (.frame p.val a.val (maFrame h.val v.command (s.predictedWedge p a % 256))) else s4
      let all := (List.finRange 16).all (fun g => (s5.arm p a).servo.reported.testBit g.val || !(s5.lane p a g).inService)
      if all then (s5.updServo p a (fun u => { u with reported := 0 })).armWedge p a else s5)

/-- A head with 8 consecutive misses is lost (R255): its loop is cleared, and the lane sits out every operation, on the arm target (R239). `same`
says that core 1 decided the same (R229). -/
def execHeadLost (p : PackId) (a : ArmId) (h : HeadId) (same : Bool) (s : State) : Res :=
  .next (
    let v := (s.lane p a h).servo
    if 8 ≤ v.missRun ∧ v.status ≠ .lost ∧ v.status ≠ .notInService then
      s.compared (tileOf p) same (fun s =>
        ((s.updArm p a (fun x =>
          ({ x.updLane h (fun l =>
               { l with servo := { (l.servo.clearLoop.inhibitNow).followArm x.servo.target with status := .lost, settled := false } }) with
              servo := { x.servo with sitOut := x.servo.sitOut ||| laneBit h } }).settle)).barWrites p a (laneBit h)).updFmt p a
            (fun f => if f.running then { f with satOut := f.satOut ||| laneBit h } else f))
    else s)

/-- A lost head returns after 16 consecutive valid wedges; it settles at the arm's next SEEK (R256). -/
def execHeadReturn (p : PackId) (a : ArmId) (h : HeadId) (s : State) : Res :=
  .next (
    let v := (s.lane p a h).servo
    if v.status = .lost ∧ 16 ≤ v.validRun then
      s.updLane p a h (fun l => { l with servo := { l.servo with status := .satOut } })
    else s)

/-! ### Loads and parks -/

/-- The load time ends: Searching, and Following at once under a time base that is Locked already (R250, R258). -/
def execLoadTimeEnd (p : PackId) (a : ArmId) (s : State) : Res :=
  .next (
    if (s.arm p a).servo.mode = .loading then
      (s.updServo p a (fun v => { v with mode := .searching, setPoint := 0 })).followLocked p a
    else s)

/-- Not Locked within 2 s of Searching: a load failure is counted and the arm parks (R250, R262); an arm whose time base is Locked follows.
`same` says that core 1 asks for the park too (R229). -/
def execSearchTimeout (p : PackId) (a : ArmId) (same : Bool) (s : State) : Res :=
  .next (
    if (s.arm p a).servo.mode ≠ .searching then s
    else if s.packs[p].tb.state = .locked then s.startFollowing p a
    else s.compared (tileOf p) same (fun s => ((s.parkArm p a).countLoadFailure p a).kickPack p))

/-- Lanes not settled within 1,024 wedges of Settling sit out, on the arm target (R239, R252). `same` says that core 1 decided the same
(R229). -/
def execSettleTimeout (p : PackId) (a : ArmId) (same : Bool) (s : State) : Res :=
  .next (
    let x := s.arm p a
    if x.servo.mode = .settling ∧ 1024 ≤ x.servo.wedgesSettling then
      s.compared (tileOf p) same (fun s =>
        let late := ((List.finRange 16).filter (fun h => x.servo.seekLanes.testBit h.val && !x.lanes[h].servo.settled)).foldl
          (fun m h => m ||| laneBit h) 0
        (s.updArm p a (fun x =>
          ({ x with
            servo := { x.servo with sitOut := x.servo.sitOut ||| late },
            lanes := Vector.ofFn (fun h : Fin 16 =>
              let l := x.lanes[h]
              if late.testBit h.val ∧ l.servo.status ≠ LaneServo.lost then
                { l with servo := { l.servo.followArm x.servo.target with status := .satOut } }
              else l) }).settle)).updFmt
          p a (fun f => if f.running then { f with satOut := f.satOut ||| late } else f))
    else s)

/-- A park request (R259 to R261); `same` says that core 1 asks for it too (R229). -/
def execArmPark (p : PackId) (a : ArmId) (same : Bool) (s : State) : Res :=
  .next (s.compared (tileOf p) same (fun s => (s.parkArm p a).kick p a))

/-- An arm still Parking when the park timeout runs out is taken by its Gale retract generator (R260, R264); `same` says that core 1 asks for it
too (R229). -/
def execParkTimeout (p : PackId) (a : ArmId) (same : Bool) (s : State) : Res :=
  .next (
    if (s.arm p a).servo.mode = .parking then s.compared (tileOf p) same (fun s => (s.galeArm p a true false).kick p a) else s)

/-- The unload time ends: bridge off, SLEEP sent, the arm Unloaded (R250, R259). -/
def execUnloadTimeEnd (p : PackId) (a : ArmId) (s : State) : Res :=
  .next (
    let v := (s.arm p a).servo
    if v.mode = .parking ∧ v.stage = .unload then ((s.sendCmd p a 4 0).armDown p a .unloaded).kick p a else s)

/-! ### Gale retract -/

/-- A Gale trigger on an arm (R263 to R265): `out` for the watchdog and the park timeout, `miscompare` for a miscompare. -/
def execGaleRetract (p : PackId) (a : ArmId) (out miscompare : Bool) (s : State) : Res :=
  .next ((s.galeArm p a out miscompare).kick p a)

/-- The Gale time ends (R250, R265): Out after a hard trigger, otherwise Unloaded; both arms out fail the pack. After a miscompare the spindle
is to stop (R266, R287). -/
def execGaleTimeEnd (p : PackId) (a : ArmId) (s : State) : Res :=
  .next (
    let v := (s.arm p a).servo
    if v.mode = .gale then
      let s0 := s.updServo p a (fun v => { v with outGale := v.outGale || v.galeOut })
      let s1 := if v.galeMiscompare then s0.updSpin p Spindle.stop else s0
      ((s1.armDown p a (if v.galeHard then .out else .unloaded)).checkOut p).kick p a
    else s)

/-! ### VCM drive -/

/-- Velocity by the back-EMF, 1/256 track per wedge (R258): `bus` in mV, `period` of the current loop in ns. -/
def backEmfVelocity (c : List (Nat × Nat)) (v : ArmServo) (bus period : Nat) : Int :=
  let scale : Int := coefAt c 0x0D 5
  let drive := v.duty * bus * 1000 / 32768
  let drop := (coefAt c 0x0D 6 : Int) * (v.current * scale / 32768)
  let induced := (coefAt c 0x0D 7 : Int) * ((v.current - v.lastCurrent) * scale / 32768) * 10 ^ 6 / (max period 1 : Nat)
  if coefAt c 0x0D 8 = 0 then 0 else (drive - drop - induced) * 256 / coefAt c 0x0D 8

/-- The VCM current-loop period in ns: 2^18 RU in Locked and Coast, otherwise 5.859 µs (R57, R58). -/
def State.vcmPeriod (s : State) (p : PackId) : Nat := if s.tbUsable p then s.ruToNs p (2 ^ 18) else 5859

/-- The velocity that the back-EMF loop is to hold, toward the ramp positive as the set's ramp direction says (R249, R258, R259). -/
def ArmServo.wantedVelocity (v : ArmServo) (a : ArmId) : Int :=
  let toward := signedNat 8 (coefAt v.coef 0x0F (8 + a.val) % 256)
  match v.mode with
  | .loading => -toward * coefAt v.coef 0x0F 1
  | .parking => toward * (if v.stage = .unload then coefAt v.coef 0x0F 5 else coefAt v.coef 0x0F 4)
  | _ => 0

/-- Twice per wedge the back-EMF velocity loop drives an arm that loads, searches or parks by back-EMF (R258, R259). The loop's law is not
stated, so the set-point is a free value of the wanted and the estimated velocity. In a back-EMF park the way to the park track is reckoned with
the estimated velocity, half a wedge at a time, and once it is done the arm unloads (DEDUCED: log entry 153). `same` says that core 1 formed the
same set-point (R229). -/
def execBackEmfVelocityLoop (p : PackId) (a : ArmId) (same : Bool) (s : State) : Res :=
  .next (
    let v := (s.arm p a).servo
    if v.mode = .loading ∨ v.mode = .searching ∨ (v.mode = .parking ∧ v.stage ≠ .position) then
      s.compared (tileOf p) same (fun s =>
        let est := backEmfVelocity v.coef v s.buses[busOf p].volts (s.vcmPeriod p)
        let (i, s1) := s.takeFree
        let drive := sat16 (Config.velocityLoop i (v.wantedVelocity a) est)
        let left := v.parkLeft - signedNat 8 (coefAt v.coef 0x0F (8 + a.val) % 256) * est
        s1.updServo p a (fun v =>
          { v with setPoint := drive.val, setPointNew := true, saturations := sat32 v.saturations drive.sats,
                   parkLeft := if v.stage = .backEmf then left else v.parkLeft,
                   stage := if v.stage = .backEmf ∧ left ≤ 0 then .unload else v.stage }))
    else s)

/-- The drive controller works for its arm: any mode but Unloaded and Out (R247). -/
def ArmMode.driven (m : ArmMode) : Bool := m ≠ .unloaded && m ≠ .out

/-- Clamps to a symmetric limit. -/
def clampTo (lim x : Int) : Int := max (-lim) (min lim x)

/-- The gate outputs of an H-bridge for an on-time in Q1.15 (R247, R271): centre-aligned, leg A on for half the period and half the on-time, leg B
for the rest, so that their difference is the on-time (DEDUCED: log entry 155). -/
def bridgeLegs (period dead : Nat) (duty : Int) : Vector Leg 2 :=
  let leg := fun d : Int =>
    let on := ((32768 + d) * period / 65536).toNat
    Leg.pwm period ((period - on) / 2) ((period - on) / 2 + on) dead
  #v[leg duty, leg (-duty)]

/-- One period of the VCM current loop (R247): PI on the error, scaled by the nominal over the measured bus voltage, within
the duty limit; `current` is the sample at the period's centre. Periods without a new set-point are counted. -/
def execVcmCurrentLoop (p : PackId) (a : ArmId) (current : Int) (s : State) : Res :=
  .next (
    let v := (s.arm p a).servo
    if ¬ v.mode.driven ∨ ¬ s.gatesLive then s
    else
      let err := v.setPoint - current
      let i := integStep v.currentInteg (coefInt v.coef 0x0D 2 * err) (coefInt v.coef 0x0D 3)
      let u := stageOut (coefInt v.coef 0x0D 1 * err + i.val) (coefAt v.coef 0x0D 4)
      let bus := s.buses[busOf p].volts
      let lim := coefInt v.coef 0x0D 9
      let duty := clampTo lim (if bus = 0 then u.val else roundDiv (u.val * Config.nominalBus) bus)
      s.updServo p a (fun v =>
        { v with current := current, lastCurrent := v.current, currentInteg := i.val, duty := duty, setPointNew := false,
                 legs := if v.mode = .gale then Vector.replicate 2 {} else bridgeLegs (s.vcmPeriod p) (s.param 0x7030 11) duty,
                 saturations := sat32 v.saturations (i.sats + u.sats),
                 noSetPoint := if v.setPointNew then 0 else v.noSetPoint + 1 }))

/-- No set-point for four consecutive periods starts the arm's Gale retract, or is one trigger more of a Gale in progress (R247, R264). -/
def execVcmSetpointWatchdog (p : PackId) (a : ArmId) (s : State) : Res :=
  .next (
    let v := (s.arm p a).servo
    if v.mode.driven ∧ 4 ≤ v.noSetPoint then (s.galeArm p a true false).kick p a else s)

/-- A tile core PLL out of lock beyond its holdover: Gale retract on every loaded arm of the tile (R264). -/
def execTilePllUnlock (t : TileId) (s : State) : Res :=
  .next (if s.tileFitted t then (packsOfTile t).foldl (fun s p => (s.galePack p false false).kickPack p) s else s)

end Sys2Proof.Machine
end

