-- ==== Sys2Proof/Machine/ArmLinks.lean ====
section
/-! DEFINITION. Frames from the preamplifiers and the life of an arm link (R78 to R87, R456), and the die-to-die links (R23). -/

namespace Sys2Proof.Machine

/-- A frame of type `t` and length `n` whose CRC-8 holds (R79, R80). -/
def frameOk (t n : Nat) (l : List Byte) : Bool :=
  l.length == n && fieldAt l 0 1 / 16 == t && crc8 (l.take (n - 1)) == fieldAt l (n - 1) 1

/-- An upstream frame that is discarded and counted (R79). -/
def State.discardFrame (s : State) (p : PackId) (a : ArmId) : State :=
  s.updLink p a (fun l => { l with discarded := sat32 l.discarded 1 })

/-- Lanes that a STATUS frame names under flags [0] to [2] are Removed until the arm next loads; newly removed ones raise
the pack's lane-out fault (R87, R489, assumption 21). A driver fault inhibits the head's writes (R253). -/
def State.removeLanes (s : State) (p : PackId) (a : ArmId) (mask : Nat) (driver : Bool) : State :=
  let fresh := (maskLanes mask).filter (fun h => (s.lane p a h).health.quality ≠ 4)
  let s1 := (maskLanes mask).foldl (fun s h =>
    (s.updLane p a h (fun l => { l with servo := { l.servo with driverFault := l.servo.driverFault || driver } })).removeLane p a h) s
  if fresh.isEmpty then s1 else s1.raisePack p 1

/-- A STATUS frame (R81, R84 to R87). -/
def execStatusFrame (p : PackId) (a : ArmId) (frame : List Byte) (s : State) : Res :=
  .next (
    let l := (s.arm p a).link
    if s.packs[p].state = .absent then s
    else if ¬ frameOk 5 8 frame then s.discardFrame p a
    else if l.state = .down ∨ l.state = .out then s
    else
      let flags := fieldAt frame 1 1
      let s1 := (s.updLink p a (fun l => { l with status := frame.drop 1 })).echo p a (fieldAt frame 5 1)
      let s2 := if flags % 8 ≠ 0 ∧ fieldAt frame 2 2 ≠ 0 then s1.removeLanes p a (fieldAt frame 2 2) (flags.testBit 2) else s1
      if l.state = .up ∧ (flags.testBit 3 ∨ flags.testBit 4) then (s2.loseLink p a).kick p a else s2)

/-- A REGRESP frame (R81, R203, R456): it gives a register LINK its data, and a status other than done fails the load under
way. -/
def execRegrespFrame (p : PackId) (a : ArmId) (frame : List Byte) (s : State) : Res :=
  .next (
    let x := s.arm p a
    if s.packs[p].state = .absent then s
    else if ¬ frameOk 6 7 frame then s.discardFrame p a
    else if x.link.state ≠ .up then s
    else
      let s1 := s.updLink p a (fun l => { l with regResp := frame.drop 1 })
      let s2 := match x.fmt.regWait.find? (fun w => w.2 = fieldAt frame 5 1) with
        | some w =>
          s1.updFmt p a (fun f =>
            { f with regs := f.regs.set w.1 (BitVec.ofNat 64 (fieldAt frame 3 2)), regWait := f.regWait.erase w })
        | none => s1
      if fieldAt frame 2 1 ≠ 0 ∧ x.servo.mode = .loading then ((s2.parkArm p a).countLoadFailure p a).kickPack p else s2)

/-- No valid upstream frame for 50 µs: the link is lost (R86). -/
def execArmLinkRxTimeout (p : PackId) (a : ArmId) (s : State) : Res :=
  .next (if (s.arm p a).link.state = .up then (s.loseLink p a).kick p a else s)

/-- The CMD or REG frame that was sent longest ago is not echoed within 20 µs: it is sent again, up to three times, and its time starts
afresh; then the link is lost (R85, R86). -/
def execCmdEchoTimeout (p : PackId) (a : ArmId) (s : State) : Res :=
  .next (
    let l := (s.arm p a).link
    match l.unechoed with
    | [] => s
    | u :: rest =>
      if l.state ≠ .up then s
      else if u.resends < 3 then
        (s.updLink p a (fun l => { l with unechoed := rest ++ [{ u with resends := u.resends + 1 }] })).send (.frame p.val a.val u.frame)
      else (s.loseLink p a).kick p a)

/-- A training attempt succeeds (R86, assumption 16): the link is up. -/
def execArmLinkTrainingDone (p : PackId) (a : ArmId) (s : State) : Res :=
  .next (
    let l := (s.arm p a).link
    if s.packs[p].state ≠ .absent ∧ (l.state = .training ∨ l.state = .down) then
      s.updLink p a (fun l => { l with state := .up, attempts := 0, unechoed := [] })
    else s)

/-- A training attempt fails after 10 ms; after the third the arm is out, and both arms out fail the pack (R86). -/
def execArmLinkTrainingTimeout (p : PackId) (a : ArmId) (s : State) : Res :=
  .next (
    let l := (s.arm p a).link
    if s.packs[p].state ≠ .absent ∧ (l.state = .training ∨ l.state = .down) then
      if l.attempts + 1 < 3 then s.updLink p a (fun l => { l with state := .training, attempts := l.attempts + 1 })
      else
        ((((s.updLink p a (fun l => { l with state := .out, attempts := 3 })).updServo p a (fun v =>
          { v with outLink := true, reloadPending := false })).checkOut p)).kickPack p
    else s)

/-! ### Die-to-die links -/

/-- A keep-alive frame from the hub or from a tile (R23). -/
def execD2dKeepaliveSend (t : TileId) (byHub : Bool) (s : State) : Res :=
  .next (
    if s.tileFitted t ∧ (if byHub then s.tiles[t].linkUp = true else s.tiles[t].orphaned = false) then
      s.send (.keepAlive t.val byHub)
    else s)

/-- Sectors past their write gate's opening finish untorn (R23, R24). -/
def State.finishWrites (s : State) (p : PackId) (a : ArmId) : State :=
  s.forLanes 0xFFFF (fun s h => s.closeWrite p a h false)

/-- A tile without a valid frame for 10 µs (R23): it finishes the sectors being written, abandons every other routine, parks
its eight arms, and its spindles decelerate. -/
def execD2dLinkLostTile (t : TileId) (s : State) : Res :=
  .next (
    if s.tileFitted t ∧ ¬ s.tiles[t].orphaned then
      let s1 := s.updTile t (fun x => { x with orphaned := true })
      let s2 := (packsOfTile t).foldl (fun s p => (s.finishWrites p 0).finishWrites p 1) s1
      ((packsOfTile t).foldl (fun s p => (((s.parkPack p).updSpin p Spindle.stop).releaseSpin p).kickPack p) s2).admissionPass
    else s)

/-- The hub finds a tile's link lost (R23): the tile's packs fail with cause 8, and the link's fatal-class fault is raised. -/
def State.linkLostHub (s : State) (t : TileId) : State :=
  if s.tileFitted t ∧ s.tiles[t].linkUp then
    let s1 := (s.updTile t (fun x => { x with linkUp := false })).raise (32 + t.val)
    (packsOfTile t).foldl (fun s p => (s.packFail p 8).kickPack p) s1
  else s

def execD2dLinkLostHub (t : TileId) (s : State) : Res := .next (s.linkLostHub t)

end Sys2Proof.Machine
end

