-- ==== Sys2Proof/Machine/Images.lean ====
section
/-! DEFINITION. What boot flash holds, read from its bytes: the boot selector (R531), firmware images, their sections and key list (R532
to R534), and dictionary images with their records (R471, R472). -/

namespace Sys2Proof

open Sys2Proof.Machine

/-! ### Boot selector (R531) -/

/-- The bytes of a boot selector copy. -/
def selectorBytes (x : Selector) : List Byte :=
  let l := natBytes 4 0x5342564F ++ natBytes 4 x.seq ++ natBytes 1 x.preferred ++ List.replicate 51 0
  l ++ natBytes 4 (crc32c l)

/-- A copy that is valid: magic, an image of the two, reserved bytes zero, and the CRC. -/
def parseSelector (l : List Byte) : Option Selector :=
  if areaOk l 64 ∧ fieldAt l 0 4 = 0x5342564F ∧ fieldAt l 8 1 ≤ 1 ∧ zeroSpan l 9 51 then some ⟨fieldAt l 4 4, fieldAt l 8 1⟩ else none

/-! ### Firmware images (R532 to R534) -/

def FwImage.revision (x : FwImage) : Nat := fieldAt x.header 8 4
def FwImage.securityVersion (x : FwImage) : Nat := fieldAt x.header 0xC 1
def FwImage.bootCluster (x : FwImage) : Nat := fieldAt x.header 0xD 1
def FwImage.rootSlot (x : FwImage) : Nat := fieldAt x.header 0xE 1
def FwImage.product (x : FwImage) : Nat := fieldAt x.header 0x10 4
def FwImage.payloadLength (x : FwImage) : Nat := fieldAt x.header 0x14 4
def FwImage.sectionCount (x : FwImage) : Nat := fieldAt x.header 0x18 2
/-- The root public key, X then Y. -/
def FwImage.rootKey (x : FwImage) : List Byte := (x.header.drop 0x140).take 96

/-- The header fields lie within R532. -/
def FwImage.headerOk (x : FwImage) : Bool :=
  x.header.length == 512 && fieldAt x.header 0 4 == 0x5746564F && fieldAt x.header 4 2 == 1 && fieldAt x.header 6 2 == 512
    && decide (x.securityVersion ≤ 64) && decide (x.bootCluster ≤ 1) && decide (x.rootSlot ≤ 3) && fieldAt x.header 0xF 1 == 0
    && decide (16 ≤ x.payloadLength ∧ x.payloadLength ≤ 16776704) && x.payloadLength % 16 == 0
    && decide (5 ≤ x.sectionCount ∧ x.sectionCount ≤ 16) && fieldAt x.header 0x1A 2 == 0 && zeroSpan x.header 0x38 8

/-- The places of the section table that are used: an unused entry is all zero (R533). -/
def FwImage.entries (x : FwImage) : List Nat := (List.range 16).filter (fun i => !zeroSpan x.header (0x40 + 16 * i) 16)

/-- The section table (R533). -/
def FwImage.sections (x : FwImage) : List FwSection :=
  x.entries.map (fun i => let o := 0x40 + 16 * i
    ⟨fieldAt x.header o 2, fieldAt x.header (o + 4) 4, fieldAt x.header (o + 8) 4⟩)

/-- Two sections overlap (R533). -/
def overlaps (a b : FwSection) : Bool := decide (a.offset < b.offset + b.length) && decide (b.offset < a.offset + a.length)

/-- The sections meet R533: types 1 to 5 once each, no other, offsets of 16, within the payload, apart, reserved bytes zero. -/
def sectionsOk (x : FwImage) : Bool :=
  x.payload.length == x.payloadLength && x.sections.length == x.sectionCount
    && x.entries.all (fun i => fieldAt x.header (0x42 + 16 * i) 2 == 0 && fieldAt x.header (0x4C + 16 * i) 4 == 0)
    && [1, 2, 3, 4, 5].all (fun t => (x.sections.filter (fun y => y.type = t)).length == 1)
    && x.sections.all (fun y => decide (1 ≤ y.type ∧ y.type ≤ 5) && y.offset % 16 == 0 && decide (y.offset + y.length ≤ x.payloadLength))
    && decide (x.sections.Pairwise (fun a b => overlaps a b = false))

/-- The bytes of the section of a type. -/
def FwImage.section (x : FwImage) (type : Nat) : List Byte :=
  match x.sections.find? (fun y => y.type = type) with
  | some y => (x.payload.drop y.offset).take y.length
  | none => []

/-- Entry `i` of a key list (R534). -/
def keyEntry (l : List Byte) (i : Nat) : KeyEntry :=
  ⟨fieldAt l (16 + 128 * i) 1, fieldAt l (17 + 128 * i) 1, (fieldAt l (18 + 128 * i) 1).testBit 0⟩

/-- The entries of the key list. -/
def keysOf (l : List Byte) : List KeyEntry := (List.range (fieldAt l 6 2)).map (keyEntry l)

/-- The key list meets R534. -/
def keyListOk (l : List Byte) : Bool :=
  let n := fieldAt l 6 2
  fieldAt l 0 4 == 0x4C4B564F && fieldAt l 4 2 == 1 && decide (1 ≤ n ∧ n ≤ 64) && zeroSpan l 8 8 && decide (16 + 128 * n ≤ l.length)
    && (List.range n).all (fun i =>
      decide (fieldAt l (16 + 128 * i) 1 < 64) && decide (fieldAt l (17 + 128 * i) 1 < 8) && decide (fieldAt l (18 + 128 * i) 1 < 2)
        && zeroSpan l (19 + 128 * i) 29)
    && decide ((keysOf l).Pairwise (fun a b => a.index ≠ b.index))

/-! ### Dictionary images (R471, R472) -/

def DictImage.kind (x : DictImage) : Nat := fieldAt x.header 6 1
def DictImage.slot (x : DictImage) : Nat := fieldAt x.header 7 1
def DictImage.name (x : DictImage) : Nat := fieldAt x.header 8 16
def DictImage.revision (x : DictImage) : Nat := fieldAt x.header 0x18 4
def DictImage.product (x : DictImage) : Nat := fieldAt x.header 0x1C 4
def DictImage.recordCount (x : DictImage) : Nat := fieldAt x.header 0x20 4
def DictImage.bodyLength (x : DictImage) : Nat := fieldAt x.header 0x24 4
def DictImage.keyIndex (x : DictImage) : Nat := fieldAt x.header 0x28 2
def DictImage.digest (x : DictImage) : Nat := fieldAt x.header 0x30 48

/-- A VISIBLE_STRING padded with 0x00 (R449, R471). -/
def nameOk : List Byte → Bool
  | [] => true
  | b :: l => if b = 0 then allBytes 0 l else decide (0x20 ≤ b.toNat ∧ b.toNat ≤ 0x7E) && nameOk l

/-- The header fields lie within R471, and its CRC and the digest of the body hold. -/
def DictImage.headerOk (x : DictImage) : Bool :=
  areaOk x.header 256 && fieldAt x.header 0 4 == 0x4944564F && fieldAt x.header 4 2 == 1 && decide (1 ≤ x.kind ∧ x.kind ≤ 3)
    && decide (x.slot < 16) && (x.kind == 2 || x.slot == 0) && nameOk ((x.header.drop 8).take 16)
    && decide (x.recordCount ≤ 65535) && (x.kind == 3 || x.recordCount != 0) && x.bodyLength == x.body.length
    && (x.kind != 3 || x.keyIndex == 0) && zeroSpan x.header 0x2A 6 && (x.kind != 3 || zeroSpan x.header 0x90 48)
    && zeroSpan x.header 0xC0 60 && (sha384 x.body).toNat == x.digest

/-- The signature: of a stored layer the HMAC under the device's configuration key, of the others the verdict of the crypto engine. -/
def DictImage.signed (x : DictImage) : Bool :=
  if x.kind = 3 then (configMac (x.header.take 0x60)).toNat == fieldAt x.header 0x60 48 else x.signatureOk

/-- The bytes of a record, padded with zeros to a multiple of 8 (R472). -/
def recordBytes (r : DictRec) : List Byte :=
  natBytes 2 r.index ++ natBytes 1 r.sub ++ natBytes 1 r.times ++ natBytes 2 r.type ++ natBytes 2 r.length
    ++ natBytes ((r.length + 7) / 8 * 8) r.value

/-- The record that bytes begin with, and the bytes after it: whole, its padding zero (R472). -/
def parseRecord (l : List Byte) : Option (DictRec × List Byte) :=
  let n := fieldAt l 6 2
  let padded := (n + 7) / 8 * 8
  if 8 + padded ≤ l.length ∧ zeroSpan l (8 + n) (padded - n) then
    some (⟨fieldAt l 0 2, fieldAt l 2 1, fieldAt l 3 1, fieldAt l 4 2, n, fieldAt l 8 n⟩, l.drop (8 + padded))
  else none

/-- As many records as the count says, with no byte left over. -/
def parseRecords : Nat → List Byte → Option (List DictRec)
  | 0, l => if l.isEmpty then some [] else none
  | n + 1, l => match parseRecord l with
    | some (r, rest) => (parseRecords n rest).map (fun t => r :: t)
    | none => none

/-- The records of an image; of a body that breaks R472, none. -/
def DictImage.records (x : DictImage) : List DictRec := (parseRecords x.recordCount x.body).getD []

/-- The body is made of the records that the header counts. -/
def DictImage.bodyOk (x : DictImage) : Bool := (parseRecords x.recordCount x.body).isSome

/-- The bytes of a header before its CRC, with the digest of the body; `sign` gives the signature field from the bytes before it. -/
def dictHeader (kind slot name revision product count key : Nat) (body : List Byte) (sign : List Byte → List Byte) : List Byte :=
  let a := natBytes 4 0x4944564F ++ natBytes 2 1 ++ natBytes 1 kind ++ natBytes 1 slot ++ natBytes 16 name ++ natBytes 4 revision
    ++ natBytes 4 product ++ natBytes 4 count ++ natBytes 4 body.length ++ natBytes 2 key ++ List.replicate 6 0
    ++ natBytes 48 (sha384 body).toNat
  let b := a ++ sign a ++ List.replicate 60 0
  b ++ natBytes 4 (crc32c b)

/-- The stored layer that the controller writes (R471, R474). -/
def storedImage (revision product : Nat) (recs : List DictRec) : DictImage :=
  let body := (recs.map recordBytes).flatten
  { header := dictHeader 3 0 0 revision product recs.length 0 body
      (fun a => natBytes 48 (configMac a).toNat ++ List.replicate 48 0),
    body := body, signatureOk := true }

end Sys2Proof
end

