-- ==== Sys2Proof/Machine/DictCheck.lean ====
section
/-! DEFINITION. The checks of R448 that rest on an entry and a value alone: existence, length, range and encoding, the rules between
entries; and images in the format of R471, as they are judged and applied (R446 to R454, R470 to R473). -/

namespace Sys2Proof.Machine

/-! ### Entries -/

/-- An index exists (R446). -/
def indexExists (idx : Nat) : Bool := !(rowsOfIndex idx).isEmpty

/-- The row of an entry, with subindex 0 of an index that holds several values as the count that it reads (R446). -/
def entryRow (idx sub : Nat) : Option Row :=
  match findRow idx sub with
  | some r => some r
  | none => if sub = 0 ∧ indexExists idx then some { off := 0, lo := 0, hi := 0, ty := .u8, acc := .ro } else none

/-- Check 1 of R448. -/
def existsCheck (idx sub : Nat) : Except Nat Row :=
  match entryRow idx sub with
  | some r => .ok r
  | none => .error (if indexExists idx then 0x06090011 else 0x06020000)

/-- The item that an entry belongs to is fitted (R4, R5): packs and ports have entries of their own. The fault sources of an item that is not
fitted count as fitted entries: their reactions can be written (DESIGN CHOICE: log entry 135). -/
def State.entryFitted (s : State) (idx : Nat) : Bool :=
  let t := partTiles s.part
  if 0x4000 ≤ idx ∧ idx < 0x5000 then (idx - 0x4000) / 0x80 < 4 * t
  else if 0x6500 ≤ idx ∧ idx < 0x6600 then (idx - 0x6500) / 0x10 < 2 * t
  else if 0xF200 ≤ idx ∧ idx < 0xF300 then (idx - 0xF200) / 8 < 4 * t
  else true

/-- A write of `n` bytes has a length that the entry's type allows (R449, check 5 of R448). -/
def VType.lengthOk (t : VType) (n : Nat) : Bool :=
  match t with
  | .str m | .dom m => decide (1 ≤ n ∧ n ≤ m)
  | t => n == t.size

/-- Characters of a VISIBLE_STRING (R449). -/
def VType.bytesOk (t : VType) (l : List Byte) : Bool :=
  match t with
  | .str _ => l.all (fun b => 0x20 ≤ b.toNat && b.toNat ≤ 0x7E)
  | _ => true

/-- The value that a write stores: reserved bits are ignored (R12). -/
def Row.stored (r : Row) (v : Nat) : Nat := match r.mask with | some m => v &&& m | none => v

/-! ### Rules between entries (check 6 of R448) -/

/-- Exactly two bits are set, the one of `p` among them (R390). -/
def twoBits (v p : Nat) : Bool := ((List.range 8).filter (fun i => v.testBit i)).length == 2 && v.testBit p

/-- The rules that tie entries of one block to each other (a lock window above the loss threshold in force is refused as the threshold below it
is: DESIGN CHOICE, log entry 143), of the block and offset that hold `idx`, over the present values `get`. `micro` is the
micro window of the pack accepted for a slot, 0 while there is none (R268). -/
def crossOk (micro : Nat → Nat) (get : Nat → Nat → Nat) (idx sub : Nat) : Bool :=
  if 0x4000 ≤ idx ∧ idx < 0x5000 then
    match (idx - 0x4000) % 0x80 with
    | 0x20 => decide (get idx 5 ≤ get idx 6)
    | 0x09 => decide (get idx 7 ≤ get idx 6)
    | 0x2B =>
      let m := micro ((idx - 0x4000) / 0x80)
      decide (get idx 2 ≤ get idx 1) && (sub != 5 || m == 0 || decide (get idx 5 < m))
    | _ => true
  else if 0x5000 ≤ idx ∧ idx < 0x5400 then
    let b := idx - (idx - 0x5000) % 0x40
    match (idx - 0x5000) % 0x40 with
    | 0x00 =>
      let m := get idx 1
      m == 0 || (List.range 16).all (fun c => let j := 0x5000 + c * 0x40; j == idx || get j 1 != m)
    | 0x1B | 0x1C => decide (get (b + 0x1C) 1 ≤ get (b + 0x1B) 5) && decide (get (b + 0x1C) 2 ≤ get (b + 0x1B) 5)
    | _ => true
  else if idx = 0x6411 then twoBits (get idx 5) (get idx 2)
  else if idx = 0x7030 then
    decide (get idx 2 < get idx 1) && decide (get idx 1 < get idx 3) && decide (get idx 3 < get idx 5)
      && decide (get idx 5 < get idx 4) && decide (get idx 6 + 1000 < get idx 2) && decide (get idx 9 + 300 ≤ get idx 8)
  else if idx = 0x7060 then decide (signedNat 8 (get idx 3) < signedNat 8 (get idx 2))
  else if idx = 0x7061 then decide (signedNat 8 (get idx 2) < signedNat 8 (get idx 3))
  else if 0x8100 ≤ idx ∧ idx < 0x82A0 then reactionAllowed (idx - 0x8100) (get idx 1)
  else if idx = 0x8802 then decide (get idx 2 / 256 % 256 < 32) || get idx 2 / 256 % 256 == 0xFF
  else true

/-- The micro window of the pack accepted for a slot (R67, R268). -/
def State.microOf (s : State) (p : Nat) : Nat := if h : p < 32 then s.packs[p].micro else 0

/-- Check 6 of R448: the entry's range and encoding, then the rules between entries with the new value in place. -/
def valueOk (micro : Nat → Nat) (get : Nat → Nat → Nat) (r : Row) (idx sub v : Nat) : Bool :=
  r.inRange sub (r.stored v) && crossOk micro (fun i j => if i = idx ∧ j = sub then r.stored v else get i j) idx sub

/-! ### Images (R471 to R473) -/

/-- Which layer an image is (R470): 1 base, 2 overlay, 3 stored. -/
def layerMaySet (kind : Nat) (idx : Nat) (r : Row) : Bool :=
  match kind with
  | 1 => r.img || r.acc == .rw
  | 2 => r.ovl
  | _ => r.acc == .rw && decide (idx < 0xF000)

/-- The entries that a record sets (R472). -/
def recEntries (x : DictRec) : List (Nat × Nat) := (List.range x.times).map (fun i => (x.index, x.sub + i))

/-- A record meets R472 and R473 but for check 6: it exists, its type and length are the entry's, and its layer may set it. -/
def recOk (kind : Nat) (x : DictRec) : Bool :=
  decide (1 ≤ x.times ∧ x.times ≤ 255) && (recEntries x).all (fun e =>
    match findRow e.1 e.2 with
    | some r => r.ty.code == x.type && r.ty.lengthOk x.length && decide (x.value < 256 ^ x.length) && layerMaySet kind e.1 r
      && r.ty.bytesOk (natBytes x.length x.value)
    | none => false)

/-- The records are sorted by index and subindex, and no two cover one entry (R472). -/
def recordsSorted : List DictRec → Bool
  | [] => true
  | [_] => true
  | x :: y :: l => decide (dictKey x.index x.sub + x.times ≤ dictKey y.index y.sub) && recordsSorted (y :: l)

/-- A record that gives one value to a run of entries. -/
def runRecord (idx sub times v : Nat) : DictRec :=
  let t := match findRow idx sub with | some r => r.ty | none => .u8
  { index := idx, sub := sub, times := times, type := t.code, length := t.size, value := v }

/-- The same for the entry at an offset of every pack's block. -/
def packRecords (l : List (Nat × Nat × Nat × Nat)) : List DictRec :=
  (List.range 32).flatMap (fun p => l.map (fun x => runRecord (0x4000 + p * 0x80 + x.1) x.2.1 x.2.2.1 x.2.2.2))

/-- The records of the Ovixo overlays (R476): slot 0 Calm, 1 Squall, 2 Service, 3 Bench; merged into repeats as Iatex does (R473). -/
def ovixoRecords : Nat → List DictRec
  | 0 => [runRecord 0x2403 1 1 1] ++ packRecords [(0x09, 1, 2, 4), (0x09, 3, 2, 8), (0x31, 1, 1, 1)] ++ [runRecord 0x7020 1 1 2]
  | 1 => [runRecord 0x2010 1 1 192, runRecord 0x2010 2 1 255, runRecord 0x2010 3 1 8, runRecord 0x2010 4 2 1, runRecord 0x2010 7 1 0]
      ++ packRecords [(0x15, 10, 1, 1)]
  | 2 => [runRecord 0x2010 7 1 3600, runRecord 0x2402 1 1 1]
  | 3 => [runRecord 0x2010 1 1 0, runRecord 0x2010 7 1 3600, runRecord 0x2402 1 1 1]
  | _ => []

/-- The values that an image sets, key and value, in the order of its records. -/
def imageSets (x : DictImage) : List (Nat × Nat) :=
  (x.records.map (fun r => (recEntries r).map (fun e =>
    (dictKey e.1 e.2, match findRow e.1 e.2 with | some w => w.stored r.value | none => r.value)))).flatten

/-- Values laid over a store (R470). -/
def layOver (part : Part) (under : List (Nat × Nat)) (l : List (Nat × Nat)) : List (Nat × Nat) :=
  l.foldl (fun acc x => putVal x.1 x.2 (dictDefault part x.1) acc) under

/-- The value of an entry in a store. -/
def storeGet (part : Part) (l : List (Nat × Nat)) (idx sub : Nat) : Nat := getVal (dictKey idx sub) (dictDefault part (dictKey idx sub)) l

/-- Check 6 of R448 for every value of an image, over the layers with the whole image in place. -/
def imageValuesOk (micro : Nat → Nat) (part : Part) (under : List (Nat × Nat)) (x : DictImage) : Bool :=
  let all := layOver part under (imageSets x)
  (imageSets x).all (fun e =>
    let idx := e.1 / 256
    match findRow idx (e.1 % 256) with
    | some r => r.inRange (e.1 % 256) e.2 && crossOk micro (storeGet part all) idx (e.1 % 256)
    | none => false)

/-- A base image has a record for every RW entry whose default is img, but for the entries of empty coefficient sets (R473). -/
def baseComplete (part : Part) (x : DictImage) : Bool :=
  let all := layOver part [] (imageSets x)
  let covered := fun idx sub : Nat => (imageSets x).any (fun e => e.1 == dictKey idx sub)
  let rows := fun (l : List Row) (first : Nat) => l.all (fun r =>
    !(r.img && r.acc == .rw) || (List.range (r.hi + 1 - r.lo)).all (fun i => covered (first + r.off) (r.lo + i)))
  (List.range 16).all (fun c =>
      let b := 0x5000 + c * 0x40
      if storeGet part all b 1 = 0 then covered b 1 else rows setRows b)
    && (List.range 8).all (fun i => rows spanRows (0x3000 + i * 0x40))
    && (List.range 16).all (fun q => rows portRows (0x6500 + q * 0x10))
    && (List.range 416).all (fun k => rows sourceRows (0x8100 + k))
    && rows memRows 0 && rows commRows 0 && rows storeRows 0 && rows confRows 0 && rows hostRows 0 && rows powerRows 0
    && rows bootRows 0 && rows faultRows 0 && rows recRows 0

/-- The checks of R473 that rest on the image and the part: the header, the signing key, the product, the records. -/
def State.dictImageOk (s : State) (kind : Nat) (slot : Nat) (under : List (Nat × Nat)) (x : DictImage) : Bool :=
  x.headerOk && x.signed && x.bodyOk && x.kind == kind && x.slot == slot
    && (kind == 3 || (s.window.keys.any (fun k => k.index == x.keyIndex && k.usage.testBit 1 && !k.revoked)
          && !s.fuses.keyRevoked.testBit x.keyIndex))
    && (x.product == 0 || x.product == partProduct s.part)
    && recordsSorted x.records && x.records.all (recOk kind) && imageValuesOk s.microOf s.part under x
    && (kind != 1 || baseComplete s.part x)

end Sys2Proof.Machine
end

