-- ==== Sys2Proof/Machine/Chains.lean ====
section
/-! DEFINITION. Framing of chains and their checks (R362 to R371, R378, R380, R386), and the commands as they run on a context. -/

namespace Sys2Proof.Machine

/-! ### Device states (R386) -/

/-- Admin rings are framed, and management connections accepted. -/
def DevState.managed : DevState → Bool
  | .selfTest | .assemble | .opened | .quiesce | .bench => true
  | _ => false

/-- The rings of a kind are framed: the service sequencers work with the active cluster (R24), which a fail-over has none of (R387). -/
def State.framed (s : State) (admin : Bool) : Bool :=
  s.clusters.active.isSome && !s.hostStopped && (if admin then s.dev.state.managed else s.dev.state = .opened)

/-! ### Commands on a context -/

/-- Frees a context. -/
def State.freeCtx (s : State) (q : SeqId) (c : CtxId) : State := s.updCtx q c (fun _ => {})

/-- A command ends on its context with a status (R373). -/
def State.endCommand (s : State) (q : SeqId) (c : CtxId) (status size value : Nat) : State :=
  let x := s.ctx q c
  (s.completeWith x.ring x.slot status size value).freeCtx q c

/-- The command on a context commits (R217), and its intent goes to the standby (R503). -/
def State.commitCmd (s : State) (ring slot : Nat) : State :=
  (s.updCmd ring slot (fun y => { y with committed := true, mirrored := true })).mirror (.intent ring slot)

/-- Runs `f` for the framed command on a context when its opcode is `op` and the context may run (R24, R212, R216, R221, R387); a
command whose abort is registered before its commit completes ABORTED (R382). One that has committed has done so already, but for a GET, which
goes on with the version that it holds (R323, R324). -/
def State.onCommand (s : State) (q : SeqId) (c : CtxId) (op : Nat) (f : Ctx → State) : State :=
  let x := s.ctx q c
  if ¬ x.busy ∨ x.chain = [] ∨ x.wait ≠ .none ∨ x.held ∨ fieldAt x.chain 0 1 ≠ op ∨ s.svc.seqs[q].fault
      ∨ s.clusters.active.isNone ∨ s.hostStopped then s
  else match s.svc.cmd x.ring x.slot with
    | some y =>
      if y.committed then (if s.store.gets.any (fun g => g.ring = x.ring ∧ g.slot = x.slot) then f x else s)
      else if y.aborted then s.endCommand q c 1 0 0 else f x
    | none => f x

/-! ### Arbitration (R378) -/

/-- Chains framed on a ring whose status block has not been issued. -/
def Ring.inFlight (r : Ring) : Nat := (r.chains.filter (fun c => !c.done)).length

/-- A ring is eligible. -/
def State.eligible (s : State) (r : Ring) : Bool :=
  r.state = .active && r.cons != r.prod && r.framing.isNone && decide (r.inFlight < r.limit) && s.framed r.admin

/-- Within a class, the eligible ring that follows the one last served in ascending number, wrapping. -/
def State.nextRing (s : State) (cls : Nat) : Option Ring :=
  let l := s.host.rings.filter (fun r => r.cls = cls && s.eligible r)
  let last := s.host.served.toList.getD cls 4095
  let least := fun (l : List Ring) => l.foldl (fun (b : Option Ring) r =>
    match b with | some x => if r.num < x.num then some r else b | none => some r) none
  match least (l.filter (fun r => last < r.num)) with
  | some r => some r
  | none => least l

/-- Weight of a class: 1 High, 2 Medium, 3 Low (R389). -/
def State.weight (s : State) (cls : Nat) : Nat := s.param 0x6410 cls

/-- Rounds of R378: the class with the turn, else the next one with its weight afresh, at most a full round. Answers the ring,
the class with the turn and its chain starts left. -/
def State.roundRing (s : State) : Nat → Nat → Nat → Option (Ring × Nat × Nat)
  | 0, _, _ => none
  | fuel + 1, turn, left =>
    let here := if left = 0 then none else s.nextRing turn
    match here with
    | some r => some (r, turn, left - 1)
    | none => let n := turn % 3 + 1; s.roundRing fuel n (s.weight n)

/-- The ring that the arbiter serves next, with the turn after it. -/
def State.pickRing (s : State) : Option (Ring × Nat × Nat) :=
  match s.nextRing 0 with
  | some r => some (r, s.host.turn, s.host.left)
  | none => s.roundRing 4 s.host.turn s.host.left

/-- A free context: sequencers in rotation, those in fault state left out (R213, R221). -/
def State.freeContext (s : State) : Option (SeqId × CtxId) :=
  ((List.finRange 16).map (fun i : Fin 16 => (⟨(s.svc.next + i.val) % 16, by omega⟩ : SeqId))).findSome? (fun q =>
    if s.svc.seqs[q].fault then none
    else ((List.finRange 16).find? (fun c : Fin 16 => !s.svc.seqs[q].ctx[c].busy)).map (fun c => (q, c)))

/-! ### Descriptor reads (R362, R371) -/

/-- A QP may issue one more RDMA READ: at most 16 are outstanding (R348). A mover's read answers within its own command, so those outstanding
between commands are of descriptors. -/
def State.mayRead (s : State) (conn : Nat) : Bool := (s.host.rings.filter (fun r => r.conn = conn ∧ r.reading ≠ 0)).length < 16

/-- Issues the RDMA READ of the next slots, never across the ring's end (R362): for a first descriptor a number that the manual
leaves open (assumption 26), otherwise what the chain still needs. A chain not yet covered by a doorbell is not read on, and none
before the context's fetch routine has asked engine 4 for it (R213). -/
def State.readSlots (s : State) (n : Nat) : State :=
  match s.ring? n with
  | none => s
  | some r =>
    let have_ := r.fetched.length / 64
    let need := if have_ = 0 then 1 else chainLen r.fetched
    let asked := s.svc.tokens.any (fun t => t.engine = 4 && t.ring = n && t.slot = r.cons && t.state = 0)
    if s.clusters.active.isNone ∨ ¬ s.mayRead r.conn ∨ ¬ asked ∨ r.framing.isNone ∨ r.reading ≠ 0 ∨ need ≤ have_ ∨ r.waiting < need then s
    else
      let i := r.cons + have_
      let toEnd := 2 ^ r.size - i % 2 ^ r.size
      let (v, s1) := if have_ = 0 then (let (x, y) := s.takeFree; (1 + x % (min 32 (min r.waiting toEnd)), y))
        else (min (need - have_) toEnd, s)
      (s1.updRing n (fun r => { r with reading := 64 * v })).sendHost (.read r.conn (r.slotAddr i) r.key (64 * v))

/-! ### Checks of a framed chain (R369) -/

/-- The descriptors of a chain. -/
def descAt (l : List Byte) (i : Nat) : List Byte := (l.drop (64 * i)).take 64

/-- Chain framing (R371 step 4). -/
def framingOk (l : List Byte) : Bool :=
  let n := l.length / 64
  let flags := fun i => fieldAt (descAt l i) 1 1
  decide (1 ≤ n) && (flags 0).testBit 0 && fieldAt l 2 1 == n
    && (List.range n).all (fun i =>
      (flags i).testBit 1 == (i + 1 == n) && (i == 0 || (!(flags i).testBit 0 && fieldAt (descAt l i) 2 1 == i)))

/-- Opcodes of R368. -/
def storeOps : List Nat := [1, 2, 3, 4, 5, 0x0F]
def adminOps : List Nat := [0x80, 0x81, 0x82, 0x83, 0x84]

/-- Every byte of a list is zero. -/
def zeros (l : List Byte) : Bool := l.all (fun b => b == 0)

/-- Bytes `off` to `off + n - 1` are zero. -/
def zeroAt (l : List Byte) (off n : Nat) : Bool := zeros ((l.drop off).take n)

/-- Flags [5:2] that R365 lets an opcode carry, as bits of the flags byte; NOP_COMMAND carries any (R365 gives it none). -/
def opFlags (op : Nat) : Nat :=
  if op = 1 then 0x3C else if op = 2 then 0x30 else if op = 3 ∨ op = 4 then 0x34 else if op = 0x0F then 0x3C else 0

/-- Bytes of the key as the chain carries them (R364, R366). -/
def keyArea (l : List Byte) : List Byte :=
  (l.drop 0x30).take 16 ++ ((List.range (l.length / 64 - 1)).map (fun i => (descAt l (i + 1)).drop 4)).flatten

/-- The chain length that a key of `n` bytes takes (R365). -/
def keyChain (n : Nat) : Nat := if n ≤ 16 then 1 else 1 + (n - 16 + 59) / 60

/-- Order 4 for the later descriptors: continuation opcode, reserved byte, flags. -/
def laterOk (l : List Byte) (op : Nat) : Bool :=
  (List.range (l.length / 64 - 1)).all (fun i =>
    let d := descAt l (i + 1)
    fieldAt d 0 1 == op && fieldAt d 3 1 == 0 && fieldAt d 1 1 < 4)

/-- Order 4 for a store command: reserved bytes and the fields given as 0 are zero; continuation opcodes fit (R364 to R366). -/
def storeFieldsOk (l : List Byte) : Bool :=
  let op := fieldAt l 0 1
  let fl := fieldAt l 1 1
  let klen := fieldAt l 4 2
  (fl &&& 0xFC) ||| opFlags op == opFlags op && fieldAt l 3 1 == 0 && fieldAt l 7 1 == 0 && zeroAt l 0x24 4
    && laterOk l (if op = 5 then 0x7E else 0x7F)
    && (op == 0x0F
      || ((op == 1 || fieldAt l 6 1 == 0) && (op == 2 || op == 3 || fieldAt l 8 8 == 0)
        && (op != 4 || zeroAt l 0x10 0x14) && (fl.testBit 4 || fieldAt l 0x28 8 == 0)
        && (if op = 5 then klen == 0 && l.length == 128 && zeroAt l (64 + 0x24) 12
            else fl.testBit 5 || zeros ((keyArea l).drop klen))))

/-- Order 4 for an admin command: a single descriptor, its reserved bytes zero (R363, R367). -/
def adminFieldsOk (l : List Byte) : Bool :=
  let op := fieldAt l 0 1
  l.length == 64 && fieldAt l 1 1 < 4 && fieldAt l 3 1 == 0
    && (if op = 0x80 then zeroAt l 0x23 1 && zeroAt l 0x26 10 && fieldAt l 0x22 1 < 2
        else if op = 0x81 then zeroAt l 6 42
        else if op = 0x82 then zeroAt l 6 2 && zeroAt l 12 36
        else zeroAt l 7 1 && zeroAt l 0x18 24)

/-- The owner that a CREATE_RING names (R367). -/
def ownerOf (l : List Byte) (conn : Nat) : Option Nat :=
  let v := fieldAt l 0x24 2
  if v = 0 then some conn else if 0x8000 ≤ v ∧ v < 0x8400 then some (v - 0x8000) else none

/-- The command names another connection or a ring of another connection (R357, R368). -/
def State.namesOther (s : State) (l : List Byte) (conn : Nat) : Bool :=
  let op := fieldAt l 0 1
  if op = 0x80 then (match ownerOf l conn with | some k => k != conn | none => false)
  else if op = 0x81 ∨ op = 0x82 then (match s.ring? (fieldAt l 4 2) with | some r => r.conn != conn | none => false)
  else false

/-- A CREATE_RING's fields are in range (R367). -/
def createOk (l : List Byte) : Bool :=
  fieldAt l 4 1 ≤ 3 && decide (6 ≤ fieldAt l 5 1 ∧ fieldAt l 5 1 ≤ 16) && decide (1 ≤ fieldAt l 6 2 ∧ fieldAt l 6 2 ≤ 1024)
    && fieldAt l 8 8 % 64 == 0 && fieldAt l 0x18 8 % 8 == 0 && fieldAt l 0x20 2 ≤ 1000

/-- Order 7: key length in range; with BY_HASH a hash that R300 can give (R369). -/
def keyOk (l : List Byte) : Bool :=
  let klen := fieldAt l 4 2
  if (fieldAt l 1 1).testBit 5 then
    let h := fieldAt l 0x30 16
    klen == 16 && l.length == 64 && decide (h < 2 ^ 127) && h != 0
  else decide (1 ≤ klen ∧ klen ≤ 1024) && l.length == 64 * keyChain klen

/-- Order 8: the length in range (R321, R345, R367). -/
def lengthOk (l : List Byte) : Bool :=
  let op := fieldAt l 0 1
  let n := fieldAt l 0x10 8
  if op = 1 then decide (n < 2 ^ 40)
  else if op = 3 then decide (1 ≤ n ∧ n ≤ 16 * 2 ^ 20)
  else if op = 5 then decide (1 ≤ n ∧ n ≤ 65536)
  else if op = 0x83 ∨ op = 0x84 then decide (1 ≤ fieldAt l 0x14 4 ∧ fieldAt l 0x14 4 ≤ 65536)
  else true

/-- A PUT that names a configured span fits in 65,536 of its stripes (R307, R345). -/
def State.putFits (s : State) (l : List Byte) : Bool :=
  let n := fieldAt l 6 1
  if h : n < 8 then
    !(fieldAt l 0 1 == 1 && s.store.spans[n].configured) || decide (fieldAt l 0x10 8 ≤ 65536 * (s.store.spans[n].k * 1048576))
  else true

/-- The checks of R369 on a framed chain of a ring: none, or the status of the first that fails. -/
def State.chainCheck (s : State) (r : Ring) (l : List Byte) : Option Nat :=
  let op := fieldAt l 0 1
  let fl := fieldAt l 1 1
  let store := storeOps.contains op
  let mgmt : Bool := match s.conn? r.conn with | some c => c.management | none => false
  if ¬ framingOk l then some 0x13
  else if ¬ (store || adminOps.contains op || op == 0x7E || op == 0x7F) then some 0x10
  else if op = 0x7E ∨ op = 0x7F ∨ (adminOps.contains op ∧ ¬ r.admin) ∨ ((op = 0x83 ∨ op = 0x84) ∧ ¬ mgmt)
      ∨ (¬ mgmt ∧ s.namesOther l r.conn) then some 0x11
  else if store then
    if ¬ storeFieldsOk l then some 0x12
    else if s.dev.state ≠ .opened then some 0x40
    else if op = 0x0F then none
    else if (op = 1 ∧ 7 < fieldAt l 6 1 ∧ fieldAt l 6 1 ≠ 0xFF) ∨ (fl.testBit 3 ∧ fl.testBit 4) then some 0x14
    else if op ≠ 5 ∧ ¬ keyOk l then some 0x15
    else if ¬ (lengthOk l && s.putFits l) then some 0x16
    else none
  else
    if ¬ adminFieldsOk l then some 0x12
    else if op = 0x80 then
      (if createOk l && ((ownerOf l r.conn).any (fun k => (s.conn? k).any (fun (c : Conn) => c.ready))) then none else some 0x14)
    else if op = 0x81 ∨ op = 0x82 then
      (match s.ring? (fieldAt l 4 2) with
        | some t => if t.admin then some 0x14 else none
        | none => if op = 0x81 then some 0x14 else none)
    else if ¬ lengthOk l then some 0x16
    else none

/-! ### Aborts (R217, R380) -/

/-- ABTSET on a ring and index: 0 registered, 1 committed, 2 nothing in flight there. A context that waits at its safe point acts on it
at once (R215, R216). -/
def State.abtset (s : State) (ring idx : Nat) : Nat × State :=
  match s.ring? ring with
  | none => (2, s)
  | some r =>
    if r.chains.any (fun c => c.first = idx && !c.done) then
      match s.svc.cmd ring idx with
      | some y => if y.committed then (1, s) else (0, (s.updCmd ring idx (fun y => { y with aborted := true })).waitChecks)
      | none => (2, s)
    else if r.state = .active ∧ (idx + 2 ^ 32 - r.cons) % 2 ^ 32 < r.waiting then
      (0, if (s.svc.cmd ring idx).isSome then s
          else { s with svc := { s.svc with cmds := s.svc.cmds ++ [{ ring := ring, slot := idx, aborted := true }] } })
    else (2, s)

end Sys2Proof.Machine
end

