-- ==== Sys2Proof/Machine/Spindles.lean ====
section
/-! DEFINITION. The spindle controllers and the motor buses (R269 to R299): loops, start, catch, stop, the chopper, and the
bus conditions. -/

namespace Sys2Proof.Machine

/-- An entry of the motor part held since Watch (R297). -/
def Spindle.coef (x : Spindle) (off sub : Nat) : Nat := coefAt x.motor off sub

/-- A current in mA as Q1.15 of the full-scale phase current (R278). -/
def Spindle.scaled (x : Spindle) (ma : Nat) : Int := roundDiv ((ma : Int) * 32768) (max (x.coef 0x1B 5) 1 : Nat)

/-- Length of a PWM period in ns (R57, R58). -/
def State.pwmPeriod (s : State) (p : PackId) : Nat :=
  let r := s.packs[p].tb.revPeriod
  if r = 0 then 23438 else r / 256 / 100

/-- States whose bridge is driven by the current loop (R281). -/
def SpinState.driven : SpinState → Bool
  | .align | .forced | .accelerate | .atSpeed | .stop => true
  | _ => false

/-- Three numbers free in the run. -/
def State.takeFree3 (s : State) : Int × Int × Int × State :=
  let (a, s1) := s.takeFree
  let (b, s2) := s1.takeFree
  let (c, s3) := s2.takeFree
  (signedNat 16 (a % 65536), signedNat 16 (b % 65536), signedNat 16 (c % 65536), s3)

/-- On-times of the three phases in ns from phase voltages in Q1.15: min-max injection with the depth limit of R275. -/
def pwmDuties (period tmin : Nat) (u v w : Int) : Vector Nat 3 × Bool :=
  let hi := max u (max v w)
  let lo := min u (min v w)
  let lim : Int := 32768 - ((4 * tmin * 32768 / max period 1 : Nat) : Int)
  let capped : Bool := decide (lim < hi - lo)
  let sc := fun x : Int => if capped then x * lim / (hi - lo) else x
  let mid := (sc hi + sc lo) / 2
  let d := fun x : Int => ((16384 + sc x - mid) * period / 32768).toNat
  (#v[d u, d v, d w], capped)

/-- Of three on-times the largest, the middle and the smallest. -/
def hiMidLo (d : Vector Nat 3) : Nat × Nat × Nat :=
  let hi := max d[0] (max d[1] d[2])
  let lo := min d[0] (min d[1] d[2])
  (hi, d[0] + d[1] + d[2] - hi - lo, lo)

/-- How much earlier the hi phase and later the lo phase switch, so that each window is as long as the minimum (R274). -/
def windowShifts (tmin : Nat) (d : Vector Nat 3) : Nat × Nat :=
  let (hi, mid, lo) := hiMidLo d
  (tmin - (hi - mid) / 2, tmin - (mid - lo) / 2)

/-- When the shunt is sampled: the settle time after each window begins (R274, R276). -/
def sampleTimes (period tmin settle : Nat) (d : Vector Nat 3) : Nat × Nat :=
  let (hi, mid, _) := hiMidLo d
  ((period - hi) / 2 - (windowShifts tmin d).1 + settle, (period - mid) / 2 + settle)

/-- The currents of phases U, V, W from the two samples of the shunt (R276): the hi phase carries s1, the lo phase -s2, the third s2 - s1. -/
def phaseCurrents (d : Vector Nat 3) (s1 s2 : Int) : Int × Int × Int :=
  let (hi, _, lo) := hiMidLo d
  let h : Fin 3 := if d[0] = hi then 0 else if d[1] = hi then 1 else 2
  let l : Fin 3 := if d[2] = lo ∧ h ≠ 2 then 2 else if d[1] = lo ∧ h ≠ 1 then 1 else 0
  let i := fun x : Fin 3 => if x = h then s1 else if x = l then -s2 else s2 - s1
  (i 0, i 1, i 2)

/-- The electrical angle that the pack's AngleTime gives, but for the commutation offset (R278). -/
def State.packElec (s : State) (p : PackId) : Nat := s.packs[p].spindle.coef 0x18 1 * (s.packs[p].tb.angle.toNat % 2 ^ 28) % 2 ^ 28

/-- The electrical angle of the current loop, 2^-28 of a revolution (R278); the first period of a catch uses the angle measured in Watch (R285).
Until the commutation offset is first learned the observer serves in Locked and Coast too (DEDUCED: log entry 154). -/
def State.elecAngle (s : State) (p : PackId) (observer : Nat) : Nat :=
  let x := s.packs[p].spindle
  match x.state with
  | .align => 0
  | .forced => x.forcedAngle
  | _ => match x.caught with
    | some v => v
    | none => if s.tbUsable p ∧ x.offsetKnown then (s.packElec p + x.commutation) % 2 ^ 28 else observer % 2 ^ 28

/-- A period of learning the commutation offset (R278): the mean over one revolution, 256 periods, of the observer's angle less the AngleTime
angle `elec`, each difference taken within half a revolution of the first. -/
def Spindle.learn (x : Spindle) (observer elec : Nat) : Spindle :=
  let d := (observer % 2 ^ 28 + 2 ^ 28 - elec % 2 ^ 28) % 2 ^ 28
  let first := if x.learnCount = 0 then d else x.learnFirst
  let sum := x.learnSum + signedNat 28 ((d + 2 ^ 28 - first) % 2 ^ 28)
  if x.learnCount + 1 < 256 then { x with learnFirst := first, learnSum := sum, learnCount := x.learnCount + 1 }
  else { x with learning := false, learnCount := 0, learnSum := 0, offsetKnown := true,
                commutation := (((first : Int) + roundDiv sum 256) % 2 ^ 28).toNat }

/-- Current-limited short braking (R282, R288, R289). -/
def Spindle.braking (x : Spindle) : Bool := x.state = .brake || x.state = .faultBrake || (x.state = .stop && x.shortBrake)

/-- A Q1.15 current of the full-scale phase current in mA (R278, R298). -/
def Spindle.milliamps (x : Spindle) (q : Nat) : Nat := (roundDiv ((q : Int) * x.coef 0x1B 5) 32768).toNat

/-- A period of short braking (R271, R289): the three low switches are on for the short interval, then every gate is off, and the shunt is
sampled 0.5 µs later. The short interval keeps the sum of the positive phase currents at or below its limit; by how much it changes is not
stated: a free value, shorter than before when the sum is above the limit. -/
def State.brakePeriod (s : State) (p : PackId) (sum : Option ShuntPair) : State :=
  let x := s.packs[p].spindle
  let (f, s1) := s.takeFree
  let above : Bool := match sum with | some v => decide (x.scaled (x.coef 0x1C 4) < v.first) | none => false
  let on := f % (if above then max x.brakeOn 1 else s.pwmPeriod p + 1)
  s1.updSpin p (fun x =>
    { x with brakeOn := on, duty := Vector.replicate 3 0, legs := Vector.replicate 3 { low := [(0, on)] }, sampleAt := (on + 500, 0),
             current := match sum with | some v => x.milliamps (Config.brakeCurrent v.first) | none => x.current })

/-- A period of the current loop in a driven state (R273 to R278, R284, R285). -/
def State.drivePeriod (s : State) (p : PackId) (shunt : Option ShuntPair) (observer angle : Nat) (moved : Int × Int × Int) : State :=
  let x := s.packs[p].spindle
  let period := s.pwmPeriod p
  let tmin := s.param 0x7030 8
  let (id0, iq0, _, s1) := s.takeFree3
  let e := s.elecAngle p angle
  let (id, iq, rms) := match shunt with
    | some y =>
      let (u, v, w) := phaseCurrents x.duty y.first y.second
      (Config.dCurrent u v w e, Config.qCurrent u v w e, x.milliamps (Config.rmsCurrent u v w))
    | none => (id0, iq0, x.current)
  let set := if x.noDrive then 0 else if x.state = .align then x.scaled (x.coef 0x1C 2)
    else if x.state = .forced then x.scaled (x.coef 0x1C 1) else x.qSet
  let di := integStep x.dInteg (coefInt x.motor 0x19 2 * (-id)) (coefInt x.motor 0x19 3)
  let qi := integStep x.qInteg (coefInt x.motor 0x1A 2 * (set - iq)) (coefInt x.motor 0x1A 3)
  let vd := stageOut (coefInt x.motor 0x19 1 * (-id) + di.val) (coefAt x.motor 0x19 4)
  let vq := stageOut (coefInt x.motor 0x1A 1 * (set - iq) + qi.val) (coefAt x.motor 0x1A 4)
  let (u, v, w) := Config.phaseVolts vd.val vq.val x.feed e
  let (duty, capped) := pwmDuties period tmin u v w
  let gain := x.forcedFrac + x.coef 0x1D 1 * 1024 * period
  let forced := if x.state = .forced then x.forced + gain / 10 ^ 9 else x.forced
  let agree : Bool := decide ((observer * 1024 * 10 : Nat) ≤ forced * 11) && decide (forced * 9 ≤ observer * 1024 * 10)
  let paid : Vector Nat 3 := #v[((duty[0] : Int) - x.debt[0]).toNat, ((duty[1] : Int) - x.debt[1]).toNat,
    ((duty[2] : Int) - x.debt[2]).toNat]
  let sh := windowShifts tmin paid
  let (hi, _, lo) := hiMidLo paid
  let leg := fun (d : Nat) =>
    let at_ := (period - d) / 2 + (if d = lo then sh.2 else 0) - (if d = hi then sh.1 else 0)
    Leg.pwm period at_ (at_ + d) (s.param 0x7030 11)
  s1.updSpin p (fun x =>
    { x with
      idLast := id, iqLast := iq, current := rms, dInteg := if capped then x.dInteg else di.val, qInteg := if capped then x.qInteg else qi.val,
      vd := vd.val, vq := vq.val, qSet := set, duty := paid, legs := paid.map leg, caught := none, debt := #v[moved.1, moved.2.1, moved.2.2],
      shift := windowShifts tmin paid, sampleAt := sampleTimes period tmin (s.param 0x7030 9) paid,
      missedSamples := if shunt.isSome then x.missedSamples else sat32 x.missedSamples 1,
      forced := forced, forcedFrac := if x.state = .forced then gain % 10 ^ 9 else x.forcedFrac, agreeRun := if x.state = .forced ∧ agree then x.agreeRun + 1 else 0,
      forcedAngle := if x.state = .forced then
        (x.forcedAngle + x.coef 0x18 1 * forced * period * 2 ^ 28 / (1024 * 60 * 10 ^ 9)) % 2 ^ 28 else x.forcedAngle })

/-- One PWM period of a spindle bridge whose gates are driven (R273 to R278, R284, R289, R519). `shunt` holds the samples of the two windows in
Q1.15 of full scale, none where a moved edge left a window too short: the loop then runs on predicted currents, which are free values.
`observer` and `angle` are the back-EMF observer's speed and angle, `moved` the on-time that edges moved out of the quiet interval gave each
phase. The transformations to the d and q axes and back are not stated and free (Config). -/
def execSpindleCurrentLoop (p : PackId) (shunt : Option ShuntPair) (observer angle : Nat) (moved : Int × Int × Int) (s : State) : Res :=
  .next (
    let x := s.packs[p].spindle
    if ¬ s.gatesLive then s
    else if x.braking then s.brakePeriod p shunt
    else if x.state.driven then
      let s1 := s.drivePeriod p shunt observer angle moved
      if x.learning ∧ s.tbUsable p ∧ x.state ≠ .align ∧ x.state ≠ .forced then s1.updSpin p (fun x => x.learn angle (s.packElec p)) else s1
    else s)

/-! ### Speed -/

/-- The speed lies within `num`/1000 of the target. -/
def withinMille (num speed target : Nat) : Bool :=
  decide ((speed : Int) * 1000 ≤ target * (1000 + num)) && decide ((target : Int) * (1000 - num) ≤ speed * 1000)

/-- A ramp step toward the target (R279). -/
def rampTo (ref target up down : Nat) : Nat :=
  if ref < target then min target (ref + up) else max target (ref - down)

/-- The measured speed is below `n` % of nominal. -/
def State.below (s : State) (p : PackId) (n : Nat) : Bool := decide (s.packs[p].spindle.speed * 100 < s.nominal p * n)

/-- The time base follows the spindle: Stopped below 5 % of nominal, Free-run from there on, its increment from the back-EMF
speed (R42). -/
def State.tbSpeed (s : State) (p : PackId) : State :=
  let v := s.packs[p].spindle.speed
  let per := if v = 0 then 0 else 6 * 10 ^ 12 / v
  match s.packs[p].tb.state with
  | .stopped =>
    if s.below p 5 ∨ v = 0 then s
    else s.updTb p (fun t => { t.freeRun with loopPeriod := per, sinceRev := 0 })
  | .freeRun =>
    if s.below p 5 then s.updTb p (fun t => { t with state := .stopped, revPeriod := 0 })
    else s.updTb p (fun t => { t with loopPeriod := per })
  | _ =>
    if s.below p 5 then (s.updTb p (fun t => { t.freeRun with state := .stopped, revPeriod := 0 })) else s

/-- A pack whose removal has been prepared is removable once its spindle is below 1 % (R95). -/
def State.checkRemoval (s : State) (p : PackId) : State :=
  if s.packs[p].removalDue ∧ (s.packs[p].spindle.speed = 0 ∨ s.below p 1) then s.updPack p (fun k => { k with removable := true, removalDue := false }) else s

/-- The spindle's own changes at a speed (R282, R288): short braking at 3 %, Off below 1 %, the end of a stop to a lower
speed. -/
def State.spinSpeed (s : State) (p : PackId) : State :=
  let x := s.packs[p].spindle
  let slow := s.below p 1
  match x.state with
  | .freewheel | .faultBrake => if slow then s.updSpin p Spindle.off else s
  | .brake =>
    if slow then s.updSpin p (fun x => if x.stopAfterBrake then x.off else { x with state := .align }) else s
  | .stop =>
    match x.stopTo with
    | some v =>
      if x.speed ≤ v then
        s.updSpin p (fun x => { x.fresh with state := .accelerate, target := v, stopTo := none, shortBrake := false })
      else s
    | none =>
      if slow then s.updSpin p Spindle.off
      else if s.below p 3 then s.updSpin p (fun x => { x with shortBrake := true, qSet := 0 }) else s
  | _ => s

/-- The measured speed (R279): the time base's increment while Locked or Coast, otherwise the observer's. -/
def State.measuredSpeed (s : State) (p : PackId) (observer : Nat) : Nat :=
  if s.tbUsable p ∧ s.packs[p].tb.loopPeriod ≠ 0 then (12 * 10 ^ 12 + s.packs[p].tb.loopPeriod) / (2 * s.packs[p].tb.loopPeriod) else observer

/-- An update of the speed loop (R279, R280): `observer` and `backward` are the observer's speed and direction. The reference moves along its
ramp and the PI stage sets the q axis within the run current limit; how a speed is scaled to its error is not stated and free (Config). The
three checks count their consecutive updates. A spindle in Off is only measured. -/
def execSpindleSpeedLoop (p : PackId) (observer : Nat) (backward : Bool) (s : State) : Res :=
  .next (
    let speed := s.measuredSpeed p observer
    if s.packs[p].spindle.state = .off then
      ((s.updSpin p (fun x => { x with speed := speed, backward := backward })).tbSpeed p).checkRemoval p
    else
      let dt := 16 * s.pwmPeriod p
      let s1 := s.updSpin p (fun x =>
        let closed : Bool := x.state = .accelerate || x.state = .atSpeed || x.state = .stop
        let goal := if x.state = .stop then (match x.stopTo with | some v => v | none => 0) else x.target
        let lim := x.scaled (x.coef 0x1C 1)
        let inW := x.target ≠ 0 && closed && withinMille (x.coef 0x1D 3) speed x.target
        let loaded := s.packs[p].arms.any (fun a => a.servo.mode.loaded)
        let ref := if closed then rampTo x.ref (goal * 1024) (x.coef 0x1D 1 * 1024 * dt / 10 ^ 9) (x.coef 0x1D 2 * 1024 * dt / 10 ^ 9)
            else x.ref
        let e := Config.speedError ref speed
        let i := integStep x.sInteg (coefInt x.motor 0x1B 2 * e) (coefInt x.motor 0x1B 3)
        let u := stageOut (coefInt x.motor 0x1B 1 * e + i.val) (coefAt x.motor 0x1B 4)
        { x with
          speed := speed, backward := backward, ref := ref,
          sInteg := if closed then i.val else x.sInteg,
          qSet := if ¬ closed then x.qSet else if x.noDrive ∨ x.shortBrake then 0 else clampTo lim u.val,
          inWindowRun := if inW then min (x.inWindowRun + 1) 32 else 0,
          inWindow := x.inWindow && inW,
          overRun := if x.target ≠ 0 ∧ x.target * 105 < speed * 100 then x.overRun + 1 else 0,
          devRun := if x.state = .atSpeed ∧ loaded ∧ ¬ withinMille 20 speed x.target then x.devRun + 1 else 0 })
      ((s1.tbSpeed p).checkRemoval p).spinSpeed p)

/-- 32 consecutive updates inside the speed window: the speed is in window, Accelerate ends, and the pack no longer counts
as spinning up (R99, R280, R282); a Spinning pack with an arm loaded and measured is Loaded (R90). -/
def execSpeedInWindow (p : PackId) (s : State) : Res :=
  .next (
    let x := s.packs[p].spindle
    if 32 ≤ x.inWindowRun ∧ ¬ x.inWindow ∧ (x.state = .accelerate ∨ x.state = .atSpeed) then
      (((s.updSpin p (fun x => { x with inWindow := true, state := .atSpeed, attempts := 0 })).releaseSpin p).checkLoaded p).admissionPass
    else s)

/-- 16 consecutive updates above 105 % of the speed in use fail the pack (R280). -/
def execSpindleOverspeed (p : PackId) (s : State) : Res :=
  .next (if 16 ≤ s.packs[p].spindle.overRun then (s.packFail p 12).kickPack p else s)

/-- 16 consecutive updates outside 2 % with an arm loaded fail the pack (R280). -/
def execSpindleSpeedDeviation (p : PackId) (s : State) : Res :=
  .next (if 16 ≤ s.packs[p].spindle.devRun then (s.packFail p 12).kickPack p else s)

/-! ### Start and stop -/

/-- A spindle goes to Fault brake (R282, R293); a pack that spins up counts until it fails (R99). -/
def Spindle.faultBrake (x : Spindle) : Spindle :=
  { x.fresh with state := .faultBrake, faultStops := sat32 x.faultStops 1, stopDue := false,
                 stopTo := none, byBus := false, qSet := 0 }

/-- The speed and the direction that Watch finds (R283): a back-EMF vector whose amplitude, in mV, lies below that of 1 % of nominal reads as no
motion. Where the amplitude does not confirm what the angle shows, no result is stated: `open_` is then taken. -/
def Spindle.watched (x : Spindle) (speed : Nat) (backward : Bool) (amplitude open_ : Nat) : Nat × Bool :=
  if amplitude * 100000 < x.coef 0x18 4 * x.target then (0, backward)
  else if Config.emfConfirms speed backward amplitude (x.coef 0x18 4) then (speed, backward)
  else (open_ / 2 % 65536, open_ % 2 = 1)

/-- The Watch ends with the speed, direction, amplitude and angle of the back-EMF vector (R282, R283, R285). On a bus under chopper fault the states
that brake or drive give way to Fault brake (R282). -/
def execWatchEnd (p : PackId) (speed : Nat) (backward : Bool) (amplitude angle : Nat) (s0 : State) : Res :=
  .next (
    let x := s0.packs[p].spindle
    if x.state ≠ .watch then s0
    else
      let (n, s) := s0.takeFree
      let (v, back) := x.watched speed backward amplitude n
      let s1 := s.updSpin p (fun x =>
        let y := { x with speed := v, backward := back }
        let z := if ¬ back ∧ x.target * 5 < v * 100 then
            { y.fresh with state := .accelerate, ref := v * 1024, catches := sat32 x.catches 1, qSet := 0, dInteg := 0, qInteg := 0, sInteg := 0,
                           feed := amplitude, caught := some (angle % 2 ^ 28) }
          else if x.target ≤ v * 100 then { y with state := .brake, stopAfterBrake := false }
          else { y with state := .align }
        if s.buses[busOf p].fault then z.faultBrake else z)
      s1.tbSpeed p)

/-- The align time ends: Forced (R282, R284). -/
def execAlignEnd (p : PackId) (s : State) : Res :=
  .next (
    if s.packs[p].spindle.state = .align then
      s.updSpin p (fun x => { x with state := .forced, forced := 0, forcedFrac := 0, forcedAngle := 0, agreeRun := 0 })
    else s)

/-- The observer has agreed with the forced speed for 64 periods: Accelerate, a start that succeeded (R282, R284). -/
def execForcedHandover (p : PackId) (s : State) : Res :=
  .next (
    let x := s.packs[p].spindle
    if x.state = .forced ∧ 64 ≤ x.agreeRun then
      s.updSpin p (fun x => { x.fresh with state := .accelerate, ref := x.forced, attempts := 0, starts := sat32 x.starts 1 })
    else s)

/-- The forced speed has reached 10 % of nominal without agreement (R282, R284): the attempt is counted; before the third
the controller watches again at once, with the motor part copied afresh (R297). -/
def execStartAttemptFailed (p : PackId) (s : State) : Res :=
  .next (
    let x := s.packs[p].spindle
    if x.state = .forced ∧ x.agreeRun < 64 ∧ x.target * 1024 ≤ x.forced * 10 then
      s.updSpin p (fun x =>
        let n := x.attempts + 1
        if n < 3 then
          { x.gatesOff with attempts := n, state := .watch, forced := 0, forcedFrac := 0, agreeRun := 0, qSet := 0, motor := s.motorSet p }
        else { x.off with attempts := n })
    else s)

/-- A controlled stop begins once every arm of the pack is Unloaded or Out (R282, R287); a change to a lower speed chosen is
a stop that ends at that speed (R296). -/
def execControlledStopBegin (p : PackId) (s : State) : Res :=
  .next (
    let x := s.packs[p].spindle
    if ¬ s.packs[p].armsDown then s
    else if x.stopDue then
      match x.state with
      | .watch | .align => (s.updSpin p Spindle.off).checkRemoval p
      | .forced | .accelerate | .atSpeed =>
        s.updSpin p (fun x => { x.fresh with state := .stop, stopDue := false, stopTo := none, shortBrake := false })
      | .brake => s.updSpin p (fun x => { x with stopAfterBrake := true, stopDue := false })
      | _ => s.updSpin p (fun x => { x with stopDue := false })
    else if x.state = .atSpeed ∧ s.chosenSpeed p < x.target ∧ s.chosenSpeed p ≠ 0 ∧ s.packs[p].state.mayCarry then
      s.updSpin p (fun x => { x.fresh with state := .stop, stopTo := some (s.chosenSpeed p), shortBrake := false })
    else s)

/-! ### Motor bus -/

/-- Spindles of a bus. -/
def State.forBus (s : State) (x : BusId) (f : State → PackId → State) : State := (packsOfBus x).foldl f s

/-- A run of consecutive samples, kept below 2^20. -/
def runOf (hit : Bool) (n : Nat) : Nat := if hit then min (n + 1) (2 ^ 20) else 0

/-- A sample of a bus voltage every 1 µs (R291, R292, R575): `code` is the converter's reading, `feedback` the chopper
feedback. The chopper gate follows its thresholds unless a chopper fault holds it off or no motor gate is driven (R271, R519). -/
def execMotorBusSample (x : BusId) (code : Nat) (feedback : Bool) (s : State) : Res :=
  .next (
    if ¬ s.busFitted x then s
    else
      let mv := code * 75 / 8
      let geq := fun t : Nat => decide (t * 8 ≤ code * 75)
      let leq := fun t : Nat => decide (code * 75 ≤ t * 8)
      let lt := fun t : Nat => decide (code * 75 < t * 8)
      let th := fun i => s.param 0x7030 i
      s.updBus x (fun b =>
        let on := if b.fault ∨ ¬ s.gatesLive then false else if geq (th 1) then true else if leq (th 2) then false else b.gate
        { b with
          volts := mv, peak := max b.peak mv, gate := on, feedback := feedback,
          activations := if on ∧ ¬ b.gate then sat32 b.activations 1 else b.activations,
          freewheelRun := runOf (geq (th 4)) b.freewheelRun, releaseRun := runOf (lt (th 5)) b.releaseRun,
          faultRun := runOf (geq (th 3)) b.faultRun, underRun := runOf (leq (th 6)) b.underRun,
          underEndRun := runOf (geq (th 6 + 1000)) b.underEndRun }))

/-- States 2 to 7, which a chopper fault takes to Fault brake (R282). -/
def SpinState.braked : SpinState → Bool
  | .brake | .align | .forced | .accelerate | .atSpeed | .stop => true
  | _ => false

/-- A chopper fault is declared (R293). -/
def State.chopperFault (s : State) (x : BusId) : State :=
  if s.buses[x].fault ∨ ¬ s.busFitted x then s
  else
    let s1 := s.updBus x (fun b => { b with fault := true, gate := false })
    let s2 := s1.forBus x (fun s p => s.updSpin p (fun y => if y.state.braked then y.faultBrake else y))
    let s3 := s2.raise (48 + 2 * x.val)
    s3.forBus x (fun s p => (s.packFail p 13).kickPack p)

/-- The chopper feedback has not followed the gate for the feedback time (R292). -/
def execChopperFeedbackTimeout (x : BusId) (s : State) : Res :=
  .next (if s.buses[x].feedback = s.buses[x].gate then s else s.chopperFault x)

/-- 4 consecutive samples at or above the chopper-fault threshold (R291, R292). -/
def execChopperFault (x : BusId) (s : State) : Res :=
  .next (if 4 ≤ s.buses[x].faultRun then s.chopperFault x else s)

/-- 2 consecutive samples at or above the freewheel threshold: every spindle of the bus freewheels (R282, R293). -/
def execBusFreewheel (x : BusId) (s : State) : Res :=
  .next (
    if 2 ≤ s.buses[x].freewheelRun ∧ ¬ s.buses[x].freewheel then
      (s.updBus x (fun b => { b with freewheel := true })).forBus x (fun s p => s.updSpin p (fun y => y.freewheelBy true))
    else s)

/-- 2 consecutive samples below the release threshold: spindles that freewheel through the bus go to Fault brake (R282). -/
def execBusFreewheelRelease (x : BusId) (s : State) : Res :=
  .next (
    if 2 ≤ s.buses[x].releaseRun ∧ s.buses[x].freewheel then
      (s.updBus x (fun b => { b with freewheel := false })).forBus x (fun s p => s.updSpin p (fun y =>
        if y.state = .freewheel ∧ y.byBus then y.faultBrake else y))
    else s)

/-- 100 samples at or below the undervoltage threshold: no drive on the spindles of the bus, and a fault (R294). -/
def execBusUndervoltage (x : BusId) (s : State) : Res :=
  .next (
    if 100 ≤ s.buses[x].underRun ∧ ¬ s.buses[x].undervoltage then
      ((s.updBus x (fun b => { b with undervoltage := true })).forBus x (fun s p => s.updSpin p (fun y =>
        { y with noDrive := true, qSet := 0 }))).raise (49 + 2 * x.val)
    else s)

/-- 100 samples 1.0 V above the threshold end the undervoltage (R294): references restart from the present speed, and a
spindle At speed outside its window accelerates. -/
def execBusUndervoltageEnd (x : BusId) (s : State) : Res :=
  .next (
    if 100 ≤ s.buses[x].underEndRun ∧ s.buses[x].undervoltage then
      (s.updBus x (fun b => { b with undervoltage := false })).forBus x (fun s p => s.updSpin p (fun y =>
        let z := { y with noDrive := false, ref := y.speed * 1024 }
        if y.state = .atSpeed ∧ ¬ withinMille (y.coef 0x1D 3) y.speed y.target then { z.fresh with state := .accelerate } else z))
    else s)

/-- Ppp_PSF_N asserts after filtering (R264, R272): bridges off, the spindle freewheels, loaded arms retract, the pack
fails. -/
def State.powerStage (s : State) (p : PackId) : State :=
  let s1 := (s.updSpin p (fun y => y.freewheelBy false)).galePack p false false
  ((s1.raisePack p 4).packFail p 12).kickPack p

/-- The first filtered assertion of a pack's PSF_N (R272). -/
def execPowerStageFault (p : PackId) (s : State) : Res :=
  .next (if s.packFitted p then s.powerStage p else s)

end Sys2Proof.Machine
end

