-- ==== Sys2Proof/Machine/ClusterOps.lean ====
section
/-! DEFINITION. What parks and stops the whole device, the device stop and the arbiter's failure, and the roles of the two clusters
(R495, R500, R502 to R511, R525). -/

namespace Sys2Proof.Machine

/-! ### Parking and stopping everything -/

/-- Every arm parks and every spindle gets a stop trigger (R260, R287). -/
def State.parkAndStop (s : State) : State :=
  let s1 := s.parkAll
  { s1 with packs := s1.packs.map (fun k => { k with spindle := k.spindle.stop }) }

/-- How high a condition that leads to Lee stands in R525: arbiter failure, device stop, reference lost, EPO_N, command. -/
def leeRank : Nat → Nat
  | 2 => 0 | 8 => 1 | 6 => 2 | 1 => 3 | _ => 4

/-- A move to Lee waits for every arm to be Unloaded or Out; of several the one higher in R525 takes effect. -/
def State.pendLee (s : State) (reduced : Bool) (cause : Nat) : State :=
  let keep : Bool := match s.dev.pendingLee with
    | some p => decide (leeRank p.cause ≤ leeRank cause)
    | none => false
  if keep ∨ ¬ s.dev.state.running then s else { s with dev := { s.dev with pendingLee := some ⟨reduced, cause⟩ } }

/-- Background work stops: its requests that wait in the hub are withdrawn, and self-tests report stopped (R344, R540, R541). -/
def State.stopBackground (s : State) : State :=
  let gone := s.store.back.map (fun b => reqTag b.req)
  s.updStore (fun t => { t with
    windows := [], back := [],
    reads := t.reads.filter (fun j => !gone.contains j.tag), writes := t.writes.filter (fun w => !gone.contains w.tag),
    selfTest := { t.selfTest with kind := 0, running := 0, stopped := t.selfTest.stopped ||| t.selfTest.running } })

/-- From the 1 µs row of R511: FATAL_N is held, host service stops, every connection ends, every arm parks, every spindle stops,
and the device goes to Lee in reduced form. Cause 2 is the arbiter's failure, 8 the device stop of R506. -/
def State.stopDevice (s : State) (cause : Nat) : State :=
  let s1 := ({ s with faults := { s.faults with fatalLatch := true } }).parkAndStop
  ((s1.endAllConns 6).stopBackground).pendLee true cause

/-- The island declares the arbiter failed (R511): source `k` (0 lockstep, 1 watchdog), the failure cause of 0x8020.02, the fatal
record, and the stop. `flags` marks an injected failure. -/
def State.arbiterFail (s : State) (k cause flags : Nat) : State :=
  if s.arbiter.failed then s
  else
    let s1 := ({ s with arbiter := { s.arbiter with failed := true, cause := cause } }).raiseWith k 0 0xFFFF flags
    (s1.formFatal { type := 0x31, code := cause, flags := flags }).stopDevice 2

/-- The device stop for a fail-over that finds no fit standby (R506): source 7, the arbiter still running. -/
def State.deviceStop (s : State) : State :=
  if s.hostStopped then s
  else
    let s1 := ({ s with arbiter := { s.arbiter with stopped := true, decisions := sat32 s.arbiter.decisions 1 } }).raise 7
    s1.stopDevice 8

/-! ### Roles -/

/-- The code of a role (R502). -/
def Role.code : Role → Nat
  | .off => 0 | .active => 1 | .standby => 2 | .synchronising => 3 | .selfTest => 4 | .out => 5

/-- A cluster becomes Active (R502, R507). -/
def State.activate (s : State) (c : ClusterId) : State :=
  let s1 := s.updCluster c (fun u => { u with role := .active, missRun := 0 })
  { s1 with clusters := { s1.clusters with active := some c } }

/-- A cluster goes Out, with its record of code 6 (R502, R509, R553). -/
def State.clusterOut (s : State) (c : ClusterId) : State :=
  (s.updCluster c (fun u => { u with role := .out })).record
    { type := 0x30, code := 6, subject := c.val, detail := detailAt 0x28 s.activeCode }

/-- Both clusters Off: the reduced form, Boot and Zephyr (R502, R539). -/
def State.clustersOff (s : State) : State :=
  { s with clusters := { s.clusters with
      unit := s.clusters.unit.map (fun u => { u with role := .off, missRun := 0, trapTimes := [] }),
      active := none, failOver := none, mirrorGap := false, lagRun := 0, lagAt := none, swapPostponed := false } }

/-- Boot releases both clusters into Self-test (R502). -/
def State.releaseClusters (s : State) (boot : ClusterId) : State :=
  { s with clusters := { s.clusters with
      unit := s.clusters.unit.map (fun u => { u with role := .selfTest, missRun := 0 }), bootCluster := boot } }

/-- Traps delivered to a cluster within the trap storm window (R506). -/
def State.stormTraps (s : State) (c : ClusterId) : Nat :=
  (s.clusters.unit[c].trapTimes.filter (fun t => decide (s.now ≤ t + s.param 0x8011 5 * 1000000))).length

/-- A source of a cluster is in fault state: 16 + 8c + k. -/
def State.clusterSource (s : State) (c : ClusterId) (k : Nat) : Bool := (s.source (16 + 8 * c.val + k)).inState

/-- The arbiter resets the standby and raises the cause as its source (R505, R506). -/
def State.resetStandby (s : State) (c : ClusterId) : State :=
  let s1 := s.resetCluster c
  { s1 with arbiter := { s1.arbiter with decisions := sat32 s1.arbiter.decisions 1 },
            clusters := { s1.clusters with mirrorGap := false, lagRun := 0, lagAt := none } }

end Sys2Proof.Machine
end

