-- ==== Sys2Proof/Machine/EventStore.lean ====
section
/-! DEFINITION. The event store (R549, R554, R556, R558 to R561): the counter block, flushes, the Boot scan, and retrieval through the
read window. -/

namespace Sys2Proof.Machine

/-! ### Counter block and flushes -/

/-- The counts go to the counter block, and everything staged is written (R549, R556, R561). -/
def State.saveCounters (s : State) : State :=
  if s.flashReachable then
    { s with flash := { s.flash with
        counters := some ⟨s.dev.opSec, s.dev.powerCycles, s.recorder.fatalOverwritten⟩ } }.flushAll
  else s

/-- A write or an erase of the flash fails: counted, source 9, and the records stay staged (R557). -/
def State.flashWriteFails (s : State) : State :=
  if s.flashReachable then
    (s.updRecorder (fun c => { c with writeFailures := sat32 c.writeFailures 1 })).raise 9
  else s

/-- Every 10 minutes (R549); `flashOk` is false when the flash write fails. -/
def execCounterSave (flashOk : Bool) (s : State) : Res := .next (if flashOk then s.saveCounters else s.flashWriteFails)

/-- Staged records are written within 1 s of forming; the newest one stays staged (R556). With nothing to write, no write fails. -/
def execStagingFlush (flashOk : Bool) (s : State) : Res :=
  .next (
    if flashOk then (if s.flashReachable then s.flushStaging 1 else s)
    else if s.recorder.staging.length ≤ 1 then s
    else s.flashWriteFails)

/-- The staging hold has passed: the newest record is written too (R556). -/
def execStagingHoldExpiry (flashOk : Bool) (s : State) : Res :=
  .next (if flashOk then s.flushAll else if s.recorder.staging = [] then s else s.flashWriteFails)

/-! ### Retrieval -/

/-- The types of R553; records of any other type are not valid (R558). -/
def recordTypes : List Nat := [0x01, 0x02, 0x10, 0x11, 0x12, 0x13, 0x20, 0x21, 0x22, 0x23, 0x30, 0x31, 0x40, 0x41, 0x50, 0x60, 0x70]

/-- A written place holds a valid record (R558). -/
def EvSlot.ok (x : EvSlot) : Bool := x.valid && recordTypes.contains x.body.type

/-- The valid records of a ring. -/
def EvRing.records (g : EvRing) : List EvRec := (g.slots.filter EvSlot.ok).map (fun x => x.body)

/-- Inserts a record by sequence, compared as R52 compares (R554). -/
def insertRec (r : EvRec) : List EvRec → List EvRec
  | [] => [r]
  | x :: l => if laterMod 32 x.seq r.seq then r :: x :: l else x :: insertRec r l

/-- Records oldest first. -/
def sortRecs (l : List EvRec) : List EvRec := l.foldl (fun acc r => insertRec r acc) []

/-- The records that retrieval serves, oldest first: both regions and staging, or the island's copy while flash cannot be reached
(R559, R560). -/
def State.heldRecords (s : State) : List EvRec :=
  if s.flashReachable then
    sortRecs (s.flash.pinned.records ++ s.flash.ordinary.records ++ s.recorder.staging.map (fun g => g.body))
  else s.recorder.newest

/-- Places that retrieval skips (R558). -/
def State.skippedRecords (s : State) : Nat :=
  if s.flashReachable then ((s.flash.pinned.slots ++ s.flash.ordinary.slots).filter (fun x => !x.ok)).length else 0

/-- The reader that an identity is (R559). -/
def State.reader (s : State) (who : Nat) : Reader := (s.recorder.readers.find? (fun r => r.who = who)).getD { who := who }

/-- Keeps a reader, most recently used first, at most 32 (R559). -/
def State.putReader (s : State) (r : Reader) : State :=
  s.updRecorder (fun c => { c with readers := (r :: c.readers.filter (fun x => x.who ≠ r.who)).take 32 })

/-- The cursor of an identity: its own, or the oldest record held (R559). -/
def State.cursorOf (s : State) (who : Nat) : Nat :=
  match (s.reader who).cursor with
  | some n => n
  | none => match s.heldRecords with
    | r :: _ => r.seq
    | [] => s.recorder.nextSeq

/-- A record passes a filter (R561). -/
def passesFilter (f : Nat) (r : EvRec) : Bool :=
  (!(f.testBit 0) || r.fatal) && (f / 256 % 256 = 0xFF || r.pack = f / 256 % 256)

/-- Examines records in order until `n` have passed: those that passed, and the sequence after the last examined. -/
def examine (f : Nat) : Nat → Option Nat → List EvRec → List EvRec × Option Nat
  | 0, c, _ => ([], c)
  | _, c, [] => ([], c)
  | n + 1, c, r :: l =>
    let after := some ((r.seq + 1) % 2 ^ 32)
    if passesFilter f r then
      let (out, c') := examine f n after l
      (r :: out, c')
    else
      let (out, c') := examine f (n + 1) after l
      let _ := c
      (out, c')

/-- A read of the read window that may return `cap` records (R559): those returned, and the cursor after it. A cap of 0 returns
none and leaves the cursor (R464). -/
def State.windowRead (s : State) (who cap : Nat) : List EvRec × State :=
  let from_ := s.cursorOf who
  let l := s.heldRecords.filter (fun r => !laterMod 32 from_ r.seq)
  let x := s.reader who
  let (out, c) := examine x.filter cap x.cursor l
  let s1 := s.updRecorder (fun k => { k with invalidSkipped := sat32 k.invalidSkipped s.skippedRecords })
  (out, s1.putReader { x with cursor := c, returned := out.length })

/-- Records returned at most: 64 over USDO; in band what the buffer holds, capped at 1,024 (R559). -/
def windowCap (inBand : Option Nat) : Nat := match inBand with | some n => min (n / 64) 1024 | none => 64

/-! ### Boot scan (R554) -/

/-- The first places of a ring's sectors, as written. -/
def EvRing.firsts (g : EvRing) : List EvSlot := g.slots.filter (fun x => x.place % 64 = 0)

/-- The sector of a ring that its first record shows as the newest. -/
def EvRing.newestSector (g : EvRing) : Option Nat :=
  (g.firsts.filter EvSlot.ok).foldl (fun (m : Option EvSlot) x => match m with
    | some y => if laterMod 32 x.body.seq y.body.seq then some x else m
    | none => some x) none |>.map (fun x => x.place / 64)

/-- The written places of the newest sector of a ring. -/
def EvRing.newestSlots (g : EvRing) : List EvSlot := g.slots.filter (fun x => g.newestSector == some (x.place / 64))

/-- The invalid records of a ring that the scan reads: it reads the first record of every sector and the newest sector whole. -/
def EvRing.scanSkips (g : EvRing) : Nat :=
  (g.slots.filter (fun x => !x.ok && (x.place % 64 == 0 || g.newestSector == some (x.place / 64)))).length

/-- One above the highest sequence of the valid records in the newest sector of each region and of those held in the island (R554). -/
def State.scanSeq (s : State) : Nat :=
  let l := ((s.flash.pinned.newestSlots ++ s.flash.ordinary.newestSlots).filter EvSlot.ok).map (fun x => x.body)
    ++ s.recorder.newest ++ s.recorder.staging.map (fun g => g.body)
  match l with
  | [] => s.recorder.nextSeq
  | r :: rest => ((rest.foldl (fun m x => if laterMod 32 x.seq m then x.seq else m) r.seq) + 1) % 2 ^ 32

/-- Records of the island's copy that neither flash nor staging holds are staged again (R556). -/
def State.restage (s : State) : State :=
  let held := s.flash.pinned.records ++ s.flash.ordinary.records ++ s.recorder.staging.map (fun g => g.body)
  let miss := s.recorder.newest.filter (fun r => !held.any (fun x => x.seq = r.seq))
  s.updRecorder (fun c => { c with staging := miss.map (fun r => ⟨false, r⟩) ++ c.staging })

/-- The scan at Boot: invalid records are counted, sequences resume, and the records that the island kept are staged; then those
kept from Zephyr are formed (R544, R554, R556, R558). -/
def State.bootScan (s : State) : State :=
  let s1 := (s.updRecorder (fun c =>
    { c with nextSeq := s.scanSeq,
             invalidSkipped := sat32 c.invalidSkipped (s.flash.pinned.scanSkips + s.flash.ordinary.scanSkips) })).restage
  let s2 := { s1 with dev := { s1.dev with tickRecords := [] } }
  s.dev.tickRecords.foldl (fun s r =>
    let r' := { r with seq := s.recorder.nextSeq }
    (s.numberRecord r').stageRecord r') s2

end Sys2Proof.Machine
end

