-- ==== Sys2Proof/Machine/Buffers.lean ====
section
/-! DEFINITION. Buffer memory, its scrubbing and re-initialisation, the range engine and the near cache's enable (R395 to R424). -/

namespace Sys2Proof.Machine

/-- A source put into its place in a rising list. -/
def insertSource (k : Nat) : List Nat → List Nat
  | [] => [k]
  | x :: l => if k ≤ x then k :: x :: l else x :: insertSource k l

/-- Raises the sources that one event reports, lowest first, as their records are ordered (R554). -/
def State.raiseAll (s : State) (l : List Nat) : State := (l.foldr insertSource []).foldl State.raise s

/-- Diagnostic mode is set (R406). -/
def State.diagnostic (s : State) : Bool := s.param 0x6009 1 = 1

/-- A requester is a cluster core. -/
def isCore : Requester → Bool
  | .cluster _ => true
  | _ => false

/-! ### Checker tests (R405) -/

/-- The rows of R405 on segment S_ch - 1 of a channel, for a pattern of data: stored data and check bytes at a granule, the class expected
and, where data is to come back restored, that data. `g` is slot 1 of the segment, `g0` slot 0. -/
def State.checkerRows (s : State) (g0 g : Nat) : List (Nat × Nat × Nat × Option Nat) :=
  let d := leNat ((List.range 64).map (fun i => if i % 2 = 0 then 0x55 else 0xAA))
  let c := s.checkBytes g d false
  [(d, c, 0, some d), (d ^^^ 256 ^ 37, c, 1, some d), (d, c ^^^ 0xFF * 256 ^ 2, 1, some d),
   (d ^^^ 256 ^ 3 ^^^ 256 ^ 60, c, 2, none), (d, s.checkBytes g d true, 3, none), (d, s.checkBytes g0 d false, 4, none)]

/-- The checker of a channel classes every row as R405 expects. -/
def State.checkerPasses (s : State) (ch : Nat) : Bool :=
  let g0 := ((s.segments - 1) * s.chanCount + ch) * 30
  (s.checkerRows g0 (g0 + 1)).all (fun x =>
    match s.classify (g0 + 1) x.1 x.2.1, x.2.2.2 with
    | (k, d, _), some e => k.code == x.2.2.1 && d == e
    | (k, _, _), none => k.code == x.2.2.1)

/-! ### Reads and writes -/

/-- A core read in diagnostic mode: stored data without correction, check bytes and verdict captured (R406). -/
def State.diagRead (s : State) (addr len : Nat) : List Byte × State :=
  let l := gransOf addr len
  let bytes := (l.map (fun g => natBytes 64 (s.stored g).1)).flatten
  let s1 := l.foldl (fun s g =>
    let w := s.stored g
    s.updBuf (fun b => { b with checkCapture := w.2, verdict := (s.classify g w.1 w.2).1.code })) s
  ((bytes.drop (addr % 64)).take len, s1)

/-- A read through the near cache (R399, R400, R406, R414). -/
def execBufferRead (r : Requester) (own : Bool) (addr len : Nat) (x : List DramRead) (e : SramErr) (s : State) : Res :=
  .next (
    if ¬ s.buf.reachable then s
    else if isCore r ∧ s.diagnostic then
      if s.bufSize < addr + len then (s.send (.bufferData (reqClass r) none)).raise 154
      else (let (d, s1) := s.diagRead addr len; s1.send (.bufferData (reqClass r) (some d)))
    else
      let (d, s1, f) := s.bufRead r own addr len x e
      (s1.send (.bufferData (reqClass r) d)).raiseAll f)

/-- Bytes of a granule with `l` laid over it from byte `off`. -/
def overlay (g : Nat) (off : Nat) (l : List Byte) : Nat :=
  let b := natBytes 64 g
  leNat (b.take off ++ l ++ b.drop (off + l.length))

/-- A core's write of any size is merged granule by granule (R408), each merge one read-modify-write: through the cache when the line is
resident or is allocated, otherwise in the memory controller. A merge into a granule that reads with an error is not performed. In
diagnostic mode a whole granule takes the check override (R406). -/
def State.coreWrite (s : State) (r : Requester) (own : Bool) (x : List DramRead) (e : SramErr) :
    Nat → List Byte → Nat → State × List Nat × Bool
  | _, _, 0 => (s, [], true)
  | addr, l, n + 1 =>
    if l.isEmpty then (s, [], true)
    else
      let g := addr / 64
      let part := l.take (64 - addr % 64)
      let (s1, f, ok) :=
        if part.length = 64 then
          (if s.diagnostic then (s.memPut g (leNat part) (s.param 0x6009 2), [], true)
           else (let (s2, f2) := s.granWrite r own g (leNat part) e; (s2, f2, true)))
        else
          let (d, s2, f2) := s.granRead r own g (dramOf x g) e
          match d with
          | none => (s2, f2, false)
          | some v => (s2.mergePut g (overlay v (addr % 64) part), f2, true)
      if ok then
        let (s3, f3, ok3) := s1.coreWrite r own x e (addr + part.length) (l.drop part.length) n
        (s3, f ++ f3, ok3)
      else (s1, f, false)

/-- A cluster core writes (R400, R406, R408): an error is answered to it. -/
def State.coreStore (s : State) (c : ClusterId) (own : Bool) (addr : Nat) (data : List Byte) (x : List DramRead) (e : SramErr) : State :=
  if s.bufSize < addr + data.length then (s.send (.bufferData (6 + c.val) none)).raise 154
  else
    let (s1, f, ok) := s.coreWrite (.cluster c) own x e addr data (data.length + 1)
    (if ok then s1 else s1.send (.bufferData (6 + c.val) none)).raiseAll f

/-- Channels whose write transfers fail their CRC more often than they are repeated fail (R395). -/
def State.failWrites (s : State) (x : List DramRead) : State × List Nat :=
  (x.filter (fun d => decide (4 < d.crcFails))).foldl (fun (t : State × List Nat) d =>
    let (s1, f) := t.1.failChannel (t.1.granPlace d.gran).1
    (s1, t.2 ++ f)) (s, [])

/-- A write: of whole granules for every requester but a cluster core, whose write may have any size (R407, R408, R414). A write beyond
U, or a narrow one, writes nothing and is answered with an error. -/
def execBufferWrite (r : Requester) (own : Bool) (addr : Nat) (data : List Byte) (x : List DramRead) (e : SramErr) (s : State) : Res :=
  .next (
    if ¬ s.buf.reachable then s
    else
      let (s0, f0) := s.failWrites x
      match r with
      | .cluster c => (s0.coreStore c own addr data x e).raiseAll f0
      | _ =>
        let (s1, f) := s0.bufWrite r own addr data e
        (if s0.bufSize < addr + data.length ∨ addr % 64 ≠ 0 ∨ data.length % 64 ≠ 0 then s1.send (.bufferData (reqClass r) none)
         else s1).raiseAll (f0 ++ f))

/-- A cluster core's write of any size and alignment (R400, R408). -/
def execCoreNarrowWrite (c : ClusterId) (own : Bool) (addr : Nat) (data : List Byte) (x : List DramRead) (e : SramErr)
    (s : State) : Res :=
  .next (if ¬ s.buf.reachable then s else s.coreStore c own addr data x e)

/-! ### Fill, re-initialisation, scrub, refresh -/

/-- A channel is re-initialised by command (R403, R425): in SelfTest and Bench only. -/
def State.reinitCommand (s : State) (c : Nat) : Except Nat State :=
  if ¬ (s.dev.state = .selfTest ∨ s.dev.state = .bench) then .error 0x08000022
  else if h : c < 24 then
    if ¬ s.chanFitted ⟨c, h⟩ then .error 0x08000022 else .ok (s.reinitChannel ⟨c, h⟩)
  else .error 0x06090030

/-- The command that a write would be refused keeps the state. -/
def okOr (s : State) : Except Nat State → State
  | .ok t => t
  | .error _ => s

def execChannelReinit (c : ChanId) (s : State) : Res := .next (okOr s (s.reinitCommand c.val))

/-- Every segment's valid bit is set: the channel is ready (R403). -/
def execChannelReinitDone (c : ChanId) (s : State) : Res :=
  .next (
    if s.buf.chans[c].state = 3 then s.updMem c.val (fun m => { m with state := 2, filled := s.segments, valid := [] })
    else s)

/-- A scrub period that has passed is followed by the next (R410, R425). -/
def State.scrubPeriod (s : State) : State :=
  if s.buf.scrubFrom + s.param 0x6000 5 * 3600000000000 ≤ s.now then s.updBuf (fun b => { b with scrubbed := [], scrubFrom := s.now }) else s

/-- The scrubber reads a code word of a ready channel, each once in a scrub period (R409, R410): corrected it is rewritten and counted,
poisoned it stays, otherwise a poison mark goes over its stored data. -/
def execBufferScrub (g : Nat) (x : DramRead) (s : State) : Res :=
  .next (
    let (ch, _, _) := s.granPlace g
    let s := s.scrubPeriod
    match s.chan? ch with
    | none => s
    | some c =>
      if c.state ≠ 2 ∨ s.bufSize ≤ 64 * g ∨ s.buf.scrubbed.contains g then s
      else
        let s := s.updBuf (fun b => { b with scrubbed := g :: b.scrubbed })
        let w := applyFlips x.flips (s.stored g)
        let s0 := if x.flips.isEmpty then s else s.storeWord g w.1 w.2
        if ¬ s.tagReads g x then (s0.memPoison g w.1).raise (56 + 4 * ch + 2)
        else
          let v := match x.other with | some o => s0.stored o | none => w
          match s0.classify g v.1 v.2 with
          | (.clean, _, _) => s0
          | (.corrected, d, k) =>
            ((s0.storeWord g d k).updMem ch (fun c => { c with corrected := sat32 c.corrected 1 })).raise (56 + 4 * ch)
          | (.poisoned, _, _) => s0
          | _ => (s0.memPoison g w.1).raise (56 + 4 * ch + 1))

/-- A channel is refreshed (R395, R489): a device over temperature, or a refresh at its maximum rate, raises its source. -/
def execGddr7Refresh (c : ChanId) (hot fastest : Bool) (s : State) : Res :=
  .next (
    if ¬ s.chanFitted c ∨ s.buf.chans[c].state = 0 ∨ s.buf.chans[c].state = 4 then s
    else
      (s.updMem c.val (fun m => { m with refreshes := sat64 m.refreshes 1 })).raiseAll
        ((if hot then [158] else []) ++ (if fastest then [159] else [])))

/-! ### Range engine (R419 to R422) -/

/-- Device states in which the range command entry may be written (R426). -/
def DevState.rangeCommands : DevState → Bool
  | .assemble | .selfTest | .bench => true
  | _ => false

/-- A range command is accepted or refused with its abort code (R419, R420, R422). -/
def State.rangeCommand (s : State) (code base length mask : Nat) : Except Nat State :=
  if s.buf.op.isSome then .error 0x08000022
  else if base % 128 ≠ 0 ∨ length = 0 ∨ length % 128 ≠ 0 ∨ s.bufSize < base + length then .error 0x06090030
  else if ¬ s.cacheOn then
    if code = 4 then .error 0x08000022 else .ok (s.updBuf (fun b => { b with result := 1 }))
  else .ok (s.updBuf (fun b => { b with op := some ⟨code, base, length, mask⟩, result := 2, skipped := if code = 4 then 0 else b.skipped }))

/-- A range command: of the entry with its operands, or the firmware's own (R422). -/
def State.rangeBy (s : State) (code : Nat) (own : Option RangeArgs) : Except Nat State :=
  match own with
  | some x => s.rangeCommand code x.base x.length x.mask
  | none =>
    if s.dev.state.rangeCommands then s.rangeCommand code (s.param 0x6100 5) (s.param 0x6100 6) (s.param 0x6100 7)
    else .error 0x08000022

def execRangeClean (own : Option RangeArgs) (s : State) : Res := .next (okOr s (s.rangeBy 1 own))
def execRangeInvalidate (own : Option RangeArgs) (s : State) : Res := .next (okOr s (s.rangeBy 2 own))
def execRangeCleanInvalidate (own : Option RangeArgs) (s : State) : Res := .next (okOr s (s.rangeBy 3 own))
def execRangeFill (own : Option RangeArgs) (s : State) : Res := .next (okOr s (s.rangeBy 4 own))

/-- A line address lies in a range operation. -/
def RangeOp.has (o : RangeOp) (l : Nat) : Bool := decide (o.base ≤ 128 * l) && decide (128 * l < o.base + o.length)

/-- Writes back the dirty granules of lines. -/
def State.cleanLines (s : State) (p : Line → Bool) : State :=
  let s1 := (s.buf.lines.filter p).foldl State.writeBack s
  s1.updBuf (fun b => { b with lines := b.lines.map (fun x => if p x then { x with dirty := 0 } else x) })

/-- Discards lines. -/
def State.discardLines (s : State) (p : Line → Bool) : State := s.updBuf (fun b => { b with lines := b.lines.filter (fun x => !p x) })

/-- A line read into the cache by Fill (R419): a granule that reads with an error stays invalid. -/
def State.fillLine (s : State) (mask l : Nat) : State × List Nat :=
  if (s.line? l).isSome then (s, [])
  else match s.allocate l mask 2 with
    | none => (s.updBuf (fun b => { b with skipped := sat32 b.skipped 1 }), [])
    | some s1 =>
      [0, 1].foldl (fun (t : State × List Nat) i =>
        let (d, s2, f) := t.1.memRead (2 * l + i) (cleanRead (2 * l + i))
        match d with
        | some v => (s2.updLine l (fun z => z.put i v false), t.2 ++ f)
        | none => (s2, t.2 ++ f)) (s1, [])

/-- What a range operation does (R419, R421): carried out whole as it ends. -/
def State.rangeEffect (s : State) (o : RangeOp) : State × List Nat :=
  let inRange := fun x : Line => o.has x.addr
  let locked := fun x : Line => s.lockMask.testBit x.way
  match o.code with
  | 1 => (s.cleanLines inRange, [])
  | 2 => ((s.cleanLines (fun x => inRange x && locked x)).discardLines inRange, [])
  | 3 => ((s.cleanLines inRange).discardLines inRange, [])
  | _ =>
    (List.range (o.length / 128)).foldl (fun (t : State × List Nat) i =>
      let (s1, f) := t.1.fillLine o.mask (o.base / 128 + i)
      (s1, t.2 ++ f)) (s, [])

/-- A range operation ends: busy clears (R421). The end of a disable's clean and invalidate leaves the cache empty and the
enable at 0; a disable asked for meanwhile starts its own pass (R423). -/
def execRangeOpDone (s : State) : Res :=
  .next (match s.buf.op with
    | none => s
    | some o =>
      if o.code = 5 then
        let s1 := (s.cleanLines (fun _ => true)).discardLines (fun _ => true)
        (s1.updBuf (fun b => { b with op := none, disabling := false, result := 1 })).setParam 0x6100 1 0
      else
        let (s1, f) := s.rangeEffect o
        (s1.updBuf (fun b =>
          { b with op := if b.disabling then some ⟨5, 0, 0, 0⟩ else none, result := if b.disabling then 2 else 1 })).raiseAll f)

/-! ### Enable and diagnostic mode -/

/-- Device states in which the enable may be written (R426). -/
def DevState.cacheEnable : DevState → Bool
  | .assemble | .quiesce | .selfTest | .bench => true
  | _ => false

/-- A write of the enable entry (R423, R424). -/
def State.writeEnable (s : State) (v : Nat) : Except Nat State :=
  if ¬ s.dev.state.cacheEnable then .error 0x08000022
  else if v = 0 then
    if ¬ s.cacheOn ∨ s.buf.disabling then .ok s
    else .ok (s.updBuf (fun b =>
      { b with disabling := true, op := if b.op.isSome then b.op else some ⟨5, 0, 0, 0⟩, result := 2 }))
  else if v = 1 then
    if s.buf.disabling then .error 0x08000022
    else if s.cacheOn then .ok s
    else .ok ((s.setParam 0x6100 1 1).discardLines (fun _ => true))
  else .error 0x06090030

def execCacheDisable (s : State) : Res := .next (okOr s (s.writeEnable 0))
def execCacheEnable (s : State) : Res := .next (okOr s (s.writeEnable 1))

/-- A write of diagnostic mode (R406). -/
def State.writeDiagnostic (s : State) (v : Nat) : Except Nat State :=
  if ¬ (s.dev.state = .selfTest ∨ s.dev.state = .bench) ∨ s.cacheOn ∨ s.buf.op.isSome then .error 0x08000022
  else if v ≤ 1 then .ok (s.setParam 0x6009 1 v)
  else .error 0x06090030

def execDiagnosticModeSet (v : Nat) (s : State) : Res := .next (okOr s (s.writeDiagnostic v))

end Sys2Proof.Machine
end

