-- ==== Sys2Proof/Machine/MoverQueue.lean ====
section
/-! DEFINITION. The queues of the data movers (R427, R428). -/

namespace Sys2Proof.Machine

/-- Changes a mover channel. -/
def State.updMover (s : State) (c : MoverId) (f : Mover → Mover) : State :=
  { s with movers := s.movers.set c.val (f s.movers[c]) c.isLt }

/-- A domain that is off is asked for: it begins to switch (R523). -/
def State.wantDomain (s : State) (d : DomainId) : State :=
  s.updDomain d (fun x => if x.state = 0 then { x with state := 1 } else x)

/-- The power domain of a mover bank (R522). -/
def moverDomain (c : MoverId) : DomainId := ⟨172 + c.val / 8, by omega⟩

/-- The bank of a channel is on. -/
def State.bankOn (s : State) (c : MoverId) : Bool := s.domains[moverDomain c].state = 2

/-- The channel that a descriptor names (R430). -/
def descChannel (d : List Byte) : MoverId := ⟨fieldAt d 0 1 % 32, by omega⟩

/-- Waiting submissions take free places of a channel's 64, in order (R427, R428). -/
def Mover.refill (m : Mover) : Mover :=
  let n := 64 - m.queue.length
  { m with queue := m.queue ++ m.waiting.take n, waiting := m.waiting.drop n }

/-- A descriptor is placed in its channel's queue; without a free place, or while its bank is off, it waits (R428). -/
def State.submitMover (s : State) (desc : List Byte) (token : Nat) : State :=
  let c := descChannel desc
  let d := padTo64 desc
  let s1 := s.updMover c (fun m => { m with waiting := m.waiting ++ [⟨d, token⟩] })
  if s.bankOn c then s1.updMover c Mover.refill else s1.wantDomain (moverDomain c)
where
  /-- A descriptor has 64 bytes. -/
  padTo64 (l : List Byte) : List Byte := l.take 64 ++ List.replicate (64 - l.length) 0

/-- The descriptor of a token has, or had, a place among its channel's 64 (R428). -/
def State.moverPlaced (s : State) (token : Nat) : Bool :=
  s.movers.all (fun m => !(((m.queue ++ m.waiting).drop 64).any (fun q => q.token == token)))

/-- An ENG whose descriptor has found its place goes on (R428). -/
def State.placeChecks (s : State) : State :=
  s.updSvc (fun v => { v with seqs := v.seqs.map (fun q => { q with ctx := q.ctx.map (fun x =>
    match x.wait with
    | .place t => if s.moverPlaced t then { x with wait := .none } else x
    | _ => x) }) })

/-- A submission by the firmware (R428). -/
def execMoverDescriptorSubmit (desc : List Byte) (s : State) : Res := .next (s.submitMover desc 0)

end Sys2Proof.Machine
end

