-- ==== Sys2Proof/Machine/Packs.lean ====
section
/-! DEFINITION. Packs as seen by the hub (R63 to R77, R90 to R102): insertion, verification of the identity memory, removal,
commands, spin-up, sensors, life record and pack log. -/

namespace Sys2Proof.Machine

/-! ### Identity memory -/

/-- A string field: printable ASCII padded with spaces (R67). Which ASCII codes a string may hold is not stated: 0x20 to 0x7E (DESIGN CHOICE:
log entry 104). -/
def asciiSpan (l : List Byte) (off n : Nat) : Bool := ((l.drop off).take n).all (fun b => 0x20 ≤ b.toNat && b.toNat < 0x7F)

/-- The fields of an identity block (R67). -/
def parseIdentity (l : List Byte) : Identity :=
  { modelCode := fieldAt l 0x28 4, serial := fieldAt l 0x2C 20, uniqueId := fieldAt l 0x40 8, made := fieldAt l 0x48 4,
    zones := fieldAt l 0x52 1, microWindow := fieldAt l 0x53 1, speed0 := fieldAt l 0x54 2, speed1 := fieldAt l 0x56 2,
    capacity := fieldAt l 0x58 4, maxWriteWidth := fieldAt l 0x5C 1, preampModel := fieldAt l 0x5D 1,
    loadLimit := fieldAt l 0x60 4, spindleLimit := fieldAt l 0x64 4, writeLimit := fieldAt l 0x68 4,
    strokeLimit := fieldAt l 0x6C 4, mediaLimit := fieldAt l 0x70 4, maxTemp := signedNat 8 (fieldAt l 0x74 1),
    minTemp := signedNat 8 (fieldAt l 0x75 1), heliumWarn := fieldAt l 0x76 1, heliumFail := fieldAt l 0x77 1 }

/-- Fields in the ranges of R67, limits nonzero, reserved bytes zero (R68). -/
def identityOk (l : List Byte) : Bool :=
  let i := parseIdentity l
  areaOk l 256 && fieldAt l 0 4 == 0x4B50564F && fieldAt l 4 2 == 1 && fieldAt l 6 2 == 256
    && asciiSpan l 0x08 32 && asciiSpan l 0x2C 20 && i.uniqueId != 0
    && fieldAt l 0x4C 4 == 0x10021008 && fieldAt l 0x50 2 == 512
    && decide (1 ≤ i.zones ∧ i.zones ≤ 64) && decide (1 ≤ i.microWindow ∧ i.microWindow ≤ 24)
    && (i.speed0 == 10000 || i.speed0 == 7200) && (i.speed1 == 0 || i.speed1 == 10000 || i.speed1 == 7200)
    && i.speed1 != i.speed0 && decide (1 ≤ i.maxWriteWidth ∧ i.maxWriteWidth ≤ 16) && zeroSpan l 0x5E 2
    && i.loadLimit != 0 && i.spindleLimit != 0 && i.writeLimit != 0 && i.strokeLimit != 0 && i.mediaLimit != 0
    && decide (i.heliumFail < i.heliumWarn) && zeroSpan l 0x78 132

/-- The other factory areas: CRCs, and zero wherever R69 names nothing (R68). -/
def factoryOk (m : PackMem) (i : Identity) : Bool :=
  areaOk m.geometry 1024 && areaOk m.servo 2048 && areaOk m.locator 256
    && (List.range 16).all (fun s => zeroSpan m.geometry (64 * s + 16) (if s = 15 then 44 else 48))
    && zeroSpan m.servo 6 2 && zeroSpan m.servo 0x4C (2044 - 0x4C) && fieldAt m.servo 0 4 < 2 ^ 28
    && fieldAt m.locator 0 4 < 2 ^ 24 && fieldAt m.locator 4 4 < 2 ^ 24
    && zeroSpan m.locator 0x0A 6 && zeroSpan m.locator 0x70 (252 - 0x70)
    && (i.speed1 != 0 || zeroSpan m.locator 0x40 48)

/-- The factory areas' fields (R69). -/
def parseFactory (m : PackMem) : Factory :=
  { surfaces := (List.range 16).map (fun s =>
      { tracks := fieldAt m.geometry (64 * s) 4, firstData := fieldAt m.geometry (64 * s + 4) 4,
        lastData := fieldAt m.geometry (64 * s + 8) 4, reference := fieldAt m.geometry (64 * s + 12) 4 }),
    nominalOffset := fieldAt m.servo 0 4, minRevision := fieldAt m.servo 4 2,
    maTrims := (List.range 32).map (fun i => i16At m.servo (8 + 2 * i)),
    vcmTrims := (List.range 2).map (fun a => i16At m.servo (0x48 + 2 * a)),
    location0 := fieldAt m.locator 0 4, location1 := fieldAt m.locator 4 4, tableSectors := fieldAt m.locator 8 2,
    digest0 := fieldAt m.locator 0x10 48, digest1 := fieldAt m.locator 0x40 48 }

/-- A key index names a usable key for a purpose: present in the list with its usage bit, not revoked there nor by fuse
(R534). -/
def State.keyUsable (s : State) (index usage : Nat) : Bool :=
  s.window.keys.any (fun k => k.index == index && k.usage.testBit usage && !k.revoked) && !s.fuses.keyRevoked.testBit index

/-- The classes of R71. -/
inductive PackClass where
  | genuine | unsigned | counterfeit
  deriving DecidableEq, Repr

/-- The bytes that a pack's digest covers: 0x0000 to 0x00FF, then 0x0300 to 0x0FFF (R70). -/
def packSignedBytes (m : PackMem) : List Byte := m.identity ++ m.geometry ++ m.servo ++ m.locator

/-- The class of a pack (R71), from the fields of its signature block (R70). -/
def State.packClass (s : State) (m : PackMem) : PackClass :=
  let l := m.signature
  if allBytes 0xFF l || allBytes 0 l then .unsigned
  else if areaOk l 512 && fieldAt l 0 2 == 1 && zeroSpan l 0x94 360 && (sha384 (packSignedBytes m)).toNat == fieldAt l 4 48
      && s.keyUsable (fieldAt l 2 2) 0 && Config.packSigned (fieldAt l 2 2) (fieldAt l 4 48) ((l.drop 0x34).take 96) then .genuine
  else .counterfeit

/-- The policy accepts the class (R72). -/
def policyAccepts (policy : Nat) : PackClass → Bool
  | .genuine => true
  | .unsigned => 1 ≤ policy
  | .counterfeit => 2 ≤ policy

/-- A copy of the life record is valid (R76). -/
def lifeOk (l : List Byte) : Bool :=
  areaOk l 1024 && fieldAt l 4 2 == 1 && fieldAt l 6 2 == 1024 && fieldAt l 0x14 4 < 8 && zeroSpan l 0x18 8
    && zeroSpan l 0x220 476

/-- The counters of a life record (R73). -/
def parseLife (l : List Byte) (newer : Nat) : Life :=
  { sequence := fieldAt l 0 4, loads := #v[fieldAt l 8 4, fieldAt l 12 4], spindleSec := fieldAt l 16 4,
    worn := (fieldAt l 0x14 4).testBit 0, spent := (fieldAt l 0x14 4).testBit 1, retired := (fieldAt l 0x14 4).testBit 2,
    heads := Vector.ofFn (fun i : Fin 32 =>
      { bytes := fieldAt l (0x20 + 16 * i.val) 8, strokes := fieldAt l (0x28 + 16 * i.val) 4,
        mediaSec := fieldAt l (0x2C + 16 * i.val) 4 }),
    newer := newer }

/-- The life record taken at verification (R76): the valid copy with the later sequence, a fresh record on a new pack whose
first write succeeds, or none. The flag says that a record was written. -/
def chooseLife (m : PackMem) : Option (Life × Bool) :=
  let a := lifeOk m.life0
  let b := lifeOk m.life1
  if a && b then
    (if laterMod 32 (fieldAt m.life1 0 4) (fieldAt m.life0 0 4) then some (parseLife m.life1 1, false)
     else some (parseLife m.life0 0, false))
  else if a then some (parseLife m.life0 0, false)
  else if b then some (parseLife m.life1 1, false)
  else if allBytes 0xFF m.life0 && allBytes 0xFF m.life1 && m.lifeWritten then some ({ sequence := 1, newer := 0 }, true)
  else none

/-- The bytes of the pack log's header (R101). -/
def PackLog.header (g : PackLog) : List Byte :=
  let b := natBytes 4 0x474C564F ++ natBytes 2 g.next ++ natBytes 2 0 ++ natBytes 4 g.wraps ++ natBytes 4 g.dropped ++ natBytes 44 0
  b ++ natBytes 4 (crc32c b)

/-- A pack log's header in order: magic, slot, CRC, and zero in every reserved byte (R14, R101). -/
def logHeaderOk (l : List Byte) : Bool :=
  areaOk l 64 && fieldAt l 0 4 == 0x474C564F && decide (fieldAt l 4 2 ≤ 894) && zeroSpan l 6 2 && zeroSpan l 0x10 44

/-- A pack log whose header reads as all 0xFF is initialised at the first Verified: its header is written with every count at zero (R101). -/
def State.startLog (s : State) (p : PackId) : State :=
  if s.packs[p].log.ready then s
  else (s.updPack p (fun k => { k with log := { k.log with next := 0, wraps := 0, ready := true } })).send
    (.i2cWrite p.val 0x2000 ({} : PackLog).header)

/-- The pack log's header as read: a blank one awaits R101's initialisation, otherwise its fields; what a damaged header means is not
stated, so its fields are then free values (R101, assumption 19). -/
def State.readLog (s : State) (p : PackId) (l : List Byte) : State :=
  let put := fun (s : State) (n w d : Nat) =>
    s.updPack p (fun k => { k with log := { k.log with next := n, wraps := w, dropped := sat32 d k.log.dropped, ready := true } })
  if allBytes 0xFF l then s
  else if logHeaderOk l then
    put s (fieldAt l 4 2) (fieldAt l 8 4) (fieldAt l 12 4)
  else
    let (n, s1) := s.takeFree
    let (w, s2) := s1.takeFree
    let (d, s3) := s2.takeFree
    put s3 (n % 895) (w % 2 ^ 32) (d % 2 ^ 32)

/-! ### Insertion and removal -/

/-- A filtered assertion of PACK_PRES (R90, R93): the pack is Present and the settle timer starts, or starts again. -/
def State.presAssert (s : State) (p : PackId) : State :=
  if ¬ s.packFitted p then s
  else if s.packs[p].state = .absent then
    (s.setPackState p .present).updPack p (fun k => { k with settling := true })
  else s

/-- A slot without its pack (R94): what belonged to the pack is gone; the counters of the slot stay, and so do what bars an arm until chip
reset (R262, R265) and the lanes' quality status, which the next load assesses anew (R165). -/
def Pack.emptied (k : Pack) : Pack :=
  { k with
    cause := 0, identity := none, factory := none, block := none, lifeRead := false, unsignedFlag := false, counterfeit := false, removable := false,
    removalDue := false, settling := false, life := {}, log := {}, i2c := {}, sensors := {},
    tb := { k.tb.freeRun with state := .stopped, revPeriod := 0, lossTimes := [], remeasure := Vector.replicate 2 false },
    media := { k.media with zoneCopy := 255, zones := none, defects := [], listSeq := 0, bands := [], suspects := [] },
    spindle := { k.spindle.off with speed := 0, attempts := 0, spinningUp := false },
    arms := k.arms.map (fun x =>
      { x.mapLanes (fun l =>
          let y := l.powerOff
          { y with skew := 0, time := .notMeasured, chan := { y.chan with cache := [], store := [], ends := [], wbuf := [], noMoreWrites := false } }) with
        laneGroup := false, synth := 0, synthWant := 0,
        link := { x.link with state := .down, unechoed := [], attempts := 0, status := [], regResp := [] },
        servo := { x.servo.clearLoop with
          mode := if x.servo.mode = .out then .out else .unloaded, stage := .none, coef := [], target := 0, seekLanes := 0, sitOut := 0,
          outLink := false, reloadPending := false, justLoaded := false,
          angleOffset := 0, setPoint := 0, duty := 0, legs := Vector.replicate 2 {}, order := none, known := false,
          galeStage := .off, galeLeft := 0, armedSent := 0, armedEchoed := 0, microEnabled := 0, readEnabled := 0,
          noSetPoint := 0, galeHard := false, galeOut := false, galeMiscompare := false } }) }

/-- PACK_PRES deasserts (R94): bridges off, open sectors torn, routines ended with 0x19, the pack Absent and lost to its
span, and its faults leave fault state (R492); the records about it carry its flags of R72. -/
def State.presDeassert (s : State) (p : PackId) : State :=
  if s.packs[p].state = .absent then s.updPack p (fun k => { k with removable := false, removalDue := false })
  else
    let s1 := (s.idleWrites p 0).idleWrites p 1
    let s2 := (s1.endRoutine p 0 0x19).endRoutine p 1 0x19
    let s3 := [(0 : ArmId), 1].foldl (fun s a =>
      let f := (s.arm p a).fmt
      (f.queue ++ f.linkHeld).foldl (fun s r => s.refuseRequest p a r 0x19) (s.updFmt p a (fun f => { f with queue := [], linkHeld := [] }))) s2
    let s4 := ((s3.releaseSpin p).setPackState p .absent).leaveFaults ((List.range 5).map (fun k => 232 + 5 * p.val + k)) 4
    let s5 := [(0 : ArmId), 1].foldl (fun (s : State) a => s.updDomain (armDomain p a) (fun d => { d with state := 0 })) (s4.updPack p Pack.emptied)
    (s5.send (.packLost p.val)).admissionPass

/-- A filtered assertion of PACK_PRES. -/
def execPackPresAssert (p : PackId) (s : State) : Res :=
  .next ({ s with inputs := { s.inputs with pres := s.inputs.pres.set p.val { s.inputs.pres[p] with filtered := true, conditioned := true } p.isLt } }.presAssert p)

/-- A filtered deassertion of PACK_PRES. -/
def execPackPresDeassert (p : PackId) (s : State) : Res :=
  .next ({ s with inputs := { s.inputs with pres := s.inputs.pres.set p.val { s.inputs.pres[p] with filtered := false, conditioned := false } p.isLt } }.presDeassert p)

/-- The identity memory answered, after at most three retries (R64). -/
def memReadable (m : PackMem) : Bool := decide (m.failures ≤ 3)

/-- The identity block passes R68, apart from the other factory areas. -/
def State.blockOk (s : State) (m : PackMem) : Bool := identityOk m.identity && (s.modelSet (parseIdentity m.identity).modelCode).isSome

/-- The verdict of the verification of a pack: a Failed cause, or what was read (R90, R92). When several checks fail the cause is that of
the first in the order 14, 8, 1, 2, 3, 5, 0 (DESIGN CHOICE: log entry 106). -/
def State.verifyPack (s : State) (p : PackId) (m : PackMem) : Except Nat (Identity × PackClass × Life × Bool) :=
  let i := parseIdentity m.identity
  let c := s.packClass m
  if s.tiles[tileOf p].servoOut then .error 14
  else if ¬ s.tiles[tileOf p].linkUp then .error 8
  else if ¬ memReadable m then .error 1
  else if ¬ (s.blockOk m && factoryOk m i) then .error 2
  else if ¬ policyAccepts (s.param 0x7410 1) c then .error 3
  else match chooseLife m with
    | none => .error 5
    | some (l, w) => if s.packs[p].removable then .error 0 else .ok (i, c, l, w)

/-- What the controller keeps of an identity memory that answered, whether or not the pack is accepted: the block of R68 for its limits, a
life record that stands, and the place of the pack log (R75, R76, R100 to R102). Each retry frees the bus first (R64). -/
def State.takeMemory (s : State) (p : PackId) (m : PackMem) : State :=
  let s1 := (List.range (min m.failures 3)).foldl (fun (s : State) _ => s.send (.i2cRecover p.val)) s
  if ¬ memReadable m then s1
  else
    let life := match chooseLife m with | some (l, false) => some l | _ => none
    (s1.updPack p (fun k =>
      { k with block := if s.blockOk m then some (parseIdentity m.identity) else none, lifeRead := life.isSome, life := life.getD {} })).readLog p
      m.logHeader

/-- The settle timer ends (R68 to R77, R90, R93): the controller reads the identity memory and decides. A pack stays Present
until a cluster runs, and in Zephyr; one that has failed while the timer ran is only read. The class is a flag of the pack from Verified on
(R72; of a pack that then fails another check DESIGN CHOICE: log entry 144). -/
def execPackSettleDone (p : PackId) (m : PackMem) (s : State) : Res :=
  .next (
    if ¬ s.packs[p].settling ∨ s.clusters.active.isNone ∨ s.dev.state = .zephyr then s
    else
      let s0 := (s.updPack p (fun k => { k with settling := false, i2c := { k.i2c with identity := 0 } })).takeMemory p m
      if s.packs[p].state ≠ .present then s0
      else match s0.verifyPack p m with
      | .error c => (s0.packFail p c).kickPack p
      | .ok (i, c, l, fresh) =>
        let s1 := s0.updPack p (fun k =>
          { k with identity := some i, factory := some (parseFactory m), life := l, lifeRead := true,
                   unsignedFlag := c = .unsigned, counterfeit := c = .counterfeit })
        let s2 := if fresh then s1.send (.i2cWrite p.val (lifeCopy 0) (lifeBytes l)) else s1
        if l.retired then s2.setPackState p .retired
        else if l.spent then (s2.setPackState p .spent).noteEmpty
        else (s2.setPackState p .verified).startLog p)

/-! ### I2C -/

/-- Retries made of a device's transaction: 0 identity memory, 1 temperature, 2 helium. -/
def I2c.get (x : I2c) (d : Fin 3) : Nat := if d = 0 then x.identity else if d = 1 then x.temperature else x.helium

/-- Sets the retries of a device's transaction. -/
def I2c.set (x : I2c) (d : Fin 3) (n : Nat) : I2c :=
  if d = 0 then { x with identity := n } else if d = 1 then { x with temperature := n } else { x with helium := n }

/-- A transaction that was not acknowledged or stalled is tried again 10 ms later, after nine SCL pulses and a STOP, up to
three times; then it has failed (R64). -/
def execI2cRetry (p : PackId) (dev : Fin 3) (s : State) : Res :=
  .next (
    if s.packs[p].state = .absent ∨ (s.packs[p].settling ∧ dev = 0) then s
    else
      let n := s.packs[p].i2c.get dev
      if n < 3 then (s.updPack p (fun k => { k with i2c := k.i2c.set dev (n + 1) })).send (.i2cRecover p.val)
      else s.updPack p (fun k => { k with i2c := k.i2c.set dev 0 }))

/-- Every 10 minutes while the spindle turns the life counters are written (R75); `readBack` says that the copy read back
matched. -/
def execLifeRecordWrite (p : PackId) (readBack : Bool) (s : State) : Res :=
  .next (if s.packs[p].spindle.turning then s.writeLife p readBack else s)

/-! ### Commands -/

/-- Device states in which the pack command entry may be written (R103). -/
def DevState.packCommands : DevState → Bool
  | .assemble | .opened | .quiesce | .bench => true
  | _ => false

/-- The pack command entry (R95): an SDO abort code, or the state after the command. -/
def State.packCommand (s : State) (p : PackId) (v : Nat) : Except Nat State :=
  let k := s.packs[p]
  let member := s.inSpan p
  if ¬ s.dev.state.packCommands then .error 0x08000022
  else if v = 1 then
    if k.state = .ready ∧ member then .ok ((s.setPackState p .draining).noteEmpty) else .error 0x08000022
  else if v = 2 then
    if k.state = .draining then .ok (s.setPackState p .ready) else .error 0x08000022
  else if v = 3 then
    if k.state = .failed ∨ ((k.state = .ready ∨ k.state = .verified) ∧ ¬ member) then .ok (s.retirePack p) else .error 0x08000022
  else if v = 4 then
    if k.state = .present ∨ k.state = .verified ∨ k.state = .failed ∨ k.state = .retired ∨ (k.state = .ready ∧ ¬ member) then
      let s1 := s.updPack p (fun k => { k with removalDue := true })
      let s2 := if k.state = .ready then s1.packToVerified p else (s1.parkPack p).updSpin p Spindle.stop
      let s3 := ((s2.releaseSpin p).kickPack p).admissionPass
      .ok (if s3.packs[p].spindle.state = .off then s3.checkRemoval p else s3)
    else .error 0x08000022
  else .error 0x06090030

/-- A pack command that is refused changes nothing. -/
def State.tryPackCommand (s : State) (p : PackId) (v : Nat) : State :=
  match s.packCommand p v with
  | .ok t => t
  | .error _ => s

/-- Pack command 1 (R95): Drain. -/
def execPackCmdDrain (p : PackId) (s : State) : Res := .next (s.tryPackCommand p 1)
/-- Pack command 2 (R95): Cancel drain. -/
def execPackCmdCancelDrain (p : PackId) (s : State) : Res := .next (s.tryPackCommand p 2)
/-- Pack command 3 (R95): Retire. -/
def execPackCmdRetire (p : PackId) (s : State) : Res := .next (s.tryPackCommand p 3)
/-- Pack command 4 (R95): Prepare removal. -/
def execPackCmdPrepareRemoval (p : PackId) (s : State) : Res := .next (s.tryPackCommand p 4)

/-! ### Spin-up -/

/-- A pack that meets the conditions requests spin-up; an admission pass follows (R97 to R99). -/
def execSpinupRequest (p : PackId) (s : State) : Res :=
  .next (
    if s.spinWanted p ∧ s.spinNeeded p ∧ ¬ s.spinQueue.contains p ∧ ¬ s.packs[p].spindle.spinningUp then
      { s with spinQueue := s.spinQueue ++ [p] }.admissionPass
    else s)

/-- The spin-up timeout runs out on a pack outside its speed window (R90). A Spinning pack fails; no row of R90 names a Draining or Spent pack
that spins up (R89): it keeps its state, and its spin-up is withdrawn, which releases its grant (DESIGN CHOICE: log entry 105). -/
def execSpinupTimeout (p : PackId) (s : State) : Res :=
  .next (
    let k := s.packs[p]
    if k.spindle.inWindow then s
    else if k.state = .spinning then (s.packFail p 6).kickPack p
    else if (k.state = .draining ∨ k.state = .spent) ∧ k.spindle.spinningUp then (s.releaseSpin p).admissionPass
    else s)

/-! ### Sensors -/

/-- The over-temperature hold is set: the pack leaves Spinning, Loaded or Ready (R90, R100). -/
def State.setHold (s : State) (p : PackId) : State :=
  if s.packs[p].sensors.hold then s
  else
    let s1 := (s.updPack p (fun k => { k with sensors := { k.sensors with hold := true } })).packWarning p 3
    if s.packs[p].state = .spinning ∨ s.packs[p].state = .loaded ∨ s.packs[p].state = .ready then
      ((s1.packToVerified p).kickPack p).admissionPass
    else s1

/-- The actions of R100 on a reading: `temp` in 1/256 °C and `helium` in percent, none where the sensor does not answer. -/
def State.actOnSensors (s : State) (p : PackId) (i : Identity) (temp : Option Int) (helium : Option Nat) : State :=
  let x := s.packs[p].sensors
  let hot : Bool := match temp with | some t => decide (i.maxTemp * 256 < t) | none => false
  let cool : Bool := match temp, helium with | some t, some _ => decide (t ≤ (i.maxTemp - 5) * 256) | _, _ => false
  let blind := x.tempBad = 10 ∨ x.heliumBad = 10
  let s1 := if hot then s.setHold p else s
  let s2 := if cool ∧ s1.packs[p].sensors.hold then
      (s1.updPack p (fun k => { k with sensors := { k.sensors with hold := false } })).packWarning p 4 else s1
  let s3 := match temp with
    | some t => s2.updPack p (fun k => { k with sensors := { k.sensors with
        cold := decide (t < i.minTemp * 256) || (k.sensors.cold && decide (t = i.minTemp * 256)) } })
    | none => s2
  let s4 := match helium with
    | some v =>
      if v < i.heliumWarn ∧ ¬ x.heliumWarn then
        (s3.updPack p (fun k => { k with sensors := { k.sensors with heliumWarn := true } })).packWarning p 2
      else s3
    | none => s3
  let s5 := if blind then (s4.setHold p).raisePack p 2 else s4
  match helium with
  | some v => if v < i.heliumFail then (s5.packFail p 10).kickPack p else s5
  | none => s5

/-- A reading of the two sensors (R100); the temperature is kept as the INTEGER8 of P+0x05.01, at its limit beyond it
(DESIGN CHOICE: log entry 145). -/
def Sensors.take (x : Sensors) (temp : Option Int) (helium : Option Nat) : Sensors :=
  { x with
    temp := match temp with | some t => max (-128) (min 127 (roundDiv t 256)) | none => x.temp,
    helium := match helium with | some v => v | none => x.helium,
    tempBad := if temp.isSome then 0 else min (x.tempBad + 1) 11,
    heliumBad := if helium.isSome then 0 else min (x.heliumBad + 1) 11 }

/-- Every 1 s the sensors of a seated pack are read (R100). -/
def execPackSensorPoll (p : PackId) (temp : Option Int) (helium : Option Nat) (s : State) : Res :=
  .next (
    let k := s.packs[p]
    if k.state = .absent ∨ s.dev.state = .off ∨ s.dev.state = .zephyr then s
    else
      let s1 := s.updPack p (fun k => { k with sensors := k.sensors.take temp helium, i2c := { k.i2c with temperature := 0, helium := 0 } })
      match k.block with
      | some i => s1.actOnSensors p i temp helium
      | none => s1)

/-! ### Pack log -/

/-- The 64 bytes of an event record (R552). -/
def EvRec.bytes (r : EvRec) : List Byte :=
  let b := natBytes 4 r.seq ++ natBytes 4 r.opSec ++ natBytes 4 r.power ++ natBytes 4 r.subsec ++ natBytes 1 r.type
    ++ natBytes 1 r.flags ++ natBytes 2 r.source ++ natBytes 2 r.code ++ natBytes 2 r.repeats ++ natBytes 1 r.pack
    ++ natBytes 1 r.lane ++ natBytes 2 r.subject ++ natBytes 1 r.devState ++ natBytes 1 r.active ++ natBytes 2 0
    ++ natBytes 4 r.serial ++ natBytes 24 r.detail
  b ++ natBytes 4 (crc32c b)

/-- Stores a record in a slot of the log. -/
def PackLog.put (g : PackLog) (slot : Nat) (r : EvRec) : PackLog :=
  { g with slots := g.slots.filter (fun x => x.1 ≠ slot) ++ [(slot, r)] }

/-- The slot before Next slot, which holds the newest record. -/
def PackLog.lastSlot (g : PackLog) : Nat := if g.next = 0 then 894 else g.next - 1

/-- The newest record goes to its slot: Next slot advances, at 894 back to 0 with the wrap count incremented, which stays at its maximum
(DESIGN CHOICE: log entry 107). A rewrite that the record before still awaits stays due, unless its slot is the one overwritten (R102). -/
def PackLog.push (g : PackLog) (r : EvRec) (rest : List EvRec) (now : Nat) : PackLog :=
  let old := match g.newest with
    | some x => if g.stale then [(g.lastSlot, x, g.rewrittenAt)] else []
    | none => []
  { g.put g.next r with
    next := if g.next = 894 then 0 else g.next + 1, wraps := if g.next = 894 then sat32 g.wraps 1 else g.wraps, waiting := rest,
    newest := some r, rewrittenAt := now, stale := false, due := (g.due ++ old).filter (fun x => x.1 ≠ g.next) }

/-- The oldest waiting record is copied to the next slot; once it has read back (`readBack`) the header follows with Next
slot advanced (R102). -/
def execPackLogWrite (p : PackId) (readBack : Bool) (s : State) : Res :=
  .next (
    let g := s.packs[p].log
    match g.waiting with
    | [] => s
    | r :: rest =>
      if s.packs[p].state = .absent ∨ ¬ g.ready then s
      else
        let s1 := (s.send (.i2cWrite p.val (0x2040 + 64 * g.next) r.bytes)).updPack p (fun k => { k with i2c := { k.i2c with identity := 0 } })
        if ¬ readBack then s1
        else
          let g1 := g.push r rest s.now
          (s1.updPack p (fun k => { k with log := g1 })).send (.i2cWrite p.val 0x2000 g1.header))

/-- A slot whose record was last written at `t` may be rewritten: at most once per 60 s (R102). -/
def rewriteDue (now t : Nat) : Bool := decide (t + 60 * 10 ^ 9 ≤ now)

/-- A slot is rewritten with its changed repeat count, at most once per 60 s (R102): the newest, or one that was the newest when it changed. -/
def execPackLogRepeatRewrite (p : PackId) (s : State) : Res :=
  .next (
    let g := s.packs[p].log
    let write := fun (slot : Nat) (r : EvRec) (h : PackLog) =>
      (s.updPack p (fun k => { k with log := h.put slot r, i2c := { k.i2c with identity := 0 } })).send (.i2cWrite p.val (0x2040 + 64 * slot) r.bytes)
    match g.due with
    | x :: rest => if rewriteDue s.now x.2.2 then write x.1 x.2.1 { g with due := rest } else s
    | [] => match g.newest with
      | none => s
      | some r => if g.stale ∧ rewriteDue s.now g.rewrittenAt then write g.lastSlot r { g with stale := false, rewrittenAt := s.now } else s)

end Sys2Proof.Machine
end

