-- ==== Sys2Proof/Machine/PowerOps.lean ====
section
/-! DEFINITION. Rails and power domains, the entries to Lee, the chip reset, and a start of the hub (R494, R517 to R525, R527, R539,
R549). -/

namespace Sys2Proof.Machine

/-! ### Rails (R517, R518) -/

/-- Changes a rail. -/
def State.updRail (s : State) (r : RailId) (f : Rail → Rail) : State :=
  { s with rails := s.rails.set r.val (f s.rails[r]) r.isLt }

/-- RAIL_EN[r] is asserted (R518). -/
def State.enableRail (s : State) (r : RailId) : State :=
  (s.updRail r (fun x => { x with enable := true, state := 1 })).send (.rail r.val true)

/-- RAIL_EN[r] is deasserted; the regulator's readings are unknown (R518, R550). Without VDD_IO33, rail 0, no motor gate is driven (R519). -/
def State.disableRail (s : State) (r : RailId) : State :=
  if s.rails[r].enable then
    let s1 := (s.updRail r (fun _ => {})).send (.rail r.val false)
    if r = 0 then s1.gatesOff else s1
  else s

/-- Every domain is off (R522): lanes and arm synthesizers stop with their lane groups, port links with their ports (R26, R161). -/
def State.domainsOff (s : State) : State :=
  { s with
    domains := s.domains.map (fun d => { d with state := 0 }),
    host := { s.host with ports := s.host.ports.map (fun x => { x with link := Vector.replicate 4 .down }) },
    packs := s.packs.map (fun k => { k with arms := k.arms.map (fun x =>
      { x.mapLanes Lane.powerOff with laneGroup := false, synth := 0, synthWant := 0 }) }) }

/-- Every enabled rail is disabled, in descending order (R518). -/
def State.railsOff (s : State) : State :=
  ((List.finRange 8).reverse.foldl State.disableRail s).domainsOff

/-- Rails 2 to 7, which feed the hub and the tiles, are good. -/
def State.coreOn (s : State) : Bool := (s.rails.toList.drop 2).all (fun x => x.state == 2)

/-! ### Power domains (R4, R522) -/

/-- A domain belongs to a fitted item (R4). -/
def State.domainFitted (s : State) (d : Nat) : Bool :=
  let t := partTiles s.part
  if d < 64 then d < 8 * t
  else if d < 96 then d - 64 < 4 * t
  else if d < 120 then d - 96 < 3 * t
  else if d < 136 then d - 120 < 2 * t
  else if d = 177 then 4 < t
  else true

/-- Requests outstanding at an engine (R219). -/
def State.engineLoad (s : State) (engine : Nat) : Nat := (s.svc.tokens.filter (fun t => t.engine = engine ∧ t.state = 0)).length

/-- A slice of the erasure or crypto engine (R522): slice 0 from Assemble, the others while the engine's queue needs them. -/
def State.sliceWanted (s : State) (engine i : Nat) : Bool :=
  if i = 0 then (match s.dev.state with | .assemble | .opened | .quiesce | .bench => true | _ => false)
  else decide (i < s.engineLoad engine)

/-- The slice of a domain is needed (R522): the erasure engine's, then the crypto engine's. -/
def State.sliceNeeded (s : State) (d : Nat) : Bool := if d < 164 then s.sliceWanted 1 (d - 160) else s.sliceWanted 2 (d - 164)

/-- A sub-port of the port has an address (R522). -/
def State.portAddressed (s : State) (q : Nat) : Bool := (List.range 16).any (fun i => s.param (0x6503 + q * 0x10) (i + 1) != 0)

/-- The condition under which a domain is on (R522): a slice beyond the first stays on until it has been idle for 1 ms. -/
def State.domainWanted (s : State) (d : Nat) : Bool :=
  if ¬ s.domainFitted d ∨ ¬ s.coreOn then false
  else if h : d < 64 then s.packs[d / 2].arms[d % 2].laneGroup
  else if h : d < 96 then s.packs[d - 64].state ≠ .absent
  else if h : d < 120 then s.buf.chans[d - 96].state ≠ 4
  else if d < 136 then s.dev.state.running && s.portAddressed (d - 120)
  else if d < 152 then s.cacheOn || s.buf.op.isSome
  else if d < 160 then s.dev.state ≠ .lee
  else if h : d < 168 then s.sliceNeeded d || (d % 4 != 0 && s.domains[d].state == 2)
  else if d < 170 then true
  else if d = 170 then s.clusters.unit[0].role ≠ .off
  else if d = 171 then s.clusters.unit[1].role ≠ .off
  else if d < 176 then
    (s.movers.toList.drop (8 * (d - 172))).take 8 |>.any (fun m => !m.queue.isEmpty || !m.waiting.isEmpty || !m.running.isEmpty)
  else true

/-- What 0x7040 reads of a domain (R550): 0 off, 1 switching, 2 on, 3 not fitted. -/
def State.domainCode (s : State) (d : DomainId) : Nat :=
  if ¬ s.domainFitted d.val then 3 else if ¬ s.domainWanted d.val then 0 else if s.domains[d].state = 2 then 2 else 1

/-- A host port whose domain is on or switching (R26, R522). -/
def State.portOn (s : State) (q : PortId) : Bool := s.domainWanted (120 + q.val)

/-- Domains no longer wanted go off; those wanted and off begin to switch (R522, R523). A port whose domain goes off loses its link
(R26). -/
def State.refreshDomains (s : State) : State :=
  { s with
    host := { s.host with ports := Vector.ofFn (fun q : PortId =>
      let x := s.host.ports[q]
      if s.portOn q then x else { x with link := Vector.replicate 4 .down }) },
    domains := Vector.ofFn (fun d : Fin 178 =>
      let x := s.domains[d]
      if ¬ s.domainWanted d.val then { x with state := 0 } else if x.state = 0 then { x with state := 1 } else x) }

/-! ### Lee (R525, R539) -/

/-- Packs leave their states as the device leaves the states that spin them: arms unloaded, spindles stopped (R90, R287). -/
def State.packsToLee (s : State) : State :=
  (List.finRange 32).foldl (fun s p =>
    match s.packs[p].state with
    | .spinning | .loaded | .ready => s.packToVerified p
    | _ => (s.parkPack p).updSpin p Spindle.stop) s

/-- What belongs to a state that is left is over: commands, pending moves, the orderly close, the tests (R525, R526, R540). A loss of
supply stays declared: its rails still go off (R520). -/
def Device.settled (d : Device) : Device :=
  { d with commandBusy := false, pendingLee := none, closeStep := 0, testsEnded := false, powerDown := false,
           zephyrEntry := false, latchedWake := 0 }

/-- The values that the overlays of a mask set, in ascending slot order, the higher slot standing (R476). -/
def State.overlayValues (s : State) (mask : Nat) : List (Nat × Nat) :=
  (List.finRange 16).foldl (fun l n =>
    if mask.testBit n.val then s.layers.overlays[n].sets.foldl (fun l x => putVal x.1 x.2 (x.2 + 1) l) l else l) []

/-- A per-arm element of P+0x09 or a per-lane one of Bench has a new value: its arm applies it at a wedge boundary (R18, R484). -/
def State.widthDue (s : State) (key : Nat) : State :=
  let idx := key / 256
  let sub := key % 256
  if h : 0x4000 ≤ idx ∧ idx < 0x5000 then
    if idx % 0x80 = 0x09 ∧ 1 ≤ sub ∧ sub ≤ 4 then
      s.updFmt ⟨(idx - 0x4000) / 0x80, by omega⟩ (if sub % 2 = 1 then 0 else 1) (fun f => { f with writesDue := true })
    else s
  else if h : 0xF200 ≤ idx ∧ idx < 0xF300 ∧ idx % 8 < 3 ∧ 1 ≤ sub ∧ sub ≤ 32 then
    s.updFmt ⟨(idx - 0xF200) / 8, by omega⟩ (if sub ≤ 16 then 0 else 1) (fun f => { f with writesDue := true })
  else s

/-- Every entry that an overlay leaving the mask set returns to its base-layer value, and every entry of the new mask takes its
overlay value (R477 step 3). -/
def State.applyMask (s : State) (mask : Nat) : State :=
  let back := s.dict.beneath.foldl (fun (s : State) x => s.setParam (x.1 / 256) (x.1 % 256) x.2) { s with dict := { s.dict with beneath := [] } }
  let vals := back.overlayValues mask
  let under := vals.map (fun x => (x.1, back.param (x.1 / 256) (x.1 % 256)))
  let on := vals.foldl (fun (s : State) x => s.setParam (x.1 / 256) (x.1 % 256) x.2) back
  (s.dict.beneath ++ vals).foldl (fun (s : State) x => s.widthDue x.1)
    { on with dict := { on.dict with beneath := under }, layers := { on.layers with mask := mask } }

/-- Leaving Bench (R478, R483, R512): overlay 3 ends without a quiet point, the entries of R483 and R484 return to their defaults, and
no injection is armed. -/
def State.leaveBench (s : State) : State :=
  let s1 := if s.layers.mask.testBit 3 then s.applyMask (s.layers.mask - 8) else s
  let gone := s1.dict.vals.filter (fun x => decide (0xF20000 ≤ x.1))
  gone.foldl (fun (s : State) x => s.widthDue x.1)
  { s1 with dict := { s1.dict with vals := s1.dict.vals.filter (fun x => decide (x.1 < 0xF00000) || x.1 == 0xF10004 || x.1 == 0xF10005) } }

/-- Leaving a state (R344, R406, R483): diagnostic mode belongs to SelfTest and Bench, self-tests to SelfTest and Open. -/
def State.leaveState (s : State) : State :=
  let s1 := match s.dev.state with
    | .bench => (s.setParam 0x6009 1 0).leaveBench
    | .selfTest => (s.setParam 0x6009 1 0).stopBackground
    | .opened => s.stopBackground
    | _ => s
  s1

/-- The life record of every identified pack is written (R75). -/
def State.writeLives (s : State) : State :=
  (List.finRange 32).foldl (fun (s : State) p => if s.packs[p].lifeRead then s.saveLife p else s) s

/-- The device enters Lee (R75, R525, R539, R549): life records, unless the supply failed or the orderly close has written them; counts and staged records go to flash, and the clusters go Off in the reduced form. -/
def State.enterLee (s : State) (reduced : Bool) (cause : Nat) : State :=
  let s0 := if cause = 4 ∨ s.dev.closeStep = 6 then s else s.writeLives
  let s1 := s0.leaveState
  let s2 := (({ s1 with dev := s1.dev.settled }).setDevState .lee (if reduced then 1 else 0) cause).packsToLee
  let s3 := (s2.endAllConns 6).saveCounters
  (if reduced then s3.clustersOff else s3).refreshDomains

/-- The device goes to SelfTest, Assemble, Open, Quiesce or Bench (R525). -/
def State.enterState (s : State) (d : DevState) : State :=
  let s1 := s.leaveState
  let s2 := ({ s1 with dev := s1.dev.settled }).setDevState d 255 255
  let s3 := if d = .bench then { s2 with bench := { s2.bench with entrySec := s2.dev.opSec } } else s2
  (if d = .assemble then s3.noteSpans else s3).refreshDomains

/-! ### A start of the hub (R90, R401, R502, R524, R527) -/

/-- A pack slot in Boot: the pack is Absent, to be evaluated afresh; a turning spindle coasts and the slot's counters stay (R91,
R271, R524), and so does the removable flag, which ends with the pack's removal or a chip reset (R96). -/
def Pack.atStart (k : Pack) : Pack :=
  let e := k.emptied
  { e with state := .absent, removable := k.removable, spindle := { e.spindle with speed := k.spindle.speed, backward := k.spindle.backward },
           arms := e.arms.map (fun x => { x with fmt := { x.fmt.rest with queue := [], linkHeld := [] } }) }

/-- The hub's working state as a start finds it: no command, connection, descriptor or line; counters stay, and so do the dictionary's
layers in flash and what the media hold of the store (R334, R402). -/
def State.hubAtStart (s : State) : State :=
  { s with
    packs := s.packs.map Pack.atStart, spinQueue := [], tileHeld := [], ref100Lost := false, ref156Lost := false,
    tiles := s.tiles.map (fun t => { t with holdover := false }),
    fmtStore := {}, svc := { s.svc with
      seqs := s.svc.seqs.map (fun q => { q with ctx := Vector.replicate 16 {} }), store := {}, dispatch := [], dispatchMarks := [],
      cmds := [], tokens := [], suspended := [] },
    host := { s.host with
      conns := [], rings := [], deletes := [], waiting := [],
      ports := s.host.ports.map (fun q => { q with link := Vector.replicate 4 .down, paused := Vector.replicate 4 0 }) },
    store := { indexFull := s.store.indexFull, dataLost := s.store.dataLost, nextTag := s.store.nextTag, position := s.store.position, disk := s.store.disk },
    buf := { s.buf with
      reachable := false, words := [], lines := [], op := none, disabling := false, regions := [], result := 0,
      chans := s.buf.chans.map (fun c => { c with state := 0, filled := 0, valid := [] }) },
    movers := s.movers.map (fun m => { m with queue := [], waiting := [], running := [], allowance := 0 }),
    mirrorHeld := [], heldTokens := [], heldAccess := [], raw := {}, layers := { s.layers with held := [], applyStatus := 0 } }

/-! ### Chip reset (R91, R460, R491 to R495, R498, R513, R518, R549) -/

/-- What a chip reset keeps: what waits and the clock of the model, the part and its fuses, what boot flash and the packs hold, the
spindles' turning, the counts of R549 and the records in island SRAM (R271, R334, R544, R552, R556). CAN then runs at the rate of
0x1FC0.02 as it stood (R463), and the nonces are new (R512, R548). -/
def State.chipReset (s : State) : State :=
  let k := s.railsOff
  { State.reset with
    pending := k.pending, now := k.now, free := k.free + 2, out := k.out, part := k.part,
    packs := k.packs.map (fun x => { spindle := { speed := x.spindle.speed, backward := x.spindle.backward } }),
    store := { disk := k.store.disk, position := k.store.position }, flash := k.flash, fuses := k.fuses, window := { bytes := k.window.bytes, placed := k.window.placed },
    can := { rate := k.param 0x1FC0 2 },
    injection := { nonce := k.free }, sec := { tapNonce := k.free + 1 },
    dev := { opSec := k.dev.opSec, secondAt := k.dev.secondAt, powerCycles := k.dev.powerCycles, tickRecords := k.dev.tickRecords,
             crystal := k.dev.crystal, aonUp := k.dev.aonUp },
    recorder := { nextSeq := k.recorder.nextSeq, staging := k.recorder.staging.filter (fun x => !x.inRegion),
                  newest := k.recorder.newest, fatalOverwritten := k.recorder.fatalOverwritten } }

end Sys2Proof.Machine
end

