-- ==== Sys2Proof/Machine/Hosts.lean ====
section
/-! DEFINITION. Host ports, connections, doorbells, framing and heads (R348 to R362, R371, R375 to R378, R385 to R393). -/

namespace Sys2Proof.Machine

/-! ### Connections -/

/-- The first of `n` numbers, from a start and wrapping, that is not in use. -/
def pickUnused (n start : Nat) (used : Nat → Bool) : Option Nat :=
  ((List.range n).map (fun i => (start + i) % n)).find? (fun i => !used i)

/-- The first value not in use, from a start on and by steps; `fuel` bounds the steps. -/
def seekUnused (next : Nat → Nat) (used : Nat → Bool) : Nat → Nat → Option Nat
  | 0, _ => none
  | fuel + 1, v => if used v then seekUnused next used fuel (next v) else some v

/-- A window of 512 bytes overlaps that of a connection (R355). -/
def State.windowUsed (s : State) (w : Nat) : Bool := s.host.conns.any (fun c => decide (w < c.window + 512 ∧ c.window < w + 512))

/-- A doorbell window, its memory key and a local QP number that no connection holds, QP0 and QP1 apart (R353, R355): free values (log entry 27). -/
def State.freshQp (s : State) : Option (Nat × Nat × Nat) × State :=
  let (w, s1) := s.takeFree
  let (k, s2) := s1.takeFree
  let (q, s3) := s2.takeFree
  (match seekUnused (fun v => (v + 512) % (2 ^ 64 - 511)) s.windowUsed 4096 (w % (2 ^ 64 - 511)),
      seekUnused (fun v => (v + 1) % 2 ^ 32) (fun v => s.host.conns.any (fun c => c.windowKey = v)) 4096 (k % 2 ^ 32),
      seekUnused (fun v => (v + 1) % 2 ^ 24) (fun v => decide (v < 2) || s.host.conns.any (fun c => c.qp = v)) 4096 (q % 2 ^ 24) with
    | some a, some b, some c => some (a, b, c)
    | _, _, _ => none, s3)

/-- A ring number is in use: by a ring, by a connection being set up, or by a command that runs on after its ring (R385). -/
def State.ringUsed (s : State) (n : Nat) : Bool :=
  (s.ring? n).isSome || s.host.conns.any (fun c => c.adminRing.num = n) || s.svc.cmds.any (fun c => c.ring = n)

/-- A peer address matches an entry of the management source table (R357, R389): the prefix as 16 bytes in network order,
then its length. -/
def prefixMatches (entry : Nat) (source : Nat) : Bool :=
  let bytes := natBytes 17 entry
  let len := fieldAt bytes 16 1
  let pre := (bytes.take 16).foldl (fun r b => r * 256 + b.toNat) 0
  entry != 0 && decide (len ≤ 128) && pre / 2 ^ (128 - len) == source / 2 ^ (128 - len)

/-- The source may open management connections (R357). -/
def State.managementSource (s : State) (source : Nat) : Bool :=
  (List.range 16).any (fun i => prefixMatches (s.param 0x6420 (i + 1)) source)

/-- The connect block's fields other than the version are those of R354. -/
def connectOk (l : List Byte) : Bool :=
  decide (64 ≤ l.length) && fieldAt l 0 4 == 0x4E55564F && fieldAt l 6 1 ≤ 1
    && decide (6 ≤ fieldAt l 7 1 ∧ fieldAt l 7 1 ≤ 12) && fieldAt l 8 8 % 64 == 0 && fieldAt l 0x18 8 % 8 == 0
    && decide (1 ≤ fieldAt l 0x20 2 ∧ fieldAt l 0x20 2 ≤ 1024) && fieldAt l 0x22 1 < 2 && zeroAt l 0x23 29

/-- A connection class is accepted in the device's state (R386), while a cluster serves or a fail-over is under way (R24, R387: assumption 133). -/
def State.classAccepted (s : State) (management : Bool) : Bool :=
  s.fullServer && !s.hostStopped && s.dev.pendingLee.isNone && (if management then s.dev.state.managed else s.dev.state = .opened)

/-- The reject code of a request, if any: the lowest that applies (R356). -/
def State.rejectCode (s : State) (r : CmReq) (ringFree : Bool) : Option Nat :=
  let mgmt := fieldAt r.data 6 1 = 1
  if ¬ connectOk r.data then some 1
  else if fieldAt r.data 4 2 ≠ 1 then some 2
  else if ¬ s.classAccepted mgmt then some 3
  else if mgmt ∧ ¬ s.managementSource r.source then some 4
  else if 1024 ≤ s.host.conns.length ∨ ¬ ringFree then some 5
  else if r.mtu < 1024 ∨ s.param (portBlock r.port + 1) 3 < r.mtu then some 6
  else none

/-- The accept block (R355). -/
def acceptBlock (num window key ring : Nat) : List Byte :=
  natBytes 4 0x4E55564F ++ natBytes 2 1 ++ natBytes 2 num ++ natBytes 8 window ++ natBytes 4 key ++ natBytes 2 ring
    ++ natBytes 2 64 ++ natBytes 40 0

/-- A connection request on a sub-port whose link is up is answered with REP or REJ (R353 to R357, R393). Numbers, the window and its key, and the
local QP are the controller's choice among those not in use: free values (log entry 27). -/
def execCmReq (r : CmReq) (s : State) : Res :=
  .next (
    if ¬ s.portFitted r.port ∨ s.host.ports[r.port].link[r.sub] ≠ .up then s
    else
      let (f1, s1) := s.takeFree
      let (f2, s2) := s1.takeFree
      let (fresh, s3) := s2.freshQp
      let num := pickUnused 1024 f1 (fun n => (s.conn? n).isSome)
      let ring := pickUnused 4096 f2 s.ringUsed
      match s.rejectCode r ring.isSome, num, ring, fresh with
      | none, some n, some g, some (w, k, qp) =>
        let line := s.host.ports[r.port].lineRate
        let l := r.data
        let a : Ring :=
          { num := g, conn := n, loc := 0, admin := true, cls := 0, size := fieldAt l 7 1, limit := fieldAt l 0x20 2,
            addr := fieldAt l 8 8, key := fieldAt l 0x10 4, headAddr := fieldAt l 0x18 8, headKey := fieldAt l 0x14 4,
            coalesce := 0, notify := (fieldAt l 0x22 1).testBit 0 }
        let c : Conn :=
          { num := n, port := r.port, sub := r.sub, management := fieldAt l 6 1 = 1, source := r.source, qp := qp,
            remote := r.qp, mtu := r.mtu, adminRing := a, window := w, windowKey := k,
            retryLimit := s.param 0x6413 2, rnrLimit := s.param 0x6413 3, rate := line, target := line, raisedAt := s.now }
        (s3.updHost (fun h => { h with conns := h.conns ++ [c] })).sendCm r.port r.sub r.source 1 n (acceptBlock n w k g)
      | some e, _, _, _ => s.sendCm r.port r.sub r.source 2 0 (natBytes 1 e)
      | none, _, _, _ => s)

/-- RTU completes the setup: the admin ring exists (R355). -/
def execCmRtu (conn : Nat) (s : State) : Res :=
  .next (match s.conn? conn with
    | some c =>
      if c.ready then s
      else (s.updConn conn (fun c => { c with ready := true })).updHost (fun h => { h with rings := h.rings ++ [c.adminRing] })
    | none => s)

/-- DREQ is answered with DREP and ends the connection (R353, R385). -/
def execCmDreq (conn : Nat) (s : State) : Res :=
  .next (match s.conn? conn with
    | some c => (s.sendCm c.port c.sub c.source 4 conn []).endConn conn 1
    | none => s)

/-- A DREP to a DREQ of the controller: the connection has ended already (R353, R385). -/
def execCmDrep (_conn : Nat) (s : State) : Res := .next s

/-- Any request other than an RDMA WRITE into the doorbell window: NAK, Invalid Request (R348, R349). -/
def execInvalidRequest (conn : Nat) (s : State) : Res :=
  .next (s.sendHost (.nak conn 1))

/-- A NAK received moves the QP to the error state and ends the connection; movers stop with host access error (R385, R438). -/
def execNakReceived (conn : Nat) (s : State) : Res := .next (s.endConn conn 2)

/-! ### Doorbells (R359 to R361) -/

/-- A doorbell that is ignored is counted. -/
def State.ignoreDoorbell (s : State) : State := s.updHost (fun h => { h with ignored := sat32 h.ignored 1 })

/-- A doorbell word of a ring: the table of R361. -/
def State.ringDoorbell (s : State) (r : Ring) (word : Nat) : State :=
  let prod := word % 2 ^ 32
  let n := (prod + 2 ^ 32 - r.head) % 2 ^ 32
  let o := (r.prod + 2 ^ 32 - r.head) % 2 ^ 32
  let fatal := fun cause =>
    let s1 := s.ringFatal r.num cause
    if r.admin then s1.endConn r.conn 5 else s1
  if word / 2 ^ 32 ≠ 0 then fatal 3
  else if n = o then s
  else if n < o then fatal 2
  else if 2 ^ r.size < n then fatal 1
  else ((s.updRing r.num (fun r => { r with prod := prod })).mirrorRing r.num).readSlots r.num

/-- One word of a doorbell write. -/
def State.doorbellWord (s : State) (conn loc word : Nat) : State :=
  match s.ringAt? conn loc with
  | some r => if r.state = .active then s.ringDoorbell r word else s.ignoreDoorbell
  | none => s.ignoreDoorbell

/-- The words of a doorbell write in ascending order. -/
def State.doorbellWords (s : State) (conn loc : Nat) : List Nat → State
  | [] => s
  | w :: l => (s.doorbellWord conn loc w).doorbellWords conn (loc + 1) l

/-- An RDMA WRITE into a doorbell window with a memory key (R349, R360). -/
def execDoorbell (conn key offset : Nat) (data : List Byte) (s : State) : Res :=
  .next (match s.conn? conn with
    | none => s
    | some c =>
      if key ≠ c.windowKey then s.sendHost (.nak conn 2)
      else if offset % 8 ≠ 0 ∨ data.length % 8 ≠ 0 ∨ data.length < 8 ∨ 512 < offset + data.length then s.ignoreDoorbell
      else s.doorbellWords conn (offset / 8) ((List.range (data.length / 8)).map (fun i => fieldAt data (8 * i) 8)))

/-! ### Framing (R362, R371, R378) -/

/-- The arbiter starts a chain of the ring whose turn it is in a free context at word 0, whose fetch routine brings the chain in (R194,
R213, R378). -/
def execChainStart (s : State) : Res :=
  .next (match s.pickRing, s.freeContext with
    | some (r, turn, left), some (q, c) =>
      let s1 := s.updHost (fun h =>
        { h with turn := turn, left := left,
                 served := if hc : r.cls < 4 then h.served.set r.cls r.num hc else h.served })
      let s2 : State := { s1 with svc := { s1.svc with next := (q.val + 1) % 16 } }
      let port : Nat := match s.conn? r.conn with | some k => k.port.val | none => 0
      let s3 := s2.updCtx q c (fun _ =>
        ({ busy := true, ring := r.num, slot := r.cons, port := port, cls := r.cls, admin := r.admin } : Ctx))
      s3.updRing r.num (fun r => { r with framing := some (q, c) })
    | _, _ => s)

/-- The RDMA READ of descriptor slots returns (R362); a read that waited for one of the QP's 16 goes out (R348). -/
def execDescriptorReadResponse (ring : Nat) (data : List Byte) (s : State) : Res :=
  .next (match s.ring? ring with
    | none => s
    | some r =>
      if r.reading = 0 ∨ data.length ≠ r.reading then s
      else
        let s1 := (s.updRing ring (fun r => { r with fetched := r.fetched ++ data.drop r.skip, reading := 0, skip := 0 })).readSlots ring
        (s1.host.rings.filter (fun y => y.conn = r.conn)).foldl (fun s y => s.readSlots y.num) s1)

/-! ### Heads and transport -/

/-- The coalesce time of a ring has passed (R376). -/
def execHeadPublish (ring : Nat) (s : State) : Res := .next (s.publish ring)

/-- A receiver-not-ready NAK on a notify head word: retried up to the retry count, 7 meaning without limit; beyond it the
connection ends (R377, R385, R393). -/
def execRnrNak (ring : Nat) (s : State) : Res :=
  .next (match s.ring? ring with
    | none => s
    | some r => match s.conn? r.conn with
      | none => s
      | some c =>
        if ¬ r.notify then s
        else if c.rnrLimit = 7 ∨ r.rnr < c.rnrLimit then (s.updRing ring (fun r => { r with rnr := r.rnr + 1 })).sendHead r
        else s.endConn r.conn 4)

/-- A request stays unacknowledged for the local ACK timeout; `made` retries of it have been made (R385, R393). -/
def execAckTimeout (conn made : Nat) (s : State) : Res :=
  .next (match s.conn? conn with
    | none => s
    | some c => if made < c.retryLimit then s.updConn conn (fun c => { c with retries := made + 1 }) else s.endConn conn 3)

/-- A CE-marked packet is answered with a CNP, at most one for each QP in a CNP interval (R350, R391). -/
def execCeMarkedPacket (conn : Nat) (s : State) : Res :=
  .next (match s.conn? conn with
    | none => s
    | some c =>
      let due : Bool := match c.cnpAt with | some t => decide (t + s.param 0x6412 6 * 1000 ≤ s.now) | none => true
      if due then
        ((s.updConn conn (fun c => { c with cnpAt := some s.now })).updPort c.port (fun p =>
          { p with cnps := p.cnps.set c.sub.val (sat32 p.cnps[c.sub] 1) })).sendHost (.cnp conn)
      else s)

/-- DCQCN's arithmetic (R350, R392; PRESUMED: log entry 28): a CNP sets the target to the rate, cuts the rate by half of alpha and moves alpha toward
1 by the gain; timer and byte counter begin again. -/
def Conn.cut (c : Conn) (gain low now : Nat) : Conn :=
  { c with target := c.rate, rate := max low (c.rate - c.rate * c.alpha / 131072), alpha := c.alpha - c.alpha * gain / 65536 + gain,
           raisedAt := now, sent := 0, ticks := 0, rounds := 0 }

/-- The rate moves half way to the target, which the additive increase raises first once five expiries of the timer or of the byte counter have
passed since the CNP. It stays between the minimum rate and the line rate. -/
def Conn.raised (c : Conn) (add low line : Nat) : Conn :=
  let target := min line (if 5 ≤ max c.ticks c.rounds then c.target + add else c.target)
  { c with target := target, rate := max low (min line ((c.rate + target) / 2)) }

/-- DCQCN's reaction to a CNP (R350). -/
def execCnpReceived (conn : Nat) (s : State) : Res :=
  .next (s.updConn conn (fun c => c.cut (s.param 0x6412 1) s.minRate s.now))

/-- The rate-increase timer of a QP expires (R350, R392): alpha falls by the gain, and the rate rises. -/
def execDcqcnRateIncreaseTimer (conn : Nat) (s : State) : Res :=
  .next (s.updConn conn (fun c =>
    if s.now < c.raisedAt + s.param 0x6412 2 * 1000 then c
    else { c with ticks := c.ticks + 1, raisedAt := s.now, alpha := c.alpha - c.alpha * s.param 0x6412 1 / 65536 }.raised
      (s.param 0x6412 4) s.minRate s.host.ports[c.port].lineRate))

/-- The byte counter of a QP expires, when it has sent as many bytes as the entry says (R350, R392). -/
def execDcqcnByteCounter (conn : Nat) (s : State) : Res :=
  .next (s.updConn conn (fun c =>
    if c.sent < s.param 0x6412 3 * 1024 then c
    else { c with rounds := c.rounds + 1, sent := c.sent - s.param 0x6412 3 * 1024 }.raised (s.param 0x6412 4) s.minRate
      s.host.ports[c.port].lineRate))

/-! ### Ports -/

/-- A PFC frame pauses or resumes one of the two priorities of the PFC entry; others are never paused (R351, R390). Messages that waited go out with
the resumption. -/
def execPfcFrame (q : PortId) (sub : SubPortId) (prio : Fin 8) (pause : Bool) (s : State) : Res :=
  .next (
    if ¬ s.portFitted q ∨ ¬ (s.param 0x6411 5).testBit prio.val then s
    else (s.updPort q (fun p =>
      let v := p.paused[sub]
      let w := if pause then v ||| 2 ^ prio.val else v &&& (0xFF ^^^ 2 ^ prio.val)
      { p with paused := p.paused.set sub.val w })).resumeHost)

/-- An IEEE 802.3 PAUSE frame is discarded and counted (R348). -/
def execPauseFrame (s : State) : Res := .next (s.updHost (fun h => { h with pauses := sat32 h.pauses 1 }))

/-- A port whose domain is on trains its link (R26): the breakout takes effect, a change of it ends every connection of the port, and the sub-ports named
come up (R352, R391). No rule names a return of the 156.25 MHz reference: after its loss no port trains until the hub starts again (DESIGN CHOICE:
log entry 136). -/
def execPortLinkTraining (q : PortId) (up : Nat) (s : State) : Res :=
  .next (
    if ¬ s.portFitted q ∨ s.ref156Lost ∨ ¬ s.dev.state.running ∨ s.domains[120 + q.val].state ≠ 2 then s
    else
      let n := breakoutSubs (s.param (portBlock q + 1) 1)
      let mine := (s.host.conns.filter (fun c => c.port = q)).map (fun c => c.num)
      let s1 := if n = s.host.ports[q].subs then s else mine.foldl (fun s c => s.endConn c 7) s
      s1.updPort q (fun p =>
        { p with subs := n, link := Vector.ofFn (fun i : Fin 4 =>
            if n ≤ i.val then .down else if up.testBit i.val then .up else .training) }))

/-- A sub-port loses its link (R391). -/
def execPortLinkDown (q : PortId) (sub : SubPortId) (s : State) : Res :=
  .next (if s.portFitted q then s.updPort q (fun p => { p with link := p.link.set sub.val .down }) else s)

end Sys2Proof.Machine
end

