-- ==== Sys2Proof/Machine/StoreOps.lean ====
section
/-! DEFINITION. The object store's operations (R300 to R337): leaf slots and their allocation, stripes and leaves as written, the
index, petit-four stripes, the journal, visibility. -/

namespace Sys2Proof.Machine

/-! ### Placement (R314) -/

/-- A leaf slot on an arm's open Sequential band, or on a band slot newly opened for it; which one is opened is left open. -/
def State.slotOn (s : State) (i : SpanId) (p a : Nat) : Option (Locator × State) :=
  match s.pack? p with
  | none => none
  | some k =>
    let x := s.store.spans[i]
    let put := fun (s : State) (b n : Nat) =>
      ((⟨p, b, n⟩ : Locator), s.updSpan i (fun x => { x with
        bands := x.bands.filter (fun u => ¬(u.pack = p ∧ u.band = b)) ++ [⟨p, b, n + 1, true⟩] }))
    let open_ := x.bands.findSome? (fun u =>
      if u.pack = p ∧ u.isOpen ∧ u.band % 2 = a then (k.nextSlot u.band (k.bandLeaves u.band + 1) u.next).map (fun n => (u.band, n)) else none)
    match open_ with
    | some (b, n) => some (put s b n)
    | none =>
      let fresh := k.leafBands.filterMap (fun b =>
        if b % 2 = a ∧ ¬ x.bands.any (fun u => u.pack = p ∧ u.band = b) then (k.nextSlot b (k.bandLeaves b + 1) 0).map (fun n => (b, n)) else none)
      match fresh with
      | [] => none
      | _ =>
        let (v, s1) := s.takeFree
        (fresh[v % fresh.length]?).map (fun x =>
          put (s1.updSpan i (fun y => { y with bands := y.bands.map (fun u =>
            if u.pack = p ∧ u.band % 2 = a then { u with isOpen := false } else u) })) x.1 x.2)

/-- A span may hold two leaves of a stripe on one pack (R314). -/
def State.mayDouble (s : State) (x : Span) : Bool := !(s.spanState x = .critical || s.spanState x = .lost)

/-- The pack that takes the next leaf: most free slots, on a tie the one after the pack last chosen. -/
def bestPack (last : Nat) : List (Nat × Nat) → Option Nat
  | [] => none
  | x :: l => some ((l.foldl (fun (b : Nat × Nat) c =>
      if b.2 < c.2 ∨ (b.2 = c.2 ∧ (c.1 + 31 - last) % 32 < (b.1 + 31 - last) % 32) then c else b) x).1)

/-- Places one leaf of a stripe whose other leaves lie at `held`: on a pack that holds none, else, when `doubled`, on one that holds
exactly one. `spare` lets it go into the reserve; `not` names packs left out. -/
def State.placeLeaf (s : State) (i : SpanId) (held : List Locator) (doubled spare : Bool) (not : Nat → Bool) :
    Option (Locator × State) :=
  let x := s.store.spans[i]
  let holds := fun p => (held.filter (fun l => l.pack = p)).length
  let room := fun p => s.freeLeaves x p - (if spare then 0 else s.reserve x p)
  let cands := fun n =>
    (x.packs.filter (fun p => s.placeable x p && !not p && holds p == n && room p != 0)).map (fun p => (p, s.freeLeaves x p))
  let pick := match bestPack x.lastPack (cands 0) with
    | some p => some p
    | none => if doubled then bestPack x.lastPack (cands 1) else none
  match pick with
  | none => none
  | some p =>
    let arms := s.leafArms p
    let other := arms.filter (fun a => !held.any (fun l => l.pack = p ∧ l.band % 2 = a))
    let want := if other.isEmpty then arms else other
    let (v, s1) := s.takeFree
    let first := want.getD (v % max want.length 1) 0
    let s2 := s1.updSpan i (fun x => { x with lastPack := p })
    (([first] ++ arms.filter (fun a => a ≠ first)).findSome? (fun a => s2.slotOn i p a))

/-- The status with which placement fails (R314). -/
def State.placeFailure (s : State) (i : SpanId) (leaves : Nat) : Nat :=
  let x := s.store.spans[i]
  let n := (x.packs.filter (s.placeable x)).length
  if (if s.mayDouble x then 2 * n < leaves else n < leaves) then 0x33 else 0x31

/-- Places `n` leaves of a new stripe. -/
def State.placeLeaves (s : State) (i : SpanId) : Nat → List Locator → Option (List Locator × State)
  | 0, held => some (held, s)
  | n + 1, held =>
    let x := s.store.spans[i]
    match s.placeLeaf i held (s.mayDouble x) false (fun _ => false) with
    | none => none
    | some (l, s1) => s1.placeLeaves i n (held ++ [l])

/-- Leaf slots of a stripe in leaf order: data leaves present, absent ones, parity. -/
def spreadSlots (k present : Nat) (l : List Locator) : List (Option Locator) :=
  (l.take present).map some ++ List.replicate (k - present) none ++ (l.drop present).map some

/-! ### Stripes as written (R112, R315 to R319) -/

/-- Takes `n` bytes of a list, zeros beyond its end. -/
def padTo (n : Nat) (l : List Byte) : List Byte := l.take n ++ List.replicate (n - l.length) 0

/-- The directory of a petit-four stripe (R319). -/
def dirBytes (l : List PetitObj) : List Byte :=
  let recs := (l.map (fun o => natBytes 16 o.hash ++ natBytes 2 o.first ++ natBytes 2 o.count ++ natBytes 5 o.size ++ natBytes 7 0)).flatten
  let head := natBytes 4 0x4650564F ++ natBytes 2 l.length ++ natBytes 54 0 ++ natBytes 4 (crc32c recs)
  padTo (4096 * dirSectors l.length) (head ++ recs)

/-- The stripe is a petit-four stripe. -/
def Stripe.isPetit (t : Stripe) : Bool := t.owner.isNone

/-- Sector `q` of the data leaves is fill (R315, R320). -/
def Stripe.isFill (t : Stripe) (q : Nat) : Bool :=
  if t.isPetit then decide (petitUsed t.dir ≤ q ∧ q < 256 * t.present - dirSectors t.dir.length)
  else decide (t.plain.length ≤ 4096 * q)

/-- The XTS tweak of a data sector (R316). -/
def Stripe.tweak (t : Stripe) (leaf sector : Nat) : Nat := t.gen + t.num * 2 ^ 64 + leaf * 2 ^ 96 + sector * 2 ^ 104

/-- User bytes of a sector of data leaf `i` as recorded: ciphertext, or zeros for fill (R315, R316). -/
def Stripe.dataSector (t : Stripe) (key i j : Nat) : List Byte :=
  let q := 256 * i + j
  if t.present ≤ i ∨ t.isFill q then List.replicate 4096 0
  else padTo 4096 (xtsEncrypt key (t.tweak i j) (padTo 4096 ((t.plain.drop (4096 * q)).take 4096)))

/-- User bytes of a sector of parity leaf `j` (R317). -/
def Stripe.paritySector (t : Stripe) (key j sector : Nat) : List Byte :=
  let rows := (List.range t.k).map (fun i => t.dataSector key i sector)
  (List.range 4096).map (fun b => BitVec.ofNat 8 (parityByte j (rows.map (fun r => (r.getD b 0).toNat))))

/-- The tag of a sector (R112). -/
def sectorTag (t : Stripe) (span leaf sector seq kind addr : Nat) : List Byte :=
  natBytes 16 (if kind = 2 then 0 else t.hash) ++ natBytes 8 seq ++ natBytes 8 t.gen ++ natBytes 4 t.num ++ natBytes 1 leaf
    ++ natBytes 1 sector ++ natBytes 1 span ++ natBytes 1 kind ++ natBytes 5 addr ++ natBytes 1 0 ++ natBytes 1 t.k ++ natBytes 1 t.m
    ++ natBytes 8 0

/-- Kind of a sector (R112). -/
def Stripe.kind (t : Stripe) (leaf sector : Nat) : Nat :=
  if t.k ≤ leaf then 1 else if t.isFill (256 * leaf + sector) then 6 else if t.isPetit then 2 else 0

/-- The 256 sectors of a leaf as they go to the tile for a leaf slot: user bytes and tag, of which only the physical address follows the slot
(R111, R112, R342). -/
def State.leafImage (s : State) (i : SpanId) (t : Stripe) (leaf : Nat) (l : Locator) : List Byte :=
  let x := s.store.spans[i]
  let (track, first) := match s.pack? l.pack with | some k => k.leafPlace l.band l.leaf | none => (0, 0)
  ((List.range 256).map (fun j =>
    (if t.k ≤ leaf then t.paritySector x.key (leaf - t.k) j else t.dataSector x.key leaf j)
      ++ sectorTag t i.val leaf j ((t.seqs.getD leaf none).getD x.leafSeq) (t.kind leaf j) (mkAddr l.pack (j / 16) track (first + j % 16)))).flatten

/-- The request of a routine over the 16 sectors of each lane of a leaf slot (R200, R211, R335). -/
def leafRequest (routine : Nat) (full : Bool) (tag track first : Nat) : List Byte :=
  natBytes 1 routine ++ natBytes 1 (if full then 2 else 0) ++ natBytes 2 0xFFFF ++ natBytes 4 tag ++ natBytes 8 0 ++ natBytes 8 first
    ++ natBytes 8 16 ++ natBytes 32 0 ++ ((List.range 16).map (fun _ => natBytes 4 track)).flatten

/-- A request of the object layer: a host routine goes to the formatter; a background one waits in the hub for its share (R339), unless the
formatter does not take requests. -/
def State.layerRequest (s : State) (p : PackId) (a : ArmId) (back : Option Nat) (req : List Byte) : State :=
  let x := s.arm p a
  match back with
  | none => s.formatterRequest p a req
  | some k =>
    if s.clusters.failOver.isSome ∨ (s.layers.applyStatus = 1 ∧ s.routineWrites (reqRoutine req)) ∨ x.fmt.fault ∨ x.link.state = .out then
      s.formatterRequest p a req
    else (s.updStore (fun t => { t with back := t.back ++ [⟨p.val, a.val, k, req⟩] })).kick p a

/-- A fresh routine tag. -/
def State.takeTag (s : State) : Nat × State := (s.store.nextTag, s.updStore (fun t => { t with nextTag := (t.nextTag + 1) % 2 ^ 32 }))

/-- Changes a stripe. -/
def State.updStripe (s : State) (i : SpanId) (addr : Nat) (f : Stripe → Stripe) : State :=
  s.updSpan i (fun x => { x with stripes := x.stripes.map (fun t => if t.addr = addr then f t else t) })

/-- Writes a leaf to a leaf slot (R335); its tags take the next leaf sequence of the span when it is first written (R112, R342). -/
def State.issueLeaf (s : State) (i : SpanId) (addr leaf : Nat) (l : Locator) (back : Option Nat) : State :=
  match s.store.spans[i].stripe? addr with
  | none => s
  | some t =>
    let (tag, s0) := s.takeTag
    let s1 := (s0.send (.leafData l.pack l.band l.leaf (s.leafImage i t leaf l))).updStore (fun st =>
      { st with writes := st.writes ++ [⟨tag, i.val, addr, leaf, l, back⟩] })
    let s2 := if (t.seqs.getD leaf none).isSome then s1
      else (s1.updStripe i addr (fun t =>
        { t with seqs := (t.seqs ++ List.replicate (t.k + t.m - t.seqs.length) none).set leaf (some s.store.spans[i].leafSeq) })).updSpan i (fun x =>
        { x with leafSeq := x.leafSeq + 1 })
    if h : l.pack < 32 then
      let (track, first) := s.packs[l.pack].leafPlace l.band l.leaf
      s2.layerRequest ⟨l.pack, h⟩ ⟨l.band % 2, by omega⟩ back (leafRequest 1 false tag track first)
    else s2

/-- Writes every leaf of a stripe whose slots are chosen. -/
def State.issueStripe (s : State) (i : SpanId) (addr : Nat) : State :=
  match s.store.spans[i].stripe? addr with
  | none => s
  | some t => (t.slots.zipIdx).foldl (fun s x => match x.1 with | some l => s.issueLeaf i addr x.2 l none | none => s) s

/-- Moves one leaf of a stripe to a new leaf slot: it is regenerated or copied and written there (R314, R336, R340 to R342). None while no
slot can take it. -/
def State.moveLeaf (s : State) (i : SpanId) (addr leaf : Nat) (spare : Bool) (back : Option Nat) (not : Nat → Bool) : Option State :=
  let x := s.store.spans[i]
  match x.stripe? addr with
  | none => none
  | some t =>
    let held := ((t.locs.zipIdx).filter (fun x => x.2 ≠ leaf)).filterMap (fun x => x.1)
      ++ (s.store.writes.filter (fun w => w.span = i.val ∧ w.addr = addr ∧ w.leaf ≠ leaf)).map (fun w => w.loc)
    (s.placeLeaf i held (s.mayDouble x) spare not).map (fun y => y.2.issueLeaf i addr leaf y.1 back)

/-! ### Generations and stripe addresses (R301, R308, R313) -/

/-- Takes the generation counter's value. -/
def State.takeGen (s : State) : Nat × State := (s.store.counter, s.updStore (fun t => { t with counter := t.counter + 1 }))

/-- Stripe addresses of a span: as many as its table holds (R308, R401). -/
def State.addrCount (s : State) : Nat := min (2 ^ 27) (s.param 0x6005 1 * 2 ^ 30 / 128)

/-- Addresses `a` to `a + n - 1` are free. -/
def Span.blockFree (x : Span) (cap n a : Nat) : Bool :=
  decide (a + n ≤ cap) && x.stripes.all (fun t => decide (t.addr < a ∨ a + n ≤ t.addr))
    && (match x.petit with | some q => decide (q.addr < a ∨ a + n ≤ q.addr) | none => true)

/-- A free block of `n` contiguous stripe addresses; which one is left open. -/
def State.addrBlock (s : State) (i : SpanId) (n : Nat) : Option (Nat × State) :=
  let x := s.store.spans[i]
  let cap := s.addrCount
  let (v, s1) := s.takeFree
  let ends := 0 :: x.stripes.map (fun t => t.addr + 1) ++ (match x.petit with | some q => [q.addr + 1] | none => [])
  (((v % max cap 1) :: ends).find? (x.blockFree cap n)).map (fun a => (a, s1))

/-! ### The index (R302 to R307) -/

/-- Entries whose slots are taken: those that stand in the index, and those of changes whose records are still to commit (R306, R332). -/
def Store.entriesHeld (t : Store) : List ObjEntry :=
  t.objs ++ t.changes.filterMap (fun c => c.entry) ++ t.journal.filterMap (fun r => r.fin.bind (fun c => c.entry))

/-- Slots in use: a change of an entry that stands in the index shares its slot, and the extent blocks that it keeps. -/
def Store.usedSlots (t : Store) : Nat := ((t.entriesHeld.map (fun e => e.slot :: e.extents)).flatten.eraseDups).length

/-- Free index slots. -/
def Store.freeSlots (t : Store) : Nat := t.slots - t.usedSlots - (if t.slots = 2 ^ 30 then 1 else 0)

/-- A slot is in use or reserved. -/
def Store.slotUsed (t : Store) (n : Nat) : Bool := n == noSlot || t.entriesHeld.any (fun e => e.slot == n || e.extents.contains n)

/-- Slots of the 16 buckets in which an entry may lie (R306). -/
def Store.bucketSlots (t : Store) (hash : Nat) : List Nat :=
  let nb := max (t.slots / 8) 1
  (List.range 128).map (fun i => ((hash % 2 ^ 64 % nb + i / 8) % nb) * 8 + i % 8)

/-- The entry of a key hash. -/
def Store.entry (t : Store) (hash : Nat) : Option ObjEntry := t.objs.find? (fun e => e.hash = hash)

/-- The first unused slot from `a`, wrapping. -/
def Store.freeFrom (t : Store) : Nat → Nat → Option Nat
  | 0, _ => none
  | fuel + 1, a => if t.slotUsed a then t.freeFrom fuel ((a + 1) % max t.slots 1) else some a

/-- `n` slots for extent blocks; which ones are left open. -/
def State.extentSlots (s : State) (taken : List Nat) : Nat → Option (List Nat × State)
  | 0 => some ([], s)
  | n + 1 =>
    let (v, s1) := s.takeFree
    let t := s.store
    let t' := { t with objs := t.objs ++ [({ slot := noSlot, hash := 0, version := 0, size := 0, span := 0, extents := taken } : ObjEntry)] }
    match t'.freeFrom (t.usedSlots + taken.length + 2) (v % max t.slots 1) with
    | none => none
    | some a => match s1.extentSlots (a :: taken) n with
      | none => none
      | some (l, s2) => some (a :: l, s2)

/-- The runs taken from the front, each as full as it can be (R304). -/
def packRuns (l : List Nat) : List (Nat × Nat) :=
  (l.foldl (fun (r : List (Nat × Nat)) a => match r with
    | (b, n) :: rest => if b + n = a ∧ n < 512 then (b, n + 1) :: rest else (a, 1) :: (b, n) :: rest
    | [] => [(a, 1)]) []).reverse

/-- Extent blocks that runs need (R304, R305). -/
def extentsFor (runs : Nat) : Nat := if runs ≤ 4 then 0 else ceilDiv (runs - 3) 7

/-- Slots for a new version: the entry's slot and its extent blocks, or INDEX_FULL (R306, R324). -/
def State.indexRoom (s : State) (hash runs : Nat) : Except Nat (Nat × List Nat × State) :=
  let t := s.store
  let n := extentsFor runs
  let old := t.entry hash
  let need := n + (if old.isSome then 0 else 1)
  if need ≠ 0 ∧ (t.freeSlots * 200 < t.slots ∨ t.freeSlots < need) then .error 0x30
  else
    let (v, s1) := s.takeFree
    let free := (t.bucketSlots hash).filter (fun a => !t.slotUsed a)
    match (match old with | some e => some e.slot | none => free[v % max free.length 1]?) with
    | none => .error 0x30
    | some a => match s1.extentSlots [a] n with
      | none => .error 0x30
      | some (l, s2) => .ok (a, l, s2)

/-! ### Forming stripes -/

/-- What a version holds: whether petit-four, its runs, the stripes it rests on. -/
structure Placed where
  petit : Option (Nat × Nat × Nat)
  addrs : List Nat
  /-- Stripes new with this version, whose leaves are written once it commits. -/
  fresh : List Nat
  deriving DecidableEq, Repr

/-- Forms stripes with the numbers and bytes given at addresses from `base`, and chooses their leaf slots (R308, R314, R315). -/
def State.formStripes (s : State) (i : SpanId) (hash owner : Nat) : Nat → List (Nat × List Byte) → Except Nat State
  | _, [] => .ok s
  | base, (num, bytes) :: l =>
    let x := s.store.spans[i]
    let present := max 1 (ceilDiv bytes.length leafBytes)
    match s.placeLeaves i (present + x.m) [] with
    | none => .error (s.placeFailure i (present + x.m))
    | some (locs, s1) =>
      let (g, s2) := s1.takeGen
      let t : Stripe :=
        { addr := base, gen := g, k := x.k, m := x.m, present := present, state := .staged, owner := some owner, num := num,
          hash := hash, slots := spreadSlots x.k present locs, locs := List.replicate (x.k + x.m) none, plain := bytes }
      (s2.updSpan i (fun x => { x with stripes := x.stripes ++ [t] })).formStripes i hash owner (base + 1) l

/-- Cuts an object's bytes into stripes of `n` bytes with their numbers. -/
def cutStripes (n : Nat) (data : List Byte) : List (Nat × List Byte) :=
  (List.range (ceilDiv data.length (max n 1))).map (fun j => (j, (data.drop (j * n)).take n))

/-! ### The open petit-four stripe (R318 to R320) -/

/-- Chooses leaf slots for a stripe that waits for them, and writes its leaves (R314, R320). -/
def State.tryPlace (s : State) (i : SpanId) (addr : Nat) : State :=
  match s.store.spans[i].stripe? addr with
  | none => s
  | some t =>
    if t.state ≠ .staged ∨ t.slots ≠ [] then s
    else match s.placeLeaves i (t.present + t.m) [] with
      | none => s
      | some (l, s1) => (s1.updStripe i addr (fun t => { t with slots := spreadSlots t.k t.present l })).issueStripe i addr

/-- Seals the open petit-four stripe of a span: it is completed with fill and its directory, and placed if it can be (R319, R320). -/
def State.sealPetit (s : State) (i : SpanId) : State :=
  let x := s.store.spans[i]
  match x.petit with
  | none => s
  | some q =>
    let n := petitLeaves q.objs
    let d := dirBytes q.objs
    let t : Stripe :=
      { addr := q.addr, gen := q.gen, k := x.k, m := x.m, present := n, state := .staged, owner := none,
        locs := List.replicate (x.k + x.m) none, plain := padTo (n * leafBytes - d.length) q.plain ++ d, dir := q.objs }
    (s.updSpan i (fun x => { x with petit := none, stripes := x.stripes ++ [t] })).tryPlace i q.addr

/-- The open petit-four stripe takes an object of `n` sectors more. -/
def petitFits (k : Nat) (l : List PetitObj) (n : Nat) : Bool := decide (petitUsed l + n + dirSectors (l.length + 1) ≤ 256 * k)

/-- Appends an object to the open petit-four stripe, sealing a full one and opening the next (R318, R320): its stripe address, first
sector and sector count, or SPACE_FULL. -/
def State.petitAppend (s : State) (i : SpanId) (hash : Nat) (data : List Byte) (durable : Bool) :
    Except Nat ((Nat × Nat × Nat) × State) :=
  let n := ceilDiv data.length 4096
  let x := s.store.spans[i]
  let s1 := match x.petit with
    | some q => if petitFits x.k q.objs n then s else s.sealPetit i
    | none => s
  let opened : Option State := match s1.store.spans[i].petit with
    | some _ => some s1
    | none => (s1.addrBlock i 1).map (fun y =>
        let (g, s2) := y.2.takeGen
        s2.updSpan i (fun x => { x with petit := some { addr := y.1, gen := g } }))
  match opened with
  | none => .error 0x31
  | some s2 => match s2.store.spans[i].petit with
    | none => .error 0x31
    | some q =>
      let first := petitUsed q.objs
      let q' := { q with
        objs := q.objs ++ [⟨hash, first, n, data.length⟩], plain := q.plain ++ padTo (4096 * n) data,
        durableAt := if durable then (match q.durableAt with | some t => some t | none => some s.now) else q.durableAt,
        lazyAt := match q.lazyAt with | some t => some t | none => some s.now }
      .ok ((q.addr, first, n), s2.updSpan i (fun x => { x with petit := some q' }))

/-! ### Reading a version -/

/-- A sector of data leaf `i` as the crypto engine brings it back from the lanes (R29): what was recorded, decrypted; fill as it is. -/
def Stripe.sectorBack (t : Stripe) (key i j : Nat) : List Byte :=
  let d := t.dataSector key i j
  if t.present ≤ i ∨ t.isFill (256 * i + j) then d else padTo 4096 (xtsDecrypt key (t.tweak i j) d)

/-- The plaintext of a stripe: as the buffer holds it until its leaves lie on media, then as they are read back (R29, R308). -/
def Stripe.bytesBack (t : Stripe) (key : Nat) : List Byte :=
  if t.state = .placed then
    ((List.range (ceilDiv t.plain.length 4096)).map (fun q => t.sectorBack key (q / 256) (q % 256))).flatten.take t.plain.length
  else t.plain

/-- Bytes of a stripe as the buffer or the media hold them. -/
def State.stripeBytes (s : State) (i : SpanId) (addr : Nat) : List Byte :=
  match s.store.spans[i].stripe? addr with
  | some t => t.bytesBack s.store.spans[i].key
  | none => match s.store.spans[i].petit with
    | some q => if q.addr = addr then q.plain else []
    | none => []

/-- The whole object. -/
def State.objectBytes (s : State) (e : ObjEntry) : List Byte :=
  if h : e.span < 8 then
    let i : SpanId := ⟨e.span, h⟩
    padTo e.size (match e.petit with
      | some (a, f, _) => ((s.stripeBytes i a).drop (4096 * f)).take e.size
      | none => (e.addrs.map (fun a => padTo (s.store.spans[i].k * leafBytes) (s.stripeBytes i a))).flatten)
  else []

/-- A leaf of a placed stripe cannot be delivered: its pack does not read, or it is among those named (R336). -/
def State.leafGone (s : State) (x : Span) (t : Stripe) (bad : List (Nat × Nat)) (leaf : Nat) : Bool :=
  match (t.locs.getD leaf none) with
  | some l => !s.packReads x l.pack || bad.contains (t.addr, leaf)
  | none => false

/-- A stripe can be delivered: it is in buffer memory, or at most m of its leaves are gone; absent leaves are known (R315, R336). -/
def State.stripeReads (s : State) (i : SpanId) (addr : Nat) (bad : List (Nat × Nat)) : Bool :=
  let x := s.store.spans[i]
  match x.stripe? addr with
  | none => true
  | some t => t.state ≠ .placed || decide (((List.range (t.k + t.m)).filter (s.leafGone x t bad)).length ≤ t.m)

/-- k other leaves of the leaf's stripe can be read: a read of it then asks for quick depth (R181, R336). Absent leaves are known. -/
def State.othersRead (s : State) (i : SpanId) (bad : List (Nat × Nat)) (addr leaf : Nat) : Bool :=
  let x := s.store.spans[i]
  match x.stripe? addr with
  | none => true
  | some t => decide (t.k ≤ ((List.range (t.k + t.m)).filter (fun j => j != leaf && !s.leafGone x t bad j)).length)

/-! ### Reads of leaves (R181, R186, R200, R336) -/

/-- The outcome calls for another read, on the next routine or through the other arm (R186). -/
def retryOutcome (o : Nat) : Bool := o == 0x20 || o == 0x22

/-- The outcome delivers the sector. -/
def goodOutcome (o : Nat) : Bool := o == 0 || o == 1

/-- The outcome delivers nothing and is final (R186). -/
def finalLoss (o : Nat) : Bool := o == 0x10 || o == 0x11 || o == 0x12 || o == 0x13 || o == 0x14 || o == 0x15

/-- The completion record of a routine tag on an arm, newest first (R210). -/
def State.recordOf (s : State) (p : PackId) (a : ArmId) (tag : Nat) : Option (List Byte) :=
  s.out.reverse.findSome? (fun o => match o with
    | .completion p' a' r => if p' = p.val ∧ a' = a.val ∧ fieldAt r 0 4 = tag then some r else none
    | _ => none)

/-- Outcome and ladder step of a leaf from the status words of its 256 sectors (R183): the first loss among them; a sector that did not come
to an end, or no delivery of it, leaves the leaf not read; else the highest step that a sector needed. -/
def leafOutcome (words : List Nat) : Nat × Nat :=
  let ends := words.map (fun w => (w % 256, w / 256 % 16))
  match ends.find? (fun e => finalLoss e.1), ends.find? (fun e => !goodOutcome e.1) with
  | some e, _ => e
  | none, some e => (if e.1 = 0x21 then 0x21 else 0x20, 0)
  | none, none => if words.length < 256 then (0x20, 0) else
    (if ends.any (fun e => e.1 == 1) then 1 else 0, (ends.map (fun e => e.2)).foldl max 0)

/-- An arm takes routines. -/
def State.armServes (s : State) (p : PackId) (a : ArmId) : Bool := let x := s.arm p a; !x.fmt.fault && x.link.state != .out

/-- The arm that reads a leaf: of those that serve a loaded one, the one that wrote it when both do (R310). -/
def State.readArm (s : State) (p : PackId) (band : Nat) : ArmId :=
  let a : ArmId := ⟨band % 2, by omega⟩
  let b := otherArm a
  let loaded := fun c => s.armServes p c && (s.arm p c).servo.mode.loaded
  if loaded a ∨ ¬ loaded b then a else b

/-- Sends the routine of a job: READ_LEAF, or VERIFY, at its depth (R211). A survivor of a rebuild counts as read (R340). -/
def State.sendJob (s : State) (j : LeafJob) (l : Locator) : State :=
  if h : l.pack < 32 then
    let p : PackId := ⟨l.pack, h⟩
    let (track, first) := s.packs[p].leafPlace l.band l.leaf
    let s1 := s.updStore (fun t => { t with
      reads := t.reads ++ [j],
      spans := if g : j.span < 8 then (if j.back = some 0 then
        t.spans.set j.span { t.spans[j.span] with survived := t.spans[j.span].survived.set l.pack (t.spans[j.span].survived[l.pack] + 1) h } g
        else t.spans) else t.spans })
    s1.layerRequest p ⟨j.arm % 2, by omega⟩ j.back (leafRequest (if j.verify then 3 else 0) j.full j.tag track first)
  else s

/-- A leaf's job for a command, or for background work. -/
def Store.job? (t : Store) (who : Option (Nat × Nat)) (verify : Bool) (span addr leaf : Nat) : Option LeafJob :=
  t.reads.find? (fun j => j.who = who ∧ j.verify = verify ∧ j.span = span ∧ j.addr = addr ∧ j.leaf = leaf)

/-- Asks for a leaf on media, once: at full depth where it is needed to reach k, where scrub verifies it, else at quick depth (R181). -/
def State.readLeaf (s : State) (i : SpanId) (addr leaf : Nat) (who : Option (Nat × Nat)) (verify : Bool) (back : Option Nat)
    (bad : List (Nat × Nat)) : State :=
  match s.store.job? who verify i.val addr leaf, s.store.spans[i].stripe? addr with
  | none, some t => match t.locs.getD leaf none with
    | some l =>
      if h : l.pack < 32 then
        let (tag, s1) := s.takeTag
        s1.sendJob { tag := tag, span := i.val, addr := addr, leaf := leaf, pack := l.pack, arm := (s.readArm ⟨l.pack, h⟩ l.band).val,
                     full := verify || !s.othersRead i bad addr leaf, verify := verify, who := who, back := back } l
      else s
    | none => s
  | _, _ => s

/-- A job is over, and its deliveries are used up. -/
def State.endJob (s : State) (j : LeafJob) (r : Nat × Nat) : State :=
  let s1 := s.updStore (fun t => { t with reads := t.reads.map (fun y => if y.tag = j.tag then { y with ended := some r } else y) })
  if h : j.pack < 32 then
    s1.updArm ⟨j.pack, h⟩ ⟨j.arm % 2, by omega⟩ (fun x => { x with received := x.received.filter (fun d => d.tag ≠ j.tag) })
  else s1

/-- A job's leaf is asked for again, through the other arm where that one serves (R186). -/
def State.retryJob (s : State) (j : LeafJob) : State :=
  let l := if h : j.span < 8 then (match s.store.spans[j.span].stripe? j.addr with
    | some t => t.locs.getD j.leaf none
    | none => none) else none
  match l with
  | none => s.endJob j (0x20, 0)
  | some l =>
    let a : ArmId := ⟨j.arm % 2, by omega⟩
    let arm := if h : j.pack < 32 then (if s.armServes ⟨j.pack, h⟩ (otherArm a) then otherArm a else a) else a
    let (tag, s1) := ((s.endJob j (0x20, 0)).updStore (fun t => { t with reads := t.reads.filter (fun y => y.tag ≠ j.tag) })).takeTag
    s1.sendJob { j with tag := tag, arm := arm.val } l

/-- A job that its routine has ended: the leaf's end, or another read of it (R182, R186). -/
def State.pollJob (s : State) (j : LeafJob) : State :=
  if h : j.pack < 32 ∧ j.ended.isNone then
    let p : PackId := ⟨j.pack, h.1⟩
    let a : ArmId := ⟨j.arm % 2, by omega⟩
    match s.recordOf p a j.tag with
    | none => s
    | some _ =>
      let e := leafOutcome (((s.arm p a).received.filter (fun d => d.tag = j.tag)).map (fun d => d.status))
      if retryOutcome e.1 then s.retryJob j else s.endJob j e
  else s

/-- Takes note of every read of a leaf that has come to an end. While a fail-over keeps the completions from the hub none has (R25). -/
def State.pollJobs (s : State) : State :=
  if s.clusters.failOver.isSome then s else s.store.reads.foldl State.pollJob s

/-- Leaves of a stripe whose reads have ended without a delivery. -/
def State.undelivered (s : State) (i : SpanId) (who : Option (Nat × Nat)) : List (Nat × Nat) :=
  (s.store.reads.filter (fun j => j.who == who && j.span == i.val && j.ended.any (fun e => !goodOutcome e.1))).map
    (fun j => (j.addr, j.leaf))

/-- Leaves of a stripe that a reader needs: its data leaves, and every leaf once one of them cannot be had (R336). A stripe in buffer memory
needs none. -/
def State.leavesWanted (s : State) (i : SpanId) (who : Option (Nat × Nat)) (addr : Nat) : List Nat :=
  let x := s.store.spans[i]
  match x.stripe? addr with
  | none => []
  | some t =>
    if t.state ≠ .placed then []
    else
      let bad := s.undelivered i who
      let data := List.range t.present
      let all := if data.any (s.leafGone x t bad) then data ++ (List.range t.m).map (fun j => t.k + j) else data
      all.filter (fun j => (t.locs.getD j none).isSome && !s.leafGone x t [] j)

/-- Asks for the leaves that a command needs of some stripes, and tells whether reads of them are still under way. -/
def State.gather (s : State) (i : SpanId) (who : Option (Nat × Nat)) (addrs : List Nat) : State × Bool :=
  let s1 := addrs.foldl (fun s a => (s.leavesWanted i who a).foldl (fun s j => s.readLeaf i a j who false none (s.undelivered i who)) s) s
  (s1, addrs.any (fun a => (s1.leavesWanted i who a).any (fun j => match s1.store.job? who false i.val a j with
    | some y => y.ended.isNone
    | none => false)))

/-- A background reader's leaf: the state that has asked for it, and once its read has ended, whether it was delivered. -/
def State.fetchLeaf (s : State) (i : SpanId) (addr leaf : Nat) (back : Nat) : State × Option (Nat × Nat) :=
  match s.store.job? none false i.val addr leaf with
  | some j => (s, j.ended)
  | none => (s.readLeaf i addr leaf none false (some back) (s.undelivered i none), none)

/-- Drops the jobs of a command, or those of background work on a leaf. -/
def State.dropJobs (s : State) (p : LeafJob → Bool) : State := s.updStore (fun t => { t with reads := t.reads.filter (fun j => !p j) })

/-- Counts a stripe lost in its span, once (R336). -/
def State.countLost (s : State) (i : SpanId) (addr : Nat) : State :=
  match s.store.spans[i].stripe? addr with
  | none => s
  | some t =>
    if t.lostCounted then s
    else (s.updStripe i addr (fun t => { t with lostCounted := true })).updSpan i (fun x => { x with lostStripes := sat32 x.lostStripes 1 })

/-! ### What the object layer does with a sector's outcome (R186) -/

/-- A leaf recovered at step 3 or later is queued for relocation; one not delivered is regenerated and written elsewhere, when its
stripe allows it; outcome 0x13 counts a fault for the pack (R186, R336). -/
def State.outcomeAction (s : State) (i : SpanId) (addr leaf outcome step : Nat) : State :=
  let x := s.store.spans[i]
  match x.stripe? addr with
  | none => s
  | some t =>
    if outcome = 1 ∧ 3 ≤ step then
      s.updStore (fun st => if st.relocate.contains (i.val, addr, leaf) then st else { st with relocate := st.relocate ++ [(i.val, addr, leaf)] })
    else if finalLoss outcome then
      let s1 := match t.locs.getD leaf none with
        | some l => if h : l.pack < 32 then (if outcome = 0x13 then s.raisePack ⟨l.pack, h⟩ 2 else s) else s
        | none => s
      if s.stripeReads i addr [(addr, leaf)] then (s1.moveLeaf i addr leaf false none (fun _ => false)).getD s1 else s1
    else s

/-! ### Journal (R331 to R334) -/

/-- A stripe named by a change is placed. -/
def State.isPlaced (s : State) (x : Nat × Nat) : Bool := s.store.isPlaced x

/-- The bodies of a change's records in order (R332). -/
def State.changeBodies (s : State) (c : Change) : List JournalBody :=
  c.needs.filterMap (fun x => if h : x.1 < 8 then (s.store.spans[x.1].stripe? x.2).map (fun t => JournalBody.stripe x.1 t) else none)
    ++ (match c.entry with
      | some e => e.extents.map (fun a => JournalBody.extent a e) ++ [.counter s.store.counter, .image e]
      | none => [.counter s.store.counter, .freed c.slot c.hash])

/-- Queues records; the last one carries the change. -/
def State.queueBodies (s : State) (l : List JournalBody) (fin : Option Change) : State :=
  let n := l.length
  s.updStore (fun t =>
    { t with nextSeq := t.nextSeq + n,
             journal := t.journal ++ (l.zipIdx).map (fun x => ⟨t.nextSeq + x.2, x.1, if x.2 + 1 = n then fin else none⟩) })

/-- Queues the records of every change whose stripes are placed, in order for each slot (R332, R333). -/
def State.queueChanges (s : State) : State :=
  let step := fun (r : State × List Change) (c : Change) =>
    if c.needs.all s.isPlaced ∧ ¬ r.2.any (fun d => d.slot = c.slot) then
      (r.1.queueBodies (s.changeBodies c) (some c), r.2)
    else (r.1, r.2 ++ [c])
  let (s1, kept) := s.store.changes.foldl step (s, [])
  s1.updStore (fun t => { t with changes := kept })

/-! ### Visibility (R323, R324) -/

/-- Stripes of a version that no live version names any more are dead, but for those of a version that a GET holds (R324); a pack that no
stripe names then is empty (R341). -/
def State.killUnnamed (s : State) : State :=
  let objs := s.store.objs
  let pendingNames := fun (i addr : Nat) => s.store.changes.any (fun c => c.needs.contains (i, addr))
    || s.store.journal.any (fun r => match r.fin with | some c => c.needs.contains (i, addr) | none => false)
    || namedBy (s.store.gets.map (fun g => g.entry)) i addr
  (s.updStore (fun t =>
    { t with spans := Vector.ofFn (fun i : Fin 8 =>
        let x := t.spans[i]
        { x with stripes := x.stripes.map (fun y =>
          if namedBy objs i.val y.addr ∨ pendingNames i.val y.addr then y else { y with state := .dead }) }) })).noteEmpty

/-- The entry of a change replaces what its slot held. -/
def State.makeVisible (s : State) (c : Change) : State :=
  (s.updStore (fun t =>
    let rest := t.objs.filter (fun e => e.hash ≠ c.hash)
    { t with objs := match c.entry with | some e => rest ++ [e] | none => rest })).killUnnamed

/-- Frees the context or the context block of a command. -/
def State.releaseContext (s : State) (ring slot : Nat) : State :=
  s.updSvc (fun v =>
    { v with tokens := v.tokens.filter (fun t => ¬(t.ring = ring ∧ t.slot = slot)),
             suspended := v.suspended.filter (fun b => ¬(b.ctx.ring = ring ∧ b.ctx.slot = slot)),
             seqs := v.seqs.map (fun q => { q with ctx := q.ctx.map (fun x => if x.busy ∧ x.ring = ring ∧ x.slot = slot then {} else x) }) })

/-- A record commits: a durable change becomes visible and its command completes (R323, R332). -/
def State.commitRecord (s : State) (r : JournalRec) : State :=
  let s1 := s.updStore (fun t => { t with disk := { t.disk.apply r with log := t.disk.log ++ [{ r with fin := none }] }, committed := r.seq })
  match r.fin with
  | none => s1
  | some c => match c.durable with
    | none => s1.killUnnamed
    | some (ring, slot) =>
      let s2 := (s1.makeVisible c).releaseContext ring slot
      match c.entry with
      | some e => s2.completeWith ring slot 0 e.size e.version
      | none => s2.completeWith ring slot 0 0 c.gen

/-- The first `n` journal records commit (R332). -/
def State.commitJournal (s : State) (n : Nat) : State :=
  let l := s.store.journal.take n
  l.foldl State.commitRecord (s.updStore (fun t => { t with journal := t.journal.drop n }))

/-- Band slots and next leaf slots are part of the pack metadata. -/
def State.saveBands (s : State) : State :=
  s.updStore (fun t =>
    { t with disk := { t.disk with spans := Vector.ofFn (fun i : Fin 8 =>
        { t.disk.spans[i] with bands := t.spans[i].bands, members := t.spans[i].members, ids := t.spans[i].ids }) } })

/-! ### Waiting -/

/-- The size of the pool of context blocks (R226). -/
def State.poolSize (s : State) : Nat := s.param 0x7430 7

/-- The context is written to a context block with the token it waits for, and freed; with no block free it waits (R218, R226). -/
def State.suspendCtx (s : State) (q : SeqId) (c : CtxId) (token : Nat) : State :=
  let x := s.ctx q c
  if s.svc.suspended.length < s.poolSize then
    (s.updSvc (fun v => { v with suspended := v.suspended ++ [⟨{ x with wait := .none, sinceSafe := 0, forcedSafe := false }, token⟩] })).freeCtx q c
  else
    (s.updCtx q c (fun x => { x with wait := .block token })).updSvc (fun v => { v with delayed := sat32 v.delayed 1 })

/-- A request to an engine goes out with its token (R219). -/
def State.newToken (s : State) (q : SeqId) (ring slot engine : Nat) (body : List Reg64) : Nat × State :=
  let id := s.svc.nextToken
  (id, (s.updSvc (fun v => { v with nextToken := id + 1, tokens := v.tokens ++ [⟨id, q.val, ring, slot, engine, body, 0⟩] })).send
    (.engine engine id body))

/-! ### Key locks (R325, R326) -/

/-- The lock of a key hash. -/
def Store.lock? (t : Store) (hash : Nat) : Option KeyLock := t.locks.find? (fun k => k.hash = hash)

/-- Takes a key's lock for a command: true where it holds it. -/
def State.takeLock (s : State) (hash ring slot : Nat) : Bool × State :=
  match s.store.lock? hash with
  | none => (true, s.updStore (fun t => { t with locks := t.locks ++ [{ hash := hash, holder := some (ring, slot) }] }))
  | some k =>
    if k.holder = some (ring, slot) then (true, s)
    else
      (false, if k.waiters.contains (ring, slot) then s
        else s.updStore (fun t => { t with locks := t.locks.map (fun y =>
          if y.hash = hash then { y with waiters := y.waiters ++ [(ring, slot)] } else y) }))

end Sys2Proof.Machine
end

