-- ==== Sys2Proof/Machine/Service.lean ====
section
/-! DEFINITION. Service micro-operations (R196, R212 to R219): granule loads and stores, dispatch, suspension, commit and abort,
engine requests and tokens, and the end of a routine or a command. -/

namespace Sys2Proof.Machine

/-! ### Granules of buffer memory -/

/-- LDL: the context waits for a granule; an address that is not one is a microcode fault (R196, R198, R212). -/
def execLdl (e : Eng) (s : State) : Res :=
  .next (s.issue e 0x12 (fun w s =>
    let addr := (s.thread e).regs.address w
    match e with
    | .service q c => if addr % 64 = 0 ∧ addr + 64 ≤ s.bufSize then s.updCtx q c (fun x => { x with wait := .load 16 addr }) else s.engFault e
    | .formatter _ _ => s))

/-- The 64 bytes of G8 to G15 (R196). -/
def Regs.body (r : Regs) : List Reg64 := (List.range 8).map (fun i => r.g.toList.getD (8 + i) 0)

/-- Bytes of 64-bit words. -/
def wordBytes (l : List Reg64) : List Byte := (l.map (fun v => natBytes 8 v.toNat)).flatten

/-- STL writes a granule (R196, R198). -/
def execStl (e : Eng) (s : State) : Res :=
  .next (s.issue e 0x13 (fun w s =>
    let t := s.thread e
    let addr := t.regs.address w
    if addr % 64 = 0 ∧ addr + 64 ≤ s.bufSize then
      let (s1, l) := s.bufWrite .service false addr (wordBytes t.regs.body) .none
      (s1.advance e).raiseAll l
    else s.engFault e))

/-- Sets G8 to G15. -/
def Regs.setBody (r : Regs) (l : List Nat) : Regs :=
  (List.range 8).foldl (fun r i => r.set ⟨(8 + i) % 16, by omega⟩ (BitVec.ofNat 64 (l.getD i 0))) r

/-- Eight free values. -/
def State.takeEight (s : State) : Nat → List Nat × State
  | 0 => ([], s)
  | n + 1 => let (v, s1) := s.takeFree; let (l, s2) := s1.takeEight n; (v :: l, s2)

/-- A load from buffer memory ends (R212): the register or registers take the data; after a read that returns an error their values
are open. -/
def execMemoryLoadComplete (q : SeqId) (c : CtxId) (x : List DramRead) (e : SramErr) (s : State) : Res :=
  .next (match (s.ctx q c).wait with
    | .load rd addr =>
      let n := if rd < 16 then 8 else 64
      let (d, s1, l) := s.bufRead .service false addr n x e
      let (words, s2) := match d with
        | some bytes => ((List.range 8).map (fun i => fieldAt bytes (8 * i) 8), s1)
        | none => s1.takeEight 8
      (s2.updCtx q c (fun y =>
        { y with
          wait := .none, pc := y.pc + 1,
          regs := if h : rd < 16 then y.regs.set ⟨rd, h⟩ (BitVec.ofNat 64 (words.getD 0 0)) else y.regs.setBody words })).raiseAll l
    | _ => s)

/-! ### End -/

/-- A routine's outcome from END's operand (R209). -/
def Formatter.endOutcome (f : Formatter) (operand : Nat) : Nat :=
  if operand ≤ 1 ∧ f.underrun then 0x1B
  else if operand = 0 ∧ (f.satOut ≠ 0 ∨ f.incomplete ≠ 0 ∨ f.badLanes ≠ 0) then 1
  else operand

/-- Opcodes whose status block carries a size, or a value, at SUCCESS (R372). -/
def opSized (op : Nat) : Bool := op == 1 || op == 2 || op == 3 || op == 5 || op == 0x80 || op == 0x83
def opValued (op : Nat) : Bool := op == 1 || op == 2 || op == 3 || op == 4 || op == 0x80

/-- The status block of a command that its routine ends: an aborted command that has not committed ends ABORTED (R382). The size and
value that R372 gives the opcode come from the routine in a way that is not stated. -/
def State.endService (s : State) (q : SeqId) (c : CtxId) (status : Nat) : State :=
  let x := s.ctx q c
  let aborted : Bool := match s.svc.cmd x.ring x.slot with | some y => y.aborted && !y.committed | none => false
  let st := if aborted then 1 else status % 65536
  let op := fieldAt x.chain 0 1
  let (a, s1) := s.takeFree
  let (b, s2) := s1.takeFree
  let size := if (st = 0 ∧ opSized op) ∨ st = 0x34 then a % 2 ^ 40 else 0
  let value := if (st = 0 ∧ opValued op) ∨ st = 0x34 ∨ st = 0x22 ∨ st = 0x42 then b % 2 ^ 64 else 0
  let s3 := s2.updSvc (fun v => { v with tokens := v.tokens.filter (fun t => ¬(t.ring = x.ring ∧ t.slot = x.slot)) })
  s3.endCommand q c st size value

/-- The command has tokens outstanding. -/
def State.owesTokens (s : State) (ring slot : Nat) : Bool :=
  s.svc.tokens.any (fun t => t.ring == ring && t.slot == slot && t.state == 0)

/-- A command ends once its outstanding tokens have completed (R219). -/
def State.tryEnd (s : State) (q : SeqId) (c : CtxId) (status : Nat) : State :=
  let x := s.ctx q c
  if s.owesTokens x.ring x.slot then s.updCtx q c (fun x => { x with wait := .ending status }) else s.endService q c status

/-- END ends a routine, or a command (R196, R209, R210, R219). -/
def execEnd (e : Eng) (s : State) : Res :=
  .next (s.issue e 0x1C (fun w s =>
    match e with
    | .formatter p a => (s.closeRoutine p a 0x20 (fun f => f.endOutcome (w.imm.toNat % 256))).kick p a
    | .service q c => s.tryEnd q c (w.imm.toNat % 65536)))

/-- DISP on a dispatch entry. -/
def State.dispatch (s : State) (q : SeqId) (c : CtxId) (d : Nat) : State :=
  if ¬ d.testBit 14 then s.tryEnd q c 0x10
  else if d.testBit 15 ∧ ¬ (s.ctx q c).admin then s.tryEnd q c 0x11
  else s.updCtx q c (fun x => { x with pc := d % 2 ^ 14 })

/-- DISP jumps to the routine of the opcode; an entry that is not valid, or an admin one on another ring, ends the command (R213,
R214); an uncorrectable entry is a fault of the sequencer, a single-bit error is corrected, written back and counted (R221, R222). -/
def execDisp (e : Eng) (s : State) : Res :=
  .next (s.issue e 0x1D (fun _ s =>
    match e with
    | .service q c =>
      let x := s.ctx q c
      let op := fieldAt x.chain 0 1
      let d := (s.svc.dispatch.getD op 0).toNat
      let here := fun x : Nat × Nat × Bool => x.1 = q.val && x.2.1 = op
      if s.svc.dispatchMarks.any (fun x => here x && x.2.2) then
        (s.updSvc (fun v => { v with uncorrectable := sat32 v.uncorrectable 1 })).engFault e
      else if s.svc.dispatchMarks.any here then
        ((s.updSvc (fun v => { v with corrected := sat32 v.corrected 1, dispatchMarks := v.dispatchMarks.filter (fun x => !here x) })).raise
          176).dispatch q c d
      else s.dispatch q c d
    | .formatter _ _ => s))

/-! ### Suspension -/

/-- SUSPEND (R218). -/
def execSuspend (e : Eng) (s : State) : Res :=
  .next (s.issue e 0x23 (fun w s =>
    match e with
    | .service q c => (s.advance e).suspendCtx q c ((s.thread e).regs.get w.ra).toNat
    | .formatter _ _ => s))

/-- A context block frees for a context that waits at SUSPEND, which is a safe point (R215, R216, R218). -/
def execContextBlockAvailable (q : SeqId) (c : CtxId) (s : State) : Res :=
  .next (match (s.ctx q c).wait with
    | .block token =>
      if s.svc.suspended.length < s.poolSize then
        match s.safeCheck q c with
        | .hold => s.updCtx q c (fun x => { x with held := true })
        | .abort => s.toAbort q c
        | .go => s.suspendCtx q c token
      else s
    | _ => s)

/-- A suspended command may resume: its token has completed, or it has been granted its key's lock (R218, R325). -/
def State.resumable (s : State) (b : Suspended) : Bool :=
  if b.token = 0 then s.store.locks.any (fun k => k.holder = some (b.ctx.ring, b.ctx.slot))
  else match s.svc.token b.token with
    | some t => t.state ≠ 0
    | none => true

/-- A suspended command resumes in a free context of any service sequencer, at its abort handler when an abort is registered and it
has not committed (R218). -/
def execContextResume (ring slot : Nat) (s : State) : Res :=
  .next (
    if s.clusters.failOver.isSome then s
    else match s.svc.suspended.find? (fun b => b.ctx.ring = ring ∧ b.ctx.slot = slot), s.freeContext with
      | some b, some (q, c) =>
        let aborted : Bool := match s.svc.cmd ring slot with | some y => y.aborted && !y.committed | none => false
        if aborted ∨ s.resumable b then
          let s1 := s.updSvc (fun v => { v with suspended := v.suspended.filter (fun y => ¬(y.ctx.ring = ring ∧ y.ctx.slot = slot)) })
          s1.updCtx q c (fun _ => { b.ctx with pc := if aborted then s.abortWord b.ctx else b.ctx.pc })
        else s
      | _, _ => s)

/-! ### Commit and abort -/

/-- COMMIT: with the abort flag set it commits nothing and takes the abort handler; a second one has no effect (R217). -/
def execCommit (e : Eng) (s : State) : Res :=
  .next (s.issue e 0x24 (fun _ s =>
    match e with
    | .service q c =>
      let x := s.ctx q c
      match s.svc.cmd x.ring x.slot with
      | some y => if y.committed then s.advance e else if y.aborted then s.toAbort q c else (s.commitCmd x.ring x.slot).advance e
      | none => s.advance e
    | .formatter _ _ => s))

/-- ABTSET registers an abort and tells in RD what it found (R217). -/
def execAbtset (e : Eng) (s : State) : Res :=
  .next (s.issue e 0x25 (fun w s =>
    let v := ((s.thread e).regs.get w.ra).toNat
    let (r, s1) := s.abtset (v / 2 ^ 32 % 2 ^ 16) (v % 2 ^ 32)
    let t := s1.thread e
    s1.setThread e { t with regs := t.regs.set w.rd (BitVec.ofNat 64 r), pc := t.pc + 1 }))

/-! ### Engines and tokens -/

/-- Tokens outstanding of a sequencer. -/
def State.tokensOut (s : State) (q : SeqId) : Nat := (s.svc.tokens.filter (fun t => t.seq = q.val && t.state = 0)).length

/-- Marks a token complete. -/
def State.markToken (s : State) (id : Nat) (error : Bool) : State :=
  s.updSvc (fun v => { v with tokens := v.tokens.map (fun t => if t.id = id ∧ t.state = 0 then { t with state := if error then 2 else 1 } else t) })

/-- The formatter request of an ENG on engine 6: 128 bytes read from buffer memory at G8 for the arm in G9 (R200, R219). A read that
fails, or an address that is not a multiple of 64, completes the token with an error. -/
def State.engFormatter (s : State) (id : Nat) (body : List Reg64) : State :=
  let addr := (body.getD 0 0).toNat
  let n := (body.getD 1 0).toNat % 64
  let p : PackId := ⟨n / 2 % 32, by omega⟩
  let a : ArmId := ⟨n % 2, by omega⟩
  if addr % 64 ≠ 0 then s.markToken id true
  else
    let (d, s1, l) := s.bufRead .service false addr 128 [] .none
    match d with
    | some req => (s1.formatterRequest p a req).raiseAll l
    | none => (s1.markToken id true).raiseAll l

/-- ENG issues its request and gives the token in RD (R219); on engine 3 it waits for a place in its channel's queue (R428); on engine 4 it brings in the descriptors of a chain not yet framed (R213,
R362). -/
def State.engIssue (s : State) (q : SeqId) (c : CtxId) (w : Word) : State :=
  let x := s.ctx q c
  let body := x.regs.body
  let (id, s1) := s.newToken q x.ring x.slot w.sel body
  let s2 := s1.updCtx q c (fun x => { x with wait := .none, regs := x.regs.set w.rd (BitVec.ofNat 64 id), pc := x.pc + 1 })
  if w.sel = 3 then
    let s3 := s2.submitMover (wordBytes body) id
    if s3.moverPlaced id then s3 else s3.updCtx q c (fun x => { x with wait := .place id })
  else if w.sel = 4 then s2.readSlots x.ring
  else if w.sel = 6 then s2.engFormatter id body
  else s2

/-- ENG waits while its sequencer has 1,024 tokens outstanding (R219). -/
def execEng (e : Eng) (s : State) : Res :=
  .next (s.issue e 0x30 (fun w s =>
    match e with
    | .service q c =>
      if 1024 ≤ s.tokensOut q then s.updCtx q c (fun x => { x with wait := .tokens }) else s.engIssue q c w
    | .formatter _ _ => s))

/-- What a token's completion sets going: an ENG that waits for room, and ENDs that waited for it (R219). -/
def State.afterToken (s : State) (q : SeqId) : State :=
  let s1 := match (List.finRange 16).find? (fun c : Fin 16 => (s.ctx q c).wait = .tokens) with
    | some c => if s.tokensOut q < 1024 then s.engIssue q c (s.wordOf (.service q c)) else s
    | none => s
  (List.finRange 16).foldl (fun s (k : Fin 16) => (List.finRange 16).foldl (fun s (c : Fin 16) =>
    match (s.ctx k c).wait with
    | .ending st => if s.owesTokens (s.ctx k c).ring (s.ctx k c).slot then s else s.endService k c st
    | _ => s) s) s1

/-- A token completes, with or without an error (R219). -/
def State.completeToken (s : State) (id : Nat) (error : Bool) : State :=
  match s.svc.token id with
  | none => s
  | some t =>
    if t.state ≠ 0 then s
    else (s.markToken id error).afterToken ⟨t.seq % 16, by omega⟩

/-- A response of the cluster service is held as a status block is (R504). -/
def State.holdsToken (s : State) (t : Token) : Bool :=
  t.engine == 5 && s.mirrorOwed

/-- An engine completes a token; the cluster service does not during a fail-over, which has fenced its cluster (R220, R507). For
reads of leaves of a span, `reads` is what they reported, on which the object layer acts (R186, R219). -/
def execTokenComplete (id : Nat) (error : Bool) (x : SpanId) (reads : List LeafRead) (s : State) : Res :=
  .next (match s.svc.token id with
    | none => s
    | some t =>
      if t.state ≠ 0 ∨ (t.engine = 5 ∧ s.clusters.failOver.isSome) ∨ s.heldTokens.any (fun x => x.1 = id) then s
      else
        let s1 := reads.foldl (fun s r => s.outcomeAction x r.addr r.leaf r.outcome r.step) s
        if s1.holdsToken t then { s1 with heldTokens := s1.heldTokens ++ [(id, error, s1.clusters.mirrorSent)] }
        else s1.completeToken id error)

/-- The tokens that brought in the chain of a ring's slot complete (R213, R219). -/
def State.chainRead (s : State) (ring slot : Nat) : State :=
  ((s.svc.tokens.filter (fun t => t.engine = 4 ∧ t.ring = ring ∧ t.slot = slot)).map (fun t => t.id)).foldl
    (fun s id => s.completeToken id false) s

/-- A framed chain of a ring: C advances, the command is in flight, the tokens that brought it in are
complete, an abort registered against one of its slots takes effect,
then the checks of R369 (R371, R380). -/
def State.frameChain (s : State) (r : Ring) (q : SeqId) (c : CtxId) (len : Nat) : State :=
  let l := r.fetched.take (64 * len)
  let first := r.cons
  let mine := fun y : CmdEntry => y.ring = r.num && decide ((y.slot + 2 ^ 32 - first) % 2 ^ 32 < len)
  let hit := s.svc.cmds.any (fun y => mine y && y.aborted)
  let s1 := s.updRing r.num (fun r =>
    { r with cons := (r.cons + len) % 2 ^ 32, framing := none, fetched := r.fetched.drop (64 * len),
             chains := r.chains ++ [{ first := first, len := len }] })
  let s1 := s1.mirrorRing r.num
  let s2 := { s1 with svc := { s1.svc with
      cmds := s1.svc.cmds.filter (fun y => !mine y) ++ [({ ring := r.num, slot := first, aborted := hit } : CmdEntry)] } }
  let s3 := (s2.updCtx q c (fun x => { x with chain := l })).chainRead r.num first
  if hit then s3.endCommand q c 1 0 0
  else match s.chainCheck r l with
    | some st => s3.endCommand q c st 0 0
    | none => s3

/-- The next chain of a ring is framed once all its slots are covered by a doorbell and read (R371). -/
def execChainFrame (ring : Nat) (s : State) : Res :=
  .next (match s.ring? ring with
    | none => s
    | some r => match r.framing with
      | none => s
      | some (q, c) =>
        let len := chainLen r.fetched
        if r.fetched.length < 64 * len ∨ r.reading ≠ 0 ∨ r.waiting < len ∨ ¬ s.framed r.admin then s
        else s.frameChain r q c len)

/-- A context has issued 6,400 microwords since its last safe point: a corrected-class fault, and its next microword is a safe point
(R215). -/
def execSafePointOverrun (q : SeqId) (c : CtxId) (s : State) : Res :=
  .next (
    let x := s.ctx q c
    if x.busy ∧ 6400 ≤ x.sinceSafe ∧ ¬ x.forcedSafe then
      ((s.updCtx q c (fun x => { x with forcedSafe := true })).updSvc (fun v => { v with overruns := sat32 v.overruns 1 })).raise 178
    else s)

end Sys2Proof.Machine
end

