-- ==== Sys2Proof/Machine/Boot.lean ====
section
/-! DEFINITION. Boot and SelfTest (R402, R470 to R473, R518, R527 to R535, R538): the steps of the start, its failures and retries, the
images and the dictionary's layers. -/

namespace Sys2Proof.Machine

/-! ### Images in flash -/

/-- Check 1 of R535: header fields within R532 and the product code. -/
def State.headerOk (s : State) (x : FwImage) : Bool := x.headerOk && (x.product == 0 || x.product == partProduct s.part)

/-- Check 2 of R535: the slot's revocation fuse is intact, and its fused hash is that of the root public key. -/
def State.rootOk (s : State) (x : FwImage) : Bool :=
  !s.fuses.rootRevoked.testBit x.rootSlot && (sha384 x.rootKey).toNat == s.fuses.rootHash.toList.getD x.rootSlot 0

/-- The number of words of a microcode section, its dispatch entries, its revision, its words (R224). -/
def wordCount (l : List Byte) : Nat := fieldAt l 8 4
def dispatchCount (l : List Byte) : Nat := fieldAt l 0xC 2
def microRevision (l : List Byte) : Nat := fieldAt l 0x10 4
def dispatchOf (l : List Byte) : List (BitVec 32) :=
  (List.range (dispatchCount l)).map (fun i => BitVec.ofNat 32 (fieldAt l (0x60 + 4 * i) 4))
def microwords (l : List Byte) : List Microword := wordsOfBytes (l.drop (0x60 + 4 * dispatchCount l)) (wordCount l)

/-- The header of a microcode section lies within R224, its CRC and the digest of its body hold. -/
def microHeaderOk (service : Bool) (l : List Byte) : Bool :=
  let n := wordCount l
  fieldAt l 0 4 == 0x434D564F && fieldAt l 4 2 == 1 && fieldAt l 6 1 == (if service then 2 else 1) && fieldAt l 7 1 == 0
    && (if service then decide (1 ≤ n ∧ n ≤ 16384) else decide (64 ≤ n ∧ n ≤ 4096))
    && dispatchCount l == (if service then 256 else 0) && fieldAt l 0xE 2 == 0
    && fieldAt l 0x14 4 == 4 * dispatchCount l + 16 * n && zeroSpan l 0x18 8 && zeroSpan l 0x50 12
    && areaOk (l.take 96) 96 && decide (96 + 4 * dispatchCount l + 16 * n ≤ l.length)
    && (sha384 ((l.drop 96).take (4 * dispatchCount l + 16 * n))).toNat == fieldAt l 0x20 48

/-- A dispatch entry's reserved bits are zero, and a VALID one's START and ABORT lie within the words (R213, R225). -/
def dispatchOk (count : Nat) (d : BitVec 32) : Bool :=
  decide (d.toNat < 2 ^ 30) && (!d.toNat.testBit 14 || (decide (d.toNat % 2 ^ 14 < count) && decide (d.toNat / 2 ^ 16 < count)))

/-- A microcode section passes R225. -/
def microOk (service : Bool) (l : List Byte) : Bool :=
  microHeaderOk service l && (microwords l).all (fun m => wordLegal service (wordCount l) (splitWord m))
    && (dispatchOf l).all (dispatchOk (wordCount l))

/-- Checks 1 to 4 of R535, as an image state: 1 passed, 2 rejected, 3 refused for its security version. -/
def State.headState (s : State) (x : FwImage) : Nat :=
  if ¬ s.headerOk x ∨ ¬ s.rootOk x ∨ ¬ x.signatureOk then 2
  else if x.securityVersion < s.fuses.securityVersion then 3 else 1

/-- Checks 5 and 6 of R535: the tag, then the sections, the key list and the microcode. -/
def payloadOk (x : FwImage) : Bool :=
  x.tagOk && sectionsOk x && keyListOk (x.section 1) && microOk false (x.section 3) && microOk true (x.section 4)

/-- The image state of R551 after every check of R535: 0 empty, 1 valid, 2 rejected, 3 refused. -/
def State.imageStateOf (s : State) (x : Option FwImage) : Nat :=
  match x with
  | none => 0
  | some x => if s.headState x ≠ 1 then s.headState x else if payloadOk x then 1 else 2

/-- The copy of the boot selector that decides, with what it holds: valid with the higher sequence (R531). -/
def Flash.decides (f : Flash) : Option (Fin 2 × Selector) :=
  match parseSelector f.selector[0], parseSelector f.selector[1] with
  | some a, some b => if a.seq < b.seq then some (1, b) else some (0, a)
  | some a, none => some (0, a)
  | none, some b => some (1, b)
  | none, none => none

/-- The image preferred (R531): A with no valid selector copy. -/
def Flash.preferred (f : Flash) : Fin 2 :=
  match f.decides with
  | some (_, x) => if x.preferred = 1 then 1 else 0
  | none => 0

def otherImage (i : Fin 2) : Fin 2 := if i = 0 then 1 else 0

/-- The start failure code when no image can be run (R535): 0x31 when every image present was refused for its security version. -/
def failCode (states : List Nat) : Nat :=
  let present := states.filter (fun v => v ≠ 0)
  if ¬ present.isEmpty ∧ present.all (fun v => v == 3) then 0x31 else 0x30

/-- The image that Boot runs, the preferred one first, with what it leaves in the window: states, keys, revision (R535, R551). -/
def State.pickImage (s : State) : Except Nat (FwImage × State) :=
  let st := s.flash.image.map s.imageStateOf
  let p := s.flash.preferred
  let q := otherImage p
  let run := fun i : Fin 2 => match s.flash.image[i] with
    | some x => Except.ok (x, { s with window := { s.window with
        running := i.val, imageState := if i = p then (Vector.replicate 2 0).set i.val st[i] i.isLt else st,
        keys := keysOf (x.section 1), revision := x.revision, writing := x.writingRoutines } })
    | none => .error 0x30
  if st[p] = 1 then run p else if st[q] = 1 then run q else .error (failCode st.toList)

/-- Headers, root keys, signatures and versions come before the channels' training ends (R527): a failure code when no image passes. -/
def State.headFails (s : State) : Option Nat :=
  let st := s.flash.image.toList.map (fun x => match x with | some y => s.headState y | none => 0)
  if st.any (fun v => v == 1) then none else some (failCode st)

/-! ### Dictionary layers (R470, R473) -/

/-- Of two copies, the one that passes with the higher revision, copy 0 when they are equal (R530). -/
def pickCopy (ok : DictImage → Bool) (v : Vector (Option DictImage) 2) : Option (Fin 2 × DictImage) :=
  match v[0].filter ok, v[1].filter ok with
  | some a, some b => if a.revision < b.revision then some (1, b) else some (0, a)
  | some a, none => some (0, a)
  | none, some b => some (1, b)
  | none, none => none

/-- The state of an overlay slot (R473, R482), over the values beneath. -/
def State.overlaySlot (s : State) (under : List (Nat × Nat)) (n : Fin 16) : OverlaySt :=
  match s.flash.overlay[n] with
  | none => {}
  | some x => if s.dictImageOk 2 n.val under x then ⟨1, x.name, x.revision, true, imageSets x⟩ else { state := 2 }

/-- The layers are read and applied (R470): base image, stored layer, overlays of the boot mask but slot 3. No valid base image is start
failure 0x32. -/
def State.loadLayers (s : State) : Except Nat State :=
  match pickCopy (s.dictImageOk 1 0 []) s.flash.base with
  | none => .error 0x32
  | some (i, b) =>
    let base := layOver s.part [] (imageSets b)
    let st := pickCopy (s.dictImageOk 3 0 base) s.flash.stored
    let vals := match st with | some (_, x) => layOver s.part base (imageSets x) | none => base
    let code := match st with
      | some _ => 1
      | none => if s.flash.stored.toList.any Option.isSome then 2 else 0
    let ov : Vector OverlaySt 16 := Vector.ofFn (fun n : Fin 16 => s.overlaySlot vals n)
    let is := fun (n : Fin 16) (v : Nat) => ov[n].state == v
    let s1 : State := { s with
      dict := { vals := vals, base := base }, dev := { s.dev with motorLoaded := true },
      window := { s.window with baseUsed := some i.val },
      layers := { s.layers with
        overlays := ov, mask := 0, storedState := code, baseName := b.name, baseRevision := b.revision, baseDigest := b.digest } }
    let want := s1.param 0x2423 5
    let mask : Nat := (List.finRange 16).foldl (fun (m : Nat) n =>
      if want.testBit n.val && n.val != 3 && is n 1 then m + 2 ^ n.val else m) 0
    let s2 := (List.finRange 16).foldl (fun (s : State) n =>
      if is n 2 then s.record { type := 0x50, code := 3, detail := detailAt 0x24 n.val } else s)
      (if code = 2 then s1.record { type := 0x50, code := 4 } else s1)
    .ok (s2.applyMask mask)

/-! ### Failures (R528, R529) -/

/-- Boot or SelfTest ends on a failure: rails off, Lee in reduced form with the code, source 413, and 414 for a security version. -/
def State.endStart (s : State) (code : Nat) : State :=
  let t : EvRec := { type := 0x11, code := code, detail := detailAt 0x24 s.boot.attempt }
  let s1 := if s.dev.state = .boot then s.formFatal { t with flags := 1 } else s.record t
  let s2 := s1.saveCounters.railsOff
  let s3 := ({ s2 with dev := { s2.dev with startFail := code }, boot := { s2.boot with step := .done } }).enterLee true 3
  let s4 := s3.raise 413
  if code = 0x31 then s4.raise 414 else s4

/-- A failure that is retried (R528): the rails go off and the next attempt waits; the fourth failure ends Boot. -/
def State.attemptFails (s : State) (code : Nat) : State :=
  if s.boot.attempt < 4 then
    let s1 := (s.record { type := 0x11, code := code, detail := detailAt 0x24 s.boot.attempt }).railsOff
    { s1 with boot := { s1.boot with step := .retryWait } }
  else s.endStart code

/-! ### Steps -/

/-- Starts Boot (R525, R527): the clusters are Off, the packs Absent, every motor gate low (R271, R524); rails that stay on are those of a start from full Lee. -/
def State.startBoot (s : State) (wake : Nat) (fromLee kept : Bool) : State :=
  let s1 := (s.clustersOff.hubAtStart)
  let s2 := if kept then s1 else s1.railsOff
  { (({ s2.gatesOff with dev := { s2.dev.settled with motorLoaded := false } }).setDevState .boot 255 255) with
    boot := { step := .waiting, wake := wake, railsKept := kept, fromLee := fromLee } }

/-- CAN starts: Pre-operational, with the boot-up message unless it only listens (R458, R460). -/
def State.startCan (s : State) : State :=
  let s1 : State := { s with can := { s.can with started := true, nmt := .preOperational, sessions := [] } }
  if s1.can.listenOnly then s1 else s1.send (.bootUp s1.can.nodeId)

/-- The power-up of the rails begins with RAIL_EN[0]; with the rails kept the reference measurement runs at once (R527). -/
def State.firstRail (s : State) : State :=
  if s.boot.railsKept then
    let s1 := s.bootScan
    { s1 with boot := { s1.boot with step := .references } }
  else
    let s1 := s.enableRail 0
    { s1 with boot := { s1.boot with step := .powerGood 0 } }

/-- Boot begins once a reset has ended and its rails are off (R518, R525, R527, R580): the fuses are read and the straps sampled after
a chip reset, and CAN starts there and after Zephyr. -/
def execBootStart (factory : Bool) (nodeId : Nat) (fusesOk : Bool) (s : State) : Res :=
  .next (
    let s0 := if s.dev.state = .off ∧ s.dev.aonUp then { s with dev := { s.dev with state := .boot } } else s
    if s0.dev.state ≠ .boot ∨ s0.boot.step ≠ .waiting then s
    else
      let s1 := { s0 with dev := { s0.dev with wakeAttempts := s0.boot.attempt } }
      if ¬ s1.can.sampled then
        let s2 := ({ s1 with dev := { s1.dev with factory := factory },
                             can := { s1.can with sampled := true, nodeId := nodeId % 128 } }).startCan
        let s3 := if s2.can.nodeId = 0 then s2.raise 14 else s2
        if fusesOk then s3.firstRail else (s3.raise 8).endStart 0x41
      else (if s1.boot.fromLee then s1 else s1.startCan).firstRail)

/-- Power-good of a rail is accepted (R518): after rail 1 the references are measured and the event store is scanned (R554); after rail
7 the PLLs lock. -/
def State.pgAccept (s : State) (r : RailId) : State :=
  if s.dev.state = .boot ∧ s.boot.step = .powerGood r.val then
    let s1 := s.updRail r (fun x => { x with state := 2 })
    let s2 := if r = 1 then s1.bootScan.flushAll else s1
    let next : BootStep := if r = 1 then .references else if r = 7 then .plls else .enable (r.val + 1)
    let s3 := { s2 with boot := { s2.boot with step := next } }
    if r = 7 then { s3 with buf := { s3.buf with
      chans := Vector.ofFn (fun c : Fin 24 => if s3.chanFitted c then { s3.buf.chans[c] with state := 1 } else s3.buf.chans[c]) } } else s3
  else s

def execRailPgAccept (r : RailId) (s : State) : Res := .next (s.pgAccept r)

/-- 0.5 ms after a power-good, or after the references, the next rail is enabled (R518, R527). -/
def execRailEnDelay (r : RailId) (s : State) : Res :=
  .next (
    if s.dev.state = .boot ∧ s.boot.step = .enable r.val then
      let s1 := s.enableRail r
      { s1 with boot := { s1.boot with step := .powerGood r.val } }
    else s)

/-- A power-good not accepted within 20 ms (R518, R529): the rail reads failed. -/
def execRailPgTimeout (r : RailId) (s : State) : Res :=
  .next (
    if s.dev.state = .boot ∧ s.boot.step = .powerGood r.val then
      (s.attemptFails (0x10 + r.val)).updRail r (fun x => { x with state := 3 })
    else s)

/-- 100 ms after a failure that is retried, the start begins again with RAIL_EN[0] (R528). -/
def execStartRetry (s : State) : Res :=
  .next (
    if s.dev.state = .boot ∧ s.boot.step = .retryWait then
      let n := s.boot.attempt + 1
      ({ s with boot := { s.boot with attempt := n, railsKept := false }, dev := { s.dev with wakeAttempts := n } }).firstRail
    else s)

/-- The references have been measured in the step of R527, or one is found bad at any later moment of Boot (R28, R528, R529). -/
def execReferenceMeasurementEnd (ok100 ok156 : Bool) (s : State) : Res :=
  .next (
    let measuring : Bool := match s.boot.step with
      | .references => true
      | .enable r => decide (2 ≤ r)
      | .powerGood r => decide (2 ≤ r)
      | .plls => true
      | _ => false
    if s.dev.state ≠ .boot ∨ ¬ measuring then s
    else if ¬ ok100 then s.attemptFails 0x20
    else if ¬ ok156 then s.attemptFails 0x21
    else if s.boot.step = .references then
      let s1 := { s with boot := { s.boot with step := if s.boot.railsKept then .plls else .enable 2 } }
      if s.boot.railsKept then { s1 with buf := { s1.buf with
        chans := Vector.ofFn (fun c : Fin 24 => if s1.chanFitted c then { s1.buf.chans[c] with state := 1 } else s1.buf.chans[c]) } } else s1
    else s)

/-- A PLL does not lock within 1 ms (R528, R529). -/
def execPllLockTimeout (s : State) : Res :=
  .next (if s.dev.state = .boot ∧ s.boot.step = .plls then s.attemptFails 0x22 else s)

/-- The density (subindex 1) and the pin rate (2) that Boot uses, from the layers of the image that it runs (R394, R425). -/
def State.bootMemory (s : State) (sub : Nat) : Nat :=
  match s.pickImage with
  | .ok (_, s1) => match s1.loadLayers with
    | .ok s2 => s2.param 0x6000 sub
    | .error _ => 0
  | .error _ => 0

/-- The power-on fill ends: every segment holds zero data, every channel trained is ready and buffer memory is reachable; the time it
took is not stated (R402). -/
def execBufferFillDone (s : State) : Res :=
  .next (
    if s.dev.state ≠ .boot ∨ s.boot.step ≠ .plls ∨ s.buf.reachable then s
    else
      let (v, s0) := s.takeFree
      let s1 := s0.updBuf (fun b => { b with density := s.bootMemory 1, pinRate := s.bootMemory 2, words := [] })
      s1.updBuf (fun b =>
        { b with reachable := true, fillTime := v % 2 ^ 32,
                 chans := b.chans.map (fun c => if c.state = 1 then { c with state := 2, epoch := 0, filled := s1.segments, valid := [] } else c),
                 scrubbed := [], scrubFrom := s.now }))

/-- The channels of the part that the mask names, and those whose checker does not class as it must (R395, R405). -/
def State.failedChannels (s : State) (mask : Nat) : List ChanId :=
  (List.finRange 24).filter (fun c => s.chanFitted c && (mask.testBit c.val || !s.checkerPasses c.val))

/-- The results of the checker tests, but for the failed channels (R405). -/
def State.noteCheckers (s : State) (bad : List ChanId) : State :=
  s.updBuf (fun b => { b with
    checkerPassed := (List.finRange 24).foldl (fun m c => if s.chanFitted c && !bad.contains c then m + 2 ^ c.val else m) 0 })

/-- The body of a microcode section as a loaded store and its dispatch table give it back (R223, R224). -/
def ControlStore.readBack (c : ControlStore) (dispatch : List (BitVec 32)) : List Byte :=
  (dispatch.map (fun d => natBytes 4 d.toNat)).flatten ++ (c.words.map wordBytesOf).flatten

/-- A store loaded from its section through its load port, read back, checked against the section digest, then locked (R223). -/
def loadedStore (l : List Byte) : ControlStore :=
  let c : ControlStore := { words := microwords l, revision := microRevision l }
  { c with locked := (sha384 (c.readBack (dispatchOf l))).toNat == fieldAt l 0x20 48 }

/-- What Boot leaves when it ends well (R223, R470, R495, R502, R525, R527, R545): stores loaded and locked, reactions loaded, clusters
released, packs evaluated, and the state that EPO_N and the wake decide. -/
def State.bootDone (s : State) (x : FwImage) : State :=
  let s1 : State := { s with
    fmtStore := loadedStore (x.section 3),
    svc := { s.svc with store := loadedStore (x.section 4),
                        dispatch := dispatchOf (x.section 4) },
    faults := { s.faults with reactionsLoaded := true },
    boot := { s.boot with step := .done }, dev := { s.dev with startFail := 0 } }
  let s2 := s1.notePins.releaseClusters (if x.bootCluster = 1 then 1 else 0)
  let s3 := (List.finRange 32).foldl (fun (s : State) p => if s.inputs.pres[p].conditioned then s.presAssert p else s) s2
  if s.inputs.epo.filtered then s3.enterLee false 1
  else if s.boot.wake = 2 then s3.enterLee false 5
  else if s.boot.wake = 1 ∧ s3.param 0x7001 5 = 1 then s3.enterLee false 7
  else s3.enterState .selfTest

/-- The rest of Boot (R527, R529, R535): in the order of its steps the arbiter's self-test, the headers, the channels, the payload and
the layers; the fill has ended before Boot does. -/
def execBootEnd (r : BootResult) (s : State) : Res :=
  .next (
    if s.dev.state ≠ .boot ∨ s.boot.step ≠ .plls then s
    else if ¬ r.arbiterOk then s.endStart 0x51
    else match s.headFails with
      | some code => s.endStart code
      | none =>
        let bad := s.failedChannels r.channelsFailed
        let s := s.noteCheckers bad
        if ¬ bad.isEmpty then
          (bad.foldl (fun (s : State) c => (s.updMem c.val (fun m => { m with state := 4 })).raise (56 + 4 * c.val + 3)) s).endStart 0x40
        else match s.pickImage with
          | .error code => s.endStart code
          | .ok ((x, s1) : FwImage × State) => match s1.loadLayers with
            | .error code => s.endStart code
            | .ok s2 => if s.buf.reachable then s2.bootDone x else s)

/-! ### SelfTest (R538) -/

/-- The bits set of a mask of `n` units. -/
def unitsOf (n mask : Nat) : List Nat := (List.range n).filter (fun i => mask.testBit i)

/-- Tests that fail a unit and not the start (R221, R23, R266, R444). -/
def State.failUnits (s : State) (r : SelfTestResult) : State :=
  let s1 := (List.finRange 16).foldl (fun (s : State) q => if r.sequencersBad.testBit q.val then s.serviceFault q else s) s
  let s2 := (List.finRange 8).foldl (fun (s : State) t =>
    let s1 := if s.tileFitted t && r.linksBad.testBit t.val then s.linkLostHub t else s
    if s.tileFitted t && r.servosBad.testBit t.val then s1.miscompare t else s1) s1
  (List.finRange 32).foldl (fun (s : State) c => if r.moversBad.testBit c.val then s.raise (180 + c.val) else s) s2

/-- SelfTest's tests end once both clusters' own have (R525, R529, R538): both clusters Out, the cache or the engines end the start;
FACTORY leads to Bench; with no failure and the hold entry at 0 the device goes to Assemble, otherwise it stays. The image that is not
running has been verified. A device that is to go to Lee keeps its state until its arms are down (R500, R525). -/
def execSelftestDone (r : SelfTestResult) (s : State) : Res :=
  .next (
    let roles := s.clusters.unit.toList.map (fun u => u.role)
    if s.dev.state ≠ .selfTest ∨ s.dev.testsEnded ∨ roles.contains .selfTest then s
    else if roles.all (fun x => x = .out) then s.endStart 0x50
    else if ¬ r.cacheOk then s.endStart 0x52
    else if ¬ r.enginesOk then s.endStart 0x53
    else
      let o : Fin 2 := if s.window.running = 0 then 1 else 0
      let s1 := s.failUnits r
      let s2 := { s1 with window := { s1.window with
        imageState := s1.window.imageState.set o.val (s1.imageStateOf s1.flash.image[o]) o.isLt } }
      let fitted := fun m : Nat => (List.range (partTiles s.part)).any (fun t => m.testBit t)
      let failed := roles.contains .out || !(unitsOf 16 r.sequencersBad).isEmpty || fitted r.linksBad || fitted r.servosBad
        || !(unitsOf 32 r.moversBad).isEmpty
      if s.dev.factory ∧ s.dev.pendingLee.isNone then s2.enterState .bench
      else if failed ∨ s.param 0x7001 1 = 1 ∨ s.dev.pendingLee.isSome then { s2 with dev := { s2.dev with testsEnded := true } }
      else s2.enterState .assemble)

end Sys2Proof.Machine
end

