-- ==== Sys2Proof/Machine/Clusters.lean ====
section
/-! DEFINITION. The arbiter's checks, fail-over, role swap and self-test of the clusters, the mirror's acknowledgement, and fault
injection (R502 to R513). -/

namespace Sys2Proof.Machine

/-! ### The arbiter's check (R506) -/

/-- Injection mode 3 suppresses the active cluster's heartbeat (R513). -/
def State.beatSuppressed (s : State) : Bool := s.param 0xF100 6 == 1 && s.param 0xF100 5 == 3

/-- The heartbeat of one cluster at a check: only Active and Standby clusters have one to miss. -/
def State.beat (s : State) (c : ClusterId) (seen : Bool) : State :=
  match s.clusters.unit[c].role with
  | .active | .standby =>
    if seen then s.updCluster c (fun u => { u with missRun := 0 })
    else s.updCluster c (fun u => { u with missRun := u.missRun + 1, missed := sat32 u.missed 1 })
  | _ => s

/-- The mirror at a check: the peak lag, and consecutive checks beyond the limit (R505, R506). -/
def State.viewMirror (s : State) (v : ArbiterView) : State :=
  let late := decide (s.param 0x8011 6 < v.lag)
  { s with clusters := { s.clusters with
      peakLag := max s.clusters.peakLag (min v.lag 0xFFFFFFFF), mirrorGap := s.clusters.mirrorGap || v.gap,
      lagRun := if late then s.clusters.lagRun + 1 else 0, lagAt := if late then some s.now else s.clusters.lagAt } }

/-- Why the active cluster is to be left, as the code of 0x8010.07: 1 heartbeat, 2 trap storm, 3 cluster fault. -/
def State.activeFails (s : State) (c : ClusterId) : Option Nat :=
  if s.param 0x8011 3 ≤ s.clusters.unit[c].missRun then some 1
  else if s.param 0x8011 4 ≤ s.stormTraps c then some 2
  else if s.clusterSource c 2 ∨ s.clusterSource c 4 ∨ s.clusterSource c 7 then some 3
  else none

/-- The cause's source: a missed heartbeat and a trap storm raise theirs here; a cluster fault has raised its own. -/
def State.raiseCause (s : State) (c : ClusterId) (why flags : Nat) : State :=
  if why = 1 then s.raiseWith (16 + 8 * c.val) 0 0xFFFF flags
  else if why = 2 then
    { s with clusters := { s.clusters with trapStorms := sat32 s.clusters.trapStorms 1 } }.raise (17 + 8 * c.val)
  else s

/-- The first two rows of R506 for the active cluster: fail-over with a fit standby, else the device stop. An injected loss of the
heartbeat ends with the fail-over that it causes (R513). -/
def State.leaveActive (s : State) (c : ClusterId) (why : Nat) : State :=
  let injected : Bool := why = 1 && s.beatSuppressed
  let flags := if injected then 4 else 0
  if s.standbyFit then
    let s1 := s.beginFailOver (if injected then 5 else why) false
    let s2 := if injected then s1.setParam 0xF100 6 0 else s1
    ({ s2 with arbiter := { s2.arbiter with decisions := sat32 s2.arbiter.decisions 1 } }).raiseCause c why flags
  else (s.raiseCause c why flags).deviceStop

/-- The last two rows of R506 for the standby. -/
def State.checkStandby (s : State) (b : ClusterId) : State :=
  let u := s.clusters.unit[b]
  if u.role ≠ .standby then s
  else if u.missRun ≠ 0 then (s.raise (16 + 8 * b.val)).resetStandby b
  else if [0, 1, 2, 4, 5, 6, 7].any (fun k => s.clusterSource b k) then s.resetStandby b
  else if s.clusters.mirrorGap ∨ 2 ≤ s.clusters.lagRun then (s.raise (21 + 8 * b.val)).resetStandby b
  else s

/-- Every 100 µs (R506): during a fail-over only the new active cluster's own failure is acted on, with the device stop. -/
def execArbiterCheck (v : ArbiterView) (s : State) : Res :=
  .next (
    if s.hostStopped then s
    else match s.clusters.failOver with
      | some f =>
        let s1 := s.beat f.new (if f.new = 0 then v.beatA else v.beatB)
        if (s1.activeFails f.new).isSome then s1.deviceStop else s1
      | none => match s.clusters.active with
        | none => s
        | some c =>
          let seen := fun d : ClusterId => (if d = 0 then v.beatA else v.beatB) && !(d = c && s.beatSuppressed)
          let s1 := ((s.beat 0 (seen 0)).beat 1 (seen 1)).viewMirror v
          match s1.activeFails c with
          | some why => s1.leaveActive c why
          | none => s1.checkStandby (otherCluster c))

/-! ### Self-test, synchronising, readmission (R502, R509, R538) -/

/-- A cluster's self-test ends. The boot cluster becomes Active as soon as its own passes, the other one only when the boot cluster
is Out; with a cluster Active it synchronises. -/
def execClusterSelfTestDone (c : ClusterId) (pass : Bool) (s : State) : Res :=
  .next (
    let d := otherCluster c
    if s.clusters.unit[c].role ≠ .selfTest ∨ s.hostStopped then s
    else if pass then
      if s.clusters.active.isNone ∧ s.clusters.failOver.isNone ∧ (c = s.clusters.bootCluster ∨ s.clusters.unit[d].role = .out) then
        s.activate c
      else s.updCluster c (fun u => { u with role := .synchronising })
    else
      let s1 := (s.raise (22 + 8 * c.val)).clusterOut c
      if s1.clusters.active.isNone ∧ s1.clusters.failOver.isNone ∧ s1.clusters.unit[d].role = .synchronising then s1.activate d
      else s1)

/-- A synchronising cluster has copied the mirrored set: it is Standby, with the mirror applied whole (R509). -/
def execClusterSyncDone (c : ClusterId) (s : State) : Res :=
  .next (
    if s.clusters.unit[c].role = .synchronising ∧ s.clusters.active = some (otherCluster c) ∧ s.clusters.failOver.isNone then
      let s1 := (s.updCluster c (fun u => { u with role := .standby, missRun := 0 })).mirrorUpTo s.clusters.mirrorSent
      { s1 with clusters := { s1.clusters with mirrorGap := false, lagRun := 0, lagAt := none } }
    else s)

/-- The device states that take a readmission (R514). -/
def DevState.readmits : DevState → Bool
  | .assemble | .opened | .quiesce | .bench => true
  | _ => false

/-- A write of 0x8001.02 (R509, R514): an Out cluster goes through Self-test again. -/
def State.readmit (s : State) (v : Nat) : Except Nat State :=
  if ¬ s.dev.state.readmits then .error 0x08000022
  else if h : v < 2 then
    let c : ClusterId := ⟨v, h⟩
    if s.clusters.unit[c].role = .out then
      .ok (((s.updCluster c (fun u => { u with role := .selfTest, missRun := 0, failTimes := [] })).leaveFaults
        (srcBlock (16 + 8 * v)) 2).record { type := 0x30, code := 7, subject := v, detail := detailAt 0x28 s.activeCode })
    else .error 0x08000022
  else .error 0x06090030

/-- The readmission of an Out cluster. -/
def execReadmitCluster (c : ClusterId) (s : State) : Res := .next (okOr s (s.readmit c.val))

/-! ### Mirror (R503, R504) -/

/-- Held cluster service responses whose mirror records are all acknowledged arrive (R504). -/
def State.releaseTokens (s : State) (all : Bool) : State :=
  let go := fun x : Nat × Bool × Nat => all || decide (x.2.2 ≤ s.clusters.mirrorApplied)
  (s.heldTokens.filter go).foldl (fun s x => s.completeToken x.1 x.2.1) { s with heldTokens := s.heldTokens.filter (fun x => !go x) }

/-- Held writes whose mirror records are all acknowledged go out; then the heads that waited behind them. -/
def State.releaseHeld (s : State) (all : Bool) : State :=
  let go := fun x : HostMsg × Nat => all || decide (x.2 ≤ s.clusters.mirrorApplied)
  let s1 := (s.mirrorHeld.filter go).foldl (fun s x => s.sendHost x.1) { s with mirrorHeld := s.mirrorHeld.filter (fun x => !go x) }
  if s1.mirrorHeld.isEmpty then
    (s1.host.rings.filter (fun r => r.coalesce = 0)).foldl (fun s r => s.publish r.num) s1
  else s1

/-- The standby acknowledges every mirror record up to `n` (R504). -/
def execMirrorAck (n : Nat) (s : State) : Res :=
  .next (
    let s1 := s.mirrorUpTo n
    if s1.clusters.failOver.isSome ∨ s1.hostStopped then s1 else (s1.releaseHeld false).releaseTokens false)

/-! ### Role swap (R510) -/

/-- A role swap begins when the device is Open or in Quiesce: with no fit standby it is postponed; a standby that fails its self-test
or the comparison of the mirrored sets raises source 6 and is reset. -/
def State.roleSwap (s : State) (pass : Bool) : State :=
  match s.clusters.active with
  | none => s
  | some c =>
    if ¬ (s.dev.state = .opened ∨ s.dev.state = .quiesce) ∨ s.clusters.failOver.isSome ∨ s.hostStopped then s
    else if ¬ s.standbyFit then { s with clusters := { s.clusters with swapPostponed := true } }
    else if pass then
      let s1 := s.beginFailOver 4 true
      { s1 with clusters := { s1.clusters with swapPostponed := false } }
    else (s.raise 6).resetStandby (otherCluster c)

/-- The role swap interval has passed, or the postponement time of a swap that could not start. -/
def execRoleSwap (pass : Bool) (s : State) : Res :=
  .next (if s.param 0x8011 1 = 0 ∧ ¬ s.clusters.swapPostponed then s else s.roleSwap pass)

/-- A write of 1 to 0x8011.02 (R510, R514). -/
def State.swapNow (s : State) (v : Nat) (pass : Bool) : Except Nat State :=
  if ¬ (s.dev.state = .opened ∨ s.dev.state = .quiesce) then .error 0x08000022
  else if v = 1 then .ok (s.roleSwap pass) else .error 0x06090030

def execRoleSwapNow (pass : Bool) (s : State) : Res := .next (okOr s (s.swapNow 1 pass))

/-! ### Release of the hub (R507 to R510) -/

/-- The old active cluster of a fail-over is reset; it is Out when readmission is manual or it has been failed over twice within 24
hours, and otherwise runs its self-test (R509). -/
def State.settleOld (s : State) (c : ClusterId) : State :=
  let s1 := (s.updCluster c (fun u => { u with role := .selfTest })).resetCluster c
  let day := 86400 * 1000000000
  let recent := s1.clusters.unit[c].failTimes.filter (fun t => decide (s1.now < t + day))
  if s1.param 0x8011 7 = 0 ∨ 2 ≤ recent.length then s1.clusterOut c else s1

/-- The new active cluster releases the hub: roles, cause and duration are reported, interrupts held are delivered, contexts go on,
requests to the cluster service are issued again (R220), and held writes go out. -/
def State.releaseHub (s : State) (f : FailOver) : State :=
  let us := min ((s.now - f.startedAt) / 1000) 0xFFFFFFFF
  let s1 := s.activate f.new
  let s2 := { s1 with clusters := { s1.clusters with
      failOver := none, lastDuration := us,
      failOvers := if f.swap then s1.clusters.failOvers else sat32 s1.clusters.failOvers 1,
      roleSwaps := if f.swap then sat32 s1.clusters.roleSwaps 1 else s1.clusters.roleSwaps,
      lastSwapOpSec := if f.swap then s1.dev.opSec else s1.clusters.lastSwapOpSec,
      mirrorApplied := s1.clusters.mirrorSent, mirrorLog := [], mirrorGap := false, lagRun := 0, lagAt := none } }
  let s3 := s2.record { type := 0x30, code := f.cause, flags := if f.cause = 5 then 4 else 0, subject := f.old.val,
                        detail := detailAt 0x24 us + detailAt 0x28 f.new.val }
  let s4 := if f.swap then s3.updCluster f.old (fun u => { u with role := .standby, missRun := 0 }) else s3.settleOld f.old
  let s5 := f.held.foldl State.deliver s4
  let s6 := { s5 with svc := { s5.svc with
      seqs := s5.svc.seqs.map (fun (q : Sequencer) => { q with ctx := q.ctx.map (fun (x : Ctx) => { x with held := x.held && q.fault }) }) } }
  let again := s6.svc.tokens.filter (fun t => t.engine = 5 && t.state = 0 && !s6.heldTokens.any (fun x => x.1 = t.id))
  ((again.foldl (fun (s : State) t => s.send (.engine 5 t.id t.body)) s6.waitChecks).releaseHeld true).releaseTokens true

/-! ### Arbiter failure (R511) -/

def execArbiterLockstepMismatch (s : State) : Res := .next (s.arbiterFail 0 1 0)
def execArbiterWatchdogExpiry (s : State) : Res := .next (s.arbiterFail 1 2 0)

/-! ### Fault injection (R512, R513, R516) -/

/-- A key index names a usable token key (R534). -/
def State.tokenKey (s : State) (i : Nat) : Bool :=
  s.window.keys.any (fun k => k.index == i && k.usage.testBit 2 && !k.revoked) && !s.fuses.keyRevoked.testBit i

/-- The checks of a token (R512, R548): magic, format, this device, the nonce, the time, reserved bytes, key and signature. -/
def State.tokenGood (s : State) (magic nonce perms : Nat) (l : List Byte) : Bool :=
  l.length == 160 && fieldAt l 0 4 == magic && fieldAt l 4 2 == 1 && s.tokenKey (fieldAt l 6 2) && fieldAt l 8 8 == s.fuses.uniqueId
    && fieldAt l 0x10 8 == Config.freeValue nonce % 2 ^ 64 && decide (s.dev.opSec ≤ fieldAt l 0x18 4)
    && decide (fieldAt l 0x1C 4 < 2 ^ perms) && zeroAt l 0x20 32 && Config.tokenSigned s.window.revision (fieldAt l 6 2) l

/-- An injection token is written in Bench (R512): accepted or refused, and the nonce changes. -/
def State.injectionToken (s : State) (l : List Byte) : Except Nat State :=
  if s.dev.state ≠ .bench then .error 0x08000022
  else
    let i := s.injection
    let j : Injection :=
      if s.tokenGood 0x4946564F i.nonce 3 l then
        { nonce := s.free, tokenState := 1, permissions := fieldAt l 0x1C 4, validUntil := fieldAt l 0x18 4 }
      else { i with nonce := s.free, tokenState := 2, permissions := 0 }
    .ok { s with injection := j, free := s.free + 1 }

def execInjectionTokenWrite (token : List Byte) (s : State) : Res := .next (okOr s (s.injectionToken token))

/-- The permission bit of an injection mode (R513). -/
def injectionBit (mode : Nat) : Nat := if mode = 3 then 1 else if mode = 4 then 2 else 0

/-- The injection entries are open: Bench, an accepted token, and the permission of the mode (R516). -/
def State.injectionOpen (s : State) (mode : Nat) : Bool :=
  s.dev.state = .bench && s.injection.tokenState = 1 && s.injection.permissions.testBit (injectionBit mode)

/-- Arming injects in the mode that the entries name (R513); disarming stops it. -/
def State.injectionArm (s : State) (v : Nat) : Except Nat State :=
  let mode := s.param 0xF100 5
  if ¬ s.injectionOpen mode then .error 0x08000022
  else if v = 0 then .ok (s.setParam 0xF100 6 0)
  else if v = 1 then
    let s1 := s.setParam 0xF100 6 1
    if mode = 1 ∨ mode = 2 then .ok (s1.raiseWith (s.param 0xF100 4) 0 0xFFFF 4)
    else if mode = 4 then .ok (s1.arbiterFail 0 3 4)
    else .ok s1
  else .error 0x06090030

def execInjectionArm (arm : Bool) (s : State) : Res := .next (okOr s (s.injectionArm (if arm then 1 else 0)))

/-- Every 1 ms in mode 2 until disarmed (R513). -/
def execInjectionPeriodic (s : State) : Res :=
  .next (
    if s.param 0xF100 6 = 1 ∧ s.param 0xF100 5 = 2 ∧ s.injectionOpen 2 then s.raiseWith (s.param 0xF100 4) 0 0xFFFF 4
    else s)

end Sys2Proof.Machine
end

