-- ==== Sys2Proof/Machine/Recovery.lean ====
section
/-! DEFINITION. Decoding, recovery on stored samples and the retry ladder (R171 to R190): what each attempt decides, where
a failed sector goes, and how a sector ends. -/

namespace Sys2Proof.Machine

/-- How an attempt at a sector stands: final with an end, or failed with the reason of the last attempt (R173, R184). -/
inductive Fate where
  | final (e : SectorEnd)
  | failed (reason : Nat) (e : SectorEnd)
  deriving DecidableEq, Repr

/-- The recovery parameters P+0x15.01 to .0A in force. -/
def State.recParams (s : State) (p : PackId) : List Nat := (List.range 10).map (fun i => s.packParam p 0x15 (i + 1))

/-- One of the parameters that a read was begun with (R182). -/
def recOf (l : List Nat) (sub : Nat) : Nat := l.getD (sub - 1) 0

/-- An attempt's effect on a sector's end (R173): `good` is the outcome of a success. CRC_BAD tells of the last converged decode
(R183). -/
def settle (e : SectorEnd) (limit : Nat) (llr : List Int) (a0 : Attempt) (good : Nat) : Fate :=
  let a := decodeOf llr a0
  let e1 := { e with iter := a.iters }
  match verdict e.addr limit a with
  | .good => .final { e1 with outcome := good, crcBad := false, data := scramble e.addr (bytesOf 4160 a.word) }
  | .torn => .final { e1 with outcome := 0x14, crcBad := false }
  | .misplaced => .final { e1 with outcome := 0x13, crcBad := false }
  | .crc => .failed 0x12 { e1 with crcBad := true }
  | .failed => .failed 0x11 e1

/-- A later attempt is made only when the one before failed. -/
def Fate.orElse (x : Fate) (g : SectorEnd → Fate) : Fate :=
  match x with
  | .final e => .final e
  | .failed _ e => g e

/-- An end at other alignments: a flywheel fragment that is shifted away from e is one no more (R171, R183). `a1` is the first fragment's
accepted alignment. -/
def SectorEnd.shifted (e : SectorEnd) (method : Nat) (a1 s1 s2 : Int) : SectorEnd :=
  { e with method := method, moved := if s1 = a1 then s2 else s1, shift1 := s1, shift2 := s2, flywheel := e.flywheel && (if e.dist = 31 then s1 == 0 else s2 == 0) }

/-- Method 2 over the ranked candidates (R175). -/
def tryCands (limit : Nat) (a1 : Int) (llrAt : Int → Int → Bool → List Int) : List Ranked → Fate → Fate
  | [], x => x
  | c :: l, x => tryCands limit a1 llrAt l (x.orElse (fun e =>
      settle (e.shifted 2 a1 c.s1 c.s2) limit (llrAt c.s1 c.s2 false) c.body 1))

/-- Methods 2 to 4 on stored samples after a failed first decode at alignments `a1`, `a2` (R174 to R176); `llrAt` gives the LLRs at
any alignments, with defect marks or without. Where method 2 ran but every candidate exceeded the skip limit there is no best-ranked
alignment, and methods 3 and 4 use the accepted one (DEDUCED: log entry 148). -/
def recoverStored (params : List Nat) (split : Bool) (a1 a2 : Int) (llrAt : Int → Int → Bool → List Int) (x : Recovered)
    (e : SectorEnd) (reason : Nat) : Fate :=
  let ranked := rankCands split a1 a2 (recOf params 7) (recOf params 6) (fun s1 s2 => syndromeWeight (hardWord (llrAt s1 s2 false)))
    x.cands
  let best := match ranked with | c :: _ => (c.s1, c.s2) | [] => (a1, a2)
  let m2 := tryCands (recOf params 4) a1 llrAt ranked (.failed reason e)
  let m3 := m2.orElse (fun e => settle (e.shifted 3 a1 best.1 best.2) (recOf params 5) (llrAt best.1 best.2 false) x.extended 1)
  if e.marked = 0 then m3
  else m3.orElse (fun e => settle (e.shifted 4 a1 best.1 best.2) (recOf params 5) (llrAt best.1 best.2 true) x.noErasures 1)

/-- The first decode of a read (R172 to R174): success at step 0 without relaxed sync is outcome 0x00. -/
def firstDecode (limit : Nat) (relaxed flywheel : Bool) (a1 a2 : Int) (llr : List Int) (e : SectorEnd) (a : Attempt) : Fate :=
  let m := if relaxed then 1 else 0
  settle { e with method := m, flywheel := flywheel, shift1 := a1, shift2 := a2 } limit llr a
    (if e.step = 0 ∧ m = 0 then 0 else 1)

/-- A mark of the read was found by relaxed sync. -/
def Reading.relaxed (r : Reading) : Bool :=
  (match r.mark1 with | some m => m.relaxed | none => false) || (match r.mark2 with | some m => m.relaxed | none => false)

/-! ### Read gates -/

/-- What a read gate of a fragment gives (R135, R140 to R147): the fragment for the sample store, the loops at its end, the slips,
whether all of it is dropout, and the cells the defect detector goes on from. -/
structure GateResult where
  frag : Fragment
  loops : Loops
  slips : Nat
  blank : Bool
  tail : List Nat

/-- The data path over the cells of a read gate. -/
def State.readGate (s : State) (p : PackId) (a : ArmId) (h : HeadId) (second : Bool) (loops : Loops) (window : List Bool)
    (cells : List CellSample) : GateResult :=
  let x := s.arm p a
  let c := x.lanes[h].chan
  let d := findDefects (coefAt x.servo.coef 0x29 1) (coefAt x.servo.coef 0x29 2) c.tail (cells.map (fun v => v.x))
  let g : LoopSetup :=
    { start := c.start, freeze := if s.dev.state = .bench then c.freeze else 0, acquire := if second then 48 else 96,
      target := (List.range 5).map (fun i => coefInt x.servo.coef 0x28 (i + 1)) }
  let r := runLoops g 0 cells [] [] d.marks { loops with shift := 0 }
  { frag := { samples := r.2, soft := cells.map (fun v => v.soft), bits := cells.map (fun v => v.bit), marks := d.marks, window := window },
    loops := r.1, slips := slipCount 0 (cells.map (fun v => v.phase)), blank := d.blank, tail := d.tail }

/-! ### Suspects (R190) -/

/-- A suspect that has been written again is cleared by a good read, and by a full-depth read that ends otherwise than 0x10 to 0x12, since
the first such read is then past (R190, assumption 116). -/
def State.clearSuspect (s : State) (p : PackId) (addr : Nat) : State :=
  if s.packs[p].media.suspects.any (fun x => x.addr = addr ∧ x.rewritten) then
    (s.updMedia p (fun m => { m with suspects := m.suspects.filter (fun x => ¬(x.addr = addr ∧ x.rewritten)) })).saveSuspects p
  else s

/-- A sector that ended 0x10 to 0x12 at full depth without meeting R189 (R190). -/
def State.suspect (s : State) (p : PackId) (addr : Nat) : State :=
  match s.packs[p].media.suspects.find? (fun x => x.addr = addr) with
  | some x =>
    if x.rewritten then
      ((s.updMedia p (fun m => { m with suspects := m.suspects.filter (fun x => x.addr ≠ addr) })).saveSuspects p).growDefect p addr
    else s
  | none => (s.updMedia p (fun m => { m with suspects := keepLast 4096 (m.suspects ++ [⟨addr, false⟩]) })).saveSuspects p

/-! ### Ends of sectors -/

/-- A sector has its end: it waits for its delivery (R148, R183); one read in step 6 ends the other arm's sector (R179). -/
def State.endSector (s : State) (p : PackId) (a : ArmId) (h : HeadId) (e : SectorEnd) : State :=
  let f := (s.arm p a).fmt
  let s1 := if e.good ∨ (reqFull f.req ∧ 0x13 ≤ e.outcome ∧ e.outcome ≤ 0x15) then s.clearSuspect p e.addr else s
  if f.six = some (h, e.addr) then
    let s2 := (s1.updHealth p a h (fun x => x.learn e)).giveBack p (otherArm a) h e
    if e.good then s2 else s2.updFmt p a (fun f => { f with badLanes := f.badLanes ||| laneBit h })
  else s1.updChan p a h (fun c => { c with ends := c.ends ++ [e] })

/-- The state of a surface's head on the other arm that makes step 6 skipped (R179): arm out or unloaded, head Removed or
excluded; or the pack keeps one arm loaded (R480). -/
def State.stepSixSkipped (s : State) (p : PackId) (a : ArmId) (h : HeadId) : Bool :=
  let x := s.arm p (otherArm a)
  x.servo.isOut || !(x.servo.mode.loaded) || x.lanes[h].health.quality = 4 || x.lanes[h].time = .excluded
    || s.param 0x2403 1 = 1

/-- Reads of a ladder step (R178). -/
def stepReads (step : Nat) : Nat :=
  match step with
  | 3 => 2 | 4 => 2 | 5 => 4 | 6 => 2 | _ => 1

/-- The CTF boost of a ladder read: in step 4 lowered, then raised by the sweep step from the zone seed, within R136 (R178). -/
def ladderBoost (seed sweep step reads : Nat) : Nat :=
  if step = 4 then (if reads = 0 then seed - sweep else min 150 (seed + sweep)) else seed

/-- The starting values of a ladder step (R178): in step 1 the zone seeds; in step 4 gain, offset and FIR from the seeds, the asymmetry from
the cache as in any read (R145); in the others the cache. -/
def stepStart (step : Nat) (seeds cached : Adapt) : Adapt :=
  if step = 1 then seeds else if step = 4 then { seeds with asym := cached.asym } else cached

/-- The tile queues step 6 on the pack's other arm, ahead of that arm's other work (R179, R201). -/
def State.queueStepSix (s : State) (p : PackId) (a : ArmId) (h : HeadId) (addr : Nat) : State :=
  let b := otherArm a
  let f := (s.arm p a).fmt
  (s.updFmt p b (fun g =>
    let r := stepSixRequest f h addr
    let g1 := { g with sixes := g.sixes ++ [(h, addr)] }
    if g.queue.length < 16 then { g1 with queue := g.queue ++ [r] } else { g1 with linkHeld := g.linkHeld ++ [r] })).kick p b

/-- Replaces a ladder entry of the arm's formatter. -/
def State.putLadder (s : State) (p : PackId) (a : ArmId) (x : LadderSector) : State :=
  s.updFmt p a (fun f => { f with ladder := f.ladder.map (fun y => if y.lane = x.lane ∧ y.addr = x.addr then x else y) })

/-- Removes a ladder entry. -/
def State.dropLadder (s : State) (p : PackId) (a : ArmId) (x : LadderSector) : State :=
  s.updFmt p a (fun f => { f with ladder := f.ladder.filter (fun y => ¬(y.lane = x.lane ∧ y.addr = x.addr)) })

/-- A failed sector joins the ladder; while the ladder runs it goes to step 1 (R178, R195). One read in step 6 has had the first of
that step's reads. A lane that the ladder names waits to be Active (R161). -/
def State.toLadder (s : State) (p : PackId) (a : ArmId) (h : HeadId) (x : LadderSector) : State :=
  let lane := s.laneAngle p a h
  let s1 := if (s.arm p a).fmt.laddering then s.wantActive p a h else s
  s1.updFmt p a (fun f =>
    let y := { x with lane := h, fromTime := lane }
    { f with ladder := f.ladder ++ [
      if f.six = some (h, x.addr) then { y with step := 6, reads := 1 }
      else { y with step := if f.laddering ∧ x.step = 0 then 1 else x.step }] })

/-- A sector that ends unrecovered: at full depth the grown defect or the suspect of R189 and R190. `six` says that step 6 has run. -/
def State.unrecovered (s : State) (p : PackId) (a : ArmId) (x : LadderSector) (e : SectorEnd) (six : Bool) : State :=
  let s1 := (s.dropLadder p a x).endSector p a x.lane { e with outcome := x.reason }
  if reqFull (s.arm p a).fmt.req then
    if six ∧ 2048 ≤ x.marksOwn ∧ 2048 ≤ x.marksOther then s1.growDefect p x.addr else s1.suspect p x.addr
  else s1

/-- A ladder sector goes on after a failed read: the next read of its step, the next step within the depth, or its end (R178, R181).
After both reads of step 6 the sector of the other arm ends unrecovered. -/
def State.ladderOn (s : State) (p : PackId) (a : ArmId) (x0 : LadderSector) (e : SectorEnd) : State :=
  let x := { x0 with passing := false, fromTime := s.laneAngle p a x0.lane }
  if x.reads < stepReads x.step then s.putLadder p a x
  else if (s.arm p a).fmt.six = some (x.lane, x.addr) then
    let b := otherArm a
    let s1 := (s.dropLadder p a x).updFmt p a (fun f => { f with badLanes := f.badLanes ||| laneBit x.lane })
    match (s1.arm p b).fmt.ladder.find? (fun y => y.lane = x.lane ∧ y.addr = x.addr) with
    | some y =>
      let f := (s1.arm p b).fmt
      s1.unrecovered p b { y with reason := x.reason, marksOther := x.marksOwn } { e with tag := reqTag f.req, restart := f.restarts } true
    | none => s1
  else
    let n := { x with step := x.step + 1, reads := 0, sum := [] }
    if s.lastStep p a ≤ x.step ∨ 6 ≤ x.step then s.unrecovered p a x e false
    else if n.step = 6 then
      if s.stepSixSkipped p a x.lane then s.unrecovered p a x e false
      else (s.putLadder p a n).queueStepSix p a x.lane x.addr
    else s.putLadder p a n

end Sys2Proof.Machine
end

