-- ==== Sys2Proof/Machine/Lanes.lean ====
section
/-! DEFINITION. The commands of the lanes (05, 06): power levels, windows and gates, the write buffer, sync decisions,
decoding, recovery, deliveries, and the servo-protect period (R109, R139 to R191). -/

namespace Sys2Proof.Machine

/-! ### Lane power (R161) -/

/-- The lane whose waiting instruction is oldest (R161). -/
def Arm.oldestWaiting (x : Arm) : Option HeadId :=
  (List.finRange 16).foldl (fun r h =>
    match x.lanes[h].chan.waiting, r with
    | none, _ => r
    | some _, none => some h
    | some n, some k => match x.lanes[k].chan.waiting with
      | some m => if n < m then some h else r
      | none => some h) none

/-- A Servo-only lane named by an instruction becomes Active when the limit allows, the longest-waiting first (R161). -/
def execLaneActivate (p : PackId) (a : ArmId) (h : HeadId) (s : State) : Res :=
  .next (
    let x := s.arm p a
    if x.lanes[h].chan.power = .servoOnly ∧ x.oldestWaiting = some h ∧ x.activeLanes < x.activeLimit then
      s.updChan p a h (fun c => { c with power := .idle, waiting := none })
    else s)

/-- The routine still has gates for a lane: transfers, or reads of a ladder that runs (R161, R179). -/
def Formatter.names (f : Formatter) (h : HeadId) : Bool :=
  f.running && (f.runs.any (fun r => r.lane = h && !r.ended) || (f.laddering && f.ladder.any (fun x => x.lane = h)))

/-- An Active lane with no gate for the gating delay returns to Servo-only at a wedge boundary (R161); with gates of its routine still to
come it waits to be Active again. -/
def execLaneGatingDelayExpiry (p : PackId) (a : ArmId) (h : HeadId) (s : State) : Res :=
  .next (
    let c := (s.lane p a h).chan
    if c.power = .idle ∧ ¬ c.readOpen ∧ c.writing.isNone then
      let s1 := s.updChan p a h (fun c => { c with power := .servoOnly })
      if (s.arm p a).fmt.names h then s1.wantActive p a h else s1
    else s)

/-! ### Windows and conflicts -/

/-- A lane sits out what is left of its operation (R155): its further write gates are cancelled, and its sectors not read end with 0x22
(R182). A gate that is open runs to its close. -/
def State.sitOutRest (s : State) (p : PackId) (a : ArmId) (h : HeadId) : State :=
  (((s.cancelWrites p a false h).updFmt p a (fun f =>
    { f with satOut := f.satOut ||| laneBit h,
             runs := f.runs.map (fun r => if r.lane = h ∧ r.type = 1 then { r with ended := true } else r) })).stopLane p a h 0x22).afterGates
    p a

/-- Gate conflict at a lane (R155, R206): before the commit point the routine is abandoned; after it the lane sits out the
rest of the routine. -/
def State.gateConflict (s : State) (p : PackId) (a : ArmId) (h : HeadId) : State :=
  if (s.arm p a).fmt.committed then
    (s.updFmt p a (fun f => { f with conflicts := f.conflicts ||| laneBit h })).sitOutRest p a h
  else s.abandonRoutine p a true

/-- The servo window of a lane opens around a wedge reference point, wider while the lane is provisional: its demodulator reads the
servo field while the data path is idle (R48, R153, R155). It closes by itself at its scheduled angle. -/
def execServoWindowOpen (p : PackId) (a : ArmId) (h : HeadId) (s : State) : Res :=
  .next (
    let l := s.lane p a h
    let tb := s.packs[p].tb.state
    let prov : Bool := l.time = .provisional
    let now := (s.laneAngle p a h).toNat + windowBefore prov
    if l.chan.power = .off ∨ tb = .stopped ∨ tb = .lost ∨ windowBefore prov + windowAfter prov ≤ now % 2 ^ 19 then s
    else s.updChan p a h (fun c =>
      { c with servoUntil := some (BitVec.ofNat 40 (now / 2 ^ 19 * 2 ^ 19 + windowAfter prov)) }))

/-- A gate that opens at position `first` and closes at `last` would be open at a servo window's opening (R155). -/
def crossesWindow (first last : Nat) : Bool :=
  decide (2 ^ 19 - windowBefore false < first % 2 ^ 19 + (last - first))

/-- The gate at position `pos` of the revolution is due: its time, sought from `start` on, has come within the last half wedge (R36, R37,
R202). Its lane-local time. -/
def gateDue (start : AngleTime) (pos : Nat) (now : AngleTime) : Option AngleTime :=
  let late := (now.toNat % 2 ^ 28 + 2 ^ 28 - pos % 2 ^ 28) % 2 ^ 28
  if angleReached (nextPass start pos) now ∧ late < 2 ^ 18 then some (now - BitVec.ofNat 40 late) else none

/-- The gate of a sector's fragment that is due on a lane, sought from `start` on, and its lane-local time. -/
def State.dueGate (s : State) (p : PackId) (a : ArmId) (h : HeadId) (addr : Nat) (second : Bool) (start : AngleTime) :
    Option (GatePlan × AngleTime) :=
  match s.gatePlan p a h addr second with
  | some g => (gateDue start g.first (s.laneAngle p a h)).map (fun t => (g, t))
  | none => none

/-! ### Read gates -/

/-- The next sector of a lane's run that it does not skip (R133). -/
def State.skipListed (s : State) (p : PackId) (a : ArmId) (h : HeadId) (write : Bool) : Nat → State
  | 0 => s
  | n + 1 =>
    match (s.arm p a).fmt.run h write with
    | none => s
    | some r =>
      if s.packs[p].skips write h.val r.track (r.first + r.done) then
        (s.updFmt p a (fun f => { f with runs := updRun h write (fun r => r.advance true) f.runs })).skipListed p a h write n
      else s

/-- Sectors that the runs of a lane may still name. -/
def Formatter.named (f : Formatter) (h : HeadId) : Nat := ((f.runs.filter (fun r => r.lane = h)).map (fun r => r.count)).sum

/-- The lane stands at its next sector to read, or to write, that it does not skip (R133). -/
def State.atNext (s : State) (p : PackId) (a : ArmId) (h : HeadId) (write : Bool) : State :=
  s.skipListed p a h write ((s.arm p a).fmt.named h)

/-- What is left when every further sector of a lane's run is listed: the run has ended, and an idle group's turn passes (R133, R159). -/
def State.skippedOut (s s0 : State) (p : PackId) (a : ArmId) (h : HeadId) (write : Bool) : State :=
  match (s0.arm p a).fmt.run h write with
  | none => s0
  | some _ => if write ∧ (s.arm p a).fmt.running ∧ ¬ (s.arm p a).writing then s.armTurn p a else s

/-- A read under an override or a freeze of Bench, as the lane applies them (R18, R485). -/
def State.overridden (s : State) (p : PackId) (a : ArmId) (h : HeadId) : Bool :=
  let c := (s.lane p a h).chan
  s.dev.state = .bench && (c.gainOver ≠ 0x7FFF || c.boostOver ≠ 255 || c.freeze ≠ 0)

/-- The zone's cache entry of a lane (R145). -/
def Channel.cached (c : Channel) (zone speed : Nat) : Option AdaptEntry :=
  c.cache.find? (fun e => e.zone = zone ∧ e.speed = speed)

/-- The seeds of a record as the loops' starting values. -/
def ZoneRec.seeds (z : ZoneRec) : Adapt := { gain := z.gain, offset := z.offset, asym := z.asym, taps := z.taps }

/-- The starting values of a read gate: those of its ladder step, from the cache or, without an entry or under an override of Bench, from
the zone seeds; and the CTF boost, which a ladder read may shift (R139, R144, R145, R178, R485). -/
def State.startValues (s : State) (p : PackId) (a : ArmId) (h : HeadId) (zone : Nat) (z : ZoneRec) (step boost : Nat) : Adapt × Nat :=
  let c := (s.lane p a h).chan
  let forced := s.overridden p a h
  let base := match c.cached zone (s.packs[p].spindle.target) with
    | some e => if forced then z.seeds else stepStart step z.seeds e.body
    | none => z.seeds
  (if forced ∧ c.gainOver ≠ 0x7FFF then { base with gain := signedNat 16 c.gainOver } else base,
   if forced ∧ c.boostOver ≠ 255 then c.boostOver else boost)

/-- The entry used moves to the front of the cache (R145). -/
def touchCache (zone speed : Nat) (l : List AdaptEntry) : List AdaptEntry :=
  (l.filter (fun e => e.zone = zone ∧ e.speed = speed)) ++ l.filter (fun e => ¬(e.zone = zone ∧ e.speed = speed))

/-- Room for one more sector in the sample store: a free slot, or the oldest sector whose recovery and decode are over (R147, R177). While
one sector recovers the lane reads on into the other slot, whose first decode may still run; once a second sector has failed its first
decode beside it the next gate is held (DEDUCED: log entry 149). -/
def storeRoom (l : List Reading) : Option (List Reading) :=
  if 2 ≤ (l.filter (fun r => r.phase = .recovering)).length then none
  else
    let rest := if l.length < 2 then l else l.eraseP (fun r => r.phase = .ended)
    if rest.length < 3 then some rest else none

/-- A read gate opens on a lane at its time (R139, R153): timing is seeded from the time base, adaptation from `v`, and a second fragment
reloads the phase and keeps the rest (R146). -/
def Channel.openRead (c : Channel) (t : AngleTime) (g : GatePlan) (rate : Nat) (second : Bool) (v : Adapt × Nat) : Channel :=
  { c with readOpen := true, power := .reading, gateFrom := t, gateEnd := t + BitVec.ofNat 40 (g.readEnd - g.first), cellRate := rate,
           phaseCell := if second then 0 else g.place.cell,
           start := if second then c.start else v.1, boost := if second then c.boost else v.2 }

/-- The time status of a lane refuses its gates: provisional, excluded, or drifting while it is measured (R155). -/
def State.timeRefused (s : State) (p : PackId) (a : ArmId) (h : HeadId) : Bool :=
  let l := s.lane p a h
  l.time = .provisional || l.time = .excluded || (l.time = .drifting && s.packs[p].tb.measuring)

/-- The read gate of a ladder read opens (R178, R179) with the step's starting values and boost; the head offset of step 3 is in place since the
servo field before it. A cancel that waited for the writes ends the routine here too (R206), and a lane whose time status refuses the gate sits out
(R155). -/
def State.openLadder (s : State) (p : PackId) (a : ArmId) (h : HeadId) : State :=
  let x := s.arm p a
  let rate := fun g : GatePlan => g.zrec.cells * 10 ^ 11 / max s.packs[p].tb.revPeriod 1
  let due := fun (y : LadderSector) => s.dueGate p a h y.addr y.passing y.fromTime
  let mine := x.fmt.ladder.filter (fun y => y.lane = h ∧ (y.step ≤ 5 ∨ x.fmt.six = some (h, y.addr)))
  match (mine.filter (fun y => y.passing)) ++ mine.filter (fun y => !y.passing && !mine.any (fun z => z.passing)) |>.find? (fun y => (due y).isSome) with
  | none => s
  | some y => match due y with
    | none => s
    | some (g, t) =>
      let par := if y.passing then y.params else s.recParams p
      let v := s.startValues p a h g.zone g.zrec y.step (ladderBoost g.zrec.boost (recOf par 9) y.step y.reads)
      if x.fmt.cancel then (s.endRoutine p a 0x1A).kick p a
      else if s.timeRefused p a h then s.sitOutRest p a h
      else (s.updChan p a h (fun c => c.openRead t g (rate g) y.passing v)).putLadder p a
        { y with passing := true, fromTime := t, params := par }

/-- A read gate opens when its angle comes on the lane (R36, R139, R145, R153, R202): the lane seeds its timing loop from the time base and
its adaptation from the cache or the zone. A lane whose sample store is held by recovery misses the sector, which starts the ladder
at step 1 (R147, R177). A cancel that waited for the writes ends the routine at its next read gate (R206). A lane whose time status refuses
gates sits out (R155). With no run left on the lane a ladder read's gate opens (R179). -/
def execReadGateOpen (p : PackId) (a : ArmId) (h : HeadId) (s0 : State) : Res :=
  .next (
    let s := s0.atNext p a h false
    let c := (s.lane p a h).chan
    let f := (s.arm p a).fmt
    match f.run h false with
    | none =>
      if f.running ∧ f.laddering ∧ c.power.active ∧ ¬ c.readOpen ∧ ¬ c.writeOpen ∧ ¬ s.servoOpen p a h ∧ s.tbUsable p then
        s.openLadder p a h
      else s.skippedOut s0 p a h false
    | some r =>
      if ¬ f.running ∨ ¬ c.power.active ∨ c.readOpen ∨ ¬ s.tbUsable p ∨ ¬ f.readTurn r then s0
      else
        let addr := mkAddr p.val h.val r.track (r.first + r.done)
        let second := c.store.any (fun x => x.phase = .reading)
        match s.dueGate p a h addr second r.fromTime with
        | none => s0
        | some (g, t) =>
          if f.cancel then (s.endRoutine p a 0x1A).kick p a
          else if s.timeRefused p a h then s.sitOutRest p a h
          else if s.servoOpen p a h ∨ c.writeOpen ∨ crossesWindow g.first g.readEnd then s.gateConflict p a h
          else
            let rate := g.zrec.cells * 10 ^ 11 / max s.packs[p].tb.revPeriod 1
            let s1 := s.updFmt p a (fun f => { f with runs := updRun h false (fun r => { r with fromTime := t }) f.runs })
            if second then s1.updChan p a h (fun c => c.openRead t g rate true ({}, 0))
            else match storeRoom c.store with
              | none =>
                (s1.toLadder p a h { lane := h, addr := addr, reason := 0x10, step := 1, verify := r.type = 2 }).updFmt p a
                  (fun f => { f with runs := updRun h false (fun r => r.advance true) f.runs })
              | some l =>
                let v := s.startValues p a h g.zone g.zrec 0 g.zrec.boost
                let cap := s.dev.state = .bench && s.param (0xF203 + p.val * 8) 0 == laneSub a h
                s1.updChan p a h (fun c =>
                  { c.openRead t g rate false v with
                    cache := if s.overridden p a h then c.cache else touchCache g.zone s.packs[p].spindle.target c.cache,
                    capturing := cap,
                    store := l ++ [{ addr := addr, split := g.place.first.isSome, verify := r.type = 2,
                                     first := g.place.first.getD 37440, tag := reqTag f.req, restart := f.restarts,
                                     loops := v.1.loops, params := s.recParams p }] }))

/-- Changes the sector a lane is reading. -/
def updReading (ph : ReadPhase) (f : Reading → Reading) : List Reading → List Reading
  | [] => []
  | r :: l => if r.phase = ph then f r :: l else r :: updReading ph f l

/-- The lane-local time of a sync decision, 24 cells after the window closes at cell e + W + L (R168, R169), for a gate that opened at
`start`. -/
def decisionTime (start : AngleTime) (cells w : Nat) (second : Bool) : AngleTime :=
  start + BitVec.ofNat 40 ((expectedMark second + w + markLen second + 24) * 2 ^ 28 / max cells 1)

/-- The decision 24 cells after a sync window closes: `bits` are the detector's tentative decisions from cell e - W on, compared with
the mark at the candidate positions e - W to e + W; a missed mark is looked for again with the threshold raised by one (R168 to
R170). The window's decisions stay in the sample store (R147). -/
def execSyncWindowDecision (p : PackId) (a : ArmId) (h : HeadId) (bits : List Bool) (s : State) : Res :=
  .next (
    let c := (s.lane p a h).chan
    match c.store.find? (fun r => r.phase = .reading) with
    | none => s
    | some r =>
      let second := decide (0 < r.closed)
      let w := recOf r.params 3
      let cells := match s.trackZone p a h (addrTrack r.addr) with | some z => z.2.cells | none => 0
      if ¬ c.readOpen ∨ r.decided ≠ r.closed ∨ ¬ angleReached (decisionTime c.gateFrom cells w second) (s.laneAngle p a h) then s
      else
        let m := decideMark w (recOf r.params (if second then 2 else 1)) (markDistances second w bits)
        let win := bits.take (2 * w + markLen second)
        s.updChan p a h (fun c =>
          { c with store := updReading .reading (fun r =>
              if second then { r with mark2 := m, frag2 := { r.frag2 with window := win }, decided := r.decided + 1 }
              else { r with mark1 := m, frag1 := { r.frag1 with window := win }, decided := r.decided + 1 }) c.store }))

/-- A capture ends with the gate (R485): the buffer holds the equalised samples, zero beyond them, the capture lane returns to 0. -/
def State.endCapture (s : State) (p : PackId) (a : ArmId) (h : HeadId) (samples : List Int) : State :=
  if (s.lane p a h).chan.capturing then
    let b := (samples.take 65536).map (fun v => (BitVec.ofInt 8 v : Byte))
    let buf := b ++ List.replicate (65536 - b.length) 0
    let s1 := s.updChan p a h (fun c => { c with capturing := false })
    let s2 := s1.setParam (0xF203 + p.val * 8) 0 0
    { s2 with bench := { s2.bench with
        captures := sat32 s2.bench.captures 1,
        buffers := (p.val, buf) :: s2.bench.buffers.filter (fun x => x.1 ≠ p.val) } }
  else s

/-- What a read gate found enters the sector it read (R143 to R147). -/
def Reading.takeGate (r : Reading) (g : GateResult) : Reading :=
  { r with
    frag1 := if r.closed = 0 then g.frag else r.frag1, frag2 := if r.closed = 0 then r.frag2 else g.frag,
    closed := r.closed + 1, slips := r.slips + g.slips, dropout := r.dropout && g.blank, loops := g.loops }

/-- A read gate closes at its scheduled angle (R153, R171, R172): `cells` are its bit cells. After the sector's last fragment the first
decode begins, or, without an alignment, the sector awaits the ladder with reason sync not found. -/
def execReadGateClose (p : PackId) (a : ArmId) (h : HeadId) (cells : List CellSample) (s0 : State) : Res :=
  .next (
    let c := (s0.lane p a h).chan
    if ¬ c.readOpen ∨ ¬ angleReached c.gateEnd (s0.laneAngle p a h) then s0
    else
      match c.store.find? (fun r => r.phase = .reading) with
      | none => s0.updChan p a h (fun c => { c with readOpen := false, power := .idle })
      | some r0 =>
        let g := s0.readGate p a h (decide (0 < r0.closed)) r0.loops (if r0.closed = 0 then r0.frag1.window else r0.frag2.window) cells
        let s := (s0.endCapture p a h g.frag.samples).updHealth p a h (fun x => x.sawRead (g.frag.marks.count true) g.slips)
        let r := r0.takeGate g
        let put := fun (s : State) (r : Reading) => s.updChan p a h (fun c =>
          { c with readOpen := false, power := .idle, tail := g.tail, store := updReading .reading (fun _ => r) c.store })
        if r.split ∧ r.closed = 1 then put s r
        else
          let s2 := s.updFmt p a (fun f => { f with runs := updRun h false (fun x => x.advance true) f.runs })
          match alignments r.split r.mark1 r.mark2 with
          | some _ => put s2 { r with phase := .decoding }
          | none =>
            (put s2 { r with phase := .ended }).toLadder p a h
              { lane := h, addr := r.addr, reason := 0x10, marksOwn := r.marked, drop0 := r.dropout, verify := r.verify,
                last := some (r.base ((s.arm p a).fmt.readStep h r.addr)) })

/-- The cache entry of the zone takes the loops' final values of a clean read, the least recently used making room; not in
a read under an override (R145, R485). -/
def State.teachCache (s : State) (p : PackId) (a : ArmId) (h : HeadId) (r : Reading) : State :=
  if s.overridden p a h then s
  else match s.trackZone p a h (addrTrack r.addr) with
    | none => s
    | some (zone, _) =>
      let speed := s.packs[p].spindle.target
      s.updChan p a h (fun c =>
        { c with cache := (⟨zone, speed, r.loops.values⟩ ::
            c.cache.filter (fun e => ¬(e.zone = zone ∧ e.speed = speed))).take 4 })

/-- The first decode ends (R172, R173): a clean success waits for delivery, and teaches the cache; a failure goes to
recovery on the stored samples. `snr` is the sector's SNR in 1/256 dB, which a success adds to the means (R164). -/
def execFirstDecodeDone (p : PackId) (a : ArmId) (h : HeadId) (result : Attempt) (snr : Int) (s : State) : Res :=
  .next (
    match ((s.lane p a h).chan.store).find? (fun r => r.phase = .decoding) with
    | none => s
    | some r => match alignments r.split r.mark1 r.mark2 with
      | none => s
      | some (a1, a2, fly) =>
        let put := fun (f : Reading → Reading) => s.updChan p a h (fun c => { c with store := updReading .decoding f c.store })
        match firstDecode (recOf r.params 4) r.relaxed fly a1 a2 (r.llr a1 a2 false) (r.base ((s.arm p a).fmt.readStep h r.addr)) result with
        | .failed _ e => put (fun r => { r with phase := .recovering, crcBad := e.crcBad, iter := e.iter })
        | .final e =>
          let s1 := put (fun r => { r with phase := .ended })
          let s2 := if e.good ∧ e.method = 0 then s1.teachCache p a h r else s1
          s2.endSector p a h { e with snr := if e.good then some snr else none })

/-- Recovery on stored samples ends (R174 to R177): a success or a final outcome waits for delivery; otherwise the sector
awaits the ladder with the reason of the last attempt. -/
def execStoredRecoveryDone (p : PackId) (a : ArmId) (h : HeadId) (found : Recovered) (s : State) : Res :=
  .next (
    match ((s.lane p a h).chan.store).find? (fun r => r.phase = .recovering) with
    | none => s
    | some r => match alignments r.split r.mark1 r.mark2 with
      | none => s
      | some (a1, a2, fly) =>
        let s1 := s.updChan p a h (fun c =>
          { c with store := updReading .recovering (fun r => { r with phase := .ended }) c.store })
        let e := { r.base ((s.arm p a).fmt.readStep h r.addr) with flywheel := fly, shift1 := a1, shift2 := a2 }
        match recoverStored r.params r.split a1 a2 r.llr found e (if r.crcBad then 0x12 else 0x11) with
        | .final e => s1.endSector p a h e
        | .failed reason e => s1.toLadder p a h
            { lane := h, addr := r.addr, reason := reason, marksOwn := r.marked, drop0 := r.dropout, verify := r.verify,
              llr := r.llr a1 a2 false, crcBad := e.crcBad, last := some e })

/-! ### Ladder reads -/

/-- The reading that a ladder read makes of its sector, with the parameters in force at its start (R178, R182). -/
def State.ladderReading (s : State) (p : PackId) (a : ArmId) (x : LadderSector) (v : LadderRead) : Reading :=
  let h := x.lane
  let w := recOf x.params 3
  let split := s.isSplit p a h x.addr
  let g1 := s.readGate p a h false (s.lane p a h).chan.start.loops v.window1 v.cells1
  let g2 := (s.updChan p a h (fun c => { c with tail := g1.tail })).readGate p a h true g1.loops v.window2 v.cells2
  let f := (s.arm p a).fmt
  { addr := x.addr, split := split, verify := x.verify,
    first := match s.place p a h x.addr with | some y => y.first.getD 37440 | none => 37440,
    tag := reqTag f.req, restart := f.restarts, crcBad := x.crcBad, params := x.params,
    iter := match x.last with | some e => e.iter | none => 0,
    frag1 := g1.frag, frag2 := if split then g2.frag else {}, slips := g1.slips + (if split then g2.slips else 0),
    dropout := g1.blank && (!split || g2.blank), loops := if split then g2.loops else g1.loops,
    mark1 := decideMark w (recOf x.params 1) (markDistances false w v.window1),
    mark2 := if split then decideMark w (recOf x.params 2) (markDistances true w v.window2) else none }

/-- The alignments that an averaged read uses: a missed mark stands at e, which is then a flywheel alignment (R180, R183). -/
def Reading.atMarks (r : Reading) : Int × Int × Bool :=
  ((match r.mark1 with | some m => m.pos | none => 0), (match r.mark2 with | some m => m.pos | none => 0),
    r.mark1.isNone || (r.split && r.mark2.isNone))

/-- The averaged samples of step 5 as a reading (R180): the detector's outputs and the defect marks are those of the average; its code bits
stand from the fragment's first code cell on. -/
def State.averagedLlr (s : State) (p : PackId) (a : ArmId) (r : Reading) (sum soft : List Int) (s1 s2 : Int) (ignore : Bool) :
    List Int :=
  let c := (s.arm p a).servo.coef
  let avg := sum.map (fun v => roundDiv v 4)
  let d := findDefects (coefAt c 0x29 1) (coefAt c 0x29 2) [] avg
  let l := (soft.zip d.marks).map (fun x => if x.2 && !ignore then 0 else clampLlr false x.1)
  let at_ := r.atMarks
  if r.split then halveEdges (shiftLlr (s1 - at_.1) (l.take r.first)) ++ halveEdges (shiftLlr (s2 - at_.2.1) (l.drop r.first))
  else shiftLlr (s1 - at_.1) l

/-- What one ladder read comes to (R178, R180): its decode and the methods of R174 on its samples. Step 2 and the second read of step 6
decode on LLRs combined with the read before; the first three reads of step 5 only gather samples, and the fourth decodes the
average. -/
def State.ladderFate (s : State) (p : PackId) (a : ArmId) (x : LadderSector) (r : Reading) (v : LadderRead) : Fate :=
  let e := r.base x.step
  if x.step = 5 ∧ x.reads < 3 then .failed x.reason e
  else
    let al := if x.step = 5 then some r.atMarks else alignments r.split r.mark1 r.mark2
    match al with
    | none => .failed 0x10 e
    | some (a1, a2, fly) =>
      let llrAt := fun (s1 s2 : Int) (ign : Bool) =>
        if x.step = 5 then s.averagedLlr p a r (sumSamples x.sum (r.codeSamples a1 a2)) v.averaged s1 s2 ign
        else if x.step = 2 ∨ x.step = 6 then combineLlr x.llr (r.llr s1 s2 ign)
        else r.llr s1 s2 ign
      match firstDecode (recOf x.params 4) r.relaxed fly a1 a2 (llrAt a1 a2 false) e v.first with
      | .final e => .final { e with snr := if e.good then some v.snr else none }
      | .failed why e => recoverStored x.params r.split a1 a2 llrAt v.recovered { e with shift1 := a1, shift2 := a2 } why

/-- A ladder read of a sector ends with its gate (R178 to R182). -/
def execLadderReadDone (p : PackId) (a : ArmId) (h : HeadId) (addr : Nat) (v : LadderRead) (s0 : State) : Res :=
  .next (
    let f := (s0.arm p a).fmt
    match f.ladder.find? (fun x => x.lane = h ∧ x.addr = addr) with
    | none => s0
    | some x =>
      let c := (s0.lane p a h).chan
      if ¬ f.laddering ∨ ¬ x.passing ∨ ¬ c.readOpen ∨ ¬ angleReached c.gateEnd (s0.laneAngle p a h) then s0
      else
        let r := s0.ladderReading p a x v
        let s := s0.updLane p a h (fun l =>
          { l with chan := { l.chan with readOpen := false, power := .idle },
                   health := l.health.sawRead r.marked r.slips })
        let m := r.atMarks
        let x1 := { x with
          marksOwn := r.marked, reads := x.reads + 1,
          llr := if (alignments r.split r.mark1 r.mark2).isSome then r.llr m.1 m.2.1 false else x.llr,
          sum := if x.step = 5 then sumSamples x.sum (r.codeSamples m.1 m.2.1) else x.sum }
        if x.step = 1 ∧ x.drop0 ∧ r.dropout then
          (s.dropLadder p a x).endSector p a h { r.base 1 with outcome := 0x15 }
        else match s0.ladderFate p a x r v with
          | .final e => (s.dropLadder p a x).endSector p a h e
          | .failed why e => s.ladderOn p a { x1 with reason := why, crcBad := e.crcBad, last := some e } e)

/-- The lane sends the oldest sector that has ended: its bytes when good, otherwise its status word (R148, R185). -/
def execSectorDelivery (p : PackId) (a : ArmId) (h : HeadId) (s : State) : Res :=
  .next (
    match (s.lane p a h).chan.ends with
    | [] => s
    | e :: l => (s.updChan p a h (fun c => { c with ends := l })).deliverEnd p a h e)

/-! ### Writing -/

/-- 2 µs before a write gate (R150): `data` is what the hub has placed of the lane's next sector, complete with 4,096 + 56 bytes (log
entry 112). A sector complete in the buffer waits there; otherwise the lane is not ready before the commit point, and after it
underruns. -/
def execWriteBufferDeadline (p : PackId) (a : ArmId) (h : HeadId) (data : List Byte) (s0 : State) : Res :=
  .next (
    let s := s0.atNext p a h true
    let f := (s.arm p a).fmt
    match f.run h true with
    | none => s.skippedOut s0 p a h true
    | some r =>
      if ¬ f.running then s0
      else
        let next := if (s.lane p a h).chan.writing.isSome then 1 else 0
        let addr := mkAddr p.val h.val r.track (r.first + r.done + next)
        if r.count ≤ r.done + next then s0
        else if data.length = 4152 then
          s.updChan p a h (fun c =>
            if c.wbuf.length < 4 then { c with wbuf := c.wbuf.filter (fun b => b.addr ≠ addr) ++ [⟨addr, data⟩] } else c)
        else if f.committed then s
        else s.abandonRoutine p a true)

/-- No new write gate opens: from the second consecutive missed wedge of a Coast until Locked (R44). The missed wedges are those that R42 counts:
a wedge outside the lock window keeps the count (DEDUCED: log entry 138). -/
def State.coastHolds (s : State) (p : PackId) : Bool := s.packs[p].tb.state = .coast && 2 ≤ s.packs[p].tb.missed

/-- A lane may open a write gate now (R156 to R159, R165): its group's turn, armed and echoed, not inhibited. -/
def State.mayWrite (s : State) (p : PackId) (a : ArmId) (h : HeadId) (r : Run) : Bool :=
  let x := s.arm p a
  let l := x.lanes[h]
  x.fmt.turn = some r.group && x.servo.armedEchoed.testBit h.val && x.servo.armedSent.testBit h.val
    && !l.servo.inhibit && !l.chan.noMoreWrites && l.health.quality ≠ 3 && l.health.quality ≠ 4

/-- A lane begins to write a sector at time `t`; one that is not complete in the buffer is written under underrun (R150, R153). -/
def Channel.beginWrite (c : Channel) (addr : Nat) (t : AngleTime) (g : GatePlan) (joined : Bool) : Channel :=
  let ready := c.wbuf.any (fun b => b.addr = addr)
  { c with power := .writing, gateFrom := t, gateEnd := t + BitVec.ofNat 40 (g.writeEnd - g.first),
           writing := some { addr := addr, joined := joined, underrun := !ready, torn := !ready },
           noMoreWrites := c.noMoreWrites || !ready }

/-- A write gate opens at the media when its angle comes on the lane (R36, R153, R202, R205): the first one is the routine's commit
point. In a held Coast the routine is held at the gate (R44), a second fragment's too; a lane whose time status refuses gates sits out (R155).
A sector that is not complete is written under underrun, both its fragments (R150). -/
def execWriteGateOpen (p : PackId) (a : ArmId) (h : HeadId) (s0 : State) : Res :=
  .next (
    let s := s0.atNext p a h true
    let c := (s.lane p a h).chan
    let f := (s.arm p a).fmt
    match f.run h true with
    | none => s.skippedOut s0 p a h true
    | some r =>
      let second := c.writing.isSome
      let addr := mkAddr p.val h.val r.track (r.first + r.done)
      if ¬ f.running ∨ ¬ c.power.active ∨ c.writeOpen ∨ ¬ s.tbUsable p then s0
      else match s.dueGate p a h addr second r.fromTime with
        | none => s0
        | some (g, t) =>
          if s.coastHolds p then s.updFmt p a (fun f => { f with held := true })
          else if s.timeRefused p a h then s.sitOutRest p a h
          else if s.servoOpen p a h ∨ c.readOpen ∨ crossesWindow g.first g.writeEnd then s.gateConflict p a h
          else if ¬ second ∧ ¬ s.mayWrite p a h r then s0
          else
            let s1 := s.updFmt p a (fun f => { f with held := false, runs := updRun h true (fun r => { r with fromTime := t }) f.runs })
            if second then
              s1.updChan p a h (fun c =>
                { c with power := .writing, gateFrom := t, gateEnd := t + BitVec.ofNat 40 (g.writeEnd - g.first),
                         writing := c.writing.map (fun w => { w with isOpen := true, joined := false }) })
            else
              let ready := c.wbuf.any (fun b => b.addr = addr)
              if ¬ ready ∧ ¬ f.committed then s1.abandonRoutine p a true
              else
                (s1.updChan p a h (fun c => c.beginWrite addr t g false)).updFmt p a (fun f =>
                  { f with committed := true, underrun := f.underrun || !ready }))

/-- A lane writes no further sector of the routine: its run ends, incomplete when sectors are left (R150, R156). -/
def State.endWriteRun (s : State) (p : PackId) (a : ArmId) (h : HeadId) : State :=
  match (s.arm p a).fmt.run h true with
  | some _ =>
    if (s.lane p a h).chan.noMoreWrites then
      s.updFmt p a (fun f =>
        { f with incomplete := f.incomplete ||| laneBit h, runs := updRun h true (fun r => { r with ended := true }) f.runs })
    else s
  | none => s

/-- The pack's Spent check after bytes have been written (R77, R90). -/
def State.checkLife (s : State) (p : PackId) : State :=
  let k := s.packs[p]
  let m := k.lifeMille
  let s1 :=
    if 900 ≤ m ∧ ¬ k.life.worn then
      ((s.updPack p (fun k => { k with life := { k.life with worn := true } })).packWarning p 1).saveLife p
    else s
  if 1000 ≤ m ∧ (k.state = .ready ∨ k.state = .draining) then
    (((s1.updPack p (fun k => { k with life := { k.life with spent := true } })).saveLife p).setPackState p .spent).noteEmpty
  else s1

/-- The write gate stays open into the next sector of the lane's run when it begins where this one's gate would close (R153). -/
def State.joinNext (s : State) (p : PackId) (a : ArmId) (h : HeadId) (closeAt : AngleTime) (last : Nat) : State :=
  match (s.arm p a).fmt.run h true with
  | none => s
  | some r =>
    let addr := mkAddr p.val h.val r.track (r.first + r.done)
    match s.gatePlan p a h addr false with
    | none => s
    | some g =>
      if (s.arm p a).fmt.running ∧ g.first = last ∧ ¬ s.packs[p].listed h.val r.track (r.first + r.done) ∧ s.mayWrite p a h r then
        (s.updChan p a h (fun c => c.beginWrite addr closeAt g true)).updFmt p a (fun f =>
          { f with underrun := f.underrun || !((s.lane p a h).chan.wbuf.any (fun b => b.addr = addr)),
                   runs := updRun h true (fun r => { r with fromTime := closeAt }) f.runs })
      else s

/-- A lane's write gate reaches its scheduled close (R128, R153, R154): the first fragment of a split sector keeps the sector open with
the pair idle, unless the second gate is cancelled; otherwise the sector counts as written, and the gate stays open for a sector that follows at once. After a group's last
gate the next group is armed, after the last group none (R157, R159). -/
def State.writeCloses (s : State) (p : PackId) (a : ArmId) (h : HeadId) : State :=
  let c := (s.lane p a h).chan
  match c.writing with
  | none => s
  | some w =>
    if s.isSplit p a h w.addr ∧ w.closed = 0 ∧ ¬ w.last then
      (s.drive p a h false).updChan p a h (fun c =>
        { c with power := .idle, writing := some { w with closed := 1, isOpen := false } })
    else
      let last := match s.gatePlan p a h w.addr (decide (0 < w.closed)) with | some g => g.writeEnd | none => 0
      let s1 := s.closeWrite p a h false
      let s2 := if w.last then s1 else (s1.endWriteRun p a h).joinNext p a h c.gateEnd last
      (s2.checkLife p).afterGates p a

/-- A write gate's scheduled close (R153). -/
def execWriteGateClose (p : PackId) (a : ArmId) (h : HeadId) (s : State) : Res :=
  .next (
    let c := (s.lane p a h).chan
    if c.writeOpen ∧ angleReached c.gateEnd (s.laneAngle p a h) then s.writeCloses p a h else s)

/-- The servo-protect period begins (R109): a write gate still open is closed, its sector torn, and the routine ends with
0x15. A gate whose scheduled close lies at or before the period's start is no violation: it closes as scheduled (R154). -/
def execServoProtectStart (p : PackId) (a : ArmId) (h : HeadId) (s : State) : Res :=
  .next (
    let c := (s.lane p a h).chan
    if ¬ c.writeOpen ∨ ¬ s.inProtect p a h then s
    else if angleReached c.gateEnd (s.laneAngle p a h) then s.writeCloses p a h
    else
      let s1 := (s.closeWrite p a h true).updMedia p (fun m => { m with servoProtect := sat32 m.servoProtect 1 })
      (s1.endRoutine p a 0x15).kick p a)

/-! ### Zone tables -/

/-- A band slot as the pack gives it; the reserved type code 3 is taken as Retired (DESIGN CHOICE: log entry 108). -/
def bandOf (x : BandImage) : Band :=
  { surface := x.surface, slot := x.slot, track := x.track, sector := x.sector, listSeq := x.listSeq,
    type := if x.type = 0 then .sequential else if x.type = 1 then .random else .retired }

/-- Loads the matching table set into the tile: the pack goes to Ready (R90, R125). The defect list, the bands and the suspects are read
with a pack's first tables (R127, R132, R190). -/
def State.loadZones (s : State) (p : PackId) (copy : Nat) (t : ZoneTable) (l : MediaLists) : State :=
  let s1 := s.updMedia p (fun m =>
    let d := readDefects l.list0 l.list1
    let m1 := if m.zones.isNone then
        { m with defects := d.2, listSeq := d.1, bands := l.bands.map bandOf,
                 suspects := keepLast 4096 (l.suspects.map (fun x => ⟨x.addr, x.rewritten⟩)) }
      else m
    { m1 with zoneCopy := copy, zones := some t })
  if s.packs[p].state = .loaded then s1.setPackState p .ready else s1

/-- The reading of the zone tables ends (R122, R124, R125): copy 0 first, copy 1 only if it does not match. Each copy is what the sectors of
its locator track hold: the speed 0 set, and the speed 1 set where the pack has one. With no copy that matches the pack fails (R137). -/
def execZoneTableReadDone (p : PackId) (copy0 copy1 : List Byte) (lists : MediaLists) (s : State) : Res :=
  .next (
    match s.packs[p].identity, s.packs[p].factory with
    | some i, some f =>
      let second : Bool := s.packs[p].spindle.target ≠ i.speed0
      let fits := fun c : List Byte =>
        if second then
          zoneSetMatches (zoneSetBytes c true) i.zones i.speed1 f.digest1 f.surfaces (some (parseZones (zoneSetBytes c false)))
        else zoneSetMatches (zoneSetBytes c false) i.zones i.speed0 f.digest0 f.surfaces none
      if ¬ (s.packs[p].state = .loaded ∨ s.packs[p].state = .draining ∨ s.packs[p].state = .spent) then s
      else if fits copy0 then s.loadZones p 0 (parseZones (zoneSetBytes copy0 second)) lists
      else if fits copy1 then s.loadZones p 1 (parseZones (zoneSetBytes copy1 second)) lists
      else (s.packFail p 9).kickPack p
    | _, _ => s)

end Sys2Proof.Machine
end

