-- ==== Sys2Proof/Machine/Power.lean ====
section
/-! DEFINITION. VDD_AON, RESET_N, supply loss, PMBus, power domains, the references after Boot, state commands, the orderly close, Lee
and Zephyr, wake events (R28, R517 to R526, R539 to R545, R549). -/

namespace Sys2Proof.Machine

/-! ### VDD_AON and RESET_N -/

/-- VDD_AON is removed: the device is Off, the island's SRAM is lost, and no enable is driven any more (R518, R525). -/
def execVddAonRemoved (s : State) : Res :=
  .next (
    let k := s.domainsOff
    { State.reset with
      pending := k.pending, now := k.now, free := k.free, out := k.out, part := k.part, flash := k.flash, fuses := k.fuses,
      window := { bytes := k.window.bytes, placed := k.window.placed }, store := { disk := k.store.disk, position := k.store.position },
      packs := k.packs.map (fun x => { spindle := { speed := x.spindle.speed, backward := x.spindle.backward } }),
      dev := { state := .off, aonUp := false } })

/-- What something outside has programmed into boot flash. -/
def placeFlash (x : BootFlash) (f : Flash) : Flash :=
  { f with
    image := #v[x.imageA, x.imageB], base := #v[x.base0, x.base1], stored := #v[x.stored0, x.stored1],
    overlay := Vector.ofFn (fun n : Fin 16 => x.overlays.find? (fun o => o.slot = n.val)),
    selector := #v[x.selector0, x.selector1], counters := x.counters }

/-- The targets of the flash window that it programs (R551). -/
def placedTargets (x : BootFlash) : List Nat :=
  (if x.imageA.isSome then [0] else []) ++ (if x.imageB.isSome then [1] else []) ++ (if x.base0.isSome then [2] else [])
    ++ (if x.base1.isSome then [3] else []) ++ x.overlays.map (fun o => 16 + o.slot)

/-- VDD_AON is applied (R525, R549, R580): RESET_N is sampled, a cold start. The counts resume from the counter block, the seconds 600
beyond it. -/
def execVddAonApply (flash : Option BootFlash) (resetN crystal : Bool) (s : State) : Res :=
  .next (
    if s.dev.state ≠ .off ∨ s.dev.aonUp then s
    else
      let f := match flash with | some x => placeFlash x s.flash | none => s.flash
      let d : Device := { s.dev with
        state := if resetN then .boot else .off, aonUp := true, crystal := crystal, secondAt := s.now,
        opSec := match f.counters with | some c => (c.opSec + 600) % 2 ^ 32 | none => 0,
        powerCycles := match f.counters with | some c => min (c.powerCycles + 1) 0xFFFFFFFF | none => 1 }
      let w : FlashWindow := match flash with | some x => { bytes := [], placed := placedTargets x } | none => s.window
      { s with flash := f, dev := d, window := w,
               recorder := { s.recorder with fatalOverwritten := match f.counters with | some c => c.fatalOverwritten | none => 0 },
               injection := { nonce := s.free }, sec := { tapNonce := s.free + 1 }, free := s.free + 2 })

/-- RESET_N asserted resets the chip (R518, R525). -/
def execResetNAssert (s : State) : Res := .next (if s.dev.state = .off then s else s.chipReset)

/-! ### Loss of supply (R290, R520) -/

/-- Each lane finishes its sector, loaded arms retract, every spindle freewheels (R264, R290, R520). -/
def State.supplyGale (s : State) : State :=
  (List.finRange 32).foldl (fun (s : State) p =>
    let s1 := (s.finishWrites p 0).finishWrites p 1
    ((s1.galePack p false false).updSpin p (fun x => x.freewheelBy false)).kickPack p) s

/-- Power-good of an enabled rail deasserts after filtering (R520): loss of supply is declared, and host service ends at once (R386). -/
def State.supplyLoss (s : State) (r : RailId) : State :=
  if ¬ s.rails[r].enable ∨ s.dev.supplyLost ∨ s.dev.state = .off ∨ s.rails[r].state ≠ 2 then s
  else
    let s1 := (({ s with dev := { s.dev with supplyLost := true } }).supplyGale).raise (401 + r.val)
    (s1.endAllConns 6).stopBackground

def execLossOfSupply (r : RailId) (s : State) : Res := .next (s.supplyLoss r)

/-- 10 ms after the declaration every rail is disabled and the device is in Lee, reduced form (R520, R525). -/
def execLossOfSupplyRailOff (s : State) : Res :=
  .next (
    if ¬ s.dev.supplyLost then s
    else
      let s1 := (s.saveCounters.railsOff)
      if s1.dev.state = .lee ∧ s1.dev.leeForm = 1 then { s1 with dev := { s1.dev with supplyLost := false } }
      else
        let s2 := s1.enterLee true 4
        { s2 with boot := { s1.boot with step := .done }, dev := { s2.dev with supplyLost := false } })

/-! ### PMBus and domains (R521 to R523) -/

/-- The island reads a regulator: the rail's values, and source 411 for one that does not answer or shows a fault (R521). -/
def State.readRail (s : State) (x : RailSample) : State :=
  if ¬ s.rails[x.rail].enable ∨ s.param 0x7042 (x.rail.val + 2) = 0 then s
  else if ¬ x.acked then (s.updRail x.rail (fun y => { y with milliVolt := 0, milliAmp := 0 })).raise 411
  else
    let s1 := s.updRail x.rail (fun y => { y with milliVolt := min x.milliVolt 0xFFFF, milliAmp := min x.milliAmp 0xFFFFFFFF })
    if x.fault then s1.raise 411 else s1

/-- Every 100 ms while supervision is on. -/
def execPmbusPoll (samples : List RailSample) (s : State) : Res :=
  .next (if s.param 0x7042 1 = 1 then samples.foldl State.readRail s else s)

/-- An arm's lane group has its power: every lane of the arm leaves Off, and the synthesizer runs (R26, R27, R161). The zones
under the heads are not known before the first SEEK: until then it runs at the highest rate (assumption 12). -/
def State.groupOn (s : State) (p : PackId) (a : ArmId) : State :=
  s.updArm p a (fun x =>
    { x.mapLanes (fun l => { l with chan := { l.chan with power := if l.chan.power = .off then .servoOnly else l.chan.power } }) with
      synth := if x.synth = 0 then synthMost else x.synth })

/-- A domain is switched on (R522, R523): an arm's lanes start, and the submissions that waited for a mover bank proceed. -/
def execDomainSwitchOn (d : DomainId) (s : State) : Res :=
  .next (
    if ¬ s.domainWanted d.val ∨ s.domains[d].state = 2 then s
    else
      let s1 := s.updDomain d (fun x => { x with state := 2, switchOns := sat32 x.switchOns 1 })
      if h : d.val < 64 then s1.groupOn ⟨d.val / 2, by omega⟩ ⟨d.val % 2, by omega⟩
      else if 172 ≤ d.val ∧ d.val < 176 then
        (List.finRange 32).foldl (fun (s : State) c => if c.val / 8 = d.val - 172 then s.updMover c Mover.refill else s) s1
      else s1)

/-- A slice of the erasure or crypto engine that has been idle for 1 ms goes off (R522). -/
def execEngineSliceIdle (d : DomainId) (s : State) : Res :=
  .next (
    if 160 ≤ d.val ∧ d.val < 168 ∧ ¬ s.sliceNeeded d.val then s.updDomain d (fun x => { x with state := 0 }) else s)

/-! ### References after Boot (R28) -/

/-- The 100 MHz reference is lost: tile PLLs in holdover, every arm parks, every spindle stops, host service stops and connections end,
and Lee follows in reduced form where the device was not in it (R525). -/
def execReference100mhzLost (s : State) : Res :=
  .next (
    if s.dev.state = .boot ∨ s.dev.state = .off ∨ s.dev.state = .zephyr ∨ s.ref100Lost then s
    else
      let s1 := ({ s with ref100Lost := true, tiles := s.tiles.map (fun (t : Tile) => { t with holdover := true }) }).raise 2
      ((s1.parkAndStop.endAllConns 6).stopBackground).pendLee true 6)

/-- The 156.25 MHz reference is lost: every port loses its link, and the connections end with cause port link lost. -/
def execReference156mhzLost (s : State) : Res :=
  .next (
    if s.dev.state = .boot ∨ s.dev.state = .off ∨ s.dev.state = .zephyr ∨ s.ref156Lost then s
    else
      let s1 := ({ s with ref156Lost := true }).raise 3
      let s2 := s1.updHost (fun h => { h with ports := h.ports.map (fun q => { q with link := Vector.replicate 4 .down }) })
      s2.endAllConns 7)

/-! ### Lee: pending moves, power down, rails off (R525, R539) -/

/-- Every spindle is Off. -/
def State.spindlesOff (s : State) : Bool := s.packs.all (fun k => k.spindle.state = .off)

/-- Power down of the full form, once every spindle is Off: the cause is kept (R525, R539). -/
def State.tryPowerDown (s : State) : State :=
  if s.dev.powerDown ∧ s.dev.state = .lee ∧ s.spindlesOff then
    let s1 := s.saveCounters
    ((({ s1 with dev := { s1.dev with powerDown := false, commandBusy := false } }).setDevState .lee 1 s.dev.leeCause).clustersOff).refreshDomains
  else s

/-- Every arm is Unloaded or Out: the pending move to Lee completes (R525). A move by command waits for the framed commands to complete
(R386). -/
def execLeeEntryArmsUnloaded (s : State) : Res :=
  .next (match s.dev.pendingLee with
    | none => s.tryPowerDown
    | some m =>
      if ¬ s.allArmsDown ∨ (m.cause = 0 ∧ ¬ s.svc.cmds.isEmpty) then s else s.enterLee m.reduced m.cause)

/-- In the reduced form the island switches the rails off once every spindle is Off (R539). -/
def execReducedFormRailOff (s : State) : Res :=
  .next (
    let s1 := s.tryPowerDown
    if s1.dev.state = .lee ∧ s1.dev.leeForm = 1 ∧ s1.spindlesOff then s1.flushAll.railsOff else s1)

/-! ### Zephyr (R501, R542 to R544) -/

/-- WAKE lands whose bit of the wake mask is set and which are active, or which are masked as stuck (R501, R542). -/
def State.wakeBlocks (s : State) : Bool :=
  (List.finRange 4).any (fun w => s.inputs.wake[w].masked || ((s.param 0x7050 1).testBit w.val && s.inputs.wake[w].filtered))

/-- The entry conditions (R542). -/
def State.mayZephyr (s : State) : Bool :=
  s.dev.state = .lee && s.spindlesOff && !s.wakeBlocks && s.dev.startFail == 0 && s.dev.leeCause != 2 && s.dev.leeCause != 8 && !s.fatalN

/-- Entry begins (R543): in full form the counts and staged records are flushed, the clusters stop, the rails go off; CAN stops, each EMCY
message discarded counting (R461). -/
def State.beginZephyr (s : State) : State :=
  let s1 := s.saveCounters.clustersOff.railsOff
  { s1 with
    dev := { s1.dev with zephyrEntry := true, latchedWake := 0 },
    can := { s1.can with started := false, sessions := [], emcyQueue := [],
                         emcyLost := sat32 s1.can.emcyLost s1.can.emcyQueue.length } }

/-- The packs whose PACK_PRES reads active, conditioned, of the fitted slots (R544). -/
def State.presBits (s : State) : Nat :=
  (List.finRange 32).foldl (fun m p => if s.packFitted p && s.inputs.pres[p].conditioned then m + 2 ^ p.val else m) 0

/-- The Zephyr delay has passed in Lee: the entry begins when its conditions hold, and otherwise waits (R525, R542). -/
def execZephyrDelayExpiry (s : State) : Res :=
  .next (if s.param 0x7001 4 ≠ 0 ∧ s.mayZephyr ∧ ¬ s.dev.zephyrEntry then s.beginZephyr else s)

/-- Entry completes; a latched wake event then starts Boot at once (R543). `energy` holds the ports with energy at that moment. -/
def execZephyrEntryDone (energy : Nat) (s : State) : Res :=
  .next (
    if ¬ s.dev.zephyrEntry then s
    else
      let w := s.dev.latchedWake
      let s1 := ({ s with dev := { s.dev with zephyrEntry := false, commandBusy := false } }).setDevState .zephyr 255 255
      let s2 := { s1 with dev := { s1.dev with presAtEntry := s1.presBits, energyAtEntry := energy, latchedWake := 0 } }
      if w = 0 then s2 else s2.startBoot w false false)

/-! ### Wake events (R545) -/

/-- 1 a start wake, 2 a report wake. -/
def wakeKind (bit : Nat) : Nat := if bit = 4 ∨ bit = 5 then 2 else 1

/-- The record of a wake event; in Zephyr the island keeps it until the next Boot (R544, R553). -/
def State.wakeRecord (s : State) (bit chatter temp : Nat) : State :=
  let t : EvRec := { type := 0x12, code := bit, detail := detailAt 0x24 chatter + detailAt 0x28 temp }
  if s.dev.state = .zephyr then
    if s.dev.tickRecords.length < 64 then { s with dev := { s.dev with tickRecords := s.dev.tickRecords ++ [s.stamp t] } } else s
  else s.record t

/-- A wake event: counted and recorded; where its mask bit is set it starts Boot in Zephyr and in reduced Lee by command, and is latched
during an entry to Zephyr. -/
def State.wakeEvent (s : State) (bit chatter temp : Nat) : State :=
  if s.dev.state = .off then s
  else
    let s0 := s.wakeRecord bit chatter temp
    let s1 := { s0 with dev := { s0.dev with wakes := sat32 s0.dev.wakes 1, lastWake := 2 ^ bit } }
    if ¬ (s.param 0x7050 1).testBit bit then s1
    else if s.dev.zephyrEntry then
      { s1 with dev := { s1.dev with latchedWake := if s1.dev.latchedWake = 0 then wakeKind bit else s1.dev.latchedWake } }
    else if s.dev.state = .zephyr then s1.startBoot (wakeKind bit) false false
    else if s.dev.state = .lee ∧ s.dev.leeForm = 1 ∧ s.dev.leeCause = 0 then s1.startBoot (wakeKind bit) true false
    else s1

/-- A wake event by its mask bit. -/
def execWakeEvent (bit : Fin 8) (chatter : Nat) (s : State) : Res := .next (s.wakeEvent bit.val (chatter % 2 ^ 32) 0)

/-- A temperature beyond the pack thresholds of a tick, in 1/256 degree Celsius (R544). -/
def State.packBeyond (s : State) (t : Int) : Bool :=
  decide (signedNat 8 (s.param 0x7060 2) * 256 < t) || decide (t < signedNat 8 (s.param 0x7060 3) * 256)

/-- A tick of Zephyr (R544): presence against the levels at entry, the temperatures of the present packs and the die against their
thresholds, energy that was absent. -/
def execZephyrTick (x : TickSample) (s : State) : Res :=
  .next (
    if s.dev.state ≠ .zephyr then s
    else
      let s1 := { s with dev := { s.dev with ticks := sat32 s.dev.ticks 1 } }
      let pres := s.presBits ≠ s.dev.presAtEntry
      let temps := (x.temps.filter (fun t => s.packFitted t.pack && s.inputs.pres[t.pack].conditioned && s.packBeyond t.temp)).map (fun t => lowBits 16 t.temp)
      let die := if signedNat 8 (s.param 0x7060 4) * 256 < x.die then [lowBits 16 x.die] else []
      let energy := (List.finRange 16).any (fun q => s.portFitted q && x.energy.testBit q.val && !s.dev.energyAtEntry.testBit q.val)
      let s2 := if pres then s1.wakeEvent 5 0 0 else s1
      let s3 := (temps ++ die).foldl (fun (s : State) t => s.wakeEvent 4 0 t) s2
      if energy then s3.wakeEvent 6 0 0 else s3)

/-! ### State commands (R526) -/

/-- An earlier command is still being carried out. -/
def State.commandRuns (s : State) : Bool :=
  s.dev.commandBusy || s.dev.pendingLee.isSome || s.dev.closeStep != 0 || s.dev.zephyrEntry || s.dev.powerDown

/-- A state command takes effect where its state allows it. -/
def State.commandEffect (s : State) (v : Nat) : Option State :=
  match v, s.dev.state with
  | 1, .assemble => if s.store.isOpen then some (s.enterState .opened) else none
  | 1, .quiesce => some (s.enterState .opened)
  | 2, .opened => some (s.enterState .quiesce)
  | 3, .opened => let t := s.enterState .quiesce; some { t with dev := { t.dev with closeStep := 1, commandBusy := true } }
  | 3, .quiesce => some { s with dev := { s.dev with closeStep := 1, commandBusy := true } }
  | 3, .selfTest | 3, .assemble | 3, .bench =>
    let t := s.packsToLee.pendLee false 0
    some { t with dev := { t.dev with commandBusy := true } }
  | 4, .lee =>
    if s.inputs.epo.filtered ∨ s.dev.leeCause = 2 ∨ s.dev.leeCause = 8 then none
    else some (s.startBoot 0 true (decide (s.dev.leeForm = 0)))
  | 5, .lee =>
    if s.dev.leeForm = 0 then
      some (({ s with dev := { s.dev with powerDown := true, commandBusy := true } }).tryPowerDown)
    else none
  | 6, .lee => if s.mayZephyr then let t := s.beginZephyr; some { t with dev := { t.dev with commandBusy := true } } else none
  | 7, .selfTest => if s.dev.testsEnded then some (s.enterState .assemble) else none
  | _, _ => none

/-- A write of 0x7000.02: reserved values are refused with 0x06090030, a command not allowed, or during another, with 0x08000022. -/
def State.stateCommand (s : State) (v : Nat) : Except Nat State :=
  if v = 0 ∨ 8 ≤ v then .error 0x06090030
  else if s.commandRuns then .error 0x08000022
  else match s.commandEffect v with
    | some t => .ok { t with dev := { t.dev with lastCommand := v } }
    | none => .error 0x08000022

def execStateCmdOpen (s : State) : Res := .next (okOr s (s.stateCommand 1))
def execStateCmdQuiesce (s : State) : Res := .next (okOr s (s.stateCommand 2))
def execStateCmdLee (s : State) : Res := .next (okOr s (s.stateCommand 3))
def execStateCmdStart (s : State) : Res := .next (okOr s (s.stateCommand 4))
def execStateCmdPowerDown (s : State) : Res := .next (okOr s (s.stateCommand 5))
def execStateCmdZephyr (s : State) : Res := .next (okOr s (s.stateCommand 6))
def execStateCmdAssemble (s : State) : Res := .next (okOr s (s.stateCommand 7))

/-! ### Orderly close (R540) -/

/-- No data command is in flight. -/
def State.noDataCommand (s : State) : Bool :=
  s.svc.cmds.all (fun c => match s.ring? c.ring with | some r => r.admin | none => true)

/-- The routines of background work and of self-tests have ended (R540). -/
def State.backgroundEnded (s : State) : Bool := s.packs.all (fun k => k.arms.all (fun x => !(x.fmt.running && x.fmt.back.isSome)))

/-- Steps 4 and 5: every connection ends, every arm unloads, packs go to Verified, spindles stop. -/
def State.closeFrom4 (s : State) : State :=
  let t := (s.endAllConns 6).packsToLee
  { t with dev := { t.dev with closeStep := 5 } }

/-- The step in progress ends when its condition holds, and the next begins. Step 6 ends in Lee, full form, or
where a condition higher in R525 has asked for Lee meanwhile. -/
def execOrderlyCloseStepDone (s : State) : Res :=
  .next (
    match s.dev.closeStep with
    | 1 => if s.noDataCommand then
        let t := s.stopBackground
        { t with dev := { t.dev with closeStep := 2 } }
      else s
    | 2 => if s.backgroundEnded then { s with dev := { s.dev with closeStep := 3 } } else s
    | 3 => if s.store.changes.isEmpty ∧ s.store.journal.isEmpty then s.closeFrom4 else s
    | 5 => if s.allArmsDown then
        let t := s.writeLives
        { t with dev := { t.dev with closeStep := 6 } }
      else s
    | 6 => (match s.dev.pendingLee with
      | some m => s.enterLee m.reduced m.cause
      | none => s.enterLee false 0)
    | _ => s)

/-- The shutdown timeout passes before step 3 ends: the close goes on from step 4, and the event is recorded (R540, R553). -/
def execShutdownTimeout (s : State) : Res :=
  .next (
    if 1 ≤ s.dev.closeStep ∧ s.dev.closeStep ≤ 3 then
      (s.updStore (fun t => { t with changes := [], journal := [] })).closeFrom4.record { type := 0x50, code := 8 }
    else s)

end Sys2Proof.Machine
end

