-- ==== Sys2Proof/Machine/FaultCmds.lean ====
section
/-! DEFINITION. Fault occurrences, the chip reset reaction, sticky bits cleared by a write, the unlock token of the test access port, and
the operating seconds (R74, R491 to R494, R512, R548, R549). -/

namespace Sys2Proof.Machine

/-! ### Sources -/

/-- A detector reports an occurrence of a source (R490, R491). -/
def execFaultOccurrence (source : Nat) (s : State) : Res := .next (s.raise source)

/-- A write of 0x8001.01 (R462, R492): the full server alone takes it, and only a Corrected source's sticky bit is cleared. -/
def State.clearSticky (s : State) (k : Nat) : Except Nat State :=
  if ¬ s.fullServer then .error 0x08000022
  else if k < 416 ∧ srcClass k = 0 then .ok (s.updSource k (fun f => { f with sticky := false })) else .error 0x06090030

def execClearSticky (source : Nat) (s : State) : Res := .next (okOr s (s.clearSticky source))

/-! ### Chip reset by reaction 3 (R494) -/

/-- The newest record of a source's occurrence that the island still holds. -/
def State.newestFault (s : State) (k : Nat) : Option EvRec :=
  s.recorder.newest.reverse.find? (fun r => r.type = 1 && r.source = k)

/-- The fault's record goes to the pinned region: a Fatal-class source's stands there already (R494, R557). -/
def State.pinFault (s : State) (k : Nat) : State :=
  match s.newestFault k with
  | none => s
  | some r =>
    if r.fatal ∨ ¬ s.flashReachable then s
    else (s.updRecorder (fun c => { c with staging := c.staging.filter (fun g => g.body.seq ≠ r.seq) })).storePinned r

/-- What is staged is written, and the chip is reset as by RESET_N. -/
def State.reactReset (s : State) : State := s.flushAll.chipReset

/-- A chip reset reaction is carried out: the record, the park of every arm, and the reset once every arm is Unloaded or Out. -/
def execChipResetReaction (s : State) : Res :=
  .next (match s.faults.resetRequest with
    | none => s
    | some k =>
      let s1 :=
        if s.faults.resetParking then s
        else ({ s.pinFault k with faults := { (s.pinFault k).faults with resetParking := true } }).parkAll
      if s1.allArmsDown then s1.reactReset else s1)

/-- 500 ms after the reaction the chip is reset whatever the arms do. -/
def execChipResetParkWaitEnd (s : State) : Res := .next (if s.faults.resetParking then s.reactReset else s)

/-! ### Test access port (R548) -/

/-- An unlock token is written: it unlocks with its permissions, or is refused with source 415; the nonce changes. -/
def State.unlockToken (s : State) (l : List Byte) : Except Nat State :=
  if s.dev.state ≠ .lee ∧ s.dev.state ≠ .bench then .error 0x08000022
  else
    let s1 := { s with free := s.free + 1 }
    if s.tokenGood 0x5554564F s.sec.tapNonce 2 l then
      .ok { s1 with sec := { tapUnlocked := true, tapPermissions := fieldAt l 0x1C 4, tapNonce := s.free } }
    else .ok (({ s1 with sec := { s1.sec with tapNonce := s.free } }).raise 415)

def execTapUnlockToken (token : List Byte) (s : State) : Res := .next (okOr s (s.unlockToken token))

/-- The instructions of the test access port that the manual names. -/
inductive TapInstr where
  | bypass | idcode | samplePreload | extest | extestPulse | extestTrain | internalScan
  deriving DecidableEq, Repr

/-- The port answers an instruction: locked, BYPASS and IDCODE alone; boundary scan needs its permission (DEDUCED: log entry 176). -/
def State.tapAnswers (s : State) : TapInstr → Bool
  | .bypass | .idcode => true
  | .samplePreload => s.sec.tapUnlocked && s.sec.tapPermissions.testBit 0
  | .extest | .extestPulse | .extestTrain =>
    s.sec.tapUnlocked && s.sec.tapPermissions.testBit 0 && s.dev.state == .bench && s.spindlesOff
  | .internalScan => s.sec.tapUnlocked && s.sec.tapPermissions.testBit 1 && s.dev.state == .bench

/-! ### Operating seconds (R74, R512, R549, R550) -/

/-- The arm's heads are over the media: the arm is loaded and has left the ramp (R74). -/
def ArmMode.onMedia (m : ArmMode) : Bool := m.loaded && m ≠ .loading

/-- A second of a pack's life: its spindle at 5 % of nominal or more, and its loaded heads (R74). -/
def State.lifeSecond (s : State) (p : PackId) : State :=
  if s.packs[p].identity.isNone then s
  else
    let turns := !s.below p 5 && s.packs[p].spindle.speed != 0
    let s1 := s.updPack p (fun k =>
      let l := k.life
      let heads := Vector.ofFn (fun i : Fin 32 =>
        let x := l.heads[i]
        if (k.arms.toList[i.val / 16]?.map (fun y => y.servo.mode.onMedia)).getD false then { x with mediaSec := sat32 x.mediaSec 1 } else x)
      { k with life := { l with spindleSec := if turns then sat32 l.spindleSec 1 else l.spindleSec, heads := heads } })
    s1.checkLife p

/-- The operating second ends: the count, the seconds of the domains that are on, the packs' lives, and the validity of an accepted
injection token. -/
def execOperatingSecondsTick (s : State) : Res :=
  .next (
    if s.dev.state = .off then s
    else
      let n := (s.dev.opSec + 1) % 2 ^ 32
      let s1 := { s with
        dev := { s.dev with opSec := n, secondAt := s.now },
        domains := s.domains.map (fun (d : Domain) => if d.state = 2 then { d with seconds := sat32 d.seconds 1 } else d),
        injection := if s.injection.tokenState = 1 ∧ s.injection.validUntil < n then { s.injection with tokenState := 3 } else s.injection }
      ((List.finRange 32).foldl (fun (s : State) p => s.lifeSecond p) s1).refreshDomains)

end Sys2Proof.Machine
end

