-- ==== Sys2Proof/Machine/Store.lean ====
section
/-! DEFINITION. The store commands on their contexts (R321 to R330, R368) and the key lock's grant (R325). -/

namespace Sys2Proof.Machine

/-! ### Keys and orders -/

/-- The key hash H of a command's chain (R300, R364). -/
def State.chainHash (s : State) (l : List Byte) : Nat :=
  if (fieldAt l 1 1).testBit 5 then fieldAt l 0x30 16
  else
    let h := keyHash s.store.hashKey ((keyArea l).take (fieldAt l 4 2)) % 2 ^ 127
    if h = 0 then 1 else h

/-- Chains of commands that run or wait, with ring and slot. -/
def State.chainsHeld (s : State) : List Ctx :=
  (s.svc.seqs.toList.map (fun q => q.ctx.toList.filter (fun x => x.busy))).flatten ++ s.svc.suspended.map (fun b => b.ctx)

/-- First slots of a ring's chains that are older than the one at `slot`. -/
def olderSlots (slot : Nat) : List Chain → List Nat
  | [] => []
  | c :: l => if c.first = slot then [] else (if c.done then [] else [c.first]) ++ olderSlots slot l

/-- An older command of the ring names the same key and has not completed: the command does not pass its commit point (R326). -/
def State.behindOlder (s : State) (ring slot hash : Nat) : Bool :=
  match s.ring? ring with
  | none => false
  | some r =>
    let older := olderSlots slot r.chains
    s.chainsHeld.any (fun x => x.ring == ring && older.contains x.slot && x.chain != []
      && decide (1 ≤ fieldAt x.chain 0 1 ∧ fieldAt x.chain 0 1 ≤ 4) && s.chainHash x.chain == hash)

/-- A command ends on its context (R373); stripes that it alone held are dead (R324). -/
def State.finish (s : State) (q : SeqId) (c : CtxId) (status size value : Nat) : State := s.endCommand q c status size value

/-- Flags of the first descriptor (R363). -/
def isDurable (l : List Byte) : Bool := (fieldAt l 1 1).testBit 2
def isIfAbsent (l : List Byte) : Bool := (fieldAt l 1 1).testBit 3
def isIfVersion (l : List Byte) : Bool := (fieldAt l 1 1).testBit 4

/-- The condition of a command on the current version: none, or the status and value it completes with (R321, R372). -/
def conditionFails (l : List Byte) (old : Option ObjEntry) (mustExist : Bool) : Option (Nat × Nat) :=
  match old with
  | none => if isIfVersion l ∧ ¬ mustExist then some (0x22, 0) else if mustExist then some (0x20, 0) else none
  | some e =>
    if isIfAbsent l then some (0x21, 0)
    else if isIfVersion l ∧ e.version ≠ fieldAt l 0x28 8 then some (0x22, e.version)
    else none

/-- Runs a modifying command once no older command of its ring holds it back and it has its key's lock; waiting for the lock, it is
suspended (R325, R326). -/
def State.locked (s : State) (q : SeqId) (c : CtxId) (x : Ctx) (f : Nat → State → State) : State :=
  let h := s.chainHash x.chain
  if s.behindOlder x.ring x.slot h then s
  else
    let (got, s1) := s.takeLock h x.ring x.slot
    if got then f h s1 else s1.suspendCtx q c 0

/-! ### New versions -/

/-- A new version with its bytes on a span: where its entry goes, what it holds, and the state that has formed it; or the status it
fails with (R306, R307, R313 to R318). -/
def State.formVersion (s : State) (i : SpanId) (hash : Nat) (data : List Byte) (durable : Bool) :
    Except Nat (Nat × List Nat × Placed × State) :=
  if data.length = 0 then
    match s.indexRoom hash 0 with
    | .error e => .error e
    | .ok (a, ext, s1) => .ok (a, ext, ⟨none, [], []⟩, s1)
  else if data.length < 262144 then
    match s.indexRoom hash 0 with
    | .error e => .error e
    | .ok (a, ext, s1) => match s1.petitAppend i hash data durable with
      | .error e => .error e
      | .ok (w, s2) => .ok (a, ext, ⟨some w, [w.1], []⟩, s2)
  else
    let bytes := s.store.spans[i].k * leafBytes
    let l := cutStripes bytes data
    if 65536 < l.length then .error 0x16
    else match s.indexRoom hash (ceilDiv l.length 512) with
      | .error e => .error e
      | .ok (a, ext, s1) => match s1.addrBlock i l.length with
        | none => .error 0x31
        | some (base, s2) => match s2.formStripes i hash a base l with
          | .error e => .error e
          | .ok s3 =>
            let addrs := (List.range l.length).map (fun j => base + j)
            .ok (a, ext, ⟨none, addrs, addrs⟩, s3)

/-- A command commits a change of its key: the commit generation is taken, and it becomes visible and completes at once, or, durable,
waits for its records (R301, R323, R332). -/
def State.commitChange (s : State) (q : SeqId) (c : CtxId) (x : Ctx) (change : Change) : State :=
  let s1 := (s.commitCmd x.ring x.slot).mirror (.delta change.hash change.gen)
  match change.durable with
  | some _ =>
    let s2 := s1.updStore (fun t => { t with changes := t.changes ++ [change] })
    let (k, s3) := s2.newToken q x.ring x.slot 5 []
    (s3.suspendCtx q c k).queueChanges
  | none =>
    let s2 := (s1.updStore (fun t => { t with changes := t.changes ++ [change] })).makeVisible change
    (s2.finish q c 0 (match change.entry with | some e => e.size | none => 0) change.gen).queueChanges

/-- Commits a new version of `size` bytes: its leaves are written as it commits. -/
def State.commitVersion (s : State) (q : SeqId) (c : CtxId) (x : Ctx) (i : SpanId) (hash size slot : Nat) (ext : List Nat) (w : Placed) : State :=
  let (g, s1) := s.takeGen
  let e : ObjEntry :=
    { slot := slot, hash := hash, version := g, size := size, span := i.val, petit := w.petit,
      runs := if w.petit.isSome then [] else packRuns w.addrs, extents := ext }
  let durable : Option (Nat × Nat) := if isDurable x.chain then some (x.ring, x.slot) else none
  let change : Change :=
    { slot := slot, hash := hash, entry := some e, needs := (if w.petit.isSome then w.addrs else w.fresh).map (fun a => (i.val, a)), gen := g,
      durable := durable }
  let s2 := s1.commitChange q c x change
  w.fresh.foldl (fun s a => s.issueStripe i a) s2

/-! ### PUT -/

/-- The span of a PUT: the one named, or the store's choice among Healthy, Degraded and Rebuilding spans (R321). -/
def State.putSpan (s : State) (named : Nat) : Option SpanId :=
  if h : named < 8 then (if s.store.spans[named].configured then some ⟨named, h⟩ else none)
  else
    let room := fun i : SpanId =>
      let x := s.store.spans[i]
      (x.packs.map (fun p => s.freeLeaves x p - s.reserve x p)).foldl (· + ·) 0
    let ok := (List.finRange 8).filter (fun i : Fin 8 =>
      let x := s.store.spans[i]
      x.configured && (match s.spanState x with | .healthy => true | .degraded => true | .rebuilding => true | _ => false))
    match ok with
    | [] => none
    | i :: l => some (l.foldl (fun b j => if room b < room j then j else b) i)

/-- The span takes new data (R337). -/
def State.spanTakes (s : State) (i : SpanId) : Bool :=
  match s.spanState s.store.spans[i] with
  | .forming => false
  | .critical => false
  | .lost => false
  | _ => true

/-- PUT with the lock of its key (R321, R323). -/
def State.putObject (s : State) (q : SeqId) (c : CtxId) (x : Ctx) (data : List Byte) (hash : Nat) : State :=
  let l := x.chain
  match conditionFails l (s.store.entry hash) false with
  | some (st, v) => s.finish q c st 0 v
  | none => match s.putSpan (fieldAt l 6 1) with
    | none => s.finish q c 0x33 0 0
    | some i =>
      if ¬ s.spanTakes i then s.finish q c 0x33 0 0
      else
        let bytes := padTo (fieldAt l 0x10 8) data
        match s.formVersion i hash bytes (isDurable l) with
        | .error e => s.finish q c e 0 0
        | .ok (slot, ext, w, s1) => s1.commitVersion q c x i hash bytes.length slot ext w

/-- PUT creates or replaces an object with the bytes `data` that RDMA READs fetch from the host (R321, R385). -/
def execPut (q : SeqId) (c : CtxId) (data : List Byte) (s : State) : Res :=
  .next (s.onCommand q c 1 (fun x => s.locked q c x (fun h s => s.putObject q c x data h)))

/-! ### GET -/

/-- Stripe addresses of a version with the object bytes each holds: first byte and end. -/
def ObjEntry.pieces (e : ObjEntry) (stripe : Nat) : List (Nat × Nat × Nat) :=
  match e.petit with
  | some (a, _, _) => [(a, 0, e.size)]
  | none => (e.addrs.zipIdx).map (fun x => (x.1, x.2 * stripe, (x.2 + 1) * stripe))

/-- The part of a range up to the first stripe that cannot be delivered, and that stripe (R336). -/
def State.goodPrefix (s : State) (i : SpanId) (e : ObjEntry) (off stop : Nat) (bad : List (Nat × Nat)) : Nat × Option Nat :=
  let hit := (e.pieces (s.store.spans[i].k * leafBytes)).find? (fun x => decide (x.2.1 < stop ∧ off < x.2.2) && !s.stripeReads i x.1 bad)
  match hit with
  | some (a, lo, _) => (max off lo - off, some a)
  | none => (stop - off, none)

/-- Acts on what the reads for a command reported, and drops them (R186). -/
def State.settleReads (s : State) (who : Nat × Nat) : State :=
  let mine := s.store.reads.filter (fun j => j.who = some who)
  mine.foldl (fun s j => match j.ended with
    | some e => if h : j.span < 8 then s.outcomeAction ⟨j.span, h⟩ j.addr j.leaf e.1 e.2 else s
    | none => s) (s.dropJobs (fun j => j.who = some who))

/-- GET of the version that it holds: its leaves are read; once every read has ended, the bytes that can be delivered go to the host, then the
status; each outcome of a leaf is acted on (R186, R321, R324, R336, R372). -/
def State.getVersion (s0 : State) (q : SeqId) (c : CtxId) (x : Ctx) (e : ObjEntry) : State :=
  if h : e.span < 8 then
    let i : SpanId := ⟨e.span, h⟩
    let who := (x.ring, x.slot)
    let l := x.chain
    let off := fieldAt l 8 8
    let stop := min (off + fieldAt l 0x10 8) e.size
    let addrs := ((e.pieces (s0.store.spans[i].k * leafBytes)).filter (fun y => decide (y.2.1 < stop ∧ off < y.2.2))).map (fun y => y.1)
    let (s, wait) := s0.gather i (some who) addrs
    if wait then s
    else
    let (n, lost) := s.goodPrefix i e off stop (s.undelivered i (some who))
    let bytes := ((s.objectBytes e).drop off).take n
    let s1 := match s.ring? x.ring with
      | some r => if n = 0 then s else s.sendHost (.write r.conn (fieldAt l 0x18 8) (fieldAt l 0x20 4) bytes none)
      | none => s
    let s2 := match lost with | some a => s1.countLost i a | none => s1
    let s3 := s2.settleReads who
    (if lost.isSome then s3.finish q c 0x34 n e.version else s3.finish q c 0 e.size e.version).killUnnamed
  else s0

/-- GET finds its version, which is its commit point, and holds it (R323, R324, R329). -/
def State.lookUp (s : State) (q : SeqId) (c : CtxId) (x : Ctx) : State :=
  let h := s.chainHash x.chain
  if s.behindOlder x.ring x.slot h then s
  else match s.store.entry h with
    | none => s.finish q c 0x20 0 0
    | some e => match conditionFails x.chain (some e) true with
      | some (st, v) => s.finish q c st 0 v
      | none =>
        if e.size < fieldAt x.chain 8 8 then s.finish q c 0x17 0 0
        else ((s.commitCmd x.ring x.slot).updStore (fun t => { t with gets := t.gets ++ [⟨x.ring, x.slot, e⟩] })).getVersion q c x e

/-- GET returns a byte range. Presented again, it goes on with the version that it holds (R321, R324, R327 to R329, R336). -/
def execGet (q : SeqId) (c : CtxId) (s : State) : Res :=
  .next (s.onCommand q c 2 (fun x =>
    let s1 := s.pollJobs
    match s1.store.gets.find? (fun g => g.ring = x.ring ∧ g.slot = x.slot) with
    | some g => s1.getVersion q c x g.entry
    | none => s1.lookUp q c x))

/-! ### PATCH -/

/-- Lays bytes over others at an offset. -/
def patchBytes (old : List Byte) (off : Nat) (l : List Byte) : List Byte := padTo off old ++ l ++ old.drop (off + l.length)

/-- PATCH of an object in full stripes: the stripes that the range touches are formed anew, and the runs spliced (R322). -/
def State.patchStripes (s : State) (i : SpanId) (e : ObjEntry) (off : Nat) (data : List Byte) : Except Nat (Nat × List Nat × Placed × State) :=
  let bytes := s.store.spans[i].k * leafBytes
  let whole := cutStripes bytes (patchBytes (s.objectBytes e) off data)
  let lo := off / bytes
  let hi := (off + data.length - 1) / bytes
  let touched := (whole.drop lo).take (hi + 1 - lo)
  match s.addrBlock i touched.length with
  | none => .error 0x31
  | some (base, s1) =>
    let fresh := (List.range touched.length).map (fun j => base + j)
    let addrs := e.addrs.take lo ++ fresh ++ e.addrs.drop (hi + 1)
    if 65536 < addrs.length then .error 0x16
    else if 16384 < (packRuns addrs).length then .error 0x32
    else match s1.indexRoom e.hash (packRuns addrs).length with
      | .error st => .error st
      | .ok (a, ext, s2) => match s2.formStripes i e.hash a base touched with
        | .error st => .error st
        | .ok s3 => .ok (a, ext, ⟨none, addrs, fresh⟩, s3)

/-- Stripes of a version that a PATCH of `n` bytes at `off` reads (R322): those that the range touches, and the whole object where it is
rewritten whole. -/
def ObjEntry.patched (e : ObjEntry) (stripe off n : Nat) (whole : Bool) : List Nat :=
  ((e.pieces stripe).filter (fun y => decide (y.2.1 < e.size) && (whole || decide (y.2.1 < off + n ∧ off < y.2.2)))).map (fun y => y.1)

/-- PATCH with the lock of its key: it reads what it needs, then forms the new version (R321, R322). -/
def State.patchObject (s : State) (q : SeqId) (c : CtxId) (x : Ctx) (data : List Byte) (hash : Nat) : State :=
  let l := x.chain
  match s.store.entry hash with
  | none => s.finish q c 0x20 0 0
  | some e => match conditionFails l (some e) true with
    | some (st, v) => s.finish q c st 0 v
    | none =>
      let off := fieldAt l 8 8
      let n := fieldAt l 0x10 8
      if e.size < off then s.finish q c 0x17 0 0
      else if 2 ^ 40 ≤ off + n then s.finish q c 0x16 0 0
      else if h : e.span < 8 then
        let i : SpanId := ⟨e.span, h⟩
        let who := (x.ring, x.slot)
        let patch := padTo n data
        let size := max e.size (off + n)
        let whole : Bool := decide (size < 262144 ∨ e.size < 262144)
        if ¬ s.spanTakes i then s.finish q c 0x33 0 0
        else
        let addrs := e.patched (s.store.spans[i].k * leafBytes) off n whole
        let (s, wait) := s.gather i (some who) addrs
        if wait then s
        else
        let bad := s.undelivered i (some who)
        let lost := addrs.find? (fun a => !s.stripeReads i a bad)
        let s := s.settleReads who
        match lost with
          | some a => (s.countLost i a).finish q c 0x34 0 0
          | none =>
            let formed := if whole then s.formVersion i hash (patchBytes (s.objectBytes e) off patch) (isDurable l)
              else s.patchStripes i e off patch
            match formed with
            | .error st => s.finish q c st 0 0
            | .ok (slot, ext, w, s1) => s1.commitVersion q c x i hash size slot ext w
      else s

/-- PATCH writes a byte range as a new version; while leaves that it needs are read it waits, and presented again goes on (R186, R321, R322,
R336). -/
def execPatch (q : SeqId) (c : CtxId) (data : List Byte) (s : State) : Res :=
  .next (s.onCommand q c 3 (fun x => s.pollJobs.locked q c x (fun h s => s.patchObject q c x data h)))

/-! ### DELETE, LIST, NOP -/

/-- DELETE with the lock of its key: it reports the version deleted (R321, R332, R372). -/
def State.deleteObject (s : State) (q : SeqId) (c : CtxId) (x : Ctx) (hash : Nat) : State :=
  match s.store.entry hash with
  | none => s.finish q c 0x20 0 0
  | some e => match conditionFails x.chain (some e) true with
    | some (st, v) => s.finish q c st 0 v
    | none =>
      let (_, s1) := s.takeGen
      s1.commitChange q c x
        { slot := e.slot, hash := hash, entry := none, gen := e.version,
          durable := if isDurable x.chain then some (x.ring, x.slot) else none }

def execDelete (q : SeqId) (c : CtxId) (s : State) : Res :=
  .next (s.onCommand q c 4 (fun x => s.locked q c x (fun h s => s.deleteObject q c x h)))

/-- A LIST record (R330). -/
def State.listRecord (s : State) (e : ObjEntry) : List Byte :=
  natBytes 16 e.hash ++ natBytes 8 e.version ++ natBytes 5 e.size ++ natBytes 1 (s.store.entryFlags e) ++ natBytes 2 0

/-- Inserts an entry into a list in ascending H. -/
def insertByHash (e : ObjEntry) : List ObjEntry → List ObjEntry
  | [] => [e]
  | x :: l => if e.hash ≤ x.hash then e :: x :: l else x :: insertByHash e l

/-- The object entries that a LIST returns, in ascending H, and the next start hash (R330). -/
def Store.listRange (t : Store) (start mask value limit : Nat) : List ObjEntry × Nat :=
  let l := (t.objs.filter (fun e => start ≤ e.hash && e.hash &&& mask == value)).foldl (fun l e => insertByHash e l) []
  let out := l.take limit
  (out, if limit < l.length then (match out.getLast? with | some e => e.hash + 1 | none => 0) else 0)

/-- LIST writes its records, then the next start hash into the second slot, then its status (R330, R373). -/
def execList (q : SeqId) (c : CtxId) (s : State) : Res :=
  .next (s.onCommand q c 5 (fun x =>
    let l := x.chain
    let (out, next) := s.store.listRange (fieldAt l 0x30 16) (fieldAt l (64 + 4) 16) (fieldAt l (64 + 0x14) 16) (fieldAt l 0x10 8)
    match s.ring? x.ring with
    | none => s.freeCtx q c
    | some r =>
      let s1 := if out.isEmpty then s
        else s.sendHost (.write r.conn (fieldAt l 0x18 8) (fieldAt l 0x20 4) ((out.map s.listRecord).flatten) none)
      let s2 := s1.sendHost (.write r.conn (r.slotAddr (x.slot + 1) + 0x30) r.key (natBytes 16 next) none)
      s2.finish q c 0 out.length 0))

/-- NOP completes SUCCESS with no effect (R368). -/
def execNopCommand (q : SeqId) (c : CtxId) (s : State) : Res := .next (s.onCommand q c 0x0F (fun _ => s.finish q c 0 0 0))

/-! ### Key lock -/

/-- The key lock is granted to the command that has waited longest (R325). -/
def execKeyLockGrant (hash : Nat) (s : State) : Res :=
  .next (match s.store.lock? hash with
    | none => s
    | some k => match k.holder, k.waiters with
      | none, w :: rest =>
        let s1 := s.updStore (fun t =>
          { t with locks := t.locks.map (fun y => if y.hash = hash then { y with holder := some w, waiters := rest } else y) })
        s1.updSvc (fun v => { v with seqs := v.seqs.map (fun q => { q with ctx := q.ctx.map (fun x =>
          if x.busy ∧ x.ring = w.1 ∧ x.slot = w.2 ∧ x.wait = .block 0 then { x with wait := .none } else x) }) })
      | _, _ => s)

end Sys2Proof.Machine
end

