-- ==== Sys2Proof/Machine/StoreBytes.lean ====
section
/-! DEFINITION. The store's journal and checkpoint as bytes: journal records, sectors and their places (R331, R332), and the segments that the
checkpoint writer copies (R334). -/

namespace Sys2Proof.Machine

/-! ### The journal (R332) -/

/-- Type, number and body of a journal record. -/
def State.recordFields (s : State) : JournalBody → Nat × Nat × List Byte
  | .image e => (1, e.slot, s.store.objectBytes e)
  | .extent a e => (1, a, e.extentBytes (e.extents.idxOf a))
  | .freed a hash => (2, a, natBytes 16 hash)
  | .stripe i t => (3, t.addr + i * 2 ^ 28, t.entryBytes.take 0x70)
  | .counter v => (4, 0, natBytes 8 v)
  | .mark n => (5, 0, natBytes 8 n)

/-- A journal record of 128 bytes. -/
def State.journalBytes (s : State) (r : JournalRec) : List Byte :=
  let (type, n, body) := s.recordFields r.body
  natBytes 8 r.seq ++ natBytes 1 type ++ natBytes 3 0 ++ natBytes 4 n ++ padTo 112 body

/-- The band slots that hold the journal on a journal pack: two Random ones of each arm (R331). -/
def Pack.journalSlots (k : Pack) : List Nat :=
  [0, 1].flatMap (fun a => ((List.range (k.dataTracks / 1024)).filter (fun b => b % 2 = a && (k.band 0 b).type = .random)).take 2)

/-- Sectors of a Random band slot that hold the journal: its even tracks, on every surface (R127, R310). -/
def Pack.journalRoom (k : Pack) (b : Nat) : Nat := 512 * 16 * (16 * k.bandG b)

/-- The physical address of journal sector `n` on a pack: band slot after band slot, track by track, surface by surface. How positions follow
one another there is the model's choice (log entry 163). -/
def Pack.journalAddr (k : Pack) (pack : Nat) : List Nat → Nat → Nat
  | [], _ => 0
  | b :: l, n =>
    if n < k.journalRoom b then
      let per := 16 * k.bandG b
      mkAddr pack (n / per % 16) (k.bandTrack b + 2 * (n / per / 16)) (n % per)
    else k.journalAddr pack l (n - k.journalRoom b)

/-- Sectors after which the journal wraps: the least that a journal pack holds. -/
def State.journalWrap (s : State) : Nat :=
  match s.store.current.filterMap s.pack? with
  | [] => 0
  | k :: l => (l.map (fun k => (k.journalSlots.map k.journalRoom).foldl (· + ·) 0)).foldl min ((k.journalSlots.map k.journalRoom).foldl (· + ·) 0)

/-- The tag of a journal sector: kind 3, with its position in the leaf sequence (R112; which field carries it: log entry 163). -/
def journalTag (position addr : Nat) : List Byte :=
  natBytes 16 0 ++ natBytes 8 position ++ natBytes 8 0 ++ natBytes 4 0 ++ natBytes 3 0 ++ natBytes 1 3 ++ natBytes 5 addr ++ natBytes 3 0
    ++ natBytes 8 0

/-- A journal sector at a position on a pack: user bytes and tag (R111, R112, R332). -/
def State.journalSector (s : State) (pack position : Nat) (user : List Byte) : List Byte :=
  let addr := match s.pack? pack with
    | some k => k.journalAddr pack k.journalSlots (position % max s.journalWrap 1)
    | none => 0
  padTo 4096 user ++ journalTag position addr

/-- The oldest journal position that a replay still needs: that of the oldest segment's mark, 0 while a segment has none (R334). -/
def State.oldestNeeded (s : State) (segments : Nat) : Nat :=
  match s.store.disk.segs with
  | [] => 0
  | g :: l => if (g :: l).length < segments then 0 else (l.map (fun g => g.position)).foldl min g.position

/-- Segments of the index region and of the stripe tables of the spans formed (R334, R401). -/
def State.segmentCount (s : State) : Nat :=
  indexSegments s.store.slots + (s.store.spans.toList.filter (fun x => x.configured)).length * s.tableSegments

/-- The next journal position overwrites no record that a replay needs (R334). -/
def State.journalFree (s : State) : Bool :=
  s.journalWrap == 0 || decide (s.store.position < s.oldestNeeded s.segmentCount + s.journalWrap)

/-- One journal sector of the first 32 records from `i` on goes to every journal pack, at the next position (R332). -/
def State.writeSector (s : State) (l : List JournalRec) : State :=
  let b := (l.map s.journalBytes).flatten
  (s.store.current.foldl (fun s p => s.send (.journal p (s.journalSector p s.store.position b))) s).updStore (fun t =>
    { t with position := t.position + 1 })

/-- The journal's first `n` sectors go to the journal packs: 32 records each, the last one padded (R332). -/
def State.writeSectors (s : State) (n : Nat) : State :=
  (List.range n).foldl (fun s i => s.writeSector ((s.store.journal.drop (32 * i)).take 32)) s

/-! ### Checkpoint segments (R334) -/

/-- The store with its index and stripe tables as committed records have left them (R333). -/
def Store.committedTables (t : Store) : Store :=
  { t with objs := t.disk.objs, spans := Vector.ofFn (fun i : Fin 8 => { t.spans[i] with stripes := t.disk.spans[i].stripes, petit := none }) }

/-- Bytes of one 1 MiB segment: of the index region first, then of the stripe tables of the spans formed, in rising order. A segment shows the
committed versions (log entry 164). -/
def State.segmentBytes (s : State) (n : Nat) : List Byte :=
  let t := s.store.committedTables
  let index := indexSegments t.slots
  if n < index then
    let first := n * 1048576 / 48
    padTo 1048576 ((((List.range (1048576 / 48 + 2)).map (fun i => t.slotBytes (first + i))).flatten).drop (n * 1048576 % 48))
  else
    let per := s.tableSegments
    let spans := t.spans.toList.filter (fun x => x.configured)
    let m := n - index
    match spans[m / max per 1]? with
    | some x => ((List.range 8192).map (fun i => x.entryBytes (m % max per 1 * 8192 + i))).flatten
    | none => []

/-- A segment as it lies on media, after its mark. -/
def State.segmentNow (s : State) (n : Nat) : DiskSegment :=
  let d := s.store.disk
  let l := d.spans.toList
  { num := n, mark := d.seq, position := s.store.position,
    objs := d.objs.filter (fun e => slotSegment e.slot = n),
    stripes := ((List.finRange 8).map (fun i : Fin 8 =>
      (d.spans[i].stripes.filter (fun t => s.stripeSegment d.slots l i.val t.addr = n)).map (fun t => (i.val, t)))).flatten }

/-- The physical address of a segment's first sector on a pack's metadata tracks: even tracks from 256 to the first data track - 2, surface by
surface (R126). Which segment lies where is the model's choice (log entry 163). -/
def State.segmentAddr (s : State) (pack n : Nat) : Nat :=
  match s.pack? pack with
  | none => 0
  | some k =>
    let tracks := ((k.geometry 0).firstData - 256) / 2
    let i := 256 * n % max (tracks * 16 * systemSectors) 1
    mkAddr pack (i / systemSectors % 16) (256 + 2 * (i / systemSectors / 16)) (i % systemSectors)

/-- A segment's bytes go to a pack, with the wrapped block and, where it is kept, the escrow block (R334, R546, R547). -/
def State.sendSegment (s : State) (pack n : Nat) : State :=
  s.send (.checkpoint pack n (s.segmentAddr pack n) (s.segmentBytes n) (s.store.disk.escrow || s.param 0x7404 2 != 0))

/-- The current checkpoint and the journal since it go to a journal pack (R331). -/
def State.bringUp (s : State) (pack : Nat) : State :=
  let s1 := (List.range s.segmentCount).foldl (fun s n => s.sendSegment pack n) s
  let log := s.store.disk.log
  (List.range (ceilDiv log.length 32)).foldl (fun s i =>
    s.send (.journal pack (s.journalSector pack (s.store.position + i) ((((log.drop (32 * i)).take 32).map s.journalBytes).flatten)))) s1

end Sys2Proof.Machine
end

