-- ==== Sys2Proof/Machine/StoreWork.lean ====
section
/-! DEFINITION. What the object store does beside its commands: petit-four seals, leaf writes, the journal and its packs, background
work, self-tests, initialisation, span commands (R312, R320, R331 to R347, R401). -/

namespace Sys2Proof.Machine

/-! ### Petit-four stripes and leaf writes -/

/-- The durable seal time has passed since a durable object entered the open stripe (R320). -/
def execPetitFourDurableSeal (x : SpanId) (s : State) : Res :=
  .next (match s.store.spans[x].petit with
    | some q => if q.durableAt.isSome then s.sealPetit x else s
    | none => s)

/-- The lazy seal time has passed since an object entered it (R320). -/
def execPetitFourLazySeal (x : SpanId) (s : State) : Res :=
  .next (match s.store.spans[x].petit with
    | some q => if q.lazyAt.isSome then s.sealPetit x else s
    | none => s)

/-- Leaves of a stripe that are chosen but neither on media nor being written. -/
def State.leavesDue (s : State) (x : SpanId) (t : Stripe) : List Nat :=
  (List.range (t.k + t.m)).filter (fun j => (t.slots.getD j none).isSome && (t.locs.getD j none).isNone
    && !s.store.writes.any (fun w => w.span == x.val && w.addr == t.addr && w.leaf == j))

/-- Placement of a staged stripe is tried again, and of a leaf that no slot could take (R320, R335). -/
def execStripePlacementRetry (x : SpanId) (addr : Nat) (s : State) : Res :=
  .next (
    let s1 := s.tryPlace x addr
    match s1.store.spans[x].stripe? addr with
    | none => s1
    | some t => (s1.leavesDue x t).foldl (fun s j => (s.moveLeaf x addr j false none (fun _ => false)).getD s) s1)

/-- A pack that leaves its span is no member any more once no stripe names it (R347). -/
def State.noteLeft (s : State) (x : SpanId) : State :=
  let y := s.store.spans[x]
  if ¬ y.configured then s
  else y.packs.foldl (fun s p =>
    if y.leaving.testBit p ∧ s.packEmpty p then
      (s.updSpan x (fun y => { y with members := y.members &&& (0xFFFFFFFF ^^^ 2 ^ p), leaving := y.leaving &&& (0xFFFFFFFF ^^^ 2 ^ p),
                                      bands := y.bands.filter (fun u => u.pack ≠ p), ids := y.ids.filter (fun z => z.1 ≠ p) })).saveBands
    else s) s

/-- Every one of the 16 lanes wrote every sector untorn (R210, R335). -/
def wroteWhole (r : List Byte) : Bool := fieldAt r 4 1 == 0 && fieldAt r 8 2 == 0xFFFF

/-- A leaf lies on media: its locator is set, and the stripe is placed once every present leaf does (R308, R335). A leaf of a pack being rebuilt
counts as rebuilt (R347). -/
def State.leafPlaced (s : State) (x : SpanId) (w : LeafWrite) : State :=
  match s.store.spans[x].stripe? w.addr with
  | none => s
  | some t =>
    let moved := t.state = .placed
    let rebuilt := w.back == some 0 && (t.locs.getD w.leaf none).any (fun l => s.store.spans[x].rebuilding.testBit l.pack)
    let locs := t.locs.set w.leaf (some w.loc)
    let present := fun j => decide (j < t.present ∨ t.k ≤ j)
    let whole := (List.range (t.k + t.m)).all (fun j => !present j || (locs.getD j none).isSome)
    let st := if t.state = .dead then StripeState.dead else if whole then .placed else .placing
    let s1 := s.updStripe x w.addr (fun t => { t with locs := locs, slots := t.slots.set w.leaf (some w.loc), state := st })
    let s2 := if moved then
        (match s1.store.spans[x].stripe? w.addr with
          | some u => (s1.queueBodies [.stripe x.val u] none).updSpan x (fun y => { y with rebuilt := if rebuilt then y.rebuilt + 1 else y.rebuilt })
          | none => s1)
      else s1
    if whole then (s2.dropJobs (fun j => j.who = none ∧ j.verify = false ∧ j.span = x.val ∧ j.addr = w.addr ∧ j.leaf = w.leaf)).queueChanges
    else s2

/-- A WRITE_LEAF routine ends (R335), and no fail-over keeps its completion from the hub (R25): the locator is set, or the leaf is written again
at the next leaf slot of the same pack while it and its arm are eligible, else on another pack. -/
def execLeafWriteDone (p : PackId) (a : ArmId) (tag : Nat) (s : State) : Res :=
  .next (if s.clusters.failOver.isSome then s
    else match s.store.writes.find? (fun w => w.tag = tag ∧ w.loc.pack = p.val ∧ w.loc.band % 2 = a.val), s.recordOf p a tag with
    | some w, some r =>
      if h : w.span < 8 then
        let x : SpanId := ⟨w.span, h⟩
        let s1 := s.updStore (fun t => { t with writes := t.writes.filter (fun y => y.tag ≠ tag) })
        if wroteWhole r then ((((s1.leafPlaced x w).saveBands).noteLeft x).noteEmpty.noteSpans)
        else
          let y := s1.store.spans[x]
          let spare := w.back == some 0
          let eligible := s1.placeable y p.val && (s1.leafArms p.val).contains a.val
            && s1.freeLeaves y p.val - (if spare then 0 else s1.reserve y p.val) != 0
          match (if eligible then s1.slotOn x p.val a.val else none) with
          | some (l, s2) => s2.issueLeaf x w.addr w.leaf l w.back
          | none => (s1.moveLeaf x w.addr w.leaf spare w.back (fun _ => false)).getD s1
      else s
    | _, _ => s)

/-! ### Journal -/

/-- A journal sector is written to the journal packs and closes on them; untorn on all three, its records count as committed, else they are written again at the
next position (R332). It waits while it would overwrite a record that a replay needs (R334). -/
def execJournalSectorCommit (untorn : Bool) (s : State) : Res :=
  .next (if s.store.journal = [] ∨ ¬ s.journalFree then s
    else
      let s1 := s.writeSectors 1
      if untorn ∧ s.store.journalWhole then s1.commitJournal 32 else s1)

/-- What is queued is written and commits (R332). -/
def State.flushJournal (s : State) : State :=
  (s.writeSectors (ceilDiv s.store.journal.length 32)).commitJournal s.store.journal.length

/-- The journal lag has passed for what is queued: it is committed, unless the journal is behind, for want of its packs or of room (R333,
R334). -/
def execJournalLagExpiry (s : State) : Res := .next (if s.store.journalWhole ∧ s.journalFree then s.flushJournal else s)

/-- The checkpoint writer commits its mark, then copies the next segment with the wrapped block and, where it is kept, the escrow block;
records that no segment needs any more leave the journal (R334, R546, R547). -/
def execCheckpointSegmentWrite (s : State) : Res :=
  .next (
    if ¬ s.store.formed ∨ ¬ s.store.journalWhole then s
    else
      let n := s.store.segment
      let s1 := (s.queueBodies [.mark n] none).flushJournal
      let g := s1.segmentNow n
      let s2 := s1.store.current.foldl (fun s p => s.sendSegment p n) s1
      let segs := s1.store.disk.segs.filter (fun x => x.num ≠ n) ++ [g]
      let oldest := if segs.length < s.segmentCount then 0 else (segs.map (fun x => x.mark)).foldl min g.mark
      (s2.updStore (fun t => { t with
        segment := (n + 1) % max s.segmentCount 1,
        disk := { t.disk with packs := t.current, escrow := t.disk.escrow || s.param 0x7404 2 != 0, segs := segs,
                              log := t.disk.log.filter (fun r => decide (oldest < r.seq)) } })).saveBands)

/-- Two Random band slots of each arm hold the journal on a journal pack (R331); which ones is left open. -/
def State.journalBands (s : State) (p : PackId) : State :=
  [0, 1].foldl (fun s a =>
    let k := s.packs[p]
    let have_ := ((List.range (k.dataTracks / 1024)).filter (fun b => b % 2 = a && (k.band 0 b).type = .random)).length
    let used := fun b => s.store.spans.any (fun x => x.bands.any (fun u => u.pack = p.val ∧ u.band = b))
    (List.range (2 - have_)).foldl (fun s _ =>
      let k := s.packs[p]
      let free := k.leafBands.filter (fun b => b % 2 = a && !used b)
      let (v, s1) := s.takeFree
      match free[v % max free.length 1]? with
      | none => s1
      | some b => (s1.updPack p (fun k => { k with media := (List.range 16).foldl (fun m f =>
          m.putBand { k.band f b with type := .random }) k.media })).recordBands p) s) s

/-- A chosen journal pack is brought up to date: the current checkpoint and the journal since it are copied there from buffer memory, and it
holds them (R331, R334). -/
def execJournalPackReplace (p : PackId) (s : State) : Res :=
  .next (
    if s.store.formed ∧ s.store.packs.contains p.val ∧ ¬ s.store.current.contains p.val ∧ s.packs[p].state = .ready then
      let s1 := ((s.journalBands p).bringUp p.val).updStore (fun t => { t with current := t.current ++ [p.val] })
      (s1.updStore (fun t => { t with disk := { t.disk with packs := t.current } })).noteSpans
    else s)

/-! ### Background work -/

/-- Live leaves on a band slot of a pack: stripe address and leaf. A leaf that a committed version still rests on is live (R333). -/
def State.bandLive (s : State) (x : SpanId) (p b : Nat) : List (Nat × Nat) :=
  let y := s.store.spans[x]
  let named := fun t : Stripe => t.state ≠ .dead || (namedBy s.store.disk.objs x.val t.addr
    && s.store.disk.spans[x].stripes.any (fun u => u.addr == t.addr && u.gen == t.gen))
  ((y.stripes.filter named).map (fun t => ((List.range (t.k + t.m)).filter (fun j => match t.locs.getD j none with
    | some l => l.pack == p && l.band == b
    | none => false)).map (fun j => (t.addr, j)))).flatten

/-- The live fraction of a Sequential band is below the compaction threshold (R342). -/
def State.bandSparse (s : State) (x : SpanId) (k : Pack) (p b : Nat) : Bool :=
  decide ((s.bandLive x p b).length * 1000 < s.param 0x2010 8 * k.bandLeaves b)

/-- The scrub period has passed since a leaf was last verified, or it never was (R343, R346). -/
def State.scrubDue (s : State) (t : Stripe) (leaf : Nat) : Bool :=
  match t.scrubbed.getD leaf none with
  | none => true
  | some v => decide (v + s.param 0x2010 6 * 86400000000000 ≤ s.now)

/-- Kinds of background work pending for an arm: rebuild and drain, compaction, scrub, self-test (R339 to R344). -/
def State.pendingWork (s : State) (p : PackId) : List Bool :=
  let mine := fun x : Span => x.configured && x.members.testBit p.val
  let k := s.packs[p]
  let leaving := k.state = .draining || k.state = .spent || s.store.spans.any (fun x => mine x && x.leaving.testBit p.val)
  let sparse := match s.spanOf p with
    | some x => s.store.spans[x].bands.any (fun u => u.pack == p.val && !u.isOpen && s.bandSparse x k p.val u.band)
    | none => false
  let on := fun (t : Stripe) (j : Nat) => (t.locs.getD j none).any (fun l => l.pack == p.val)
  [leaving || s.store.spans.any (fun x => mine x && s.rebuilds x),
   !s.store.relocate.isEmpty || sparse,
   s.store.spans.any (fun x => mine x && x.live.any (fun t => (List.range (t.k + t.m)).any (fun j => on t j && s.scrubDue t j))),
   s.store.selfTest.running.testBit p.val]

/-- Each 1 s window grants background routines their share of an arm's routine time, divided by the weights; zero weight counts only
where no other work is pending (R339). An idle formatter goes on with what waits for it. -/
def execBackgroundWindow (p : PackId) (a : ArmId) (s : State) : Res :=
  .next (
    let l := s.pendingWork p
    let total := if l.any id then 1000000000 * s.param 0x2010 1 / 256 else 0
    let weight := fun j => if l.getD j false then s.param 0x2010 (2 + j) else 0
    let sum := weight 0 + weight 1 + weight 2 + weight 3
    let count := (l.filter id).length
    let part := fun j => if sum = 0 then (if l.getD j false then total / max count 1 else 0) else total * weight j / sum
    (s.updStore (fun t => { t with windows := t.windows.filter (fun w => ¬(w.pack = p.val ∧ w.arm = a.val))
      ++ [{ pack := p.val, arm := a.val, start := s.now, total := total, parts := [part 0, part 1, part 2, part 3] }] })).kick p a)

/-- A member has been Absent for the rebuild delay: its leaves are to be rebuilt (R340). -/
def execRebuildDelayExpiry (p : PackId) (s : State) : Res :=
  .next (match s.spanOf p with
    | none => s
    | some x =>
      if s.packs[p].state = .absent then
        (s.updSpan x (fun y => { y with rebuilding := y.rebuilding ||| 2 ^ p.val, rebuilt := if y.rebuilding = 0 then 0 else y.rebuilt })).noteSpans
      else s)

/-- Lost leaves of a stripe that rebuild is to regenerate: on a pack being rebuilt, and not being written. -/
def State.rebuildLeaves (s : State) (x : SpanId) (t : Stripe) : List Nat :=
  let y := s.store.spans[x]
  (List.range (t.k + t.m)).filter (fun j => match t.locs.getD j none with
    | some l => y.rebuilding.testBit l.pack && !s.packReads y l.pack
        && !s.store.writes.any (fun w => w.span == x.val && w.addr == t.addr && w.leaf == j)
    | none => false)

/-- Chooses `n` of some leaves, those with the least key first. -/
def leastLeaves (key : Nat → Nat) : Nat → List Nat → List Nat
  | 0, _ => []
  | _, [] => []
  | n + 1, j :: l =>
    let b := l.foldl (fun x y => if key y < key x then y else x) j
    b :: leastLeaves key n ((j :: l).filter (fun y => y ≠ b))

/-- The survivors that a rebuild reads of a stripe: as many readable leaves as it needs, those asked for already, then those on the members
read least so far (R340). -/
def State.survivors (s : State) (x : SpanId) (t : Stripe) : List Nat :=
  let y := s.store.spans[x]
  let bad := s.undelivered x none
  let key := fun j => if (s.store.job? none false x.val t.addr j).isSome then 0 else match t.locs.getD j none with
    | some l => if h : l.pack < 32 then 1 + y.survived[l.pack] else 0
    | none => 0
  leastLeaves key t.present
    ((List.range (t.k + t.m)).filter (fun j => (t.locs.getD j none).isSome && !s.leafGone y t bad j))

/-- A background leaf read that failed is acted on, and its job dropped (R186). -/
def State.failJob (s : State) (x : SpanId) (addr leaf : Nat) (e : Nat × Nat) : State :=
  (s.dropJobs (fun j => j.who = none ∧ j.verify = false ∧ j.span = x.val ∧ j.addr = addr ∧ j.leaf = leaf)).outcomeAction x addr leaf e.1 e.2

/-- Rebuild of a stripe: of those that can be regenerated the ones with the most unreadable leaves come first; its survivors are read, and once
they are delivered its lost leaves are regenerated and written under R314, into the spare reserve when needed; with no slot left it stalls
(R340). -/
def execRebuildStripe (x : SpanId) (addr : Nat) (s0 : State) : Res :=
  .next (
    let s := s0.pollJobs
    let y := s.store.spans[x]
    match y.stripe? addr with
    | none => s
    | some t =>
      let due := y.live.filter (fun u => !(s.rebuildLeaves x u).isEmpty && decide (s.lostLeaves y u ≤ u.m))
      let most := (due.map (s.lostLeaves y)).foldl max 0
      if s.lostLeaves y t < most ∨ t.m < s.lostLeaves y t ∨ s.rebuildLeaves x t = [] then s
      else
        let l := s.survivors x t
        let s1 := l.foldl (fun s j => (s.fetchLeaf x addr j 0).1) s
        let ends := l.map (fun j => (j, (s1.store.job? none false x.val addr j).bind (fun y => y.ended)))
        if ends.any (fun e => e.2.isNone) then s1
        else match ends.find? (fun e => e.2.any (fun r => !goodOutcome r.1)) with
          | some e => s1.failJob x addr e.1 (e.2.getD (0, 0))
          | none =>
            (s1.rebuildLeaves x t).foldl (fun s j => (s.moveLeaf x addr j true (some 0) (fun _ => false)).getD s)
              (s1.dropJobs (fun j => j.who = none ∧ j.verify = false ∧ j.span = x.val ∧ j.addr = addr)))

/-- Drain moves a leaf off a Draining or Spent pack, or one that leaves its span: read from the pack itself, regenerated if that read
fails (R341, R347). -/
def execDrainLeaf (x : SpanId) (addr leaf : Nat) (s0 : State) : Res :=
  .next (
    let s := s0.pollJobs
    let y := s.store.spans[x]
    match y.stripe? addr with
    | none => (s.noteLeft x).noteEmpty
    | some t => match t.locs.getD leaf none with
      | none => s
      | some l =>
        let from_ := s.packState l.pack = .draining || s.packState l.pack = .spent || y.leaving.testBit l.pack
        if ¬ from_ ∨ s.store.writes.any (fun w => w.span = x.val ∧ w.addr = addr ∧ w.leaf = leaf) then s
        else match s.fetchLeaf x addr leaf 0 with
          | (s1, none) => s1
          | (s1, some e) =>
            if goodOutcome e.1 then (s1.moveLeaf x addr leaf true (some 0) (fun p => p == l.pack)).getD s1
            else s1.failJob x addr leaf e)

/-- A band without live leaves is reset: its leaf slots are free again, it takes the defect list's present sequence and its write
pointers go back, past the sectors listed there; dead stripes left without a leaf free their addresses (R128, R133, R342). -/
def State.resetBand (s : State) (x : SpanId) (p : PackId) (b : Nat) : State :=
  let s1 := s.updSpan x (fun y =>
    { y with
      bands := y.bands.filter (fun u => ¬(u.pack = p.val ∧ u.band = b)),
      stripes := (y.stripes.map (fun t =>
        if t.state = .dead then { t with locs := t.locs.map (fun l => match l with
          | some v => if v.pack = p.val ∧ v.band = b then none else some v
          | none => none) } else t)).filter (fun t => t.state ≠ .dead || t.locs.any Option.isSome) })
  (((s1.updPack p (fun k => { k with media := (List.range 16).foldl (fun m f =>
    m.putBand { k.band f b with track := 0, sector := 0, listSeq := k.media.listSeq }) k.media })).updPack p (fun k =>
      { k with media := (List.range 16).foldl (fun m f =>
        let q := k.settlePointer f b (0, 0)
        m.putBand { k.band f b with track := q.1, sector := q.2 }) k.media })).recordBands p).saveBands

/-- Nothing that is under way names an object or its stripes: no change or record to commit, no lock, no leaf written, read or held. -/
def State.untouched (s : State) (e : ObjEntry) : Bool :=
  let mine := fun (i a : Nat) => i == e.span && (e.addrs.contains a || e.petit.any (fun q => q.1 == a))
  let names := fun c : Change => c.hash == e.hash || c.slot == e.slot
  !s.store.changes.any names && !s.store.journal.any (fun r => r.fin.any names) && (s.store.lock? e.hash).all (fun k => k.holder.isNone)
    && !s.store.writes.any (fun w => mine w.span w.addr) && !s.store.reads.any (fun j => mine j.span j.addr)
    && !s.store.gets.any (fun g => g.entry.hash == e.hash) && !s.store.relocate.any (fun r => mine r.1 r.2.1)

/-- An entry is changed in its place, with no new version: the change is queued for the journal (R332, R342). -/
def State.rewriteEntry (s : State) (e : ObjEntry) (needs : List (Nat × Nat)) : State :=
  let c : Change := { slot := e.slot, hash := e.hash, entry := some e, needs := needs, gen := e.version }
  (s.updStore (fun t => { t with objs := t.objs.map (fun z => if z.hash = e.hash then e else z), changes := t.changes ++ [c] })).queueChanges

/-- Gives an object one block of new contiguous stripe addresses, its stripe entries moving there, with no media write (R342); not while
anything under way names its present ones. -/
def State.mergeRuns (s : State) (hash : Nat) : State :=
  match s.store.entry hash with
  | none => s
  | some e =>
    if h : e.span < 8 then
      let x : SpanId := ⟨e.span, h⟩
      let old := e.addrs
      let ready := e.petit.isNone && decide (ceilDiv old.length 512 < e.runs.length) && old.all (fun a => s.isPlaced (e.span, a))
        && s.untouched e
      if ¬ ready then s
      else match s.addrBlock x old.length with
        | none => s
        | some (base, s1) =>
          let addrs := (List.range old.length).map (fun j => base + j)
          let move := fun t : Stripe => match (old.zip addrs).lookup t.addr with | some b => { t with addr := b } | none => t
          let e' := { e with runs := packRuns addrs, extents := e.extents.take (extentsFor (packRuns addrs).length) }
          (s1.updSpan x (fun y => { y with stripes := y.stripes.map move })).rewriteEntry e' (addrs.map (fun a => (e.span, a)))
    else s

/-- Live objects of a petit-four stripe: those of its directory that the index places there (R319, R320). -/
def Store.petitLive (t : Store) (span : Nat) (u : Stripe) : List (PetitObj × ObjEntry) :=
  u.dir.filterMap (fun o => match t.entry o.hash with
    | some e => if e.span = span ∧ e.petit = some (u.addr, o.first, o.count) then some (o, e) else none
    | none => none)

/-- Less of a petit-four stripe is live than the compaction threshold, by sectors (R320, R342). -/
def State.petitSparse (s : State) (x : SpanId) (u : Stripe) : Bool :=
  let live := ((s.store.petitLive x.val u).map (fun o => o.1.count)).foldl (· + ·) 0
  u.isPetit && decide (live * 1000 < s.param 0x2010 8 * petitUsed u.dir)

/-- The live objects of a petit-four stripe go to the open one, each where nothing under way names it (R320, R342); the stripe is dead once no
entry names it. -/
def State.repackPetit (s : State) (x : SpanId) (u : Stripe) : State :=
  ((s.store.petitLive x.val u).foldl (fun s o =>
    if ¬ s.untouched o.2 then s
    else match s.petitAppend x o.2.hash (s.objectBytes o.2) false with
      | .error _ => s
      | .ok (w, s1) => s1.rewriteEntry { o.2 with petit := some w } [(x.val, w.1)]) s).killUnnamed

/-- Compaction copies a live leaf to an open band: read, then written again; one that the read does not deliver is regenerated (R186, R342). -/
def State.copyLeaf (s : State) (x : SpanId) (addr leaf : Nat) : State :=
  match s.fetchLeaf x addr leaf 1 with
  | (s1, none) => s1
  | (s1, some e) =>
    if ¬ goodOutcome e.1 then s1.failJob x addr leaf e
    else match s1.moveLeaf x addr leaf false (some 1) (fun _ => false) with
      | some t => t.updStore (fun z => { z with relocate := z.relocate.filter (fun r => r ≠ (x.val, addr, leaf)) })
      | none => s1

/-- Compaction of a band slot below the threshold, or of leaves queued for relocation from it: live leaves are copied to open bands, live
objects of a sparse petit-four stripe go to the open one, and with no live leaf left, and none on its way there, the band is reset; `merge`
names an object whose runs are merged (R186, R320, R342). -/
def execCompactionBand (p : PackId) (b : Nat) (merge : Option Nat) (s0 : State) : Res :=
  .next (
    let s := match merge with | some h => s0.pollJobs.mergeRuns h | none => s0.pollJobs
    match s.spanOf p with
    | none => s
    | some x =>
      let y := s.store.spans[x]
      let k := s.packs[p]
      let live := s.bandLive x p.val b
      let busy := fun v : Nat × Nat => s.store.writes.any (fun w => w.span = x.val ∧ w.addr = v.1 ∧ w.leaf = v.2)
      let coming := s.store.writes.any (fun w => w.loc.pack = p.val ∧ w.loc.band = b)
      let used := y.bands.any (fun u => u.pack = p.val ∧ u.band = b ∧ ¬ u.isOpen) && (k.band 0 b).type = .sequential
      let queued := live.filter (fun v => s.store.relocate.contains (x.val, v.1, v.2))
      let go := if used ∧ s.bandSparse x k p.val b then live else queued
      if used ∧ live = [] then (if coming then s else s.resetBand x p b)
      else go.foldl (fun s v =>
        if busy v then s
        else match s.store.spans[x].stripe? v.1 with
          | some u => if s.petitSparse x u then s.repackPetit x u else s.copyLeaf x v.1 v.2
          | none => s) s)

/-- Scrub verifies a leaf on media at full depth, once in each scrub period: the read is asked for, and once it has ended, one that does not
deliver good is regenerated (R181, R186, R336, R343). -/
def execScrubLeaf (x : SpanId) (addr leaf : Nat) (s0 : State) : Res :=
  .next (
    let s := s0.pollJobs
    match s.store.spans[x].stripe? addr with
    | none => s
    | some t =>
      if t.state = .dead ∨ (t.locs.getD leaf none).isNone then s
      else match s.store.job? none true x.val addr leaf with
        | none => if s.scrubDue t leaf then s.readLeaf x addr leaf none true (some 2) [] else s
        | some j => match j.ended with
          | none => s
          | some e =>
            let s1 := (s.dropJobs (fun y => y.tag = j.tag)).updStripe x addr (fun t =>
              { t with scrubbed := (t.scrubbed ++ List.replicate (t.k + t.m - t.scrubbed.length) none).set leaf (some s.now) })
            let s2 := s1.outcomeAction x addr leaf e.1 e.2
            if s.stripeReads x addr [(addr, leaf)] ∨ ¬ finalLoss e.1 then s2 else s2.countLost x addr)

/-! ### Self-tests (R344) -/

/-- Sends one routine of a self-test, and notes it. -/
def State.sendTest (s : State) (p : PackId) (a : ArmId) (req : Nat → List Byte) : State :=
  let (tag, s1) := s.takeTag
  (s1.updStore (fun t => { t with selfTest := { t.selfTest with jobs := t.selfTest.jobs ++ [(tag, p.val, a.val)] } })).layerRequest p a (some 3) (req tag)

/-- The request of REF_CHECK (R126, R211): the reference track of each head's surface. -/
def Pack.refRequest (k : Pack) (tag : Nat) : List Byte :=
  natBytes 1 7 ++ natBytes 1 0 ++ natBytes 2 0xFFFF ++ natBytes 4 tag ++ natBytes 8 0 ++ natBytes 48 0
    ++ ((List.range 16).map (fun h => natBytes 4 (k.geometry h).reference)).flatten

/-- The routines of a self-test on a pack (R344): REF_CHECK on both arms, or VERIFY of every leaf slot in use, each through the arm that wrote
it, and of the journal's tracks. -/
def State.startTest (s : State) (kind : Nat) (p : PackId) : State :=
  let k := s.packs[p]
  if kind = 1 then [0, 1].foldl (fun s (a : ArmId) => s.sendTest p a k.refRequest) s
  else
    let slots := (s.store.spans.toList.map (fun x => (x.bands.filter (fun u => u.pack = p.val)).map (fun u => (List.range u.next).map (fun n =>
      (u.band, n))))).flatten.flatten
    let s1 := slots.foldl (fun s x =>
      let (track, first) := k.leafPlace x.1 x.2
      s.sendTest p ⟨x.1 % 2, by omega⟩ (fun tag => leafRequest 3 true tag track first)) s
    if s.store.current.contains p.val then
      k.journalSlots.foldl (fun s b => (List.range 512).foldl (fun s i =>
        (List.range (k.bandG b)).foldl (fun s g =>
          s.sendTest p ⟨b % 2, by omega⟩ (fun tag => leafRequest 3 true tag (k.bandTrack b + 2 * i) (16 * g))) s) s) s1
    else s1

/-- The self-test command (R344, R346): an SDO abort code, or the state after it. -/
def State.selfTestCommand (s : State) (v : Nat) : Except Nat State :=
  if ¬ (s.dev.state = .selfTest ∨ s.dev.state = .opened) then .error 0x08000022
  else if v = 1 ∨ v = 2 then
    let ready := (List.finRange 32).filter (fun p : Fin 32 => s.packs[p].state = .ready)
    let s1 := s.updStore (fun t =>
      { t with selfTest := { kind := if ready = [] then 0 else v, running := ready.foldl (fun m p => m ||| 2 ^ p.val) 0 } })
    .ok (ready.foldl (fun s p => s.startTest v p) s1)
  else if v = 3 then
    .ok (s.updStore (fun t => { t with selfTest := { t.selfTest with
      kind := 0, running := 0, stopped := t.selfTest.stopped ||| t.selfTest.running } }))
  else .error 0x06090030

def execSelfTestShort (s : State) : Res := .next (okOr s (s.selfTestCommand 1))
def execSelfTestExtended (s : State) : Res := .next (okOr s (s.selfTestCommand 2))
def execSelfTestStop (s : State) : Res := .next (okOr s (s.selfTestCommand 3))

/-- The routines of a pack's share of the self-test that have not completed. -/
def State.testLeft (s : State) (p : PackId) : List (Nat × Nat × Nat) :=
  s.store.selfTest.jobs.filter (fun j => j.2.1 = p.val && (s.recordOf p ⟨j.2.2 % 2, by omega⟩ j.1).isNone)

/-- What a pack's share of the self-test found (R344): every routine ended with every sector delivered good; of the short test also every lane of an
arm in service neither Poor nor Removed, and its heads following. -/
def State.testPassed (s : State) (p : PackId) : Bool :=
  let good := s.store.selfTest.jobs.all (fun j => j.2.1 != p.val || (match s.recordOf p ⟨j.2.2 % 2, by omega⟩ j.1 with
    | some r => decide (fieldAt r 4 1 ≤ 1) && ((s.arm p ⟨j.2.2 % 2, by omega⟩).received.filter (fun d => d.tag = j.1)).all (fun d =>
        goodOutcome (d.status % 256))
    | none => false))
  let lane := fun (a : ArmId) => (s.arm p a).servo.isOut || (s.arm p a).lanes.all (fun l => l.health.quality != 3 && l.health.quality != 4
    && (l.servo.status == .following || l.servo.status == .notInService))
  good && (s.store.selfTest.kind != 1 || (lane 0 && lane 1))

/-- A pack's share of a self-test ends with the last of its routines: its result is reported, and a failure raises the fault of the pack's
condition (R344). -/
def execSelfTestShareEnd (p : PackId) (s : State) : Res :=
  .next (
    if s.store.selfTest.running.testBit p.val ∧ s.testLeft p = [] then
      let passed := s.testPassed p
      let s1 := s.updStore (fun t =>
        let v := t.selfTest
        let left := v.running &&& (0xFFFFFFFF ^^^ 2 ^ p.val)
        { t with selfTest := { v with
          running := left, kind := if left = 0 then 0 else v.kind,
          passed := if passed then v.passed ||| 2 ^ p.val else v.passed,
          failed := if passed then v.failed else v.failed ||| 2 ^ p.val } })
      if passed then s1 else s1.raisePack p 2
    else s)

/-! ### Initialisation (R302, R312, R401) -/

/-- Configured members and coding of a span (R347). -/
def State.spanConfig (s : State) (i : Nat) : Nat × Nat × Nat :=
  (s.param (0x3002 + i * 0x40) 1, s.param (0x3002 + i * 0x40) 2, s.param (0x3002 + i * 0x40) 3)

/-- The default build (R4, R20, R347): members, k and m of spans 0 and 1 as the default image sets them. -/
def defaultBuild : Part → List (Nat × Nat × Nat)
  | .qh1024 => [(0x55555555, 12, 4), (0xAAAAAAAA, 12, 4)]
  | .qh0512 => [(0xFFFF, 12, 4)]
  | .qh0256 => [(0xFF, 6, 2)]

/-- Members of a mask. -/
def maskPacks (m : Nat) : List Nat := (List.range 32).filter (fun p => m.testBit p)

/-- A span's configuration keeps the limits of R312. -/
def State.spanConfigOk (s : State) (i : Nat) : Bool :=
  let (mem, k, m) := s.spanConfig i
  let n := (maskPacks mem).length
  let earlier := (List.range i).foldl (fun r j => r ||| (s.spanConfig j).1) 0
  mem == 0 || (mem &&& earlier == 0 && (maskPacks mem).all (fun p => decide (p < 4 * partTiles s.part)) && decide (4 ≤ n ∧ n ≤ 32)
    && decide (2 ≤ k ∧ k ≤ 14) && decide (1 ≤ m ∧ m ≤ 4) && decide (k + m ≤ 16 ∧ k + m ≤ n))

/-- Sizes of regions 1 to 4 in GiB (R401). -/
def State.regionSizes (s : State) : List Nat :=
  let spans := ((List.range 8).filter (fun i => (s.spanConfig i).1 ≠ 0)).length
  [1, s.param 0x2001 1, s.param 0x6005 1 * spans, ceilDiv (s.param 0x7430 7 * 1024) (2 ^ 30)]

/-- Base in GiB and size in MiB of the five regions. -/
def State.layOut (s : State) : List (Nat × Nat) :=
  let l := s.regionSizes
  let bases := (List.range 5).map (fun i => (l.take i).foldl (· + ·) 0)
  let total := l.foldl (· + ·) 0
  (bases.zip (l.map (· * 1024) ++ [s.bufSize / 1048576 - total * 1024]))

/-- A free value of `n` bits. -/
def State.takeBits (s : State) (n : Nat) : Nat × State := let (v, t) := s.takeFree; (v % 2 ^ n, t)

/-- Forms one span with a key from the random source (R312, R316, R546). -/
def State.formSpan (s : State) (i : SpanId) : State :=
  let (mem, k, m) := s.spanConfig i.val
  if mem = 0 then s.updSpan i (fun _ => {})
  else
    let (key, s1) := s.takeBits 512
    s1.updSpan i (fun _ =>
      { configured := true, members := mem, k := k, m := m, key := key, forming := true,
        ids := (maskPacks mem).filterMap (fun p => match s.pack? p with
          | some k => k.identity.map (fun d => (p, d.uniqueId))
          | none => none) })

/-- Initialises the store: the write of 0x494E4954 to 0x2001.02, refused where R312 or R401 refuses the build (R301, R302, R312,
R331, R401, R546, R547). -/
def State.initialiseStore (s : State) : Except Nat State :=
  if s.dev.state ≠ .assemble then .error 0x08000022
  else if ¬ (List.range 8).all s.spanConfigOk ∨ s.bufSize < (s.regionSizes.foldl (· + ·) 0 + 4) * 2 ^ 30 then .error 0x06090030
  else
    let (key, s1) := s.takeBits 384
    let s2 := s1.updStore (fun t =>
      { formed := true, hashKey := key, counter := 1, slots := s.param 0x2001 1 * 2 ^ 30 / 48, nextTag := t.nextTag,
        indexFull := t.indexFull, dataLost := t.dataLost, selfTest := t.selfTest })
    let s3 := (List.finRange 8).foldl State.formSpan s2
    let s4 := (s3.updBuf (fun b => { b with regions := s.layOut })).noteJournal
    let s5 := (s4.store.packs.filterMap (fun p => if h : p < 32 then some (⟨p, h⟩ : PackId) else none)).foldl State.journalBands s4
    let s6 := s5.updStore (fun t =>
      { t with current := t.packs,
               disk := { present := true, hashKey := t.hashKey, slots := t.slots, counter := t.counter, spans := t.spans, packs := t.packs,
                         escrow := s.param 0x7404 2 != 0 } })
    .ok s6.noteSpans

def execStoreInitialise (s : State) : Res := .next (okOr s s.initialiseStore)

/-! ### Span commands (R347) -/

/-- The span command entry: an SDO abort code, or the state after the command. A drain leaves at least k + m members that stay, and no
fewer than the 4 of R19. -/
def State.spanCommand (s : State) (x : SpanId) (v : Nat) : Except Nat State :=
  let y := s.store.spans[x]
  let p := s.param (0x3001 + x.val * 0x40) 2
  if ¬ (s.dev.state = .opened ∨ s.dev.state = .quiesce) ∨ ¬ y.configured then .error 0x08000022
  else if v = 1 then
    if (s.packState p = .verified ∨ s.packState p = .ready) ∧ ¬ s.store.spans.any (fun z => z.configured && z.members.testBit p) then
      let ids := match s.pack? p with | some k => (match k.identity with | some d => [(p, d.uniqueId)] | none => []) | none => []
      .ok ((s.updSpan x (fun y => { y with members := y.members ||| 2 ^ p, ids := y.ids ++ ids })).saveBands.noteSpans)
    else .error 0x08000022
  else if v = 2 then
    let lost := y.packs.filter (fun p => !s.packReads y p)
    if lost = [] then .error 0x08000022
    else .ok ((s.updSpan x (fun y => { y with rebuilding := lost.foldl (fun r p => r ||| 2 ^ p) y.rebuilding, rebuilt := 0 })).noteSpans)
  else if v = 3 then
    let stay := (y.packs.filter (fun j => j ≠ p ∧ ¬ y.leaving.testBit j)).length
    if ¬ y.members.testBit p ∨ stay < max 4 (y.k + y.m) then .error 0x08000022
    else .ok ((s.updSpan x (fun y => { y with leaving := y.leaving ||| 2 ^ p })).noteLeft x).noteEmpty
  else .error 0x06090030

def execSpanAddPack (x : SpanId) (s : State) : Res := .next (okOr s (s.spanCommand x 1))
def execSpanStartRebuild (x : SpanId) (s : State) : Res := .next (okOr s (s.spanCommand x 2))
def execSpanDrainPack (x : SpanId) (s : State) : Res := .next (okOr s (s.spanCommand x 3))

end Sys2Proof.Machine
end

