-- ==== Sys2Proof/Machine/FlashOps.lean ====
section
/-! DEFINITION. The flash window, the boot selector, the security fuses, and the store's secrets (R473, R530, R531, R535 to R537, R547,
R551). -/

namespace Sys2Proof.Machine

/-! ### When an entry may be written (R11, R448, R462) -/

/-- The device state is among those of a Changeable in column, bit of the state's code. -/
def State.inStates (s : State) (mask : Nat) : Bool := mask.testBit s.dev.state.code

/-- An entry of the full server alone, changeable in the states of a mask. -/
def State.changeable (s : State) (mask : Nat) : Bool := s.fullServer && s.inStates mask

/-- Lee, Assemble, Open, Quiesce, Bench. -/
def statesUsual : Nat := 0x1E4

/-- Runs a write's effect where the device state allows it (check 4 of R448). -/
def State.inTurn (s : State) (mask : Nat) (r : Except Nat State) : Except Nat State :=
  if s.changeable mask then r else .error 0x08000022

/-! ### The flash window (R537) -/

/-- The size of a target in bytes (R530). -/
def targetSize (t : Nat) : Nat := if t < 2 then 0x1000000 else if t < 4 then 0x100000 else 0x80000

/-- Bytes that a dictionary image fills (R471, R472). -/
def dictLength (x : DictImage) : Nat := 256 + x.body.length

/-- Bytes from its start that a target programmed from outside fills. -/
def State.placedLength (s : State) (t : Nat) : Nat :=
  if ¬ s.window.placed.contains t then 0
  else if h : t < 2 then (match s.flash.image[t] with | some x => 512 + x.payloadLength | none => 0)
  else if h : t < 4 then (match s.flash.base[t - 2] with | some x => dictLength x | none => 0)
  else if h : 16 ≤ t ∧ t < 32 then (match s.flash.overlay[t - 16] with | some x => dictLength x | none => 0)
  else 0

/-- The target may not be written: the running image, the base copy in use, an active overlay (R537). -/
def State.targetHeld (s : State) (t : Nat) : Bool :=
  (t < 2 && t == s.window.running) || (2 ≤ t && t < 4 && s.window.baseUsed == some (t - 2)) || (16 ≤ t && s.layers.mask.testBit (t - 16))

/-- Every byte of a range of a target is erased. -/
def State.erasedAt (s : State) (t off n : Nat) : Bool :=
  decide (s.placedLength t ≤ off) && s.window.bytes.all (fun x => decide (x.1 < t * 2 ^ 24 + off ∨ t * 2 ^ 24 + off + n ≤ x.1))

/-- Cells merged with those of a run of bytes that starts at an address, where no cell stands; erased bytes are not listed. -/
def mergeCells (a : Nat) (l : List Byte) (cells : List Host.Cell) : List Host.Cell :=
  let new := ((l.zipIdx).map (fun x => (a + x.2, x.1))).filter (fun x => x.2 != 0xFF)
  cells.filter (fun x => decide (x.1 < a)) ++ new ++ cells.filter (fun x => decide (a + l.length ≤ x.1))

/-- Starts an operation of the window. -/
def State.flashStart (s : State) (op : Nat) (data : List Byte) : State :=
  { s with window := { s.window with
      state := 1, op := op, target := s.param 0x7402 1, offset := s.param 0x7402 2, data := data } }

/-- A data write: the offset advances by its length. A write while an operation runs is refused. -/
def State.flashData (s : State) (l : List Byte) : Except Nat State :=
  let t := s.param 0x7402 1
  let off := s.param 0x7402 2
  if s.window.state = 1 ∨ s.targetHeld t then .error 0x08000022
  else if targetSize t < off + l.length ∨ ¬ s.erasedAt t off l.length then .error 0x06090030
  else .ok ((s.flashStart 3 l).setParam 0x7402 2 (off + l.length))

def execFlashDataWrite (data : List Byte) (s : State) : Res :=
  .next (okOr s (if data.length = 0 ∨ 65536 < data.length then .error 0x06070010 else s.inTurn statesUsual (s.flashData data)))

/-- The flash command: 1 erases, 2 verifies. -/
def State.flashCommand (s : State) (v : Nat) : Except Nat State :=
  if v ≠ 1 ∧ v ≠ 2 then .error 0x06090030
  else if s.window.state = 1 ∨ (v = 1 ∧ s.targetHeld (s.param 0x7402 1)) then .error 0x08000022
  else .ok (s.flashStart v [])

def execFlashErase (s : State) : Res := .next (okOr s (s.inTurn statesUsual (s.flashCommand 1)))
def execFlashVerify (s : State) : Res := .next (okOr s (s.inTurn statesUsual (s.flashCommand 2)))

/-- What an area holds from now on, as Boot would read it. -/
def Flash.setTarget (f : Flash) (t : Nat) (c : FlashContent) : Flash :=
  let img := match c with | .image x => some x | _ => none
  let dic := match c with | .dict x => some x | _ => none
  if h : t < 2 then { f with image := f.image.set t img h }
  else if h : t < 4 then { f with base := f.base.set (t - 2) dic (by omega) }
  else if h : 16 ≤ t ∧ t < 32 then { f with overlay := f.overlay.set (t - 16) dic (by omega) }
  else f

/-- The values beneath the active overlays (R479). -/
def State.baseVals (s : State) : List (Nat × Nat) := layOver s.part s.dict.vals s.dict.beneath

/-- Verifies a target as Boot would, its result in the image or overlay state entries: whether it is valid. -/
def State.verifyTarget (s : State) (t : Nat) : Bool × State :=
  if h : t < 2 then
    let v := s.imageStateOf s.flash.image[t]
    (v == 1, { s with window := { s.window with imageState := s.window.imageState.set t v h } })
  else if h : t < 4 then
    (match s.flash.base[t - 2] with | some x => s.dictImageOk 1 0 [] x | none => false, s)
  else if h : 16 ≤ t ∧ t < 32 then
    let v := (s.overlaySlot s.baseVals ⟨t - 16, by omega⟩).state
    (v == 1, { s with layers := { s.layers with
      overlays := s.layers.overlays.set (t - 16) { s.layers.overlays[t - 16] with state := v } (by omega) } })
  else (false, s)

/-- The state entry of an erased image or overlay reads empty. -/
def State.noteErased (s : State) (t : Nat) : State :=
  if h : t < 2 then { s with window := { s.window with imageState := s.window.imageState.set t 0 h } }
  else if h : 16 ≤ t ∧ t < 32 then
    { s with layers := { s.layers with
      overlays := s.layers.overlays.set (t - 16) { s.layers.overlays[t - 16] with state := 0 } (by omega) } }
  else s

/-- An erase or a program that failed: what the bytes of its range hold is not stated. -/
def State.flashFailed (s : State) (first n : Nat) : State :=
  let junk : List Byte := (List.range n).map (fun i => BitVec.ofNat 8 (Config.freeValue (s.free + i)))
  ({ s with free := s.free + n, window := { s.window with state := 3, op := 0, data := [],
                                                          bytes := mergeCells first junk s.window.bytes } }).raise 10

/-- The operation under way ends; `content` is what the target then holds, as Boot would read it. -/
def execFlashOperationDone (ok : Bool) (content : FlashContent) (s : State) : Res :=
  .next (
    let w := s.window
    let t := w.target
    let a := t * 2 ^ 24
    match w.op with
    | 1 =>
      let s1 := { s with flash := s.flash.setTarget t (if ok then .none else content), window := { w with placed := w.placed.filter (fun x => x ≠ t) } }
      if ok then
        ({ s1 with window := { s1.window with
            state := 2, op := 0, bytes := w.bytes.filter (fun x => decide (x.1 < a ∨ a + 2 ^ 24 ≤ x.1)) } }).noteErased t
      else s1.flashFailed a (targetSize t)
    | 2 =>
      let (good, s1) := s.verifyTarget t
      let s2 := { s1 with window := { s1.window with state := if ok && good then 2 else 4, op := 0 } }
      if ok then s2 else s2.raise 10
    | 3 =>
      let s1 := { s with flash := s.flash.setTarget t content }
      if ok then
        { s1 with window := { w with state := 2, op := 0, data := [], bytes := mergeCells (a + w.offset) w.data w.bytes } }
      else s1.flashFailed (a + w.offset) w.data.length
    | _ => s)

/-! ### Boot selector (R531) -/

/-- A write of 0x7400.02 writes the copy that does not decide, its sequence one higher; with no valid copy, copy 0. -/
def State.preferImage (s : State) (v : Nat) : Except Nat State :=
  if 2 ≤ v then .error 0x06090030
  else
    let (copy, seq) : Fin 2 × Nat := match s.flash.decides with
      | some (i, x) => (otherImage i, (x.seq + 1) % 2 ^ 32)
      | none => (0, 1)
    .ok (({ s with flash := { s.flash with selector := s.flash.selector.set copy.val (selectorBytes ⟨seq, v⟩) copy.isLt } }).send
      (.flashWrite 1 copy.val))

def execBootSelectorWrite (image : Nat) (s : State) : Res := .next (okOr s (s.inTurn statesUsual (s.preferImage image)))

/-! ### Fuses (R536, R551) -/

/-- Commits a security version (R536). -/
def State.commitSecurity (s : State) (v : Nat) : Except Nat State :=
  let run : Fin 2 := if s.window.running = 0 then 0 else 1
  let o := otherImage run
  let ver := fun i : Fin 2 => match s.flash.image[i] with | some x => x.securityVersion | none => 0
  if s.fuses.securityVersion < v ∧ v ≤ ver run ∧ s.window.imageState[o] = 1 ∧ v ≤ ver o then
    .ok (({ s with fuses := { s.fuses with securityVersion := v } }).record { type := 0x50, code := 6, detail := detailAt 0x24 v })
  else .error 0x06090030

def execSecurityVersionCommit (version : Nat) (s : State) : Res := .next (okOr s (s.inTurn 0x1E0 (s.commitSecurity version)))

/-- Blows the revocation fuse of a key index. -/
def State.revokeKey (s : State) (v : Nat) : Except Nat State :=
  if 64 ≤ v then .error 0x06090030
  else .ok (({ s with fuses := { s.fuses with keyRevoked := s.fuses.keyRevoked ||| 2 ^ v } }).record
    { type := 0x50, code := 7, detail := detailAt 0x24 v })

def execKeyIndexRevoke (index : Nat) (s : State) : Res := .next (okOr s (s.inTurn 0x100 (s.revokeKey index)))

/-! ### The store's secrets (R547) -/

/-- The escrow key is written: in Assemble with the store open, the escrow block too. -/
def State.escrowKey (s : State) (v : Nat) : Except Nat State :=
  let s1 := s.setParam 0x7404 2 v
  .ok (if v ≠ 0 ∧ s.dev.state = .assemble ∧ s.store.isOpen then
      s1.updStore (fun t => { t with disk := { t.disk with escrow := true } })
    else s1)

def execEscrowKeyWrite (key : List Byte) (s : State) : Res :=
  .next (okOr s (if key.length ≠ 96 then .error 0x06070010 else s.inTurn 0x24 (s.escrowKey (leNat key))))

/-- Record `i` of the unwrapped secrets: the span and its key. -/
def secretOf (l : List Byte) (i : Nat) : Nat × Nat := (fieldAt l (48 + 72 * i) 1, fieldAt l (56 + 72 * i) 64)

/-- The records name spans, each once, and their reserved bytes are zero (R14, R547). -/
def secretsOk (l : List Byte) : Bool :=
  let n := (l.length - 48) / 72
  (List.range n).all (fun i => decide ((secretOf l i).1 < 8) && zeroAt l (49 + 72 * i) 7)
    && decide (((List.range n).map (fun i => (secretOf l i).1)).Nodup)

/-- The secrets of an import block are adopted, and the store that the packs hold is opened. -/
def State.importSecrets (s : State) (l : List Byte) : State :=
  let recs := (List.range ((l.length - 48) / 72)).map (secretOf l)
  let key := fun (i : Nat) (x : Span) => match recs.find? (fun r => r.1 = i) with | some r => { x with key := r.2 } | none => x
  (s.updStore (fun t =>
    { t with
      hashKey := leNat (l.take 48),
      spans := Vector.ofFn (fun i : Fin 8 => key i.val t.spans[i]),
      disk := { t.disk with
        hashKey := leNat (l.take 48), spans := Vector.ofFn (fun i : Fin 8 => key i.val t.disk.spans[i]) } })).tryOpen

/-- An import block meets its byte map and unwraps (R547). -/
def importKeys (l : List Byte) : Option (List Byte) :=
  let n := fieldAt l 6 2
  if l.length ≤ 1024 ∧ fieldAt l 0 4 = 0x4B53564F ∧ fieldAt l 4 2 = 1 ∧ 64 ≤ n ∧ n ≤ 640 ∧ zeroAt l 0x68 8 ∧ l.length = 0x70 + n then
    match Config.unwrapImport l with
    | some x => if 48 ≤ x.length ∧ (x.length - 48) % 72 = 0 ∧ secretsOk x then some x else none
    | none => none
  else none

def State.keyImport (s : State) (l : List Byte) : Except Nat State :=
  match importKeys l with
  | some x => .ok (s.importSecrets x)
  | none => .error 0x06090030

def execStoreKeyImport (block : List Byte) (s : State) : Res :=
  .next (okOr s (if block.length = 0 ∨ 1024 < block.length then .error 0x06070010 else s.inTurn 0x20 (s.keyImport block)))

end Sys2Proof.Machine
end

