-- ==== Sys2Proof/Machine/Movers.lean ====
section
/-! DEFINITION. Data movers (R427 to R444): the check of a descriptor, its loops, swap modes, host windows, the rate limiter and the
completion record. -/

namespace Sys2Proof.Machine

/-! ### Descriptors (R430, R431) -/

/-- Fields of a descriptor. -/
def descBarrier (d : List Byte) : Bool := (fieldAt d 1 1).testBit 0
def descStreams (d : List Byte) : Bool := (fieldAt d 1 1).testBit 1
def descScatter (d : List Byte) : Bool := (fieldAt d 1 1).testBit 2
def descSource (d : List Byte) : Nat := fieldAt d 2 1 % 4
def descDest (d : List Byte) : Nat := fieldAt d 2 1 / 4 % 4
def descSwap (d : List Byte) : Nat := fieldAt d 3 1 % 8
def descKey (d : List Byte) : Nat := fieldAt d 0x18 4
def descCount (d : List Byte) (i : Nat) : Nat := fieldAt d (0x20 + 2 * i) 2
def descElem (d : List Byte) : Nat := fieldAt d 0x26 2
def descStep (d : List Byte) (i : Nat) : Int := signedNat 32 (fieldAt d (0x28 + 4 * i) 4)
def descGranule (d : List Byte) : Nat := fieldAt d 0x38 8

/-- T, the bytes of the stream. -/
def descTotal (d : List Byte) : Nat := descElem d * descCount d 0 * descCount d 1 * descCount d 2

/-- The walked base and the contiguous base. -/
def descWalked (d : List Byte) : Nat := fieldAt d (if descScatter d then 0x10 else 8) 8
def descFlat (d : List Byte) : Nat := fieldAt d (if descScatter d then 8 else 0x10) 8

/-- Walked addresses in stream order (R431). -/
def descWalk (d : List Byte) : List Int :=
  ((List.range (descCount d 2)).map (fun (i2 : Nat) => ((List.range (descCount d 1)).map (fun (i1 : Nat) =>
    (List.range (descCount d 0)).map (fun (i0 : Nat) =>
      (descWalked d : Int) + i2 * descStep d 2 + i1 * descStep d 1 + i0 * descStep d 0))).flatten)).flatten

/-- Walked extent: lowest address and end, from the eight corners (R432). -/
def descExtent (d : List Byte) : Int × Int :=
  let ends := fun i => [(0 : Int), ((descCount d i : Int) - 1) * descStep d i]
  let corners := ((ends 2).map (fun a => ((ends 1).map (fun b => (ends 0).map (fun c => (descWalked d : Int) + a + b + c))).flatten)).flatten
  (corners.foldl min (descWalked d : Int), corners.foldl max (descWalked d : Int) + descElem d)

/-- The unit of a swap mode (R434). -/
def swapUnit (m : Nat) : Nat := if m = 1 then 2 else if m = 2 ∨ m = 3 then 4 else if m = 4 then 8 else 1

/-- One unit swapped. -/
def swapOne (m : Nat) (u : List Byte) : List Byte := if m = 3 then u.drop 2 ++ u.take 2 else u.reverse

/-- A stream swapped unit by unit (R434); `fuel` bounds the units. -/
def swapUnits (m : Nat) : Nat → List Byte → List Byte
  | 0, l => l
  | fuel + 1, l => if l.isEmpty then [] else swapOne m (l.take (swapUnit m)) ++ swapUnits m fuel (l.drop (swapUnit m))

/-- Bytes of the stream after the swap (R434). -/
def swapStream (m : Nat) (l : List Byte) : List Byte := if m = 0 then l else swapUnits m l.length l

/-- Extents of the source and the destination. -/
def descSourceExtent (d : List Byte) : Int × Int :=
  if descScatter d then ((descFlat d : Int), (descFlat d : Int) + descTotal d) else descExtent d
def descDestExtent (d : List Byte) : Int × Int :=
  if descScatter d then descExtent d else ((descFlat d : Int), (descFlat d : Int) + descTotal d)

/-- The descriptor is malformed (R432), buffer extents apart. -/
def State.descMalformed (s : State) (d : List Byte) : Bool :=
  let src := descSourceExtent d
  let dst := descDestExtent d
  let wraps := fun x : Int × Int => decide (x.1 < 0 ∨ 2 ^ 64 < x.2)
  32 ≤ fieldAt d 0 1 || 8 ≤ fieldAt d 1 1 || 16 ≤ fieldAt d 2 1 || 8 ≤ fieldAt d 3 1 || !zeroAt d 5 1 || !zeroAt d 0x1C 4 || !zeroAt d 0x34 4
    || descSource d == 3 || decide (2 ≤ descDest d) || decide (4 < descSwap d)
    || descElem d == 0 || descCount d 0 == 0 || descCount d 1 == 0 || descCount d 2 == 0 || decide (2 ^ 36 < descTotal d)
    || (descSource d == 1 && descDest d == 1) || (descSource d == 2 && !descScatter d)
    || (descSource d == 1 && wraps src) || (descDest d == 1 && wraps dst)
    || (descSource d == 0 && descDest d == 0 && decide (src.1 < dst.2 ∧ dst.1 < src.2))
    || (descHost d && !((s.conn? (descConn d)).any (fun c => c.ready)))
    || descElem d % swapUnit (descSwap d) != 0
    || (descGranule d != 2 ^ 64 - 1 && !(descGranule d % 64 == 0 && decide (descGranule d + 64 ≤ s.bufSize)))

/-- A buffer extent lies outside buffer memory (R432). -/
def State.descOutside (s : State) (d : List Byte) : Bool :=
  let out := fun x : Int × Int => decide (x.1 < 0 ∨ (s.bufSize : Int) < x.2)
  (descSource d == 0 && out (descSourceExtent d)) || (descDest d == 0 && out (descDestExtent d))

/-- A buffer destination is not in whole granules (R433). -/
def descNarrow (d : List Byte) : Bool :=
  descDest d == 0 && (if descScatter d then
      descWalked d % 64 != 0 || descElem d % 64 != 0 || descStep d 0 % 64 != 0 || descStep d 1 % 64 != 0 || descStep d 2 % 64 != 0
    else descFlat d % 64 != 0 || descTotal d % 64 != 0)

/-- Status that a descriptor's check gives: 0 passes (R432, R433, R443). -/
def State.descCheck (s : State) (d : List Byte) : Nat :=
  if s.descMalformed d then 1 else if s.descOutside d then 2 else if descNarrow d then 3 else 0

/-! ### Reading the source (R431, R435, R444) -/

/-- Pieces of a side in stream order: address and length. Each element of a walked side is one, each granule of a contiguous buffer
side. -/
def descPieces (d : List Byte) (walked : Bool) : List (Nat × Nat) :=
  if walked then (descWalk d).map (fun w => (w.toNat, descElem d))
  else
    let n := descTotal d
    (List.range ((n + 63) / 64)).map (fun i => (descFlat d + 64 * i, min 64 (n - 64 * i)))

/-- Reads pieces of buffer memory until one returns an error: the bytes before it, and whether it did. -/
def State.readPieces (s : State) (r : Requester) (own : Bool) (x : List DramRead) : List (Nat × Nat) → List Byte × Bool × State × List Nat
  | [] => ([], false, s, [])
  | (a, n) :: l =>
    let (d, s1, f) := s.bufRead r own a n x .none
    match d with
    | none => ([], true, s1, f)
    | some b =>
      let (rest, bad, s2, f2) := s1.readPieces r own x l
      (b ++ rest, bad, s2, f ++ f2)

/-- The stream of a pattern source (R435). -/
def patternStream (d : List Byte) : List Byte := (List.range (descTotal d)).map (fun o => (d.drop (8 + o % 8)).headD 0)

/-! ### Host operations (R436) -/

/-- Adjacent pieces of the host side merged into operations of at most 1 MiB. -/
def mergeOps : List (Nat × Nat) → List (Nat × Nat)
  | [] => []
  | (a, n) :: l => match mergeOps l with
    | (b, k) :: r => if a + n = b ∧ n + k ≤ 1048576 then (a, n + k) :: r else (a, n) :: (b, k) :: r
    | [] => [(a, n)]

/-- Contiguous bytes cut into pieces of at most `size`. -/
def cutOps (a n size : Nat) : List (Nat × Nat) :=
  (List.range (ceilDiv n (max size 1))).map (fun i => (a + i * max size 1, min (max size 1) (n - i * max size 1)))

/-- Operations of a descriptor's host side in stream order. -/
def descOps (d : List Byte) : List (Nat × Nat) :=
  let walked := (descDest d == 1) == descScatter d
  if walked then mergeOps (descPieces d true) else cutOps (descFlat d) (descTotal d) 1048576

/-- Path MTU of a descriptor's connection. -/
def State.descMtu (s : State) (d : List Byte) : Nat := match s.conn? (descConn d) with | some c => c.mtu | none => 1024

/-- Transfer units in stream order: address and length (R440): granules written to buffer memory, packets of RDMA WRITEs, or RDMA READ
requests. A channel without a limit works in whole operations. -/
def State.descUnits (s : State) (d : List Byte) (limited : Bool) : List (Nat × Nat) :=
  if descHost d then
    if limited then ((descOps d).map (fun o => cutOps o.1 o.2 (s.descMtu d))).flatten else descOps d
  else if descScatter d then ((descWalk d).map (fun w => cutOps w.toNat (descElem d) 64)).flatten
  else cutOps (descFlat d) (descTotal d) 64

/-- Addresses of the granules of a buffer destination in stream order. -/
def descGranules (d : List Byte) : List Nat :=
  if descScatter d then ((descWalk d).map (fun w => (List.range (descElem d / 64)).map (fun j => w.toNat + 64 * j))).flatten
  else (List.range (descTotal d / 64)).map (fun j => descFlat d + 64 * j)

/-! ### Rate limiter (R439, R440) -/

/-- Effective share h. -/
def State.moverShare (s : State) (c : MoverId) (d : List Byte) : Nat :=
  let full := fun v => if v = 0 then 256 else v
  min (full (fieldAt d 4 1)) (full (s.param 0x6204 (c.val + 1)))

/-- Capacity of the target bus, bytes per µs: the line rate of the sub-port, or the peak of R394, 4,000 for each Gbit/s and channel. -/
def State.busCapacity (s : State) (d : List Byte) : Nat :=
  if descHost d then
    (match s.conn? (descConn d) with | some c => s.host.ports[c.port].lineRate / 8 | none => 0)
  else 4000 * s.buf.pinRate * s.chanCount

/-- Bytes that a window adds. -/
def State.windowBytes (s : State) (c : MoverId) (d : List Byte) : Nat := s.moverShare c d * s.busCapacity d / 256

/-! ### Moving (R436, R437, R440 to R442) -/

/-- Changes the first run that is at work. -/
def updFirstRun (f : MoverRun → MoverRun) : List MoverRun → List MoverRun
  | [] => []
  | r :: l => if r.status = 0 ∧ r.done < descTotal r.req.desc then f r :: l else r :: updFirstRun f l

/-- Changes the run of a channel that is at work: the first that has not ended. -/
def Mover.updActive (m : Mover) (f : MoverRun → MoverRun) : Mover := { m with running := updFirstRun f m.running }

/-- That run. -/
def Mover.active (m : Mover) : Option MoverRun := m.running.find? (fun r => r.status = 0 ∧ r.done < descTotal r.req.desc)

/-- Writes what a run's stream holds to its buffer destination, granule by granule. -/
def State.drainStream (s : State) (c : MoverId) (d : List Byte) (from_ : Nat) (bytes : List Byte) : State × List Nat :=
  ((descGranules d).drop (from_ / 64) |>.take (bytes.length / 64)).zipIdx.foldl (fun r x =>
    let (s1, l) := r.1.bufWrite (.mover c) (descStreams d) x.1 ((bytes.drop (64 * x.2)).take 64) .none
    (s1, r.2 ++ l)) (s, [])

/-- Moves one transfer unit of the run at work; `host` holds what the host's memory gives from this point of the stream. -/
def State.moveUnit (s : State) (c : MoverId) (r : MoverRun) (u : Nat × Nat) (host : List Byte) (newOp : Bool) : State :=
  let d := r.req.desc
  let ops := if newOp then r.ops + 1 else r.ops
  if descSource d = 1 then
    let bytes := r.stream ++ swapStream (descSwap d) (padTo u.2 host)
    let whole := bytes.length / 64 * 64
    let s1 := s.sendHost (.read (descConn d) u.1 (descKey d) u.2)
    let (s2, l) := s1.drainStream c d r.done (bytes.take whole)
    (s2.updMover c (fun m => m.updActive (fun r => { r with ops := ops, stream := bytes.drop whole, done := r.done + whole }))).raiseAll l
  else if descDest d = 1 then
    let bytes := r.stream.take u.2
    let s1 := s.sendHost (.write (descConn d) u.1 (descKey d) bytes none)
    s1.updMover c (fun m => m.updActive (fun r => { r with ops := ops, stream := r.stream.drop u.2, done := r.done + bytes.length }))
  else
    let bytes := r.stream.take (min u.2 r.stream.length / 64 * 64)
    let (s1, l) := s.drainStream c d r.done bytes
    (s1.updMover c (fun m => m.updActive (fun r => { r with stream := r.stream.drop u.2, done := r.done + bytes.length }))).raiseAll l

/-- Bytes of the stream that a run has asked for or moved. -/
def MoverRun.asked (r : MoverRun) : Nat := if descSource r.req.desc = 1 then r.done + r.stream.length else r.done

/-- Units that begin at or after a stream offset, with their offsets. -/
def unitsFrom (off : Nat) : Nat → List (Nat × Nat) → List (Nat × Nat × Nat)
  | _, [] => []
  | o, (a, n) :: l => (if off ≤ o then [(o, a, n)] else []) ++ unitsFrom off (o + n) l

/-- A host source can be read now: its QP may issue a READ (R348) and the data priority is not paused (R351). -/
def State.hostReads (s : State) (conn : Nat) : Bool :=
  match s.conn? conn with
  | some c => s.mayRead conn && !s.pausedOn (s.wire c.port c.sub c.source c.qp false)
  | none => false

/-- Moves units one after another: without a limit all of them, else while the allowance is above zero. `host` is what the host's
memory gives from stream offset `from_`. -/
def State.moveUnits (s : State) (c : MoverId) (limited : Bool) (from_ : Nat) (host : List Byte) : List (Nat × Nat × Nat) → State
  | [] => s.updMover c (fun m => m.updActive (fun r => { r with readsDone := true }))
  | (o, a, n) :: l =>
    match s.movers[c].active with
    | none => s
    | some r =>
      if limited ∧ s.movers[c].allowance ≤ 0 then s.updMover c (fun m => m.updActive (fun r => { r with held := r.held + 1 }))
      else if descSource r.req.desc ≠ 1 ∧ r.stream.isEmpty then s
      else if descSource r.req.desc = 1 ∧ ¬ s.hostReads (descConn r.req.desc) then s
      else
        let starts := (descOps r.req.desc).foldl (fun (x : Nat × List Nat) p => (x.1 + p.2, x.2 ++ [x.1])) (0, [])
        let newOp := if descSource r.req.desc = 1 then limited || starts.2.contains o else starts.2.contains o
        let s1 := s.moveUnit c r (a, n) (host.drop (o - from_)) newOp
        let s2 := if limited then s1.updMover c (fun m => { m with allowance := m.allowance - n }) else s1
        let s3 := if l.isEmpty then
            s2.updMover c (fun m => { m with running := m.running.map (fun x =>
              if x.req = r.req ∧ x.status = 0 ∧ x.done = descTotal x.req.desc then { x with readsDone := true } else x) })
          else s2
        if l.isEmpty then s3 else s3.moveUnits c limited from_ host l

/-- Runs the descriptor at work. -/
def State.moverWork (s : State) (c : MoverId) (host : List Byte) : State :=
  match s.movers[c].active with
  | none => s
  | some r =>
    let limited := decide (s.moverShare c r.req.desc < 256)
    s.moveUnits c limited r.asked host (unitsFrom r.asked 0 (s.descUnits r.req.desc limited))

/-! ### Start and completion -/

/-- The next descriptor of a channel may start (R428, R441). -/
def State.mayStart (s : State) (c : MoverId) : Option MoverReq :=
  let m := s.movers[c]
  match m.queue with
  | [] => none
  | q :: _ =>
    if ¬ s.bankOn c then none
    else if descBarrier q.desc then (if m.running.isEmpty then some q else none)
    else match m.running.getLast? with
      | some r => if r.readsDone then some q else none
      | none => some q

/-- The source of a run is read: buffer memory until an error, or the pattern (R435, R444). -/
def State.readSource (s : State) (c : MoverId) (q : MoverReq) (x : List DramRead) : State :=
  let d := q.desc
  if descSource d = 1 then s.updMover c (fun m => { m with running := m.running ++ [{ req := q }] })
  else if descSource d = 2 then
    s.updMover c (fun m => { m with running := m.running ++ [{ req := q, stream := swapStream (descSwap d) (patternStream d), readsDone := true }] })
  else
    let (b, bad, s1, l) := s.readPieces (.mover c) (descStreams d) x (descPieces d (!descScatter d))
    let unit := swapUnit (descSwap d)
    let stream := swapStream (descSwap d) (b.take (b.length / unit * unit))
    (s1.updMover c (fun m => { m with running := m.running ++ [{ req := q, stream := stream, readsDone := !bad }] })).raiseAll l

/-- What an error of the source leaves: the bytes read before it are written, then the run stops (R444). -/
def State.stopAtError (s : State) (c : MoverId) : State :=
  s.updMover c (fun m => { m with running := m.running.map (fun r =>
    if r.status = 0 ∧ descSource r.req.desc = 0 ∧ ¬ r.readsDone ∧ r.stream.isEmpty then { r with status := 4, readsDone := true } else r) })

/-- A channel starts its next descriptor: it is checked before any byte moves; a status of 1 to 3 raises a fault against the channel
(R432, R433, R441, R444). `x` is what buffer reads meet, `host` what the host's memory holds in stream order. -/
def execMoverDescriptorStart (c : MoverId) (x : List DramRead) (host : List Byte) (s : State) : Res :=
  .next (match s.mayStart c with
    | none => s
    | some q =>
      let s1 := (s.updMover c (fun m => { m with queue := m.queue.drop 1 }.refill)).placeChecks
      let st := s1.descCheck q.desc
      if st ≠ 0 then
        (s1.updMover c (fun m => { m with running := m.running ++ [{ req := q, status := st, readsDone := true }] })).raise (180 + c.val)
      else
        let idle := s1.movers[c].active.isNone
        let s2 := s1.readSource c q x
        if idle ∧ ¬ decide (s2.moverShare c q.desc < 256) then (s2.moverWork c host).stopAtError c else s2)

/-- A 1 µs window of a limited channel: its allowance grows by the share, and transfer units start while it is above zero (R440). An
unlimited descriptor that waited behind another moves now. -/
def execMoverRateWindow (c : MoverId) (host : List Byte) (s : State) : Res :=
  .next (match s.movers[c].active with
    | none => s
    | some r =>
      let n := s.windowBytes c r.req.desc
      let s1 := s.updMover c (fun m => { m with allowance := if s.moverShare c r.req.desc < 256 then min (n : Int) (m.allowance + n) else 0 })
      (s1.moverWork c host).stopAtError c)

/-- The completion record of a run (R443). -/
def MoverRun.record (r : MoverRun) : List Byte :=
  natBytes 1 r.status ++ natBytes 7 0 ++ natBytes 8 r.done ++ natBytes 4 r.ops ++ natBytes 4 r.held ++ natBytes 40 0

/-- A run has ended: stopped by its status, or with every byte moved. -/
def MoverRun.ended (r : MoverRun) : Bool := r.status != 0 || r.done == descTotal r.req.desc

/-- A descriptor completes: its record, its counters, its token (R443 to R445). -/
def execMoverDescriptorComplete (c : MoverId) (s : State) : Res :=
  .next (match s.movers[c].running.find? MoverRun.ended with
    | none => s
    | some r =>
      let s1 := s.updMover c (fun m =>
        { m with running := m.running.erase r, completed := sat32 m.completed 1, moved := sat64 m.moved r.done,
                 failed := if r.status = 0 then m.failed else sat32 m.failed 1 })
      let s2 := if r.status = 0 then s1 else { s1 with lastMoverError := r.status + c.val * 256 }
      let (s3, l) := if descGranule r.req.desc % 64 = 0 ∧ descGranule r.req.desc + 64 ≤ s2.bufSize then
          s2.bufWrite (.mover c) (descStreams r.req.desc) (descGranule r.req.desc) r.record .none
        else (s2, [])
      (if r.req.token = 0 then s3 else s3.completeToken r.req.token (r.status ≠ 0)).raiseAll l)

end Sys2Proof.Machine
end

