-- ==== Sys2Proof/Machine/DictRead.lean ====
section
/-! DEFINITION. What every entry of the dictionary reads: the values that blocks of the machine hold, the parameters, and how a value is
carried (R4, R5, R9, R10, R12, R446, R449, R450, and the entry table of each chapter). -/

namespace Sys2Proof.Machine

/-! ### Codes -/

def LinkState.code : LinkState → Nat
  | .down => 0 | .training => 1 | .up => 2 | .out => 3

def TbState.code : TbState → Nat
  | .stopped => 0 | .freeRun => 1 | .acquire => 2 | .locked => 3 | .coast => 4 | .lost => 5

def TimeStatus.code : TimeStatus → Nat
  | .notMeasured => 0 | .provisional => 1 | .valid => 2 | .drifting => 3 | .excluded => 4

def LaneServo.code : LaneServo → Nat
  | .notInService => 0 | .following => 1 | .settling => 2 | .coasting => 3 | .coastingInhibited => 4 | .lost => 5 | .satOut => 6
  | .seeking => 7

def SpinState.code : SpinState → Nat
  | .off => 0 | .watch => 1 | .brake => 2 | .align => 3 | .forced => 4 | .accelerate => 5 | .atSpeed => 6 | .stop => 7
  | .faultBrake => 8 | .freewheel => 9

def SubLink.code : SubLink → Nat
  | .down => 0 | .training => 1 | .up => 2

def bit (b : Bool) (n : Nat) : Nat := if b then 2 ^ n else 0

/-- A mask of the units of a list that satisfy a condition. -/
def maskOf (n : Nat) (f : Nat → Bool) : Nat := (List.range n).foldl (fun m i => if f i then m + 2 ^ i else m) 0

/-- The text of an ASCII string as the number that its bytes make, first byte lowest. -/
def textNat (t : String) : Nat := leNat (t.toList.map (fun c => BitVec.ofNat 8 c.toNat))

/-- The order code of the part (R1). -/
def orderCode : Part → String
  | .qh1024 => "OVX-QH1024-A1" | .qh0512 => "OVX-QH0512-A1" | .qh0256 => "OVX-QH0256-A1"

/-- Where several states of a unit hold together the tables do not say which one is reported: one of them, by a free value. -/
def oneOf (free : Nat) (l : List Nat) : Nat := l.getD (free % max l.length 1) 0

/-! ### Packs -/

/-- The flags P+0x00.02 (R103). -/
def State.packFlagWord (s : State) (p : PackId) : Nat :=
  let k := s.packs[p]
  bit (!s.packFitted p) 0 + bit k.life.worn 1 + bit k.unsignedFlag 2 + bit k.counterfeit 3 + bit k.arms[0].servo.isOut 4
    + bit k.arms[1].servo.isOut 5 + bit k.sensors.hold 6 + bit k.sensors.heliumWarn 7 + bit k.removable 8 + bit k.spindle.turning 9
    + bit k.arms[0].servo.mode.onMedia 10 + bit k.arms[1].servo.mode.onMedia 11

/-- State of a formatter (R227): 0 idle, 1 running, 2 held, 3 fault. -/
def Formatter.code (f : Formatter) : Nat := if f.fault then 3 else if ¬ f.running then 0 else if f.held then 2 else 1

/-- One of an arm's counts of P+0x24, by pair (R268). -/
def ArmServo.item (v : ArmServo) : Nat → Nat
  | 0 => v.mode.code | 1 => v.target | 2 => v.seeks | 3 => v.parks | 4 => v.gales | 5 => v.missedParks | 6 => v.loadFailures
  | _ => v.saturations

/-- An arm's value at offset `off`, pair `i` (R60, R103, R167, R227, R268). -/
def State.armValue (s : State) (p : PackId) (a : ArmId) (off i : Nat) : Option Nat :=
  let x := s.arm p a
  match off, i with
  | 0x23, 0 => some x.servo.angleOffset
  | 0x04, 0 => some x.link.state.code
  | 0x04, 1 => some x.link.discarded
  | 0x09, 4 => some (if s.packs[p].identity.isSome then s.writeWidth p a else 0)
  | 0x18, 0 => some x.fmt.restartCount
  | 0x18, 1 => some x.fmt.endedCount
  | 0x18, 2 => some x.fmt.code
  | 0x18, 3 => some x.fmt.queue.length
  | 0x24, i => some (x.servo.item i)
  | _, _ => none

/-- A lane's value at offset `off` (R60, R103, R167, R191, R268). -/
def State.laneValue (s : State) (p : PackId) (a : ArmId) (h : HeadId) (off : Nat) : Option Nat :=
  let l := s.lane p a h
  match off with
  | 0x21 => some (lowBits 16 l.skew)
  | 0x22 => some l.time.code
  | 0x03 => some ((s.packs[p].life.heads.toList[a.val * 16 + h.val]?).getD {}).bytes
  | 0x08 => some l.chan.power.code
  | 0x0A => some l.health.read
  | 0x0B => some l.health.written
  | 0x0C => some l.health.recovered
  | 0x0D => some l.health.unrecovered
  | 0x0E => some l.health.shifted
  | 0x0F => some (lowBits 16 l.health.snr)
  | 0x10 => some l.health.iterations
  | 0x11 => some l.health.marked
  | 0x12 => some l.health.slips
  | 0x13 => some l.health.quality
  | 0x16 => some (lowBits 8 l.health.lastShift)
  | 0x25 => some l.servo.status.code
  | 0x26 => some (lowBits 16 l.servo.err)
  | 0x27 => some l.servo.rms
  | 0x28 => some l.servo.inhibits
  | 0x29 => some l.servo.missedWedges
  | 0x2A => some l.servo.saturations
  | _ => none

/-- A pack's own values: identity, life, sensors (R103). -/
def State.packOwn (s : State) (p : PackId) (off sub : Nat) : Option Nat :=
  let k := s.packs[p]
  let id := fun f : Identity → Nat => some (match k.identity with | some i => f i | none => 0)
  match off, sub with
  | 0x00, 1 => some k.state.code
  | 0x00, 2 => some (s.packFlagWord p)
  | 0x00, 3 => some k.cause
  | 0x00, 5 => some k.spindle.target
  | 0x01, 1 => id (fun i => i.serial)
  | 0x01, 2 => id (fun i => i.uniqueId)
  | 0x01, 3 => id (fun i => i.modelCode)
  | 0x01, 4 => id (fun i => i.made)
  | 0x02, 6 => some (min k.lifeMille 65535)
  | 0x02, n => some (min (k.fractions.getD (n - 1) 0) 65535)
  | 0x05, 1 => some (lowBits 8 k.sensors.temp)
  | 0x05, 2 => some k.sensors.helium
  | _, _ => none

/-- A pack's media, recovery, time base and spindle (R60, R134, R191, R298). R134 does not say among which a whole-track entry counts:
every type but 0 counts as grown (DESIGN CHOICE: log entry 108). -/
def State.packMedia (s : State) (p : PackId) (off sub : Nat) : Option Nat :=
  let k := s.packs[p]
  let m := k.media
  let x := k.spindle
  match off, sub with
  | 0x06, 1 => some m.zoneCopy
  | 0x06, 2 => some (match m.zones with | some z => z.zones | none => 0)
  | 0x06, 3 => some (m.defects.filter (fun e => defectType e = 0)).length
  | 0x06, 4 => some (m.defects.filter (fun e => defectType e ≠ 0)).length
  | 0x06, 5 => some m.listSeq
  | 0x06, 6 => some m.servoProtect
  | 0x14, 8 => some m.unrecovered
  | 0x14, 9 => some m.tornReads
  | 0x14, 10 => some m.misplaced
  | 0x14, 11 => some m.blank
  | 0x14, 12 => some m.flywheel
  | 0x14, 13 => some m.suspects.length
  | 0x14, n => m.recovered.toList[n - 1]?
  | 0x17, n => m.shifts.toList[n - 1]?
  | 0x20, 1 => some k.tb.state.code
  | 0x20, 2 => some k.tb.angle.toNat
  | 0x20, 3 => some k.tb.revPeriod
  | 0x20, 12 => some k.tb.acquisitions
  | 0x20, 13 => some k.tb.losses
  | 0x20, 14 => some k.tb.lateEvents
  | 0x30, 1 => some x.state.code
  | 0x30, 2 => some x.speed
  | 0x30, 3 => some x.current
  | 0x30, 4 => some x.attempts
  | 0x30, 5 => some x.starts
  | 0x30, 6 => some x.catches
  | 0x30, 7 => some x.faultStops
  | 0x30, 8 => some x.missedSamples
  | 0x30, 9 => some x.commutation
  | _, _ => none

/-- What a pack block holds beside parameters: per-lane arrays, per-arm pairs, the pack's own values (R451). -/
def State.packValue (s : State) (p : PackId) (off sub : Nat) : Option Nat :=
  let lane : Option Nat :=
    if h : 1 ≤ sub ∧ sub ≤ 32 then s.laneValue p ⟨(sub - 1) / 16, by omega⟩ ⟨(sub - 1) % 16, by omega⟩ off else none
  let arm : Option Nat :=
    if 1 ≤ sub then s.armValue p ⟨(sub - 1) % 2, by omega⟩ off ((sub - 1) / 2) else none
  match lane with
  | some v => some v
  | none =>
    if off = 0x09 then (if sub = 8 then s.armValue p 0 0x09 4 else if sub = 9 then s.armValue p 1 0x09 4 else none)
    else match arm with
      | some v => some v
      | none => match s.packOwn p off sub with
        | some v => some v
        | none => s.packMedia p off sub

/-! ### Store and spans (R346, R347) -/

/-- Free leaf slots outside the reserve, and the spare reserve, of a span's members. -/
def State.spanFree (s : State) (x : Span) : Nat := (x.packs.map (fun p => s.freeLeaves x p - s.reserve x p)).foldl (· + ·) 0
def State.spanReserve (s : State) (x : Span) : Nat := (x.packs.map (s.reserve x)).foldl (· + ·) 0

/-- Rebuild progress: leaves rebuilt of those to rebuild, per mille; 0 while none runs. -/
def State.rebuildProgress (s : State) (x : Span) : Nat :=
  let left := (x.live.map (s.lostLeaves x)).foldl (· + ·) 0
  if s.rebuilds x ∧ x.rebuilt + left ≠ 0 then x.rebuilt * 1000 / (x.rebuilt + left) else 0

/-- Routines of the self-test that have completed (R344, R346). -/
def State.testDone (s : State) : Nat :=
  (s.store.selfTest.jobs.filter (fun j => if h : j.2.1 < 32 then (s.recordOf ⟨j.2.1, h⟩ ⟨j.2.2 % 2, by omega⟩ j.1).isSome else false)).length

/-- A pack holds two leaves of the stripe (R338). -/
def Stripe.doubled (t : Stripe) : Bool := (List.range 32).any (fun p => decide (2 ≤ t.on p))

def State.spanValue (s : State) (x : Span) (off sub : Nat) : Option Nat :=
  if off ≠ 0 then none
  else if ¬ x.configured then (if sub = 1 then some 255 else none)
  else match sub with
  | 1 => some (s.spanState x).code
  | 2 => some x.members
  | 3 => some x.k
  | 4 => some x.m
  | 5 => some (s.unreadable x)
  | 6 => some (s.tolerance x)
  | 7 => some (s.rebuildProgress x)
  | 8 => some (x.stripes.filter (fun t => t.state = .placed)).length
  | 9 => some (s.spanFree x)
  | 10 => some (s.spanReserve x)
  | 11 => some (x.live.filter (fun t => t.doubled)).length
  | 12 => some x.lostStripes
  | _ => none

def State.storeValue (s : State) (idx sub : Nat) : Option Nat :=
  let t := s.store
  match idx, sub with
  | 0x2000, 1 => some t.objs.length
  | 0x2000, 2 => some t.freeSlots
  | 0x2000, 3 => some t.counter
  | 0x2000, 4 => some t.committed
  | 0x2000, 5 => some (fieldAt (t.packs.map (BitVec.ofNat 8)) 0 3)
  | 0x2000, 6 => some t.indexFull
  | 0x2000, 7 => some t.dataLost
  | 0x2020, 2 => some t.selfTest.kind
  | 0x2020, 3 => some (if t.selfTest.kind = 0 then 0 else s.testDone * 1000 / max t.selfTest.jobs.length 1)
  | 0x2020, 4 => some t.selfTest.passed
  | 0x2020, 5 => some t.selfTest.failed
  | 0x2020, 6 => some t.selfTest.stopped
  | _, _ => none

/-! ### Configuration (R482) -/

def State.confValue (s : State) (idx sub : Nat) : Option Nat :=
  let y := s.layers
  match idx, sub with
  | 0x2400, 1 => some y.baseName
  | 0x2400, 2 => some y.baseRevision
  | 0x2400, 3 => some y.storedState
  | 0x2400, 4 => some y.baseDigest
  | 0x2401, 1 => some s.lock.holder
  | 0x2410, 3 => some s.raw.status
  | 0x2410, 5 => some s.raw.state
  | 0x2420, n => (y.overlays.toList[n - 1]?).map (fun o => o.name)
  | 0x2421, n => (y.overlays.toList[n - 1]?).map (fun o => o.revision)
  | 0x2422, n => (y.overlays.toList[n - 1]?).map (fun o => o.state)
  | 0x2423, 1 => some y.mask
  | 0x2423, 2 => some y.applyStatus
  | 0x2423, 4 => some y.applies
  | _, _ => none

/-! ### Memory, cache, movers (R425, R426, R445) -/

/-- State of a mover channel: bank off, idle, or one of running, waiting on a barrier and held by the limiter. -/
def State.moverCode (s : State) (free c : Nat) : Nat :=
  match s.movers.toList[c]?, s.domains.toList[172 + c / 8]? with
  | some m, some d =>
    if d.state ≠ 2 then 4
    else if m.running.isEmpty ∧ m.queue.isEmpty then 0
    else
      let waits : Bool := match m.queue with | q :: _ => descBarrier q.desc && !m.running.isEmpty | [] => false
      let held := decide (s.param 0x6204 (c + 1) ≠ 0) && decide (m.allowance ≤ 0) && !m.running.isEmpty
      oneOf free ((if held then [3] else [1]) ++ (if waits then [2] else []))
  | _, _ => 0

def State.memValue (s : State) (free idx sub : Nat) : Option Nat :=
  let b := s.buf
  let c := sub - 1
  match idx, sub with
  | 0x6000, 3 => some (2 ^ s.chanCount - 1)
  | 0x6000, 4 => some (s.bufSize / 1048576)
  | 0x6000, 6 => some b.fillTime
  | 0x6000, 7 => some b.checkerPassed
  | 0x6001, _ => some (if s.chanCount ≤ c then 5 else ((b.chans.toList[c]?).getD {}).state)
  | 0x6002, _ => (b.chans.toList[c]?).map (fun x => x.corrected)
  | 0x6003, _ => (b.chans.toList[c]?).map (fun x => x.errors)
  | 0x6004, _ => some (b.errorLog.getD c 0)
  | 0x6006, _ => some (b.regions.getD c (0, 0)).1
  | 0x6007, _ => some (b.regions.getD c (0, 0)).2
  | 0x6009, 3 => some b.checkCapture
  | 0x6009, 4 => some b.verdict
  | 0x6100, 2 => some (if b.op.isSome then 1 else 0)
  | 0x6100, 8 => some b.result
  | 0x6100, 9 => some b.skipped
  | 0x6102, 1 => some b.hits
  | 0x6102, 2 => some b.misses
  | 0x6102, 3 => some b.writtenBack
  | 0x6102, 4 => some b.bypasses
  | 0x6102, 5 => some (b.lines.filter (fun l => l.valid ≠ 0)).length
  | 0x6102, 6 => some (b.lines.filter (fun l => l.dirty ≠ 0)).length
  | 0x6102, 7 => some b.sramCorrected
  | 0x6102, 8 => some b.sramUncorrectable
  | 0x6200, _ => some (s.moverCode free c)
  | 0x6201, _ => (s.movers.toList[c]?).map (fun m => m.completed)
  | 0x6202, _ => (s.movers.toList[c]?).map (fun m => m.moved)
  | 0x6203, _ => (s.movers.toList[c]?).map (fun m => m.failed)
  | 0x6205, 1 => some s.lastMoverError
  | _, _ => none

/-! ### Host and ports (R389, R391) -/

def State.hostValue (s : State) (idx sub : Nat) : Option Nat :=
  let h := s.host
  match idx, sub with
  | 0x6400, 1 => some h.conns.length
  | 0x6400, 2 => some h.rings.length
  | 0x6400, 3 => some h.fatals
  | 0x6400, 4 => some h.ended
  | 0x6400, 5 => some h.ignored
  | 0x6400, 6 => some h.pauses
  | _, _ => none

def State.portValue (s : State) (q : PortId) (off sub : Nat) : Option Nat :=
  let x := s.host.ports[q]
  let i := (sub - 1) % 4
  match off, sub with
  | 0, _ =>
    some (if ¬ s.portFitted q then 3 else if x.subs ≤ i then 4 else ((x.link.toList[i]?).getD .down).code)
  | 4, n => if n ≤ 4 then some (s.host.conns.filter (fun c => c.port = q ∧ c.sub.val = i)).length else x.cnps.toList[i]?
  | _, _ => none

/-! ### Power and inputs (R299, R515, R550) -/

/-- State of a motor bus (R299); under a chopper fault freewheel from the freewheel threshold on (R293). -/
def State.busCode (s : State) (free : Nat) (b : BusId) : Nat :=
  let x := s.buses[b]
  if ¬ s.busFitted b then 5
  else
    let l := (if x.gate then [1] else []) ++ (if x.fault ∧ ¬ x.freewheel then [2] else []) ++ (if x.freewheel then [3] else []) ++ (if x.undervoltage then [4] else [])
    oneOf free l

def State.busValue (s : State) (free idx sub : Nat) : Option Nat :=
  if h : 1 ≤ sub ∧ sub ≤ 4 then
    let b : BusId := ⟨sub - 1, by omega⟩
    let x := s.buses[b]
    match idx with
    | 0x7031 => some (s.busCode free b)
    | 0x7032 => some x.volts
    | 0x7033 => some x.activations
    | 0x7034 => some x.peak
    | _ => none
  else none

def State.powerValue (s : State) (free idx sub : Nat) : Option Nat :=
  let d := s.dev
  let i := sub - 1
  let x := s.inputs
  match idx, sub with
  | 0x7000, 1 => some d.state.code
  | 0x7000, 2 => some d.lastCommand
  | 0x7000, 3 => some d.leeForm
  | 0x7000, 4 => some d.startFail
  | 0x7000, 5 => some d.leeCause
  | 0x7000, 6 => some d.wakeAttempts
  | 0x7010, 1 => some d.opSec
  | 0x7010, 2 => some d.powerCycles
  | 0x7010, 3 => some (bit d.crystal 0)
  | 0x7040, _ => if h : i < 178 then some (s.domainCode ⟨i, h⟩) else none
  | 0x7041, _ => (s.rails.toList[i]?).map (fun r => r.state)
  | 0x7043, _ => (s.rails.toList[i]?).map (fun r => r.milliVolt)
  | 0x7044, _ => (s.rails.toList[i]?).map (fun r => r.milliAmp)
  | 0x7050, 3 => some d.lastWake
  | 0x7050, 4 => some d.wakes
  | 0x7060, 5 => some d.ticks
  | 0x7061, 1 => some (free % 256)
  | 0x7083, _ => x.chatterEdges.toList[i]?
  | 0x7084, _ => x.stuckEvents.toList[i]?
  | 0x7085, 1 =>
    some (maskOf 4 (fun w => ((x.wake.toList[w]?).getD {}).masked) + bit x.epo.masked 4
      + 32 * maskOf 8 (fun r => let y := (x.pg.toList[r]?).getD {}; y.stuck && y.conditioned))
  | 0x7085, 2 => some (maskOf 32 (fun p => ((x.psf.toList[p]?).getD {}).masked))
  | n, _ =>
    if 0x7100 ≤ n ∧ n < 0x71B2 then
      (s.domains.toList[n - 0x7100]?).map (fun y => if sub = 1 then y.switchOns else y.seconds)
    else s.busValue free idx sub

/-! ### Boot, security, sequencers (R226, R551) -/

/-- State of a service sequencer (R226): fault, idle, or running and held as its contexts are. -/
def Sequencer.code (q : Sequencer) (free : Nat) : Nat :=
  let l := q.ctx.toList.filter (fun x => x.busy)
  if q.fault then 3
  else if l.isEmpty then 0
  else oneOf free ((if l.any (fun x => !x.held) then [1] else []) ++ (if l.any (fun x => x.held) then [2] else []))

def State.bootValue (s : State) (free idx sub : Nat) : Option Nat :=
  let w := s.window
  let img := fun (i : Nat) (f : FwImage → Nat) => match s.flash.image.toList[i]? with | some (some x) => f x | _ => 0
  match idx, sub with
  | 0x7400, 1 => some w.running
  | 0x7400, 2 => some s.flash.preferred.val
  | 0x7400, 3 => some w.imageState[0]
  | 0x7400, 4 => some w.imageState[1]
  | 0x7400, 5 => some (img 0 (fun x => x.revision))
  | 0x7400, 6 => some (img 1 (fun x => x.revision))
  | 0x7400, 7 => some (img 0 (fun x => x.securityVersion))
  | 0x7400, 8 => some (img 1 (fun x => x.securityVersion))
  | 0x7401, 1 => some s.fuses.securityVersion
  | 0x7402, 5 => some w.state
  | 0x7403, 1 => some s.fuses.rootRevoked
  | 0x7403, 2 => some s.fuses.keyRevoked
  | 0x7404, 1 => some s.fuses.devicePublicKey
  | 0x7405, 1 => some (bit s.sec.tapUnlocked 0)
  | 0x7405, 2 => some (Config.freeValue s.sec.tapNonce)
  | 0x7430, 1 => some s.fmtStore.revision
  | 0x7430, 2 => some s.svc.store.revision
  | 0x7430, 3 => some s.svc.corrected
  | 0x7430, 4 => some s.svc.uncorrectable
  | 0x7430, 8 => some s.svc.overruns
  | 0x7430, 9 => some s.svc.suspended.length
  | 0x7430, 10 => some s.svc.delayed
  | 0x7430, n => if 11 ≤ n then (s.svc.seqs.toList[n - 11]?).map (fun q => q.code free) else none
  | _, _ => none

/-! ### Faults and fail-over (R453, R514) -/

/-- Element `j` of a source bit array (R514). -/
def State.sourceBits (s : State) (j : Nat) (f : FaultSource → Bool) : Nat := maskOf 32 (fun i => f (s.source (32 * (j - 1) + i)))

def State.faultValue (s : State) (idx sub : Nat) : Option Nat :=
  let f := s.faults
  let c := s.clusters
  let all := s.faults.sources.toList
  match idx, sub with
  | 0x8000, 1 => some 416
  | 0x8000, 2 => some (all.filter (fun x => x.sticky)).length
  | 0x8000, 3 => some (all.filter (fun x => x.inState)).length
  | 0x8000, 4 => some f.firstSticky
  | 0x8000, 5 => some (bit s.errorN 0)
  | 0x8000, 6 => some (bit s.fatalN 0)
  | 0x8000, 7 => some f.firstError
  | 0x8000, 8 => some f.firstFatal
  | 0x8002, j => some (s.sourceBits j (fun x => x.sticky))
  | 0x8003, j => some (s.sourceBits j (fun x => x.inState))
  | 0x8010, 1 => some (if s.dev.motorLoaded then s.activeCode else 0)
  | 0x8010, 2 => some c.unit[0].role.code
  | 0x8010, 3 => some c.unit[1].role.code
  | 0x8010, 4 => some (bit s.standbyFit 0)
  | 0x8010, 5 => some c.failOvers
  | 0x8010, 6 => some c.roleSwaps
  | 0x8010, 7 => some c.lastCause
  | 0x8010, 8 => some c.lastDuration
  | 0x8010, 9 => some c.lastSwapOpSec
  | 0x8012, 1 => some c.mirrorSent
  | 0x8012, 2 => some c.mirrorApplied
  | 0x8012, 3 => some c.peakLag
  | 0x8012, 4 => some c.noStandbyCompletions
  | 0x8012, 5 => some c.unit[0].missed
  | 0x8012, 6 => some c.unit[1].missed
  | 0x8012, 7 => some c.unit[0].traps
  | 0x8012, 8 => some c.unit[1].traps
  | 0x8012, 9 => some c.trapStorms
  | 0x8020, 1 => some (bit s.arbiter.failed 0)
  | 0x8020, 2 => some s.arbiter.cause
  | 0x8020, 3 => some s.arbiter.decisions
  | 0x8030, 1 => some f.lastSticky
  | 0x8030, 2 => some f.lastStickySec
  | n, 2 => if 0x8100 ≤ n ∧ n < 0x82A0 then some (s.sourceStatus (n - 0x8100)) else none
  | _, _ => none

/-! ### Event recorder (R561) -/

/-- The sequence of the first record of a list, 0 for none. -/
def firstSeq : List EvRec → Nat
  | [] => 0
  | r :: _ => r.seq

def State.recValue (s : State) (who idx sub : Nat) : Option Nat :=
  let c := s.recorder
  match idx, sub with
  | 0x8800, 1 => some c.formed
  | 0x8800, 2 => some c.merged
  | 0x8800, 3 => some c.lost
  | 0x8800, 4 => some c.fatalOverwritten
  | 0x8800, 5 => some c.ordinaryOverwritten
  | 0x8800, 6 => some (match c.newest.getLast? with | some r => r.seq | none => 0)
  | 0x8800, 7 => some (firstSeq (s.heldRecords.filter (fun r => !r.fatal)))
  | 0x8800, 8 => some (firstSeq (s.heldRecords.filter (fun r => r.fatal)))
  | 0x8800, 9 => some c.invalidSkipped
  | 0x8800, 10 => some (bit s.flashReachable 0)
  | 0x8801, 3 => some c.writeFailures
  | 0x8802, 1 => some (s.cursorOf who)
  | 0x8802, 2 => some (s.reader who).filter
  | 0x8802, 4 => some (s.reader who).returned
  | _, _ => none

/-! ### Communication (R461, R463) -/

def State.commValue (s : State) (idx sub : Nat) : Option Nat :=
  let c := s.can
  match idx, sub with
  | 0x1001, 0 => some s.errorRegister
  | 0x1003, 0 => some c.history.length
  | 0x1003, n => some (c.history.getD (n - 1) 0)
  | 0x1008, 0 => some (textNat ("Queluham " ++ orderCode s.part))
  | 0x1009, 0 => some (textNat "A1")
  | 0x100A, 0 => some (if s.dev.motorLoaded then leNat (Config.revisionText s.window.revision) else 0)
  | 0x1010, 1 => some 1
  | 0x1011, 1 => some 1
  | 0x1014, 0 => some (0x80 + c.nodeId)
  | 0x1018, 2 => some (partProduct s.part)
  | 0x1018, 3 => some 0x00410001
  | 0x1018, 4 => some s.fuses.serial
  | 0x1FC0, 1 => some c.nodeId
  | 0x1FC0, 4 => some c.busOffs
  | 0x1FC0, 5 => some c.nmtIgnored
  | 0x1FC0, 6 => some c.emcyLost
  | _, _ => none

/-! ### Bench (R483, R484, R516) -/

/-- Lanes with an override or a freeze in force. -/
def State.overriddenLanes (s : State) : Nat :=
  ((List.finRange 32).map (fun p => ((List.finRange 32).filter (fun i : Fin 32 =>
    s.overridden p ⟨i.val / 16, by omega⟩ ⟨i.val % 16, by omega⟩)).length)).foldl (· + ·) 0

def State.benchValue (s : State) (idx sub : Nat) : Option Nat :=
  match idx, sub with
  | 0xF000, 2 => some s.bench.captures
  | 0xF000, 3 => some s.bench.entrySec
  | 0xF000, 4 => some s.overriddenLanes
  | 0xF100, 1 => some (Config.freeValue s.injection.nonce)
  | 0xF100, 3 => some s.injection.tokenState
  | _, _ => none

/-! ### One entry -/

/-- What a block of the machine holds for an entry; none where the entry is a parameter. -/
def State.liveValue (s : State) (who free idx sub : Nat) : Option Nat :=
  if idx < 0x2000 then s.commValue idx sub
  else if idx < 0x2400 then s.storeValue idx sub
  else if idx < 0x3000 then s.confValue idx sub
  else if idx < 0x3200 then s.spanValue ((s.store.spans.toList[(idx - 0x3000) / 0x40]?).getD {}) (idx % 0x40) sub
  else if h : 0x4000 ≤ idx ∧ idx < 0x5000 then s.packValue ⟨(idx - 0x4000) / 0x80, by omega⟩ (idx % 0x80) sub
  else if idx < 0x5400 then (if s.param (idx - idx % 0x40) 1 = 0 ∧ ¬ (idx % 0x40 = 0 ∧ sub = 1) then some 0 else none)
  else if idx < 0x6400 then s.memValue free idx sub
  else if idx < 0x6500 then s.hostValue idx sub
  else if h : 0x6500 ≤ idx ∧ idx < 0x6600 then s.portValue ⟨(idx - 0x6500) / 0x10, by omega⟩ (idx % 0x10) sub
  else if idx < 0x7400 then s.powerValue free idx sub
  else if idx < 0x8000 then s.bootValue free idx sub
  else if idx < 0x8800 then s.faultValue idx sub
  else if idx < 0xF000 then s.recValue who idx sub
  else s.benchValue idx sub

/-- The number that an existing entry reads, of a row that is no domain: the count at subindex 0 (R446), zero for WO (R9), else what the
machine holds, in the entry's width, its reserved bits zero (R12). R5 names no not-fitted value for an RW parameter of an item that is not
fitted: it reads its default or the value that an image set (DESIGN CHOICE: log entry 100). -/
def State.numberOf (s : State) (who free idx sub : Nat) (r : Row) : Nat :=
  if r.acc = .wo then 0
  else if sub = 0 ∧ (findRow idx 0).isNone then highestSub idx
  else
    let v := match s.liveValue who free idx sub with | some v => v | none => s.param idx sub
    r.stored (v % 256 ^ r.ty.size)

/-- Drops trailing zero bytes. -/
def trimZeros (l : List Byte) : List Byte := (l.reverse.dropWhile (fun b => b.toNat == 0)).reverse

/-- The bytes that carry a value (R449): a string without its padding, an octet string at its full size. -/
def VType.carry (t : VType) (v : Nat) : List Byte :=
  match t with
  | .str n => trimZeros (natBytes n v)
  | t => natBytes t.size v

/-- The bytes of a domain: the raw sector, a capture buffer (R482, R484); the read window has its own operation. -/
def State.domainBytes (s : State) (idx : Nat) : List Byte :=
  if idx = 0x2410 then s.raw.sector
  else if 0xF200 ≤ idx then (let l := (s.bench.buffers.lookup ((idx - 0xF200) / 8)).getD []; l ++ List.replicate (65536 - l.length) 0)
  else []

/-- The entry's value is one that each read finds anew: the die temperature, and a unit in several states at once. -/
def readsFree (idx sub : Nat) : Bool :=
  (idx == 0x7061 && sub == 1) || idx == 0x6200 || idx == 0x7031 || (idx == 0x7430 && decide (11 ≤ sub))

/-- A read of an entry that has passed its checks: the bytes, and the state after it. -/
def State.readEntry (s : State) (who idx sub : Nat) (r : Row) (inBand : Option Nat) : List Byte × State :=
  match r.ty with
  | .dom _ =>
    if r.acc = .wo then ([0], s)
    else if idx = 0x8802 then
      let (l, s1) := s.windowRead who (windowCap inBand)
      ((l.map EvRec.bytes).flatten, s1)
    else (s.domainBytes idx, s)
  | t =>
    let s1 := if readsFree idx sub then { s with free := s.free + 1 } else s
    (t.carry (s.numberOf who (Config.freeValue s.free) idx sub r), s1)

end Sys2Proof.Machine
end

