-- ==== Sys2Proof/Machine/DictWrite.lean ====
section
/-! DEFINITION. The dictionary server's checks and what a write does (R11 to R13, R18, R448, R462, R467 to R469, R474 to R482, and the
entry table of each chapter). -/

namespace Sys2Proof.Machine

/-! ### Checks 3 and 4 of R448 -/

/-- A write of the lock entry that another writer's hold excludes (R468). -/
def State.lockHeldByOther (s : State) (who : Nat) (l : List Byte) : Bool :=
  l.length == 2 && ((leNat l == 1 && s.lock.holder != 0 && s.lock.holder != who) || (leNat l == 0 && s.lock.holder != who))

/-- An active overlay sets the entry (R479). -/
def State.overlaid (s : State) (idx sub : Nat) : Bool :=
  let k := dictKey idx sub
  (s.dict.beneath.any (fun x => x.1 == k)) || (s.overlayValues s.layers.mask).any (fun x => x.1 == k)

/-- A command written while the one before it still runs: a raw command, an apply (R478, R481). -/
def State.entryBusy (s : State) (idx sub : Nat) : Bool :=
  (idx == 0x2410 && sub == 2 && s.raw.state == 1) || (idx == 0x2423 && sub == 1 && s.layers.applyStatus == 1)

/-- A write is refused with 0x08000021: the lock, an overlay above the entry, a command that still runs (R468, R478, R479, R481). -/
def State.lockRefuses (s : State) (who idx sub : Nat) (r : Row) (l : List Byte) : Bool :=
  if idx = 0x2401 ∧ sub = 1 then s.lockHeldByOther who l
  else
    (match r.acc with
      | .rwl => s.lock.holder != who
      | .rw => s.param 0x2401 3 == 1 && s.lock.holder != 0 && s.lock.holder != who
      | _ => false)
    || (r.ovl && s.overlaid idx sub) || s.entryBusy idx sub

/-- The areas of the reduced server: those it reads, and those it writes (R462). -/
def reducedReads (idx : Nat) : Bool :=
  decide (0x1000 ≤ idx ∧ idx < 0x2000) || decide (0x7000 ≤ idx ∧ idx < 0x7400) || decide (0x8000 ≤ idx ∧ idx < 0x8900)
def reducedWrites (idx : Nat) : Bool :=
  (decide (0x1000 ≤ idx ∧ idx < 0x2000) || decide (0x7000 ≤ idx ∧ idx < 0x7400)) && idx != 0x1010 && idx != 0x1011

/-- An entry of the Bench area outside Bench (R450). -/
def State.benchOnly (s : State) (idx : Nat) : Bool := decide (0xF000 ≤ idx) && s.dev.state != .bench

/-- The injection entries that a token opens, and the mode that the write is for (R516). -/
def State.injectionRefuses (s : State) (idx sub : Nat) (l : List Byte) : Bool :=
  let mode := if sub = 5 then leNat l else s.param 0xF100 5
  idx == 0xF100 && decide (4 ≤ sub) && !(s.injectionOpen mode)

/-- A write is refused with 0x08000022: the column Changeable in, the reduced server, Bench, an item not fitted, raw access that is not
enabled, an apply outside its states (R5, R11, R448, R450, R462, R478, R481, R516). -/
def State.stateRefuses (s : State) (idx sub : Nat) (r : Row) (l : List Byte) : Bool :=
  !s.inStates r.chg || s.benchOnly idx || !s.entryFitted idx
    || (!s.fullServer && !(reducedWrites idx && r.acc == .rw))
    || (idx == 0x2410 && s.param 0x2402 1 != 1)
    || (idx == 0x2423 && sub == 1 && (leNat l).testBit 3 && s.dev.state != .bench)
    || s.injectionRefuses idx sub l

/-- A read is refused with 0x08000022 (R450, R462). -/
def State.readRefuses (s : State) (idx : Nat) : Bool := s.benchOnly idx || (!s.fullServer && !reducedReads idx)

/-- The checks of a read, and the read itself. -/
def State.dictRead (s : State) (who idx sub : Nat) (inBand : Option Nat) : Except Nat (List Byte × State) :=
  match existsCheck idx sub with
  | .error e => .error e
  | .ok r => if s.readRefuses idx then .error 0x08000022 else .ok (s.readEntry who idx sub r inBand)

/-! ### Stored layer (R474, R475, R530) -/

/-- The RW entries outside 0xF000 whose value beneath the overlays differs from the base image's: key and value, by rising key. -/
def State.storedSets (s : State) : List (Nat × Nat) :=
  let cur := s.baseVals
  let get := fun (l : List (Nat × Nat)) (k : Nat) => getVal k (dictDefault s.part k) l
  let keys := (cur ++ s.dict.base).foldl (fun acc x => putVal x.1 1 0 acc) []
  let kept := keys.filter (fun x => match findRow (x.1 / 256) (x.1 % 256) with
    | some r => r.acc == .rw && decide (x.1 < 0xF00000) && get cur x.1 != get s.dict.base x.1
    | none => false)
  kept.map (fun x => (x.1, get cur x.1))

/-- A record for each value (R472). -/
def recordFor (x : Nat × Nat) : DictRec :=
  let t := match findRow (x.1 / 256) (x.1 % 256) with | some r => r.ty | none => .u8
  { index := x.1 / 256, sub := x.1 % 256, times := 1, type := t.code, length := t.size, value := x.2 }

/-- What 0x2400.03 reads after a layer has been written is not stated where Boot applied none: its value before, or applied. -/
def State.storedCode (s : State) (free : Nat) : Nat :=
  match s.layers.storedState with
  | 1 => 1
  | 3 => free % 2
  | n => oneOf free [n, 1]

/-- A new stored layer is written to the half that does not hold the present one, its revision one higher (R530). -/
def State.writeStored (s : State) : State :=
  let base := s.dict.base
  let (half, rev) : Fin 2 × Nat := match pickCopy (s.dictImageOk 3 0 base) s.flash.stored with
    | some (i, x) => (otherImage i, (x.revision + 1) % 2 ^ 32)
    | none => (0, 1)
  let recs := s.storedSets.map recordFor
  let img := storedImage rev (partProduct s.part) recs
  let (v, s1) := s.takeFree
  ({ s1 with
    flash := { s1.flash with stored := s1.flash.stored.set half.val (some img) half.isLt },
    layers := { s1.layers with storedState := s.storedCode v } }).send (.flashWrite 0 half.val)

/-- A write of 0x1010.01: refused with 0x08000020 for any other value and for a flash failure, which leaves the layer in place. -/
def State.storeParameters (s : State) (v : Nat) (flashOk : Bool) : Except Nat State :=
  if v = 0x65766173 ∧ flashOk then .ok s.writeStored else .error 0x08000020

/-- A write refused: of the save signature for a flash failure, which raises source 10 (R474, R489). -/
def State.writeRefused (s : State) (idx : Nat) (l : List Byte) (e : Nat) : State :=
  if idx = 0x1010 ∧ leNat l = 0x65766173 ∧ e = 0x08000020 then ({ s with free := s.free + 1 }).raise 10 else s

/-- A write of 0x1011.01 erases both halves. -/
def State.restoreDefaults (s : State) (v : Nat) : Except Nat State :=
  if v = 0x64616F6C then
    .ok (({ s with flash := { s.flash with stored := Vector.replicate 2 none }, layers := { s.layers with storedState := 3 } }).send
      (.flashWrite 0 0) |>.send (.flashWrite 0 1))
  else .error 0x08000020

/-! ### Overlays (R477, R478) -/

/-- A write of the active mask starts an apply: every slot named reads valid, and Boot has read it (R478, R537). -/
def State.startApply (s : State) (v : Nat) : Except Nat State :=
  if (List.finRange 16).all (fun n => !(v.testBit n.val) || (s.layers.overlays[n].loaded && s.layers.overlays[n].state == 1)) then
    .ok { s with layers := { s.layers with prevMask := s.layers.mask, mask := v, applyStatus := 1 } }
  else .error 0x06090030

/-! ### Lock (R468) -/

def State.writeLock (s : State) (who v : Nat) : Except Nat State :=
  .ok { s with lock := { s.lock with holder := if v = 1 then who else 0 } }

/-! ### Raw sector access (R481) -/

/-- The stored ciphertext, tag and address of a raw command. -/
def State.rawAddr (s : State) : Nat := s.param 0x2410 1

/-- The pack of a raw command is in a state that the command allows. -/
def State.rawAllowed (s : State) (v : Nat) : Bool :=
  let p := addrPack s.rawAddr
  let st := s.packState p
  if v = 3 then st = .ready && !s.store.spans.any (fun x => x.configured && x.members.testBit p)
  else st = .loaded || st = .ready || st = .draining || st = .spent

/-- The tag's physical address is the target's; the tag follows the ciphertext (R112, R481). -/
def State.rawTagFits (s : State) : Bool := s.raw.sector.length == 4152 && fieldAt s.raw.sector (4096 + 0x28) 5 == s.rawAddr

/-- A head that cannot carry an access: its arm is out of service, or the head is (R138, R255). -/
def State.headOut (s : State) (p : PackId) (a : ArmId) (h : HeadId) : Bool :=
  let x := s.arm p a
  x.servo.isOut || x.lanes[h].servo.status == .notInService

/-- The arm of a raw access: arm 0 unless it or its head of the surface is out of service (R17, R481). -/
def State.rawArm (s : State) : ArmId :=
  if s.headOut ⟨addrPack s.rawAddr % 32, by omega⟩ 0 ⟨addrSurface s.rawAddr % 16, by omega⟩ then 1 else 0

/-- A raw command ends with a status word. -/
def State.rawEnd (s : State) (status : Nat) : State := { s with raw := { s.raw with status := status, state := 2, command := 0 } }

/-- The status word of a raw access that never starts: its outcome alone (R183). -/
def rawStopped (outcome : Nat) : Nat := ({ addr := 0, outcome := outcome } : SectorEnd).word

/-- What a raw write's completion record tells of its lane, as an outcome (R182, R210): written untorn, torn, or not written (log entry 161). -/
def rawWritten (r : List Byte) (h : Nat) : Nat :=
  if (fieldAt r 8 2).testBit h then 0 else if (fieldAt r 10 2).testBit h then 0x14 else 0x20

/-- What keeps a raw access from its sector, as an outcome (R121, R130, R182): an address outside the media, a write that the band rules
forbid or to a listed sector (R133; its outcome DEDUCED: log entry 126), a head that neither arm can bring to the surface. -/
def State.rawRefusal (s : State) (write : Bool) : Option Nat :=
  let addr := s.rawAddr
  let p : PackId := ⟨addrPack addr % 32, by omega⟩
  let h : HeadId := ⟨addrSurface addr % 16, by omega⟩
  let t := addrTrack addr
  let guard := (s.packs[p].geometry h.val).innerGuard t
  let reach : Bool := match s.trackZone p s.raw.arm h t with
    | some z => decide (addrSector addr < z.2.sectors)
    | none => write && guard
  if ¬ s.packFitted p ∨ ¬ reach ∨ (s.packs[p].geometry h.val).tracks ≤ t then some 0x14
  else if write ∧ (s.bandRefuses p h t (addrSector addr) ∨ s.packs[p].listed h.val t (addrSector addr)) then some 0x13
  else if s.headOut p s.raw.arm h then some 0x22
  else none

/-- The request of a raw command's routine, on one lane: RAW_READ at the depth it names, or RAW_WRITE (R181, R200, R211). -/
def rawRequest (v tag addr : Nat) : List Byte :=
  let h := addrSurface addr % 16
  natBytes 1 (if v = 3 then 9 else 8) ++ natBytes 1 (if v = 2 then 2 else 0) ++ natBytes 2 (2 ^ h) ++ natBytes 4 tag ++ natBytes 8 0
    ++ natBytes 8 (addrSector addr) ++ natBytes 40 0 ++ natBytes (4 * h) 0 ++ natBytes 4 (addrTrack addr) ++ natBytes (60 - 4 * h) 0

/-- A raw command's routine goes to the formatter; the sector of a write is in the lane's buffer before it. -/
def State.rawIssue (s : State) (v : Nat) : State :=
  let addr := s.rawAddr
  let p : PackId := ⟨addrPack addr % 32, by omega⟩
  let h : HeadId := ⟨addrSurface addr % 16, by omega⟩
  match s.rawRefusal (v = 3) with
  | some o => s.rawEnd (rawStopped o)
  | none =>
    let (tag, s1) := s.takeTag
    let s2 := { s1 with raw := { s1.raw with tag := tag } }
    let s3 := if v = 3 then s2.updChan p s.raw.arm h (fun c =>
        { c with wbuf := c.wbuf.filter (fun b => b.addr ≠ addr) ++ [⟨addr, s.raw.sector⟩] }) else s2
    s3.formatterRequest p s.raw.arm (rawRequest v tag addr)

/-- A raw command: refused for the pack's state with 0x08000022, and for the tag's address with 0x06090030. -/
def State.rawCommand (s : State) (v : Nat) : Except Nat State :=
  if ¬ s.rawAllowed v then .error 0x08000022
  else if v = 3 ∧ ¬ s.rawTagFits then .error 0x06090030
  else .ok (({ s with raw := { s.raw with state := 1, command := v, arm := s.rawArm } }).rawIssue v)

/-! ### The write's effect -/

/-- Every idle arm takes note of the number of arms per pack (R480). -/
def State.armsPerPack (s : State) : State := s.kickAll

/-- What follows the store of a parameter at once: per-arm writes, arms per pack, auto-open, a source's reaction, a port's
address, the PFC priorities, the minimum rate. -/
def State.afterWrite (s : State) (idx sub : Nat) : State :=
  if (0x4000 ≤ idx ∧ idx < 0x5000) ∨ (0xF200 ≤ idx ∧ idx < 0xF300) then s.widthDue (dictKey idx sub)
  else if idx = 0x2403 then s.armsPerPack
  else if 0x6500 ≤ idx ∧ idx < 0x6600 then s.refreshDomains
  else if idx = 0x6412 ∧ sub = 5 then
    s.updHost (fun h => { h with conns := h.conns.map (fun c => { c with rate := max s.minRate c.rate, target := max s.minRate c.target }) })
  else if idx = 0x6411 ∧ sub = 5 then s.resumeHost
  else if idx = 0x7001 ∧ sub = 2 then s.tryOpen
  else if 0x8100 ≤ idx ∧ idx < 0x82A0 then s.notePins
  else s

/-- The entries whose write is more than a stored value: the operation that each one names. -/
def State.writeSpecial (s : State) (who idx sub v : Nat) : Option (Except Nat State) :=
  match idx, sub with
  | 0x1003, 0 => some (.ok { s with can := { s.can with history := [] } })
  | 0x1010, 1 => let (f, s1) := s.takeFree; some (s1.storeParameters v (f % 2 = 1))
  | 0x1011, 1 => some (s.restoreDefaults v)
  | 0x2001, 2 => some s.initialiseStore
  | 0x2020, 1 => some (s.selfTestCommand v)
  | 0x2401, 1 => some (s.writeLock who v)
  | 0x2410, 2 => some (s.rawCommand v)
  | 0x2423, 1 => some (s.startApply v)
  | 0x6008, 1 => some (s.reinitCommand v)
  | 0x6009, 1 => some (s.writeDiagnostic v)
  | 0x6100, 1 => some (s.writeEnable v)
  | 0x6100, 4 => some (s.rangeBy v none)
  | 0x7000, 2 => some (s.stateCommand v)
  | 0x7400, 2 => some (s.preferImage v)
  | 0x7401, 2 => some (s.commitSecurity v)
  | 0x7402, 4 => some (s.flashCommand v)
  | 0x7403, 3 => some (s.revokeKey v)
  | 0x7404, 2 => some (s.escrowKey v)
  | 0x8001, 1 => some (s.clearSticky v)
  | 0x8001, 2 => some (s.readmit v)
  | 0x8011, 2 => let (f, s1) := s.takeFree; some (s1.swapNow v (f % 2 = 1))
  | 0x8802, 1 => some (.ok (s.putReader { s.reader who with cursor := some v }))
  | 0x8802, 2 => some (.ok (s.putReader { s.reader who with filter := v }))
  | 0x8803, 1 => some (.ok (s.record { type := 0x60, detail := v }))
  | 0xF100, 6 => some (s.injectionArm v)
  | _, _ =>
    if h : 0x3000 ≤ idx ∧ idx < 0x3200 then
      if idx % 0x40 = 1 ∧ sub = 1 then some (s.spanCommand ⟨(idx - 0x3000) / 0x40, by omega⟩ v) else none
    else if h : 0x4000 ≤ idx ∧ idx < 0x5000 then
      if idx % 0x80 = 0 ∧ sub = 4 then some (s.packCommand ⟨(idx - 0x4000) / 0x80, by omega⟩ v) else none
    else none

/-- A write of bytes that no number stands for: tokens, domains. -/
def State.writeBytes (s : State) (idx sub : Nat) (l : List Byte) : Option (Except Nat State) :=
  match idx, sub with
  | 0x2410, 4 => some (.ok { s with raw := { s.raw with sector := l } })
  | 0x7402, 3 => some (s.flashData l)
  | 0x7404, 3 => some (s.keyImport l)
  | 0x7405, 3 => some (s.unlockToken l)
  | 0xF100, 2 => some (s.injectionToken l)
  | _, _ => none

/-- The effect of a write that has passed checks 1 to 5: check 6, then the operation or the stored value (R12, R448). -/
def State.writeEffect (s : State) (who idx sub : Nat) (r : Row) (l : List Byte) : Except Nat State :=
  match s.writeBytes idx sub l with
  | some x => x
  | none =>
    let v := leNat l
    if ¬ r.ty.bytesOk l ∨ ¬ valueOk s.microOf s.param r idx sub v then .error 0x06090030
    else match s.writeSpecial who idx sub (r.stored v) with
      | some x => x
      | none => .ok ((s.setParam idx sub (r.stored v)).afterWrite idx sub)

/-- A write accepted from the lock's holder starts the lease afresh (R469). -/
def State.renewLease (s : State) (who : Nat) : State :=
  if s.lock.holder = who then { s with lock := { s.lock with since := s.now } } else s

/-- A write by an identity, checked in the order of R448. -/
def State.dictWrite (s : State) (who idx sub : Nat) (l : List Byte) : Except Nat State :=
  match existsCheck idx sub with
  | .error e => .error e
  | .ok r =>
    if r.acc = .ro then .error 0x06010002
    else if s.lockRefuses who idx sub r l then .error 0x08000021
    else if s.stateRefuses idx sub r l then .error 0x08000022
    else if ¬ r.ty.lengthOk l.length then .error 0x06070010
    else (s.writeEffect who idx sub r l).map (fun t => t.renewLease who)

end Sys2Proof.Machine
end

