-- ==== Sys2Proof/Machine/CanCmds.lean ====
section
/-! DEFINITION. The dictionary's own commands: USDO, plain writes, the lock, the stored layer, overlays, raw sector access, NMT, the
heartbeat, EMCY, the mark and the read window, and the release of the hub after a fail-over (R457 to R482, R507, R559, R561). -/

namespace Sys2Proof.Machine

/-! ### USDO (R459, R466) -/

/-- A USDO request of the client is taken: CAN runs, is not listen-only and not Stopped, and the client node is 1 to 127 (R458 to R460). -/
def State.usdoOpen (s : State) (client : Nat) : Bool :=
  s.can.started && !s.can.listenOnly && s.can.nmt != .stopped && decide (1 ≤ client ∧ client ≤ 127)

/-- The answer to a client: an abort code or 0, and the bytes of an upload. -/
def State.answer (s : State) (client abort : Nat) (l : List Byte) : State := s.send (.usdo client abort l)

/-- The session of a client. -/
def Can.session (c : Can) (client : Nat) : Option UsdoSession := c.sessions.find? (fun x => x.client = client)

/-- Ends the session of a client, with any partial download. -/
def State.endSession (s : State) (client : Nat) : State :=
  { s with can := { s.can with sessions := s.can.sessions.filter (fun x => x.client ≠ client) } }

/-- Opens a session, the client's only one. -/
def State.openSession (s : State) (x : UsdoSession) : State :=
  let s1 := s.endSession x.client
  { s1 with can := { s1.can with sessions := s1.can.sessions ++ [x] } }

/-- A write by a USDO client, acknowledged or aborted. -/
def State.serveDownload (s : State) (client idx sub : Nat) (l : List Byte) : State :=
  match s.dictWrite client idx sub l with
  | .ok t => t.answer client 0 []
  | .error e => (s.writeRefused idx l e).answer client e []

/-- A segmented request opens a session unless 16 are open (R459). -/
def State.serveInit (s : State) (q : DictReq) (upload : Bool) : State :=
  let s1 := s.endSession q.who
  if 16 ≤ s1.can.sessions.length then s1.answer q.who 0x05040005 []
  else if upload then
    match s1.dictRead q.who q.idx q.sub none with
    | .error e => s1.answer q.who e []
    | .ok ((l, s2) : List Byte × State) => (s2.openSession ⟨q.who, true, q.idx, q.sub, l⟩).answer q.who 0 []
  else (s1.openSession ⟨q.who, false, q.idx, q.sub, []⟩).answer q.who 0 []

/-- A download segment; the last one stores the value as one write. Without a session for it nothing happens. -/
def State.serveSegment (s : State) (q : DictReq) (last : Bool) : State :=
  match s.can.session q.who with
  | some x =>
    if x.upload then s
    else if last then (s.endSession q.who).serveDownload q.who x.index x.sub (x.data ++ q.data)
    else (s.openSession { x with data := x.data ++ q.data }).answer q.who 0 []
  | none => s

/-- An upload segment of `n` bytes; after the last one the session ends. -/
def State.serveNext (s : State) (client n : Nat) : State :=
  match s.can.session client with
  | some x =>
    if ¬ x.upload then s
    else
      let rest := x.data.drop n
      let s1 := if rest.isEmpty then s.endSession client else s.openSession { x with data := rest }
      s1.answer client 0 (x.data.take n)
  | none => s

/-- The dictionary server serves an access. -/
def State.serve (s : State) (q : DictReq) : State :=
  match q.kind with
  | 0 => match s.dictWrite q.who q.idx q.sub q.data with
    | .ok t => if q.who < 128 then t.answer q.who 0 [] else t
    | .error e =>
      let t := s.writeRefused q.idx q.data e
      if q.who < 128 then t.answer q.who e [] else t
  | 1 => (s.endSession q.who).serveDownload q.who q.idx q.sub q.data
  | 2 =>
    let s1 := s.endSession q.who
    match s1.dictRead q.who q.idx q.sub none with
    | .error e => s1.answer q.who e []
    | .ok ((l, s2) : List Byte × State) => s2.answer q.who 0 l
  | 3 => s.serveInit q false
  | 4 => s.serveSegment q false
  | 5 => s.serveSegment q true
  | 6 => s.serveInit q true
  | _ => s.serveNext q.who q.idx

/-- A request that arrives during a fail-over is held (R466). -/
def State.request (s : State) (q : DictReq) : State :=
  if s.clusters.failOver.isSome then { s with heldAccess := s.heldAccess ++ [q] } else s.serve q

/-- A USDO request; one that CAN does not take is ignored. -/
def State.usdo (s : State) (q : DictReq) : State := if s.usdoOpen q.who then s.request q else s

def execUsdoExpeditedDownload (client idx sub : Nat) (data : List Byte) (s : State) : Res := .next (s.usdo ⟨1, client, idx, sub, data⟩)
def execUsdoExpeditedUpload (client idx sub : Nat) (s : State) : Res := .next (s.usdo ⟨2, client, idx, sub, []⟩)
def execUsdoSegmentedDownloadInit (client idx sub : Nat) (s : State) : Res := .next (s.usdo ⟨3, client, idx, sub, []⟩)
def execUsdoDownloadSegment (client : Nat) (data : List Byte) (last : Bool) (s : State) : Res :=
  .next (s.usdo ⟨if last then 5 else 4, client, 0, 0, data⟩)
def execUsdoSegmentedUploadInit (client idx sub : Nat) (s : State) : Res := .next (s.usdo ⟨6, client, idx, sub, []⟩)
def execUsdoUploadSegment (client size : Nat) (s : State) : Res := .next (s.usdo ⟨7, client, size, 0, []⟩)

/-- A client aborts its session. -/
def execUsdoAbort (client : Nat) (s : State) : Res := .next (if s.usdoOpen client then s.endSession client else s)

/-- A session has waited for its next segment beyond the segment timeout. -/
def execUsdoSegmentTimeout (client : Nat) (s : State) : Res :=
  .next (if (s.can.session client).isSome then (s.endSession client).answer client 0x05040000 [] else s)

/-! ### Writes, lock, stored layer -/

/-- A write of an entry by a writer identity (R448, R467). -/
def execDictionaryWrite (who idx sub : Nat) (data : List Byte) (s : State) : Res := .next (s.request ⟨0, who, idx, sub, data⟩)

def execLockTake (who : Nat) (s : State) : Res := .next (s.request ⟨0, who, 0x2401, 1, [1, 0]⟩)
def execLockFree (who : Nat) (s : State) : Res := .next (s.request ⟨0, who, 0x2401, 1, [0, 0]⟩)

/-- The lease time has passed since the holder's last accepted write (R469). -/
def execLockLeaseExpiry (s : State) : Res :=
  .next (if s.lock.holder = 0 ∨ s.now < s.lock.since + s.param 0x2401 2 * 1000000000 then s else s.freeLock 1)

/-- The save signature is written (R474); `flashOk` is false when the flash write or its read-back fails: the write is refused. -/
def execStoreParameters (flashOk : Bool) (s : State) : Res :=
  .next (
    if s.changeable statesUsual ∧ ¬ flashOk then s.writeRefused 0x1010 (natBytes 4 0x65766173) 0x08000020
    else okOr s (s.inTurn statesUsual (s.storeParameters 0x65766173 flashOk)))

/-- The load signature is written (R475). -/
def execRestoreDefaultParameters (s : State) : Res := .next (okOr s (s.inTurn statesUsual (s.restoreDefaults 0x64616F6C)))

/-- 0 is written to 0x1003.00, by either server (R462, R463). -/
def execErrorHistoryClear (s : State) : Res :=
  .next (if s.inStates 0x1F4 then { s with can := { s.can with history := [] } } else s)

/-! ### Overlay apply (R477) -/

def execOverlayApply (who mask : Nat) (s : State) : Res := .next (s.request ⟨0, who, 0x2423, 1, natBytes 2 mask⟩)

/-- The arm's formatter neither runs nor queues a routine that can open a write gate. -/
def State.armQuiet (s : State) (p : PackId) (a : ArmId) : Bool :=
  let f := (s.arm p a).fmt
  !(f.running && s.routineWrites (reqRoutine f.req)) && (f.queue ++ f.linkHeld).all (fun r => !s.routineWrites (reqRoutine r))

/-- No formatter holds or runs such a routine; a journal write is one command of the store, so none is outstanding between commands. -/
def State.quiet (s : State) : Bool := (List.finRange 32).all (fun p => s.armQuiet p 0 && s.armQuiet p 1)

/-- Step 3 and 4: the values change in one step, and held requests go on. -/
def execOverlayQuietPoint (s : State) : Res :=
  .next (
    if s.layers.applyStatus ≠ 1 ∨ ¬ s.quiet then s
    else
      let s1 := s.applyMask s.layers.mask
      let s2 := { s1 with layers := { s1.layers with applyStatus := 2, applies := sat32 s1.layers.applies 1 } }
      ((s2.record { type := 0x50, code := 5 }).releaseRequests).kickAll)

/-- The quiet-point timeout ends first: the mask returns, and no entry changes. -/
def execOverlayQuietTimeout (s : State) : Res :=
  .next (
    if s.layers.applyStatus ≠ 1 then s
    else ({ s with layers := { s.layers with mask := s.layers.prevMask, applyStatus := 3 } }).releaseRequests)

/-! ### Raw sector access (R17, R481) -/

/-- A raw command runs: the one written before, or one that this command writes. -/
def State.rawBegin (s : State) (v : Nat) : Option State :=
  if s.raw.state = 1 then (if s.raw.command = v then some s else none)
  else if s.changeable 0x1C0 ∧ s.param 0x2402 1 = 1 then
    match s.rawCommand v with
    | .ok t => some t
    | .error _ => none
  else none

/-- A raw command that runs ends with its routine (R481): a read with the status word of its sector, and its ciphertext and tag where the
sector was delivered; a write with what its lane did. -/
def State.rawPoll (s : State) (v : Nat) : State :=
  let p : PackId := ⟨addrPack s.rawAddr % 32, by omega⟩
  let a := s.raw.arm
  if s.raw.state ≠ 1 ∨ s.clusters.failOver.isSome then s
  else match s.recordOf p a s.raw.tag with
    | none => s
    | some r =>
      if v = 3 then s.rawEnd (rawStopped (rawWritten r (addrSurface s.rawAddr % 16)))
      else match (s.arm p a).received.find? (fun d => d.tag = s.raw.tag) with
        | none => s.rawEnd (rawStopped 0x20)
        | some d =>
          let good := goodOutcome (d.status % 256) && decide (4152 ≤ d.data.length)
          (({ s with raw := { s.raw with sector := if good then d.data.take 4152 else s.raw.sector } }).updArm p a (fun x =>
            { x with received := x.received.filter (fun y => y.tag ≠ s.raw.tag) })).rawEnd d.status

/-- A raw command starts, or goes on. -/
def State.rawGo (s : State) (v : Nat) : State :=
  match s.rawBegin v with
  | none => s
  | some t => t.rawPoll v

def execRawReadQuick (s : State) : Res := .next (s.rawGo 1)
def execRawReadFull (s : State) : Res := .next (s.rawGo 2)
def execRawSectorWrite (s : State) : Res := .next (s.rawGo 3)

/-! ### NMT, heartbeat, EMCY (R460, R461) -/

/-- An NMT command reaches a running CAN controller. -/
def State.nmt (s : State) (n : Nmt) : State := if s.can.started then { s with can := { s.can with nmt := n } } else s

def execNmtStartRemoteNode (s : State) : Res := .next (s.nmt .operational)
def execNmtEnterPreOperational (s : State) : Res := .next (s.nmt .preOperational)
def execNmtStopRemoteNode (s : State) : Res := .next (s.nmt .stopped)

/-- Reset communication: the CAN controller starts again. -/
def execNmtResetCommunication (s : State) : Res := .next (if s.can.started then s.startCan else s)

/-- Reset node: a chip reset in Lee and Bench, after everything staged is written (R460, R556). -/
def execNmtResetNode (s : State) : Res :=
  .next (
    if ¬ s.can.started then s
    else if s.dev.state = .lee ∨ s.dev.state = .bench then s.reactReset
    else { s with can := { s.can with nmtIgnored := sat32 s.can.nmtIgnored 1 } })

/-- The producer heartbeat time has passed. -/
def execHeartbeat (s : State) : Res :=
  .next (
    if s.can.started ∧ ¬ s.can.listenOnly ∧ s.dev.state ≠ .off ∧ s.dev.state ≠ .zephyr then s.send (.heartbeat s.can.nodeId s.can.nmt)
    else s)

/-- The inhibit time has passed since the last EMCY message (0x1015, in units of 100 µs). -/
def State.emcyDue (s : State) : Bool :=
  match s.can.emcyAt with
  | some t => decide (t + s.param 0x1015 0 * 100000 ≤ s.now)
  | none => true

/-- The oldest EMCY message leaves. -/
def execEmcyTransmit (s : State) : Res :=
  .next (match s.can.emcyQueue with
    | [] => s
    | m :: l =>
      if ¬ s.can.started ∨ s.can.nmt = .stopped ∨ ¬ s.emcyDue then s
      else ({ s with can := { s.can with emcyQueue := l, emcyAt := some s.now } }).send
        (.emcy m.code m.register (natBytes 2 m.source ++ natBytes 1 m.cls ++ natBytes 1 m.unit ++ natBytes 4 m.opSec)))

/-- The CAN controller goes bus-off: counted, source 412. -/
def execCanBusOff (s : State) : Res :=
  .next (if s.can.started then ({ s with can := { s.can with busOffs := sat32 s.can.busOffs 1 } }).raise 412 else s)

/-! ### Event recorder (R559, R561) -/

/-- The mark entry is written by an identity. -/
def execEventMark (who : Nat) (data : List Byte) (s : State) : Res := .next (s.request ⟨0, who, 0x8803, 1, data⟩)

/-- A USDO client reads the read window. -/
def execEventReadWindow (client : Nat) (s : State) : Res := .next (s.usdo ⟨2, client, 0x8802, 3, []⟩)

/-! ### Release of the hub (R466, R507) -/

/-- The new active cluster releases the hub: what the tiles held goes up, routines that waited begin, descriptors are read on, and the
accesses held are served in order of arrival (R25, R387, R466). -/
def execFailoverHubRelease (s : State) : Res :=
  .next (match s.clusters.failOver with
    | none => s
    | some f =>
      if s.hostStopped then s
      else
        let s0 := ((s.releaseHub f).releaseTiles.releaseRequests).kickAll
        let s1 := (s0.host.rings.map (fun r => r.num)).foldl State.readSlots s0
        s1.heldAccess.foldl State.serve { s1 with heldAccess := [] })

end Sys2Proof.Machine
end

