-- ==== Sys2Proof/Machine/HostAdmin.lean ====
section
/-! DEFINITION. Admin commands on a context: rings created and deleted, aborts, and dictionary accesses in band (R358, R367, R368, R379
to R381, R384, R464). -/

namespace Sys2Proof.Machine

/-! ### Rings -/

/-- The lowest local index that a connection's rings leave free (R358, R368). -/
def State.freeLocal (s : State) (conn : Nat) : Option Nat := (List.range 64).find? (fun i => (s.ringAt? conn i).isNone)

/-- The connection of a ring. -/
def State.ringConn (s : State) (ring : Nat) : Nat := match s.ring? ring with | some r => r.conn | none => 0

/-- The ring that a CREATE_RING's descriptor asks for (R367). -/
def ringOf (l : List Byte) (num conn loc : Nat) : Ring :=
  { num := num, conn := conn, loc := loc, admin := false, cls := fieldAt l 4 1, size := fieldAt l 5 1, limit := fieldAt l 6 2,
    addr := fieldAt l 8 8, key := fieldAt l 0x10 4, headAddr := fieldAt l 0x18 8, headKey := fieldAt l 0x14 4,
    coalesce := fieldAt l 0x20 2, notify := (fieldAt l 0x22 1).testBit 0 }

/-- CREATE_RING: a ring number that is free, at the lowest free local index of the owner; without either, NO_RESOURCES (R358, R368,
R388). The number is the controller's choice (assumption 27). -/
def execCreateRing (q : SeqId) (c : CtxId) (s : State) : Res :=
  .next (s.onCommand q c 0x80 (fun x =>
    let me := s.ringConn x.ring
    let owner := (ownerOf x.chain me).getD me
    let (f, s1) := s.takeFree
    match s.freeLocal owner, pickUnused 4096 f s.ringUsed with
    | some loc, some n =>
      let s2 := (s1.updHost (fun h => { h with rings := h.rings ++ [ringOf x.chain n owner loc] })).commitCmd x.ring x.slot
      s2.endCommand q c 0 loc n
    | _, _ => s.endCommand q c 0x41 0 0))

/-- A framed command of a ring is still in flight (R380). -/
def State.ringBusy (s : State) (n : Nat) : Bool := s.svc.cmds.any (fun c => c.ring = n)

/-- DELETE_RING: the ring stops framing, drops what it has not framed and aborts its uncommitted commands; the command waits for the
rest (R384). -/
def execDeleteRing (q : SeqId) (c : CtxId) (s : State) : Res :=
  .next (s.onCommand q c 0x81 (fun x =>
    let n := fieldAt x.chain 4 2
    let s1 := ((s.updRing n (fun r => { r with state := .deleting })).dropFraming n).abortRing n
    let s2 := (s1.updHost (fun h => { h with deletes := h.deletes ++ [(n, x.ring, x.slot)] })).commitCmd x.ring x.slot
    let (k, s3) := s2.newToken q x.ring x.slot 5 []
    s3.suspendCtx q c k))

/-- The deletes that wait for a ring complete. -/
def State.completeDeletes (s : State) (n : Nat) : State :=
  let l := s.host.deletes.filter (fun x => x.1 = n)
  l.foldl (fun (s : State) x => (s.releaseContext x.2.1 x.2.2).completeWith x.2.1 x.2.2 0 0 0)
    (s.updHost (fun h => { h with deletes := h.deletes.filter (fun x => x.1 ≠ n) }))

/-- No framed command of the ring is in flight: its last head is published, its number is free, and the DELETE_RING completes
(R376, R384). -/
def execDeleteRingDone (ring : Nat) (s : State) : Res :=
  .next (
    if s.ringBusy ring ∨ s.host.deletes.all (fun x => x.1 ≠ ring) ∨ s.clusters.failOver.isSome ∨ s.hostStopped then s
    else
      let s1 := (s.publish ring).updHost (fun h => { h with rings := h.rings.filter (fun r => ¬(r.num = ring ∧ r.state = .deleting)) })
      s1.completeDeletes ring)

/-! ### Abort -/

/-- ABORT registers an abort through ABTSET and completes with its result (R379 to R381). -/
def execAbort (q : SeqId) (c : CtxId) (s : State) : Res :=
  .next (s.onCommand q c 0x82 (fun x =>
    let (v, s1) := s.abtset (fieldAt x.chain 4 2) (fieldAt x.chain 8 4)
    s1.endCommand q c (if v = 0 then 0 else v + 1) 0 0))

/-! ### Dictionary (R464) -/

/-- The writer identity of a connection (R467). -/
def State.bandWriter (s : State) (ring : Nat) : Nat := match s.ring? ring with | some r => 0x100 + r.conn | none => 0

/-- A refused access completes DICT_REFUSED with its abort code. -/
def State.dictRefused (s : State) (q : SeqId) (c : CtxId) (code : Nat) : State := s.endCommand q c 0x42 0 code

/-- DICT_READ writes the value to the host and reports its length; a buffer below the value's length is refused. -/
def execDictRead (q : SeqId) (c : CtxId) (s : State) : Res :=
  .next (s.onCommand q c 0x83 (fun x =>
    let l := x.chain
    let buf := fieldAt l 0x14 4
    match s.dictRead (s.bandWriter x.ring) (fieldAt l 4 2) (fieldAt l 6 1) (some buf) with
    | .error e => s.dictRefused q c e
    | .ok ((v, s1) : List Byte × State) =>
      if buf < v.length then s.dictRefused q c 0x06070010
      else
        let s2 := match s1.ring? x.ring with
          | some r => if v = [] then s1 else s1.sendHost (.write r.conn (fieldAt l 8 8) (fieldAt l 0x10 4) v none)
          | none => s1
        s2.endCommand q c 0 v.length 0))

/-- DICT_WRITE stores the value read from the host, `data`, of the descriptor's length; with another length nothing has come. -/
def execDictWrite (q : SeqId) (c : CtxId) (data : List Byte) (s : State) : Res :=
  .next (s.onCommand q c 0x84 (fun x =>
    let l := x.chain
    if data.length ≠ fieldAt l 0x14 4 then s
    else match s.dictWrite (s.bandWriter x.ring) (fieldAt l 4 2) (fieldAt l 6 1) data with
      | .error e => (s.writeRefused (fieldAt l 4 2) data e).dictRefused q c e
      | .ok t => (t.commitCmd x.ring x.slot).endCommand q c 0 0 0))

end Sys2Proof.Machine
end

