-- ==== Sys2Proof/Machine/Inputs.lean ====
section
/-! DEFINITION. The conditioning of the discrete inputs, their stuck detector, and EPO_N (R496 to R501, R515, R541). -/

namespace Sys2Proof.Machine

/-! ### The inputs by name -/

/-- The class of an input, 1 to 5 (R496). -/
def pinCls : InputPin → Fin 5
  | .wake _ => 0 | .epo => 1 | .psf _ => 2 | .pres _ => 3 | .pg _ => 4

/-- The part has the input (R496). -/
def State.pinFitted (s : State) : InputPin → Bool
  | .psf p => s.packFitted p
  | .pres p => s.packFitted p
  | _ => true

def Inputs.get (x : Inputs) : InputPin → InputSt
  | .wake w => x.wake[w] | .epo => x.epo | .psf p => x.psf[p] | .pres p => x.pres[p] | .pg r => x.pg[r]

def Inputs.set (x : Inputs) (i : InputPin) (v : InputSt) : Inputs :=
  match i with
  | .wake w => { x with wake := x.wake.set w.val v w.isLt }
  | .epo => { x with epo := v }
  | .psf p => { x with psf := x.psf.set p.val v p.isLt }
  | .pres p => { x with pres := x.pres.set p.val v p.isLt }
  | .pg r => { x with pg := x.pg.set r.val v r.isLt }

/-- Changes an input. -/
def State.updPin (s : State) (i : InputPin) (f : InputSt → InputSt) : State :=
  { s with inputs := s.inputs.set i (f (s.inputs.get i)) }

/-! ### EPO_N (R500, R541) -/

/-- The action of the first filtered assertion: arms park, spindles stop, connections end, and Lee follows once the arms are down. -/
def State.epoAssert (s : State) : State :=
  if s.inputs.epoActing then s
  else
    let s1 := { s with inputs := { s.inputs with epoActing := true, epo := { s.inputs.epo with filtered := true } } }
    ((s1.parkAndStop.endAllConns 6).stopBackground).pendLee false 1


/-! ### Conditioning (R498) -/

/-- What an accepted change of an unmasked input does: a wake, a pack seated or removed, a power-good gained or lost. -/
def State.pinEvent (s : State) (i : InputPin) (level : Bool) (chatter : Nat) : State :=
  match i with
  | .wake w => if level then s.wakeEvent w.val chatter 0 else s
  | .epo => s
  | .psf _ => s
  | .pres p => if level then s.presAssert p else s.presDeassert p
  | .pg r => if level then s.pgAccept r else s.supplyLoss r

/-- A change is accepted: the conditioned level, one event with the chatter since the last one, and a window of the length now set (R498, R515). -/
def State.acceptPin (s : State) (i : InputPin) (level : Bool) : State :=
  let x := s.inputs.get i
  let s1 := s.updPin i (fun y =>
    { y with conditioned := level, window := true, chatter := 0, stuck := y.stuck && level, activeAt := s.now,
             windowEnd := s.now + s.param 0x7081 ((pinCls i).val + 1) * 1000 })
  if x.masked then s1 else s1.pinEvent i level x.chatter

/-- EPO_N and PSF_N act on the filtered level, whatever their window and mask (R272, R500). -/
def State.atOnce (s : State) (i : InputPin) (level : Bool) : State :=
  match i with
  | .epo => if level then s.epoAssert else { s with inputs := { s.inputs with epoActing := false } }
  | .psf p => if level then s.powerStage p else s
  | _ => s

/-- A filtered change of level: accepted when no window runs, otherwise chatter. The stuck timeout now set applies from it on (R515). -/
def State.filteredChange (s : State) (i : InputPin) (level : Bool) : State :=
  if ¬ s.dev.aonUp ∨ ¬ s.pinFitted i ∨ (s.inputs.get i).filtered = level then s
  else
    let s1 := (s.updPin i (fun y =>
      { y with filtered := level, changedAt := s.now, stuckMs := s.param 0x7082 ((pinCls i).val + 1) })).atOnce i level
    if (s1.inputs.get i).window then
      let s2 := s1.updPin i (fun y => { y with chatter := sat32 y.chatter 1 })
      { s2 with inputs := { s2.inputs with
          chatterEdges := s2.inputs.chatterEdges.set (pinCls i).val (sat32 s2.inputs.chatterEdges[(pinCls i)] 1) (pinCls i).isLt } }
    else if (s1.inputs.get i).conditioned = level then s1
    else s1.acceptPin i level

/-- EPO_N asserts after its filter. -/
def execEpoNAssert (s : State) : Res := .next (s.filteredChange .epo true)

def execInputFilteredChange (pin : InputPin) (level : Bool) (s : State) : Res := .next (s.filteredChange pin level)

/-- A rate window ends: a filtered level that differs is accepted at once, and opens a new window (R498). -/
def execRateWindowEnd (pin : InputPin) (s : State) : Res :=
  .next (
    if ¬ (s.inputs.get pin).window ∨ s.now < (s.inputs.get pin).windowEnd then s
    else
      let s1 := s.updPin pin (fun y => { y with window := false })
      let x := s1.inputs.get pin
      if x.filtered = x.conditioned then s1 else s1.acceptPin pin x.filtered)

/-! ### Stuck inputs (R499) -/

/-- The bit of a type 0x13 record: as in 0x7085.01, or the pack number (R553). -/
def pinBit : InputPin → Nat
  | .wake w => w.val | .epo => 4 | .psf p => p.val | .pres p => p.val | .pg r => 5 + r.val

/-- The stuck source of an input; none for PACK_PRES and power-good (R489, R499). -/
def pinSource : InputPin → Option Nat
  | .wake w => some (392 + w.val) | .epo => some 396 | .psf p => some (397 + p.val / 8) | _ => none

/-- The conditioned level has been active for longer than the stuck timeout of its class. -/
def execStuckTimeout (pin : InputPin) (s : State) : Res :=
  .next (
    let x := s.inputs.get pin
    let c := pinCls pin
    if ¬ s.pinFitted pin ∨ ¬ x.conditioned ∨ x.stuck ∨ x.masked ∨ x.stuckMs = 0
        ∨ s.now ≤ x.activeAt + x.stuckMs * 1000000 then s
    else
      let s1 := s.updPin pin (fun y => { y with stuck := true, masked := (pinSource pin).isSome })
      let s2 := { s1 with inputs := { s1.inputs with
        stuckEvents := s1.inputs.stuckEvents.set c.val (sat32 s1.inputs.stuckEvents[c] 1) c.isLt } }
      let s3 := match pinSource pin with | some k => s2.raise k | none => s2
      s3.record { type := 0x13, code := c.val + 1, detail := detailAt 0x24 (pinBit pin) })

/-- The filtered level has been inactive for one full rate window: the mask lifts. -/
def execStuckMaskLift (pin : InputPin) (s : State) : Res :=
  .next (
    let x := s.inputs.get pin
    if x.masked ∧ ¬ x.filtered ∧ x.changedAt + s.param 0x7081 ((pinCls pin).val + 1) * 1000 ≤ s.now then s.updPin pin (fun y => { y with masked := false, stuck := false }) else s)

end Sys2Proof.Machine
end

