-- ==== Sys2Proof/Machine/Dispatch.lean ====
section
/-! DEFINITION. One arm for each command: a direct call of its meaning. -/

namespace Sys2Proof.Machine

def exec (i : Instr) (s : State) : Host.Outcome State Fault Refusal :=
  match i with
  | .cD2dKeepaliveSend t byHub => Sys2Proof.Machine.execD2dKeepaliveSend t byHub s
  | .cD2dLinkLostTile t => Sys2Proof.Machine.execD2dLinkLostTile t s
  | .cD2dLinkLostHub t => Sys2Proof.Machine.execD2dLinkLostHub t s
  | .cPerArrayWriteApply p a => Sys2Proof.Machine.execPerArrayWriteApply p a s
  | .cReference100mhzLost => Sys2Proof.Machine.execReference100mhzLost s
  | .cReference156mhzLost => Sys2Proof.Machine.execReference156mhzLost s
  | .cWedgePhaseUpdate p dets => Sys2Proof.Machine.execWedgePhaseUpdate p dets s
  | .cTbCoastLimit p => Sys2Proof.Machine.execTbCoastLimit p s
  | .cTbAcquireTimeout p => Sys2Proof.Machine.execTbAcquireTimeout p s
  | .cSkewMeasurementDone p => Sys2Proof.Machine.execSkewMeasurementDone p s
  | .cSkewRemeasureStart p => Sys2Proof.Machine.execSkewRemeasureStart p s
  | .cArmReload p a => Sys2Proof.Machine.execArmReload p a s
  | .cAngleWaitReached p a => Sys2Proof.Machine.execAngleWaitReached p a s
  | .cPackPresAssert p => Sys2Proof.Machine.execPackPresAssert p s
  | .cPackPresDeassert p => Sys2Proof.Machine.execPackPresDeassert p s
  | .cPackSettleDone p m => Sys2Proof.Machine.execPackSettleDone p m s
  | .cI2cRetry p dev => Sys2Proof.Machine.execI2cRetry p dev s
  | .cLifeRecordWrite p readBack => Sys2Proof.Machine.execLifeRecordWrite p readBack s
  | .cStatusFrame p a frame => Sys2Proof.Machine.execStatusFrame p a frame s
  | .cRegrespFrame p a frame => Sys2Proof.Machine.execRegrespFrame p a frame s
  | .cArmLinkRxTimeout p a => Sys2Proof.Machine.execArmLinkRxTimeout p a s
  | .cCmdEchoTimeout p a => Sys2Proof.Machine.execCmdEchoTimeout p a s
  | .cArmLinkTrainingDone p a => Sys2Proof.Machine.execArmLinkTrainingDone p a s
  | .cArmLinkTrainingTimeout p a => Sys2Proof.Machine.execArmLinkTrainingTimeout p a s
  | .cPackCmdDrain p => Sys2Proof.Machine.execPackCmdDrain p s
  | .cPackCmdCancelDrain p => Sys2Proof.Machine.execPackCmdCancelDrain p s
  | .cPackCmdRetire p => Sys2Proof.Machine.execPackCmdRetire p s
  | .cPackCmdPrepareRemoval p => Sys2Proof.Machine.execPackCmdPrepareRemoval p s
  | .cSpinupRequest p => Sys2Proof.Machine.execSpinupRequest p s
  | .cSpinupTimeout p => Sys2Proof.Machine.execSpinupTimeout p s
  | .cPackSensorPoll p temp helium => Sys2Proof.Machine.execPackSensorPoll p temp helium s
  | .cPackLogWrite p readBack => Sys2Proof.Machine.execPackLogWrite p readBack s
  | .cPackLogRepeatRewrite p => Sys2Proof.Machine.execPackLogRepeatRewrite p s
  | .cZoneTableReadDone p copy0 copy1 lists => Sys2Proof.Machine.execZoneTableReadDone p copy0 copy1 lists s
  | .cServoProtectStart p a h => Sys2Proof.Machine.execServoProtectStart p a h s
  | .cServoWindowOpen p a h => Sys2Proof.Machine.execServoWindowOpen p a h s
  | .cReadGateOpen p a h => Sys2Proof.Machine.execReadGateOpen p a h s
  | .cReadGateClose p a h cells => Sys2Proof.Machine.execReadGateClose p a h cells s
  | .cWriteGateOpen p a h => Sys2Proof.Machine.execWriteGateOpen p a h s
  | .cWriteGateClose p a h => Sys2Proof.Machine.execWriteGateClose p a h s
  | .cSyncWindowDecision p a h bits => Sys2Proof.Machine.execSyncWindowDecision p a h bits s
  | .cWriteBufferDeadline p a h data => Sys2Proof.Machine.execWriteBufferDeadline p a h data s
  | .cLaneActivate p a h => Sys2Proof.Machine.execLaneActivate p a h s
  | .cLaneGatingDelayExpiry p a h => Sys2Proof.Machine.execLaneGatingDelayExpiry p a h s
  | .cSectorDelivery p a h => Sys2Proof.Machine.execSectorDelivery p a h s
  | .cFirstDecodeDone p a h result snr => Sys2Proof.Machine.execFirstDecodeDone p a h result snr s
  | .cStoredRecoveryDone p a h found => Sys2Proof.Machine.execStoredRecoveryDone p a h found s
  | .cLadderReadDone p a h addr v => Sys2Proof.Machine.execLadderReadDone p a h addr v s
  | .cNop e => Sys2Proof.Machine.execNop e s
  | .cAdd e => Sys2Proof.Machine.execAdd e s
  | .cSub e => Sys2Proof.Machine.execSub e s
  | .cAnd e => Sys2Proof.Machine.execAnd e s
  | .cOr e => Sys2Proof.Machine.execOr e s
  | .cXor e => Sys2Proof.Machine.execXor e s
  | .cShl e => Sys2Proof.Machine.execShl e s
  | .cShr e => Sys2Proof.Machine.execShr e s
  | .cCmp e => Sys2Proof.Machine.execCmp e s
  | .cMovi e => Sys2Proof.Machine.execMovi e s
  | .cMin e => Sys2Proof.Machine.execMin e s
  | .cMax e => Sys2Proof.Machine.execMax e s
  | .cAdda e => Sys2Proof.Machine.execAdda e s
  | .cAcmp e => Sys2Proof.Machine.execAcmp e s
  | .cLd e => Sys2Proof.Machine.execLd e s
  | .cSt e => Sys2Proof.Machine.execSt e s
  | .cLdl e => Sys2Proof.Machine.execLdl e s
  | .cStl e => Sys2Proof.Machine.execStl e s
  | .cJmp e => Sys2Proof.Machine.execJmp e s
  | .cCall e => Sys2Proof.Machine.execCall e s
  | .cRet e => Sys2Proof.Machine.execRet e s
  | .cJmpr e => Sys2Proof.Machine.execJmpr e s
  | .cEnd e => Sys2Proof.Machine.execEnd e s
  | .cDisp e => Sys2Proof.Machine.execDisp e s
  | .cWaita e => Sys2Proof.Machine.execWaita e s
  | .cWaitr e => Sys2Proof.Machine.execWaitr e s
  | .cWaite e => Sys2Proof.Machine.execWaite e s
  | .cWaiteConditionMet e => Sys2Proof.Machine.execWaiteConditionMet e s
  | .cWaiteTimeout e => Sys2Proof.Machine.execWaiteTimeout e s
  | .cMemoryLoadComplete q c x e => Sys2Proof.Machine.execMemoryLoadComplete q c x e s
  | .cSuspend e => Sys2Proof.Machine.execSuspend e s
  | .cContextBlockAvailable q c => Sys2Proof.Machine.execContextBlockAvailable q c s
  | .cContextResume ring slot => Sys2Proof.Machine.execContextResume ring slot s
  | .cCommit e => Sys2Proof.Machine.execCommit e s
  | .cAbtset e => Sys2Proof.Machine.execAbtset e s
  | .cSeek e same => Sys2Proof.Machine.execSeek e same s
  | .cXfer e => Sys2Proof.Machine.execXfer e s
  | .cLadder e => Sys2Proof.Machine.execLadder e s
  | .cLink e => Sys2Proof.Machine.execLink e s
  | .cNow e => Sys2Proof.Machine.execNow e s
  | .cGrp e => Sys2Proof.Machine.execGrp e s
  | .cEng e => Sys2Proof.Machine.execEng e s
  | .cTokenComplete id error x reads => Sys2Proof.Machine.execTokenComplete id error x reads s
  | .cFormatterRequest p a req => Sys2Proof.Machine.execFormatterRequest p a req s
  | .cRoutineRestart p a => Sys2Proof.Machine.execRoutineRestart p a s
  | .cFormatterCancel p a => Sys2Proof.Machine.execFormatterCancel p a s
  | .cSafePointOverrun q c => Sys2Proof.Machine.execSafePointOverrun q c s
  | .cControlStoreScrub e word => Sys2Proof.Machine.execControlStoreScrub e word s
  | .cLockedStoreWrite e word value => Sys2Proof.Machine.execLockedStoreWrite e word value s
  | .cChainStart => Sys2Proof.Machine.execChainStart s
  | .cServoDemodResult p a h d same => Sys2Proof.Machine.execServoDemodResult p a h d same s
  | .cHeadLost p a h same => Sys2Proof.Machine.execHeadLost p a h same s
  | .cHeadReturn p a h => Sys2Proof.Machine.execHeadReturn p a h s
  | .cBackEmfVelocityLoop p a same => Sys2Proof.Machine.execBackEmfVelocityLoop p a same s
  | .cServoStateCrcCompare p a crc1 => Sys2Proof.Machine.execServoStateCrcCompare p a crc1 s
  | .cLoadTimeEnd p a => Sys2Proof.Machine.execLoadTimeEnd p a s
  | .cSearchTimeout p a same => Sys2Proof.Machine.execSearchTimeout p a same s
  | .cSettleTimeout p a same => Sys2Proof.Machine.execSettleTimeout p a same s
  | .cArmPark p a same => Sys2Proof.Machine.execArmPark p a same s
  | .cParkTimeout p a same => Sys2Proof.Machine.execParkTimeout p a same s
  | .cUnloadTimeEnd p a => Sys2Proof.Machine.execUnloadTimeEnd p a s
  | .cGaleRetract p a out miscompare => Sys2Proof.Machine.execGaleRetract p a out miscompare s
  | .cGaleTimeEnd p a => Sys2Proof.Machine.execGaleTimeEnd p a s
  | .cVcmCurrentLoop p a current => Sys2Proof.Machine.execVcmCurrentLoop p a current s
  | .cVcmSetpointWatchdog p a => Sys2Proof.Machine.execVcmSetpointWatchdog p a s
  | .cTilePllUnlock t => Sys2Proof.Machine.execTilePllUnlock t s
  | .cPowerStageFault p => Sys2Proof.Machine.execPowerStageFault p s
  | .cSpindleCurrentLoop p shunt observer angle moved => Sys2Proof.Machine.execSpindleCurrentLoop p shunt observer angle moved s
  | .cSpindleSpeedLoop p observer backward => Sys2Proof.Machine.execSpindleSpeedLoop p observer backward s
  | .cSpeedInWindow p => Sys2Proof.Machine.execSpeedInWindow p s
  | .cSpindleOverspeed p => Sys2Proof.Machine.execSpindleOverspeed p s
  | .cSpindleSpeedDeviation p => Sys2Proof.Machine.execSpindleSpeedDeviation p s
  | .cWatchEnd p speed backward amplitude angle => Sys2Proof.Machine.execWatchEnd p speed backward amplitude angle s
  | .cAlignEnd p => Sys2Proof.Machine.execAlignEnd p s
  | .cForcedHandover p => Sys2Proof.Machine.execForcedHandover p s
  | .cStartAttemptFailed p => Sys2Proof.Machine.execStartAttemptFailed p s
  | .cControlledStopBegin p => Sys2Proof.Machine.execControlledStopBegin p s
  | .cMotorBusSample x code feedback => Sys2Proof.Machine.execMotorBusSample x code feedback s
  | .cChopperFeedbackTimeout x => Sys2Proof.Machine.execChopperFeedbackTimeout x s
  | .cChopperFault x => Sys2Proof.Machine.execChopperFault x s
  | .cBusFreewheel x => Sys2Proof.Machine.execBusFreewheel x s
  | .cBusFreewheelRelease x => Sys2Proof.Machine.execBusFreewheelRelease x s
  | .cBusUndervoltage x => Sys2Proof.Machine.execBusUndervoltage x s
  | .cBusUndervoltageEnd x => Sys2Proof.Machine.execBusUndervoltageEnd x s
  | .cPut q c data => Sys2Proof.Machine.execPut q c data s
  | .cGet q c => Sys2Proof.Machine.execGet q c s
  | .cPatch q c data => Sys2Proof.Machine.execPatch q c data s
  | .cDelete q c => Sys2Proof.Machine.execDelete q c s
  | .cList q c => Sys2Proof.Machine.execList q c s
  | .cNopCommand q c => Sys2Proof.Machine.execNopCommand q c s
  | .cKeyLockGrant hash => Sys2Proof.Machine.execKeyLockGrant hash s
  | .cPetitFourDurableSeal x => Sys2Proof.Machine.execPetitFourDurableSeal x s
  | .cPetitFourLazySeal x => Sys2Proof.Machine.execPetitFourLazySeal x s
  | .cStripePlacementRetry x addr => Sys2Proof.Machine.execStripePlacementRetry x addr s
  | .cLeafWriteDone p a tag => Sys2Proof.Machine.execLeafWriteDone p a tag s
  | .cJournalSectorCommit untorn => Sys2Proof.Machine.execJournalSectorCommit untorn s
  | .cJournalLagExpiry => Sys2Proof.Machine.execJournalLagExpiry s
  | .cCheckpointSegmentWrite => Sys2Proof.Machine.execCheckpointSegmentWrite s
  | .cJournalPackReplace p => Sys2Proof.Machine.execJournalPackReplace p s
  | .cBackgroundWindow p a => Sys2Proof.Machine.execBackgroundWindow p a s
  | .cRebuildDelayExpiry p => Sys2Proof.Machine.execRebuildDelayExpiry p s
  | .cRebuildStripe x addr => Sys2Proof.Machine.execRebuildStripe x addr s
  | .cDrainLeaf x addr leaf => Sys2Proof.Machine.execDrainLeaf x addr leaf s
  | .cCompactionBand p b merge => Sys2Proof.Machine.execCompactionBand p b merge s
  | .cScrubLeaf x addr leaf => Sys2Proof.Machine.execScrubLeaf x addr leaf s
  | .cSelfTestShort => Sys2Proof.Machine.execSelfTestShort s
  | .cSelfTestExtended => Sys2Proof.Machine.execSelfTestExtended s
  | .cSelfTestStop => Sys2Proof.Machine.execSelfTestStop s
  | .cSelfTestShareEnd p => Sys2Proof.Machine.execSelfTestShareEnd p s
  | .cStoreInitialise => Sys2Proof.Machine.execStoreInitialise s
  | .cSpanAddPack x => Sys2Proof.Machine.execSpanAddPack x s
  | .cSpanStartRebuild x => Sys2Proof.Machine.execSpanStartRebuild x s
  | .cSpanDrainPack x => Sys2Proof.Machine.execSpanDrainPack x s
  | .cCmReq r => Sys2Proof.Machine.execCmReq r s
  | .cCmRtu conn => Sys2Proof.Machine.execCmRtu conn s
  | .cCmDreq conn => Sys2Proof.Machine.execCmDreq conn s
  | .cCmDrep _conn => Sys2Proof.Machine.execCmDrep _conn s
  | .cInvalidRequest conn => Sys2Proof.Machine.execInvalidRequest conn s
  | .cDoorbell conn key offset data => Sys2Proof.Machine.execDoorbell conn key offset data s
  | .cChainFrame ring => Sys2Proof.Machine.execChainFrame ring s
  | .cDescriptorReadResponse ring data => Sys2Proof.Machine.execDescriptorReadResponse ring data s
  | .cHeadPublish ring => Sys2Proof.Machine.execHeadPublish ring s
  | .cRnrNak ring => Sys2Proof.Machine.execRnrNak ring s
  | .cAckTimeout conn made => Sys2Proof.Machine.execAckTimeout conn made s
  | .cCeMarkedPacket conn => Sys2Proof.Machine.execCeMarkedPacket conn s
  | .cCnpReceived conn => Sys2Proof.Machine.execCnpReceived conn s
  | .cDcqcnRateIncreaseTimer conn => Sys2Proof.Machine.execDcqcnRateIncreaseTimer conn s
  | .cDcqcnByteCounter conn => Sys2Proof.Machine.execDcqcnByteCounter conn s
  | .cPfcFrame q sub prio pause => Sys2Proof.Machine.execPfcFrame q sub prio pause s
  | .cPauseFrame => Sys2Proof.Machine.execPauseFrame s
  | .cPortLinkTraining q up => Sys2Proof.Machine.execPortLinkTraining q up s
  | .cCreateRing q c => Sys2Proof.Machine.execCreateRing q c s
  | .cDeleteRing q c => Sys2Proof.Machine.execDeleteRing q c s
  | .cDeleteRingDone ring => Sys2Proof.Machine.execDeleteRingDone ring s
  | .cAbort q c => Sys2Proof.Machine.execAbort q c s
  | .cDictRead q c => Sys2Proof.Machine.execDictRead q c s
  | .cDictWrite q c data => Sys2Proof.Machine.execDictWrite q c data s
  | .cBufferRead r own addr len x e => Sys2Proof.Machine.execBufferRead r own addr len x e s
  | .cBufferWrite r own addr data x e => Sys2Proof.Machine.execBufferWrite r own addr data x e s
  | .cCoreNarrowWrite c own addr data x e => Sys2Proof.Machine.execCoreNarrowWrite c own addr data x e s
  | .cBufferFillDone => Sys2Proof.Machine.execBufferFillDone s
  | .cChannelReinit c => Sys2Proof.Machine.execChannelReinit c s
  | .cChannelReinitDone c => Sys2Proof.Machine.execChannelReinitDone c s
  | .cBufferScrub g x => Sys2Proof.Machine.execBufferScrub g x s
  | .cRangeClean own => Sys2Proof.Machine.execRangeClean own s
  | .cRangeInvalidate own => Sys2Proof.Machine.execRangeInvalidate own s
  | .cRangeCleanInvalidate own => Sys2Proof.Machine.execRangeCleanInvalidate own s
  | .cRangeFill own => Sys2Proof.Machine.execRangeFill own s
  | .cRangeOpDone => Sys2Proof.Machine.execRangeOpDone s
  | .cCacheDisable => Sys2Proof.Machine.execCacheDisable s
  | .cCacheEnable => Sys2Proof.Machine.execCacheEnable s
  | .cDiagnosticModeSet v => Sys2Proof.Machine.execDiagnosticModeSet v s
  | .cMoverDescriptorSubmit desc => Sys2Proof.Machine.execMoverDescriptorSubmit desc s
  | .cMoverDescriptorStart c x host => Sys2Proof.Machine.execMoverDescriptorStart c x host s
  | .cMoverRateWindow c host => Sys2Proof.Machine.execMoverRateWindow c host s
  | .cMoverDescriptorComplete c => Sys2Proof.Machine.execMoverDescriptorComplete c s
  | .cUsdoExpeditedDownload client idx sub data => Sys2Proof.Machine.execUsdoExpeditedDownload client idx sub data s
  | .cUsdoExpeditedUpload client idx sub => Sys2Proof.Machine.execUsdoExpeditedUpload client idx sub s
  | .cUsdoSegmentedDownloadInit client idx sub => Sys2Proof.Machine.execUsdoSegmentedDownloadInit client idx sub s
  | .cUsdoDownloadSegment client data last => Sys2Proof.Machine.execUsdoDownloadSegment client data last s
  | .cUsdoSegmentedUploadInit client idx sub => Sys2Proof.Machine.execUsdoSegmentedUploadInit client idx sub s
  | .cUsdoUploadSegment client size => Sys2Proof.Machine.execUsdoUploadSegment client size s
  | .cUsdoAbort client => Sys2Proof.Machine.execUsdoAbort client s
  | .cUsdoSegmentTimeout client => Sys2Proof.Machine.execUsdoSegmentTimeout client s
  | .cDictionaryWrite who idx sub data => Sys2Proof.Machine.execDictionaryWrite who idx sub data s
  | .cLockTake who => Sys2Proof.Machine.execLockTake who s
  | .cLockFree who => Sys2Proof.Machine.execLockFree who s
  | .cLockLeaseExpiry => Sys2Proof.Machine.execLockLeaseExpiry s
  | .cStoreParameters flashOk => Sys2Proof.Machine.execStoreParameters flashOk s
  | .cRestoreDefaultParameters => Sys2Proof.Machine.execRestoreDefaultParameters s
  | .cErrorHistoryClear => Sys2Proof.Machine.execErrorHistoryClear s
  | .cOverlayApply who mask => Sys2Proof.Machine.execOverlayApply who mask s
  | .cOverlayQuietPoint => Sys2Proof.Machine.execOverlayQuietPoint s
  | .cOverlayQuietTimeout => Sys2Proof.Machine.execOverlayQuietTimeout s
  | .cRawReadQuick => Sys2Proof.Machine.execRawReadQuick s
  | .cRawReadFull => Sys2Proof.Machine.execRawReadFull s
  | .cRawSectorWrite => Sys2Proof.Machine.execRawSectorWrite s
  | .cNmtStartRemoteNode => Sys2Proof.Machine.execNmtStartRemoteNode s
  | .cNmtEnterPreOperational => Sys2Proof.Machine.execNmtEnterPreOperational s
  | .cNmtStopRemoteNode => Sys2Proof.Machine.execNmtStopRemoteNode s
  | .cNmtResetCommunication => Sys2Proof.Machine.execNmtResetCommunication s
  | .cNmtResetNode => Sys2Proof.Machine.execNmtResetNode s
  | .cHeartbeat => Sys2Proof.Machine.execHeartbeat s
  | .cEmcyTransmit => Sys2Proof.Machine.execEmcyTransmit s
  | .cCanBusOff => Sys2Proof.Machine.execCanBusOff s
  | .cFaultOccurrence source => Sys2Proof.Machine.execFaultOccurrence source s
  | .cChipResetReaction => Sys2Proof.Machine.execChipResetReaction s
  | .cClearSticky source => Sys2Proof.Machine.execClearSticky source s
  | .cReadmitCluster c => Sys2Proof.Machine.execReadmitCluster c s
  | .cInputFilteredChange pin level => Sys2Proof.Machine.execInputFilteredChange pin level s
  | .cRateWindowEnd pin => Sys2Proof.Machine.execRateWindowEnd pin s
  | .cStuckTimeout pin => Sys2Proof.Machine.execStuckTimeout pin s
  | .cStuckMaskLift pin => Sys2Proof.Machine.execStuckMaskLift pin s
  | .cEpoNAssert => Sys2Proof.Machine.execEpoNAssert s
  | .cArbiterCheck v => Sys2Proof.Machine.execArbiterCheck v s
  | .cFailoverHubRelease => Sys2Proof.Machine.execFailoverHubRelease s
  | .cClusterSelfTestDone c pass => Sys2Proof.Machine.execClusterSelfTestDone c pass s
  | .cClusterSyncDone c => Sys2Proof.Machine.execClusterSyncDone c s
  | .cMirrorAck n => Sys2Proof.Machine.execMirrorAck n s
  | .cRoleSwap pass => Sys2Proof.Machine.execRoleSwap pass s
  | .cRoleSwapNow pass => Sys2Proof.Machine.execRoleSwapNow pass s
  | .cArbiterLockstepMismatch => Sys2Proof.Machine.execArbiterLockstepMismatch s
  | .cArbiterWatchdogExpiry => Sys2Proof.Machine.execArbiterWatchdogExpiry s
  | .cInjectionTokenWrite token => Sys2Proof.Machine.execInjectionTokenWrite token s
  | .cInjectionArm arm => Sys2Proof.Machine.execInjectionArm arm s
  | .cInjectionPeriodic => Sys2Proof.Machine.execInjectionPeriodic s
  | .cTapUnlockToken token => Sys2Proof.Machine.execTapUnlockToken token s
  | .cVddAonApply flash resetN crystal => Sys2Proof.Machine.execVddAonApply flash resetN crystal s
  | .cVddAonRemoved => Sys2Proof.Machine.execVddAonRemoved s
  | .cResetNAssert => Sys2Proof.Machine.execResetNAssert s
  | .cBootStart factory nodeId fusesOk => Sys2Proof.Machine.execBootStart factory nodeId fusesOk s
  | .cRailPgAccept r => Sys2Proof.Machine.execRailPgAccept r s
  | .cRailEnDelay r => Sys2Proof.Machine.execRailEnDelay r s
  | .cRailPgTimeout r => Sys2Proof.Machine.execRailPgTimeout r s
  | .cStartRetry => Sys2Proof.Machine.execStartRetry s
  | .cBootEnd r => Sys2Proof.Machine.execBootEnd r s
  | .cLossOfSupply r => Sys2Proof.Machine.execLossOfSupply r s
  | .cLossOfSupplyRailOff => Sys2Proof.Machine.execLossOfSupplyRailOff s
  | .cPmbusPoll samples => Sys2Proof.Machine.execPmbusPoll samples s
  | .cDomainSwitchOn d => Sys2Proof.Machine.execDomainSwitchOn d s
  | .cEngineSliceIdle d => Sys2Proof.Machine.execEngineSliceIdle d s
  | .cStateCmdOpen => Sys2Proof.Machine.execStateCmdOpen s
  | .cStateCmdQuiesce => Sys2Proof.Machine.execStateCmdQuiesce s
  | .cStateCmdLee => Sys2Proof.Machine.execStateCmdLee s
  | .cStateCmdStart => Sys2Proof.Machine.execStateCmdStart s
  | .cStateCmdPowerDown => Sys2Proof.Machine.execStateCmdPowerDown s
  | .cStateCmdZephyr => Sys2Proof.Machine.execStateCmdZephyr s
  | .cStateCmdAssemble => Sys2Proof.Machine.execStateCmdAssemble s
  | .cSelftestDone r => Sys2Proof.Machine.execSelftestDone r s
  | .cOrderlyCloseStepDone => Sys2Proof.Machine.execOrderlyCloseStepDone s
  | .cShutdownTimeout => Sys2Proof.Machine.execShutdownTimeout s
  | .cLeeEntryArmsUnloaded => Sys2Proof.Machine.execLeeEntryArmsUnloaded s
  | .cReducedFormRailOff => Sys2Proof.Machine.execReducedFormRailOff s
  | .cZephyrDelayExpiry => Sys2Proof.Machine.execZephyrDelayExpiry s
  | .cZephyrEntryDone energy => Sys2Proof.Machine.execZephyrEntryDone energy s
  | .cZephyrTick x => Sys2Proof.Machine.execZephyrTick x s
  | .cWakeEvent bit chatter => Sys2Proof.Machine.execWakeEvent bit chatter s
  | .cSecurityVersionCommit version => Sys2Proof.Machine.execSecurityVersionCommit version s
  | .cFlashDataWrite data => Sys2Proof.Machine.execFlashDataWrite data s
  | .cFlashErase => Sys2Proof.Machine.execFlashErase s
  | .cFlashVerify => Sys2Proof.Machine.execFlashVerify s
  | .cBootSelectorWrite image => Sys2Proof.Machine.execBootSelectorWrite image s
  | .cKeyIndexRevoke index => Sys2Proof.Machine.execKeyIndexRevoke index s
  | .cEscrowKeyWrite key => Sys2Proof.Machine.execEscrowKeyWrite key s
  | .cStoreKeyImport block => Sys2Proof.Machine.execStoreKeyImport block s
  | .cCounterSave flashOk => Sys2Proof.Machine.execCounterSave flashOk s
  | .cStagingFlush flashOk => Sys2Proof.Machine.execStagingFlush flashOk s
  | .cStagingHoldExpiry flashOk => Sys2Proof.Machine.execStagingHoldExpiry flashOk s
  | .cEventMark who data => Sys2Proof.Machine.execEventMark who data s
  | .cEventReadWindow client => Sys2Proof.Machine.execEventReadWindow client s
  | .cNakReceived conn => Sys2Proof.Machine.execNakReceived conn s
  | .cReferenceMeasurementEnd ok100 ok156 => Sys2Proof.Machine.execReferenceMeasurementEnd ok100 ok156 s
  | .cPllLockTimeout => Sys2Proof.Machine.execPllLockTimeout s
  | .cChipResetParkWaitEnd => Sys2Proof.Machine.execChipResetParkWaitEnd s
  | .cFlashOperationDone ok content => Sys2Proof.Machine.execFlashOperationDone ok content s
  | .cPortLinkDown q sub => Sys2Proof.Machine.execPortLinkDown q sub s
  | .cGddr7Refresh c hot fastest => Sys2Proof.Machine.execGddr7Refresh c hot fastest s
  | .cOperatingSecondsTick => Sys2Proof.Machine.execOperatingSecondsTick s

end Sys2Proof.Machine
end

