-- ==== Sys2Proof/Safety.lean ====
section
/-! DEFINITION. What a sound state is, and the words in which claims speak of a command's outcome and of a micro-operation's issue. -/

namespace Sys2Proof.Machine

/-- What every run keeps: buffer memory lists rising granules and none equal to an unlisted one (R397, R402), and the dictionary store lists
rising keys and no default (R446). -/
structure State.Inv (s : State) : Prop where
  memory : Memory.wf s = true
  dictionary : storeWf (dictDefault s.part) s.dict.vals = true

/-- A command answers a next state of which `q` holds. -/
def Answers (c : Instr) (s : State) (q : State → Prop) : Prop := ∃ t, exec c s = .next t ∧ q t

/-- The engine fetches a legal microword of the micro-operation: no word error, and no hold or abort at a safe point (R198, R215, R216, R222). -/
structure State.Fetches (s : State) (e : Eng) (opc : Nat) : Prop where
  ready : s.ready e = true
  here : (s.wordOf e).opc = opc
  clean : (s.ctlStore e).marks = []
  legal : wordLegal (engService e) (s.ctlStore e).words.length (s.wordOf e) = true
  goes : ∀ q c, e = .service q c → ((s.wordOf e).isSafe || (s.ctx q c).forcedSafe) = true → s.safeCheck q c = .go

/-- The engine issues the microword: its predicate holds too (R197). -/
structure State.Issues (s : State) (e : Eng) (opc : Nat) : Prop extends State.Fetches s e opc where
  holds : s.holds e (s.wordOf e) = true

/-- A command of opcode `op` runs on its context (R24, R212, R217): a cluster is Active, nothing holds it, it has not committed and no abort is registered. -/
structure State.Runs (s : State) (q : SeqId) (c : CtxId) (op : Nat) : Prop where
  busy : (s.ctx q c).busy = true
  chain : (s.ctx q c).chain ≠ []
  idle : (s.ctx q c).wait = .none
  free : (s.ctx q c).held = false
  opcode : fieldAt (s.ctx q c).chain 0 1 = op
  sound : s.svc.seqs[q].fault = false
  active : s.clusters.active ≠ none
  served : s.hostStopped = false
  fresh : ∀ y, s.svc.cmd (s.ctx q c).ring (s.ctx q c).slot = some y → y.committed = false ∧ y.aborted = false

/-- A GET that has looked its version up goes on with it (R323, R324): its context may run, its command has committed, and it holds `g`. -/
structure State.GoesOn (s : State) (q : SeqId) (c : CtxId) (g : HeldGet) : Prop where
  busy : (s.ctx q c).busy = true
  chain : (s.ctx q c).chain ≠ []
  idle : (s.ctx q c).wait = .none
  free : (s.ctx q c).held = false
  opcode : fieldAt (s.ctx q c).chain 0 1 = 2
  sound : s.svc.seqs[q].fault = false
  active : s.clusters.active ≠ none
  served : s.hostStopped = false
  committed : ∀ y, s.svc.cmd (s.ctx q c).ring (s.ctx q c).slot = some y → y.committed = true
  held : s.store.gets.any (fun g => g.ring = (s.ctx q c).ring ∧ g.slot = (s.ctx q c).slot) = true
  version : s.pollJobs.store.gets.find? (fun g => g.ring = (s.ctx q c).ring ∧ g.slot = (s.ctx q c).slot) = some g

/-- The state in which the issued word acts: a service context has counted it (R215). -/
def State.issued (s : State) (e : Eng) : State :=
  s.countIssue e ((s.wordOf e).isSafe || (match e with | .service q c => (s.ctx q c).forcedSafe | .formatter _ _ => false))

/-- The registers that the issued word reads. -/
def State.regs (s : State) (e : Eng) : Regs := (s.thread e).regs

/-- The engine goes on to the next word with these registers. -/
def State.retires (s : State) (e : Eng) (r : Regs) : State :=
  (s.issued e).setThread e { s.thread e with regs := r, pc := (s.thread e).pc + 1 }

/-- Registers with a result in RD, where a write to G0 is ignored (R194), and the flags named. -/
def Regs.result (r : Regs) (w : Word) (v : Reg64) (z n c later : Bool) : Regs :=
  { r with g := if w.rd = 0 then r.g else r.g.set w.rd.val v w.rd.isLt, z := z, n := n, c := c, later := later }

end Sys2Proof.Machine
end

