-- ==== Sys2Proof/Certificates/Slice0/Obligations.lean ====
section
/-! DEFINITION. Statements for the provers. Each definition's docstring names the rules of the spec that it rests on; the
statements about a value that the model chose name the log entry. -/

open Sys2Proof Sys2Proof.Machine

/-- The queue and the step are the model's frame (assumption 1): no rule is cited for them. -/
def Obligations.StepRunsFrontCommand : Prop :=
  (∀ (c : Instr) (rest : List Instr) (s : State), s.pending = c :: rest → step s = exec c { s with pending := rest })
  ∧ (∀ s : State, s.pending = [] →
    step s = .next { s with
      now := s.now + 1,
      packs := s.packs.map (fun k =>
        { k with tb := k.tb.turn, arms := k.arms.map (fun x => { x with servo := x.servo.galeTick }) }) })

/-- R32, over the fields REV, WEDGE and PHASE of R31. -/
def Obligations.AngleTimeCarries : Prop :=
  (∀ x : AngleTime,
    let rev := fun y : AngleTime => y.toNat / 2 ^ 28
    let wedge := fun y : AngleTime => y.toNat / 2 ^ 19 % 512
    let phase := fun y : AngleTime => y.toNat % 2 ^ 19
    (phase x < 524287 → phase (x + 1) = phase x + 1 ∧ wedge (x + 1) = wedge x ∧ rev (x + 1) = rev x)
    ∧ (phase x = 524287 → phase (x + 1) = 0)
    ∧ (phase x = 524287 → wedge x < 511 → wedge (x + 1) = wedge x + 1 ∧ rev (x + 1) = rev x)
    ∧ (phase x = 524287 → wedge x = 511 → wedge (x + 1) = 0)
    ∧ (phase x = 524287 → wedge x = 511 → rev x < 4095 → rev (x + 1) = rev x + 1)
    ∧ (phase x = 524287 → wedge x = 511 → rev x = 4095 → rev (x + 1) = 0))
  ∧ (∀ (s : State) (p : PackId), s.pending = [] → s.packs[p].tb.state ≠ .stopped → s.packs[p].tb.loopPeriod ≠ 0 →
    ∃ t n, step s = .next t ∧ t.packs[p].tb.angle = s.packs[p].tb.angle + BitVec.ofNat 40 n
      ∧ n * s.packs[p].tb.loopPeriod + t.packs[p].tb.frac = s.packs[p].tb.frac + 2 ^ 28 * 100
      ∧ t.packs[p].tb.frac < s.packs[p].tb.loopPeriod ∧ t.faults = s.faults ∧ t.recorder = s.recorder ∧ t.out = s.out)

/-- R441: a run leaves `running` at its completion, after its record (R443). -/
def Obligations.MoverStartsInOrder : Prop :=
  ∀ (s : State) (c : MoverId),
    (∀ q, s.mayStart c = some q ↔
      s.bankOn c = true ∧ s.movers[c].queue.head? = some q
        ∧ (descBarrier q.desc = true → s.movers[c].running = [])
        ∧ (descBarrier q.desc = false → ∀ r, s.movers[c].running.getLast? = some r → r.readsDone = true))
    ∧ (∀ x host, s.mayStart c = none → exec (.cMoverDescriptorStart c x host) s = .next s)
    ∧ (∀ x host q, s.mayStart c = some q →
      ∃ t, exec (.cMoverDescriptorStart c x host) s = .next t ∧ ∃ r ∈ t.movers[c].running, r.req = q)

/-- R435. -/
def Obligations.PatternSources : Prop :=
  ∀ (d : List Byte), d.length = 64 →
    (patternStream d).length = descTotal d
    ∧ (∀ o, o < descTotal d → (patternStream d)[o]? = d[8 + o % 8]?)
    ∧ (∀ (s : State) (c : MoverId) q x, q.desc = d → descSource d = 2 →
      s.readSource c q x = s.updMover c (fun m =>
        { m with running := m.running ++ [{ req := q, stream := swapStream (descSwap d) (patternStream d), readsDone := true }] }))
    ∧ (∀ s : State, descSource d = 2 → descScatter d = false → s.descCheck d = 1)
    ∧ (descCount d 1 = 1 → descCount d 2 = 1 → descStep d 0 = descElem d →
      descWalk d = (List.range (descCount d 0)).map (fun (i : Nat) => (descWalked d : Int) + (i : Int) * descElem d))

/-- The reset values of R10's columns for these fields. -/
def Obligations.ResetLeaves : Prop :=
  let s := State.reset
  s.pending = [] ∧ s.dev.state = .boot ∧ s.dev.leeForm = 255 ∧ s.dev.leeCause = 255 ∧ s.dev.pendingLee = none
  ∧ (∀ p : PackId, s.packs[p].state = .absent ∧ s.packs[p].tb.angle = 0 ∧ s.packs[p].tb.state = .stopped)
  ∧ (∀ k, s.source k = {}) ∧ s.faults.firstSticky = 0xFFFF ∧ s.faults.fatalLatch = false ∧ s.faults.resetRequest = none
  ∧ s.clusters.active = none ∧ (∀ c : ClusterId, s.clusters.unit[c].role = .off) ∧ s.lock.holder = 0
  ∧ s.buf.reachable = false ∧ s.buf.words = [] ∧ s.buf.lines = [] ∧ s.buf.op = none
  ∧ s.host.conns = [] ∧ s.host.rings = [] ∧ s.svc.cmds = [] ∧ s.svc.tokens = [] ∧ s.sec.tapUnlocked = false ∧ s.mirrorHeld = []

/-- `State.Inv` at reset. -/
def Obligations.InvariantAtReset : Prop := State.Inv State.reset

/-- R402, R446: what `State.Inv` says is kept by every one of the commands and by the passing of time. -/
def Obligations.InvariantKept : Prop := ∀ s t : State, s.Inv → step s = .next t → t.Inv

/-- No command of this block stops (the spec gives each an effect), none adds to the queue, and the part is fixed (R3). -/
def Obligations.QueueAndPartKept : Prop :=
  (∀ (c : Instr) (s : State), Answers c s (fun t => t.pending = s.pending ∧ t.part = s.part))
  ∧ (∀ (s : State), ∃ t, step s = .next t ∧ t.pending = s.pending.tail ∧ t.part = s.part)

/-- R196, the arithmetic and logic rows: for an engine that issues the micro-operation, RD takes the result, the flags that the row names take
theirs, the next word follows, and nothing else changes (`State.retires` changes the engine's thread alone). R197: a microword whose predicate is false only takes the cycle, whatever its micro-operation but WAITE, which waits; R196: NOP does
nothing. -/
def Obligations.AluAndFalsePredicate : Prop :=
  (∀ (s : State) (e : Eng),
      let w := s.wordOf e
      let r := s.regs e
      let a := r.get w.ra
      let b := r.opB w
      let done := fun (v : Reg64) (z n c : Bool) => Host.Outcome.next (φ := Fault) (ρ := Refusal) (s.retires e (r.result w v z n c r.later))
      let logic := fun v : Reg64 => done v (v == 0) v.msb r.c
      let less := fun v : Reg64 => done v (v == 0) r.n r.c
      (s.Issues e 0x01 → exec (.cAdd e) s = done (a + b) (a + b == 0) (a + b).msb (decide (2 ^ 64 ≤ a.toNat + b.toNat)))
      ∧ (s.Issues e 0x02 → exec (.cSub e) s = done (a - b) (a - b == 0) (a - b).msb (decide (a.toNat < b.toNat)))
      ∧ (s.Issues e 0x03 → exec (.cAnd e) s = logic (a &&& b))
      ∧ (s.Issues e 0x04 → exec (.cOr e) s = logic (a ||| b))
      ∧ (s.Issues e 0x05 → exec (.cXor e) s = logic (a ^^^ b))
      ∧ (s.Issues e 0x06 → exec (.cShl e) s = logic (a <<< (b.toNat % 64)))
      ∧ (s.Issues e 0x07 → exec (.cShr e) s = logic (a >>> (b.toNat % 64)))
      ∧ (s.Issues e 0x09 → exec (.cMovi e) s = done w.imm r.z r.n r.c)
      ∧ (s.Issues e 0x0A → exec (.cMin e) s = less (if b.toNat < a.toNat then b else a))
      ∧ (s.Issues e 0x0B → exec (.cMax e) s = less (if a.toNat < b.toNat then b else a))
      ∧ (s.Issues e 0x08 → exec (.cCmp e) s =
          .next (s.retires e { r with z := a - b == 0, n := (a - b).msb, c := decide (a.toNat < b.toNat) })))
  ∧ (∀ (s : State) (e : Eng),
      (s.Issues e 0x00 → exec (.cNop e) s = .next (s.retires e (s.regs e)))
      ∧ ∀ same, ∀ x ∈ ([(0x00, .cNop), (0x01, .cAdd), (0x02, .cSub), (0x03, .cAnd), (0x04, .cOr), (0x05, .cXor), (0x06, .cShl), (0x07, .cShr),
            (0x08, .cCmp), (0x09, .cMovi), (0x0A, .cMin), (0x0B, .cMax), (0x0C, .cAdda), (0x0D, .cAcmp), (0x10, .cLd), (0x11, .cSt),
            (0x12, .cLdl), (0x13, .cStl), (0x18, .cJmp), (0x19, .cCall), (0x1A, .cRet), (0x1B, .cJmpr), (0x1C, .cEnd), (0x1D, .cDisp),
            (0x20, .cWaita), (0x21, .cWaitr), (0x23, .cSuspend), (0x24, .cCommit), (0x25, .cAbtset), (0x28, fun e => .cSeek e same), (0x29, .cXfer),
            (0x2A, .cLadder), (0x2B, .cLink), (0x2C, .cNow), (0x2D, .cGrp), (0x30, .cEng)] : List (Nat × (Eng → Instr))),
          s.Fetches e x.1 → s.holds e (s.wordOf e) = false → exec (x.2 e) s = .next (s.retires e (s.regs e)))

/-- R53 (ADDA), R52 (ACMP), R196 (NOW), R54 and R204 (WAITA, WAITR and the end of the wait) on a formatter. -/
def Obligations.AngleCommands : Prop :=
  ∀ (s : State) (p : PackId) (a : ArmId),
    let e := Eng.formatter p a
    let w := s.wordOf e
    let r := s.regs e
    let waits := fun t : AngleTime => Host.Outcome.next (φ := Fault) (ρ := Refusal) (s.updFmt p a (fun f => { f with wait := .angle t }))
    (s.Issues e 0x0C → (r.opB w).toNat % 2 ^ 40 < 2 ^ 39 →
      exec (.cAdda e) s = .next (s.retires e
        (let v : Reg64 := BitVec.ofNat 64 (((r.get w.ra).toNat + (r.opB w).toNat % 2 ^ 40) % 2 ^ 40)
         r.result w v (v == 0) r.n r.c r.later)))
    ∧ (s.Issues e 0x0D →
      exec (.cAcmp e) s = .next (s.retires e
        { r with z := (r.get w.ra).toNat % 2 ^ 40 == (r.opB w).toNat % 2 ^ 40,
                 later := laterMod 40 ((r.get w.ra).toNat % 2 ^ 40) ((r.opB w).toNat % 2 ^ 40) }))
    ∧ (s.Issues e 0x2C →
      exec (.cNow e) s = .next (s.retires e (r.result w ((s.armAngle p a).zeroExtend 64) r.z r.n r.c r.later)))
    ∧ (s.Issues e 0x20 → s.tbUsable p = true →
      let d := ((r.get w.ra).setWidth 40 - s.armAngle p a).toNat
      0 < d → d < 2 ^ 39 → exec (.cWaita e) s = waits ((r.get w.ra).setWidth 40))
    ∧ (s.Issues e 0x21 → s.tbUsable p = true →
      let d := ((r.opB w).setWidth 40).toNat
      0 < d → d < 2 ^ 39 → exec (.cWaitr e) s = waits (s.armAngle p a + (r.opB w).setWidth 40))
    ∧ (∀ t, (s.arm p a).fmt.wait = .angle t → laterMod 40 t.toNat (s.armAngle p a).toNat = false →
      exec (.cAngleWaitReached p a) s = .next (s.updFmt p a (fun f => { f with wait := .none, pc := f.pc + 1 })))

/-- R196, R198, R199: LD, ST, LDL, STL, JMP, CALL, RET and JMPR. -/
def Obligations.MemoryAndFlowCommands : Prop :=
  ∀ (s : State) (e : Eng),
    let w := s.wordOf e
    let r := s.regs e
    let th := s.thread e
    let addr := r.address w
    let put := fun v : Nat => r.result w (BitVec.ofNat 64 v) r.z r.n r.c r.later
    (∀ p a v, e = .formatter p a → s.Issues e 0x10 → s.fmtLoad p a w.sel addr = some v →
      exec (.cLd e) s = .next (s.retires e (put v)))
    ∧ (∀ p a, e = .formatter p a → s.Issues e 0x10 → s.fmtLoad p a w.sel addr = none → exec (.cLd e) s = .next (s.engFault e))
    ∧ (∀ q c v, e = .service q c → s.Issues e 0x10 → w.sel ≠ 2 → (s.ctx q c).load w.sel addr = some v →
      exec (.cLd e) s = .next (s.retires e (put v)))
    ∧ (∀ q c, e = .service q c → s.Issues e 0x10 → w.sel = 2 → addr % 8 = 0 → addr + 8 ≤ s.bufSize →
      exec (.cLd e) s = .next ((s.issued e).updCtx q c (fun x => { x with wait := .load w.rd.val addr })))
    ∧ (∀ q c, e = .service q c → s.Issues e 0x12 → addr % 64 = 0 → addr + 64 ≤ s.bufSize →
      exec (.cLdl e) s = .next ((s.issued e).updCtx q c (fun x => { x with wait := .load 16 addr })))
    ∧ (∀ q c, e = .service q c → s.Issues e 0x13 → addr % 64 = 0 → addr + 64 ≤ s.bufSize →
      exec (.cStl e) s = .next (
        let m := (s.issued e).bufWrite .service false addr (wordBytes r.body) .none
        (m.1.advance e).raiseAll m.2))
    ∧ (s.Issues e 0x11 → spaceOk (engScratchSize e) addr = true →
      exec (.cSt e) s = .next ((s.issued e).setThread e
        { th with scratch := putVal (addr / 8) (r.get w.rb).toNat 0 th.scratch, pc := th.pc + 1 }))
    ∧ (s.Issues e 0x11 → spaceOk (engScratchSize e) addr = false → exec (.cSt e) s = .next ((s.issued e).engFault e))
    ∧ (s.Issues e 0x18 → exec (.cJmp e) s = .next ((s.issued e).setThread e { th with pc := w.target }))
    ∧ (s.Issues e 0x19 → th.stack.length < engStackDepth e →
      exec (.cCall e) s = .next ((s.issued e).setThread e { th with stack := (th.pc + 1) :: th.stack, pc := w.target }))
    ∧ (s.Issues e 0x19 → engStackDepth e ≤ th.stack.length → exec (.cCall e) s = .next ((s.issued e).engFault e))
    ∧ (∀ x l, s.Issues e 0x1A → th.stack = x :: l → exec (.cRet e) s = .next ((s.issued e).setThread e { th with stack := l, pc := x }))
    ∧ (s.Issues e 0x1A → th.stack = [] → exec (.cRet e) s = .next ((s.issued e).engFault e))
    ∧ (s.Issues e 0x1B →
      exec (.cJmpr e) s = .next ((s.issued e).setThread e { th with pc := (r.get w.ra).toNat % 2 ^ 14 }))

/-- R209, R213, R214, R195, R196, R212: END, DISP, WAITE and what ends a wait. -/
def Obligations.EndDispatchAndWait : Prop :=
  (∀ (s : State) (p : PackId) (a : ArmId), s.Issues (.formatter p a) 0x1C →
      exec (.cEnd (.formatter p a)) s =
        .next ((s.closeRoutine p a 0x20 (fun f => f.endOutcome ((s.wordOf (.formatter p a)).imm.toNat % 256))).kick p a))
  ∧ (∀ (s : State) (q : SeqId) (c : CtxId), s.Issues (.service q c) 0x1C → s.owesTokens (s.ctx q c).ring (s.ctx q c).slot = false →
      exec (.cEnd (.service q c)) s =
        .next ((s.issued (.service q c)).endService q c ((s.wordOf (.service q c)).imm.toNat % 65536)))
  ∧ (∀ (s : State) (q : SeqId) (c : CtxId) (d : Nat), s.Issues (.service q c) 0x1D →
      d = (s.svc.dispatch.getD (fieldAt (s.ctx q c).chain 0 1) 0).toNat →
      s.svc.dispatchMarks = [] → d.testBit 14 = true → (d.testBit 15 = false ∨ (s.ctx q c).admin = true) →
      exec (.cDisp (.service q c)) s = .next ((s.issued (.service q c)).updCtx q c (fun x => { x with pc := d % 2 ^ 14 })))
  ∧ (∀ (s : State) (e : Eng), s.Issues e 0x22 → exec (.cWaite e) s = .next ((s.issued e).endWait e false))
  ∧ (∀ (s : State) (p : PackId) (a : ArmId), s.Fetches (.formatter p a) 0x22 →
      let w := s.wordOf (.formatter p a)
      s.holds (.formatter p a) w = false →
      exec (.cWaite (.formatter p a)) s = .next (s.updFmt p a (fun f =>
        { f with wait := .event w.cond w.cneg (if w.imm.toNat % 2 ^ 32 = 0 then none else some (s.now + w.imm.toNat % 2 ^ 32)) })))
  ∧ (∀ (s : State) (q : SeqId) (c : CtxId), s.Fetches (.service q c) 0x22 →
      let w := s.wordOf (.service q c)
      s.holds (.service q c) w = false →
      exec (.cWaite (.service q c)) s = .next ((s.issued (.service q c)).updCtx q c (fun x =>
        { x with wait := .event w.cond w.cneg (if w.imm.toNat % 2 ^ 32 = 0 then none else some (s.now + w.imm.toNat % 2 ^ 32)) })))
  ∧ (∀ (s : State) (e : Eng) (k : Nat) (n : Bool) (d : Option Nat), s.eventWait e = some (k, n, d) → s.waitAct e = .go →
      s.cond e (s.wordOf e).ra k = !n → exec (.cWaiteConditionMet e) s = .next (s.endWait e false))
  ∧ (∀ (s : State) (e : Eng) (k : Nat) (n : Bool) (d : Nat), s.eventWait e = some (k, n, some d) → s.waitAct e = .go →
      s.cond e (s.wordOf e).ra k = n → exec (.cWaiteTimeout e) s = .next (s.endWait e true))
  ∧ (∀ (s : State) (q : SeqId) (c : CtxId) (rd addr : Nat) (x : List DramRead) (err : SramErr) (bytes : List Byte) (t : State)
      (l : List Nat) (h : rd < 16), (s.ctx q c).wait = .load rd addr →
      s.bufRead .service false addr 8 x err = (some bytes, t, l) →
      exec (.cMemoryLoadComplete q c x err) s = .next ((t.updCtx q c (fun y =>
        { y with wait := .none, pc := y.pc + 1, regs := y.regs.set ⟨rd, h⟩ (BitVec.ofNat 64 (fieldAt bytes 0 8)) })).raiseAll l))

/-- R217 to R219: SUSPEND, its waits and its resumption, COMMIT, ABTSET, ENG and the completion of a token. -/
def Obligations.SuspendCommitAndTokens : Prop :=
  ∀ (s : State) (q : SeqId) (c : CtxId),
    let e := Eng.service q c
    let x := s.ctx q c
    let w := s.wordOf e
    let r := s.regs e
    (s.Issues e 0x23 → s.svc.suspended.length < s.poolSize →
      exec (.cSuspend e) s = .next (((s.issued e).updSvc (fun v => { v with suspended := v.suspended ++
        [⟨{ x with pc := x.pc + 1, wait := .none, sinceSafe := 0, forcedSafe := false }, (r.get w.ra).toNat⟩] })).freeCtx q c))
    ∧ (s.Issues e 0x23 → s.poolSize ≤ s.svc.suspended.length →
      exec (.cSuspend e) s = .next ((((s.issued e).advance e).updCtx q c (fun y => { y with wait := .block (r.get w.ra).toNat })).updSvc
        (fun v => { v with delayed := sat32 v.delayed 1 })))
    ∧ (∀ k, x.wait = .block k → s.svc.suspended.length < s.poolSize → s.safeCheck q c = .go →
      exec (.cContextBlockAvailable q c) s = .next ((s.updSvc (fun v => { v with suspended := v.suspended ++
        [⟨{ x with wait := .none, sinceSafe := 0, forcedSafe := false }, k⟩] })).freeCtx q c))
    ∧ (∀ ring slot b, s.clusters.failOver = none →
      s.svc.suspended.find? (fun b => b.ctx.ring = ring ∧ b.ctx.slot = slot) = some b → s.freeContext = some (q, c) →
      let left := s.updSvc (fun v => { v with suspended := v.suspended.filter (fun y => ¬(y.ctx.ring = ring ∧ y.ctx.slot = slot)) })
      ((∀ y, s.svc.cmd ring slot = some y → y.aborted = false ∨ y.committed = true) → s.resumable b = true →
        exec (.cContextResume ring slot) s = .next (left.updCtx q c (fun _ => b.ctx)))
      ∧ (∀ y, s.svc.cmd ring slot = some y → y.aborted = true → y.committed = false →
        exec (.cContextResume ring slot) s = .next (left.updCtx q c (fun _ => { b.ctx with pc := s.abortWord b.ctx }))))
    ∧ (∀ y, s.Issues e 0x24 → s.svc.cmd x.ring x.slot = some y →
      (y.committed = false → y.aborted = false →
        exec (.cCommit e) s = .next (((s.issued e).commitCmd x.ring x.slot).advance e))
      ∧ (y.committed = true → exec (.cCommit e) s = .next ((s.issued e).advance e)))
    ∧ (s.ready e = true → w.opc = 0x24 → (s.ctlStore e).marks = [] → wordLegal true (s.ctlStore e).words.length w = true →
      (s.safeCheck q c = .abort → exec (.cCommit e) s = .next (s.toAbort q c))
      ∧ (s.safeCheck q c = .hold → exec (.cCommit e) s = .next (s.updCtx q c (fun x => { x with held := true }))))
    ∧ (s.Issues e 0x25 →
      let v := (r.get w.ra).toNat
      let m := (s.issued e).abtset (v / 2 ^ 32 % 2 ^ 16) (v % 2 ^ 32)
      exec (.cAbtset e) s = .next (m.2.setThread e
        { m.2.thread e with regs := (m.2.thread e).regs.set w.rd (BitVec.ofNat 64 m.1), pc := (m.2.thread e).pc + 1 }))
    ∧ (s.Issues e 0x30 → s.tokensOut q < 1024 → exec (.cEng e) s = .next ((s.issued e).engIssue q c w))
    ∧ (s.Issues e 0x30 → s.tokensOut q < 1024 → w.sel ∈ [0, 1, 2, 5] →
      let m := (s.issued e).newToken q x.ring x.slot w.sel r.body
      exec (.cEng e) s = .next (m.2.updCtx q c (fun y =>
        { y with wait := .none, regs := y.regs.set w.rd (BitVec.ofNat 64 m.1), pc := y.pc + 1 })))
    ∧ (s.Issues e 0x30 → 1024 ≤ s.tokensOut q → exec (.cEng e) s = .next ((s.issued e).updCtx q c (fun x => { x with wait := .tokens })))
    ∧ (∀ id error i k, s.svc.token id = some k → k.state = 0 → s.heldTokens.any (fun y => y.1 = id) = false →
      (k.engine ≠ 5 ∨ (s.clusters.failOver = none ∧ s.mirrorOwed = false) →
        exec (.cTokenComplete id error i []) s = .next ((s.markToken id error).afterToken ⟨k.seq % 16, by omega⟩))
      ∧ (k.engine = 5 → s.clusters.failOver = none → s.mirrorOwed = true →
        exec (.cTokenComplete id error i []) s = .next { s with heldTokens := s.heldTokens ++ [(id, error, s.clusters.mirrorSent)] }))

/-- R118, R196, R202, R203, R229, R242: the formatter's own micro-operations. -/
def Obligations.FormatterMicroOperations : Prop :=
  ∀ (s : State) (p : PackId) (a : ArmId),
    let e := Eng.formatter p a
    let w := s.wordOf e
    let r := s.regs e
    let f := (s.arm p a).fmt
    (s.Issues e 0x28 → exec (.cSeek e true) s = .next ((s.seek p a (r.lanes w)).advance e))
    ∧ (s.Issues e 0x28 → exec (.cSeek e false) s = .next (s.miscompare (tileOf p)))
    ∧ (s.Issues e 0x29 → s.tbUsable p = true →
      let set := r.lanes w
      let first := (r.get w.ra).toNat % 2 ^ 11
      let count := (r.opB w).toNat % 2 ^ 9
      s.xferRefusal p a set first count w.sel = none →
      let m := s.xferLanes p a set (decide (w.sel = 1))
      let lead := BitVec.ofNat 40 (s.nsToRu p (s.param 0x7430 6))
      let runs := mkRuns (maskLanes m.1) (fun h => reqTarget f.req h.val) first count w.sel f.groups
        (if w.sel = 1 then s.writeWidth p a else (s.arm p a).activeLimit) (fun h => s.laneAngle p a h + lead)
      let s1 := (s.sitOutXfer p a m.2 first count w.sel).updFmt p a (fun f =>
        { f with runs := f.runs ++ runs, groups := f.groups + runs.length })
      let s2 := s1.forLanes m.1 (fun s h => s.wantActive p a h)
      exec (.cXfer e) s = .next (((if w.sel = 1 then s2.armTurn p a else s2).advance e).kick p a))
    ∧ (∀ o, s.Issues e 0x29 → s.tbUsable p = true →
      s.xferRefusal p a (r.lanes w) ((r.get w.ra).toNat % 2 ^ 11) ((r.opB w).toNat % 2 ^ 9) w.sel = some o →
      exec (.cXfer e) s = .next ((s.endRoutine p a o).kick p a))
    ∧ (s.Issues e 0x2A →
      exec (.cLadder e) s = .next (((f.ladder.foldl (fun s x => s.wantActive p a x.lane) s).updFmt p a (fun f =>
        { f with laddering := true, ladder := f.ladder.map (fun x => if x.step = 0 then { x with step := 1, reads := 0 } else x) })).advance e))
    ∧ (s.Issues e 0x2B → w.sel = 0 →
      exec (.cLink e) s = .next (((s.sendCmd p a (w.imm.toNat % 256) (r.lanes w)).updFmt p a (fun f =>
        { f with lastLink := some (((s.arm p a).link.seq + 1) % 256) })).advance e))
    ∧ (s.Issues e 0x2B → w.sel ≠ 0 →
      let imm := w.imm.toNat
      let next := ((s.arm p a).link.seq + 1) % 256
      exec (.cLink e) s = .next (((s.sendNumbered p a (regFrame (match maskLanes w.mask with | h :: _ => h.val | [] => 0) (imm % 256)
          (imm.testBit 8) (imm.testBit 9) (imm / 2 ^ 16 % 2 ^ 16))).updFmt p a (fun f =>
        { f with lastLink := some next, regWait := if w.sel = 1 then f.regWait ++ [(w.rd, next)] else f.regWait })).advance e))
    ∧ (s.Issues e 0x2D →
      exec (.cGrp e) s = .next (s.retires e (
        let v : Reg64 := BitVec.ofNat 64 (s.sameGroup p a ((r.get w.ra).toNat % 2 ^ 16))
        r.result w v (v == 0) r.n r.c r.later)))

/-- R18, R200, R201, R206, R207, R215, R222, R223: what the hub sends a formatter, and what watches the sequencers. -/
def Obligations.RequestsAndStores : Prop :=
  (∀ (s : State) (p : PackId) (a : ArmId) (req : List Byte), s.clusters.failOver = none → s.layers.applyStatus ≠ 1 → reqOk req = true →
      (s.arm p a).fmt.fault = false → (s.arm p a).link.state ≠ .out → (s.arm p a).fmt.queue.length < 16 →
      exec (.cFormatterRequest p a req) s = .next ((s.updFmt p a (fun f => { f with queue := f.queue ++ [req] })).kick p a))
  ∧ (∀ (s : State) (p : PackId) (a : ArmId) (req : List Byte), s.clusters.failOver = none → s.layers.applyStatus ≠ 1 → reqOk req = false →
      exec (.cFormatterRequest p a req) s = .next (s.refuseRequest p a req 0x1C))
  ∧ (∀ (s : State) (p : PackId) (a : ArmId), (s.arm p a).fmt.running = true → (s.arm p a).fmt.committed = false →
      exec (.cFormatterCancel p a) s = .next ((s.endRoutine p a 0x1A).kick p a))
  ∧ (∀ (s : State) (p : PackId) (a : ArmId), (s.arm p a).fmt.running = true → (s.arm p a).fmt.committed = true →
      exec (.cFormatterCancel p a) s = .next (s.updFmt p a (fun f => { f with cancel := true })))
  ∧ (∀ (s : State) (p : PackId) (a : ArmId), (s.arm p a).fmt.running = true → (s.arm p a).fmt.wait = .restart →
      (s.arm p a).fmt.restarts + 1 - (s.arm p a).fmt.uncounted ≤ s.param 0x7430 5 →
      exec (.cRoutineRestart p a) s = .next ((((s.dropReads p a).disarm p a).updFmt p a (fun f =>
        { f.enter f.req with restarts := f.restarts + 1, restartCount := sat32 f.restartCount 1 })).routineMechanics p a))
  ∧ (∀ (s : State) (p : PackId) (a : ArmId), (s.arm p a).fmt.writesDue = true → (s.arm p a).servo.mode.parkable = true →
      (s.arm p a).fmt.running = false →
      exec (.cPerArrayWriteApply p a) s = .next ((s.applyArrays p a).trimActive p a))
  ∧ (∀ (s : State) (q : SeqId) (c : CtxId) (word : Nat),
      s.svc.store.marks.find? (fun x => x.1 = q.val && x.2.1 = word) = some (q.val, word, false) →
      exec (.cControlStoreScrub (.service q c) word) s = .next ((s.updSvc (fun v =>
        { v with corrected := sat32 v.corrected 1,
                 store := { v.store with marks := s.svc.store.marks.filter (fun x => !(x.1 = q.val && x.2.1 = word)) } })).raise 176))
  ∧ (∀ (s : State) (e : Eng) (word : Nat) (v : Microword), (s.ctlStore e).locked = true →
      exec (.cLockedStoreWrite e word v) s = .next (s.raise 177))
  ∧ (∀ (s : State) (q : SeqId) (c : CtxId), (s.ctx q c).busy = true → 6400 ≤ (s.ctx q c).sinceSafe → (s.ctx q c).forcedSafe = false →
      exec (.cSafePointOverrun q c) s = .next (((s.updCtx q c (fun x => { x with forcedSafe := true })).updSvc (fun v =>
        { v with overruns := sat32 v.overruns 1 })).raise 178))

/-- R23, R28, R528: each event on a fitted unit where it applies. R42 to R51: what each command of the time base does where it applies. -/
def Obligations.ReferencesAndTimeBase : Prop :=
  (∀ (s : State),
      (∀ t byHub, s.tileFitted t = true → (byHub = true → s.tiles[t].linkUp = true) → (byHub = false → s.tiles[t].orphaned = false) →
        exec (.cD2dKeepaliveSend t byHub) s = .next { s with out := s.out ++ [.keepAlive t.val byHub] })
      ∧ (∀ t, s.tileFitted t = true → s.tiles[t].orphaned = false →
        exec (.cD2dLinkLostTile t) s = .next (
          ((packsOfTile t).foldl (fun s p => (((s.parkPack p).updSpin p Spindle.stop).releaseSpin p).kickPack p)
            ((packsOfTile t).foldl (fun s p => (s.finishWrites p 0).finishWrites p 1)
              (s.updTile t (fun x => { x with orphaned := true })))).admissionPass))
      ∧ (∀ t, s.tileFitted t = true → s.tiles[t].linkUp = true →
        exec (.cD2dLinkLostHub t) s = .next (
          (packsOfTile t).foldl (fun s p => (s.packFail p 8).kickPack p) ((s.updTile t (fun x => { x with linkUp := false })).raise (32 + t.val))))
      ∧ (s.dev.state ≠ .boot → s.dev.state ≠ .off → s.dev.state ≠ .zephyr → s.ref100Lost = false →
        exec .cReference100mhzLost s = .next (
          ((((({ s with ref100Lost := true, tiles := s.tiles.map (fun (t : Tile) => { t with holdover := true }) }).raise 2).parkAndStop).endAllConns
            6).stopBackground).pendLee true 6))
      ∧ (s.dev.state ≠ .boot → s.dev.state ≠ .off → s.dev.state ≠ .zephyr → s.ref156Lost = false →
        exec .cReference156mhzLost s = .next (
          ((({ s with ref156Lost := true }).raise 3).updHost (fun h =>
            { h with ports := h.ports.map (fun (q : Port) => { q with link := Vector.replicate 4 .down }) })).endAllConns 7))
      ∧ (s.dev.state = .boot → s.boot.step = .references → s.boot.railsKept = false →
        exec (.cReferenceMeasurementEnd true true) s = .next { s with boot := { s.boot with step := .enable 2 } })
      ∧ (∀ ok156, s.dev.state = .boot → s.boot.step = .references →
        exec (.cReferenceMeasurementEnd false ok156) s = .next (s.attemptFails 0x20))
      ∧ (s.dev.state = .boot → s.boot.step = .references → exec (.cReferenceMeasurementEnd true false) s = .next (s.attemptFails 0x21))
      ∧ (s.dev.state = .boot → s.boot.step = .plls → exec .cPllLockTimeout s = .next (s.attemptFails 0x22)))
  ∧ (∀ (s : State) (p : PackId),
      let w := s.atWedge p
      (∀ dets, w.packs[p].tb.state = .freeRun → exec (.cWedgePhaseUpdate p dets) s = .next (w.tbAcquire p dets))
      ∧ (∀ dets, w.packs[p].tb.state = .acquire →
        exec (.cWedgePhaseUpdate p dets) s = .next ((w.acquireWedge p (w.packError p dets)).countWedge p))
      ∧ (∀ dets, w.packs[p].tb.state = .locked →
        exec (.cWedgePhaseUpdate p dets) s = .next ((w.lockedWedge p dets (w.packError p dets)).countWedge p))
      ∧ (∀ dets, w.packs[p].tb.state = .coast → w.packs[p].tb.missed < w.packParam p 0x20 7 →
        exec (.cWedgePhaseUpdate p dets) s = .next ((w.lockedWedge p dets (w.packError p dets)).countWedge p))
      ∧ (∀ dets, (w.packs[p].tb.state = .stopped ∨ w.packs[p].tb.state = .lost) → exec (.cWedgePhaseUpdate p dets) s = .next w)
      ∧ (s.packs[p].tb.state = .coast → s.packParam p 0x20 7 ≤ s.packs[p].tb.missed → exec (.cTbCoastLimit p) s = .next (s.tbLost p))
      ∧ (s.packs[p].tb.state = .acquire → (512 ≤ s.packs[p].tb.poorRun ∨ 32768 ≤ s.packs[p].tb.acquireWedges) →
        exec (.cTbAcquireTimeout p) s = .next (s.updTb p TimeBase.freeRun))
      ∧ (s.packs[p].tb.state = .locked → s.packs[p].tb.measuring = true → 2048 ≤ s.packs[p].tb.measured →
        let members := (List.finRange 2).filter (fun a => s.packs[p].tb.measSet[a] && (s.arm p a).servo.mode.onTrack)
        (∀ a ∈ members, (s.arm p a).fmt.running = true → (s.arm p a).fmt.committed = false) →
        exec (.cSkewMeasurementDone p) s = .next (
          let left := Vector.ofFn (fun a : Fin 2 => s.packs[p].tb.remeasure[a] && !s.packs[p].tb.measSet[a])
          let t := members.foldl (fun s a => s.takeSkews p a)
            (s.updTb p (fun t => { t with measuring := false, measured := 0, remeasure := left }))
          (t.checkLoaded p).kickPack p))
      ∧ (s.packs[p].tb.state = .locked → s.packs[p].tb.measuring = false →
        s.packs[p].arms.any Arm.writing = false →
        (s.packs[p].tb.remeasure[(0 : Fin 2)] = true ∨ s.packs[p].tb.remeasure[(1 : Fin 2)] = true) →
        exec (.cSkewRemeasureStart p) s = .next (s.startMeasuring p))
      ∧ (∀ a, (s.arm p a).servo.reloadPending = true → s.mayLoad p a = true → s.packs[p].state.mayCarry = true → s.packs[p].tb.state ≠ .lost →
        (s.arm p a).link.state = .up → (s.arm p a).fmt.fault = false →
        exec (.cArmReload p a) s = .next ((({ s with free := s.free + 1 }).updServo p a (fun v => { v with reloadPending := false })).enqueue p a
          (requestBytes 4 (Config.freeValue s.free % 2 ^ 32) s.packs[p].spindle.target))))

/-- R64, R75, R90 to R94: the commands of presence and verification where they apply. -/
def Obligations.PackPresenceAndVerification : Prop :=
  ∀ (s : State) (p : PackId),
    let put := fun b : Bool => { s with inputs := { s.inputs with
      pres := s.inputs.pres.set p.val { s.inputs.pres[p] with filtered := b, conditioned := b } p.isLt } }
    (s.packFitted p = true → s.packs[p].state = .absent →
      exec (.cPackPresAssert p) s = .next (((put true).setPackState p .present).updPack p (fun k => { k with settling := true })))
    ∧ (s.packs[p].state ≠ .absent → exec (.cPackPresAssert p) s = .next (put true))
    ∧ (s.packs[p].state ≠ .absent → exec (.cPackPresDeassert p) s = .next ((put false).presDeassert p))
    ∧ (s.packs[p].state = .absent →
      exec (.cPackPresDeassert p) s = .next ((put false).updPack p (fun k => { k with removable := false, removalDue := false })))
    ∧ (∀ m, s.packs[p].settling = true → s.clusters.active.isSome = true → s.dev.state ≠ .zephyr →
      let s0 := (s.updPack p (fun k => { k with settling := false, i2c := { k.i2c with identity := 0 } })).takeMemory p m
      (s.packs[p].state ≠ .present → exec (.cPackSettleDone p m) s = .next s0)
      ∧ (∀ c, s.packs[p].state = .present → s0.verifyPack p m = .error c →
        exec (.cPackSettleDone p m) s = .next ((s0.packFail p c).kickPack p))
      ∧ (∀ i c l fresh, s.packs[p].state = .present → s0.verifyPack p m = .ok (i, c, l, fresh) →
        let s1 := s0.updPack p (fun k => { k with identity := some i, factory := some (parseFactory m), life := l, lifeRead := true,
                                                  unsignedFlag := c = .unsigned, counterfeit := c = .counterfeit })
        let s2 := if fresh then s1.send (.i2cWrite p.val (lifeCopy 0) (lifeBytes l)) else s1
        exec (.cPackSettleDone p m) s = .next (
          if l.retired then s2.setPackState p .retired
          else if l.spent then (s2.setPackState p .spent).noteEmpty
          else (s2.setPackState p .verified).startLog p)))
    ∧ (∀ dev, s.packs[p].state ≠ .absent → (s.packs[p].settling = false ∨ dev ≠ 0) →
      (s.packs[p].i2c.get dev < 3 → exec (.cI2cRetry p dev) s =
        .next ((s.updPack p (fun k => { k with i2c := k.i2c.set dev (s.packs[p].i2c.get dev + 1) })).send (.i2cRecover p.val)))
      ∧ (3 ≤ s.packs[p].i2c.get dev → exec (.cI2cRetry p dev) s = .next (s.updPack p (fun k => { k with i2c := k.i2c.set dev 0 }))))
    ∧ (s.packs[p].lifeRead = true → s.packs[p].spindle.turning = true →
      let l := s.packs[p].life
      let next := { l with sequence := (l.sequence + 1) % 2 ^ 32 }
      let copy := if l.newer = 0 then 1 else 0
      let w := s.send (.i2cWrite p.val (lifeCopy copy) (lifeBytes next))
      exec (.cLifeRecordWrite p true) s = .next (w.updPack p (fun k => { k with life := { next with newer := copy }, i2c := { k.i2c with identity := 0 } }))
      ∧ exec (.cLifeRecordWrite p false) s = .next (w.updPack p (fun k => { k with i2c := { k.i2c with identity := 0 } })))

/-- R79 to R87: the frames and timers of an arm link. -/
def Obligations.ArmLinkFrames : Prop :=
  ∀ (s : State) (p : PackId) (a : ArmId),
    let l := (s.arm p a).link
    (∀ f, s.packs[p].state ≠ .absent → l.state = .up → frameOk 5 8 f = true →
      let t := (s.updLink p a (fun l => { l with status := f.drop 1 })).echo p a (fieldAt f 5 1)
      let t1 := if fieldAt f 1 1 % 8 ≠ 0 ∧ fieldAt f 2 2 ≠ 0 then t.removeLanes p a (fieldAt f 2 2) ((fieldAt f 1 1).testBit 2) else t
      exec (.cStatusFrame p a f) s =
        .next (if (fieldAt f 1 1).testBit 3 ∨ (fieldAt f 1 1).testBit 4 then (t1.loseLink p a).kick p a else t1))
    ∧ (∀ f, s.packs[p].state ≠ .absent → l.state = .training → frameOk 5 8 f = true →
      let t := (s.updLink p a (fun l => { l with status := f.drop 1 })).echo p a (fieldAt f 5 1)
      exec (.cStatusFrame p a f) s = .next (
        if fieldAt f 1 1 % 8 ≠ 0 ∧ fieldAt f 2 2 ≠ 0 then t.removeLanes p a (fieldAt f 2 2) ((fieldAt f 1 1).testBit 2) else t))
    ∧ (∀ f, s.packs[p].state ≠ .absent → frameOk 5 8 f = false →
      exec (.cStatusFrame p a f) s = .next (s.updLink p a (fun l => { l with discarded := sat32 l.discarded 1 })))
    ∧ (∀ f, s.packs[p].state ≠ .absent → l.state = .up → frameOk 6 7 f = true →
      let t := s.updLink p a (fun l => { l with regResp := f.drop 1 })
      let t1 := match (s.arm p a).fmt.regWait.find? (fun w => w.2 = fieldAt f 5 1) with
        | some w => t.updFmt p a (fun x =>
            { x with regs := x.regs.set w.1 (BitVec.ofNat 64 (fieldAt f 3 2)), regWait := x.regWait.erase w })
        | none => t
      exec (.cRegrespFrame p a f) s =
        .next (if fieldAt f 2 1 ≠ 0 ∧ (s.arm p a).servo.mode = .loading then ((t1.parkArm p a).countLoadFailure p a).kickPack p else t1))
    ∧ (∀ f, s.packs[p].state ≠ .absent → frameOk 6 7 f = false →
      exec (.cRegrespFrame p a f) s = .next (s.updLink p a (fun l => { l with discarded := sat32 l.discarded 1 })))
    ∧ (l.state = .up → exec (.cArmLinkRxTimeout p a) s = .next ((s.loseLink p a).kick p a))
    ∧ (∀ u rest, l.state = .up → l.unechoed = u :: rest → u.resends < 3 →
      exec (.cCmdEchoTimeout p a) s = .next ((s.updLink p a (fun l =>
        { l with unechoed := rest ++ [{ u with resends := u.resends + 1 }] })).send (.frame p.val a.val u.frame)))
    ∧ (∀ u rest, l.state = .up → l.unechoed = u :: rest → 3 ≤ u.resends →
      exec (.cCmdEchoTimeout p a) s = .next ((s.loseLink p a).kick p a))
    ∧ (s.packs[p].state ≠ .absent → (l.state = .training ∨ l.state = .down) →
      exec (.cArmLinkTrainingDone p a) s = .next (s.updLink p a (fun l => { l with state := .up, attempts := 0, unechoed := [] })))
    ∧ (s.packs[p].state ≠ .absent → (l.state = .training ∨ l.state = .down) → l.attempts < 2 →
      exec (.cArmLinkTrainingTimeout p a) s = .next (s.updLink p a (fun l => { l with state := .training, attempts := l.attempts + 1 })))
    ∧ (s.packs[p].state ≠ .absent → (l.state = .training ∨ l.state = .down) → 2 ≤ l.attempts →
      exec (.cArmLinkTrainingTimeout p a) s = .next (((((s.updLink p a (fun l => { l with state := .out, attempts := 3 })).updServo p a (fun v =>
        { v with outLink := true, reloadPending := false })).checkOut p)).kickPack p))

/-- R95, R97 to R99: the pack commands and the two commands of spin-up. -/
def Obligations.PackCommandsAndSpinUp : Prop :=
  ∀ (s : State) (p : PackId),
    (s.dev.state.packCommands = false →
      ∀ c ∈ [Instr.cPackCmdDrain p, .cPackCmdCancelDrain p, .cPackCmdRetire p, .cPackCmdPrepareRemoval p], exec c s = .next s)
    ∧ (s.dev.state.packCommands = true →
    let k := s.packs[p]
    (k.state = .ready → s.inSpan p = true → exec (.cPackCmdDrain p) s = .next ((s.setPackState p .draining).noteEmpty))
    ∧ ((k.state ≠ .ready ∨ s.inSpan p = false) → exec (.cPackCmdDrain p) s = .next s)
    ∧ (k.state = .draining → exec (.cPackCmdCancelDrain p) s = .next (s.setPackState p .ready))
    ∧ (k.state ≠ .draining → exec (.cPackCmdCancelDrain p) s = .next s)
    ∧ ((k.state = .failed ∨ ((k.state = .ready ∨ k.state = .verified) ∧ s.inSpan p = false)) →
      exec (.cPackCmdRetire p) s = .next (s.retirePack p))
    ∧ ((k.state = .spinning ∨ k.state = .loaded ∨ k.state = .draining ∨ k.state = .spent ∨ k.state = .retired) →
      exec (.cPackCmdRetire p) s = .next s)
    ∧ ((k.state = .present ∨ k.state = .verified ∨ k.state = .failed ∨ k.state = .retired) →
      exec (.cPackCmdPrepareRemoval p) s = .next (
        let t := (((((s.updPack p (fun k => { k with removalDue := true })).parkPack p).updSpin p Spindle.stop).releaseSpin p).kickPack p).admissionPass
        if t.packs[p].spindle.state = .off then t.checkRemoval p else t))
    ∧ (k.state = .ready → s.inSpan p = false →
      exec (.cPackCmdPrepareRemoval p) s = .next (
        let t := ((((s.updPack p (fun k => { k with removalDue := true })).packToVerified p).releaseSpin p).kickPack p).admissionPass
        if t.packs[p].spindle.state = .off then t.checkRemoval p else t))
    ∧ ((k.state = .spinning ∨ k.state = .loaded ∨ k.state = .draining ∨ (k.state = .ready ∧ s.inSpan p = true)) →
      exec (.cPackCmdPrepareRemoval p) s = .next s))
    ∧ (let k := s.packs[p]
    (s.spinWanted p = true → s.spinNeeded p = true → s.spinQueue.contains p = false → k.spindle.spinningUp = false →
      exec (.cSpinupRequest p) s = .next ({ s with spinQueue := s.spinQueue ++ [p] }.admissionPass))
    ∧ (k.state = .spinning → k.spindle.inWindow = false → exec (.cSpinupTimeout p) s = .next ((s.packFail p 6).kickPack p))
    ∧ ((k.state = .draining ∨ k.state = .spent) → k.spindle.inWindow = false → k.spindle.spinningUp = true →
      exec (.cSpinupTimeout p) s = .next ((s.releaseSpin p).admissionPass)))

/-- R100 to R102, R124, R125. -/
def Obligations.PackSensorsLogAndZones : Prop :=
  ∀ (s : State) (p : PackId),
    let k := s.packs[p]
    let g := k.log
    (∀ temp helium, k.state ≠ .absent → k.settling = false → s.dev.state ≠ .off → s.dev.state ≠ .zephyr →
      let s1 := s.updPack p (fun k => { k with sensors := k.sensors.take temp helium, i2c := { k.i2c with temperature := 0, helium := 0 } })
      (k.block = none → exec (.cPackSensorPoll p temp helium) s = .next s1)
      ∧ (∀ i, k.block = some i → exec (.cPackSensorPoll p temp helium) s = .next (s1.actOnSensors p i temp helium)))
    ∧ (∀ r rest, k.log.waiting = r :: rest → k.state ≠ .absent → k.log.ready = true →
      let w := (s.send (.i2cWrite p.val (0x2040 + 64 * k.log.next) r.bytes)).updPack p (fun k => { k with i2c := { k.i2c with identity := 0 } })
      let g1 := k.log.push r rest s.now
      exec (.cPackLogWrite p false) s = .next w
      ∧ exec (.cPackLogWrite p true) s = .next ((w.updPack p (fun k => { k with log := g1 })).send (.i2cWrite p.val 0x2000 g1.header))
      ∧ g1.next = (if k.log.next = 894 then 0 else k.log.next + 1)
      ∧ g1.wraps = (if k.log.next = 894 then sat32 k.log.wraps 1 else k.log.wraps)
      ∧ g1.waiting = rest ∧ g1.newest = some r ∧ g1.stale = false)
    ∧ (∀ r, k.log.due = [] → k.log.newest = some r → k.log.stale = true → k.log.rewrittenAt + 60 * 10 ^ 9 ≤ s.now →
      let slot := if k.log.next = 0 then 894 else k.log.next - 1
      exec (.cPackLogRepeatRewrite p) s = .next ((s.updPack p (fun k =>
        { k with log := { g with stale := false, rewrittenAt := s.now }.put slot r, i2c := { k.i2c with identity := 0 } })).send
          (.i2cWrite p.val (0x2040 + 64 * slot) r.bytes)))
    ∧ (∀ x rest, k.log.due = x :: rest → x.2.2 + 60 * 10 ^ 9 ≤ s.now →
      exec (.cPackLogRepeatRewrite p) s = .next ((s.updPack p (fun k =>
        { k with log := { g with due := rest }.put x.1 x.2.1, i2c := { k.i2c with identity := 0 } })).send
          (.i2cWrite p.val (0x2040 + 64 * x.1) x.2.1.bytes)))
    ∧ (∀ c0 c1 lists i f, k.identity = some i → k.factory = some f →
      (k.state = .loaded ∨ k.state = .draining ∨ k.state = .spent) →
      let second : Bool := decide (k.spindle.target ≠ i.speed0)
      let fits := fun c : List Byte =>
        if second then zoneSetMatches (zoneSetBytes c true) i.zones i.speed1 f.digest1 f.surfaces (some (parseZones (zoneSetBytes c false)))
        else zoneSetMatches (zoneSetBytes c false) i.zones i.speed0 f.digest0 f.surfaces none
      (fits c0 = true → exec (.cZoneTableReadDone p c0 c1 lists) s = .next (s.loadZones p 0 (parseZones (zoneSetBytes c0 second)) lists))
      ∧ (fits c0 = false → fits c1 = true →
        exec (.cZoneTableReadDone p c0 c1 lists) s = .next (s.loadZones p 1 (parseZones (zoneSetBytes c1 second)) lists))
      ∧ (fits c0 = false → fits c1 = false → exec (.cZoneTableReadDone p c0 c1 lists) s = .next ((s.packFail p 9).kickPack p)))

/-- R48, R109, R153 to R155, R161. R36, R44, R150, R153 to R155, R159, R205. -/
def Obligations.LanePowerAndWriteGates : Prop :=
  (∀ (s : State) (p : PackId) (a : ArmId) (h : HeadId),
      let c := (s.lane p a h).chan
      (c.power = .servoOnly → (s.arm p a).oldestWaiting = some h → (s.arm p a).activeLanes < (s.arm p a).activeLimit →
        exec (.cLaneActivate p a h) s = .next (s.updChan p a h (fun c => { c with power := .idle, waiting := none })))
      ∧ ((s.arm p a).activeLimit ≤ (s.arm p a).activeLanes → exec (.cLaneActivate p a h) s = .next s)
      ∧ (c.power = .idle → c.readOpen = false → c.writing = none →
        let s1 := s.updChan p a h (fun c => { c with power := .servoOnly })
        exec (.cLaneGatingDelayExpiry p a h) s = .next (if (s.arm p a).fmt.names h = true then s1.wantActive p a h else s1))
      ∧ ((c.power ≠ .idle ∨ c.readOpen = true ∨ c.writing ≠ none) → exec (.cLaneGatingDelayExpiry p a h) s = .next s)
      ∧ (let prov : Bool := decide ((s.lane p a h).time = .provisional)
        let now := (s.laneAngle p a h).toNat + windowBefore prov
        c.power ≠ .off → s.packs[p].tb.state ≠ .stopped → s.packs[p].tb.state ≠ .lost →
        now % 2 ^ 19 < windowBefore prov + windowAfter prov →
        exec (.cServoWindowOpen p a h) s = .next (s.updChan p a h (fun c =>
          { c with servoUntil := some (BitVec.ofNat 40 (now / 2 ^ 19 * 2 ^ 19 + windowAfter prov)) })))
      ∧ (c.writeOpen = true → s.inProtect p a h = true → angleReached c.gateEnd (s.laneAngle p a h) = true →
        exec (.cServoProtectStart p a h) s = .next (s.writeCloses p a h))
      ∧ (c.writeOpen = true → s.inProtect p a h = true → angleReached c.gateEnd (s.laneAngle p a h) = false →
        exec (.cServoProtectStart p a h) s = .next (
          (((s.closeWrite p a h true).updMedia p (fun m => { m with servoProtect := sat32 m.servoProtect 1 })).endRoutine p a 0x15).kick p a))
      ∧ ((c.writeOpen = false ∨ s.inProtect p a h = false) → exec (.cServoProtectStart p a h) s = .next s))
  ∧ (∀ (s : State) (p : PackId) (a : ArmId) (h : HeadId),
      let t := s.atNext p a h true
      let c := (t.lane p a h).chan
      let f := (t.arm p a).fmt
      (∀ r data, f.run h true = some r → f.running = true →
        let next := if c.writing.isSome then 1 else 0
        let addr := mkAddr p.val h.val r.track (r.first + r.done + next)
        r.done + next < r.count →
        (data.length = 4152 → exec (.cWriteBufferDeadline p a h data) s = .next (t.updChan p a h (fun c =>
          if c.wbuf.length < 4 then { c with wbuf := c.wbuf.filter (fun b => b.addr ≠ addr) ++ [⟨addr, data⟩] } else c)))
        ∧ (data.length ≠ 4152 → f.committed = false →
          exec (.cWriteBufferDeadline p a h data) s = .next (t.abandonRoutine p a true))
        ∧ (data.length ≠ 4152 → f.committed = true → exec (.cWriteBufferDeadline p a h data) s = .next t))
      ∧ (∀ r g at_, f.run h true = some r → f.running = true → c.power.active = true → c.writeOpen = false →
        t.tbUsable p = true →
        let addr := mkAddr p.val h.val r.track (r.first + r.done)
        t.dueGate p a h addr c.writing.isSome r.fromTime = some (g, at_) →
        let s1 := t.updFmt p a (fun f => { f with held := false, runs := updRun h true (fun r => { r with fromTime := at_ }) f.runs })
        let ready := c.wbuf.any (fun b => b.addr = addr)
        (t.coastHolds p = true → exec (.cWriteGateOpen p a h) s = .next (t.updFmt p a (fun f => { f with held := true })))
        ∧ (t.coastHolds p = false → t.timeRefused p a h = true → exec (.cWriteGateOpen p a h) s = .next (t.sitOutRest p a h))
        ∧ (t.coastHolds p = false → t.timeRefused p a h = false →
          (t.servoOpen p a h = true ∨ c.readOpen = true ∨ crossesWindow g.first g.writeEnd = true) →
          exec (.cWriteGateOpen p a h) s = .next (t.gateConflict p a h))
        ∧ (t.coastHolds p = false → t.timeRefused p a h = false → t.servoOpen p a h = false → c.readOpen = false →
          crossesWindow g.first g.writeEnd = false →
          (c.writing.isSome = true → exec (.cWriteGateOpen p a h) s = .next (s1.updChan p a h (fun c =>
            { c with power := .writing, gateFrom := at_, gateEnd := at_ + BitVec.ofNat 40 (g.writeEnd - g.first),
                     writing := c.writing.map (fun w => { w with isOpen := true, joined := false }) })))
          ∧ (c.writing = none → t.mayWrite p a h r = false → exec (.cWriteGateOpen p a h) s = .next s)
          ∧ (c.writing = none → t.mayWrite p a h r = true → (ready = true ∨ f.committed = true) →
            exec (.cWriteGateOpen p a h) s = .next ((s1.updChan p a h (fun c => c.beginWrite addr at_ g false)).updFmt p a (fun f =>
              { f with committed := true, underrun := f.underrun || !ready })))
          ∧ (c.writing = none → t.mayWrite p a h r = true → ready = false → f.committed = false →
            exec (.cWriteGateOpen p a h) s = .next (s1.abandonRoutine p a true))))
      ∧ (∀ w, (s.lane p a h).chan.writing = some w → w.isOpen = true →
        angleReached (s.lane p a h).chan.gateEnd (s.laneAngle p a h) = true →
        (s.isSplit p a h w.addr = true → w.closed = 0 → w.last = false →
          exec (.cWriteGateClose p a h) s = .next ((s.drive p a h false).updChan p a h (fun c =>
            { c with power := .idle, writing := some { w with closed := 1, isOpen := false } })))
        ∧ ((s.isSplit p a h w.addr = false ∨ w.closed ≠ 0 ∨ w.last = true) →
          let last := match s.gatePlan p a h w.addr (decide (0 < w.closed)) with | some g => g.writeEnd | none => 0
          let s1 := s.closeWrite p a h false
          let s2 := if w.last = true then s1 else (s1.endWriteRun p a h).joinNext p a h (s.lane p a h).chan.gateEnd last
          exec (.cWriteGateClose p a h) s = .next ((s2.checkLife p).afterGates p a))))

/-- R36, R139, R145 to R147, R153, R168 to R172. -/
def Obligations.ReadGates : Prop :=
  ∀ (s : State) (p : PackId) (a : ArmId) (h : HeadId),
    (let t := s.atNext p a h false
     let c := (t.lane p a h).chan
     let f := (t.arm p a).fmt
     (∀ r g at_, f.run h false = some r → f.running = true → c.power.active = true → c.readOpen = false →
      t.tbUsable p = true → f.readTurn r = true →
      let addr := mkAddr p.val h.val r.track (r.first + r.done)
      let second := c.store.any (fun x => x.phase = .reading)
      t.dueGate p a h addr second r.fromTime = some (g, at_) →
      let rate := g.zrec.cells * 10 ^ 11 / max t.packs[p].tb.revPeriod 1
      let t1 := t.updFmt p a (fun f => { f with runs := updRun h false (fun r => { r with fromTime := at_ }) f.runs })
      (f.cancel = true → exec (.cReadGateOpen p a h) s = .next ((t.endRoutine p a 0x1A).kick p a))
      ∧ (f.cancel = false → t.timeRefused p a h = true → exec (.cReadGateOpen p a h) s = .next (t.sitOutRest p a h))
      ∧ (f.cancel = false → t.timeRefused p a h = false →
        (t.servoOpen p a h = true ∨ c.writeOpen = true ∨ crossesWindow g.first g.readEnd = true) →
        exec (.cReadGateOpen p a h) s = .next (t.gateConflict p a h))
      ∧ (f.cancel = false → t.timeRefused p a h = false → t.servoOpen p a h = false → c.writeOpen = false →
        crossesWindow g.first g.readEnd = false →
        (second = true →
          exec (.cReadGateOpen p a h) s = .next (t1.updChan p a h (fun c => c.openRead at_ g rate true ({}, 0))))
        ∧ (second = false → storeRoom c.store = none →
          exec (.cReadGateOpen p a h) s = .next (
            (t1.toLadder p a h { lane := h, addr := addr, reason := 0x10, step := 1, verify := decide (r.type = 2) }).updFmt p a
              (fun f => { f with runs := updRun h false (fun r => r.advance true) f.runs })))
        ∧ (∀ l, second = false → storeRoom c.store = some l →
          let v := t.startValues p a h g.zone g.zrec 0 g.zrec.boost
          exec (.cReadGateOpen p a h) s = .next (t1.updChan p a h (fun c =>
            { c.openRead at_ g rate false v with
              cache := if t.overridden p a h then c.cache else touchCache g.zone t.packs[p].spindle.target c.cache,
              capturing := t.dev.state = .bench && t.param (0xF203 + p.val * 8) 0 == laneSub a h,
              store := l ++ [{ addr := addr, split := g.place.first.isSome, verify := r.type = 2, first := g.place.first.getD 37440,
                               tag := reqTag f.req, restart := f.restarts, loops := v.1.loops,
                               params := t.recParams p }] })))))
     ∧ (f.run h false = none → f.running = true → f.laddering = true → c.power.active = true → c.readOpen = false → c.writeOpen = false →
       t.servoOpen p a h = false → t.tbUsable p = true → exec (.cReadGateOpen p a h) s = .next (t.openLadder p a h)))
    ∧ (∀ r bits, (s.lane p a h).chan.store.find? (fun r => r.phase = .reading) = some r → (s.lane p a h).chan.readOpen = true →
      r.decided = r.closed →
      let second := decide (0 < r.closed)
      let w := recOf r.params 3
      let cells := match s.trackZone p a h (addrTrack r.addr) with | some z => z.2.cells | none => 0
      angleReached (decisionTime (s.lane p a h).chan.gateFrom cells w second) (s.laneAngle p a h) = true →
      let m := decideMark w (recOf r.params (if second then 2 else 1)) (markDistances second w bits)
      let win := bits.take (2 * w + markLen second)
      exec (.cSyncWindowDecision p a h bits) s = .next (s.updChan p a h (fun c =>
        { c with store := updReading .reading (fun r =>
            if second then { r with mark2 := m, frag2 := { r.frag2 with window := win }, decided := r.decided + 1 }
            else { r with mark1 := m, frag1 := { r.frag1 with window := win }, decided := r.decided + 1 }) c.store })))
    ∧ (∀ r0 cells, (s.lane p a h).chan.readOpen = true → angleReached (s.lane p a h).chan.gateEnd (s.laneAngle p a h) = true →
      (s.lane p a h).chan.store.find? (fun r => r.phase = .reading) = some r0 →
      let g := s.readGate p a h (decide (0 < r0.closed)) r0.loops (if r0.closed = 0 then r0.frag1.window else r0.frag2.window) cells
      let s1 := (s.endCapture p a h g.frag.samples).updHealth p a h (fun x => x.sawRead (g.frag.marks.count true) g.slips)
      let r := r0.takeGate g
      let put := fun (s : State) (r : Reading) => s.updChan p a h (fun c =>
        { c with readOpen := false, power := .idle, tail := g.tail, store := updReading .reading (fun _ => r) c.store })
      let s2 := s1.updFmt p a (fun f => { f with runs := updRun h false (fun x => x.advance true) f.runs })
      (r.split = true → r.closed = 1 → exec (.cReadGateClose p a h cells) s = .next (put s1 r))
      ∧ (∀ x, (r.split = false ∨ r.closed ≠ 1) → alignments r.split r.mark1 r.mark2 = some x →
        exec (.cReadGateClose p a h cells) s = .next (put s2 { r with phase := .decoding }))
      ∧ ((r.split = false ∨ r.closed ≠ 1) → alignments r.split r.mark1 r.mark2 = none →
        exec (.cReadGateClose p a h cells) s = .next ((put s2 { r with phase := .ended }).toLadder p a h
          { lane := h, addr := r.addr, reason := 0x10, marksOwn := r.marked, drop0 := r.dropout, verify := r.verify,
            last := some (r.base ((s1.arm p a).fmt.readStep h r.addr)) })))

/-- R148, R172 to R182, R185. -/
def Obligations.SectorRecovery : Prop :=
  ∀ (s : State) (p : PackId) (a : ArmId) (h : HeadId),
    (∀ r a1 a2 fly x snr, ((s.lane p a h).chan.store).find? (fun r => r.phase = .decoding) = some r →
      alignments r.split r.mark1 r.mark2 = some (a1, a2, fly) →
      let put := fun (f : Reading → Reading) => s.updChan p a h (fun c => { c with store := updReading .decoding f c.store })
      let fate := firstDecode (recOf r.params 4) r.relaxed fly a1 a2 (r.llr a1 a2 false) (r.base ((s.arm p a).fmt.readStep h r.addr)) x
      (∀ why e, fate = .failed why e →
        exec (.cFirstDecodeDone p a h x snr) s = .next (put (fun r => { r with phase := .recovering, crcBad := e.crcBad, iter := e.iter })))
      ∧ (∀ e, fate = .final e →
        exec (.cFirstDecodeDone p a h x snr) s = .next (
          let s1 := put (fun r => { r with phase := .ended })
          let s2 := if e.good = true ∧ e.method = 0 then s1.teachCache p a h r else s1
          s2.endSector p a h { e with snr := if e.good then some snr else none })))
    ∧ (∀ r a1 a2 fly x, ((s.lane p a h).chan.store).find? (fun r => r.phase = .recovering) = some r →
      alignments r.split r.mark1 r.mark2 = some (a1, a2, fly) →
      let s1 := s.updChan p a h (fun c => { c with store := updReading .recovering (fun r => { r with phase := .ended }) c.store })
      let fate := recoverStored r.params r.split a1 a2 r.llr x
        { r.base ((s.arm p a).fmt.readStep h r.addr) with flywheel := fly, shift1 := a1, shift2 := a2 } (if r.crcBad then 0x12 else 0x11)
      (∀ e, fate = .final e → exec (.cStoredRecoveryDone p a h x) s = .next (s1.endSector p a h e))
      ∧ (∀ why e, fate = .failed why e → exec (.cStoredRecoveryDone p a h x) s = .next (s1.toLadder p a h
          { lane := h, addr := r.addr, reason := why, marksOwn := r.marked, drop0 := r.dropout, verify := r.verify,
            llr := r.llr a1 a2 false, crcBad := e.crcBad, last := some e })))
    ∧ (∀ addr v x, (s.arm p a).fmt.ladder.find? (fun x => x.lane = h ∧ x.addr = addr) = some x → (s.arm p a).fmt.laddering = true →
      x.passing = true → (s.lane p a h).chan.readOpen = true → angleReached (s.lane p a h).chan.gateEnd (s.laneAngle p a h) = true →
      let r := s.ladderReading p a x v
      let t := s.updLane p a h (fun l =>
        { l with chan := { l.chan with readOpen := false, power := .idle }, health := l.health.sawRead r.marked r.slips })
      let m := r.atMarks
      let x1 := { x with
        marksOwn := r.marked, reads := x.reads + 1,
        llr := if (alignments r.split r.mark1 r.mark2).isSome then r.llr m.1 m.2.1 false else x.llr,
        sum := if x.step = 5 then sumSamples x.sum (r.codeSamples m.1 m.2.1) else x.sum }
      (x.step = 1 → x.drop0 = true → r.dropout = true →
        exec (.cLadderReadDone p a h addr v) s = .next ((t.dropLadder p a x).endSector p a h { r.base 1 with outcome := 0x15 }))
      ∧ (¬(x.step = 1 ∧ x.drop0 = true ∧ r.dropout = true) →
        (∀ e, s.ladderFate p a x r v = .final e →
          exec (.cLadderReadDone p a h addr v) s = .next ((t.dropLadder p a x).endSector p a h e))
        ∧ (∀ why e, s.ladderFate p a x r v = .failed why e →
          exec (.cLadderReadDone p a h addr v) s = .next (t.ladderOn p a { x1 with reason := why, crcBad := e.crcBad, last := some e } e))))
    ∧ (∀ e l, (s.lane p a h).chan.ends = e :: l →
      exec (.cSectorDelivery p a h) s = .next ((s.updChan p a h (fun c => { c with ends := l })).deliverEnd p a h e))

/-- R229, R234 to R241, R245, R252 to R256, R266: each of the four commands answers a next state for every state and operands that meet the
conditions named. The prediction of the next position is a free value (the model's choice). -/
def Obligations.ServoWedge : Prop :=
  ∀ (s : State) (p : PackId) (a : ArmId) (h : HeadId),
    let x := s.arm p a
    let v0 := { x.lanes[h].servo with ladderOffset := s.passOffset p a h }
    (∀ d, s.laneOn p a h = true → x.servo.mode.loaded = true → s.tiles[tileOf p].servoOut = false →
      let r := headWedge x.servo (s.servoParams p) s.packs[p].micro (x.servo.maTrim.getD h.val 0) d (s.demodValid p a h d) v0
      let s2 := (({ s with free := s.free + 1 }.updLane p a h (fun l =>
        { l with servo := { r.1 with predicted := signedNat 40 (Config.freeValue s.free % 2 ^ 40) } })).updServo p a
          (fun u => { u with saturations := sat32 u.saturations r.2, reported := u.reported ||| laneBit h })).countStrokes p a h
      let s4 := if r.1.inhibit = true ∧ ¬ v0.inhibit = true then s2.barWrites p a (laneBit h) else s2
      let s5 := if x.sendsMa h then s4.send (.frame p.val a.val (maFrame h.val r.1.command (s.predictedWedge p a % 256))) else s4
      let all := (List.finRange 16).all (fun g => (s5.arm p a).servo.reported.testBit g.val || !(s5.lane p a g).inService)
      (all = true → exec (.cServoDemodResult p a h d true) s =
        .next ((s5.updServo p a (fun u => { u with reported := 0 })).armWedge p a))
      ∧ (all = false → exec (.cServoDemodResult p a h d true) s = .next s5)
      ∧ exec (.cServoDemodResult p a h d false) s = .next (s.miscompare (tileOf p)))
    ∧ (∀ d same, (s.laneOn p a h = false ∨ x.servo.mode.loaded = false ∨ s.tiles[tileOf p].servoOut = true) →
      exec (.cServoDemodResult p a h d same) s = .next s)
    ∧ (8 ≤ v0.missRun → v0.status ≠ .lost → v0.status ≠ .notInService →
      exec (.cHeadLost p a h true) s = .next (((s.updArm p a (fun x =>
        ({ x.updLane h (fun l =>
             { l with servo := { (l.servo.clearLoop.inhibitNow).followArm x.servo.target with status := .lost, settled := false } }) with
            servo := { x.servo with sitOut := x.servo.sitOut ||| laneBit h } }).settle)).barWrites p a (laneBit h)).updFmt p a
          (fun f => if f.running then { f with satOut := f.satOut ||| laneBit h } else f))
      ∧ exec (.cHeadLost p a h false) s = .next (s.miscompare (tileOf p)))
    ∧ (∀ same, (v0.missRun < 8 ∨ v0.status = .lost ∨ v0.status = .notInService) → exec (.cHeadLost p a h same) s = .next s)
    ∧ (v0.status = .lost → 16 ≤ v0.validRun →
      exec (.cHeadReturn p a h) s = .next (s.updLane p a h (fun l => { l with servo := { l.servo with status := .satOut } })))
    ∧ (v0.status = .lost → v0.validRun < 16 → exec (.cHeadReturn p a h) s = .next s)
    ∧ (exec (.cServoStateCrcCompare p a x.unitCrc) s = .next s)
    ∧ (∀ crc1, crc1 ≠ x.unitCrc →
      exec (.cServoStateCrcCompare p a crc1) s = .next (s.miscompare (tileOf p)))

/-- R250, R252, R258 to R265. R247, R258, R259, R264. -/
def Obligations.ArmLoadsParksAndVcm : Prop :=
  (∀ (s : State) (p : PackId) (a : ArmId),
      let v := (s.arm p a).servo
      (v.mode = .loading →
        exec (.cLoadTimeEnd p a) s = .next ((s.updServo p a (fun v => { v with mode := .searching, setPoint := 0 })).followLocked p a))
      ∧ (v.mode = .searching → s.packs[p].tb.state ≠ .locked →
        exec (.cSearchTimeout p a true) s = .next (((s.parkArm p a).countLoadFailure p a).kickPack p)
        ∧ exec (.cSearchTimeout p a false) s = .next (s.miscompare (tileOf p)))
      ∧ (∀ same, v.mode = .searching → s.packs[p].tb.state = .locked → exec (.cSearchTimeout p a same) s = .next (s.startFollowing p a))
      ∧ (v.mode = .settling → 1024 ≤ v.wedgesSettling →
        let late := ((List.finRange 16).filter (fun h => v.seekLanes.testBit h.val && !(s.arm p a).lanes[h].servo.settled)).foldl
          (fun m h => m ||| laneBit h) 0
        exec (.cSettleTimeout p a true) s = .next ((s.updArm p a (fun x =>
          ({ x with
            servo := { x.servo with sitOut := x.servo.sitOut ||| late },
            lanes := Vector.ofFn (fun h : Fin 16 =>
              let l := x.lanes[h]
              if late.testBit h.val ∧ l.servo.status ≠ LaneServo.lost then
                { l with servo := { l.servo.followArm x.servo.target with status := .satOut } } else l) }).settle)).updFmt
          p a (fun f => if f.running then { f with satOut := f.satOut ||| late } else f))
        ∧ exec (.cSettleTimeout p a false) s = .next (s.miscompare (tileOf p)))
      ∧ (∀ same, v.mode = .settling → v.wedgesSettling < 1024 → exec (.cSettleTimeout p a same) s = .next s)
      ∧ (exec (.cArmPark p a true) s = .next ((s.parkArm p a).kick p a))
      ∧ (exec (.cArmPark p a false) s = .next (s.miscompare (tileOf p)))
      ∧ (v.mode = .parking → exec (.cParkTimeout p a true) s = .next ((s.galeArm p a true false).kick p a)
        ∧ exec (.cParkTimeout p a false) s = .next (s.miscompare (tileOf p)))
      ∧ (∀ same, v.mode ≠ .parking → exec (.cParkTimeout p a same) s = .next s)
      ∧ (v.mode = .parking → v.stage = .unload →
        exec (.cUnloadTimeEnd p a) s = .next (((s.sendCmd p a 4 0).armDown p a .unloaded).kick p a))
      ∧ (∀ out mis, exec (.cGaleRetract p a out mis) s = .next ((s.galeArm p a out mis).kick p a))
      ∧ (v.mode = .gale →
        let s0 := s.updServo p a (fun v => { v with outGale := v.outGale || v.galeOut })
        let s1 := if v.galeMiscompare = true then s0.updSpin p Spindle.stop else s0
        exec (.cGaleTimeEnd p a) s = .next (((s1.armDown p a (if v.galeHard then .out else .unloaded)).checkOut p).kick p a)))
  ∧ (∀ (s : State) (p : PackId) (a : ArmId),
      let v := (s.arm p a).servo
      ((v.mode = .loading ∨ v.mode = .searching ∨ (v.mode = .parking ∧ v.stage ≠ .position)) →
        let est := backEmfVelocity v.coef v s.buses[busOf p].volts (s.vcmPeriod p)
        let drive := sat16 (Config.velocityLoop (Config.freeValue s.free) (v.wantedVelocity a) est)
        let left := v.parkLeft - signedNat 8 (coefAt v.coef 0x0F (8 + a.val) % 256) * est
        exec (.cBackEmfVelocityLoop p a true) s = .next ({ s with free := s.free + 1 }.updServo p a (fun v =>
          { v with setPoint := drive.val, setPointNew := true, saturations := sat32 v.saturations drive.sats,
                   parkLeft := if v.stage = ParkStage.backEmf then left else v.parkLeft,
                   stage := if v.stage = ParkStage.backEmf ∧ left ≤ 0 then .unload else v.stage }))
        ∧ exec (.cBackEmfVelocityLoop p a false) s = .next (s.miscompare (tileOf p)))
      ∧ (∀ current, v.mode.driven = true → s.gatesLive = true →
        let err := v.setPoint - current
        let i := integStep v.currentInteg (coefInt v.coef 0x0D 2 * err) (coefInt v.coef 0x0D 3)
        let u := stageOut (coefInt v.coef 0x0D 1 * err + i.val) (coefAt v.coef 0x0D 4)
        let bus := s.buses[busOf p].volts
        let lim := coefInt v.coef 0x0D 9
        let duty := clampTo lim (if bus = 0 then u.val else roundDiv (u.val * Config.nominalBus) bus)
        exec (.cVcmCurrentLoop p a current) s = .next (s.updServo p a (fun v =>
          { v with current := current, lastCurrent := v.current, currentInteg := i.val, duty := duty, setPointNew := false,
                   legs := if v.mode = .gale then Vector.replicate 2 {} else bridgeLegs (s.vcmPeriod p) (s.param 0x7030 11) duty,
                   saturations := sat32 v.saturations (i.sats + u.sats),
                   noSetPoint := if v.setPointNew then 0 else v.noSetPoint + 1 })))
      ∧ ((v.mode.driven = false ∨ s.gatesLive = false) → ∀ current, exec (.cVcmCurrentLoop p a current) s = .next s)
      ∧ (v.mode.driven = true → 4 ≤ v.noSetPoint → exec (.cVcmSetpointWatchdog p a) s = .next ((s.galeArm p a true false).kick p a))
      ∧ (v.noSetPoint < 4 → exec (.cVcmSetpointWatchdog p a) s = .next s)
      ∧ (∀ t, s.tileFitted t = true →
        exec (.cTilePllUnlock t) s = .next ((packsOfTile t).foldl (fun s p => (s.galePack p false false).kickPack p) s)))

/-- R276 to R280, R284, R289, R519: the values that the spec gives a period of the loops; the transformations and the speed error's scale are free
(the model's choice, Config). -/
def Obligations.SpindleLoops : Prop :=
  ∀ (s : State) (p : PackId),
    let x := s.packs[p].spindle
    (∀ shunt observer angle moved, s.gatesLive = true → x.braking = false → x.state.driven = true →
      ∃ t : State, exec (.cSpindleCurrentLoop p shunt observer angle moved) s = .next t
        ∧ (let y := t.packs[p].spindle
           y.missedSamples = (if shunt.isSome then x.missedSamples else sat32 x.missedSamples 1)
           ∧ y.forced = (if x.state = .forced then x.forced + (x.forcedFrac + x.coef 0x1D 1 * 1024 * s.pwmPeriod p) / 10 ^ 9 else x.forced)
           ∧ y.forcedFrac = (if x.state = .forced then (x.forcedFrac + x.coef 0x1D 1 * 1024 * s.pwmPeriod p) % 10 ^ 9 else x.forcedFrac)
           ∧ (x.state ≠ .forced → y.agreeRun = 0)
           ∧ (x.state = .forced →
              y.agreeRun = if observer * 1024 * 10 ≤ y.forced * 11 ∧ y.forced * 9 ≤ observer * 1024 * 10 then x.agreeRun + 1 else 0)
           ∧ y.qSet = (if x.noDrive = true then 0 else if x.state = .align then x.scaled (x.coef 0x1C 2)
               else if x.state = .forced then x.scaled (x.coef 0x1C 1) else x.qSet)
           ∧ y.debt = #v[moved.1, moved.2.1, moved.2.2]
           ∧ y.shift = windowShifts (s.param 0x7030 8) y.duty
           ∧ y.sampleAt = sampleTimes (s.pwmPeriod p) (s.param 0x7030 8) (s.param 0x7030 9) y.duty
           ∧ (y.state, y.target, y.speed, y.attempts) = (x.state, x.target, x.speed, x.attempts))
        ∧ t.packs[p] = { s.packs[p] with spindle := t.packs[p].spindle }
        ∧ (∀ q, q ≠ p → t.packs[q] = s.packs[q]))
    ∧ (∀ shunt observer angle moved, s.gatesLive = true → x.braking = true →
      ∃ t : State, exec (.cSpindleCurrentLoop p shunt observer angle moved) s = .next t
        ∧ (let y := t.packs[p].spindle
           y = { x with brakeOn := y.brakeOn, duty := #v[0, 0, 0], legs := Vector.replicate 3 { low := [(0, y.brakeOn)] },
                        sampleAt := (y.brakeOn + 500, 0),
                        current := match shunt with | some v => x.milliamps (Config.brakeCurrent v.first) | none => x.current })
        ∧ t.packs[p].spindle.brakeOn ≤ max x.brakeOn (s.pwmPeriod p)
        ∧ (∀ v, shunt = some v → x.scaled (x.coef 0x1C 4) < v.first → t.packs[p].spindle.brakeOn < max x.brakeOn 1))
    ∧ ((s.gatesLive = false ∨ (x.braking = false ∧ x.state.driven = false)) → ∀ shunt observer angle moved,
      exec (.cSpindleCurrentLoop p shunt observer angle moved) s = .next s)
    ∧ (∀ observer backward, x.state ≠ .off →
      let speed := s.measuredSpeed p observer
      ∃ s1 : State, exec (.cSpindleSpeedLoop p observer backward) s = .next (((s1.tbSpeed p).checkRemoval p).spinSpeed p)
        ∧ (let y := s1.packs[p].spindle
           let closed := x.state = .accelerate ∨ x.state = .atSpeed ∨ x.state = .stop
           y.speed = speed ∧ y.backward = backward ∧ (y.state, y.target, y.attempts) = (x.state, x.target, x.attempts)
           ∧ (¬ closed → y.ref = x.ref ∧ y.qSet = x.qSet)
           ∧ (closed → (x.noDrive = true ∨ x.shortBrake = true) → y.qSet = 0)
           ∧ (y.overRun = if x.target ≠ 0 ∧ x.target * 105 < speed * 100 then x.overRun + 1 else 0)
           ∧ (y.inWindowRun = if x.target ≠ 0 ∧ closed ∧ withinMille (x.coef 0x1D 3) speed x.target = true then min (x.inWindowRun + 1) 32 else 0)
           ∧ (y.devRun = if x.state = .atSpeed ∧ s.packs[p].arms.any (fun a => a.servo.mode.loaded) = true ∧ withinMille 20 speed x.target = false
              then x.devRun + 1 else 0))
        ∧ s1.packs[p] = { s.packs[p] with spindle := s1.packs[p].spindle }
        ∧ (∀ q, q ≠ p → s1.packs[q] = s.packs[q]))
    ∧ (x.state = .off → ∀ observer backward, exec (.cSpindleSpeedLoop p observer backward) s =
      .next (((s.updSpin p (fun x => { x with speed := s.measuredSpeed p observer, backward := backward })).tbSpeed p).checkRemoval p))

/-- R272, R280 to R288, R296. -/
def Obligations.SpindleStartsAndStops : Prop :=
  ∀ (s : State) (p : PackId),
    let x := s.packs[p].spindle
    (32 ≤ x.inWindowRun → x.inWindow = false → (x.state = .accelerate ∨ x.state = .atSpeed) →
      exec (.cSpeedInWindow p) s = .next ((((s.updSpin p (fun x => { x with inWindow := true, state := .atSpeed, attempts := 0 })).releaseSpin p).checkLoaded p).admissionPass))
    ∧ (16 ≤ x.overRun → exec (.cSpindleOverspeed p) s = .next ((s.packFail p 12).kickPack p))
    ∧ (x.overRun < 16 → exec (.cSpindleOverspeed p) s = .next s)
    ∧ (16 ≤ x.devRun → exec (.cSpindleSpeedDeviation p) s = .next ((s.packFail p 12).kickPack p))
    ∧ (∀ speed backward amplitude angle, x.state = .watch →
      let w := x.watched speed backward amplitude (Config.freeValue s.free)
      exec (.cWatchEnd p speed backward amplitude angle) s = .next ((({ s with free := s.free + 1 } : State).updSpin p (fun x =>
        let y := { x with speed := w.1, backward := w.2 }
        let z := if ¬ w.2 = true ∧ x.target * 5 < w.1 * 100 then
            { y.fresh with state := .accelerate, ref := w.1 * 1024, catches := sat32 x.catches 1, qSet := 0, dInteg := 0, qInteg := 0, sInteg := 0,
                           feed := amplitude, caught := some (angle % 2 ^ 28) }
          else if x.target ≤ w.1 * 100 then { y with state := .brake, stopAfterBrake := false }
          else { y with state := .align }
        if s.buses[busOf p].fault then z.faultBrake else z)).tbSpeed p))
    ∧ (x.state ≠ .watch → ∀ speed backward amplitude angle, exec (.cWatchEnd p speed backward amplitude angle) s = .next s)
    ∧ (x.state = .align →
      exec (.cAlignEnd p) s = .next (s.updSpin p (fun x => { x with state := .forced, forced := 0, forcedFrac := 0, forcedAngle := 0, agreeRun := 0 })))
    ∧ (x.state = .forced → 64 ≤ x.agreeRun →
      exec (.cForcedHandover p) s = .next (s.updSpin p (fun x =>
        { x.fresh with state := .accelerate, ref := x.forced, attempts := 0, starts := sat32 x.starts 1 })))
    ∧ (x.state = .forced → x.agreeRun < 64 → x.target * 1024 ≤ x.forced * 10 → x.attempts < 2 →
      exec (.cStartAttemptFailed p) s = .next (s.updSpin p (fun x =>
        { x.gatesOff with attempts := x.attempts + 1, state := .watch, forced := 0, forcedFrac := 0, agreeRun := 0, qSet := 0,
                          motor := s.motorSet p })))
    ∧ (x.state = .forced → x.agreeRun < 64 → x.target * 1024 ≤ x.forced * 10 → 2 ≤ x.attempts →
      exec (.cStartAttemptFailed p) s = .next (s.updSpin p (fun x => { x.off with attempts := x.attempts + 1 })))
    ∧ (s.packs[p].armsDown = true → x.stopDue = true → (x.state = .forced ∨ x.state = .accelerate ∨ x.state = .atSpeed) →
      exec (.cControlledStopBegin p) s = .next (s.updSpin p (fun x =>
        { x.fresh with state := .stop, stopDue := false, stopTo := none, shortBrake := false })))
    ∧ (s.packs[p].armsDown = true → x.stopDue = true → (x.state = .watch ∨ x.state = .align) →
      exec (.cControlledStopBegin p) s = .next ((s.updSpin p Spindle.off).checkRemoval p))
    ∧ (s.packs[p].armsDown = true → x.stopDue = true → x.state = .brake →
      exec (.cControlledStopBegin p) s = .next (s.updSpin p (fun x => { x with stopAfterBrake := true, stopDue := false })))
    ∧ (s.packs[p].armsDown = false → exec (.cControlledStopBegin p) s = .next s)
    ∧ (s.packFitted p = true →
      exec (.cPowerStageFault p) s = .next (
        (((((s.updSpin p (fun y => y.freewheelBy false)).galePack p false false).raisePack p 4).packFail p 12)).kickPack p))

/-- R291 to R294: a bus's sample and the conditions on its runs. -/
def Obligations.MotorBuses : Prop :=
  ∀ (s : State) (x : BusId),
    let b := s.buses[x]
    let th := fun i => s.param 0x7030 i
    (∀ code feedback, s.busFitted x = true →
      ∃ t : State, exec (.cMotorBusSample x code feedback) s = .next t
        ∧ (let c := t.buses[x]
           c.volts = code * 75 / 8 ∧ c.peak = max b.peak (code * 75 / 8) ∧ c.feedback = feedback ∧ c.fault = b.fault
           ∧ ((b.fault = true ∨ s.gatesLive = false) → c.gate = false)
           ∧ (b.fault = false → s.gatesLive = true → th 1 * 8 ≤ code * 75 → c.gate = true)
           ∧ (b.fault = false → s.gatesLive = true → code * 75 < th 1 * 8 → code * 75 ≤ th 2 * 8 → c.gate = false)
           ∧ (b.fault = false → s.gatesLive = true → code * 75 < th 1 * 8 → th 2 * 8 < code * 75 → c.gate = b.gate)
           ∧ (c.activations = if c.gate = true ∧ b.gate = false then sat32 b.activations 1 else b.activations)
           ∧ (code * 75 < th 3 * 8 → c.faultRun = 0) ∧ (th 3 * 8 ≤ code * 75 → c.faultRun = min (b.faultRun + 1) (2 ^ 20))
           ∧ (code * 75 < th 4 * 8 → c.freewheelRun = 0) ∧ (th 4 * 8 ≤ code * 75 → c.freewheelRun = min (b.freewheelRun + 1) (2 ^ 20))
           ∧ (th 5 * 8 ≤ code * 75 → c.releaseRun = 0) ∧ (code * 75 < th 5 * 8 → c.releaseRun = min (b.releaseRun + 1) (2 ^ 20))
           ∧ (th 6 * 8 < code * 75 → c.underRun = 0) ∧ (code * 75 ≤ th 6 * 8 → c.underRun = min (b.underRun + 1) (2 ^ 20)))
        ∧ t = { s with buses := t.buses } ∧ (∀ y, y ≠ x → t.buses[y] = s.buses[y]))
    ∧ (b.feedback = b.gate → exec (.cChopperFeedbackTimeout x) s = .next s)
    ∧ (s.busFitted x = true → b.fault = false → b.feedback ≠ b.gate →
      exec (.cChopperFeedbackTimeout x) s = .next (
        (((s.updBus x (fun b => { b with fault := true, gate := false })).forBus x (fun s p => s.updSpin p (fun y =>
          if y.state.braked then y.faultBrake else y))).raise (48 + 2 * x.val)).forBus x (fun s p => (s.packFail p 13).kickPack p)))
    ∧ (4 ≤ b.faultRun → exec (.cChopperFault x) s = .next (s.chopperFault x))
    ∧ (b.faultRun < 4 → exec (.cChopperFault x) s = .next s)
    ∧ (2 ≤ b.freewheelRun → b.freewheel = false →
      exec (.cBusFreewheel x) s = .next ((s.updBus x (fun b => { b with freewheel := true })).forBus x (fun s p =>
        s.updSpin p (fun y => y.freewheelBy true))))
    ∧ (2 ≤ b.releaseRun → b.freewheel = true →
      exec (.cBusFreewheelRelease x) s = .next ((s.updBus x (fun b => { b with freewheel := false })).forBus x (fun s p => s.updSpin p (fun y =>
        if y.state = .freewheel ∧ y.byBus then y.faultBrake else y))))
    ∧ (100 ≤ b.underRun → b.undervoltage = false →
      exec (.cBusUndervoltage x) s = .next (((s.updBus x (fun b => { b with undervoltage := true })).forBus x (fun s p => s.updSpin p (fun y =>
        { y with noDrive := true, qSet := 0 }))).raise (49 + 2 * x.val)))
    ∧ (100 ≤ b.underEndRun → b.undervoltage = true →
      exec (.cBusUndervoltageEnd x) s = .next ((s.updBus x (fun b => { b with undervoltage := false })).forBus x (fun s p => s.updSpin p (fun y =>
        let z := { y with noDrive := false, ref := y.speed * 1024 }
        if y.state = .atSpeed ∧ ¬ withinMille (y.coef 0x1D 3) y.speed y.target then { z.fresh with state := .accelerate } else z))))

/-- R321 to R330, R368: what each object command does once it runs. -/
def Obligations.ObjectCommands : Prop :=
  ∀ (s : State) (q : SeqId) (c : CtxId),
    let x := s.ctx q c
    let l := x.chain
    let h := s.chainHash l
    (∀ data s1, s.Runs q c 1 → s.behindOlder x.ring x.slot h = false → s.takeLock h x.ring x.slot = (true, s1) →
      (∀ st v, conditionFails l (s1.store.entry h) false = some (st, v) → exec (.cPut q c data) s = .next (s1.finish q c st 0 v))
      ∧ (∀ i slot ext w s2, conditionFails l (s1.store.entry h) false = none → s1.putSpan (fieldAt l 6 1) = some i → s1.spanTakes i = true →
        s1.formVersion i h (padTo (fieldAt l 0x10 8) data) (isDurable l) = .ok (slot, ext, w, s2) →
        exec (.cPut q c data) s = .next (s2.commitVersion q c x i h (padTo (fieldAt l 0x10 8) data).length slot ext w))
      ∧ (∀ i st, conditionFails l (s1.store.entry h) false = none → s1.putSpan (fieldAt l 6 1) = some i → s1.spanTakes i = true →
        s1.formVersion i h (padTo (fieldAt l 0x10 8) data) (isDurable l) = .error st →
        exec (.cPut q c data) s = .next (s1.finish q c st 0 0)))
    ∧ (∀ data s1, s.Runs q c 1 → s.behindOlder x.ring x.slot h = false → s.takeLock h x.ring x.slot = (false, s1) →
      exec (.cPut q c data) s = .next (s1.suspendCtx q c 0))
    ∧ (let t := s.pollJobs
      let h := t.chainHash l
      s.Runs q c 2 → t.store.gets.find? (fun g => g.ring = x.ring ∧ g.slot = x.slot) = none → t.behindOlder x.ring x.slot h = false →
      (t.store.entry h = none → exec (.cGet q c) s = .next (t.finish q c 0x20 0 0))
      ∧ (∀ e st v, t.store.entry h = some e → conditionFails l (some e) true = some (st, v) →
        exec (.cGet q c) s = .next (t.finish q c st 0 v))
      ∧ (∀ e, t.store.entry h = some e → conditionFails l (some e) true = none → e.size < fieldAt l 8 8 →
        exec (.cGet q c) s = .next (t.finish q c 0x17 0 0))
      ∧ (∀ e, t.store.entry h = some e → conditionFails l (some e) true = none → fieldAt l 8 8 ≤ e.size →
        exec (.cGet q c) s = .next (((t.commitCmd x.ring x.slot).updStore (fun t =>
          { t with gets := t.gets ++ [⟨x.ring, x.slot, e⟩] })).getVersion q c x e)))
    ∧ (∀ g u (i : g.entry.span < 8), s.GoesOn q c g →
      let z : SpanId := ⟨g.entry.span, i⟩
      let off := fieldAt l 8 8
      let stop := min (off + fieldAt l 0x10 8) g.entry.size
      let addrs := ((g.entry.pieces (s.pollJobs.store.spans[z].k * leafBytes)).filter (fun y =>
        decide (y.2.1 < stop ∧ off < y.2.2))).map (fun y => y.1)
      (s.pollJobs.gather z (some (x.ring, x.slot)) addrs = (u, true) → exec (.cGet q c) s = .next u)
      ∧ (∀ r n, s.pollJobs.gather z (some (x.ring, x.slot)) addrs = (u, false) → u.ring? x.ring = some r → 0 < n →
        let v := u.sendHost (.write r.conn (fieldAt l 0x18 8) (fieldAt l 0x20 4) (((u.objectBytes g.entry).drop off).take n) none)
        (u.goodPrefix z g.entry off stop (u.undelivered z (some (x.ring, x.slot))) = (n, none) →
          exec (.cGet q c) s = .next (((v.settleReads (x.ring, x.slot)).finish q c 0 g.entry.size g.entry.version).killUnnamed))
        ∧ (∀ a, u.goodPrefix z g.entry off stop (u.undelivered z (some (x.ring, x.slot))) = (n, some a) →
          exec (.cGet q c) s =
            .next ((((v.countLost z a).settleReads (x.ring, x.slot)).finish q c 0x34 n g.entry.version).killUnnamed))))
    ∧ (∀ data s1, s.Runs q c 3 →
      let h := s.pollJobs.chainHash l
      s.pollJobs.behindOlder x.ring x.slot h = false → s.pollJobs.takeLock h x.ring x.slot = (true, s1) →
      (s1.store.entry h = none → exec (.cPatch q c data) s = .next (s1.finish q c 0x20 0 0))
      ∧ (∀ e u (i : e.span < 8), s1.store.entry h = some e → conditionFails l (some e) true = none →
        let z : SpanId := ⟨e.span, i⟩
        let off := fieldAt l 8 8
        let n := fieldAt l 0x10 8
        off ≤ e.size → off + n < 2 ^ 40 → s1.spanTakes z = true →
        let size := max e.size (off + n)
        let whole : Bool := decide (size < 262144 ∨ e.size < 262144)
        let addrs := e.patched (s1.store.spans[z].k * leafBytes) off n whole
        (s1.gather z (some (x.ring, x.slot)) addrs = (u, true) → exec (.cPatch q c data) s = .next u)
        ∧ (s1.gather z (some (x.ring, x.slot)) addrs = (u, false) →
          addrs.all (fun a => u.stripeReads z a (u.undelivered z (some (x.ring, x.slot)))) = true →
          ∀ slot ext w s2,
            (if whole then (u.settleReads (x.ring, x.slot)).formVersion z h
                (patchBytes ((u.settleReads (x.ring, x.slot)).objectBytes e) off (padTo n data)) (isDurable l)
              else (u.settleReads (x.ring, x.slot)).patchStripes z e off (padTo n data)) = .ok (slot, ext, w, s2) →
            exec (.cPatch q c data) s = .next (s2.commitVersion q c x z h size slot ext w))))
    ∧ (∀ data s1, s.Runs q c 3 →
      let h := s.pollJobs.chainHash l
      s.pollJobs.behindOlder x.ring x.slot h = false → s.pollJobs.takeLock h x.ring x.slot = (false, s1) →
      exec (.cPatch q c data) s = .next (s1.suspendCtx q c 0))
    ∧ (∀ s1, s.Runs q c 4 → s.behindOlder x.ring x.slot h = false → s.takeLock h x.ring x.slot = (true, s1) →
      (s1.store.entry h = none → exec (.cDelete q c) s = .next (s1.finish q c 0x20 0 0))
      ∧ (∀ e, s1.store.entry h = some e → conditionFails l (some e) true = none →
        exec (.cDelete q c) s = .next ((s1.updStore (fun t => { t with counter := t.counter + 1 })).commitChange q c x
          { slot := e.slot, hash := h, entry := none, gen := e.version, durable := if isDurable l then some (x.ring, x.slot) else none })))
    ∧ (∀ r, s.Runs q c 5 → s.ring? x.ring = some r →
      let found := s.store.listRange (fieldAt l 0x30 16) (fieldAt l 68 16) (fieldAt l 84 16) (fieldAt l 0x10 8)
      let s1 := if found.1.isEmpty then s
        else s.sendHost (.write r.conn (fieldAt l 0x18 8) (fieldAt l 0x20 4) ((found.1.map s.listRecord).flatten) none)
      exec (.cList q c) s = .next ((s1.sendHost (.write r.conn (r.slotAddr (x.slot + 1) + 0x30) r.key (natBytes 16 found.2) none)).finish q c 0
        found.1.length 0))
    ∧ (s.Runs q c 0x0F → exec (.cNopCommand q c) s = .next (s.finish q c 0 0 0))

/-- R320, R325, R331 to R335. -/
def Obligations.LocksStripesAndJournal : Prop :=
  ∀ (s : State),
    (∀ hash k w rest, s.store.lock? hash = some k → k.holder = none → k.waiters = w :: rest →
      exec (.cKeyLockGrant hash) s = .next ((s.updStore (fun t =>
        { t with locks := t.locks.map (fun y => if y.hash = hash then { y with holder := some w, waiters := rest } else y) })).updSvc (fun v =>
          { v with seqs := v.seqs.map (fun q => { q with ctx := q.ctx.map (fun x =>
            if x.busy ∧ x.ring = w.1 ∧ x.slot = w.2 ∧ x.wait = .block 0 then { x with wait := .none } else x) }) })))
    ∧ (∀ x : SpanId, ∀ p t, s.store.spans[x].petit = some p → p.durableAt = some t → exec (.cPetitFourDurableSeal x) s = .next (s.sealPetit x))
    ∧ (∀ x : SpanId, ∀ p t, s.store.spans[x].petit = some p → p.lazyAt = some t → exec (.cPetitFourLazySeal x) s = .next (s.sealPetit x))
    ∧ (∀ x : SpanId, ∀ p, s.store.spans[x].petit = some p → p.durableAt = none → exec (.cPetitFourDurableSeal x) s = .next s)
    ∧ (∀ (x : SpanId) addr t, (s.tryPlace x addr).store.spans[x].stripe? addr = some t →
      exec (.cStripePlacementRetry x addr) s = .next (((s.tryPlace x addr).leavesDue x t).foldl (fun s j =>
        (s.moveLeaf x addr j false none (fun _ => false)).getD s) (s.tryPlace x addr)))
    ∧ (∀ (p : PackId) (a : ArmId) (tag : Nat) w r (h : w.span < 8),
      s.store.writes.find? (fun w => w.tag = tag ∧ w.loc.pack = p.val ∧ w.loc.band % 2 = a.val) = some w →
      s.recordOf p a tag = some r → wroteWhole r = true → s.clusters.failOver = none →
      exec (.cLeafWriteDone p a tag) s = .next ((((((s.updStore (fun t => { t with writes := t.writes.filter (fun y => y.tag ≠ tag) })).leafPlaced
        ⟨w.span, h⟩ w).saveBands).noteLeft ⟨w.span, h⟩).noteEmpty).noteSpans))
    ∧ (s.store.journal ≠ [] → s.journalFree = true → s.store.journalWhole = true →
      exec (.cJournalSectorCommit true) s = .next ((s.writeSectors 1).commitJournal 32))
    ∧ (∀ untorn, s.store.journal ≠ [] → s.journalFree = true → (untorn = false ∨ s.store.journalWhole = false) →
      exec (.cJournalSectorCommit untorn) s = .next (s.writeSectors 1))
    ∧ (∀ untorn, (s.store.journal = [] ∨ s.journalFree = false) → exec (.cJournalSectorCommit untorn) s = .next s)
    ∧ (s.store.journalWhole = true → s.journalFree = true → exec .cJournalLagExpiry s =
      .next ((s.writeSectors (ceilDiv s.store.journal.length 32)).commitJournal s.store.journal.length))
    ∧ ((s.store.journalWhole = false ∨ s.journalFree = false) → exec .cJournalLagExpiry s = .next s)
    ∧ (s.store.formed = true → s.store.journalWhole = true →
      let n := s.store.segment
      let s0 := s.queueBodies [.mark n] none
      let s1 := (s0.writeSectors (ceilDiv s0.store.journal.length 32)).commitJournal s0.store.journal.length
      let s2 := s1.store.current.foldl (fun s p => s.sendSegment p n) s1
      let segs := s1.store.disk.segs.filter (fun x => x.num ≠ n) ++ [s1.segmentNow n]
      let oldest := if segs.length < s.segmentCount then 0 else (segs.map (fun x => x.mark)).foldl min (s1.segmentNow n).mark
      exec .cCheckpointSegmentWrite s = .next ((s2.updStore (fun t =>
        { t with segment := (n + 1) % max s.segmentCount 1,
                 disk := { t.disk with packs := t.current, escrow := t.disk.escrow || s.param 0x7404 2 != 0, segs := segs,
                                       log := t.disk.log.filter (fun r => decide (oldest < r.seq)) } })).saveBands))
    ∧ (∀ p : PackId, s.store.formed = true → s.store.packs.contains p.val = true → s.store.current.contains p.val = false → s.packs[p].state = .ready →
      exec (.cJournalPackReplace p) s = .next (((((s.journalBands p).bringUp p.val).updStore (fun t =>
        { t with current := t.current ++ [p.val] })).updStore (fun t => { t with disk := { t.disk with packs := t.current } })).noteSpans))

/-- R339 to R344. -/
def Obligations.BackgroundWork : Prop :=
  ∀ (s : State),
    (∀ (p : PackId) (a : ArmId), ∃ l : List Nat, l.length = 4 ∧
      (let total := if (s.pendingWork p).any id then 1000000000 * s.param 0x2010 1 / 256 else 0
       exec (.cBackgroundWindow p a) s = .next ((s.updStore (fun t =>
         { t with windows := t.windows.filter (fun w => ¬(w.pack = p.val ∧ w.arm = a.val))
             ++ [{ pack := p.val, arm := a.val, start := s.now, total := total, parts := l }] })).kick p a)
       ∧ l.sum ≤ total))
    ∧ (∀ (p : PackId) x, s.spanOf p = some x → s.packs[p].state = .absent →
      exec (.cRebuildDelayExpiry p) s = .next ((s.updSpan x (fun y =>
        { y with rebuilding := y.rebuilding ||| 2 ^ p.val, rebuilt := if y.rebuilding = 0 then 0 else y.rebuilt })).noteSpans))
    ∧ (∀ (p : PackId), s.packs[p].state ≠ .absent → exec (.cRebuildDelayExpiry p) s = .next s)
    ∧ (∀ (x : SpanId) addr t,
      let u := s.pollJobs
      let y := u.store.spans[x]
      y.stripe? addr = some t → u.rebuildLeaves x t ≠ [] → u.lostLeaves y t ≤ t.m →
      ((y.live.filter (fun z => !(u.rebuildLeaves x z).isEmpty && decide (u.lostLeaves y z ≤ z.m))).map (u.lostLeaves y)).foldl max 0
        ≤ u.lostLeaves y t →
      let l := u.survivors x t
      let s1 := l.foldl (fun s j => (s.fetchLeaf x addr j 0).1) u
      let ends := l.map (fun j => (j, (s1.store.job? none false x.val addr j).bind (fun y => y.ended)))
      (ends.any (fun e => e.2.isNone) = true → exec (.cRebuildStripe x addr) s = .next s1)
      ∧ (ends.any (fun e => e.2.isNone) = false → ends.find? (fun e => e.2.any (fun r => !goodOutcome r.1)) = none →
        exec (.cRebuildStripe x addr) s = .next ((s1.rebuildLeaves x t).foldl (fun s j =>
          (s.moveLeaf x addr j true (some 0) (fun _ => false)).getD s)
            (s1.dropJobs (fun j => j.who = none ∧ j.verify = false ∧ j.span = x.val ∧ j.addr = addr)))))
    ∧ (∀ (x : SpanId) addr leaf t l,
      let u := s.pollJobs
      u.store.spans[x].stripe? addr = some t → t.locs.getD leaf none = some l →
      (u.packState l.pack = .draining ∨ u.packState l.pack = .spent ∨ u.store.spans[x].leaving.testBit l.pack = true) →
      u.store.writes.any (fun w => w.span = x.val ∧ w.addr = addr ∧ w.leaf = leaf) = false →
      (∀ s1, u.fetchLeaf x addr leaf 0 = (s1, none) → exec (.cDrainLeaf x addr leaf) s = .next s1)
      ∧ (∀ s1 e, u.fetchLeaf x addr leaf 0 = (s1, some e) → goodOutcome e.1 = true →
        exec (.cDrainLeaf x addr leaf) s = .next ((s1.moveLeaf x addr leaf true (some 0) (fun p => p == l.pack)).getD s1))
      ∧ (∀ s1 e, u.fetchLeaf x addr leaf 0 = (s1, some e) → goodOutcome e.1 = false →
        exec (.cDrainLeaf x addr leaf) s = .next (s1.failJob x addr leaf e)))
    ∧ (∀ (x : SpanId) addr leaf, s.pollJobs.store.spans[x].stripe? addr = none →
      exec (.cDrainLeaf x addr leaf) s = .next ((s.pollJobs.noteLeft x).noteEmpty))
    ∧ (∀ (p : PackId) (b : Nat) (x : SpanId),
      let u := s.pollJobs
      u.spanOf p = some x →
      u.store.spans[x].bands.any (fun u => u.pack = p.val ∧ u.band = b ∧ ¬ u.isOpen) = true → (u.packs[p].band 0 b).type = .sequential →
      let live := u.bandLive x p.val b
      let coming := u.store.writes.any (fun w => w.loc.pack = p.val ∧ w.loc.band = b)
      (live = [] → coming = false → exec (.cCompactionBand p b none) s = .next (u.resetBand x p b))
      ∧ (live = [] → coming = true → exec (.cCompactionBand p b none) s = .next u)
      ∧ (live ≠ [] → live.length * 1000 < u.param 0x2010 8 * u.packs[p].bandLeaves b →
        exec (.cCompactionBand p b none) s = .next (live.foldl (fun s' v =>
          if u.store.writes.any (fun w => w.span = x.val ∧ w.addr = v.1 ∧ w.leaf = v.2) then s'
          else match s'.store.spans[x].stripe? v.1 with
            | some z => if s'.petitSparse x z = true then s'.repackPetit x z else s'.copyLeaf x v.1 v.2
            | none => s') u)))
    ∧ (∀ (x : SpanId) addr leaf t,
      let u := s.pollJobs
      u.store.spans[x].stripe? addr = some t → t.state ≠ .dead → (t.locs.getD leaf none).isSome = true →
      (u.store.job? none true x.val addr leaf = none → u.scrubDue t leaf = true →
        exec (.cScrubLeaf x addr leaf) s = .next (u.readLeaf x addr leaf none true (some 2) []))
      ∧ (u.store.job? none true x.val addr leaf = none → u.scrubDue t leaf = false → exec (.cScrubLeaf x addr leaf) s = .next u)
      ∧ (∀ j e, u.store.job? none true x.val addr leaf = some j → j.ended = some e →
        let s1 := (u.dropJobs (fun y => y.tag = j.tag)).updStripe x addr (fun t =>
          { t with scrubbed := (t.scrubbed ++ List.replicate (t.k + t.m - t.scrubbed.length) none).set leaf (some u.now) })
        ((u.stripeReads x addr [(addr, leaf)] = true ∨ finalLoss e.1 = false) →
          exec (.cScrubLeaf x addr leaf) s = .next (s1.outcomeAction x addr leaf e.1 e.2))
        ∧ (u.stripeReads x addr [(addr, leaf)] = false → finalLoss e.1 = true →
          exec (.cScrubLeaf x addr leaf) s = .next ((s1.outcomeAction x addr leaf e.1 e.2).countLost x addr))))
    ∧ (s.dev.state = .selfTest ∨ s.dev.state = .opened →
      let ready := (List.finRange 32).filter (fun p : Fin 32 => s.packs[p].state = .ready)
      let mask := ready.foldl (fun m p => m ||| 2 ^ p.val) 0
      exec .cSelfTestShort s = .next (ready.foldl (fun s p => s.startTest 1 p) (s.updStore (fun t =>
        { t with selfTest := { kind := if ready = [] then 0 else 1, running := mask } })))
      ∧ exec .cSelfTestExtended s = .next (ready.foldl (fun s p => s.startTest 2 p) (s.updStore (fun t =>
        { t with selfTest := { kind := if ready = [] then 0 else 2, running := mask } })))
      ∧ exec .cSelfTestStop s = .next (s.updStore (fun t =>
        { t with selfTest := { t.selfTest with kind := 0, running := 0, stopped := t.selfTest.stopped ||| t.selfTest.running } })))
    ∧ (s.dev.state ≠ .selfTest → s.dev.state ≠ .opened →
      ∀ c ∈ [Instr.cSelfTestShort, .cSelfTestExtended, .cSelfTestStop], exec c s = .next s)
    ∧ (∀ p : PackId, s.store.selfTest.running.testBit p.val = true → s.testLeft p = [] →
      let left := s.store.selfTest.running &&& (0xFFFFFFFF ^^^ 2 ^ p.val)
      (s.testPassed p = true → exec (.cSelfTestShareEnd p) s = .next (s.updStore (fun t => { t with selfTest := { t.selfTest with
        running := left, kind := if left = 0 then 0 else t.selfTest.kind, passed := t.selfTest.passed ||| 2 ^ p.val } })))
      ∧ (s.testPassed p = false → exec (.cSelfTestShareEnd p) s = .next ((s.updStore (fun t => { t with selfTest := { t.selfTest with
        running := left, kind := if left = 0 then 0 else t.selfTest.kind, failed := t.selfTest.failed ||| 2 ^ p.val } })).raisePack p 2)))
    ∧ (∀ p : PackId, s.testLeft p ≠ [] → exec (.cSelfTestShareEnd p) s = .next s)

/-- R302, R312, R347, R401. -/
def Obligations.StoreAndSpanCommands : Prop :=
  (∀ s : State, s.dev.state = .assemble → (List.range 8).all s.spanConfigOk = true →
    (s.regionSizes.foldl (· + ·) 0 + 4) * 2 ^ 30 ≤ s.bufSize →
    ∃ t : State, exec .cStoreInitialise s = .next t.noteSpans ∧ t.store.formed = true ∧ t.store.counter = 1 ∧ t.store.objs = []
      ∧ t.store.slots = s.param 0x2001 1 * 2 ^ 30 / 48 ∧ t.store.disk.present = true ∧ t.store.disk.counter = 1 ∧ t.store.disk.objs = [])
  ∧ (∀ s : State, (s.dev.state ≠ .assemble ∨ (List.range 8).all s.spanConfigOk = false) → exec .cStoreInitialise s = .next s)
  ∧ ∀ (s : State) (x : SpanId), (s.dev.state = .opened ∨ s.dev.state = .quiesce) → s.store.spans[x].configured = true →
    let y := s.store.spans[x]
    let p := s.param (0x3001 + x.val * 0x40) 2
    let lost := y.packs.filter (fun p => !s.packReads y p)
    ((s.packState p = .verified ∨ s.packState p = .ready) → s.store.spans.any (fun z => z.configured && z.members.testBit p) = false →
      let ids := match s.pack? p with | some k => (match k.identity with | some d => [(p, d.uniqueId)] | none => []) | none => []
      exec (.cSpanAddPack x) s =
        .next ((s.updSpan x (fun y => { y with members := y.members ||| 2 ^ p, ids := y.ids ++ ids })).saveBands.noteSpans))
    ∧ (s.store.spans.any (fun z => z.configured && z.members.testBit p) = true → exec (.cSpanAddPack x) s = .next s)
    ∧ (lost ≠ [] →
      exec (.cSpanStartRebuild x) s = .next ((s.updSpan x (fun y =>
        { y with rebuilding := lost.foldl (fun r p => r ||| 2 ^ p) y.rebuilding, rebuilt := 0 })).noteSpans))
    ∧ (lost = [] → exec (.cSpanStartRebuild x) s = .next s)
    ∧ (y.members.testBit p = true → max 4 (y.k + y.m) ≤ (y.packs.filter (fun j => j ≠ p ∧ ¬ y.leaving.testBit j)).length →
      exec (.cSpanDrainPack x) s = .next (((s.updSpan x (fun y => { y with leaving := y.leaving ||| 2 ^ p })).noteLeft x).noteEmpty))
    ∧ (y.members.testBit p = false → exec (.cSpanDrainPack x) s = .next s)

/-- R348, R349, R353 to R357, R360, R385, R393. -/
def Obligations.Connections : Prop :=
  ∀ (s : State),
    (∀ r : CmReq, s.portFitted r.port = true → s.host.ports[r.port].link[r.sub] = .up →
      let num := pickUnused 1024 (Config.freeValue s.free) (fun n => (s.conn? n).isSome)
      let ring := pickUnused 4096 (Config.freeValue (s.free + 1)) s.ringUsed
      let fresh := ({ s with free := s.free + 2 } : State).freshQp
      (∀ e, s.rejectCode r ring.isSome = some e → exec (.cCmReq r) s = .next (s.sendCm r.port r.sub r.source 2 0 (natBytes 1 e)))
      ∧ (∀ n g w k qp, s.rejectCode r ring.isSome = none → num = some n → ring = some g → fresh.1 = some (w, k, qp) →
        ∃ c : Conn, exec (.cCmReq r) s = .next ((fresh.2.updHost (fun h => { h with conns := h.conns ++ [c] })).sendCm r.port r.sub r.source 1 n
            (acceptBlock n w k g))
          ∧ (c.num, c.port, c.sub, c.source, c.remote, c.mtu, c.ready) = (n, r.port, r.sub, r.source, r.qp, r.mtu, false)
          ∧ (c.window, c.windowKey, c.qp) = (w, k, qp)
          ∧ (c.management = true ↔ fieldAt r.data 6 1 = 1)
          ∧ (c.adminRing.num, c.adminRing.conn, c.adminRing.loc, c.adminRing.admin) = (g, n, 0, true)
          ∧ (c.adminRing.size, c.adminRing.limit, c.adminRing.addr, c.adminRing.headAddr)
            = (fieldAt r.data 7 1, fieldAt r.data 0x20 2, fieldAt r.data 8 8, fieldAt r.data 0x18 8)
          ∧ c.rate = s.host.ports[r.port].lineRate))
    ∧ (∀ n c, s.conn? n = some c → c.ready = false →
      exec (.cCmRtu n) s = .next ((s.updConn n (fun c => { c with ready := true })).updHost (fun h => { h with rings := h.rings ++ [c.adminRing] })))
    ∧ (∀ n c, s.conn? n = some c → exec (.cCmDreq n) s = .next ((s.sendCm c.port c.sub c.source 4 n []).endConn n 1))
    ∧ (∀ n, exec (.cCmDrep n) s = .next s)
    ∧ (∀ n, exec (.cInvalidRequest n) s = .next (s.sendHost (.nak n 1)))
    ∧ (∀ n, exec (.cNakReceived n) s = .next (s.endConn n 2))
    ∧ (∀ n made c, s.conn? n = some c → made < c.retryLimit →
      exec (.cAckTimeout n made) s = .next (s.updConn n (fun c => { c with retries := made + 1 })))
    ∧ (∀ n made c, s.conn? n = some c → c.retryLimit ≤ made → exec (.cAckTimeout n made) s = .next (s.endConn n 3))
    ∧ (∀ n c key off data, s.conn? n = some c → c.ready = true →
      (key ≠ c.windowKey → exec (.cDoorbell n key off data) s = .next (s.sendHost (.nak n 2)))
      ∧ (key = c.windowKey → (off % 8 ≠ 0 ∨ data.length % 8 ≠ 0 ∨ data.length < 8 ∨ 512 < off + data.length) →
        exec (.cDoorbell n key off data) s = .next (s.updHost (fun h => { h with ignored := sat32 h.ignored 1 })))
      ∧ (key = c.windowKey → off % 8 = 0 → data.length % 8 = 0 → 8 ≤ data.length → off + data.length ≤ 512 →
        exec (.cDoorbell n key off data) s = .next (s.doorbellWords n (off / 8) ((List.range (data.length / 8)).map (fun i => fieldAt data (8 * i) 8)))))

/-- R362, R371, R376 to R380, R393. -/
def Obligations.FramingAndHeads : Prop :=
  ∀ (s : State),
    (∀ r turn left q c, s.pickRing = some (r, turn, left) → s.freeContext = some (q, c) →
      exec .cChainStart s = .next (
        let s1 := s.updHost (fun h => { h with turn := turn, left := left, served := if hc : r.cls < 4 then h.served.set r.cls r.num hc else h.served })
        let s2 : State := { s1 with svc := { s1.svc with next := (q.val + 1) % 16 } }
        let port : Nat := match s.conn? r.conn with | some k => k.port.val | none => 0
        let s3 := s2.updCtx q c (fun _ =>
          ({ busy := true, ring := r.num, slot := r.cons, port := port, cls := r.cls, admin := r.admin } : Ctx))
        s3.updRing r.num (fun r => { r with framing := some (q, c) })))
    ∧ ((s.pickRing = none ∨ s.freeContext = none) → exec .cChainStart s = .next s)
    ∧ (∀ n r data, s.ring? n = some r → r.reading ≠ 0 → data.length = r.reading →
      let s1 := (s.updRing n (fun r => { r with fetched := r.fetched ++ data.drop r.skip, reading := 0, skip := 0 })).readSlots n
      exec (.cDescriptorReadResponse n data) s = .next ((s1.host.rings.filter (fun y => y.conn = r.conn)).foldl (fun s y => s.readSlots y.num) s1))
    ∧ (∀ n r q c, s.ring? n = some r → r.framing = some (q, c) → 64 * chainLen r.fetched ≤ r.fetched.length → r.reading = 0 →
      chainLen r.fetched ≤ r.waiting → s.framed r.admin = true →
      exec (.cChainFrame n) s = .next (s.frameChain r q c (chainLen r.fetched)))
    ∧ (∀ n r, s.ring? n = some r → (advanceHead r.head r.chains).1 ≠ r.head → s.clusters.failOver = none → s.mirrorHeld = [] → s.mirrorOwed = false → s.hostStopped = false →
      let r' := { r with head := (advanceHead r.head r.chains).1, chains := (advanceHead r.head r.chains).2, rnr := 0 }
      exec (.cHeadPublish n) s = .next (((s.updRing n (fun _ => r')).sendHead r').mirrorRing n))
    ∧ (∀ n r, s.ring? n = some r →
      ((advanceHead r.head r.chains).1 = r.head ∨ s.clusters.failOver ≠ none ∨ s.mirrorHeld ≠ [] ∨ s.mirrorOwed = true ∨ s.hostStopped = true) →
      exec (.cHeadPublish n) s = .next s)
    ∧ (∀ n r c, s.ring? n = some r → s.conn? r.conn = some c → r.notify = true →
      ((c.rnrLimit = 7 ∨ r.rnr < c.rnrLimit) → exec (.cRnrNak n) s = .next ((s.updRing n (fun r => { r with rnr := r.rnr + 1 })).sendHead r))
      ∧ (c.rnrLimit ≠ 7 → c.rnrLimit ≤ r.rnr → exec (.cRnrNak n) s = .next (s.endConn r.conn 4)))

/-- R348, R350 to R352, R391; DCQCN's arithmetic is the model's choice (log entry 28). -/
def Obligations.CongestionAndPorts : Prop :=
  ∀ (s : State),
    (∀ n c, s.conn? n = some c → c.cnpAt = none →
      exec (.cCeMarkedPacket n) s = .next (((s.updConn n (fun c => { c with cnpAt := some s.now })).updPort c.port (fun p =>
        { p with cnps := p.cnps.set c.sub.val (sat32 p.cnps[c.sub] 1) })).sendHost (.cnp n)))
    ∧ (∀ n c t, s.conn? n = some c → c.cnpAt = some t → s.now < t + s.param 0x6412 6 * 1000 → exec (.cCeMarkedPacket n) s = .next s)
    ∧ (∀ n,
      let g := s.param 0x6412 1
      let low := s.param 0x6412 5
      let line := fun c : Conn => s.host.ports[c.port].lineRate
      exec (.cCnpReceived n) s = .next (s.updConn n (fun c => c.cut g low s.now))
      ∧ exec (.cDcqcnRateIncreaseTimer n) s = .next (s.updConn n (fun c =>
        if s.now < c.raisedAt + s.param 0x6412 2 * 1000 then c
        else { c with ticks := c.ticks + 1, raisedAt := s.now, alpha := c.alpha - c.alpha * g / 65536 }.raised (s.param 0x6412 4) low (line c)))
      ∧ exec (.cDcqcnByteCounter n) s = .next (s.updConn n (fun c =>
        if c.sent < s.param 0x6412 3 * 1024 then c
        else { c with rounds := c.rounds + 1, sent := c.sent - s.param 0x6412 3 * 1024 }.raised (s.param 0x6412 4) low (line c))))
    ∧ (∀ (c : Conn) g low now, low ≤ (c.cut g low now).rate ∧ (low ≤ c.rate → (c.cut g low now).rate ≤ c.rate) ∧ (c.cut g low now).target = c.rate)
    ∧ (∀ (c : Conn) add low line, low ≤ (c.raised add low line).rate ∧ (low ≤ line → (c.raised add low line).rate ≤ line)
      ∧ (c.rate ≤ c.target → c.target ≤ line → c.rate ≤ (c.raised add low line).rate))
    ∧ (∀ (q : PortId) (sub : SubPortId) (prio : Fin 8) pause, s.portFitted q = true → (s.param 0x6411 5).testBit prio.val = true →
      exec (.cPfcFrame q sub prio pause) s = .next ((s.updPort q (fun p =>
        { p with paused := p.paused.set sub.val (if pause then p.paused[sub] ||| 2 ^ prio.val else p.paused[sub] &&& (0xFF ^^^ 2 ^ prio.val)) })).resumeHost))
    ∧ (∀ (q : PortId) (sub : SubPortId) (prio : Fin 8) pause, (s.param 0x6411 5).testBit prio.val = false →
      exec (.cPfcFrame q sub prio pause) s = .next s)
    ∧ (exec .cPauseFrame s = .next { s with host := { s.host with pauses := sat32 s.host.pauses 1 } })
    ∧ (∀ (q : PortId) up, s.portFitted q = true → s.ref156Lost = false → s.dev.state.running = true → s.domains[120 + q.val].state = 2 →
      let n := breakoutSubs (s.param (portBlock q + 1) 1)
      let s1 := if n = s.host.ports[q].subs then s
        else ((s.host.conns.filter (fun c => c.port = q)).map (fun c => c.num)).foldl (fun s c => s.endConn c 7) s
      exec (.cPortLinkTraining q up) s = .next (s1.updPort q (fun p =>
        { p with subs := n, link := Vector.ofFn (fun i : Fin 4 => if n ≤ i.val then .down else if up.testBit i.val then .up else .training) })))
    ∧ (∀ (q : PortId) (sub : SubPortId), s.portFitted q = true →
      exec (.cPortLinkDown q sub) s = .next (s.updPort q (fun p => { p with link := p.link.set sub.val .down })))

/-- R358, R368, R379 to R384, R464: each admin command as it runs on its context. -/
def Obligations.AdminCommands : Prop :=
  ∀ (s : State) (q : SeqId) (c : CtxId),
    let x := s.ctx q c
    let l := x.chain
    (s.Runs q c 0x80 →
      let me := s.ringConn x.ring
      let owner := (ownerOf l me).getD me
      (∀ loc n, s.freeLocal owner = some loc → pickUnused 4096 (Config.freeValue s.free) s.ringUsed = some n →
        exec (.cCreateRing q c) s = .next (
          ((({ s with free := s.free + 1 }.updHost (fun h => { h with rings := h.rings ++ [ringOf l n owner loc] })).commitCmd x.ring x.slot)).endCommand
            q c 0 loc n))
      ∧ ((s.freeLocal owner = none ∨ pickUnused 4096 (Config.freeValue s.free) s.ringUsed = none) →
        exec (.cCreateRing q c) s = .next (s.endCommand q c 0x41 0 0)))
    ∧ (s.Runs q c 0x81 →
      let n := fieldAt l 4 2
      exec (.cDeleteRing q c) s = .next (
        let s1 := ((s.updRing n (fun r => { r with state := .deleting })).dropFraming n).abortRing n
        let s2 := (s1.updHost (fun h => { h with deletes := h.deletes ++ [(n, x.ring, x.slot)] })).commitCmd x.ring x.slot
        (s2.newToken q x.ring x.slot 5 []).2.suspendCtx q c s2.svc.nextToken))
    ∧ (∀ n, s.ringBusy n = false → s.host.deletes.any (fun x => x.1 = n) = true → s.clusters.failOver = none → s.hostStopped = false →
      exec (.cDeleteRingDone n) s = .next (
        ((s.publish n).updHost (fun h => { h with rings := h.rings.filter (fun r => ¬(r.num = n ∧ r.state = .deleting)) })).completeDeletes n))
    ∧ (s.Runs q c 0x82 →
      let v := s.abtset (fieldAt l 4 2) (fieldAt l 8 4)
      exec (.cAbort q c) s = .next (v.2.endCommand q c (if v.1 = 0 then 0 else v.1 + 1) 0 0))
    ∧ (s.Runs q c 0x83 →
      (∀ e, s.dictRead (s.bandWriter x.ring) (fieldAt l 4 2) (fieldAt l 6 1) (some (fieldAt l 0x14 4)) = .error e →
        exec (.cDictRead q c) s = .next (s.endCommand q c 0x42 0 e))
      ∧ (∀ v s1 r, s.dictRead (s.bandWriter x.ring) (fieldAt l 4 2) (fieldAt l 6 1) (some (fieldAt l 0x14 4)) = .ok (v, s1) →
        v.length ≤ fieldAt l 0x14 4 → v ≠ [] → s1.ring? x.ring = some r →
        exec (.cDictRead q c) s = .next ((s1.sendHost (.write r.conn (fieldAt l 8 8) (fieldAt l 0x10 4) v none)).endCommand q c 0 v.length 0)))
    ∧ (∀ data, s.Runs q c 0x84 → data.length = fieldAt l 0x14 4 →
      (∀ e, s.dictWrite (s.bandWriter x.ring) (fieldAt l 4 2) (fieldAt l 6 1) data = .error e →
        exec (.cDictWrite q c data) s = .next ((s.writeRefused (fieldAt l 4 2) data e).endCommand q c 0x42 0 e))
      ∧ (∀ t, s.dictWrite (s.bandWriter x.ring) (fieldAt l 4 2) (fieldAt l 6 1) data = .ok t →
        exec (.cDictWrite q c data) s = .next ((t.commitCmd x.ring x.slot).endCommand q c 0 0 0)))

/-- R397, R399, R400, R403, R406 to R409, R414. -/
def Obligations.BufferAccess : Prop :=
  ∀ (s : State),
    (s.buf.reachable = false → ∀ r own addr len x data e,
      exec (.cBufferRead r own addr len x e) s = .next s ∧ exec (.cBufferWrite r own addr data x e) s = .next s)
    ∧ (s.buf.reachable = true → ∀ r own, (isCore r && s.diagnostic) = false →
      (∀ addr len x e, s.bufSize < addr + len →
        exec (.cBufferRead r own addr len x e) s = .next ((s.send (.bufferData (reqClass r) none)).raise 154))
      ∧ (∀ g ch, s.cacheOn = false → 64 * g + 64 ≤ s.bufSize → s.chan? (s.granPlace g).1 = some ch → ch.state = 2 →
        ∀ cls d k, s.classify g (s.stored g).1 (s.stored g).2 = (cls, d, k) →
          let c := (s.granPlace g).1
          let answer := fun (t : State) (v : Option Nat) =>
            let u := t.countBypass
            u.send (.bufferData (reqClass r) (v.map (fun y => natBytes 64 (u.tabled g y))))
          exec (.cBufferRead r own (64 * g) 64 [] .none) s = .next (
            match cls with
            | .clean => answer s (some d)
            | .corrected => (answer ((s.storeWord g d k).updMem c (fun m => { m with corrected := sat32 m.corrected 1 })) (some d)).raise (56 + 4 * c)
            | .uncorrectable => (answer (s.logError g 0) none).raise (56 + 4 * c + 1)
            | .poisoned => (answer (s.logError g 1) none).raise (56 + 4 * c + 1)
            | .misdirected => (answer (s.logError g 2) none).raise (56 + 4 * c + 1)))
      ∧ (∀ g y, s.cacheOn = true → 64 * g + 64 ≤ s.bufSize → s.line? (g / 2) = some y → y.valid.testBit (g % 2) = true →
        let u := (if s.streams r own = true then s else s.updLine (g / 2) (fun z => { z with age := 0 })).countHit
        exec (.cBufferRead r own (64 * g) 64 [] .none) s = .next (
          u.send (.bufferData (reqClass r) (some (natBytes 64 (u.tabled g (y.data (g % 2))))))))
      ∧ (isCore r = false → ∀ addr (data : List Byte) x e,
        let s0 := (s.failWrites x).1
        let f := (s.failWrites x).2
        (s0.bufSize < addr + data.length →
          exec (.cBufferWrite r own addr data x e) s = .next ((s0.send (.bufferData (reqClass r) none)).raiseAll (f ++ [154])))
        ∧ (addr + data.length ≤ s0.bufSize → (addr % 64 ≠ 0 ∨ data.length % 64 ≠ 0) →
          exec (.cBufferWrite r own addr data x e) s = .next ((s0.send (.bufferData (reqClass r) none)).raiseAll (f ++ [reqNarrow r])))
        ∧ (∀ g, addr = 64 * g → s0.cacheOn = false → data.length = 64 → 64 * g + 64 ≤ s0.bufSize →
          exec (.cBufferWrite r own addr data x e) s = .next ((s0.memWrite g (leNat data)).countBypass.raiseAll f))))
    ∧ (s.buf.reachable = true → ∀ (c : ClusterId) own addr data x e,
      exec (.cBufferWrite (.cluster c) own addr data x e) s
        = .next (((s.failWrites x).1.coreStore c own addr data x e).raiseAll (s.failWrites x).2)
      ∧ exec (.cCoreNarrowWrite c own addr data x e) s = .next (s.coreStore c own addr data x e))
    ∧ (s.buf.reachable = true → ∀ (c : ClusterId) own addr (data : List Byte) x e,
      (s.bufSize < addr + data.length →
        exec (.cCoreNarrowWrite c own addr data x e) s = .next ((s.send (.bufferData (6 + c.val) none)).raise 154))
      ∧ (addr + data.length ≤ s.bufSize → data ≠ [] → addr % 64 + data.length < 64 →
        let rd := s.granRead (.cluster c) own (addr / 64) (dramOf x (addr / 64)) e
        (rd.1 = none → exec (.cCoreNarrowWrite c own addr data x e) s
          = .next ((rd.2.1.send (.bufferData (6 + c.val) none)).raiseAll rd.2.2))
        ∧ (∀ v, rd.1 = some v →
          exec (.cCoreNarrowWrite c own addr data x e) s
            = .next ((rd.2.1.mergePut (addr / 64) (overlay v (addr % 64) data)).raiseAll rd.2.2)))
      ∧ (∀ g, s.cacheOn = false → data.length = 64 → 64 * g + 64 ≤ s.bufSize →
        exec (.cCoreNarrowWrite c own (64 * g) data x .none) s = .next (
          if s.diagnostic then s.memPut g (leNat data) (s.param 0x6009 2) else (s.memWrite g (leNat data)).countBypass)))

/-- R397, R402: `storeWord` is the one write to the list. R446, R448: `setParam` is the one write to the store. -/
def Obligations.StoresReadBack : Prop :=
  (∀ (s : State) (g data check : Nat), Memory.wf s = true →
      (s.storeWord g data check).stored g = (data, check)
      ∧ (∀ a, a ≠ g → (s.storeWord g data check).stored a = s.stored a)
      ∧ Memory.wf (s.storeWord g data check) = true)
  ∧ (∀ (s : State) (idx sub v : Nat), storeWf (dictDefault s.part) s.dict.vals = true →
      (s.setParam idx sub v).param idx sub = v
      ∧ (∀ i j, dictKey i j ≠ dictKey idx sub → (s.setParam idx sub v).param i j = s.param i j)
      ∧ storeWf (dictDefault s.part) (s.setParam idx sub v).dict.vals = true)

/-- R395, R402, R403, R406, R409, R410. -/
def Obligations.BufferUpkeep : Prop :=
  ∀ (s : State),
    (s.dev.state = .boot → s.boot.step = .plls → s.buf.reachable = false →
      ∃ t, exec .cBufferFillDone s = .next t ∧ t.buf.reachable = true ∧ t.buf.density = s.bootMemory 1
        ∧ ∀ c : ChanId, t.buf.chans[c].state = (if s.buf.chans[c].state = 1 then 2 else s.buf.chans[c].state))
    ∧ (∀ c : ChanId, (s.dev.state = .selfTest ∨ s.dev.state = .bench) → s.chanFitted c = true →
      exec (.cChannelReinit c) s = .next (s.reinitChannel c))
    ∧ (∀ c : ChanId, ¬ (s.dev.state = .selfTest ∨ s.dev.state = .bench) → exec (.cChannelReinit c) s = .next s)
    ∧ (∀ c : ChanId, (s.reinitChannel c).buf.chans[c].state = 3
      ∧ (s.reinitChannel c).buf.chans[c].epoch = (s.buf.chans[c].epoch + 1) % 65536
      ∧ (s.reinitChannel c).buf.lines = s.buf.lines.filter (fun x => (s.granPlace (2 * x.addr)).1 ≠ c.val))
    ∧ (∀ c : ChanId, s.buf.chans[c].state = 3 →
      exec (.cChannelReinitDone c) s = .next (s.updMem c.val (fun m => { m with state := 2, filled := s.segments, valid := [] })))
    ∧ (∀ g ch,
      let t := s.scrubPeriod
      let u := t.updBuf (fun b => { b with scrubbed := g :: b.scrubbed })
      t.chan? (s.granPlace g).1 = some ch → ch.state = 2 → 64 * g < t.bufSize → t.buf.scrubbed.contains g = false →
      ∀ cls d k, u.classify g (u.stored g).1 (u.stored g).2 = (cls, d, k) →
        let c := (s.granPlace g).1
        exec (.cBufferScrub g (cleanRead g)) s = .next (
          match cls with
          | .clean => u
          | .poisoned => u
          | .corrected => ((u.storeWord g d k).updMem c (fun m => { m with corrected := sat32 m.corrected 1 })).raise (56 + 4 * c)
          | _ => (u.memPoison g (u.stored g).1).raise (56 + 4 * c + 1)))
    ∧ (∀ g, s.scrubPeriod.buf.scrubbed.contains g = true → exec (.cBufferScrub g (cleanRead g)) s = .next s.scrubPeriod)
    ∧ (∀ (c : ChanId), s.chanFitted c = true → s.buf.chans[c].state ≠ 0 → s.buf.chans[c].state ≠ 4 →
      exec (.cGddr7Refresh c false false) s = .next (s.updMem c.val (fun m => { m with refreshes := sat64 m.refreshes 1 })))
    ∧ (∀ v, v ≤ 1 → (s.dev.state = .selfTest ∨ s.dev.state = .bench) → s.cacheOn = false → s.buf.op = none →
      exec (.cDiagnosticModeSet v) s = .next (s.setParam 0x6009 1 v))
    ∧ (∀ v, (1 < v ∨ s.cacheOn = true ∨ s.buf.op ≠ none ∨ ¬ (s.dev.state = .selfTest ∨ s.dev.state = .bench)) →
      exec (.cDiagnosticModeSet v) s = .next s)

/-- R419 to R424: the effect is carried out whole at the operation's end. -/
def Obligations.RangeEngine : Prop :=
  ∀ (s : State),
    (∀ (x : RangeArgs), s.buf.op = none → x.base % 128 = 0 → x.length ≠ 0 → x.length % 128 = 0 → x.base + x.length ≤ s.bufSize →
      (s.cacheOn = true →
        exec (.cRangeClean (some x)) s = .next (s.updBuf (fun b => { b with op := some ⟨1, x.base, x.length, x.mask⟩, result := 2 }))
        ∧ exec (.cRangeInvalidate (some x)) s = .next (s.updBuf (fun b => { b with op := some ⟨2, x.base, x.length, x.mask⟩, result := 2 }))
        ∧ exec (.cRangeCleanInvalidate (some x)) s
          = .next (s.updBuf (fun b => { b with op := some ⟨3, x.base, x.length, x.mask⟩, result := 2 }))
        ∧ exec (.cRangeFill (some x)) s
          = .next (s.updBuf (fun b => { b with op := some ⟨4, x.base, x.length, x.mask⟩, result := 2, skipped := 0 })))
      ∧ (s.cacheOn = false →
        exec (.cRangeClean (some x)) s = .next (s.updBuf (fun b => { b with result := 1 }))
        ∧ exec (.cRangeInvalidate (some x)) s = .next (s.updBuf (fun b => { b with result := 1 }))
        ∧ exec (.cRangeCleanInvalidate (some x)) s = .next (s.updBuf (fun b => { b with result := 1 }))
        ∧ exec (.cRangeFill (some x)) s = .next s))
    ∧ (∀ own, s.buf.op ≠ none → ∀ i ∈ [Instr.cRangeClean own, .cRangeInvalidate own, .cRangeCleanInvalidate own, .cRangeFill own],
      exec i s = .next s)
    ∧ (∀ o, s.buf.op = some o → o.code = 1 →
      ∃ t, exec .cRangeOpDone s = .next t ∧ ∀ y ∈ t.buf.lines, o.has y.addr = true → y.dirty = 0)
    ∧ (∀ o, s.buf.op = some o → (o.code = 2 ∨ o.code = 3) →
      ∃ t, exec .cRangeOpDone s = .next t ∧ (∀ y ∈ t.buf.lines, o.has y.addr = false)
        ∧ (∀ y ∈ s.buf.lines, o.has y.addr = false → y ∈ t.buf.lines))
    ∧ (∀ o, s.buf.op = some o → o.code = 5 → storeWf (dictDefault s.part) s.dict.vals = true →
      ∃ t, exec .cRangeOpDone s = .next t ∧ t.buf.lines = [] ∧ t.buf.op = none ∧ t.buf.disabling = false ∧ t.cacheOn = false)
    ∧ (s.dev.state.cacheEnable = true →
      (s.cacheOn = true → s.buf.disabling = false →
        exec .cCacheDisable s = .next (s.updBuf (fun b =>
          { b with disabling := true, op := if b.op.isSome then b.op else some ⟨5, 0, 0, 0⟩, result := 2 }))
        ∧ exec .cCacheEnable s = .next s)
      ∧ (s.cacheOn = false → s.buf.disabling = false →
        exec .cCacheDisable s = .next s
        ∧ (storeWf (dictDefault s.part) s.dict.vals = true → ∃ t, exec .cCacheEnable s = .next t ∧ t.cacheOn = true ∧ t.buf.lines = []))
      ∧ (s.buf.disabling = true → exec .cCacheEnable s = .next s))

/-- R428, R432, R433, R440, R441, R443, R444. -/
def Obligations.MoverChannels : Prop :=
  ∀ (s : State),
    (∀ desc : List Byte, desc.length = 64 → let c := descChannel desc
      let s1 := s.updMover c (fun m => { m with waiting := m.waiting ++ [⟨desc, 0⟩] })
      (s.bankOn c = true → exec (.cMoverDescriptorSubmit desc) s = .next (s1.updMover c Mover.refill))
      ∧ (s.bankOn c = false → exec (.cMoverDescriptorSubmit desc) s = .next (s1.wantDomain (moverDomain c))))
    ∧ (∀ c x host, s.mayStart c = none → exec (.cMoverDescriptorStart c x host) s = .next s)
    ∧ (∀ c x host q, s.mayStart c = some q →
      let s1 := (s.updMover c (fun m => ({ m with queue := m.queue.drop 1 } : Mover).refill)).placeChecks
      (s1.descCheck q.desc ≠ 0 →
        exec (.cMoverDescriptorStart c x host) s = .next ((s1.updMover c (fun m =>
          { m with running := m.running ++ [{ req := q, status := s1.descCheck q.desc, readsDone := true }] })).raise (180 + c.val)))
      ∧ (s1.descCheck q.desc = 0 →
        let s2 := s1.readSource c q x
        exec (.cMoverDescriptorStart c x host) s = .next (
          if s1.movers[c].active = none ∧ 256 ≤ s2.moverShare c q.desc then (s2.moverWork c host).stopAtError c else s2))
      ∧ (descSource q.desc = 1 → s1.readSource c q x = s1.updMover c (fun m => { m with running := m.running ++ [{ req := q }] }))
      ∧ (descSource q.desc = 2 → s1.readSource c q x = s1.updMover c (fun m =>
          { m with running := m.running ++ [{ req := q, stream := swapStream (descSwap q.desc) (patternStream q.desc), readsDone := true }] })))
    ∧ (∀ c host, s.movers[c].active = none → exec (.cMoverRateWindow c host) s = .next s)
    ∧ (∀ (c : MoverId) host r, s.movers[c].active = some r →
      let n := s.windowBytes c r.req.desc
      exec (.cMoverRateWindow c host) s = .next (((s.updMover c (fun m =>
        { m with allowance := if s.moverShare c r.req.desc < 256 then min (n : Int) (m.allowance + n) else 0 })).moverWork c host).stopAtError c))
    ∧ (∀ (c : MoverId), s.movers[c].running.find? MoverRun.ended = none → exec (.cMoverDescriptorComplete c) s = .next s)
    ∧ (∀ (c : MoverId) r, s.movers[c].running.find? MoverRun.ended = some r → descGranule r.req.desc = 2 ^ 64 - 1 →
      let s1 := s.updMover c (fun m =>
        { m with running := m.running.erase r, completed := sat32 m.completed 1, moved := sat64 m.moved r.done,
                 failed := if r.status = 0 then m.failed else sat32 m.failed 1 })
      let s2 := if r.status = 0 then s1 else { s1 with lastMoverError := r.status + c.val * 256 }
      exec (.cMoverDescriptorComplete c) s = .next (if r.req.token = 0 then s2 else s2.completeToken r.req.token (r.status ≠ 0)))
    ∧ (∀ (r : MoverRun), r.record.length = 64 ∧ fieldAt r.record 0 1 = r.status % 256 ∧ fieldAt r.record 8 8 = r.done % 2 ^ 64)

/-- R448's six checks in their order; the writer identities of R467. -/
def Obligations.DictionaryChecks : Prop :=
  ∀ (s : State) (who idx sub : Nat) (l : List Byte), s.clusters.failOver = none →
    let refused := fun (e : Nat) => exec (.cDictionaryWrite who idx sub l) s = .next (if who < 128 then s.answer who e [] else s)
    (∀ e, existsCheck idx sub = .error e → refused e ∧ (e = 0x06020000 ∨ e = 0x06090011))
    ∧ (∀ r, existsCheck idx sub = .ok r →
      (r.acc = .ro → refused 0x06010002)
      ∧ (r.acc ≠ .ro → s.lockRefuses who idx sub r l = true → refused 0x08000021)
      ∧ (r.acc ≠ .ro → s.lockRefuses who idx sub r l = false →
        (s.stateRefuses idx sub r l = true → refused 0x08000022)
        ∧ (s.stateRefuses idx sub r l = false →
          (r.ty.lengthOk l.length = false → refused 0x06070010)
          ∧ (r.ty.lengthOk l.length = true → s.writeBytes idx sub l = none →
            ((r.ty.bytesOk l = false ∨ valueOk s.microOf s.param r idx sub (leNat l) = false) → refused 0x06090030)
            ∧ (r.ty.bytesOk l = true → valueOk s.microOf s.param r idx sub (leNat l) = true → s.writeSpecial who idx sub (r.stored (leNat l)) = none →
              let t := ((s.setParam idx sub (r.stored (leNat l))).afterWrite idx sub).renewLease who
              exec (.cDictionaryWrite who idx sub l) s = .next (if who < 128 then t.answer who 0 [] else t))))))

/-- R459, R460, R466. -/
def Obligations.UsdoSessions : Prop :=
  ∀ (s : State) (n : Nat),
    (s.usdoOpen n = false → ∀ idx sub data last size,
      ∀ i ∈ [Instr.cUsdoExpeditedDownload n idx sub data, .cUsdoExpeditedUpload n idx sub, .cUsdoSegmentedDownloadInit n idx sub,
          .cUsdoDownloadSegment n data last, .cUsdoSegmentedUploadInit n idx sub, .cUsdoUploadSegment n size, .cUsdoAbort n],
        exec i s = .next s)
    ∧ (s.usdoOpen n = true → s.clusters.failOver ≠ none → ∀ idx sub data,
      exec (.cUsdoExpeditedDownload n idx sub data) s = .next { s with heldAccess := s.heldAccess ++ [⟨1, n, idx, sub, data⟩] }
      ∧ exec (.cUsdoExpeditedUpload n idx sub) s = .next { s with heldAccess := s.heldAccess ++ [⟨2, n, idx, sub, []⟩] })
    ∧ (s.usdoOpen n = true → s.clusters.failOver = none → ∀ idx sub,
      let k := s.endSession n
      (∀ data t, k.dictWrite n idx sub data = .ok t → exec (.cUsdoExpeditedDownload n idx sub data) s = .next (t.answer n 0 []))
      ∧ (∀ data e, k.dictWrite n idx sub data = .error e → exec (.cUsdoExpeditedDownload n idx sub data) s = .next ((k.writeRefused idx data e).answer n e []))
      ∧ (∀ l t, k.dictRead n idx sub none = .ok (l, t) →
        exec (.cUsdoExpeditedUpload n idx sub) s = .next (t.answer n 0 l)
        ∧ (k.can.sessions.length < 16 →
          exec (.cUsdoSegmentedUploadInit n idx sub) s = .next ((t.openSession ⟨n, true, idx, sub, l⟩).answer n 0 [])))
      ∧ (∀ e, k.dictRead n idx sub none = .error e → exec (.cUsdoExpeditedUpload n idx sub) s = .next (k.answer n e []))
      ∧ (k.can.sessions.length < 16 →
        exec (.cUsdoSegmentedDownloadInit n idx sub) s = .next ((k.openSession ⟨n, false, idx, sub, []⟩).answer n 0 []))
      ∧ (16 ≤ k.can.sessions.length → ∀ i ∈ [Instr.cUsdoSegmentedDownloadInit n idx sub, .cUsdoSegmentedUploadInit n idx sub],
        exec i s = .next (k.answer n 0x05040005 []))
      ∧ (∀ x data, s.can.session n = some x → x.upload = false →
        exec (.cUsdoDownloadSegment n data false) s = .next ((s.openSession { x with data := x.data ++ data }).answer n 0 [])
        ∧ (∀ t, k.dictWrite n x.index x.sub (x.data ++ data) = .ok t → exec (.cUsdoDownloadSegment n data true) s = .next (t.answer n 0 []))
        ∧ (∀ e, k.dictWrite n x.index x.sub (x.data ++ data) = .error e → exec (.cUsdoDownloadSegment n data true) s = .next ((k.writeRefused x.index (x.data ++ data) e).answer n e [])))
      ∧ (∀ x size, s.can.session n = some x → x.upload = true →
        exec (.cUsdoUploadSegment n size) s
          = .next ((if x.data.length ≤ size then k else s.openSession { x with data := x.data.drop size }).answer n 0 (x.data.take size)))
      ∧ exec (.cUsdoAbort n) s = .next k)
    ∧ (s.can.session n ≠ none → exec (.cUsdoSegmentTimeout n) s = .next ((s.endSession n).answer n 0x05040000 []))
    ∧ (∀ idx l e, idx ≠ 0x1010 → (s.endSession n).writeRefused idx l e = s.endSession n)
    ∧ (s.endSession n).can.session n = none
    ∧ (∀ m, m ≠ n → (s.endSession n).can.session m = s.can.session m)

/-- R468, R469, R474, R475, R463. -/
def Obligations.LockAndStoredLayer : Prop :=
  ∀ (s : State),
    (∀ who r, s.clusters.failOver = none → existsCheck 0x2401 1 = .ok r → who ≠ 0 → 128 ≤ who →
      (∀ l ∈ [([1, 0] : List Byte), [0, 0]], s.stateRefuses 0x2401 1 r l = false) →
      ((s.lock.holder = 0 ∨ s.lock.holder = who) → exec (.cLockTake who) s = .next { s with lock := { s.lock with holder := who, since := s.now } })
      ∧ (s.lock.holder ≠ 0 → s.lock.holder ≠ who → exec (.cLockTake who) s = .next s)
      ∧ (s.lock.holder = who → exec (.cLockFree who) s = .next { s with lock := { s.lock with holder := 0 } })
      ∧ (s.lock.holder ≠ who → exec (.cLockFree who) s = .next s))
    ∧ (s.lock.holder ≠ 0 → s.lock.since + s.param 0x2401 2 * 1000000000 ≤ s.now → exec .cLockLeaseExpiry s = .next
        (({ s with lock := { s.lock with holder := 0 } }).record { type := 0x50, code := 1, detail := detailAt 0x24 s.lock.holder }))
    ∧ ((s.lock.holder = 0 ∨ s.now < s.lock.since + s.param 0x2401 2 * 1000000000) → exec .cLockLeaseExpiry s = .next s)
    ∧ (s.changeable 0x1E4 = true →
      exec (.cStoreParameters false) s = .next (({ s with free := s.free + 1 }).raise 10)
      ∧ (∀ i x, pickCopy (s.dictImageOk 3 0 s.dict.base) s.flash.stored = some (i, x) →
        ∃ t y, exec (.cStoreParameters true) s = .next t ∧ t.flash.stored[otherImage i] = some y ∧ t.flash.stored[i] = s.flash.stored[i]
          ∧ y = storedImage ((x.revision + 1) % 2 ^ 32) (partProduct s.part) (s.storedSets.map recordFor) ∧ t.dict = s.dict)
      ∧ ∃ t, exec .cRestoreDefaultParameters s = .next t ∧ t.flash.stored[0] = none ∧ t.flash.stored[1] = none ∧ t.dict = s.dict)
    ∧ (s.changeable 0x1E4 = false → ∀ ok, exec (.cStoreParameters ok) s = .next s ∧ exec .cRestoreDefaultParameters s = .next s)
    ∧ (s.inStates 0x1F4 = true → exec .cErrorHistoryClear s = .next { s with can := { s.can with history := [] } })

/-- R477, R478, R481. -/
def Obligations.OverlaysAndRawAccess : Prop :=
  ∀ (s : State),
    (∀ who mask r, s.clusters.failOver = none → 128 ≤ who → mask < 0x10000 → existsCheck 0x2423 1 = .ok r →
      s.lockRefuses who 0x2423 1 r (natBytes 2 mask) = false → s.stateRefuses 0x2423 1 r (natBytes 2 mask) = false →
      ((∀ n : Fin 16, mask.testBit n.val = true → s.layers.overlays[n].loaded = true ∧ s.layers.overlays[n].state = 1) →
        exec (.cOverlayApply who mask) s
          = .next (({ s with layers := { s.layers with prevMask := s.layers.mask, mask := mask, applyStatus := 1 } } : State).renewLease who))
      ∧ ((∃ n : Fin 16, mask.testBit n.val = true ∧ (s.layers.overlays[n].loaded = false ∨ s.layers.overlays[n].state ≠ 1)) → exec (.cOverlayApply who mask) s = .next s))
    ∧ (s.layers.applyStatus = 1 → s.quiet = true →
      let s1 := s.applyMask s.layers.mask
      let s2 := { s1 with layers := { s1.layers with applyStatus := 2, applies := sat32 s1.layers.applies 1 } }
      exec .cOverlayQuietPoint s = .next (((s2.record { type := 0x50, code := 5 }).releaseRequests).kickAll))
    ∧ ((s.layers.applyStatus ≠ 1 ∨ s.quiet = false) → exec .cOverlayQuietPoint s = .next s)
    ∧ (s.layers.applyStatus = 1 →
      exec .cOverlayQuietTimeout s = .next ({ s with layers := { s.layers with mask := s.layers.prevMask, applyStatus := 3 } }).releaseRequests)
    ∧ (∀ x ∈ [(Instr.cRawReadQuick, 1), (.cRawReadFull, 2), (.cRawSectorWrite, 3)],
      (∀ t, s.raw.state ≠ 1 → s.changeable 0x1C0 = true → s.param 0x2402 1 = 1 → s.rawCommand x.2 = .ok t → exec x.1 s = .next (t.rawPoll x.2))
      ∧ (s.raw.state ≠ 1 → (s.changeable 0x1C0 = false ∨ s.param 0x2402 1 ≠ 1) → exec x.1 s = .next s)
      ∧ (∀ o, s.rawRefusal (decide (x.2 = 3)) = some o →
        s.rawIssue x.2 = { s with raw := { s.raw with status := rawStopped o, state := 2, command := 0 } })
      ∧ (s.raw.state = 1 → s.raw.command = x.2 → s.clusters.failOver = none →
        let p : PackId := ⟨addrPack s.rawAddr % 32, by omega⟩
        let a := s.raw.arm
        let ends := fun (t : State) status => { t with raw := { t.raw with status := status, state := 2, command := 0 } }
        (s.recordOf p a s.raw.tag = none → exec x.1 s = .next s)
        ∧ (∀ r, s.recordOf p a s.raw.tag = some r →
          (x.2 = 3 → exec x.1 s = .next (ends s (rawStopped (rawWritten r (addrSurface s.rawAddr % 16)))))
          ∧ (∀ d, x.2 ≠ 3 → (s.arm p a).received.find? (fun d => d.tag = s.raw.tag) = some d →
            let taken := fun (t : State) =>
              t.updArm p a (fun y => { y with received := y.received.filter (fun z => z.tag ≠ s.raw.tag) })
            (goodOutcome (d.status % 256) = true → 4152 ≤ d.data.length →
              exec x.1 s = .next (ends (taken { s with raw := { s.raw with sector := d.data.take 4152 } }) d.status))
            ∧ (goodOutcome (d.status % 256) = false → exec x.1 s = .next (ends (taken s) d.status))))))
    ∧ (∀ write, ¬ s.packFitted ⟨addrPack s.rawAddr % 32, by omega⟩ → s.rawRefusal write = some 0x14)

/-- R460, R461, R463. -/
def Obligations.NetworkCommands : Prop :=
  ∀ (s : State),
    (s.can.started = true →
      exec .cNmtStartRemoteNode s = .next { s with can := { s.can with nmt := .operational } }
      ∧ exec .cNmtEnterPreOperational s = .next { s with can := { s.can with nmt := .preOperational } }
      ∧ exec .cNmtStopRemoteNode s = .next { s with can := { s.can with nmt := .stopped } }
      ∧ (∃ t, exec .cNmtResetCommunication s = .next t ∧ t.can.sessions = [] ∧ t.can.nmt = .preOperational ∧ t.can.emcyQueue = s.can.emcyQueue
          ∧ t.out = if s.can.listenOnly then s.out else s.out ++ [.bootUp s.can.nodeId])
      ∧ ((s.dev.state = .lee ∨ s.dev.state = .bench) → exec .cNmtResetNode s = .next s.reactReset)
      ∧ (s.dev.state ≠ .lee → s.dev.state ≠ .bench →
        exec .cNmtResetNode s = .next { s with can := { s.can with nmtIgnored := sat32 s.can.nmtIgnored 1 } })
      ∧ exec .cCanBusOff s = .next (({ s with can := { s.can with busOffs := sat32 s.can.busOffs 1 } }).raise 412))
    ∧ (s.can.started = false → ∀ i ∈ [Instr.cNmtStartRemoteNode, .cNmtEnterPreOperational, .cNmtStopRemoteNode, .cNmtResetCommunication,
        .cNmtResetNode, .cCanBusOff, .cHeartbeat], exec i s = .next s)
    ∧ (s.can.started = true → s.can.listenOnly = false → s.dev.state ≠ .off → s.dev.state ≠ .zephyr →
      exec .cHeartbeat s = .next (s.send (.heartbeat s.can.nodeId s.can.nmt)))
    ∧ (∀ m l, s.can.emcyQueue = m :: l → s.can.started = true → s.can.nmt ≠ .stopped → s.emcyDue = true →
      ∃ t, exec .cEmcyTransmit s = .next t ∧ t.can.emcyQueue = l ∧ t.can.emcyAt = some s.now
        ∧ t.out = s.out ++ [.emcy m.code m.register (natBytes 2 m.source ++ natBytes 1 m.cls ++ natBytes 1 m.unit ++ natBytes 4 m.opSec)])
    ∧ ((s.can.emcyQueue = [] ∨ s.can.nmt = .stopped ∨ s.emcyDue = false) → exec .cEmcyTransmit s = .next s)

/-- R491 to R494. R486, R487, R489 over all 416 sources. -/
def Obligations.FaultSourcesAndReactions : Prop :=
  (∀ (s : State),
      (∀ k, exec (.cFaultOccurrence k) s = .next (s.raise k))
      ∧ (∀ k, 416 ≤ k → exec (.cFaultOccurrence k) s = .next s)
      ∧ (∀ k, k < 416 → (s.source k).sticky = false → s.reaction k % 8 = 0 →
        ∃ t, exec (.cFaultOccurrence k) s = .next t ∧ (t.source k).sticky = true
          ∧ (t.source k).inState = ((s.source k).inState || srcHasState k) ∧ (t.source k).count = sat32 (s.source k).count 1
          ∧ t.faults.lastSticky = (if s.faults.lastSticky ≠ 0xFFFF ∧ s.faults.lastAt = s.now then min k s.faults.lastSticky else k) ∧ (∀ j, j ≠ k → t.source j = s.source j)
          ∧ t.can.history = (srcCode k :: s.can.history).take 16)
      ∧ (∀ k, k < 416 → (s.source k).sticky = true →
        ∃ t, exec (.cFaultOccurrence k) s = .next t ∧ (t.source k).sticky = true ∧ (t.source k).count = sat32 (s.source k).count 1
          ∧ t.can = s.can ∧ t.faults.lastSticky = s.faults.lastSticky)
      ∧ (∀ k, s.fullServer = true → k < 416 → srcClass k = 0 → exec (.cClearSticky k) s = .next (s.updSource k (fun f => { f with sticky := false })))
      ∧ (∀ k, (s.fullServer = false ∨ 416 ≤ k ∨ srcClass k ≠ 0) → exec (.cClearSticky k) s = .next s)
      ∧ (s.faults.resetRequest = none → exec .cChipResetReaction s = .next s)
      ∧ (∀ k, s.faults.resetRequest = some k → s.faults.resetParking = false →
        let s1 := ({ s.pinFault k with faults := { (s.pinFault k).faults with resetParking := true } }).parkAll
        exec .cChipResetReaction s = .next (if s1.allArmsDown then s1.reactReset else s1))
      ∧ (∀ k, s.faults.resetRequest = some k → s.faults.resetParking = true →
        exec .cChipResetReaction s = .next (if s.allArmsDown then s.reactReset else s))
      ∧ (s.faults.resetParking = true → exec .cChipResetParkWaitEnd s = .next s.reactReset))
  ∧ (∀ k, k < 416 →
      reactionAllowed k (srcDefaultReaction k) = true
      ∧ (∀ v, reactionAllowed k v = true → srcClass k = 0 → v % 8 = 0 ∧ v.testBit 4 = false)
      ∧ (∀ v, 2 ≤ k → reactionAllowed k v = true → srcClass k = 2 → v % 8 ≠ 0 ∧ v.testBit 4 = true)
      ∧ (srcClass k = 2 → srcHasState k = true))

/-- R498 to R500, R515, R541. -/
def Obligations.DiscreteInputs : Prop :=
  ∀ (s : State),
    (∀ pin level, (s.dev.aonUp = false ∨ s.pinFitted pin = false ∨ (s.inputs.get pin).filtered = level) →
      exec (.cInputFilteredChange pin level) s = .next s)
    ∧ (∀ pin level, s.dev.aonUp = true → s.pinFitted pin = true → (s.inputs.get pin).filtered ≠ level →
      let u := (s.updPin pin (fun y =>
        { y with filtered := level, changedAt := s.now, stuckMs := s.param 0x7082 ((pinCls pin).val + 1) })).atOnce pin level
      ((u.inputs.get pin).window = true →
        ∃ t, exec (.cInputFilteredChange pin level) s = .next t ∧ (t.inputs.get pin).filtered = (u.inputs.get pin).filtered
          ∧ (t.inputs.get pin).chatter = sat32 (u.inputs.get pin).chatter 1
          ∧ (t.inputs.get pin).conditioned = (u.inputs.get pin).conditioned ∧ t.dev = u.dev)
      ∧ ((u.inputs.get pin).window = false → (u.inputs.get pin).conditioned = level → exec (.cInputFilteredChange pin level) s = .next u)
      ∧ ((u.inputs.get pin).window = false → (u.inputs.get pin).conditioned ≠ level →
        exec (.cInputFilteredChange pin level) s = .next (u.acceptPin pin level)))
    ∧ (∀ pin level, (s.inputs.get pin).masked = true →
      let t := s.acceptPin pin level
      (t.inputs.get pin).conditioned = level ∧ (t.inputs.get pin).window = true ∧ (t.inputs.get pin).chatter = 0 ∧ t.dev = s.dev)
    ∧ (∀ pin, (s.inputs.get pin).window = true → (s.inputs.get pin).windowEnd ≤ s.now →
      let s1 := s.updPin pin (fun y => { y with window := false })
      exec (.cRateWindowEnd pin) s = .next (if (s.inputs.get pin).filtered = (s.inputs.get pin).conditioned then s1
        else s1.acceptPin pin (s.inputs.get pin).filtered))
    ∧ (∀ pin, ((s.inputs.get pin).window = false ∨ s.now < (s.inputs.get pin).windowEnd) → exec (.cRateWindowEnd pin) s = .next s)
    ∧ (∀ pin, s.pinFitted pin = true → (s.inputs.get pin).conditioned = true → (s.inputs.get pin).stuck = false →
      (s.inputs.get pin).masked = false → (s.inputs.get pin).stuckMs ≠ 0 →
      (s.inputs.get pin).activeAt + (s.inputs.get pin).stuckMs * 1000000 < s.now →
      let c := pinCls pin
      let s1 := s.updPin pin (fun y => { y with stuck := true, masked := (pinSource pin).isSome })
      let s2 := { s1 with inputs := { s1.inputs with stuckEvents := s1.inputs.stuckEvents.set c.val (sat32 s1.inputs.stuckEvents[c] 1) c.isLt } }
      exec (.cStuckTimeout pin) s = .next ((match pinSource pin with | some k => s2.raise k | none => s2).record
        { type := 0x13, code := c.val + 1, detail := detailAt 0x24 (pinBit pin) }))
    ∧ (∀ pin, ((s.inputs.get pin).conditioned = false ∨ (s.inputs.get pin).stuck = true ∨ (s.inputs.get pin).masked = true
        ∨ (s.inputs.get pin).stuckMs = 0 ∨ s.now ≤ (s.inputs.get pin).activeAt + (s.inputs.get pin).stuckMs * 1000000) →
      exec (.cStuckTimeout pin) s = .next s)
    ∧ (∀ pin, (s.inputs.get pin).masked = true → (s.inputs.get pin).filtered = false →
      (s.inputs.get pin).changedAt + s.param 0x7081 ((pinCls pin).val + 1) * 1000 ≤ s.now →
      exec (.cStuckMaskLift pin) s = .next (s.updPin pin (fun y => { y with masked := false, stuck := false })))
    ∧ (s.inputs.epoActing = false →
      let s1 := { s with inputs := { s.inputs with epoActing := true, epo := { s.inputs.epo with filtered := true } } }
      s.atOnce .epo true = (((s1.parkAndStop).endAllConns 6).stopBackground).pendLee false 1)
    ∧ (s.inputs.epoActing = true → s.atOnce .epo true = s)
    ∧ (s.dev.aonUp = true → s.inputs.epo.filtered = false →
      let u := (s.updPin .epo (fun y =>
        { y with filtered := true, changedAt := s.now, stuckMs := s.param 0x7082 ((pinCls .epo).val + 1) })).atOnce .epo true
      ((u.inputs.get .epo).window = false → (u.inputs.get .epo).conditioned = false → exec .cEpoNAssert s = .next (u.acceptPin .epo true))
      ∧ exec .cEpoNAssert s = exec (.cInputFilteredChange .epo true) s)

/-- R505 to R510. -/
def Obligations.ArbiterAndFailOver : Prop :=
  ∀ (s : State),
    (∀ v, s.hostStopped = true → exec (.cArbiterCheck v) s = .next s)
    ∧ (∀ v c, s.hostStopped = false → s.clusters.failOver = none → s.clusters.active = some c →
      let seen := fun d : ClusterId => (if d = 0 then v.beatA else v.beatB) && !(d = c && s.beatSuppressed)
      let s1 := ((s.beat 0 (seen 0)).beat 1 (seen 1)).viewMirror v
      (∀ why, s1.activeFails c = some why → s1.standbyFit = true →
        ∃ t h, exec (.cArbiterCheck v) s = .next t ∧ t.clusters.active = none ∧ t.clusters.unit[c].role = .off
          ∧ t.clusters.failOver
            = some ⟨if why = 1 ∧ s1.beatSuppressed = true then 5 else why, c, otherCluster c, false, s.now, h⟩)
      ∧ (∀ why, s1.activeFails c = some why → s1.standbyFit = false → (why = 2 ∨ why = 3) →
        exec (.cArbiterCheck v) s = .next (s1.raiseCause c why 0).deviceStop)
      ∧ (s1.activeFails c = none → exec (.cArbiterCheck v) s = .next (s1.checkStandby (otherCluster c))))
    ∧ (∀ c cause, s.clusters.active = some c →
      let t := s.beginFailOver cause false
      t.clusters.active = none ∧ t.clusters.unit[c].role = .off ∧ t.clusters.lastCause = cause
        ∧ t.clusters.failOver = some ⟨cause, c, otherCluster c, false, s.now, []⟩
        ∧ t.clusters.unit[otherCluster c] = s.clusters.unit[otherCluster c])
    ∧ (∀ f, s.clusters.failOver = some f → s.hostStopped = false →
      (let s0 := ((s.releaseHub f).releaseTiles.releaseRequests).kickAll
        let s1 := (s0.host.rings.map (fun r => r.num)).foldl State.readSlots s0;
        exec .cFailoverHubRelease s = .next (s1.heldAccess.foldl State.serve { s1 with heldAccess := [] }))
      ∧ (s.releaseHub f).clusters.failOver = none ∧ (s.releaseHub f).clusters.lastDuration = min ((s.now - f.startedAt) / 1000) 0xFFFFFFFF)
    ∧ (s.clusters.failOver = none → exec .cFailoverHubRelease s = .next s)
    ∧ (∀ c pass, s.clusters.active = some c → (s.dev.state = .opened ∨ s.dev.state = .quiesce) → s.clusters.failOver = none →
      s.hostStopped = false → (s.param 0x8011 1 ≠ 0 ∨ s.clusters.swapPostponed = true) →
      (s.standbyFit = false → exec (.cRoleSwap pass) s = .next { s with clusters := { s.clusters with swapPostponed := true } })
      ∧ (s.standbyFit = true → pass = true →
        ∃ t, exec (.cRoleSwap pass) s = .next t ∧ exec (.cRoleSwapNow pass) s = .next t
          ∧ t.clusters.failOver = some ⟨4, c, otherCluster c, true, s.now, []⟩ ∧ t.clusters.active = none ∧ t.clusters.unit = s.clusters.unit)
      ∧ (s.standbyFit = true → pass = false →
        exec (.cRoleSwap pass) s = .next ((s.raise 6).resetStandby (otherCluster c))
        ∧ exec (.cRoleSwapNow pass) s = .next ((s.raise 6).resetStandby (otherCluster c))))
    ∧ (∀ pass, ¬ (s.dev.state = .opened ∨ s.dev.state = .quiesce) → exec (.cRoleSwapNow pass) s = .next s)

/-- R502 to R504, R509, R511. -/
def Obligations.ClusterRoles : Prop :=
  ∀ (s : State) (c : ClusterId),
    (s.clusters.unit[c].role = .selfTest → s.hostStopped = false →
      (s.clusters.active = none → s.clusters.failOver = none →
        (c = s.clusters.bootCluster ∨ s.clusters.unit[otherCluster c].role = .out) → exec (.cClusterSelfTestDone c true) s = .next (s.activate c))
      ∧ ((s.clusters.active ≠ none ∨ s.clusters.failOver ≠ none ∨ (c ≠ s.clusters.bootCluster ∧ s.clusters.unit[otherCluster c].role ≠ .out)) →
        exec (.cClusterSelfTestDone c true) s = .next (s.updCluster c (fun u => { u with role := .synchronising })))
      ∧ (s.clusters.active ≠ none → (s.raise (22 + 8 * c.val)).clusters.active ≠ none →
        exec (.cClusterSelfTestDone c false) s = .next ((s.raise (22 + 8 * c.val)).clusterOut c)))
    ∧ (s.clusters.unit[c].role ≠ .selfTest → ∀ pass, exec (.cClusterSelfTestDone c pass) s = .next s)
    ∧ (s.clusters.unit[c].role = .synchronising → s.clusters.active = some (otherCluster c) → s.clusters.failOver = none →
      ∃ t, exec (.cClusterSyncDone c) s = .next t ∧ t.clusters.unit[c].role = .standby
        ∧ t.clusters.mirrorApplied = max s.clusters.mirrorApplied s.clusters.mirrorSent
        ∧ t.clusters.active = s.clusters.active)
    ∧ (s.clusters.unit[c].role = .out → (s.dev.state = .assemble ∨ s.dev.state = .opened ∨ s.dev.state = .quiesce ∨ s.dev.state = .bench) →
      ∃ t, exec (.cReadmitCluster c) s = .next t ∧ t.clusters.unit[c].role = .selfTest ∧ t.clusters.unit[otherCluster c] = s.clusters.unit[otherCluster c])
    ∧ ((s.clusters.unit[c].role ≠ .out ∨ ¬ (s.dev.state = .assemble ∨ s.dev.state = .opened ∨ s.dev.state = .quiesce ∨ s.dev.state = .bench)) →
      exec (.cReadmitCluster c) s = .next s)
    ∧ (∀ n,
      let t := s.mirrorUpTo n
      t.clusters.mirrorApplied = max s.clusters.mirrorApplied (min n s.clusters.mirrorSent)
      ∧ (s.clusters.failOver = none → s.hostStopped = false →
        exec (.cMirrorAck n) s = .next ((t.releaseHeld false).releaseTokens false))
      ∧ ((s.clusters.failOver ≠ none ∨ s.hostStopped = true) → exec (.cMirrorAck n) s = .next t))
    ∧ (s.arbiter.failed = false →
      (let s1 := ({ s with arbiter := { s.arbiter with failed := true, cause := 1 } }).raise 0;
        exec .cArbiterLockstepMismatch s = .next ((s1.formFatal { type := 0x31, code := 1 }).stopDevice 2)
        ∧ ((s1.formFatal { type := 0x31, code := 1 }).stopDevice 2).faults.fatalLatch = true)
      ∧ (let s1 := ({ s with arbiter := { s.arbiter with failed := true, cause := 2 } }).raise 1;
        exec .cArbiterWatchdogExpiry s = .next ((s1.formFatal { type := 0x31, code := 2 }).stopDevice 2)
        ∧ ((s1.formFatal { type := 0x31, code := 2 }).stopDevice 2).faults.fatalLatch = true))
    ∧ (s.arbiter.failed = true → exec .cArbiterLockstepMismatch s = .next s ∧ exec .cArbiterWatchdogExpiry s = .next s)

/-- R512, R513, R516, R548. -/
def Obligations.TokensAndInjection : Prop :=
  ∀ (s : State) (l : List Byte),
    (s.dev.state ≠ .bench → exec (.cInjectionTokenWrite l) s = .next s)
    ∧ (s.dev.state = .bench →
      (s.tokenGood 0x4946564F s.injection.nonce 3 l = true → exec (.cInjectionTokenWrite l) s = .next
        { s with injection := ⟨s.free, 1, fieldAt l 0x1C 4, fieldAt l 0x18 4⟩, free := s.free + 1 })
      ∧ (s.tokenGood 0x4946564F s.injection.nonce 3 l = false →
        ∃ t, exec (.cInjectionTokenWrite l) s = .next t ∧ t.injection.tokenState = 2 ∧ t.injection.permissions = 0 ∧ t.injection.nonce = s.free))
    ∧ (s.injectionOpen (s.param 0xF100 5) = false → ∀ arm, exec (.cInjectionArm arm) s = .next s)
    ∧ (s.injectionOpen (s.param 0xF100 5) = true →
      exec (.cInjectionArm false) s = .next (s.setParam 0xF100 6 0)
      ∧ ((s.param 0xF100 5 = 1 ∨ s.param 0xF100 5 = 2) →
        exec (.cInjectionArm true) s = .next ((s.setParam 0xF100 6 1).raiseWith (s.param 0xF100 4) 0 0xFFFF 4))
      ∧ (s.param 0xF100 5 = 3 → exec (.cInjectionArm true) s = .next (s.setParam 0xF100 6 1))
      ∧ (s.param 0xF100 5 = 4 → exec (.cInjectionArm true) s = .next ((s.setParam 0xF100 6 1).arbiterFail 0 3 4)))
    ∧ (s.param 0xF100 6 = 1 → s.param 0xF100 5 = 2 → s.injectionOpen 2 = true →
      exec .cInjectionPeriodic s = .next (s.raiseWith (s.param 0xF100 4) 0 0xFFFF 4))
    ∧ (s.param 0xF100 6 ≠ 1 → exec .cInjectionPeriodic s = .next s)
    ∧ (s.dev.state ≠ .lee → s.dev.state ≠ .bench → exec (.cTapUnlockToken l) s = .next s)
    ∧ ((s.dev.state = .lee ∨ s.dev.state = .bench) →
      (s.tokenGood 0x5554564F s.sec.tapNonce 2 l = true →
        ∃ t, exec (.cTapUnlockToken l) s = .next t ∧ t.sec = ⟨true, fieldAt l 0x1C 4, s.free⟩)
      ∧ (s.tokenGood 0x5554564F s.sec.tapNonce 2 l = false →
        exec (.cTapUnlockToken l) s = .next (({ s with free := s.free + 1, sec := { s.sec with tapNonce := s.free } }).raise 415)))

/-- R518, R520, R525, R549. -/
def Obligations.SupplyAndReset : Prop :=
  ∀ (s : State),
    (s.dev.state = .off → s.dev.aonUp = false → ∀ x pin crystal,
      ∃ t, exec (.cVddAonApply (some x) pin crystal) s = .next t ∧ t.dev.aonUp = true ∧ t.dev.crystal = crystal
        ∧ t.dev.state = (if pin then .boot else .off) ∧ t.flash.image = #v[x.imageA, x.imageB] ∧ t.flash.counters = x.counters
        ∧ t.dev.opSec = (match x.counters with | some c => (c.opSec + 600) % 2 ^ 32 | none => 0))
    ∧ ((s.dev.state ≠ .off ∨ s.dev.aonUp = true) → ∀ x pin crystal, exec (.cVddAonApply x pin crystal) s = .next s)
    ∧ (∃ t, exec .cVddAonRemoved s = .next t ∧ t.dev.state = .off ∧ t.dev.aonUp = false ∧ t.can = {} ∧ t.faults = {} ∧ t.host = {}
        ∧ t.recorder = {} ∧ t.flash = s.flash ∧ t.part = s.part)
    ∧ (s.dev.state = .off → exec .cResetNAssert s = .next s)
    ∧ (s.dev.state ≠ .off →
      ∃ t, exec .cResetNAssert s = .next t ∧ t.dev.state = .boot ∧ t.faults = {} ∧ t.svc = {} ∧ t.host = {} ∧ t.buf = {} ∧ t.clusters = {}
        ∧ t.dict = {} ∧ t.lock = {} ∧ t.dev.opSec = s.dev.opSec ∧ t.flash = s.flash ∧ t.part = s.part
        ∧ (∀ p : PackId, t.packs[p].spindle.speed = s.packs[p].spindle.speed ∧ t.packs[p].state = .absent))
    ∧ (∀ r : RailId, s.rails[r].enable = true → s.rails[r].state = 2 → s.dev.supplyLost = false → s.dev.state ≠ .off →
      exec (.cLossOfSupply r) s = .next
        ((((({ s with dev := { s.dev with supplyLost := true } }).supplyGale).raise (401 + r.val)).endAllConns 6).stopBackground))
    ∧ (∀ r : RailId, (s.rails[r].enable = false ∨ s.rails[r].state ≠ 2 ∨ s.dev.supplyLost = true) → exec (.cLossOfSupply r) s = .next s)
    ∧ (s.dev.supplyLost = true →
      ∃ t, exec .cLossOfSupplyRailOff s = .next t ∧ t.dev.state = .lee ∧ t.dev.leeForm = 1 ∧ t.dev.supplyLost = false)

/-- R521 to R523. R512, R549, R550. -/
def Obligations.RailsDomainsAndSeconds : Prop :=
  (∀ (s : State),
      (∀ l, s.param 0x7042 1 ≠ 1 → exec (.cPmbusPoll l) s = .next s)
      ∧ (∀ (r : RailId) mv ma, s.param 0x7042 1 = 1 → s.rails[r].enable = true → s.param 0x7042 (r.val + 2) ≠ 0 →
        exec (.cPmbusPoll [⟨r, true, false, mv, ma⟩]) s
          = .next (s.updRail r (fun y => { y with milliVolt := min mv 0xFFFF, milliAmp := min ma 0xFFFFFFFF }))
        ∧ exec (.cPmbusPoll [⟨r, false, false, mv, ma⟩]) s
          = .next ((s.updRail r (fun y => { y with milliVolt := 0, milliAmp := 0 })).raise 411))
      ∧ (∀ (d : DomainId) (p : PackId) (a : ArmId), s.domainWanted d.val = true → s.domains[d].state ≠ 2 → d.val = 2 * p.val + a.val →
        ∃ t, exec (.cDomainSwitchOn d) s = .next t ∧ t.domains[d].state = 2
          ∧ (t.arm p a).synth = (if (s.arm p a).synth = 0 then synthMost else (s.arm p a).synth)
          ∧ ∀ h : HeadId, (t.lane p a h).chan.power = (if (s.lane p a h).chan.power = .off then .servoOnly else (s.lane p a h).chan.power))
      ∧ (∀ d : DomainId, s.domainWanted d.val = true → s.domains[d].state ≠ 2 → 64 ≤ d.val → (d.val < 172 ∨ 176 ≤ d.val) →
        exec (.cDomainSwitchOn d) s = .next (s.updDomain d (fun x => { x with state := 2, switchOns := sat32 x.switchOns 1 })))
      ∧ (∀ (d : DomainId) (c : MoverId), s.domainWanted d.val = true → s.domains[d].state ≠ 2 → d = moverDomain c →
        ∃ t, exec (.cDomainSwitchOn d) s = .next t ∧ t.movers[c] = s.movers[c].refill ∧ t.domains[d].state = 2)
      ∧ (∀ d : DomainId, (s.domainWanted d.val = false ∨ s.domains[d].state = 2) → exec (.cDomainSwitchOn d) s = .next s)
      ∧ (∀ d : DomainId, 160 ≤ d.val → d.val < 168 → s.sliceNeeded d.val = false →
        exec (.cEngineSliceIdle d) s = .next (s.updDomain d (fun x => { x with state := 0 })))
      ∧ (∀ d : DomainId, (d.val < 160 ∨ 168 ≤ d.val ∨ s.sliceNeeded d.val = true) → exec (.cEngineSliceIdle d) s = .next s)
      ∧ (∀ r : RailId, s.railsOff.rails[r].enable = false)
      ∧ (∀ d : DomainId, s.railsOff.domains[d].state = 0)
      ∧ (s.rails[0].enable = true → ∀ (p : PackId) (a : ArmId) (b : BusId), s.railsOff.packs[p].spindle.duty = Vector.replicate 3 0
        ∧ (s.railsOff.arm p a).servo.duty = 0 ∧ (s.railsOff.arm p a).synth = 0 ∧ (s.railsOff.arm p a).laneGroup = false ∧ s.railsOff.buses[b].gate = false))
  ∧ (∀ (s : State),
      (s.dev.state = .off → exec .cOperatingSecondsTick s = .next s)
      ∧ (s.dev.state ≠ .off → ∃ t, exec .cOperatingSecondsTick s = .next t
          ∧ t.dev.opSec = (s.dev.opSec + 1) % 2 ^ 32 ∧ t.dev.secondAt = s.now
          ∧ t.injection = (if s.injection.tokenState = 1 ∧ s.injection.validUntil < (s.dev.opSec + 1) % 2 ^ 32
              then { s.injection with tokenState := 3 } else s.injection)
          ∧ (∀ d : DomainId, t.domains[d].seconds = if s.domains[d].state = 2 then sat32 s.domains[d].seconds 1 else s.domains[d].seconds)
          ∧ t.dict = s.dict))

/-- R518, R527 to R529, R535. -/
def Obligations.BootSteps : Prop :=
  ∀ (s : State),
    (s.dev.state = .boot → s.boot.step = .waiting → s.can.sampled = false → s.boot.railsKept = false → ∀ factory n, 0 < n → n < 128 →
      ∃ t, exec (.cBootStart factory n true) s = .next t ∧ t.can.nodeId = n ∧ t.can.started = true ∧ t.dev.factory = factory
        ∧ t.rails[0].enable = true ∧ t.boot.step = .powerGood 0 ∧ t.out = s.out ++ [.bootUp n, .rail 0 true])
    ∧ (s.boot.step ≠ .waiting → ∀ factory n ok, s.dev.state ≠ .off → exec (.cBootStart factory n ok) s = .next s)
    ∧ (∀ r : RailId, s.dev.state = .boot → s.boot.step = .powerGood r.val →
      ∃ t, exec (.cRailPgAccept r) s = .next t ∧ t.rails[r].state = 2
        ∧ t.boot.step = (if r.val = 1 then .references else if r.val = 7 then .plls else .enable (r.val + 1)))
    ∧ (∀ r : RailId, s.dev.state = .boot → s.boot.step = .enable r.val →
      ∃ t, exec (.cRailEnDelay r) s = .next t ∧ t.rails[r].enable = true ∧ t.boot.step = .powerGood r.val ∧ t.out = s.out ++ [.rail r.val true])
    ∧ (∀ r : RailId, s.dev.state = .boot → s.boot.step = .powerGood r.val →
      exec (.cRailPgTimeout r) s = .next ((s.attemptFails (0x10 + r.val)).updRail r (fun x => { x with state := 3 })))
    ∧ (∀ code, (s.boot.attempt < 4 → (s.attemptFails code).boot.step = .retryWait ∧ (s.attemptFails code).dev.state = s.dev.state)
      ∧ (4 ≤ s.boot.attempt → s.attemptFails code = s.endStart code))
    ∧ (∀ code, (s.endStart code).dev.state = .lee ∧ (s.endStart code).dev.leeForm = 1 ∧ (s.endStart code).dev.leeCause = 3
      ∧ (s.endStart code).dev.startFail = code)
    ∧ (s.dev.state = .boot → s.boot.step = .retryWait →
      ∃ t, exec .cStartRetry s = .next t ∧ t.boot.attempt = s.boot.attempt + 1 ∧ t.boot.step = .powerGood 0 ∧ t.rails[0].enable = true)
    ∧ (s.dev.state = .boot → s.boot.step = .references →
      exec (.cReferenceMeasurementEnd false true) s = .next (s.attemptFails 0x20)
      ∧ exec (.cReferenceMeasurementEnd true false) s = .next (s.attemptFails 0x21)
      ∧ ∃ t, exec (.cReferenceMeasurementEnd true true) s = .next t ∧ t.boot.step = (if s.boot.railsKept then .plls else .enable 2))
    ∧ (s.dev.state = .boot → s.boot.step = .plls →
      exec .cPllLockTimeout s = .next (s.attemptFails 0x22)
      ∧ (∀ r, r.arbiterOk = false → exec (.cBootEnd r) s = .next (s.endStart 0x51))
      ∧ (∀ r code, r.arbiterOk = true → s.headFails = some code → exec (.cBootEnd r) s = .next (s.endStart code))
      ∧ (∀ r, r.arbiterOk = true → s.headFails = none → s.failedChannels r.channelsFailed = [] →
        let s0 := s.noteCheckers []
        (∀ code, s0.pickImage = .error code → exec (.cBootEnd r) s = .next (s0.endStart code))
        ∧ (∀ x s1 code, s0.pickImage = .ok (x, s1) → s1.loadLayers = .error code → exec (.cBootEnd r) s = .next (s0.endStart code))
        ∧ (∀ x s1 s2, s0.pickImage = .ok (x, s1) → s1.loadLayers = .ok s2 → s.buf.reachable = true →
          exec (.cBootEnd r) s = .next (s2.bootDone x))))

/-- R531, R535. R529, R538. -/
def Obligations.ImageChoiceAndSelfTest : Prop :=
  (∀ (s : State),
      let st := fun i : Fin 2 => s.imageStateOf s.flash.image[i]
      let p := s.flash.preferred
      let q := otherImage p
      (∀ x, st p = 1 → s.flash.image[p] = some x → ∃ t, s.pickImage = .ok (x, t) ∧ t.window.running = p.val ∧ t.window.imageState[p] = 1)
      ∧ (∀ x, st p ≠ 1 → st q = 1 → s.flash.image[q] = some x → ∃ t, s.pickImage = .ok (x, t) ∧ t.window.running = q.val)
      ∧ (st p ≠ 1 → st q ≠ 1 → s.pickImage = .error (
          if (st p = 3 ∨ st q = 3) ∧ (st p = 0 ∨ st p = 3) ∧ (st q = 0 ∨ st q = 3) then 0x31 else 0x30)))
  ∧ (∀ (s : State) (r : SelfTestResult),
      ((s.dev.state ≠ .selfTest ∨ s.dev.testsEnded = true ∨ (∃ c : ClusterId, s.clusters.unit[c].role = .selfTest)) →
        exec (.cSelftestDone r) s = .next s)
      ∧ (s.dev.state = .selfTest → s.dev.testsEnded = false → (∀ c : ClusterId, s.clusters.unit[c].role ≠ .selfTest) →
        ((∀ c : ClusterId, s.clusters.unit[c].role = .out) → exec (.cSelftestDone r) s = .next (s.endStart 0x50))
        ∧ ((∃ c : ClusterId, s.clusters.unit[c].role ≠ .out) →
          (r.cacheOk = false → exec (.cSelftestDone r) s = .next (s.endStart 0x52))
          ∧ (r.cacheOk = true → r.enginesOk = false → exec (.cSelftestDone r) s = .next (s.endStart 0x53))
          ∧ (r = ⟨true, true, 0, 0, 0, 0⟩ → s.dev.factory = false → (∀ c : ClusterId, s.clusters.unit[c].role ≠ .out) →
            let o : Fin 2 := if s.window.running = 0 then 1 else 0
            let s2 := { s with window := { s.window with imageState := s.window.imageState.set o.val (s.imageStateOf s.flash.image[o]) o.isLt } }
            (s.param 0x7001 1 ≠ 1 → s.dev.pendingLee = none → exec (.cSelftestDone r) s = .next (s2.enterState .assemble))
            ∧ (s.param 0x7001 1 = 1 → exec (.cSelftestDone r) s = .next { s2 with dev := { s2.dev with testsEnded := true } }))
          ∧ (r = ⟨true, true, 0, 0, 0, 0⟩ →
            let o : Fin 2 := if s.window.running = 0 then 1 else 0
            let s2 := { s with window := { s.window with imageState := s.window.imageState.set o.val (s.imageStateOf s.flash.image[o]) o.isLt } }
            (s.dev.factory = true → s.dev.pendingLee = none → exec (.cSelftestDone r) s = .next (s2.enterState .bench))
              ∧ (s.dev.pendingLee ≠ none → exec (.cSelftestDone r) s = .next { s2 with dev := { s2.dev with testsEnded := true } })
            ∧ (s.dev.factory = false → (∃ c : ClusterId, s.clusters.unit[c].role = .out) →
              exec (.cSelftestDone r) s = .next { s2 with dev := { s2.dev with testsEnded := true } })))))

/-- R526: the seven values of 0x7000.02. -/
def Obligations.StateCommands : Prop :=
  ∀ (s : State),
    (s.commandRuns = true → ∀ i ∈ [Instr.cStateCmdOpen, .cStateCmdQuiesce, .cStateCmdLee, .cStateCmdStart, .cStateCmdPowerDown,
        .cStateCmdZephyr, .cStateCmdAssemble], exec i s = .next s)
    ∧ (s.commandRuns = false →
      let did := fun (t : State) n => { t with dev := { t.dev with lastCommand := n } }
      ((s.dev.state = .assemble ∧ s.store.isOpen = true ∨ s.dev.state = .quiesce) → exec .cStateCmdOpen s = .next (did (s.enterState .opened) 1))
      ∧ (¬ (s.dev.state = .assemble ∧ s.store.isOpen = true ∨ s.dev.state = .quiesce) → exec .cStateCmdOpen s = .next s)
      ∧ (s.dev.state = .opened → exec .cStateCmdQuiesce s = .next (did (s.enterState .quiesce) 2))
      ∧ (s.dev.state ≠ .opened → exec .cStateCmdQuiesce s = .next s)
      ∧ (s.dev.state = .quiesce → exec .cStateCmdLee s = .next { s with dev := { s.dev with closeStep := 1, commandBusy := true, lastCommand := 3 } })
      ∧ ((s.dev.state = .selfTest ∨ s.dev.state = .assemble ∨ s.dev.state = .bench) →
        ∃ t, exec .cStateCmdLee s = .next t ∧ t.dev.pendingLee = some ⟨false, 0⟩ ∧ t.dev.commandBusy = true ∧ t.dev.lastCommand = 3)
      ∧ (s.dev.state = .opened →
        ∃ t, exec .cStateCmdLee s = .next t ∧ t.dev.state = .quiesce ∧ t.dev.closeStep = 1 ∧ t.dev.commandBusy = true)
      ∧ ((s.dev.state = .lee ∨ s.dev.state = .boot ∨ s.dev.state = .zephyr ∨ s.dev.state = .off) → exec .cStateCmdLee s = .next s)
      ∧ (s.dev.state = .lee → s.inputs.epo.filtered = false → s.dev.leeCause ≠ 2 → s.dev.leeCause ≠ 8 →
        exec .cStateCmdStart s = .next (did (s.startBoot 0 true (decide (s.dev.leeForm = 0))) 4))
      ∧ ((s.dev.state ≠ .lee ∨ s.inputs.epo.filtered = true ∨ s.dev.leeCause = 2 ∨ s.dev.leeCause = 8) → exec .cStateCmdStart s = .next s)
      ∧ (s.dev.state = .lee → s.dev.leeForm = 0 →
        exec .cStateCmdPowerDown s
          = .next (did (({ s with dev := { s.dev with powerDown := true, commandBusy := true } }).tryPowerDown) 5))
      ∧ ((s.dev.state ≠ .lee ∨ s.dev.leeForm ≠ 0) → exec .cStateCmdPowerDown s = .next s)
      ∧ (s.mayZephyr = true → ∃ t, exec .cStateCmdZephyr s = .next t ∧ t.dev.zephyrEntry = true ∧ t.dev.commandBusy = true ∧ t.can.started = false)
      ∧ (s.mayZephyr = false → exec .cStateCmdZephyr s = .next s)
      ∧ (s.dev.state = .selfTest → s.dev.testsEnded = true → exec .cStateCmdAssemble s = .next (did (s.enterState .assemble) 7))
      ∧ ((s.dev.state ≠ .selfTest ∨ s.dev.testsEnded = false) → exec .cStateCmdAssemble s = .next s))
    ∧ (∀ v, (v = 0 ∨ 8 ≤ v) → s.stateCommand v = .error 0x06090030)

/-- R525, R539, R540. -/
def Obligations.LeeAndOrderlyClose : Prop :=
  ∀ (s : State),
    (∀ m, s.dev.pendingLee = some m → s.allArmsDown = true → (m.cause ≠ 0 ∨ s.svc.cmds = []) →
      exec .cLeeEntryArmsUnloaded s = .next (s.enterLee m.reduced m.cause))
    ∧ (∀ m, s.dev.pendingLee = some m → (s.allArmsDown = false ∨ (m.cause = 0 ∧ s.svc.cmds ≠ [])) → exec .cLeeEntryArmsUnloaded s = .next s)
    ∧ (∀ reduced cause, let t := s.enterLee reduced cause
      t.dev.state = .lee ∧ t.dev.leeForm = (if reduced then 1 else 0) ∧ t.dev.leeCause = cause ∧ t.dev.pendingLee = none ∧ t.dev.closeStep = 0
        ∧ (reduced = true → ∀ c : ClusterId, t.clusters.unit[c].role = .off))
    ∧ (s.dev.closeStep = 1 → s.noDataCommand = true →
      ∃ t, exec .cOrderlyCloseStepDone s = .next t ∧ t.dev.closeStep = 2 ∧ t.store.windows = [] ∧ t.store.back = [] ∧ t.store.selfTest.running = 0)
    ∧ (s.dev.closeStep = 1 → s.noDataCommand = false → exec .cOrderlyCloseStepDone s = .next s)
    ∧ (s.dev.closeStep = 2 → s.backgroundEnded = true → exec .cOrderlyCloseStepDone s = .next { s with dev := { s.dev with closeStep := 3 } })
    ∧ (s.dev.closeStep = 2 → s.backgroundEnded = false → exec .cOrderlyCloseStepDone s = .next s)
    ∧ (s.dev.closeStep = 3 → s.store.changes = [] → s.store.journal = [] → exec .cOrderlyCloseStepDone s = .next s.closeFrom4)
    ∧ (s.dev.closeStep = 5 → s.allArmsDown = true → ∃ t, exec .cOrderlyCloseStepDone s = .next t ∧ t.dev.closeStep = 6)
    ∧ (s.dev.closeStep = 6 → s.dev.pendingLee = none → exec .cOrderlyCloseStepDone s = .next (s.enterLee false 0))
    ∧ (∀ m, s.dev.closeStep = 6 → s.dev.pendingLee = some m → exec .cOrderlyCloseStepDone s = .next (s.enterLee m.reduced m.cause))
    ∧ (s.dev.closeStep = 0 → exec .cOrderlyCloseStepDone s = .next s ∧ exec .cShutdownTimeout s = .next s)
    ∧ (1 ≤ s.dev.closeStep → s.dev.closeStep ≤ 3 →
      exec .cShutdownTimeout s
        = .next ((s.updStore (fun t => { t with changes := [], journal := [] })).closeFrom4.record { type := 0x50, code := 8 }))
    ∧ (s.dev.powerDown = false → s.dev.state = .lee → s.dev.leeForm = 1 → s.spindlesOff = true →
      exec .cReducedFormRailOff s = .next s.flushAll.railsOff)
    ∧ (s.dev.powerDown = false → (s.dev.state ≠ .lee ∨ s.dev.leeForm ≠ 1 ∨ s.spindlesOff = false) → exec .cReducedFormRailOff s = .next s)

/-- R542 to R545. -/
def Obligations.ZephyrAndWake : Prop :=
  ∀ (s : State),
    (s.param 0x7001 4 ≠ 0 → s.mayZephyr = true → s.dev.zephyrEntry = false → exec .cZephyrDelayExpiry s = .next s.beginZephyr)
    ∧ ((s.param 0x7001 4 = 0 ∨ s.mayZephyr = false ∨ s.dev.zephyrEntry = true) → exec .cZephyrDelayExpiry s = .next s)
    ∧ (s.beginZephyr.dev.zephyrEntry = true ∧ s.beginZephyr.can.started = false ∧ s.beginZephyr.can.emcyQueue = []
      ∧ ∀ r : RailId, s.beginZephyr.rails[r].enable = false)
    ∧ (s.dev.zephyrEntry = true → s.dev.latchedWake = 0 → ∀ energy,
      ∃ t, exec (.cZephyrEntryDone energy) s = .next t ∧ t.dev.state = .zephyr ∧ t.dev.presAtEntry = s.presBits ∧ t.dev.energyAtEntry = energy
        ∧ t.dev.zephyrEntry = false)
    ∧ (s.dev.zephyrEntry = true → s.dev.latchedWake ≠ 0 → ∀ energy,
      ∃ t, exec (.cZephyrEntryDone energy) s = .next t ∧ t.dev.state = .boot ∧ t.boot.wake = s.dev.latchedWake)
    ∧ (s.dev.zephyrEntry = false → ∀ energy, exec (.cZephyrEntryDone energy) s = .next s)
    ∧ (∀ (bit : Fin 8) n, s.dev.state ≠ .off →
      let s0 := s.wakeRecord bit.val (n % 2 ^ 32) 0
      let s1 := { s0 with dev := { s0.dev with wakes := sat32 s0.dev.wakes 1, lastWake := 2 ^ bit.val } }
      ((s.param 0x7050 1).testBit bit.val = false → exec (.cWakeEvent bit n) s = .next s1)
      ∧ ((s.param 0x7050 1).testBit bit.val = true → s.dev.zephyrEntry = false → s.dev.state = .zephyr →
        exec (.cWakeEvent bit n) s = .next (s1.startBoot (wakeKind bit.val) false false))
      ∧ ((s.param 0x7050 1).testBit bit.val = true → s.dev.zephyrEntry = false → s.dev.state = .lee → s.dev.leeForm = 1 → s.dev.leeCause = 0 →
        exec (.cWakeEvent bit n) s = .next (s1.startBoot (wakeKind bit.val) true false))
      ∧ ((s.param 0x7050 1).testBit bit.val = true → s.dev.zephyrEntry = true →
        exec (.cWakeEvent bit n) s = .next { s1 with dev := { s1.dev with
          latchedWake := if s1.dev.latchedWake = 0 then wakeKind bit.val else s1.dev.latchedWake } }))
    ∧ (∀ (bit : Fin 8) n, s.dev.state = .off → exec (.cWakeEvent bit n) s = .next s)
    ∧ (∀ wake fromLee kept, let t := s.startBoot wake fromLee kept
      t.dev.state = .boot ∧ t.boot.step = .waiting ∧ t.boot.attempt = 1 ∧ t.boot.wake = wake ∧ t.host.conns = [] ∧ t.svc.cmds = []
        ∧ ∀ c : ClusterId, t.clusters.unit[c].role = .off)
    ∧ (∀ x, s.dev.state ≠ .zephyr → exec (.cZephyrTick x) s = .next s)
    ∧ (s.dev.state = .zephyr → ∀ x : TickSample, x.temps = [] →
      let s1 := { s with dev := { s.dev with ticks := sat32 s.dev.ticks 1 } }
      let cool := x.die ≤ signedNat 8 (s.param 0x7060 4) * 256
      (s.presBits = s.dev.presAtEntry → cool → x.energy = 0 → exec (.cZephyrTick x) s = .next s1)
      ∧ (s.presBits ≠ s.dev.presAtEntry → cool → x.energy = 0 → exec (.cZephyrTick x) s = .next (s1.wakeEvent 5 0 0))
      ∧ (s.presBits = s.dev.presAtEntry → ¬ cool → x.energy = 0 → exec (.cZephyrTick x) s = .next (s1.wakeEvent 4 0 (lowBits 16 x.die)))
      ∧ (s.presBits = s.dev.presAtEntry → cool → ∀ q : PortId, s.portFitted q = true → x.energy.testBit q.val = true →
        s.dev.energyAtEntry.testBit q.val = false → exec (.cZephyrTick x) s = .next (s1.wakeEvent 6 0 0)))
    ∧ (s.dev.state = .zephyr → s.presBits = s.dev.presAtEntry → ∀ (p : PackId) v, s.packFitted p = true → s.inputs.pres[p].conditioned = true →
      s.packBeyond v = true → ∀ die, die ≤ signedNat 8 (s.param 0x7060 4) * 256 →
      exec (.cZephyrTick { temps := [⟨p, v⟩], die := die, energy := 0 }) s
        = .next (({ s with dev := { s.dev with ticks := sat32 s.dev.ticks 1 } }).wakeEvent 4 0 (lowBits 16 v)))

/-- R531, R536, R537, R547. -/
def Obligations.FlashWindow : Prop :=
  ∀ (s : State),
    (s.changeable 0x1E4 = true → let t := s.param 0x7402 1; let off := s.param 0x7402 2
      (∀ l : List Byte, l ≠ [] → l.length ≤ 65536 → s.window.state ≠ 1 → s.targetHeld t = false → off + l.length ≤ targetSize t →
        s.erasedAt t off l.length = true →
        exec (.cFlashDataWrite l) s = .next ((({ s with window := { s.window with state := 1, op := 3, target := t, offset := off, data := l } }).setParam
          0x7402 2 (off + l.length))))
      ∧ (∀ l : List Byte, (s.window.state = 1 ∨ s.targetHeld t = true ∨ targetSize t < off + l.length ∨ s.erasedAt t off l.length = false) →
        exec (.cFlashDataWrite l) s = .next s)
      ∧ (s.window.state ≠ 1 → s.targetHeld t = false →
        exec .cFlashErase s = .next { s with window := { s.window with state := 1, op := 1, target := t, offset := off, data := [] } })
      ∧ (s.window.state ≠ 1 →
        exec .cFlashVerify s = .next { s with window := { s.window with state := 1, op := 2, target := t, offset := off, data := [] } })
      ∧ (s.window.state = 1 → exec .cFlashErase s = .next s ∧ exec .cFlashVerify s = .next s)
      ∧ (s.targetHeld t = true → exec .cFlashErase s = .next s)
      ∧ (∀ i x, s.flash.decides = some (i, x) → ∀ v, v < 2 →
        exec (.cBootSelectorWrite v) s = .next (({ s with flash := { s.flash with
          selector := s.flash.selector.set (otherImage i).val (selectorBytes ⟨(x.seq + 1) % 2 ^ 32, v⟩) (otherImage i).isLt } }).send
            (.flashWrite 1 (otherImage i).val)))
      ∧ (∀ v, 2 ≤ v → exec (.cBootSelectorWrite v) s = .next s))
    ∧ (s.changeable 0x1E4 = false → ∀ l v, ∀ i ∈ [Instr.cFlashDataWrite l, .cFlashErase, .cFlashVerify, .cBootSelectorWrite v], exec i s = .next s)
    ∧ (∀ content, s.window.op = 1 → s.window.target < 2 →
      ∃ t, exec (.cFlashOperationDone true content) s = .next t ∧ t.window.state = 2 ∧ t.window.op = 0
        ∧ t.flash = s.flash.setTarget s.window.target .none ∧ (t.window.imageState.toList[s.window.target]?) = some 0)
    ∧ (∀ content, s.window.op = 3 →
      exec (.cFlashOperationDone true content) s = .next { s with
        flash := s.flash.setTarget s.window.target content,
        window := { s.window with state := 2, op := 0, data := [],
                                  bytes := mergeCells (s.window.target * 2 ^ 24 + s.window.offset) s.window.data s.window.bytes } })
    ∧ (∀ content, s.window.op = 2 →
      ∃ t, exec (.cFlashOperationDone true content) s = .next t ∧ t.window.op = 0
        ∧ t.window.state = (if (s.verifyTarget s.window.target).1 then 2 else 4) ∧ t.flash = s.flash)
    ∧ (∀ v, s.changeable 0x1E0 = false → exec (.cSecurityVersionCommit v) s = .next s)
    ∧ (∀ v x y, s.changeable 0x1E0 = true → let run : Fin 2 := if s.window.running = 0 then 0 else 1
      s.flash.image[run] = some x → s.flash.image[otherImage run] = some y → s.window.imageState[otherImage run] = 1 →
      s.fuses.securityVersion < v →
      (v ≤ x.securityVersion → v ≤ y.securityVersion →
        exec (.cSecurityVersionCommit v) s = .next (({ s with fuses := { s.fuses with securityVersion := v } }).record
          { type := 0x50, code := 6, detail := detailAt 0x24 v }))
      ∧ ((x.securityVersion < v ∨ y.securityVersion < v) → exec (.cSecurityVersionCommit v) s = .next s))
    ∧ (∀ v, v < 64 → s.changeable 0x100 = true →
      exec (.cKeyIndexRevoke v) s = .next (({ s with fuses := { s.fuses with keyRevoked := s.fuses.keyRevoked ||| 2 ^ v } }).record
        { type := 0x50, code := 7, detail := detailAt 0x24 v }))
    ∧ (∀ v, (64 ≤ v ∨ s.changeable 0x100 = false) → exec (.cKeyIndexRevoke v) s = .next s)
    ∧ (∀ key : List Byte, key.length = 96 → s.changeable 0x24 = true → (leNat key = 0 ∨ s.dev.state ≠ .assemble ∨ s.store.isOpen = false) →
      exec (.cEscrowKeyWrite key) s = .next (s.setParam 0x7404 2 (leNat key)))
    ∧ (∀ key : List Byte, key.length = 96 → s.changeable 0x24 = true → leNat key ≠ 0 → s.dev.state = .assemble → s.store.isOpen = true →
      exec (.cEscrowKeyWrite key) s
        = .next ((s.setParam 0x7404 2 (leNat key)).updStore (fun t => { t with disk := { t.disk with escrow := true } })))
    ∧ (∀ key : List Byte, key.length ≠ 96 → exec (.cEscrowKeyWrite key) s = .next s)
    ∧ (∀ l x, importKeys l = some x → s.changeable 0x20 = true → exec (.cStoreKeyImport l) s = .next (s.importSecrets x))
    ∧ (∀ l, (importKeys l = none ∨ s.changeable 0x20 = false) → exec (.cStoreKeyImport l) s = .next s)

/-- R549, R554 to R561. -/
def Obligations.RecorderWrites : Prop :=
  ∀ (s : State),
    (∀ r : EvRec, s.mergeable r = false →
      (s.record r).recorder.nextSeq = (s.recorder.nextSeq + 1) % 2 ^ 32
      ∧ (s.record r).recorder.newest = keepLast 64 (s.recorder.newest ++ [s.stamp r])
      ∧ (s.record r).recorder.formed = sat32 s.recorder.formed 1
      ∧ ((s.record r).recorder.staging = s.recorder.staging ++ [⟨s.clusters.active.isSome, s.stamp r⟩]
        ∨ ((s.record r).recorder.staging = s.recorder.staging ∧ (s.record r).recorder.lost = sat32 s.recorder.lost 1)))
    ∧ (∀ r : EvRec, s.mergeable r = true → (s.record r).recorder.nextSeq = s.recorder.nextSeq
      ∧ (s.record r).recorder.merged = sat32 s.recorder.merged 1 ∧ (s.record r).recorder.staging.length = s.recorder.staging.length)
    ∧ (s.flashReachable = true → ∃ t, exec (.cCounterSave true) s = .next t
      ∧ t.flash.counters = some ⟨s.dev.opSec, s.dev.powerCycles, s.recorder.fatalOverwritten⟩)
    ∧ (s.flashReachable = true →
      exec (.cCounterSave false) s = .next ((s.updRecorder (fun c => { c with writeFailures := sat32 c.writeFailures 1 })).raise 9)
      ∧ exec (.cStagingFlush true) s = .next (s.flushStaging 1)
      ∧ (1 < s.recorder.staging.length → exec (.cStagingFlush false) s
        = .next ((s.updRecorder (fun c => { c with writeFailures := sat32 c.writeFailures 1 })).raise 9))
      ∧ (s.recorder.staging ≠ [] → exec (.cStagingHoldExpiry false) s
        = .next ((s.updRecorder (fun c => { c with writeFailures := sat32 c.writeFailures 1 })).raise 9)))
    ∧ (s.flashReachable = false → ∀ ok, exec (.cCounterSave ok) s = .next s ∧ exec (.cStagingFlush ok) s = .next s)
    ∧ (exec (.cStagingHoldExpiry true) s = .next s.flushAll)
    ∧ (∀ who data t, s.clusters.failOver = none → 128 ≤ who → s.dictWrite who 0x8803 1 data = .ok t → exec (.cEventMark who data) s = .next t)
    ∧ (∀ n r, s.usdoOpen n = true → s.clusters.failOver = none → existsCheck 0x8802 3 = .ok r → s.readRefuses 0x8802 = false →
      let w := (s.endSession n).windowRead n 64
      exec (.cEventReadWindow n) s = .next (w.2.answer n 0 ((w.1.map EvRec.bytes).flatten)))
    ∧ (∀ n, (s.windowRead n 64).1.length ≤ 64 ∧ ∀ r ∈ (s.windowRead n 64).1, r ∈ s.heldRecords ∧ passesFilter (s.reader n).filter r = true)
end

