-- ==== Sys2Proof/Laws/State.lean ====
section
/-! SUPPORT. What each update of the state leaves as it was, field by field, and what it puts where it acts. -/

namespace Sys2Proof.Machine

/-! ### send -/

@[simp] theorem State.send_pending (s : State) (o) : (s.send o).pending = s.pending := rfl
@[simp] theorem State.send_now (s : State) (o) : (s.send o).now = s.now := rfl
@[simp] theorem State.send_free (s : State) (o) : (s.send o).free = s.free := rfl
@[simp] theorem State.send_part (s : State) (o) : (s.send o).part = s.part := rfl
@[simp] theorem State.send_tiles (s : State) (o) : (s.send o).tiles = s.tiles := rfl
@[simp] theorem State.send_packs (s : State) (o) : (s.send o).packs = s.packs := rfl
@[simp] theorem State.send_spinQueue (s : State) (o) : (s.send o).spinQueue = s.spinQueue := rfl
@[simp] theorem State.send_buses (s : State) (o) : (s.send o).buses = s.buses := rfl
@[simp] theorem State.send_fmtStore (s : State) (o) : (s.send o).fmtStore = s.fmtStore := rfl
@[simp] theorem State.send_svc (s : State) (o) : (s.send o).svc = s.svc := rfl
@[simp] theorem State.send_bench (s : State) (o) : (s.send o).bench = s.bench := rfl
@[simp] theorem State.send_ref100Lost (s : State) (o) : (s.send o).ref100Lost = s.ref100Lost := rfl
@[simp] theorem State.send_ref156Lost (s : State) (o) : (s.send o).ref156Lost = s.ref156Lost := rfl
@[simp] theorem State.send_dict (s : State) (o) : (s.send o).dict = s.dict := rfl
@[simp] theorem State.send_lock (s : State) (o) : (s.send o).lock = s.lock := rfl
@[simp] theorem State.send_host (s : State) (o) : (s.send o).host = s.host := rfl
@[simp] theorem State.send_store (s : State) (o) : (s.send o).store = s.store := rfl
@[simp] theorem State.send_buf (s : State) (o) : (s.send o).buf = s.buf := rfl
@[simp] theorem State.send_movers (s : State) (o) : (s.send o).movers = s.movers := rfl
@[simp] theorem State.send_lastMoverError (s : State) (o) : (s.send o).lastMoverError = s.lastMoverError := rfl
@[simp] theorem State.send_layers (s : State) (o) : (s.send o).layers = s.layers := rfl
@[simp] theorem State.send_raw (s : State) (o) : (s.send o).raw = s.raw := rfl
@[simp] theorem State.send_can (s : State) (o) : (s.send o).can = s.can := rfl
@[simp] theorem State.send_heldAccess (s : State) (o) : (s.send o).heldAccess = s.heldAccess := rfl
@[simp] theorem State.send_faults (s : State) (o) : (s.send o).faults = s.faults := rfl
@[simp] theorem State.send_inputs (s : State) (o) : (s.send o).inputs = s.inputs := rfl
@[simp] theorem State.send_clusters (s : State) (o) : (s.send o).clusters = s.clusters := rfl
@[simp] theorem State.send_arbiter (s : State) (o) : (s.send o).arbiter = s.arbiter := rfl
@[simp] theorem State.send_injection (s : State) (o) : (s.send o).injection = s.injection := rfl
@[simp] theorem State.send_dev (s : State) (o) : (s.send o).dev = s.dev := rfl
@[simp] theorem State.send_boot (s : State) (o) : (s.send o).boot = s.boot := rfl
@[simp] theorem State.send_rails (s : State) (o) : (s.send o).rails = s.rails := rfl
@[simp] theorem State.send_domains (s : State) (o) : (s.send o).domains = s.domains := rfl
@[simp] theorem State.send_flash (s : State) (o) : (s.send o).flash = s.flash := rfl
@[simp] theorem State.send_fuses (s : State) (o) : (s.send o).fuses = s.fuses := rfl
@[simp] theorem State.send_window (s : State) (o) : (s.send o).window = s.window := rfl
@[simp] theorem State.send_sec (s : State) (o) : (s.send o).sec = s.sec := rfl
@[simp] theorem State.send_recorder (s : State) (o) : (s.send o).recorder = s.recorder := rfl
@[simp] theorem State.send_mirrorHeld (s : State) (o) : (s.send o).mirrorHeld = s.mirrorHeld := rfl
@[simp] theorem State.send_heldTokens (s : State) (o) : (s.send o).heldTokens = s.heldTokens := rfl
@[simp] theorem State.send_tileHeld (s : State) (o) : (s.send o).tileHeld = s.tileHeld := rfl

/-! ### updPack -/

@[simp] theorem State.updPack_pending (s : State) (p) (f) : (s.updPack p f).pending = s.pending := rfl
@[simp] theorem State.updPack_now (s : State) (p) (f) : (s.updPack p f).now = s.now := rfl
@[simp] theorem State.updPack_free (s : State) (p) (f) : (s.updPack p f).free = s.free := rfl
@[simp] theorem State.updPack_part (s : State) (p) (f) : (s.updPack p f).part = s.part := rfl
@[simp] theorem State.updPack_tiles (s : State) (p) (f) : (s.updPack p f).tiles = s.tiles := rfl
@[simp] theorem State.updPack_spinQueue (s : State) (p) (f) : (s.updPack p f).spinQueue = s.spinQueue := rfl
@[simp] theorem State.updPack_buses (s : State) (p) (f) : (s.updPack p f).buses = s.buses := rfl
@[simp] theorem State.updPack_fmtStore (s : State) (p) (f) : (s.updPack p f).fmtStore = s.fmtStore := rfl
@[simp] theorem State.updPack_svc (s : State) (p) (f) : (s.updPack p f).svc = s.svc := rfl
@[simp] theorem State.updPack_bench (s : State) (p) (f) : (s.updPack p f).bench = s.bench := rfl
@[simp] theorem State.updPack_ref100Lost (s : State) (p) (f) : (s.updPack p f).ref100Lost = s.ref100Lost := rfl
@[simp] theorem State.updPack_ref156Lost (s : State) (p) (f) : (s.updPack p f).ref156Lost = s.ref156Lost := rfl
@[simp] theorem State.updPack_dict (s : State) (p) (f) : (s.updPack p f).dict = s.dict := rfl
@[simp] theorem State.updPack_lock (s : State) (p) (f) : (s.updPack p f).lock = s.lock := rfl
@[simp] theorem State.updPack_host (s : State) (p) (f) : (s.updPack p f).host = s.host := rfl
@[simp] theorem State.updPack_store (s : State) (p) (f) : (s.updPack p f).store = s.store := rfl
@[simp] theorem State.updPack_buf (s : State) (p) (f) : (s.updPack p f).buf = s.buf := rfl
@[simp] theorem State.updPack_movers (s : State) (p) (f) : (s.updPack p f).movers = s.movers := rfl
@[simp] theorem State.updPack_lastMoverError (s : State) (p) (f) : (s.updPack p f).lastMoverError = s.lastMoverError := rfl
@[simp] theorem State.updPack_layers (s : State) (p) (f) : (s.updPack p f).layers = s.layers := rfl
@[simp] theorem State.updPack_raw (s : State) (p) (f) : (s.updPack p f).raw = s.raw := rfl
@[simp] theorem State.updPack_can (s : State) (p) (f) : (s.updPack p f).can = s.can := rfl
@[simp] theorem State.updPack_heldAccess (s : State) (p) (f) : (s.updPack p f).heldAccess = s.heldAccess := rfl
@[simp] theorem State.updPack_faults (s : State) (p) (f) : (s.updPack p f).faults = s.faults := rfl
@[simp] theorem State.updPack_inputs (s : State) (p) (f) : (s.updPack p f).inputs = s.inputs := rfl
@[simp] theorem State.updPack_clusters (s : State) (p) (f) : (s.updPack p f).clusters = s.clusters := rfl
@[simp] theorem State.updPack_arbiter (s : State) (p) (f) : (s.updPack p f).arbiter = s.arbiter := rfl
@[simp] theorem State.updPack_injection (s : State) (p) (f) : (s.updPack p f).injection = s.injection := rfl
@[simp] theorem State.updPack_dev (s : State) (p) (f) : (s.updPack p f).dev = s.dev := rfl
@[simp] theorem State.updPack_boot (s : State) (p) (f) : (s.updPack p f).boot = s.boot := rfl
@[simp] theorem State.updPack_rails (s : State) (p) (f) : (s.updPack p f).rails = s.rails := rfl
@[simp] theorem State.updPack_domains (s : State) (p) (f) : (s.updPack p f).domains = s.domains := rfl
@[simp] theorem State.updPack_flash (s : State) (p) (f) : (s.updPack p f).flash = s.flash := rfl
@[simp] theorem State.updPack_fuses (s : State) (p) (f) : (s.updPack p f).fuses = s.fuses := rfl
@[simp] theorem State.updPack_window (s : State) (p) (f) : (s.updPack p f).window = s.window := rfl
@[simp] theorem State.updPack_sec (s : State) (p) (f) : (s.updPack p f).sec = s.sec := rfl
@[simp] theorem State.updPack_recorder (s : State) (p) (f) : (s.updPack p f).recorder = s.recorder := rfl
@[simp] theorem State.updPack_mirrorHeld (s : State) (p) (f) : (s.updPack p f).mirrorHeld = s.mirrorHeld := rfl
@[simp] theorem State.updPack_heldTokens (s : State) (p) (f) : (s.updPack p f).heldTokens = s.heldTokens := rfl
@[simp] theorem State.updPack_tileHeld (s : State) (p) (f) : (s.updPack p f).tileHeld = s.tileHeld := rfl
@[simp] theorem State.updPack_out (s : State) (p) (f) : (s.updPack p f).out = s.out := rfl

/-! ### updArm -/

@[simp] theorem State.updArm_pending (s : State) (p) (a) (f) : (s.updArm p a f).pending = s.pending := rfl
@[simp] theorem State.updArm_now (s : State) (p) (a) (f) : (s.updArm p a f).now = s.now := rfl
@[simp] theorem State.updArm_free (s : State) (p) (a) (f) : (s.updArm p a f).free = s.free := rfl
@[simp] theorem State.updArm_part (s : State) (p) (a) (f) : (s.updArm p a f).part = s.part := rfl
@[simp] theorem State.updArm_tiles (s : State) (p) (a) (f) : (s.updArm p a f).tiles = s.tiles := rfl
@[simp] theorem State.updArm_spinQueue (s : State) (p) (a) (f) : (s.updArm p a f).spinQueue = s.spinQueue := rfl
@[simp] theorem State.updArm_buses (s : State) (p) (a) (f) : (s.updArm p a f).buses = s.buses := rfl
@[simp] theorem State.updArm_fmtStore (s : State) (p) (a) (f) : (s.updArm p a f).fmtStore = s.fmtStore := rfl
@[simp] theorem State.updArm_svc (s : State) (p) (a) (f) : (s.updArm p a f).svc = s.svc := rfl
@[simp] theorem State.updArm_bench (s : State) (p) (a) (f) : (s.updArm p a f).bench = s.bench := rfl
@[simp] theorem State.updArm_ref100Lost (s : State) (p) (a) (f) : (s.updArm p a f).ref100Lost = s.ref100Lost := rfl
@[simp] theorem State.updArm_ref156Lost (s : State) (p) (a) (f) : (s.updArm p a f).ref156Lost = s.ref156Lost := rfl
@[simp] theorem State.updArm_dict (s : State) (p) (a) (f) : (s.updArm p a f).dict = s.dict := rfl
@[simp] theorem State.updArm_lock (s : State) (p) (a) (f) : (s.updArm p a f).lock = s.lock := rfl
@[simp] theorem State.updArm_host (s : State) (p) (a) (f) : (s.updArm p a f).host = s.host := rfl
@[simp] theorem State.updArm_store (s : State) (p) (a) (f) : (s.updArm p a f).store = s.store := rfl
@[simp] theorem State.updArm_buf (s : State) (p) (a) (f) : (s.updArm p a f).buf = s.buf := rfl
@[simp] theorem State.updArm_movers (s : State) (p) (a) (f) : (s.updArm p a f).movers = s.movers := rfl
@[simp] theorem State.updArm_lastMoverError (s : State) (p) (a) (f) : (s.updArm p a f).lastMoverError = s.lastMoverError := rfl
@[simp] theorem State.updArm_layers (s : State) (p) (a) (f) : (s.updArm p a f).layers = s.layers := rfl
@[simp] theorem State.updArm_raw (s : State) (p) (a) (f) : (s.updArm p a f).raw = s.raw := rfl
@[simp] theorem State.updArm_can (s : State) (p) (a) (f) : (s.updArm p a f).can = s.can := rfl
@[simp] theorem State.updArm_heldAccess (s : State) (p) (a) (f) : (s.updArm p a f).heldAccess = s.heldAccess := rfl
@[simp] theorem State.updArm_faults (s : State) (p) (a) (f) : (s.updArm p a f).faults = s.faults := rfl
@[simp] theorem State.updArm_inputs (s : State) (p) (a) (f) : (s.updArm p a f).inputs = s.inputs := rfl
@[simp] theorem State.updArm_clusters (s : State) (p) (a) (f) : (s.updArm p a f).clusters = s.clusters := rfl
@[simp] theorem State.updArm_arbiter (s : State) (p) (a) (f) : (s.updArm p a f).arbiter = s.arbiter := rfl
@[simp] theorem State.updArm_injection (s : State) (p) (a) (f) : (s.updArm p a f).injection = s.injection := rfl
@[simp] theorem State.updArm_dev (s : State) (p) (a) (f) : (s.updArm p a f).dev = s.dev := rfl
@[simp] theorem State.updArm_boot (s : State) (p) (a) (f) : (s.updArm p a f).boot = s.boot := rfl
@[simp] theorem State.updArm_rails (s : State) (p) (a) (f) : (s.updArm p a f).rails = s.rails := rfl
@[simp] theorem State.updArm_domains (s : State) (p) (a) (f) : (s.updArm p a f).domains = s.domains := rfl
@[simp] theorem State.updArm_flash (s : State) (p) (a) (f) : (s.updArm p a f).flash = s.flash := rfl
@[simp] theorem State.updArm_fuses (s : State) (p) (a) (f) : (s.updArm p a f).fuses = s.fuses := rfl
@[simp] theorem State.updArm_window (s : State) (p) (a) (f) : (s.updArm p a f).window = s.window := rfl
@[simp] theorem State.updArm_sec (s : State) (p) (a) (f) : (s.updArm p a f).sec = s.sec := rfl
@[simp] theorem State.updArm_recorder (s : State) (p) (a) (f) : (s.updArm p a f).recorder = s.recorder := rfl
@[simp] theorem State.updArm_mirrorHeld (s : State) (p) (a) (f) : (s.updArm p a f).mirrorHeld = s.mirrorHeld := rfl
@[simp] theorem State.updArm_heldTokens (s : State) (p) (a) (f) : (s.updArm p a f).heldTokens = s.heldTokens := rfl
@[simp] theorem State.updArm_tileHeld (s : State) (p) (a) (f) : (s.updArm p a f).tileHeld = s.tileHeld := rfl
@[simp] theorem State.updArm_out (s : State) (p) (a) (f) : (s.updArm p a f).out = s.out := rfl

/-! ### updLane -/

@[simp] theorem State.updLane_pending (s : State) (p) (a) (h) (f) : (s.updLane p a h f).pending = s.pending := rfl
@[simp] theorem State.updLane_now (s : State) (p) (a) (h) (f) : (s.updLane p a h f).now = s.now := rfl
@[simp] theorem State.updLane_free (s : State) (p) (a) (h) (f) : (s.updLane p a h f).free = s.free := rfl
@[simp] theorem State.updLane_part (s : State) (p) (a) (h) (f) : (s.updLane p a h f).part = s.part := rfl
@[simp] theorem State.updLane_tiles (s : State) (p) (a) (h) (f) : (s.updLane p a h f).tiles = s.tiles := rfl
@[simp] theorem State.updLane_spinQueue (s : State) (p) (a) (h) (f) : (s.updLane p a h f).spinQueue = s.spinQueue := rfl
@[simp] theorem State.updLane_buses (s : State) (p) (a) (h) (f) : (s.updLane p a h f).buses = s.buses := rfl
@[simp] theorem State.updLane_fmtStore (s : State) (p) (a) (h) (f) : (s.updLane p a h f).fmtStore = s.fmtStore := rfl
@[simp] theorem State.updLane_svc (s : State) (p) (a) (h) (f) : (s.updLane p a h f).svc = s.svc := rfl
@[simp] theorem State.updLane_bench (s : State) (p) (a) (h) (f) : (s.updLane p a h f).bench = s.bench := rfl
@[simp] theorem State.updLane_ref100Lost (s : State) (p) (a) (h) (f) : (s.updLane p a h f).ref100Lost = s.ref100Lost := rfl
@[simp] theorem State.updLane_ref156Lost (s : State) (p) (a) (h) (f) : (s.updLane p a h f).ref156Lost = s.ref156Lost := rfl
@[simp] theorem State.updLane_dict (s : State) (p) (a) (h) (f) : (s.updLane p a h f).dict = s.dict := rfl
@[simp] theorem State.updLane_lock (s : State) (p) (a) (h) (f) : (s.updLane p a h f).lock = s.lock := rfl
@[simp] theorem State.updLane_host (s : State) (p) (a) (h) (f) : (s.updLane p a h f).host = s.host := rfl
@[simp] theorem State.updLane_store (s : State) (p) (a) (h) (f) : (s.updLane p a h f).store = s.store := rfl
@[simp] theorem State.updLane_buf (s : State) (p) (a) (h) (f) : (s.updLane p a h f).buf = s.buf := rfl
@[simp] theorem State.updLane_movers (s : State) (p) (a) (h) (f) : (s.updLane p a h f).movers = s.movers := rfl
@[simp] theorem State.updLane_lastMoverError (s : State) (p) (a) (h) (f) : (s.updLane p a h f).lastMoverError = s.lastMoverError := rfl
@[simp] theorem State.updLane_layers (s : State) (p) (a) (h) (f) : (s.updLane p a h f).layers = s.layers := rfl
@[simp] theorem State.updLane_raw (s : State) (p) (a) (h) (f) : (s.updLane p a h f).raw = s.raw := rfl
@[simp] theorem State.updLane_can (s : State) (p) (a) (h) (f) : (s.updLane p a h f).can = s.can := rfl
@[simp] theorem State.updLane_heldAccess (s : State) (p) (a) (h) (f) : (s.updLane p a h f).heldAccess = s.heldAccess := rfl
@[simp] theorem State.updLane_faults (s : State) (p) (a) (h) (f) : (s.updLane p a h f).faults = s.faults := rfl
@[simp] theorem State.updLane_inputs (s : State) (p) (a) (h) (f) : (s.updLane p a h f).inputs = s.inputs := rfl
@[simp] theorem State.updLane_clusters (s : State) (p) (a) (h) (f) : (s.updLane p a h f).clusters = s.clusters := rfl
@[simp] theorem State.updLane_arbiter (s : State) (p) (a) (h) (f) : (s.updLane p a h f).arbiter = s.arbiter := rfl
@[simp] theorem State.updLane_injection (s : State) (p) (a) (h) (f) : (s.updLane p a h f).injection = s.injection := rfl
@[simp] theorem State.updLane_dev (s : State) (p) (a) (h) (f) : (s.updLane p a h f).dev = s.dev := rfl
@[simp] theorem State.updLane_boot (s : State) (p) (a) (h) (f) : (s.updLane p a h f).boot = s.boot := rfl
@[simp] theorem State.updLane_rails (s : State) (p) (a) (h) (f) : (s.updLane p a h f).rails = s.rails := rfl
@[simp] theorem State.updLane_domains (s : State) (p) (a) (h) (f) : (s.updLane p a h f).domains = s.domains := rfl
@[simp] theorem State.updLane_flash (s : State) (p) (a) (h) (f) : (s.updLane p a h f).flash = s.flash := rfl
@[simp] theorem State.updLane_fuses (s : State) (p) (a) (h) (f) : (s.updLane p a h f).fuses = s.fuses := rfl
@[simp] theorem State.updLane_window (s : State) (p) (a) (h) (f) : (s.updLane p a h f).window = s.window := rfl
@[simp] theorem State.updLane_sec (s : State) (p) (a) (h) (f) : (s.updLane p a h f).sec = s.sec := rfl
@[simp] theorem State.updLane_recorder (s : State) (p) (a) (h) (f) : (s.updLane p a h f).recorder = s.recorder := rfl
@[simp] theorem State.updLane_mirrorHeld (s : State) (p) (a) (h) (f) : (s.updLane p a h f).mirrorHeld = s.mirrorHeld := rfl
@[simp] theorem State.updLane_heldTokens (s : State) (p) (a) (h) (f) : (s.updLane p a h f).heldTokens = s.heldTokens := rfl
@[simp] theorem State.updLane_tileHeld (s : State) (p) (a) (h) (f) : (s.updLane p a h f).tileHeld = s.tileHeld := rfl
@[simp] theorem State.updLane_out (s : State) (p) (a) (h) (f) : (s.updLane p a h f).out = s.out := rfl

/-! ### updServo -/

@[simp] theorem State.updServo_pending (s : State) (p) (a) (f) : (s.updServo p a f).pending = s.pending := rfl
@[simp] theorem State.updServo_now (s : State) (p) (a) (f) : (s.updServo p a f).now = s.now := rfl
@[simp] theorem State.updServo_free (s : State) (p) (a) (f) : (s.updServo p a f).free = s.free := rfl
@[simp] theorem State.updServo_part (s : State) (p) (a) (f) : (s.updServo p a f).part = s.part := rfl
@[simp] theorem State.updServo_tiles (s : State) (p) (a) (f) : (s.updServo p a f).tiles = s.tiles := rfl
@[simp] theorem State.updServo_spinQueue (s : State) (p) (a) (f) : (s.updServo p a f).spinQueue = s.spinQueue := rfl
@[simp] theorem State.updServo_buses (s : State) (p) (a) (f) : (s.updServo p a f).buses = s.buses := rfl
@[simp] theorem State.updServo_fmtStore (s : State) (p) (a) (f) : (s.updServo p a f).fmtStore = s.fmtStore := rfl
@[simp] theorem State.updServo_svc (s : State) (p) (a) (f) : (s.updServo p a f).svc = s.svc := rfl
@[simp] theorem State.updServo_bench (s : State) (p) (a) (f) : (s.updServo p a f).bench = s.bench := rfl
@[simp] theorem State.updServo_ref100Lost (s : State) (p) (a) (f) : (s.updServo p a f).ref100Lost = s.ref100Lost := rfl
@[simp] theorem State.updServo_ref156Lost (s : State) (p) (a) (f) : (s.updServo p a f).ref156Lost = s.ref156Lost := rfl
@[simp] theorem State.updServo_dict (s : State) (p) (a) (f) : (s.updServo p a f).dict = s.dict := rfl
@[simp] theorem State.updServo_lock (s : State) (p) (a) (f) : (s.updServo p a f).lock = s.lock := rfl
@[simp] theorem State.updServo_host (s : State) (p) (a) (f) : (s.updServo p a f).host = s.host := rfl
@[simp] theorem State.updServo_store (s : State) (p) (a) (f) : (s.updServo p a f).store = s.store := rfl
@[simp] theorem State.updServo_buf (s : State) (p) (a) (f) : (s.updServo p a f).buf = s.buf := rfl
@[simp] theorem State.updServo_movers (s : State) (p) (a) (f) : (s.updServo p a f).movers = s.movers := rfl
@[simp] theorem State.updServo_lastMoverError (s : State) (p) (a) (f) : (s.updServo p a f).lastMoverError = s.lastMoverError := rfl
@[simp] theorem State.updServo_layers (s : State) (p) (a) (f) : (s.updServo p a f).layers = s.layers := rfl
@[simp] theorem State.updServo_raw (s : State) (p) (a) (f) : (s.updServo p a f).raw = s.raw := rfl
@[simp] theorem State.updServo_can (s : State) (p) (a) (f) : (s.updServo p a f).can = s.can := rfl
@[simp] theorem State.updServo_heldAccess (s : State) (p) (a) (f) : (s.updServo p a f).heldAccess = s.heldAccess := rfl
@[simp] theorem State.updServo_faults (s : State) (p) (a) (f) : (s.updServo p a f).faults = s.faults := rfl
@[simp] theorem State.updServo_inputs (s : State) (p) (a) (f) : (s.updServo p a f).inputs = s.inputs := rfl
@[simp] theorem State.updServo_clusters (s : State) (p) (a) (f) : (s.updServo p a f).clusters = s.clusters := rfl
@[simp] theorem State.updServo_arbiter (s : State) (p) (a) (f) : (s.updServo p a f).arbiter = s.arbiter := rfl
@[simp] theorem State.updServo_injection (s : State) (p) (a) (f) : (s.updServo p a f).injection = s.injection := rfl
@[simp] theorem State.updServo_dev (s : State) (p) (a) (f) : (s.updServo p a f).dev = s.dev := rfl
@[simp] theorem State.updServo_boot (s : State) (p) (a) (f) : (s.updServo p a f).boot = s.boot := rfl
@[simp] theorem State.updServo_rails (s : State) (p) (a) (f) : (s.updServo p a f).rails = s.rails := rfl
@[simp] theorem State.updServo_domains (s : State) (p) (a) (f) : (s.updServo p a f).domains = s.domains := rfl
@[simp] theorem State.updServo_flash (s : State) (p) (a) (f) : (s.updServo p a f).flash = s.flash := rfl
@[simp] theorem State.updServo_fuses (s : State) (p) (a) (f) : (s.updServo p a f).fuses = s.fuses := rfl
@[simp] theorem State.updServo_window (s : State) (p) (a) (f) : (s.updServo p a f).window = s.window := rfl
@[simp] theorem State.updServo_sec (s : State) (p) (a) (f) : (s.updServo p a f).sec = s.sec := rfl
@[simp] theorem State.updServo_recorder (s : State) (p) (a) (f) : (s.updServo p a f).recorder = s.recorder := rfl
@[simp] theorem State.updServo_mirrorHeld (s : State) (p) (a) (f) : (s.updServo p a f).mirrorHeld = s.mirrorHeld := rfl
@[simp] theorem State.updServo_heldTokens (s : State) (p) (a) (f) : (s.updServo p a f).heldTokens = s.heldTokens := rfl
@[simp] theorem State.updServo_tileHeld (s : State) (p) (a) (f) : (s.updServo p a f).tileHeld = s.tileHeld := rfl
@[simp] theorem State.updServo_out (s : State) (p) (a) (f) : (s.updServo p a f).out = s.out := rfl

/-! ### updTile -/

@[simp] theorem State.updTile_pending (s : State) (t) (f) : (s.updTile t f).pending = s.pending := rfl
@[simp] theorem State.updTile_now (s : State) (t) (f) : (s.updTile t f).now = s.now := rfl
@[simp] theorem State.updTile_free (s : State) (t) (f) : (s.updTile t f).free = s.free := rfl
@[simp] theorem State.updTile_part (s : State) (t) (f) : (s.updTile t f).part = s.part := rfl
@[simp] theorem State.updTile_packs (s : State) (t) (f) : (s.updTile t f).packs = s.packs := rfl
@[simp] theorem State.updTile_spinQueue (s : State) (t) (f) : (s.updTile t f).spinQueue = s.spinQueue := rfl
@[simp] theorem State.updTile_buses (s : State) (t) (f) : (s.updTile t f).buses = s.buses := rfl
@[simp] theorem State.updTile_fmtStore (s : State) (t) (f) : (s.updTile t f).fmtStore = s.fmtStore := rfl
@[simp] theorem State.updTile_svc (s : State) (t) (f) : (s.updTile t f).svc = s.svc := rfl
@[simp] theorem State.updTile_bench (s : State) (t) (f) : (s.updTile t f).bench = s.bench := rfl
@[simp] theorem State.updTile_ref100Lost (s : State) (t) (f) : (s.updTile t f).ref100Lost = s.ref100Lost := rfl
@[simp] theorem State.updTile_ref156Lost (s : State) (t) (f) : (s.updTile t f).ref156Lost = s.ref156Lost := rfl
@[simp] theorem State.updTile_dict (s : State) (t) (f) : (s.updTile t f).dict = s.dict := rfl
@[simp] theorem State.updTile_lock (s : State) (t) (f) : (s.updTile t f).lock = s.lock := rfl
@[simp] theorem State.updTile_host (s : State) (t) (f) : (s.updTile t f).host = s.host := rfl
@[simp] theorem State.updTile_store (s : State) (t) (f) : (s.updTile t f).store = s.store := rfl
@[simp] theorem State.updTile_buf (s : State) (t) (f) : (s.updTile t f).buf = s.buf := rfl
@[simp] theorem State.updTile_movers (s : State) (t) (f) : (s.updTile t f).movers = s.movers := rfl
@[simp] theorem State.updTile_lastMoverError (s : State) (t) (f) : (s.updTile t f).lastMoverError = s.lastMoverError := rfl
@[simp] theorem State.updTile_layers (s : State) (t) (f) : (s.updTile t f).layers = s.layers := rfl
@[simp] theorem State.updTile_raw (s : State) (t) (f) : (s.updTile t f).raw = s.raw := rfl
@[simp] theorem State.updTile_can (s : State) (t) (f) : (s.updTile t f).can = s.can := rfl
@[simp] theorem State.updTile_heldAccess (s : State) (t) (f) : (s.updTile t f).heldAccess = s.heldAccess := rfl
@[simp] theorem State.updTile_faults (s : State) (t) (f) : (s.updTile t f).faults = s.faults := rfl
@[simp] theorem State.updTile_inputs (s : State) (t) (f) : (s.updTile t f).inputs = s.inputs := rfl
@[simp] theorem State.updTile_clusters (s : State) (t) (f) : (s.updTile t f).clusters = s.clusters := rfl
@[simp] theorem State.updTile_arbiter (s : State) (t) (f) : (s.updTile t f).arbiter = s.arbiter := rfl
@[simp] theorem State.updTile_injection (s : State) (t) (f) : (s.updTile t f).injection = s.injection := rfl
@[simp] theorem State.updTile_dev (s : State) (t) (f) : (s.updTile t f).dev = s.dev := rfl
@[simp] theorem State.updTile_boot (s : State) (t) (f) : (s.updTile t f).boot = s.boot := rfl
@[simp] theorem State.updTile_rails (s : State) (t) (f) : (s.updTile t f).rails = s.rails := rfl
@[simp] theorem State.updTile_domains (s : State) (t) (f) : (s.updTile t f).domains = s.domains := rfl
@[simp] theorem State.updTile_flash (s : State) (t) (f) : (s.updTile t f).flash = s.flash := rfl
@[simp] theorem State.updTile_fuses (s : State) (t) (f) : (s.updTile t f).fuses = s.fuses := rfl
@[simp] theorem State.updTile_window (s : State) (t) (f) : (s.updTile t f).window = s.window := rfl
@[simp] theorem State.updTile_sec (s : State) (t) (f) : (s.updTile t f).sec = s.sec := rfl
@[simp] theorem State.updTile_recorder (s : State) (t) (f) : (s.updTile t f).recorder = s.recorder := rfl
@[simp] theorem State.updTile_mirrorHeld (s : State) (t) (f) : (s.updTile t f).mirrorHeld = s.mirrorHeld := rfl
@[simp] theorem State.updTile_heldTokens (s : State) (t) (f) : (s.updTile t f).heldTokens = s.heldTokens := rfl
@[simp] theorem State.updTile_tileHeld (s : State) (t) (f) : (s.updTile t f).tileHeld = s.tileHeld := rfl
@[simp] theorem State.updTile_out (s : State) (t) (f) : (s.updTile t f).out = s.out := rfl

/-! ### setParam -/

@[simp] theorem State.setParam_pending (s : State) (idx) (sub) (v) : (s.setParam idx sub v).pending = s.pending := rfl
@[simp] theorem State.setParam_now (s : State) (idx) (sub) (v) : (s.setParam idx sub v).now = s.now := rfl
@[simp] theorem State.setParam_free (s : State) (idx) (sub) (v) : (s.setParam idx sub v).free = s.free := rfl
@[simp] theorem State.setParam_part (s : State) (idx) (sub) (v) : (s.setParam idx sub v).part = s.part := rfl
@[simp] theorem State.setParam_tiles (s : State) (idx) (sub) (v) : (s.setParam idx sub v).tiles = s.tiles := rfl
@[simp] theorem State.setParam_packs (s : State) (idx) (sub) (v) : (s.setParam idx sub v).packs = s.packs := rfl
@[simp] theorem State.setParam_spinQueue (s : State) (idx) (sub) (v) : (s.setParam idx sub v).spinQueue = s.spinQueue := rfl
@[simp] theorem State.setParam_buses (s : State) (idx) (sub) (v) : (s.setParam idx sub v).buses = s.buses := rfl
@[simp] theorem State.setParam_fmtStore (s : State) (idx) (sub) (v) : (s.setParam idx sub v).fmtStore = s.fmtStore := rfl
@[simp] theorem State.setParam_svc (s : State) (idx) (sub) (v) : (s.setParam idx sub v).svc = s.svc := rfl
@[simp] theorem State.setParam_bench (s : State) (idx) (sub) (v) : (s.setParam idx sub v).bench = s.bench := rfl
@[simp] theorem State.setParam_ref100Lost (s : State) (idx) (sub) (v) : (s.setParam idx sub v).ref100Lost = s.ref100Lost := rfl
@[simp] theorem State.setParam_ref156Lost (s : State) (idx) (sub) (v) : (s.setParam idx sub v).ref156Lost = s.ref156Lost := rfl
@[simp] theorem State.setParam_lock (s : State) (idx) (sub) (v) : (s.setParam idx sub v).lock = s.lock := rfl
@[simp] theorem State.setParam_host (s : State) (idx) (sub) (v) : (s.setParam idx sub v).host = s.host := rfl
@[simp] theorem State.setParam_store (s : State) (idx) (sub) (v) : (s.setParam idx sub v).store = s.store := rfl
@[simp] theorem State.setParam_buf (s : State) (idx) (sub) (v) : (s.setParam idx sub v).buf = s.buf := rfl
@[simp] theorem State.setParam_movers (s : State) (idx) (sub) (v) : (s.setParam idx sub v).movers = s.movers := rfl
@[simp] theorem State.setParam_lastMoverError (s : State) (idx) (sub) (v) : (s.setParam idx sub v).lastMoverError = s.lastMoverError := rfl
@[simp] theorem State.setParam_layers (s : State) (idx) (sub) (v) : (s.setParam idx sub v).layers = s.layers := rfl
@[simp] theorem State.setParam_raw (s : State) (idx) (sub) (v) : (s.setParam idx sub v).raw = s.raw := rfl
@[simp] theorem State.setParam_can (s : State) (idx) (sub) (v) : (s.setParam idx sub v).can = s.can := rfl
@[simp] theorem State.setParam_heldAccess (s : State) (idx) (sub) (v) : (s.setParam idx sub v).heldAccess = s.heldAccess := rfl
@[simp] theorem State.setParam_faults (s : State) (idx) (sub) (v) : (s.setParam idx sub v).faults = s.faults := rfl
@[simp] theorem State.setParam_inputs (s : State) (idx) (sub) (v) : (s.setParam idx sub v).inputs = s.inputs := rfl
@[simp] theorem State.setParam_clusters (s : State) (idx) (sub) (v) : (s.setParam idx sub v).clusters = s.clusters := rfl
@[simp] theorem State.setParam_arbiter (s : State) (idx) (sub) (v) : (s.setParam idx sub v).arbiter = s.arbiter := rfl
@[simp] theorem State.setParam_injection (s : State) (idx) (sub) (v) : (s.setParam idx sub v).injection = s.injection := rfl
@[simp] theorem State.setParam_dev (s : State) (idx) (sub) (v) : (s.setParam idx sub v).dev = s.dev := rfl
@[simp] theorem State.setParam_boot (s : State) (idx) (sub) (v) : (s.setParam idx sub v).boot = s.boot := rfl
@[simp] theorem State.setParam_rails (s : State) (idx) (sub) (v) : (s.setParam idx sub v).rails = s.rails := rfl
@[simp] theorem State.setParam_domains (s : State) (idx) (sub) (v) : (s.setParam idx sub v).domains = s.domains := rfl
@[simp] theorem State.setParam_flash (s : State) (idx) (sub) (v) : (s.setParam idx sub v).flash = s.flash := rfl
@[simp] theorem State.setParam_fuses (s : State) (idx) (sub) (v) : (s.setParam idx sub v).fuses = s.fuses := rfl
@[simp] theorem State.setParam_window (s : State) (idx) (sub) (v) : (s.setParam idx sub v).window = s.window := rfl
@[simp] theorem State.setParam_sec (s : State) (idx) (sub) (v) : (s.setParam idx sub v).sec = s.sec := rfl
@[simp] theorem State.setParam_recorder (s : State) (idx) (sub) (v) : (s.setParam idx sub v).recorder = s.recorder := rfl
@[simp] theorem State.setParam_mirrorHeld (s : State) (idx) (sub) (v) : (s.setParam idx sub v).mirrorHeld = s.mirrorHeld := rfl
@[simp] theorem State.setParam_heldTokens (s : State) (idx) (sub) (v) : (s.setParam idx sub v).heldTokens = s.heldTokens := rfl
@[simp] theorem State.setParam_tileHeld (s : State) (idx) (sub) (v) : (s.setParam idx sub v).tileHeld = s.tileHeld := rfl
@[simp] theorem State.setParam_out (s : State) (idx) (sub) (v) : (s.setParam idx sub v).out = s.out := rfl

/-! ### updFmt -/

@[simp] theorem State.updFmt_pending (s : State) (p) (a) (f) : (s.updFmt p a f).pending = s.pending := rfl
@[simp] theorem State.updFmt_now (s : State) (p) (a) (f) : (s.updFmt p a f).now = s.now := rfl
@[simp] theorem State.updFmt_free (s : State) (p) (a) (f) : (s.updFmt p a f).free = s.free := rfl
@[simp] theorem State.updFmt_part (s : State) (p) (a) (f) : (s.updFmt p a f).part = s.part := rfl
@[simp] theorem State.updFmt_tiles (s : State) (p) (a) (f) : (s.updFmt p a f).tiles = s.tiles := rfl
@[simp] theorem State.updFmt_spinQueue (s : State) (p) (a) (f) : (s.updFmt p a f).spinQueue = s.spinQueue := rfl
@[simp] theorem State.updFmt_buses (s : State) (p) (a) (f) : (s.updFmt p a f).buses = s.buses := rfl
@[simp] theorem State.updFmt_fmtStore (s : State) (p) (a) (f) : (s.updFmt p a f).fmtStore = s.fmtStore := rfl
@[simp] theorem State.updFmt_svc (s : State) (p) (a) (f) : (s.updFmt p a f).svc = s.svc := rfl
@[simp] theorem State.updFmt_bench (s : State) (p) (a) (f) : (s.updFmt p a f).bench = s.bench := rfl
@[simp] theorem State.updFmt_ref100Lost (s : State) (p) (a) (f) : (s.updFmt p a f).ref100Lost = s.ref100Lost := rfl
@[simp] theorem State.updFmt_ref156Lost (s : State) (p) (a) (f) : (s.updFmt p a f).ref156Lost = s.ref156Lost := rfl
@[simp] theorem State.updFmt_dict (s : State) (p) (a) (f) : (s.updFmt p a f).dict = s.dict := rfl
@[simp] theorem State.updFmt_lock (s : State) (p) (a) (f) : (s.updFmt p a f).lock = s.lock := rfl
@[simp] theorem State.updFmt_host (s : State) (p) (a) (f) : (s.updFmt p a f).host = s.host := rfl
@[simp] theorem State.updFmt_store (s : State) (p) (a) (f) : (s.updFmt p a f).store = s.store := rfl
@[simp] theorem State.updFmt_buf (s : State) (p) (a) (f) : (s.updFmt p a f).buf = s.buf := rfl
@[simp] theorem State.updFmt_movers (s : State) (p) (a) (f) : (s.updFmt p a f).movers = s.movers := rfl
@[simp] theorem State.updFmt_lastMoverError (s : State) (p) (a) (f) : (s.updFmt p a f).lastMoverError = s.lastMoverError := rfl
@[simp] theorem State.updFmt_layers (s : State) (p) (a) (f) : (s.updFmt p a f).layers = s.layers := rfl
@[simp] theorem State.updFmt_raw (s : State) (p) (a) (f) : (s.updFmt p a f).raw = s.raw := rfl
@[simp] theorem State.updFmt_can (s : State) (p) (a) (f) : (s.updFmt p a f).can = s.can := rfl
@[simp] theorem State.updFmt_heldAccess (s : State) (p) (a) (f) : (s.updFmt p a f).heldAccess = s.heldAccess := rfl
@[simp] theorem State.updFmt_faults (s : State) (p) (a) (f) : (s.updFmt p a f).faults = s.faults := rfl
@[simp] theorem State.updFmt_inputs (s : State) (p) (a) (f) : (s.updFmt p a f).inputs = s.inputs := rfl
@[simp] theorem State.updFmt_clusters (s : State) (p) (a) (f) : (s.updFmt p a f).clusters = s.clusters := rfl
@[simp] theorem State.updFmt_arbiter (s : State) (p) (a) (f) : (s.updFmt p a f).arbiter = s.arbiter := rfl
@[simp] theorem State.updFmt_injection (s : State) (p) (a) (f) : (s.updFmt p a f).injection = s.injection := rfl
@[simp] theorem State.updFmt_dev (s : State) (p) (a) (f) : (s.updFmt p a f).dev = s.dev := rfl
@[simp] theorem State.updFmt_boot (s : State) (p) (a) (f) : (s.updFmt p a f).boot = s.boot := rfl
@[simp] theorem State.updFmt_rails (s : State) (p) (a) (f) : (s.updFmt p a f).rails = s.rails := rfl
@[simp] theorem State.updFmt_domains (s : State) (p) (a) (f) : (s.updFmt p a f).domains = s.domains := rfl
@[simp] theorem State.updFmt_flash (s : State) (p) (a) (f) : (s.updFmt p a f).flash = s.flash := rfl
@[simp] theorem State.updFmt_fuses (s : State) (p) (a) (f) : (s.updFmt p a f).fuses = s.fuses := rfl
@[simp] theorem State.updFmt_window (s : State) (p) (a) (f) : (s.updFmt p a f).window = s.window := rfl
@[simp] theorem State.updFmt_sec (s : State) (p) (a) (f) : (s.updFmt p a f).sec = s.sec := rfl
@[simp] theorem State.updFmt_recorder (s : State) (p) (a) (f) : (s.updFmt p a f).recorder = s.recorder := rfl
@[simp] theorem State.updFmt_mirrorHeld (s : State) (p) (a) (f) : (s.updFmt p a f).mirrorHeld = s.mirrorHeld := rfl
@[simp] theorem State.updFmt_heldTokens (s : State) (p) (a) (f) : (s.updFmt p a f).heldTokens = s.heldTokens := rfl
@[simp] theorem State.updFmt_tileHeld (s : State) (p) (a) (f) : (s.updFmt p a f).tileHeld = s.tileHeld := rfl
@[simp] theorem State.updFmt_out (s : State) (p) (a) (f) : (s.updFmt p a f).out = s.out := rfl

/-! ### updChan -/

@[simp] theorem State.updChan_pending (s : State) (p) (a) (h) (f) : (s.updChan p a h f).pending = s.pending := rfl
@[simp] theorem State.updChan_now (s : State) (p) (a) (h) (f) : (s.updChan p a h f).now = s.now := rfl
@[simp] theorem State.updChan_free (s : State) (p) (a) (h) (f) : (s.updChan p a h f).free = s.free := rfl
@[simp] theorem State.updChan_part (s : State) (p) (a) (h) (f) : (s.updChan p a h f).part = s.part := rfl
@[simp] theorem State.updChan_tiles (s : State) (p) (a) (h) (f) : (s.updChan p a h f).tiles = s.tiles := rfl
@[simp] theorem State.updChan_spinQueue (s : State) (p) (a) (h) (f) : (s.updChan p a h f).spinQueue = s.spinQueue := rfl
@[simp] theorem State.updChan_buses (s : State) (p) (a) (h) (f) : (s.updChan p a h f).buses = s.buses := rfl
@[simp] theorem State.updChan_fmtStore (s : State) (p) (a) (h) (f) : (s.updChan p a h f).fmtStore = s.fmtStore := rfl
@[simp] theorem State.updChan_svc (s : State) (p) (a) (h) (f) : (s.updChan p a h f).svc = s.svc := rfl
@[simp] theorem State.updChan_bench (s : State) (p) (a) (h) (f) : (s.updChan p a h f).bench = s.bench := rfl
@[simp] theorem State.updChan_ref100Lost (s : State) (p) (a) (h) (f) : (s.updChan p a h f).ref100Lost = s.ref100Lost := rfl
@[simp] theorem State.updChan_ref156Lost (s : State) (p) (a) (h) (f) : (s.updChan p a h f).ref156Lost = s.ref156Lost := rfl
@[simp] theorem State.updChan_dict (s : State) (p) (a) (h) (f) : (s.updChan p a h f).dict = s.dict := rfl
@[simp] theorem State.updChan_lock (s : State) (p) (a) (h) (f) : (s.updChan p a h f).lock = s.lock := rfl
@[simp] theorem State.updChan_host (s : State) (p) (a) (h) (f) : (s.updChan p a h f).host = s.host := rfl
@[simp] theorem State.updChan_store (s : State) (p) (a) (h) (f) : (s.updChan p a h f).store = s.store := rfl
@[simp] theorem State.updChan_buf (s : State) (p) (a) (h) (f) : (s.updChan p a h f).buf = s.buf := rfl
@[simp] theorem State.updChan_movers (s : State) (p) (a) (h) (f) : (s.updChan p a h f).movers = s.movers := rfl
@[simp] theorem State.updChan_lastMoverError (s : State) (p) (a) (h) (f) : (s.updChan p a h f).lastMoverError = s.lastMoverError := rfl
@[simp] theorem State.updChan_layers (s : State) (p) (a) (h) (f) : (s.updChan p a h f).layers = s.layers := rfl
@[simp] theorem State.updChan_raw (s : State) (p) (a) (h) (f) : (s.updChan p a h f).raw = s.raw := rfl
@[simp] theorem State.updChan_can (s : State) (p) (a) (h) (f) : (s.updChan p a h f).can = s.can := rfl
@[simp] theorem State.updChan_heldAccess (s : State) (p) (a) (h) (f) : (s.updChan p a h f).heldAccess = s.heldAccess := rfl
@[simp] theorem State.updChan_faults (s : State) (p) (a) (h) (f) : (s.updChan p a h f).faults = s.faults := rfl
@[simp] theorem State.updChan_inputs (s : State) (p) (a) (h) (f) : (s.updChan p a h f).inputs = s.inputs := rfl
@[simp] theorem State.updChan_clusters (s : State) (p) (a) (h) (f) : (s.updChan p a h f).clusters = s.clusters := rfl
@[simp] theorem State.updChan_arbiter (s : State) (p) (a) (h) (f) : (s.updChan p a h f).arbiter = s.arbiter := rfl
@[simp] theorem State.updChan_injection (s : State) (p) (a) (h) (f) : (s.updChan p a h f).injection = s.injection := rfl
@[simp] theorem State.updChan_dev (s : State) (p) (a) (h) (f) : (s.updChan p a h f).dev = s.dev := rfl
@[simp] theorem State.updChan_boot (s : State) (p) (a) (h) (f) : (s.updChan p a h f).boot = s.boot := rfl
@[simp] theorem State.updChan_rails (s : State) (p) (a) (h) (f) : (s.updChan p a h f).rails = s.rails := rfl
@[simp] theorem State.updChan_domains (s : State) (p) (a) (h) (f) : (s.updChan p a h f).domains = s.domains := rfl
@[simp] theorem State.updChan_flash (s : State) (p) (a) (h) (f) : (s.updChan p a h f).flash = s.flash := rfl
@[simp] theorem State.updChan_fuses (s : State) (p) (a) (h) (f) : (s.updChan p a h f).fuses = s.fuses := rfl
@[simp] theorem State.updChan_window (s : State) (p) (a) (h) (f) : (s.updChan p a h f).window = s.window := rfl
@[simp] theorem State.updChan_sec (s : State) (p) (a) (h) (f) : (s.updChan p a h f).sec = s.sec := rfl
@[simp] theorem State.updChan_recorder (s : State) (p) (a) (h) (f) : (s.updChan p a h f).recorder = s.recorder := rfl
@[simp] theorem State.updChan_mirrorHeld (s : State) (p) (a) (h) (f) : (s.updChan p a h f).mirrorHeld = s.mirrorHeld := rfl
@[simp] theorem State.updChan_heldTokens (s : State) (p) (a) (h) (f) : (s.updChan p a h f).heldTokens = s.heldTokens := rfl
@[simp] theorem State.updChan_tileHeld (s : State) (p) (a) (h) (f) : (s.updChan p a h f).tileHeld = s.tileHeld := rfl
@[simp] theorem State.updChan_out (s : State) (p) (a) (h) (f) : (s.updChan p a h f).out = s.out := rfl

/-! ### updHealth -/

@[simp] theorem State.updHealth_pending (s : State) (p) (a) (h) (f) : (s.updHealth p a h f).pending = s.pending := rfl
@[simp] theorem State.updHealth_now (s : State) (p) (a) (h) (f) : (s.updHealth p a h f).now = s.now := rfl
@[simp] theorem State.updHealth_free (s : State) (p) (a) (h) (f) : (s.updHealth p a h f).free = s.free := rfl
@[simp] theorem State.updHealth_part (s : State) (p) (a) (h) (f) : (s.updHealth p a h f).part = s.part := rfl
@[simp] theorem State.updHealth_tiles (s : State) (p) (a) (h) (f) : (s.updHealth p a h f).tiles = s.tiles := rfl
@[simp] theorem State.updHealth_spinQueue (s : State) (p) (a) (h) (f) : (s.updHealth p a h f).spinQueue = s.spinQueue := rfl
@[simp] theorem State.updHealth_buses (s : State) (p) (a) (h) (f) : (s.updHealth p a h f).buses = s.buses := rfl
@[simp] theorem State.updHealth_fmtStore (s : State) (p) (a) (h) (f) : (s.updHealth p a h f).fmtStore = s.fmtStore := rfl
@[simp] theorem State.updHealth_svc (s : State) (p) (a) (h) (f) : (s.updHealth p a h f).svc = s.svc := rfl
@[simp] theorem State.updHealth_bench (s : State) (p) (a) (h) (f) : (s.updHealth p a h f).bench = s.bench := rfl
@[simp] theorem State.updHealth_ref100Lost (s : State) (p) (a) (h) (f) : (s.updHealth p a h f).ref100Lost = s.ref100Lost := rfl
@[simp] theorem State.updHealth_ref156Lost (s : State) (p) (a) (h) (f) : (s.updHealth p a h f).ref156Lost = s.ref156Lost := rfl
@[simp] theorem State.updHealth_dict (s : State) (p) (a) (h) (f) : (s.updHealth p a h f).dict = s.dict := rfl
@[simp] theorem State.updHealth_lock (s : State) (p) (a) (h) (f) : (s.updHealth p a h f).lock = s.lock := rfl
@[simp] theorem State.updHealth_host (s : State) (p) (a) (h) (f) : (s.updHealth p a h f).host = s.host := rfl
@[simp] theorem State.updHealth_store (s : State) (p) (a) (h) (f) : (s.updHealth p a h f).store = s.store := rfl
@[simp] theorem State.updHealth_buf (s : State) (p) (a) (h) (f) : (s.updHealth p a h f).buf = s.buf := rfl
@[simp] theorem State.updHealth_movers (s : State) (p) (a) (h) (f) : (s.updHealth p a h f).movers = s.movers := rfl
@[simp] theorem State.updHealth_lastMoverError (s : State) (p) (a) (h) (f) : (s.updHealth p a h f).lastMoverError = s.lastMoverError := rfl
@[simp] theorem State.updHealth_layers (s : State) (p) (a) (h) (f) : (s.updHealth p a h f).layers = s.layers := rfl
@[simp] theorem State.updHealth_raw (s : State) (p) (a) (h) (f) : (s.updHealth p a h f).raw = s.raw := rfl
@[simp] theorem State.updHealth_can (s : State) (p) (a) (h) (f) : (s.updHealth p a h f).can = s.can := rfl
@[simp] theorem State.updHealth_heldAccess (s : State) (p) (a) (h) (f) : (s.updHealth p a h f).heldAccess = s.heldAccess := rfl
@[simp] theorem State.updHealth_faults (s : State) (p) (a) (h) (f) : (s.updHealth p a h f).faults = s.faults := rfl
@[simp] theorem State.updHealth_inputs (s : State) (p) (a) (h) (f) : (s.updHealth p a h f).inputs = s.inputs := rfl
@[simp] theorem State.updHealth_clusters (s : State) (p) (a) (h) (f) : (s.updHealth p a h f).clusters = s.clusters := rfl
@[simp] theorem State.updHealth_arbiter (s : State) (p) (a) (h) (f) : (s.updHealth p a h f).arbiter = s.arbiter := rfl
@[simp] theorem State.updHealth_injection (s : State) (p) (a) (h) (f) : (s.updHealth p a h f).injection = s.injection := rfl
@[simp] theorem State.updHealth_dev (s : State) (p) (a) (h) (f) : (s.updHealth p a h f).dev = s.dev := rfl
@[simp] theorem State.updHealth_boot (s : State) (p) (a) (h) (f) : (s.updHealth p a h f).boot = s.boot := rfl
@[simp] theorem State.updHealth_rails (s : State) (p) (a) (h) (f) : (s.updHealth p a h f).rails = s.rails := rfl
@[simp] theorem State.updHealth_domains (s : State) (p) (a) (h) (f) : (s.updHealth p a h f).domains = s.domains := rfl
@[simp] theorem State.updHealth_flash (s : State) (p) (a) (h) (f) : (s.updHealth p a h f).flash = s.flash := rfl
@[simp] theorem State.updHealth_fuses (s : State) (p) (a) (h) (f) : (s.updHealth p a h f).fuses = s.fuses := rfl
@[simp] theorem State.updHealth_window (s : State) (p) (a) (h) (f) : (s.updHealth p a h f).window = s.window := rfl
@[simp] theorem State.updHealth_sec (s : State) (p) (a) (h) (f) : (s.updHealth p a h f).sec = s.sec := rfl
@[simp] theorem State.updHealth_recorder (s : State) (p) (a) (h) (f) : (s.updHealth p a h f).recorder = s.recorder := rfl
@[simp] theorem State.updHealth_mirrorHeld (s : State) (p) (a) (h) (f) : (s.updHealth p a h f).mirrorHeld = s.mirrorHeld := rfl
@[simp] theorem State.updHealth_heldTokens (s : State) (p) (a) (h) (f) : (s.updHealth p a h f).heldTokens = s.heldTokens := rfl
@[simp] theorem State.updHealth_tileHeld (s : State) (p) (a) (h) (f) : (s.updHealth p a h f).tileHeld = s.tileHeld := rfl
@[simp] theorem State.updHealth_out (s : State) (p) (a) (h) (f) : (s.updHealth p a h f).out = s.out := rfl

/-! ### updMedia -/

@[simp] theorem State.updMedia_pending (s : State) (p) (f) : (s.updMedia p f).pending = s.pending := rfl
@[simp] theorem State.updMedia_now (s : State) (p) (f) : (s.updMedia p f).now = s.now := rfl
@[simp] theorem State.updMedia_free (s : State) (p) (f) : (s.updMedia p f).free = s.free := rfl
@[simp] theorem State.updMedia_part (s : State) (p) (f) : (s.updMedia p f).part = s.part := rfl
@[simp] theorem State.updMedia_tiles (s : State) (p) (f) : (s.updMedia p f).tiles = s.tiles := rfl
@[simp] theorem State.updMedia_spinQueue (s : State) (p) (f) : (s.updMedia p f).spinQueue = s.spinQueue := rfl
@[simp] theorem State.updMedia_buses (s : State) (p) (f) : (s.updMedia p f).buses = s.buses := rfl
@[simp] theorem State.updMedia_fmtStore (s : State) (p) (f) : (s.updMedia p f).fmtStore = s.fmtStore := rfl
@[simp] theorem State.updMedia_svc (s : State) (p) (f) : (s.updMedia p f).svc = s.svc := rfl
@[simp] theorem State.updMedia_bench (s : State) (p) (f) : (s.updMedia p f).bench = s.bench := rfl
@[simp] theorem State.updMedia_ref100Lost (s : State) (p) (f) : (s.updMedia p f).ref100Lost = s.ref100Lost := rfl
@[simp] theorem State.updMedia_ref156Lost (s : State) (p) (f) : (s.updMedia p f).ref156Lost = s.ref156Lost := rfl
@[simp] theorem State.updMedia_dict (s : State) (p) (f) : (s.updMedia p f).dict = s.dict := rfl
@[simp] theorem State.updMedia_lock (s : State) (p) (f) : (s.updMedia p f).lock = s.lock := rfl
@[simp] theorem State.updMedia_host (s : State) (p) (f) : (s.updMedia p f).host = s.host := rfl
@[simp] theorem State.updMedia_store (s : State) (p) (f) : (s.updMedia p f).store = s.store := rfl
@[simp] theorem State.updMedia_buf (s : State) (p) (f) : (s.updMedia p f).buf = s.buf := rfl
@[simp] theorem State.updMedia_movers (s : State) (p) (f) : (s.updMedia p f).movers = s.movers := rfl
@[simp] theorem State.updMedia_lastMoverError (s : State) (p) (f) : (s.updMedia p f).lastMoverError = s.lastMoverError := rfl
@[simp] theorem State.updMedia_layers (s : State) (p) (f) : (s.updMedia p f).layers = s.layers := rfl
@[simp] theorem State.updMedia_raw (s : State) (p) (f) : (s.updMedia p f).raw = s.raw := rfl
@[simp] theorem State.updMedia_can (s : State) (p) (f) : (s.updMedia p f).can = s.can := rfl
@[simp] theorem State.updMedia_heldAccess (s : State) (p) (f) : (s.updMedia p f).heldAccess = s.heldAccess := rfl
@[simp] theorem State.updMedia_faults (s : State) (p) (f) : (s.updMedia p f).faults = s.faults := rfl
@[simp] theorem State.updMedia_inputs (s : State) (p) (f) : (s.updMedia p f).inputs = s.inputs := rfl
@[simp] theorem State.updMedia_clusters (s : State) (p) (f) : (s.updMedia p f).clusters = s.clusters := rfl
@[simp] theorem State.updMedia_arbiter (s : State) (p) (f) : (s.updMedia p f).arbiter = s.arbiter := rfl
@[simp] theorem State.updMedia_injection (s : State) (p) (f) : (s.updMedia p f).injection = s.injection := rfl
@[simp] theorem State.updMedia_dev (s : State) (p) (f) : (s.updMedia p f).dev = s.dev := rfl
@[simp] theorem State.updMedia_boot (s : State) (p) (f) : (s.updMedia p f).boot = s.boot := rfl
@[simp] theorem State.updMedia_rails (s : State) (p) (f) : (s.updMedia p f).rails = s.rails := rfl
@[simp] theorem State.updMedia_domains (s : State) (p) (f) : (s.updMedia p f).domains = s.domains := rfl
@[simp] theorem State.updMedia_flash (s : State) (p) (f) : (s.updMedia p f).flash = s.flash := rfl
@[simp] theorem State.updMedia_fuses (s : State) (p) (f) : (s.updMedia p f).fuses = s.fuses := rfl
@[simp] theorem State.updMedia_window (s : State) (p) (f) : (s.updMedia p f).window = s.window := rfl
@[simp] theorem State.updMedia_sec (s : State) (p) (f) : (s.updMedia p f).sec = s.sec := rfl
@[simp] theorem State.updMedia_recorder (s : State) (p) (f) : (s.updMedia p f).recorder = s.recorder := rfl
@[simp] theorem State.updMedia_mirrorHeld (s : State) (p) (f) : (s.updMedia p f).mirrorHeld = s.mirrorHeld := rfl
@[simp] theorem State.updMedia_heldTokens (s : State) (p) (f) : (s.updMedia p f).heldTokens = s.heldTokens := rfl
@[simp] theorem State.updMedia_tileHeld (s : State) (p) (f) : (s.updMedia p f).tileHeld = s.tileHeld := rfl
@[simp] theorem State.updMedia_out (s : State) (p) (f) : (s.updMedia p f).out = s.out := rfl

/-! ### updLink -/

@[simp] theorem State.updLink_pending (s : State) (p) (a) (f) : (s.updLink p a f).pending = s.pending := rfl
@[simp] theorem State.updLink_now (s : State) (p) (a) (f) : (s.updLink p a f).now = s.now := rfl
@[simp] theorem State.updLink_free (s : State) (p) (a) (f) : (s.updLink p a f).free = s.free := rfl
@[simp] theorem State.updLink_part (s : State) (p) (a) (f) : (s.updLink p a f).part = s.part := rfl
@[simp] theorem State.updLink_tiles (s : State) (p) (a) (f) : (s.updLink p a f).tiles = s.tiles := rfl
@[simp] theorem State.updLink_spinQueue (s : State) (p) (a) (f) : (s.updLink p a f).spinQueue = s.spinQueue := rfl
@[simp] theorem State.updLink_buses (s : State) (p) (a) (f) : (s.updLink p a f).buses = s.buses := rfl
@[simp] theorem State.updLink_fmtStore (s : State) (p) (a) (f) : (s.updLink p a f).fmtStore = s.fmtStore := rfl
@[simp] theorem State.updLink_svc (s : State) (p) (a) (f) : (s.updLink p a f).svc = s.svc := rfl
@[simp] theorem State.updLink_bench (s : State) (p) (a) (f) : (s.updLink p a f).bench = s.bench := rfl
@[simp] theorem State.updLink_ref100Lost (s : State) (p) (a) (f) : (s.updLink p a f).ref100Lost = s.ref100Lost := rfl
@[simp] theorem State.updLink_ref156Lost (s : State) (p) (a) (f) : (s.updLink p a f).ref156Lost = s.ref156Lost := rfl
@[simp] theorem State.updLink_dict (s : State) (p) (a) (f) : (s.updLink p a f).dict = s.dict := rfl
@[simp] theorem State.updLink_lock (s : State) (p) (a) (f) : (s.updLink p a f).lock = s.lock := rfl
@[simp] theorem State.updLink_host (s : State) (p) (a) (f) : (s.updLink p a f).host = s.host := rfl
@[simp] theorem State.updLink_store (s : State) (p) (a) (f) : (s.updLink p a f).store = s.store := rfl
@[simp] theorem State.updLink_buf (s : State) (p) (a) (f) : (s.updLink p a f).buf = s.buf := rfl
@[simp] theorem State.updLink_movers (s : State) (p) (a) (f) : (s.updLink p a f).movers = s.movers := rfl
@[simp] theorem State.updLink_lastMoverError (s : State) (p) (a) (f) : (s.updLink p a f).lastMoverError = s.lastMoverError := rfl
@[simp] theorem State.updLink_layers (s : State) (p) (a) (f) : (s.updLink p a f).layers = s.layers := rfl
@[simp] theorem State.updLink_raw (s : State) (p) (a) (f) : (s.updLink p a f).raw = s.raw := rfl
@[simp] theorem State.updLink_can (s : State) (p) (a) (f) : (s.updLink p a f).can = s.can := rfl
@[simp] theorem State.updLink_heldAccess (s : State) (p) (a) (f) : (s.updLink p a f).heldAccess = s.heldAccess := rfl
@[simp] theorem State.updLink_faults (s : State) (p) (a) (f) : (s.updLink p a f).faults = s.faults := rfl
@[simp] theorem State.updLink_inputs (s : State) (p) (a) (f) : (s.updLink p a f).inputs = s.inputs := rfl
@[simp] theorem State.updLink_clusters (s : State) (p) (a) (f) : (s.updLink p a f).clusters = s.clusters := rfl
@[simp] theorem State.updLink_arbiter (s : State) (p) (a) (f) : (s.updLink p a f).arbiter = s.arbiter := rfl
@[simp] theorem State.updLink_injection (s : State) (p) (a) (f) : (s.updLink p a f).injection = s.injection := rfl
@[simp] theorem State.updLink_dev (s : State) (p) (a) (f) : (s.updLink p a f).dev = s.dev := rfl
@[simp] theorem State.updLink_boot (s : State) (p) (a) (f) : (s.updLink p a f).boot = s.boot := rfl
@[simp] theorem State.updLink_rails (s : State) (p) (a) (f) : (s.updLink p a f).rails = s.rails := rfl
@[simp] theorem State.updLink_domains (s : State) (p) (a) (f) : (s.updLink p a f).domains = s.domains := rfl
@[simp] theorem State.updLink_flash (s : State) (p) (a) (f) : (s.updLink p a f).flash = s.flash := rfl
@[simp] theorem State.updLink_fuses (s : State) (p) (a) (f) : (s.updLink p a f).fuses = s.fuses := rfl
@[simp] theorem State.updLink_window (s : State) (p) (a) (f) : (s.updLink p a f).window = s.window := rfl
@[simp] theorem State.updLink_sec (s : State) (p) (a) (f) : (s.updLink p a f).sec = s.sec := rfl
@[simp] theorem State.updLink_recorder (s : State) (p) (a) (f) : (s.updLink p a f).recorder = s.recorder := rfl
@[simp] theorem State.updLink_mirrorHeld (s : State) (p) (a) (f) : (s.updLink p a f).mirrorHeld = s.mirrorHeld := rfl
@[simp] theorem State.updLink_heldTokens (s : State) (p) (a) (f) : (s.updLink p a f).heldTokens = s.heldTokens := rfl
@[simp] theorem State.updLink_tileHeld (s : State) (p) (a) (f) : (s.updLink p a f).tileHeld = s.tileHeld := rfl
@[simp] theorem State.updLink_out (s : State) (p) (a) (f) : (s.updLink p a f).out = s.out := rfl

/-! ### updSpin -/

@[simp] theorem State.updSpin_pending (s : State) (p) (f) : (s.updSpin p f).pending = s.pending := rfl
@[simp] theorem State.updSpin_now (s : State) (p) (f) : (s.updSpin p f).now = s.now := rfl
@[simp] theorem State.updSpin_free (s : State) (p) (f) : (s.updSpin p f).free = s.free := rfl
@[simp] theorem State.updSpin_part (s : State) (p) (f) : (s.updSpin p f).part = s.part := rfl
@[simp] theorem State.updSpin_tiles (s : State) (p) (f) : (s.updSpin p f).tiles = s.tiles := rfl
@[simp] theorem State.updSpin_spinQueue (s : State) (p) (f) : (s.updSpin p f).spinQueue = s.spinQueue := rfl
@[simp] theorem State.updSpin_buses (s : State) (p) (f) : (s.updSpin p f).buses = s.buses := rfl
@[simp] theorem State.updSpin_fmtStore (s : State) (p) (f) : (s.updSpin p f).fmtStore = s.fmtStore := rfl
@[simp] theorem State.updSpin_svc (s : State) (p) (f) : (s.updSpin p f).svc = s.svc := rfl
@[simp] theorem State.updSpin_bench (s : State) (p) (f) : (s.updSpin p f).bench = s.bench := rfl
@[simp] theorem State.updSpin_ref100Lost (s : State) (p) (f) : (s.updSpin p f).ref100Lost = s.ref100Lost := rfl
@[simp] theorem State.updSpin_ref156Lost (s : State) (p) (f) : (s.updSpin p f).ref156Lost = s.ref156Lost := rfl
@[simp] theorem State.updSpin_dict (s : State) (p) (f) : (s.updSpin p f).dict = s.dict := rfl
@[simp] theorem State.updSpin_lock (s : State) (p) (f) : (s.updSpin p f).lock = s.lock := rfl
@[simp] theorem State.updSpin_host (s : State) (p) (f) : (s.updSpin p f).host = s.host := rfl
@[simp] theorem State.updSpin_store (s : State) (p) (f) : (s.updSpin p f).store = s.store := rfl
@[simp] theorem State.updSpin_buf (s : State) (p) (f) : (s.updSpin p f).buf = s.buf := rfl
@[simp] theorem State.updSpin_movers (s : State) (p) (f) : (s.updSpin p f).movers = s.movers := rfl
@[simp] theorem State.updSpin_lastMoverError (s : State) (p) (f) : (s.updSpin p f).lastMoverError = s.lastMoverError := rfl
@[simp] theorem State.updSpin_layers (s : State) (p) (f) : (s.updSpin p f).layers = s.layers := rfl
@[simp] theorem State.updSpin_raw (s : State) (p) (f) : (s.updSpin p f).raw = s.raw := rfl
@[simp] theorem State.updSpin_can (s : State) (p) (f) : (s.updSpin p f).can = s.can := rfl
@[simp] theorem State.updSpin_heldAccess (s : State) (p) (f) : (s.updSpin p f).heldAccess = s.heldAccess := rfl
@[simp] theorem State.updSpin_faults (s : State) (p) (f) : (s.updSpin p f).faults = s.faults := rfl
@[simp] theorem State.updSpin_inputs (s : State) (p) (f) : (s.updSpin p f).inputs = s.inputs := rfl
@[simp] theorem State.updSpin_clusters (s : State) (p) (f) : (s.updSpin p f).clusters = s.clusters := rfl
@[simp] theorem State.updSpin_arbiter (s : State) (p) (f) : (s.updSpin p f).arbiter = s.arbiter := rfl
@[simp] theorem State.updSpin_injection (s : State) (p) (f) : (s.updSpin p f).injection = s.injection := rfl
@[simp] theorem State.updSpin_dev (s : State) (p) (f) : (s.updSpin p f).dev = s.dev := rfl
@[simp] theorem State.updSpin_boot (s : State) (p) (f) : (s.updSpin p f).boot = s.boot := rfl
@[simp] theorem State.updSpin_rails (s : State) (p) (f) : (s.updSpin p f).rails = s.rails := rfl
@[simp] theorem State.updSpin_domains (s : State) (p) (f) : (s.updSpin p f).domains = s.domains := rfl
@[simp] theorem State.updSpin_flash (s : State) (p) (f) : (s.updSpin p f).flash = s.flash := rfl
@[simp] theorem State.updSpin_fuses (s : State) (p) (f) : (s.updSpin p f).fuses = s.fuses := rfl
@[simp] theorem State.updSpin_window (s : State) (p) (f) : (s.updSpin p f).window = s.window := rfl
@[simp] theorem State.updSpin_sec (s : State) (p) (f) : (s.updSpin p f).sec = s.sec := rfl
@[simp] theorem State.updSpin_recorder (s : State) (p) (f) : (s.updSpin p f).recorder = s.recorder := rfl
@[simp] theorem State.updSpin_mirrorHeld (s : State) (p) (f) : (s.updSpin p f).mirrorHeld = s.mirrorHeld := rfl
@[simp] theorem State.updSpin_heldTokens (s : State) (p) (f) : (s.updSpin p f).heldTokens = s.heldTokens := rfl
@[simp] theorem State.updSpin_tileHeld (s : State) (p) (f) : (s.updSpin p f).tileHeld = s.tileHeld := rfl
@[simp] theorem State.updSpin_out (s : State) (p) (f) : (s.updSpin p f).out = s.out := rfl

/-! ### updTb -/

@[simp] theorem State.updTb_pending (s : State) (p) (f) : (s.updTb p f).pending = s.pending := rfl
@[simp] theorem State.updTb_now (s : State) (p) (f) : (s.updTb p f).now = s.now := rfl
@[simp] theorem State.updTb_free (s : State) (p) (f) : (s.updTb p f).free = s.free := rfl
@[simp] theorem State.updTb_part (s : State) (p) (f) : (s.updTb p f).part = s.part := rfl
@[simp] theorem State.updTb_tiles (s : State) (p) (f) : (s.updTb p f).tiles = s.tiles := rfl
@[simp] theorem State.updTb_spinQueue (s : State) (p) (f) : (s.updTb p f).spinQueue = s.spinQueue := rfl
@[simp] theorem State.updTb_buses (s : State) (p) (f) : (s.updTb p f).buses = s.buses := rfl
@[simp] theorem State.updTb_fmtStore (s : State) (p) (f) : (s.updTb p f).fmtStore = s.fmtStore := rfl
@[simp] theorem State.updTb_svc (s : State) (p) (f) : (s.updTb p f).svc = s.svc := rfl
@[simp] theorem State.updTb_bench (s : State) (p) (f) : (s.updTb p f).bench = s.bench := rfl
@[simp] theorem State.updTb_ref100Lost (s : State) (p) (f) : (s.updTb p f).ref100Lost = s.ref100Lost := rfl
@[simp] theorem State.updTb_ref156Lost (s : State) (p) (f) : (s.updTb p f).ref156Lost = s.ref156Lost := rfl
@[simp] theorem State.updTb_dict (s : State) (p) (f) : (s.updTb p f).dict = s.dict := rfl
@[simp] theorem State.updTb_lock (s : State) (p) (f) : (s.updTb p f).lock = s.lock := rfl
@[simp] theorem State.updTb_host (s : State) (p) (f) : (s.updTb p f).host = s.host := rfl
@[simp] theorem State.updTb_store (s : State) (p) (f) : (s.updTb p f).store = s.store := rfl
@[simp] theorem State.updTb_buf (s : State) (p) (f) : (s.updTb p f).buf = s.buf := rfl
@[simp] theorem State.updTb_movers (s : State) (p) (f) : (s.updTb p f).movers = s.movers := rfl
@[simp] theorem State.updTb_lastMoverError (s : State) (p) (f) : (s.updTb p f).lastMoverError = s.lastMoverError := rfl
@[simp] theorem State.updTb_layers (s : State) (p) (f) : (s.updTb p f).layers = s.layers := rfl
@[simp] theorem State.updTb_raw (s : State) (p) (f) : (s.updTb p f).raw = s.raw := rfl
@[simp] theorem State.updTb_can (s : State) (p) (f) : (s.updTb p f).can = s.can := rfl
@[simp] theorem State.updTb_heldAccess (s : State) (p) (f) : (s.updTb p f).heldAccess = s.heldAccess := rfl
@[simp] theorem State.updTb_faults (s : State) (p) (f) : (s.updTb p f).faults = s.faults := rfl
@[simp] theorem State.updTb_inputs (s : State) (p) (f) : (s.updTb p f).inputs = s.inputs := rfl
@[simp] theorem State.updTb_clusters (s : State) (p) (f) : (s.updTb p f).clusters = s.clusters := rfl
@[simp] theorem State.updTb_arbiter (s : State) (p) (f) : (s.updTb p f).arbiter = s.arbiter := rfl
@[simp] theorem State.updTb_injection (s : State) (p) (f) : (s.updTb p f).injection = s.injection := rfl
@[simp] theorem State.updTb_dev (s : State) (p) (f) : (s.updTb p f).dev = s.dev := rfl
@[simp] theorem State.updTb_boot (s : State) (p) (f) : (s.updTb p f).boot = s.boot := rfl
@[simp] theorem State.updTb_rails (s : State) (p) (f) : (s.updTb p f).rails = s.rails := rfl
@[simp] theorem State.updTb_domains (s : State) (p) (f) : (s.updTb p f).domains = s.domains := rfl
@[simp] theorem State.updTb_flash (s : State) (p) (f) : (s.updTb p f).flash = s.flash := rfl
@[simp] theorem State.updTb_fuses (s : State) (p) (f) : (s.updTb p f).fuses = s.fuses := rfl
@[simp] theorem State.updTb_window (s : State) (p) (f) : (s.updTb p f).window = s.window := rfl
@[simp] theorem State.updTb_sec (s : State) (p) (f) : (s.updTb p f).sec = s.sec := rfl
@[simp] theorem State.updTb_recorder (s : State) (p) (f) : (s.updTb p f).recorder = s.recorder := rfl
@[simp] theorem State.updTb_mirrorHeld (s : State) (p) (f) : (s.updTb p f).mirrorHeld = s.mirrorHeld := rfl
@[simp] theorem State.updTb_heldTokens (s : State) (p) (f) : (s.updTb p f).heldTokens = s.heldTokens := rfl
@[simp] theorem State.updTb_tileHeld (s : State) (p) (f) : (s.updTb p f).tileHeld = s.tileHeld := rfl
@[simp] theorem State.updTb_out (s : State) (p) (f) : (s.updTb p f).out = s.out := rfl

/-! ### updBus -/

@[simp] theorem State.updBus_pending (s : State) (x) (f) : (s.updBus x f).pending = s.pending := rfl
@[simp] theorem State.updBus_now (s : State) (x) (f) : (s.updBus x f).now = s.now := rfl
@[simp] theorem State.updBus_free (s : State) (x) (f) : (s.updBus x f).free = s.free := rfl
@[simp] theorem State.updBus_part (s : State) (x) (f) : (s.updBus x f).part = s.part := rfl
@[simp] theorem State.updBus_tiles (s : State) (x) (f) : (s.updBus x f).tiles = s.tiles := rfl
@[simp] theorem State.updBus_packs (s : State) (x) (f) : (s.updBus x f).packs = s.packs := rfl
@[simp] theorem State.updBus_spinQueue (s : State) (x) (f) : (s.updBus x f).spinQueue = s.spinQueue := rfl
@[simp] theorem State.updBus_fmtStore (s : State) (x) (f) : (s.updBus x f).fmtStore = s.fmtStore := rfl
@[simp] theorem State.updBus_svc (s : State) (x) (f) : (s.updBus x f).svc = s.svc := rfl
@[simp] theorem State.updBus_bench (s : State) (x) (f) : (s.updBus x f).bench = s.bench := rfl
@[simp] theorem State.updBus_ref100Lost (s : State) (x) (f) : (s.updBus x f).ref100Lost = s.ref100Lost := rfl
@[simp] theorem State.updBus_ref156Lost (s : State) (x) (f) : (s.updBus x f).ref156Lost = s.ref156Lost := rfl
@[simp] theorem State.updBus_dict (s : State) (x) (f) : (s.updBus x f).dict = s.dict := rfl
@[simp] theorem State.updBus_lock (s : State) (x) (f) : (s.updBus x f).lock = s.lock := rfl
@[simp] theorem State.updBus_host (s : State) (x) (f) : (s.updBus x f).host = s.host := rfl
@[simp] theorem State.updBus_store (s : State) (x) (f) : (s.updBus x f).store = s.store := rfl
@[simp] theorem State.updBus_buf (s : State) (x) (f) : (s.updBus x f).buf = s.buf := rfl
@[simp] theorem State.updBus_movers (s : State) (x) (f) : (s.updBus x f).movers = s.movers := rfl
@[simp] theorem State.updBus_lastMoverError (s : State) (x) (f) : (s.updBus x f).lastMoverError = s.lastMoverError := rfl
@[simp] theorem State.updBus_layers (s : State) (x) (f) : (s.updBus x f).layers = s.layers := rfl
@[simp] theorem State.updBus_raw (s : State) (x) (f) : (s.updBus x f).raw = s.raw := rfl
@[simp] theorem State.updBus_can (s : State) (x) (f) : (s.updBus x f).can = s.can := rfl
@[simp] theorem State.updBus_heldAccess (s : State) (x) (f) : (s.updBus x f).heldAccess = s.heldAccess := rfl
@[simp] theorem State.updBus_faults (s : State) (x) (f) : (s.updBus x f).faults = s.faults := rfl
@[simp] theorem State.updBus_inputs (s : State) (x) (f) : (s.updBus x f).inputs = s.inputs := rfl
@[simp] theorem State.updBus_clusters (s : State) (x) (f) : (s.updBus x f).clusters = s.clusters := rfl
@[simp] theorem State.updBus_arbiter (s : State) (x) (f) : (s.updBus x f).arbiter = s.arbiter := rfl
@[simp] theorem State.updBus_injection (s : State) (x) (f) : (s.updBus x f).injection = s.injection := rfl
@[simp] theorem State.updBus_dev (s : State) (x) (f) : (s.updBus x f).dev = s.dev := rfl
@[simp] theorem State.updBus_boot (s : State) (x) (f) : (s.updBus x f).boot = s.boot := rfl
@[simp] theorem State.updBus_rails (s : State) (x) (f) : (s.updBus x f).rails = s.rails := rfl
@[simp] theorem State.updBus_domains (s : State) (x) (f) : (s.updBus x f).domains = s.domains := rfl
@[simp] theorem State.updBus_flash (s : State) (x) (f) : (s.updBus x f).flash = s.flash := rfl
@[simp] theorem State.updBus_fuses (s : State) (x) (f) : (s.updBus x f).fuses = s.fuses := rfl
@[simp] theorem State.updBus_window (s : State) (x) (f) : (s.updBus x f).window = s.window := rfl
@[simp] theorem State.updBus_sec (s : State) (x) (f) : (s.updBus x f).sec = s.sec := rfl
@[simp] theorem State.updBus_recorder (s : State) (x) (f) : (s.updBus x f).recorder = s.recorder := rfl
@[simp] theorem State.updBus_mirrorHeld (s : State) (x) (f) : (s.updBus x f).mirrorHeld = s.mirrorHeld := rfl
@[simp] theorem State.updBus_heldTokens (s : State) (x) (f) : (s.updBus x f).heldTokens = s.heldTokens := rfl
@[simp] theorem State.updBus_tileHeld (s : State) (x) (f) : (s.updBus x f).tileHeld = s.tileHeld := rfl
@[simp] theorem State.updBus_out (s : State) (x) (f) : (s.updBus x f).out = s.out := rfl

/-! ### updCtx -/

@[simp] theorem State.updCtx_pending (s : State) (q) (c) (f) : (s.updCtx q c f).pending = s.pending := rfl
@[simp] theorem State.updCtx_now (s : State) (q) (c) (f) : (s.updCtx q c f).now = s.now := rfl
@[simp] theorem State.updCtx_free (s : State) (q) (c) (f) : (s.updCtx q c f).free = s.free := rfl
@[simp] theorem State.updCtx_part (s : State) (q) (c) (f) : (s.updCtx q c f).part = s.part := rfl
@[simp] theorem State.updCtx_tiles (s : State) (q) (c) (f) : (s.updCtx q c f).tiles = s.tiles := rfl
@[simp] theorem State.updCtx_packs (s : State) (q) (c) (f) : (s.updCtx q c f).packs = s.packs := rfl
@[simp] theorem State.updCtx_spinQueue (s : State) (q) (c) (f) : (s.updCtx q c f).spinQueue = s.spinQueue := rfl
@[simp] theorem State.updCtx_buses (s : State) (q) (c) (f) : (s.updCtx q c f).buses = s.buses := rfl
@[simp] theorem State.updCtx_fmtStore (s : State) (q) (c) (f) : (s.updCtx q c f).fmtStore = s.fmtStore := rfl
@[simp] theorem State.updCtx_bench (s : State) (q) (c) (f) : (s.updCtx q c f).bench = s.bench := rfl
@[simp] theorem State.updCtx_ref100Lost (s : State) (q) (c) (f) : (s.updCtx q c f).ref100Lost = s.ref100Lost := rfl
@[simp] theorem State.updCtx_ref156Lost (s : State) (q) (c) (f) : (s.updCtx q c f).ref156Lost = s.ref156Lost := rfl
@[simp] theorem State.updCtx_dict (s : State) (q) (c) (f) : (s.updCtx q c f).dict = s.dict := rfl
@[simp] theorem State.updCtx_lock (s : State) (q) (c) (f) : (s.updCtx q c f).lock = s.lock := rfl
@[simp] theorem State.updCtx_host (s : State) (q) (c) (f) : (s.updCtx q c f).host = s.host := rfl
@[simp] theorem State.updCtx_store (s : State) (q) (c) (f) : (s.updCtx q c f).store = s.store := rfl
@[simp] theorem State.updCtx_buf (s : State) (q) (c) (f) : (s.updCtx q c f).buf = s.buf := rfl
@[simp] theorem State.updCtx_movers (s : State) (q) (c) (f) : (s.updCtx q c f).movers = s.movers := rfl
@[simp] theorem State.updCtx_lastMoverError (s : State) (q) (c) (f) : (s.updCtx q c f).lastMoverError = s.lastMoverError := rfl
@[simp] theorem State.updCtx_layers (s : State) (q) (c) (f) : (s.updCtx q c f).layers = s.layers := rfl
@[simp] theorem State.updCtx_raw (s : State) (q) (c) (f) : (s.updCtx q c f).raw = s.raw := rfl
@[simp] theorem State.updCtx_can (s : State) (q) (c) (f) : (s.updCtx q c f).can = s.can := rfl
@[simp] theorem State.updCtx_heldAccess (s : State) (q) (c) (f) : (s.updCtx q c f).heldAccess = s.heldAccess := rfl
@[simp] theorem State.updCtx_faults (s : State) (q) (c) (f) : (s.updCtx q c f).faults = s.faults := rfl
@[simp] theorem State.updCtx_inputs (s : State) (q) (c) (f) : (s.updCtx q c f).inputs = s.inputs := rfl
@[simp] theorem State.updCtx_clusters (s : State) (q) (c) (f) : (s.updCtx q c f).clusters = s.clusters := rfl
@[simp] theorem State.updCtx_arbiter (s : State) (q) (c) (f) : (s.updCtx q c f).arbiter = s.arbiter := rfl
@[simp] theorem State.updCtx_injection (s : State) (q) (c) (f) : (s.updCtx q c f).injection = s.injection := rfl
@[simp] theorem State.updCtx_dev (s : State) (q) (c) (f) : (s.updCtx q c f).dev = s.dev := rfl
@[simp] theorem State.updCtx_boot (s : State) (q) (c) (f) : (s.updCtx q c f).boot = s.boot := rfl
@[simp] theorem State.updCtx_rails (s : State) (q) (c) (f) : (s.updCtx q c f).rails = s.rails := rfl
@[simp] theorem State.updCtx_domains (s : State) (q) (c) (f) : (s.updCtx q c f).domains = s.domains := rfl
@[simp] theorem State.updCtx_flash (s : State) (q) (c) (f) : (s.updCtx q c f).flash = s.flash := rfl
@[simp] theorem State.updCtx_fuses (s : State) (q) (c) (f) : (s.updCtx q c f).fuses = s.fuses := rfl
@[simp] theorem State.updCtx_window (s : State) (q) (c) (f) : (s.updCtx q c f).window = s.window := rfl
@[simp] theorem State.updCtx_sec (s : State) (q) (c) (f) : (s.updCtx q c f).sec = s.sec := rfl
@[simp] theorem State.updCtx_recorder (s : State) (q) (c) (f) : (s.updCtx q c f).recorder = s.recorder := rfl
@[simp] theorem State.updCtx_mirrorHeld (s : State) (q) (c) (f) : (s.updCtx q c f).mirrorHeld = s.mirrorHeld := rfl
@[simp] theorem State.updCtx_heldTokens (s : State) (q) (c) (f) : (s.updCtx q c f).heldTokens = s.heldTokens := rfl
@[simp] theorem State.updCtx_tileHeld (s : State) (q) (c) (f) : (s.updCtx q c f).tileHeld = s.tileHeld := rfl
@[simp] theorem State.updCtx_out (s : State) (q) (c) (f) : (s.updCtx q c f).out = s.out := rfl

/-! ### updSvc -/

@[simp] theorem State.updSvc_pending (s : State) (f) : (s.updSvc f).pending = s.pending := rfl
@[simp] theorem State.updSvc_now (s : State) (f) : (s.updSvc f).now = s.now := rfl
@[simp] theorem State.updSvc_free (s : State) (f) : (s.updSvc f).free = s.free := rfl
@[simp] theorem State.updSvc_part (s : State) (f) : (s.updSvc f).part = s.part := rfl
@[simp] theorem State.updSvc_tiles (s : State) (f) : (s.updSvc f).tiles = s.tiles := rfl
@[simp] theorem State.updSvc_packs (s : State) (f) : (s.updSvc f).packs = s.packs := rfl
@[simp] theorem State.updSvc_spinQueue (s : State) (f) : (s.updSvc f).spinQueue = s.spinQueue := rfl
@[simp] theorem State.updSvc_buses (s : State) (f) : (s.updSvc f).buses = s.buses := rfl
@[simp] theorem State.updSvc_fmtStore (s : State) (f) : (s.updSvc f).fmtStore = s.fmtStore := rfl
@[simp] theorem State.updSvc_bench (s : State) (f) : (s.updSvc f).bench = s.bench := rfl
@[simp] theorem State.updSvc_ref100Lost (s : State) (f) : (s.updSvc f).ref100Lost = s.ref100Lost := rfl
@[simp] theorem State.updSvc_ref156Lost (s : State) (f) : (s.updSvc f).ref156Lost = s.ref156Lost := rfl
@[simp] theorem State.updSvc_dict (s : State) (f) : (s.updSvc f).dict = s.dict := rfl
@[simp] theorem State.updSvc_lock (s : State) (f) : (s.updSvc f).lock = s.lock := rfl
@[simp] theorem State.updSvc_host (s : State) (f) : (s.updSvc f).host = s.host := rfl
@[simp] theorem State.updSvc_store (s : State) (f) : (s.updSvc f).store = s.store := rfl
@[simp] theorem State.updSvc_buf (s : State) (f) : (s.updSvc f).buf = s.buf := rfl
@[simp] theorem State.updSvc_movers (s : State) (f) : (s.updSvc f).movers = s.movers := rfl
@[simp] theorem State.updSvc_lastMoverError (s : State) (f) : (s.updSvc f).lastMoverError = s.lastMoverError := rfl
@[simp] theorem State.updSvc_layers (s : State) (f) : (s.updSvc f).layers = s.layers := rfl
@[simp] theorem State.updSvc_raw (s : State) (f) : (s.updSvc f).raw = s.raw := rfl
@[simp] theorem State.updSvc_can (s : State) (f) : (s.updSvc f).can = s.can := rfl
@[simp] theorem State.updSvc_heldAccess (s : State) (f) : (s.updSvc f).heldAccess = s.heldAccess := rfl
@[simp] theorem State.updSvc_faults (s : State) (f) : (s.updSvc f).faults = s.faults := rfl
@[simp] theorem State.updSvc_inputs (s : State) (f) : (s.updSvc f).inputs = s.inputs := rfl
@[simp] theorem State.updSvc_clusters (s : State) (f) : (s.updSvc f).clusters = s.clusters := rfl
@[simp] theorem State.updSvc_arbiter (s : State) (f) : (s.updSvc f).arbiter = s.arbiter := rfl
@[simp] theorem State.updSvc_injection (s : State) (f) : (s.updSvc f).injection = s.injection := rfl
@[simp] theorem State.updSvc_dev (s : State) (f) : (s.updSvc f).dev = s.dev := rfl
@[simp] theorem State.updSvc_boot (s : State) (f) : (s.updSvc f).boot = s.boot := rfl
@[simp] theorem State.updSvc_rails (s : State) (f) : (s.updSvc f).rails = s.rails := rfl
@[simp] theorem State.updSvc_domains (s : State) (f) : (s.updSvc f).domains = s.domains := rfl
@[simp] theorem State.updSvc_flash (s : State) (f) : (s.updSvc f).flash = s.flash := rfl
@[simp] theorem State.updSvc_fuses (s : State) (f) : (s.updSvc f).fuses = s.fuses := rfl
@[simp] theorem State.updSvc_window (s : State) (f) : (s.updSvc f).window = s.window := rfl
@[simp] theorem State.updSvc_sec (s : State) (f) : (s.updSvc f).sec = s.sec := rfl
@[simp] theorem State.updSvc_recorder (s : State) (f) : (s.updSvc f).recorder = s.recorder := rfl
@[simp] theorem State.updSvc_mirrorHeld (s : State) (f) : (s.updSvc f).mirrorHeld = s.mirrorHeld := rfl
@[simp] theorem State.updSvc_heldTokens (s : State) (f) : (s.updSvc f).heldTokens = s.heldTokens := rfl
@[simp] theorem State.updSvc_tileHeld (s : State) (f) : (s.updSvc f).tileHeld = s.tileHeld := rfl
@[simp] theorem State.updSvc_out (s : State) (f) : (s.updSvc f).out = s.out := rfl

/-! ### updCmd -/

@[simp] theorem State.updCmd_pending (s : State) (ring) (slot) (f) : (s.updCmd ring slot f).pending = s.pending := rfl
@[simp] theorem State.updCmd_now (s : State) (ring) (slot) (f) : (s.updCmd ring slot f).now = s.now := rfl
@[simp] theorem State.updCmd_free (s : State) (ring) (slot) (f) : (s.updCmd ring slot f).free = s.free := rfl
@[simp] theorem State.updCmd_part (s : State) (ring) (slot) (f) : (s.updCmd ring slot f).part = s.part := rfl
@[simp] theorem State.updCmd_tiles (s : State) (ring) (slot) (f) : (s.updCmd ring slot f).tiles = s.tiles := rfl
@[simp] theorem State.updCmd_packs (s : State) (ring) (slot) (f) : (s.updCmd ring slot f).packs = s.packs := rfl
@[simp] theorem State.updCmd_spinQueue (s : State) (ring) (slot) (f) : (s.updCmd ring slot f).spinQueue = s.spinQueue := rfl
@[simp] theorem State.updCmd_buses (s : State) (ring) (slot) (f) : (s.updCmd ring slot f).buses = s.buses := rfl
@[simp] theorem State.updCmd_fmtStore (s : State) (ring) (slot) (f) : (s.updCmd ring slot f).fmtStore = s.fmtStore := rfl
@[simp] theorem State.updCmd_bench (s : State) (ring) (slot) (f) : (s.updCmd ring slot f).bench = s.bench := rfl
@[simp] theorem State.updCmd_ref100Lost (s : State) (ring) (slot) (f) : (s.updCmd ring slot f).ref100Lost = s.ref100Lost := rfl
@[simp] theorem State.updCmd_ref156Lost (s : State) (ring) (slot) (f) : (s.updCmd ring slot f).ref156Lost = s.ref156Lost := rfl
@[simp] theorem State.updCmd_dict (s : State) (ring) (slot) (f) : (s.updCmd ring slot f).dict = s.dict := rfl
@[simp] theorem State.updCmd_lock (s : State) (ring) (slot) (f) : (s.updCmd ring slot f).lock = s.lock := rfl
@[simp] theorem State.updCmd_host (s : State) (ring) (slot) (f) : (s.updCmd ring slot f).host = s.host := rfl
@[simp] theorem State.updCmd_store (s : State) (ring) (slot) (f) : (s.updCmd ring slot f).store = s.store := rfl
@[simp] theorem State.updCmd_buf (s : State) (ring) (slot) (f) : (s.updCmd ring slot f).buf = s.buf := rfl
@[simp] theorem State.updCmd_movers (s : State) (ring) (slot) (f) : (s.updCmd ring slot f).movers = s.movers := rfl
@[simp] theorem State.updCmd_lastMoverError (s : State) (ring) (slot) (f) : (s.updCmd ring slot f).lastMoverError = s.lastMoverError := rfl
@[simp] theorem State.updCmd_layers (s : State) (ring) (slot) (f) : (s.updCmd ring slot f).layers = s.layers := rfl
@[simp] theorem State.updCmd_raw (s : State) (ring) (slot) (f) : (s.updCmd ring slot f).raw = s.raw := rfl
@[simp] theorem State.updCmd_can (s : State) (ring) (slot) (f) : (s.updCmd ring slot f).can = s.can := rfl
@[simp] theorem State.updCmd_heldAccess (s : State) (ring) (slot) (f) : (s.updCmd ring slot f).heldAccess = s.heldAccess := rfl
@[simp] theorem State.updCmd_faults (s : State) (ring) (slot) (f) : (s.updCmd ring slot f).faults = s.faults := rfl
@[simp] theorem State.updCmd_inputs (s : State) (ring) (slot) (f) : (s.updCmd ring slot f).inputs = s.inputs := rfl
@[simp] theorem State.updCmd_clusters (s : State) (ring) (slot) (f) : (s.updCmd ring slot f).clusters = s.clusters := rfl
@[simp] theorem State.updCmd_arbiter (s : State) (ring) (slot) (f) : (s.updCmd ring slot f).arbiter = s.arbiter := rfl
@[simp] theorem State.updCmd_injection (s : State) (ring) (slot) (f) : (s.updCmd ring slot f).injection = s.injection := rfl
@[simp] theorem State.updCmd_dev (s : State) (ring) (slot) (f) : (s.updCmd ring slot f).dev = s.dev := rfl
@[simp] theorem State.updCmd_boot (s : State) (ring) (slot) (f) : (s.updCmd ring slot f).boot = s.boot := rfl
@[simp] theorem State.updCmd_rails (s : State) (ring) (slot) (f) : (s.updCmd ring slot f).rails = s.rails := rfl
@[simp] theorem State.updCmd_domains (s : State) (ring) (slot) (f) : (s.updCmd ring slot f).domains = s.domains := rfl
@[simp] theorem State.updCmd_flash (s : State) (ring) (slot) (f) : (s.updCmd ring slot f).flash = s.flash := rfl
@[simp] theorem State.updCmd_fuses (s : State) (ring) (slot) (f) : (s.updCmd ring slot f).fuses = s.fuses := rfl
@[simp] theorem State.updCmd_window (s : State) (ring) (slot) (f) : (s.updCmd ring slot f).window = s.window := rfl
@[simp] theorem State.updCmd_sec (s : State) (ring) (slot) (f) : (s.updCmd ring slot f).sec = s.sec := rfl
@[simp] theorem State.updCmd_recorder (s : State) (ring) (slot) (f) : (s.updCmd ring slot f).recorder = s.recorder := rfl
@[simp] theorem State.updCmd_mirrorHeld (s : State) (ring) (slot) (f) : (s.updCmd ring slot f).mirrorHeld = s.mirrorHeld := rfl
@[simp] theorem State.updCmd_heldTokens (s : State) (ring) (slot) (f) : (s.updCmd ring slot f).heldTokens = s.heldTokens := rfl
@[simp] theorem State.updCmd_tileHeld (s : State) (ring) (slot) (f) : (s.updCmd ring slot f).tileHeld = s.tileHeld := rfl
@[simp] theorem State.updCmd_out (s : State) (ring) (slot) (f) : (s.updCmd ring slot f).out = s.out := rfl

/-! ### updHost -/

@[simp] theorem State.updHost_pending (s : State) (f) : (s.updHost f).pending = s.pending := rfl
@[simp] theorem State.updHost_now (s : State) (f) : (s.updHost f).now = s.now := rfl
@[simp] theorem State.updHost_free (s : State) (f) : (s.updHost f).free = s.free := rfl
@[simp] theorem State.updHost_part (s : State) (f) : (s.updHost f).part = s.part := rfl
@[simp] theorem State.updHost_tiles (s : State) (f) : (s.updHost f).tiles = s.tiles := rfl
@[simp] theorem State.updHost_packs (s : State) (f) : (s.updHost f).packs = s.packs := rfl
@[simp] theorem State.updHost_spinQueue (s : State) (f) : (s.updHost f).spinQueue = s.spinQueue := rfl
@[simp] theorem State.updHost_buses (s : State) (f) : (s.updHost f).buses = s.buses := rfl
@[simp] theorem State.updHost_fmtStore (s : State) (f) : (s.updHost f).fmtStore = s.fmtStore := rfl
@[simp] theorem State.updHost_svc (s : State) (f) : (s.updHost f).svc = s.svc := rfl
@[simp] theorem State.updHost_bench (s : State) (f) : (s.updHost f).bench = s.bench := rfl
@[simp] theorem State.updHost_ref100Lost (s : State) (f) : (s.updHost f).ref100Lost = s.ref100Lost := rfl
@[simp] theorem State.updHost_ref156Lost (s : State) (f) : (s.updHost f).ref156Lost = s.ref156Lost := rfl
@[simp] theorem State.updHost_dict (s : State) (f) : (s.updHost f).dict = s.dict := rfl
@[simp] theorem State.updHost_lock (s : State) (f) : (s.updHost f).lock = s.lock := rfl
@[simp] theorem State.updHost_store (s : State) (f) : (s.updHost f).store = s.store := rfl
@[simp] theorem State.updHost_buf (s : State) (f) : (s.updHost f).buf = s.buf := rfl
@[simp] theorem State.updHost_movers (s : State) (f) : (s.updHost f).movers = s.movers := rfl
@[simp] theorem State.updHost_lastMoverError (s : State) (f) : (s.updHost f).lastMoverError = s.lastMoverError := rfl
@[simp] theorem State.updHost_layers (s : State) (f) : (s.updHost f).layers = s.layers := rfl
@[simp] theorem State.updHost_raw (s : State) (f) : (s.updHost f).raw = s.raw := rfl
@[simp] theorem State.updHost_can (s : State) (f) : (s.updHost f).can = s.can := rfl
@[simp] theorem State.updHost_heldAccess (s : State) (f) : (s.updHost f).heldAccess = s.heldAccess := rfl
@[simp] theorem State.updHost_faults (s : State) (f) : (s.updHost f).faults = s.faults := rfl
@[simp] theorem State.updHost_inputs (s : State) (f) : (s.updHost f).inputs = s.inputs := rfl
@[simp] theorem State.updHost_clusters (s : State) (f) : (s.updHost f).clusters = s.clusters := rfl
@[simp] theorem State.updHost_arbiter (s : State) (f) : (s.updHost f).arbiter = s.arbiter := rfl
@[simp] theorem State.updHost_injection (s : State) (f) : (s.updHost f).injection = s.injection := rfl
@[simp] theorem State.updHost_dev (s : State) (f) : (s.updHost f).dev = s.dev := rfl
@[simp] theorem State.updHost_boot (s : State) (f) : (s.updHost f).boot = s.boot := rfl
@[simp] theorem State.updHost_rails (s : State) (f) : (s.updHost f).rails = s.rails := rfl
@[simp] theorem State.updHost_domains (s : State) (f) : (s.updHost f).domains = s.domains := rfl
@[simp] theorem State.updHost_flash (s : State) (f) : (s.updHost f).flash = s.flash := rfl
@[simp] theorem State.updHost_fuses (s : State) (f) : (s.updHost f).fuses = s.fuses := rfl
@[simp] theorem State.updHost_window (s : State) (f) : (s.updHost f).window = s.window := rfl
@[simp] theorem State.updHost_sec (s : State) (f) : (s.updHost f).sec = s.sec := rfl
@[simp] theorem State.updHost_recorder (s : State) (f) : (s.updHost f).recorder = s.recorder := rfl
@[simp] theorem State.updHost_mirrorHeld (s : State) (f) : (s.updHost f).mirrorHeld = s.mirrorHeld := rfl
@[simp] theorem State.updHost_heldTokens (s : State) (f) : (s.updHost f).heldTokens = s.heldTokens := rfl
@[simp] theorem State.updHost_tileHeld (s : State) (f) : (s.updHost f).tileHeld = s.tileHeld := rfl
@[simp] theorem State.updHost_out (s : State) (f) : (s.updHost f).out = s.out := rfl

/-! ### updConn -/

@[simp] theorem State.updConn_pending (s : State) (n) (f) : (s.updConn n f).pending = s.pending := rfl
@[simp] theorem State.updConn_now (s : State) (n) (f) : (s.updConn n f).now = s.now := rfl
@[simp] theorem State.updConn_free (s : State) (n) (f) : (s.updConn n f).free = s.free := rfl
@[simp] theorem State.updConn_part (s : State) (n) (f) : (s.updConn n f).part = s.part := rfl
@[simp] theorem State.updConn_tiles (s : State) (n) (f) : (s.updConn n f).tiles = s.tiles := rfl
@[simp] theorem State.updConn_packs (s : State) (n) (f) : (s.updConn n f).packs = s.packs := rfl
@[simp] theorem State.updConn_spinQueue (s : State) (n) (f) : (s.updConn n f).spinQueue = s.spinQueue := rfl
@[simp] theorem State.updConn_buses (s : State) (n) (f) : (s.updConn n f).buses = s.buses := rfl
@[simp] theorem State.updConn_fmtStore (s : State) (n) (f) : (s.updConn n f).fmtStore = s.fmtStore := rfl
@[simp] theorem State.updConn_svc (s : State) (n) (f) : (s.updConn n f).svc = s.svc := rfl
@[simp] theorem State.updConn_bench (s : State) (n) (f) : (s.updConn n f).bench = s.bench := rfl
@[simp] theorem State.updConn_ref100Lost (s : State) (n) (f) : (s.updConn n f).ref100Lost = s.ref100Lost := rfl
@[simp] theorem State.updConn_ref156Lost (s : State) (n) (f) : (s.updConn n f).ref156Lost = s.ref156Lost := rfl
@[simp] theorem State.updConn_dict (s : State) (n) (f) : (s.updConn n f).dict = s.dict := rfl
@[simp] theorem State.updConn_lock (s : State) (n) (f) : (s.updConn n f).lock = s.lock := rfl
@[simp] theorem State.updConn_store (s : State) (n) (f) : (s.updConn n f).store = s.store := rfl
@[simp] theorem State.updConn_buf (s : State) (n) (f) : (s.updConn n f).buf = s.buf := rfl
@[simp] theorem State.updConn_movers (s : State) (n) (f) : (s.updConn n f).movers = s.movers := rfl
@[simp] theorem State.updConn_lastMoverError (s : State) (n) (f) : (s.updConn n f).lastMoverError = s.lastMoverError := rfl
@[simp] theorem State.updConn_layers (s : State) (n) (f) : (s.updConn n f).layers = s.layers := rfl
@[simp] theorem State.updConn_raw (s : State) (n) (f) : (s.updConn n f).raw = s.raw := rfl
@[simp] theorem State.updConn_can (s : State) (n) (f) : (s.updConn n f).can = s.can := rfl
@[simp] theorem State.updConn_heldAccess (s : State) (n) (f) : (s.updConn n f).heldAccess = s.heldAccess := rfl
@[simp] theorem State.updConn_faults (s : State) (n) (f) : (s.updConn n f).faults = s.faults := rfl
@[simp] theorem State.updConn_inputs (s : State) (n) (f) : (s.updConn n f).inputs = s.inputs := rfl
@[simp] theorem State.updConn_clusters (s : State) (n) (f) : (s.updConn n f).clusters = s.clusters := rfl
@[simp] theorem State.updConn_arbiter (s : State) (n) (f) : (s.updConn n f).arbiter = s.arbiter := rfl
@[simp] theorem State.updConn_injection (s : State) (n) (f) : (s.updConn n f).injection = s.injection := rfl
@[simp] theorem State.updConn_dev (s : State) (n) (f) : (s.updConn n f).dev = s.dev := rfl
@[simp] theorem State.updConn_boot (s : State) (n) (f) : (s.updConn n f).boot = s.boot := rfl
@[simp] theorem State.updConn_rails (s : State) (n) (f) : (s.updConn n f).rails = s.rails := rfl
@[simp] theorem State.updConn_domains (s : State) (n) (f) : (s.updConn n f).domains = s.domains := rfl
@[simp] theorem State.updConn_flash (s : State) (n) (f) : (s.updConn n f).flash = s.flash := rfl
@[simp] theorem State.updConn_fuses (s : State) (n) (f) : (s.updConn n f).fuses = s.fuses := rfl
@[simp] theorem State.updConn_window (s : State) (n) (f) : (s.updConn n f).window = s.window := rfl
@[simp] theorem State.updConn_sec (s : State) (n) (f) : (s.updConn n f).sec = s.sec := rfl
@[simp] theorem State.updConn_recorder (s : State) (n) (f) : (s.updConn n f).recorder = s.recorder := rfl
@[simp] theorem State.updConn_mirrorHeld (s : State) (n) (f) : (s.updConn n f).mirrorHeld = s.mirrorHeld := rfl
@[simp] theorem State.updConn_heldTokens (s : State) (n) (f) : (s.updConn n f).heldTokens = s.heldTokens := rfl
@[simp] theorem State.updConn_tileHeld (s : State) (n) (f) : (s.updConn n f).tileHeld = s.tileHeld := rfl
@[simp] theorem State.updConn_out (s : State) (n) (f) : (s.updConn n f).out = s.out := rfl

/-! ### updRing -/

@[simp] theorem State.updRing_pending (s : State) (n) (f) : (s.updRing n f).pending = s.pending := rfl
@[simp] theorem State.updRing_now (s : State) (n) (f) : (s.updRing n f).now = s.now := rfl
@[simp] theorem State.updRing_free (s : State) (n) (f) : (s.updRing n f).free = s.free := rfl
@[simp] theorem State.updRing_part (s : State) (n) (f) : (s.updRing n f).part = s.part := rfl
@[simp] theorem State.updRing_tiles (s : State) (n) (f) : (s.updRing n f).tiles = s.tiles := rfl
@[simp] theorem State.updRing_packs (s : State) (n) (f) : (s.updRing n f).packs = s.packs := rfl
@[simp] theorem State.updRing_spinQueue (s : State) (n) (f) : (s.updRing n f).spinQueue = s.spinQueue := rfl
@[simp] theorem State.updRing_buses (s : State) (n) (f) : (s.updRing n f).buses = s.buses := rfl
@[simp] theorem State.updRing_fmtStore (s : State) (n) (f) : (s.updRing n f).fmtStore = s.fmtStore := rfl
@[simp] theorem State.updRing_svc (s : State) (n) (f) : (s.updRing n f).svc = s.svc := rfl
@[simp] theorem State.updRing_bench (s : State) (n) (f) : (s.updRing n f).bench = s.bench := rfl
@[simp] theorem State.updRing_ref100Lost (s : State) (n) (f) : (s.updRing n f).ref100Lost = s.ref100Lost := rfl
@[simp] theorem State.updRing_ref156Lost (s : State) (n) (f) : (s.updRing n f).ref156Lost = s.ref156Lost := rfl
@[simp] theorem State.updRing_dict (s : State) (n) (f) : (s.updRing n f).dict = s.dict := rfl
@[simp] theorem State.updRing_lock (s : State) (n) (f) : (s.updRing n f).lock = s.lock := rfl
@[simp] theorem State.updRing_store (s : State) (n) (f) : (s.updRing n f).store = s.store := rfl
@[simp] theorem State.updRing_buf (s : State) (n) (f) : (s.updRing n f).buf = s.buf := rfl
@[simp] theorem State.updRing_movers (s : State) (n) (f) : (s.updRing n f).movers = s.movers := rfl
@[simp] theorem State.updRing_lastMoverError (s : State) (n) (f) : (s.updRing n f).lastMoverError = s.lastMoverError := rfl
@[simp] theorem State.updRing_layers (s : State) (n) (f) : (s.updRing n f).layers = s.layers := rfl
@[simp] theorem State.updRing_raw (s : State) (n) (f) : (s.updRing n f).raw = s.raw := rfl
@[simp] theorem State.updRing_can (s : State) (n) (f) : (s.updRing n f).can = s.can := rfl
@[simp] theorem State.updRing_heldAccess (s : State) (n) (f) : (s.updRing n f).heldAccess = s.heldAccess := rfl
@[simp] theorem State.updRing_faults (s : State) (n) (f) : (s.updRing n f).faults = s.faults := rfl
@[simp] theorem State.updRing_inputs (s : State) (n) (f) : (s.updRing n f).inputs = s.inputs := rfl
@[simp] theorem State.updRing_clusters (s : State) (n) (f) : (s.updRing n f).clusters = s.clusters := rfl
@[simp] theorem State.updRing_arbiter (s : State) (n) (f) : (s.updRing n f).arbiter = s.arbiter := rfl
@[simp] theorem State.updRing_injection (s : State) (n) (f) : (s.updRing n f).injection = s.injection := rfl
@[simp] theorem State.updRing_dev (s : State) (n) (f) : (s.updRing n f).dev = s.dev := rfl
@[simp] theorem State.updRing_boot (s : State) (n) (f) : (s.updRing n f).boot = s.boot := rfl
@[simp] theorem State.updRing_rails (s : State) (n) (f) : (s.updRing n f).rails = s.rails := rfl
@[simp] theorem State.updRing_domains (s : State) (n) (f) : (s.updRing n f).domains = s.domains := rfl
@[simp] theorem State.updRing_flash (s : State) (n) (f) : (s.updRing n f).flash = s.flash := rfl
@[simp] theorem State.updRing_fuses (s : State) (n) (f) : (s.updRing n f).fuses = s.fuses := rfl
@[simp] theorem State.updRing_window (s : State) (n) (f) : (s.updRing n f).window = s.window := rfl
@[simp] theorem State.updRing_sec (s : State) (n) (f) : (s.updRing n f).sec = s.sec := rfl
@[simp] theorem State.updRing_recorder (s : State) (n) (f) : (s.updRing n f).recorder = s.recorder := rfl
@[simp] theorem State.updRing_mirrorHeld (s : State) (n) (f) : (s.updRing n f).mirrorHeld = s.mirrorHeld := rfl
@[simp] theorem State.updRing_heldTokens (s : State) (n) (f) : (s.updRing n f).heldTokens = s.heldTokens := rfl
@[simp] theorem State.updRing_tileHeld (s : State) (n) (f) : (s.updRing n f).tileHeld = s.tileHeld := rfl
@[simp] theorem State.updRing_out (s : State) (n) (f) : (s.updRing n f).out = s.out := rfl

/-! ### updPort -/

@[simp] theorem State.updPort_pending (s : State) (q) (f) : (s.updPort q f).pending = s.pending := rfl
@[simp] theorem State.updPort_now (s : State) (q) (f) : (s.updPort q f).now = s.now := rfl
@[simp] theorem State.updPort_free (s : State) (q) (f) : (s.updPort q f).free = s.free := rfl
@[simp] theorem State.updPort_part (s : State) (q) (f) : (s.updPort q f).part = s.part := rfl
@[simp] theorem State.updPort_tiles (s : State) (q) (f) : (s.updPort q f).tiles = s.tiles := rfl
@[simp] theorem State.updPort_packs (s : State) (q) (f) : (s.updPort q f).packs = s.packs := rfl
@[simp] theorem State.updPort_spinQueue (s : State) (q) (f) : (s.updPort q f).spinQueue = s.spinQueue := rfl
@[simp] theorem State.updPort_buses (s : State) (q) (f) : (s.updPort q f).buses = s.buses := rfl
@[simp] theorem State.updPort_fmtStore (s : State) (q) (f) : (s.updPort q f).fmtStore = s.fmtStore := rfl
@[simp] theorem State.updPort_svc (s : State) (q) (f) : (s.updPort q f).svc = s.svc := rfl
@[simp] theorem State.updPort_bench (s : State) (q) (f) : (s.updPort q f).bench = s.bench := rfl
@[simp] theorem State.updPort_ref100Lost (s : State) (q) (f) : (s.updPort q f).ref100Lost = s.ref100Lost := rfl
@[simp] theorem State.updPort_ref156Lost (s : State) (q) (f) : (s.updPort q f).ref156Lost = s.ref156Lost := rfl
@[simp] theorem State.updPort_dict (s : State) (q) (f) : (s.updPort q f).dict = s.dict := rfl
@[simp] theorem State.updPort_lock (s : State) (q) (f) : (s.updPort q f).lock = s.lock := rfl
@[simp] theorem State.updPort_store (s : State) (q) (f) : (s.updPort q f).store = s.store := rfl
@[simp] theorem State.updPort_buf (s : State) (q) (f) : (s.updPort q f).buf = s.buf := rfl
@[simp] theorem State.updPort_movers (s : State) (q) (f) : (s.updPort q f).movers = s.movers := rfl
@[simp] theorem State.updPort_lastMoverError (s : State) (q) (f) : (s.updPort q f).lastMoverError = s.lastMoverError := rfl
@[simp] theorem State.updPort_layers (s : State) (q) (f) : (s.updPort q f).layers = s.layers := rfl
@[simp] theorem State.updPort_raw (s : State) (q) (f) : (s.updPort q f).raw = s.raw := rfl
@[simp] theorem State.updPort_can (s : State) (q) (f) : (s.updPort q f).can = s.can := rfl
@[simp] theorem State.updPort_heldAccess (s : State) (q) (f) : (s.updPort q f).heldAccess = s.heldAccess := rfl
@[simp] theorem State.updPort_faults (s : State) (q) (f) : (s.updPort q f).faults = s.faults := rfl
@[simp] theorem State.updPort_inputs (s : State) (q) (f) : (s.updPort q f).inputs = s.inputs := rfl
@[simp] theorem State.updPort_clusters (s : State) (q) (f) : (s.updPort q f).clusters = s.clusters := rfl
@[simp] theorem State.updPort_arbiter (s : State) (q) (f) : (s.updPort q f).arbiter = s.arbiter := rfl
@[simp] theorem State.updPort_injection (s : State) (q) (f) : (s.updPort q f).injection = s.injection := rfl
@[simp] theorem State.updPort_dev (s : State) (q) (f) : (s.updPort q f).dev = s.dev := rfl
@[simp] theorem State.updPort_boot (s : State) (q) (f) : (s.updPort q f).boot = s.boot := rfl
@[simp] theorem State.updPort_rails (s : State) (q) (f) : (s.updPort q f).rails = s.rails := rfl
@[simp] theorem State.updPort_domains (s : State) (q) (f) : (s.updPort q f).domains = s.domains := rfl
@[simp] theorem State.updPort_flash (s : State) (q) (f) : (s.updPort q f).flash = s.flash := rfl
@[simp] theorem State.updPort_fuses (s : State) (q) (f) : (s.updPort q f).fuses = s.fuses := rfl
@[simp] theorem State.updPort_window (s : State) (q) (f) : (s.updPort q f).window = s.window := rfl
@[simp] theorem State.updPort_sec (s : State) (q) (f) : (s.updPort q f).sec = s.sec := rfl
@[simp] theorem State.updPort_recorder (s : State) (q) (f) : (s.updPort q f).recorder = s.recorder := rfl
@[simp] theorem State.updPort_mirrorHeld (s : State) (q) (f) : (s.updPort q f).mirrorHeld = s.mirrorHeld := rfl
@[simp] theorem State.updPort_heldTokens (s : State) (q) (f) : (s.updPort q f).heldTokens = s.heldTokens := rfl
@[simp] theorem State.updPort_tileHeld (s : State) (q) (f) : (s.updPort q f).tileHeld = s.tileHeld := rfl
@[simp] theorem State.updPort_out (s : State) (q) (f) : (s.updPort q f).out = s.out := rfl

/-! ### updStore -/

@[simp] theorem State.updStore_pending (s : State) (f) : (s.updStore f).pending = s.pending := rfl
@[simp] theorem State.updStore_now (s : State) (f) : (s.updStore f).now = s.now := rfl
@[simp] theorem State.updStore_free (s : State) (f) : (s.updStore f).free = s.free := rfl
@[simp] theorem State.updStore_part (s : State) (f) : (s.updStore f).part = s.part := rfl
@[simp] theorem State.updStore_tiles (s : State) (f) : (s.updStore f).tiles = s.tiles := rfl
@[simp] theorem State.updStore_packs (s : State) (f) : (s.updStore f).packs = s.packs := rfl
@[simp] theorem State.updStore_spinQueue (s : State) (f) : (s.updStore f).spinQueue = s.spinQueue := rfl
@[simp] theorem State.updStore_buses (s : State) (f) : (s.updStore f).buses = s.buses := rfl
@[simp] theorem State.updStore_fmtStore (s : State) (f) : (s.updStore f).fmtStore = s.fmtStore := rfl
@[simp] theorem State.updStore_svc (s : State) (f) : (s.updStore f).svc = s.svc := rfl
@[simp] theorem State.updStore_bench (s : State) (f) : (s.updStore f).bench = s.bench := rfl
@[simp] theorem State.updStore_ref100Lost (s : State) (f) : (s.updStore f).ref100Lost = s.ref100Lost := rfl
@[simp] theorem State.updStore_ref156Lost (s : State) (f) : (s.updStore f).ref156Lost = s.ref156Lost := rfl
@[simp] theorem State.updStore_dict (s : State) (f) : (s.updStore f).dict = s.dict := rfl
@[simp] theorem State.updStore_lock (s : State) (f) : (s.updStore f).lock = s.lock := rfl
@[simp] theorem State.updStore_host (s : State) (f) : (s.updStore f).host = s.host := rfl
@[simp] theorem State.updStore_buf (s : State) (f) : (s.updStore f).buf = s.buf := rfl
@[simp] theorem State.updStore_movers (s : State) (f) : (s.updStore f).movers = s.movers := rfl
@[simp] theorem State.updStore_lastMoverError (s : State) (f) : (s.updStore f).lastMoverError = s.lastMoverError := rfl
@[simp] theorem State.updStore_layers (s : State) (f) : (s.updStore f).layers = s.layers := rfl
@[simp] theorem State.updStore_raw (s : State) (f) : (s.updStore f).raw = s.raw := rfl
@[simp] theorem State.updStore_can (s : State) (f) : (s.updStore f).can = s.can := rfl
@[simp] theorem State.updStore_heldAccess (s : State) (f) : (s.updStore f).heldAccess = s.heldAccess := rfl
@[simp] theorem State.updStore_faults (s : State) (f) : (s.updStore f).faults = s.faults := rfl
@[simp] theorem State.updStore_inputs (s : State) (f) : (s.updStore f).inputs = s.inputs := rfl
@[simp] theorem State.updStore_clusters (s : State) (f) : (s.updStore f).clusters = s.clusters := rfl
@[simp] theorem State.updStore_arbiter (s : State) (f) : (s.updStore f).arbiter = s.arbiter := rfl
@[simp] theorem State.updStore_injection (s : State) (f) : (s.updStore f).injection = s.injection := rfl
@[simp] theorem State.updStore_dev (s : State) (f) : (s.updStore f).dev = s.dev := rfl
@[simp] theorem State.updStore_boot (s : State) (f) : (s.updStore f).boot = s.boot := rfl
@[simp] theorem State.updStore_rails (s : State) (f) : (s.updStore f).rails = s.rails := rfl
@[simp] theorem State.updStore_domains (s : State) (f) : (s.updStore f).domains = s.domains := rfl
@[simp] theorem State.updStore_flash (s : State) (f) : (s.updStore f).flash = s.flash := rfl
@[simp] theorem State.updStore_fuses (s : State) (f) : (s.updStore f).fuses = s.fuses := rfl
@[simp] theorem State.updStore_window (s : State) (f) : (s.updStore f).window = s.window := rfl
@[simp] theorem State.updStore_sec (s : State) (f) : (s.updStore f).sec = s.sec := rfl
@[simp] theorem State.updStore_recorder (s : State) (f) : (s.updStore f).recorder = s.recorder := rfl
@[simp] theorem State.updStore_mirrorHeld (s : State) (f) : (s.updStore f).mirrorHeld = s.mirrorHeld := rfl
@[simp] theorem State.updStore_heldTokens (s : State) (f) : (s.updStore f).heldTokens = s.heldTokens := rfl
@[simp] theorem State.updStore_tileHeld (s : State) (f) : (s.updStore f).tileHeld = s.tileHeld := rfl
@[simp] theorem State.updStore_out (s : State) (f) : (s.updStore f).out = s.out := rfl

/-! ### updSpan -/

@[simp] theorem State.updSpan_pending (s : State) (x) (f) : (s.updSpan x f).pending = s.pending := rfl
@[simp] theorem State.updSpan_now (s : State) (x) (f) : (s.updSpan x f).now = s.now := rfl
@[simp] theorem State.updSpan_free (s : State) (x) (f) : (s.updSpan x f).free = s.free := rfl
@[simp] theorem State.updSpan_part (s : State) (x) (f) : (s.updSpan x f).part = s.part := rfl
@[simp] theorem State.updSpan_tiles (s : State) (x) (f) : (s.updSpan x f).tiles = s.tiles := rfl
@[simp] theorem State.updSpan_packs (s : State) (x) (f) : (s.updSpan x f).packs = s.packs := rfl
@[simp] theorem State.updSpan_spinQueue (s : State) (x) (f) : (s.updSpan x f).spinQueue = s.spinQueue := rfl
@[simp] theorem State.updSpan_buses (s : State) (x) (f) : (s.updSpan x f).buses = s.buses := rfl
@[simp] theorem State.updSpan_fmtStore (s : State) (x) (f) : (s.updSpan x f).fmtStore = s.fmtStore := rfl
@[simp] theorem State.updSpan_svc (s : State) (x) (f) : (s.updSpan x f).svc = s.svc := rfl
@[simp] theorem State.updSpan_bench (s : State) (x) (f) : (s.updSpan x f).bench = s.bench := rfl
@[simp] theorem State.updSpan_ref100Lost (s : State) (x) (f) : (s.updSpan x f).ref100Lost = s.ref100Lost := rfl
@[simp] theorem State.updSpan_ref156Lost (s : State) (x) (f) : (s.updSpan x f).ref156Lost = s.ref156Lost := rfl
@[simp] theorem State.updSpan_dict (s : State) (x) (f) : (s.updSpan x f).dict = s.dict := rfl
@[simp] theorem State.updSpan_lock (s : State) (x) (f) : (s.updSpan x f).lock = s.lock := rfl
@[simp] theorem State.updSpan_host (s : State) (x) (f) : (s.updSpan x f).host = s.host := rfl
@[simp] theorem State.updSpan_buf (s : State) (x) (f) : (s.updSpan x f).buf = s.buf := rfl
@[simp] theorem State.updSpan_movers (s : State) (x) (f) : (s.updSpan x f).movers = s.movers := rfl
@[simp] theorem State.updSpan_lastMoverError (s : State) (x) (f) : (s.updSpan x f).lastMoverError = s.lastMoverError := rfl
@[simp] theorem State.updSpan_layers (s : State) (x) (f) : (s.updSpan x f).layers = s.layers := rfl
@[simp] theorem State.updSpan_raw (s : State) (x) (f) : (s.updSpan x f).raw = s.raw := rfl
@[simp] theorem State.updSpan_can (s : State) (x) (f) : (s.updSpan x f).can = s.can := rfl
@[simp] theorem State.updSpan_heldAccess (s : State) (x) (f) : (s.updSpan x f).heldAccess = s.heldAccess := rfl
@[simp] theorem State.updSpan_faults (s : State) (x) (f) : (s.updSpan x f).faults = s.faults := rfl
@[simp] theorem State.updSpan_inputs (s : State) (x) (f) : (s.updSpan x f).inputs = s.inputs := rfl
@[simp] theorem State.updSpan_clusters (s : State) (x) (f) : (s.updSpan x f).clusters = s.clusters := rfl
@[simp] theorem State.updSpan_arbiter (s : State) (x) (f) : (s.updSpan x f).arbiter = s.arbiter := rfl
@[simp] theorem State.updSpan_injection (s : State) (x) (f) : (s.updSpan x f).injection = s.injection := rfl
@[simp] theorem State.updSpan_dev (s : State) (x) (f) : (s.updSpan x f).dev = s.dev := rfl
@[simp] theorem State.updSpan_boot (s : State) (x) (f) : (s.updSpan x f).boot = s.boot := rfl
@[simp] theorem State.updSpan_rails (s : State) (x) (f) : (s.updSpan x f).rails = s.rails := rfl
@[simp] theorem State.updSpan_domains (s : State) (x) (f) : (s.updSpan x f).domains = s.domains := rfl
@[simp] theorem State.updSpan_flash (s : State) (x) (f) : (s.updSpan x f).flash = s.flash := rfl
@[simp] theorem State.updSpan_fuses (s : State) (x) (f) : (s.updSpan x f).fuses = s.fuses := rfl
@[simp] theorem State.updSpan_window (s : State) (x) (f) : (s.updSpan x f).window = s.window := rfl
@[simp] theorem State.updSpan_sec (s : State) (x) (f) : (s.updSpan x f).sec = s.sec := rfl
@[simp] theorem State.updSpan_recorder (s : State) (x) (f) : (s.updSpan x f).recorder = s.recorder := rfl
@[simp] theorem State.updSpan_mirrorHeld (s : State) (x) (f) : (s.updSpan x f).mirrorHeld = s.mirrorHeld := rfl
@[simp] theorem State.updSpan_heldTokens (s : State) (x) (f) : (s.updSpan x f).heldTokens = s.heldTokens := rfl
@[simp] theorem State.updSpan_tileHeld (s : State) (x) (f) : (s.updSpan x f).tileHeld = s.tileHeld := rfl
@[simp] theorem State.updSpan_out (s : State) (x) (f) : (s.updSpan x f).out = s.out := rfl

/-! ### updBuf -/

@[simp] theorem State.updBuf_pending (s : State) (f) : (s.updBuf f).pending = s.pending := rfl
@[simp] theorem State.updBuf_now (s : State) (f) : (s.updBuf f).now = s.now := rfl
@[simp] theorem State.updBuf_free (s : State) (f) : (s.updBuf f).free = s.free := rfl
@[simp] theorem State.updBuf_part (s : State) (f) : (s.updBuf f).part = s.part := rfl
@[simp] theorem State.updBuf_tiles (s : State) (f) : (s.updBuf f).tiles = s.tiles := rfl
@[simp] theorem State.updBuf_packs (s : State) (f) : (s.updBuf f).packs = s.packs := rfl
@[simp] theorem State.updBuf_spinQueue (s : State) (f) : (s.updBuf f).spinQueue = s.spinQueue := rfl
@[simp] theorem State.updBuf_buses (s : State) (f) : (s.updBuf f).buses = s.buses := rfl
@[simp] theorem State.updBuf_fmtStore (s : State) (f) : (s.updBuf f).fmtStore = s.fmtStore := rfl
@[simp] theorem State.updBuf_svc (s : State) (f) : (s.updBuf f).svc = s.svc := rfl
@[simp] theorem State.updBuf_bench (s : State) (f) : (s.updBuf f).bench = s.bench := rfl
@[simp] theorem State.updBuf_ref100Lost (s : State) (f) : (s.updBuf f).ref100Lost = s.ref100Lost := rfl
@[simp] theorem State.updBuf_ref156Lost (s : State) (f) : (s.updBuf f).ref156Lost = s.ref156Lost := rfl
@[simp] theorem State.updBuf_dict (s : State) (f) : (s.updBuf f).dict = s.dict := rfl
@[simp] theorem State.updBuf_lock (s : State) (f) : (s.updBuf f).lock = s.lock := rfl
@[simp] theorem State.updBuf_host (s : State) (f) : (s.updBuf f).host = s.host := rfl
@[simp] theorem State.updBuf_store (s : State) (f) : (s.updBuf f).store = s.store := rfl
@[simp] theorem State.updBuf_movers (s : State) (f) : (s.updBuf f).movers = s.movers := rfl
@[simp] theorem State.updBuf_lastMoverError (s : State) (f) : (s.updBuf f).lastMoverError = s.lastMoverError := rfl
@[simp] theorem State.updBuf_layers (s : State) (f) : (s.updBuf f).layers = s.layers := rfl
@[simp] theorem State.updBuf_raw (s : State) (f) : (s.updBuf f).raw = s.raw := rfl
@[simp] theorem State.updBuf_can (s : State) (f) : (s.updBuf f).can = s.can := rfl
@[simp] theorem State.updBuf_heldAccess (s : State) (f) : (s.updBuf f).heldAccess = s.heldAccess := rfl
@[simp] theorem State.updBuf_faults (s : State) (f) : (s.updBuf f).faults = s.faults := rfl
@[simp] theorem State.updBuf_inputs (s : State) (f) : (s.updBuf f).inputs = s.inputs := rfl
@[simp] theorem State.updBuf_clusters (s : State) (f) : (s.updBuf f).clusters = s.clusters := rfl
@[simp] theorem State.updBuf_arbiter (s : State) (f) : (s.updBuf f).arbiter = s.arbiter := rfl
@[simp] theorem State.updBuf_injection (s : State) (f) : (s.updBuf f).injection = s.injection := rfl
@[simp] theorem State.updBuf_dev (s : State) (f) : (s.updBuf f).dev = s.dev := rfl
@[simp] theorem State.updBuf_boot (s : State) (f) : (s.updBuf f).boot = s.boot := rfl
@[simp] theorem State.updBuf_rails (s : State) (f) : (s.updBuf f).rails = s.rails := rfl
@[simp] theorem State.updBuf_domains (s : State) (f) : (s.updBuf f).domains = s.domains := rfl
@[simp] theorem State.updBuf_flash (s : State) (f) : (s.updBuf f).flash = s.flash := rfl
@[simp] theorem State.updBuf_fuses (s : State) (f) : (s.updBuf f).fuses = s.fuses := rfl
@[simp] theorem State.updBuf_window (s : State) (f) : (s.updBuf f).window = s.window := rfl
@[simp] theorem State.updBuf_sec (s : State) (f) : (s.updBuf f).sec = s.sec := rfl
@[simp] theorem State.updBuf_recorder (s : State) (f) : (s.updBuf f).recorder = s.recorder := rfl
@[simp] theorem State.updBuf_mirrorHeld (s : State) (f) : (s.updBuf f).mirrorHeld = s.mirrorHeld := rfl
@[simp] theorem State.updBuf_heldTokens (s : State) (f) : (s.updBuf f).heldTokens = s.heldTokens := rfl
@[simp] theorem State.updBuf_tileHeld (s : State) (f) : (s.updBuf f).tileHeld = s.tileHeld := rfl
@[simp] theorem State.updBuf_out (s : State) (f) : (s.updBuf f).out = s.out := rfl

/-! ### updLine -/

@[simp] theorem State.updLine_pending (s : State) (l) (f) : (s.updLine l f).pending = s.pending := rfl
@[simp] theorem State.updLine_now (s : State) (l) (f) : (s.updLine l f).now = s.now := rfl
@[simp] theorem State.updLine_free (s : State) (l) (f) : (s.updLine l f).free = s.free := rfl
@[simp] theorem State.updLine_part (s : State) (l) (f) : (s.updLine l f).part = s.part := rfl
@[simp] theorem State.updLine_tiles (s : State) (l) (f) : (s.updLine l f).tiles = s.tiles := rfl
@[simp] theorem State.updLine_packs (s : State) (l) (f) : (s.updLine l f).packs = s.packs := rfl
@[simp] theorem State.updLine_spinQueue (s : State) (l) (f) : (s.updLine l f).spinQueue = s.spinQueue := rfl
@[simp] theorem State.updLine_buses (s : State) (l) (f) : (s.updLine l f).buses = s.buses := rfl
@[simp] theorem State.updLine_fmtStore (s : State) (l) (f) : (s.updLine l f).fmtStore = s.fmtStore := rfl
@[simp] theorem State.updLine_svc (s : State) (l) (f) : (s.updLine l f).svc = s.svc := rfl
@[simp] theorem State.updLine_bench (s : State) (l) (f) : (s.updLine l f).bench = s.bench := rfl
@[simp] theorem State.updLine_ref100Lost (s : State) (l) (f) : (s.updLine l f).ref100Lost = s.ref100Lost := rfl
@[simp] theorem State.updLine_ref156Lost (s : State) (l) (f) : (s.updLine l f).ref156Lost = s.ref156Lost := rfl
@[simp] theorem State.updLine_dict (s : State) (l) (f) : (s.updLine l f).dict = s.dict := rfl
@[simp] theorem State.updLine_lock (s : State) (l) (f) : (s.updLine l f).lock = s.lock := rfl
@[simp] theorem State.updLine_host (s : State) (l) (f) : (s.updLine l f).host = s.host := rfl
@[simp] theorem State.updLine_store (s : State) (l) (f) : (s.updLine l f).store = s.store := rfl
@[simp] theorem State.updLine_movers (s : State) (l) (f) : (s.updLine l f).movers = s.movers := rfl
@[simp] theorem State.updLine_lastMoverError (s : State) (l) (f) : (s.updLine l f).lastMoverError = s.lastMoverError := rfl
@[simp] theorem State.updLine_layers (s : State) (l) (f) : (s.updLine l f).layers = s.layers := rfl
@[simp] theorem State.updLine_raw (s : State) (l) (f) : (s.updLine l f).raw = s.raw := rfl
@[simp] theorem State.updLine_can (s : State) (l) (f) : (s.updLine l f).can = s.can := rfl
@[simp] theorem State.updLine_heldAccess (s : State) (l) (f) : (s.updLine l f).heldAccess = s.heldAccess := rfl
@[simp] theorem State.updLine_faults (s : State) (l) (f) : (s.updLine l f).faults = s.faults := rfl
@[simp] theorem State.updLine_inputs (s : State) (l) (f) : (s.updLine l f).inputs = s.inputs := rfl
@[simp] theorem State.updLine_clusters (s : State) (l) (f) : (s.updLine l f).clusters = s.clusters := rfl
@[simp] theorem State.updLine_arbiter (s : State) (l) (f) : (s.updLine l f).arbiter = s.arbiter := rfl
@[simp] theorem State.updLine_injection (s : State) (l) (f) : (s.updLine l f).injection = s.injection := rfl
@[simp] theorem State.updLine_dev (s : State) (l) (f) : (s.updLine l f).dev = s.dev := rfl
@[simp] theorem State.updLine_boot (s : State) (l) (f) : (s.updLine l f).boot = s.boot := rfl
@[simp] theorem State.updLine_rails (s : State) (l) (f) : (s.updLine l f).rails = s.rails := rfl
@[simp] theorem State.updLine_domains (s : State) (l) (f) : (s.updLine l f).domains = s.domains := rfl
@[simp] theorem State.updLine_flash (s : State) (l) (f) : (s.updLine l f).flash = s.flash := rfl
@[simp] theorem State.updLine_fuses (s : State) (l) (f) : (s.updLine l f).fuses = s.fuses := rfl
@[simp] theorem State.updLine_window (s : State) (l) (f) : (s.updLine l f).window = s.window := rfl
@[simp] theorem State.updLine_sec (s : State) (l) (f) : (s.updLine l f).sec = s.sec := rfl
@[simp] theorem State.updLine_recorder (s : State) (l) (f) : (s.updLine l f).recorder = s.recorder := rfl
@[simp] theorem State.updLine_mirrorHeld (s : State) (l) (f) : (s.updLine l f).mirrorHeld = s.mirrorHeld := rfl
@[simp] theorem State.updLine_heldTokens (s : State) (l) (f) : (s.updLine l f).heldTokens = s.heldTokens := rfl
@[simp] theorem State.updLine_tileHeld (s : State) (l) (f) : (s.updLine l f).tileHeld = s.tileHeld := rfl
@[simp] theorem State.updLine_out (s : State) (l) (f) : (s.updLine l f).out = s.out := rfl

/-! ### updMem -/

@[simp] theorem State.updMem_pending (s : State) (n) (f) : (s.updMem n f).pending = s.pending := by unfold State.updMem; split <;> rfl
@[simp] theorem State.updMem_now (s : State) (n) (f) : (s.updMem n f).now = s.now := by unfold State.updMem; split <;> rfl
@[simp] theorem State.updMem_free (s : State) (n) (f) : (s.updMem n f).free = s.free := by unfold State.updMem; split <;> rfl
@[simp] theorem State.updMem_part (s : State) (n) (f) : (s.updMem n f).part = s.part := by unfold State.updMem; split <;> rfl
@[simp] theorem State.updMem_tiles (s : State) (n) (f) : (s.updMem n f).tiles = s.tiles := by unfold State.updMem; split <;> rfl
@[simp] theorem State.updMem_packs (s : State) (n) (f) : (s.updMem n f).packs = s.packs := by unfold State.updMem; split <;> rfl
@[simp] theorem State.updMem_spinQueue (s : State) (n) (f) : (s.updMem n f).spinQueue = s.spinQueue := by unfold State.updMem; split <;> rfl
@[simp] theorem State.updMem_buses (s : State) (n) (f) : (s.updMem n f).buses = s.buses := by unfold State.updMem; split <;> rfl
@[simp] theorem State.updMem_fmtStore (s : State) (n) (f) : (s.updMem n f).fmtStore = s.fmtStore := by unfold State.updMem; split <;> rfl
@[simp] theorem State.updMem_svc (s : State) (n) (f) : (s.updMem n f).svc = s.svc := by unfold State.updMem; split <;> rfl
@[simp] theorem State.updMem_bench (s : State) (n) (f) : (s.updMem n f).bench = s.bench := by unfold State.updMem; split <;> rfl
@[simp] theorem State.updMem_ref100Lost (s : State) (n) (f) : (s.updMem n f).ref100Lost = s.ref100Lost := by unfold State.updMem; split <;> rfl
@[simp] theorem State.updMem_ref156Lost (s : State) (n) (f) : (s.updMem n f).ref156Lost = s.ref156Lost := by unfold State.updMem; split <;> rfl
@[simp] theorem State.updMem_dict (s : State) (n) (f) : (s.updMem n f).dict = s.dict := by unfold State.updMem; split <;> rfl
@[simp] theorem State.updMem_lock (s : State) (n) (f) : (s.updMem n f).lock = s.lock := by unfold State.updMem; split <;> rfl
@[simp] theorem State.updMem_host (s : State) (n) (f) : (s.updMem n f).host = s.host := by unfold State.updMem; split <;> rfl
@[simp] theorem State.updMem_store (s : State) (n) (f) : (s.updMem n f).store = s.store := by unfold State.updMem; split <;> rfl
@[simp] theorem State.updMem_movers (s : State) (n) (f) : (s.updMem n f).movers = s.movers := by unfold State.updMem; split <;> rfl
@[simp] theorem State.updMem_lastMoverError (s : State) (n) (f) : (s.updMem n f).lastMoverError = s.lastMoverError := by unfold State.updMem; split <;> rfl
@[simp] theorem State.updMem_layers (s : State) (n) (f) : (s.updMem n f).layers = s.layers := by unfold State.updMem; split <;> rfl
@[simp] theorem State.updMem_raw (s : State) (n) (f) : (s.updMem n f).raw = s.raw := by unfold State.updMem; split <;> rfl
@[simp] theorem State.updMem_can (s : State) (n) (f) : (s.updMem n f).can = s.can := by unfold State.updMem; split <;> rfl
@[simp] theorem State.updMem_heldAccess (s : State) (n) (f) : (s.updMem n f).heldAccess = s.heldAccess := by unfold State.updMem; split <;> rfl
@[simp] theorem State.updMem_faults (s : State) (n) (f) : (s.updMem n f).faults = s.faults := by unfold State.updMem; split <;> rfl
@[simp] theorem State.updMem_inputs (s : State) (n) (f) : (s.updMem n f).inputs = s.inputs := by unfold State.updMem; split <;> rfl
@[simp] theorem State.updMem_clusters (s : State) (n) (f) : (s.updMem n f).clusters = s.clusters := by unfold State.updMem; split <;> rfl
@[simp] theorem State.updMem_arbiter (s : State) (n) (f) : (s.updMem n f).arbiter = s.arbiter := by unfold State.updMem; split <;> rfl
@[simp] theorem State.updMem_injection (s : State) (n) (f) : (s.updMem n f).injection = s.injection := by unfold State.updMem; split <;> rfl
@[simp] theorem State.updMem_dev (s : State) (n) (f) : (s.updMem n f).dev = s.dev := by unfold State.updMem; split <;> rfl
@[simp] theorem State.updMem_boot (s : State) (n) (f) : (s.updMem n f).boot = s.boot := by unfold State.updMem; split <;> rfl
@[simp] theorem State.updMem_rails (s : State) (n) (f) : (s.updMem n f).rails = s.rails := by unfold State.updMem; split <;> rfl
@[simp] theorem State.updMem_domains (s : State) (n) (f) : (s.updMem n f).domains = s.domains := by unfold State.updMem; split <;> rfl
@[simp] theorem State.updMem_flash (s : State) (n) (f) : (s.updMem n f).flash = s.flash := by unfold State.updMem; split <;> rfl
@[simp] theorem State.updMem_fuses (s : State) (n) (f) : (s.updMem n f).fuses = s.fuses := by unfold State.updMem; split <;> rfl
@[simp] theorem State.updMem_window (s : State) (n) (f) : (s.updMem n f).window = s.window := by unfold State.updMem; split <;> rfl
@[simp] theorem State.updMem_sec (s : State) (n) (f) : (s.updMem n f).sec = s.sec := by unfold State.updMem; split <;> rfl
@[simp] theorem State.updMem_recorder (s : State) (n) (f) : (s.updMem n f).recorder = s.recorder := by unfold State.updMem; split <;> rfl
@[simp] theorem State.updMem_mirrorHeld (s : State) (n) (f) : (s.updMem n f).mirrorHeld = s.mirrorHeld := by unfold State.updMem; split <;> rfl
@[simp] theorem State.updMem_heldTokens (s : State) (n) (f) : (s.updMem n f).heldTokens = s.heldTokens := by unfold State.updMem; split <;> rfl
@[simp] theorem State.updMem_tileHeld (s : State) (n) (f) : (s.updMem n f).tileHeld = s.tileHeld := by unfold State.updMem; split <;> rfl
@[simp] theorem State.updMem_out (s : State) (n) (f) : (s.updMem n f).out = s.out := by unfold State.updMem; split <;> rfl

/-! ### updMover -/

@[simp] theorem State.updMover_pending (s : State) (c) (f) : (s.updMover c f).pending = s.pending := rfl
@[simp] theorem State.updMover_now (s : State) (c) (f) : (s.updMover c f).now = s.now := rfl
@[simp] theorem State.updMover_free (s : State) (c) (f) : (s.updMover c f).free = s.free := rfl
@[simp] theorem State.updMover_part (s : State) (c) (f) : (s.updMover c f).part = s.part := rfl
@[simp] theorem State.updMover_tiles (s : State) (c) (f) : (s.updMover c f).tiles = s.tiles := rfl
@[simp] theorem State.updMover_packs (s : State) (c) (f) : (s.updMover c f).packs = s.packs := rfl
@[simp] theorem State.updMover_spinQueue (s : State) (c) (f) : (s.updMover c f).spinQueue = s.spinQueue := rfl
@[simp] theorem State.updMover_buses (s : State) (c) (f) : (s.updMover c f).buses = s.buses := rfl
@[simp] theorem State.updMover_fmtStore (s : State) (c) (f) : (s.updMover c f).fmtStore = s.fmtStore := rfl
@[simp] theorem State.updMover_svc (s : State) (c) (f) : (s.updMover c f).svc = s.svc := rfl
@[simp] theorem State.updMover_bench (s : State) (c) (f) : (s.updMover c f).bench = s.bench := rfl
@[simp] theorem State.updMover_ref100Lost (s : State) (c) (f) : (s.updMover c f).ref100Lost = s.ref100Lost := rfl
@[simp] theorem State.updMover_ref156Lost (s : State) (c) (f) : (s.updMover c f).ref156Lost = s.ref156Lost := rfl
@[simp] theorem State.updMover_dict (s : State) (c) (f) : (s.updMover c f).dict = s.dict := rfl
@[simp] theorem State.updMover_lock (s : State) (c) (f) : (s.updMover c f).lock = s.lock := rfl
@[simp] theorem State.updMover_host (s : State) (c) (f) : (s.updMover c f).host = s.host := rfl
@[simp] theorem State.updMover_store (s : State) (c) (f) : (s.updMover c f).store = s.store := rfl
@[simp] theorem State.updMover_buf (s : State) (c) (f) : (s.updMover c f).buf = s.buf := rfl
@[simp] theorem State.updMover_lastMoverError (s : State) (c) (f) : (s.updMover c f).lastMoverError = s.lastMoverError := rfl
@[simp] theorem State.updMover_layers (s : State) (c) (f) : (s.updMover c f).layers = s.layers := rfl
@[simp] theorem State.updMover_raw (s : State) (c) (f) : (s.updMover c f).raw = s.raw := rfl
@[simp] theorem State.updMover_can (s : State) (c) (f) : (s.updMover c f).can = s.can := rfl
@[simp] theorem State.updMover_heldAccess (s : State) (c) (f) : (s.updMover c f).heldAccess = s.heldAccess := rfl
@[simp] theorem State.updMover_faults (s : State) (c) (f) : (s.updMover c f).faults = s.faults := rfl
@[simp] theorem State.updMover_inputs (s : State) (c) (f) : (s.updMover c f).inputs = s.inputs := rfl
@[simp] theorem State.updMover_clusters (s : State) (c) (f) : (s.updMover c f).clusters = s.clusters := rfl
@[simp] theorem State.updMover_arbiter (s : State) (c) (f) : (s.updMover c f).arbiter = s.arbiter := rfl
@[simp] theorem State.updMover_injection (s : State) (c) (f) : (s.updMover c f).injection = s.injection := rfl
@[simp] theorem State.updMover_dev (s : State) (c) (f) : (s.updMover c f).dev = s.dev := rfl
@[simp] theorem State.updMover_boot (s : State) (c) (f) : (s.updMover c f).boot = s.boot := rfl
@[simp] theorem State.updMover_rails (s : State) (c) (f) : (s.updMover c f).rails = s.rails := rfl
@[simp] theorem State.updMover_domains (s : State) (c) (f) : (s.updMover c f).domains = s.domains := rfl
@[simp] theorem State.updMover_flash (s : State) (c) (f) : (s.updMover c f).flash = s.flash := rfl
@[simp] theorem State.updMover_fuses (s : State) (c) (f) : (s.updMover c f).fuses = s.fuses := rfl
@[simp] theorem State.updMover_window (s : State) (c) (f) : (s.updMover c f).window = s.window := rfl
@[simp] theorem State.updMover_sec (s : State) (c) (f) : (s.updMover c f).sec = s.sec := rfl
@[simp] theorem State.updMover_recorder (s : State) (c) (f) : (s.updMover c f).recorder = s.recorder := rfl
@[simp] theorem State.updMover_mirrorHeld (s : State) (c) (f) : (s.updMover c f).mirrorHeld = s.mirrorHeld := rfl
@[simp] theorem State.updMover_heldTokens (s : State) (c) (f) : (s.updMover c f).heldTokens = s.heldTokens := rfl
@[simp] theorem State.updMover_tileHeld (s : State) (c) (f) : (s.updMover c f).tileHeld = s.tileHeld := rfl
@[simp] theorem State.updMover_out (s : State) (c) (f) : (s.updMover c f).out = s.out := rfl

/-! ### updDomain -/

@[simp] theorem State.updDomain_pending (s : State) (d) (f) : (s.updDomain d f).pending = s.pending := rfl
@[simp] theorem State.updDomain_now (s : State) (d) (f) : (s.updDomain d f).now = s.now := rfl
@[simp] theorem State.updDomain_free (s : State) (d) (f) : (s.updDomain d f).free = s.free := rfl
@[simp] theorem State.updDomain_part (s : State) (d) (f) : (s.updDomain d f).part = s.part := rfl
@[simp] theorem State.updDomain_tiles (s : State) (d) (f) : (s.updDomain d f).tiles = s.tiles := rfl
@[simp] theorem State.updDomain_packs (s : State) (d) (f) : (s.updDomain d f).packs = s.packs := rfl
@[simp] theorem State.updDomain_spinQueue (s : State) (d) (f) : (s.updDomain d f).spinQueue = s.spinQueue := rfl
@[simp] theorem State.updDomain_buses (s : State) (d) (f) : (s.updDomain d f).buses = s.buses := rfl
@[simp] theorem State.updDomain_fmtStore (s : State) (d) (f) : (s.updDomain d f).fmtStore = s.fmtStore := rfl
@[simp] theorem State.updDomain_svc (s : State) (d) (f) : (s.updDomain d f).svc = s.svc := rfl
@[simp] theorem State.updDomain_bench (s : State) (d) (f) : (s.updDomain d f).bench = s.bench := rfl
@[simp] theorem State.updDomain_ref100Lost (s : State) (d) (f) : (s.updDomain d f).ref100Lost = s.ref100Lost := rfl
@[simp] theorem State.updDomain_ref156Lost (s : State) (d) (f) : (s.updDomain d f).ref156Lost = s.ref156Lost := rfl
@[simp] theorem State.updDomain_dict (s : State) (d) (f) : (s.updDomain d f).dict = s.dict := rfl
@[simp] theorem State.updDomain_lock (s : State) (d) (f) : (s.updDomain d f).lock = s.lock := rfl
@[simp] theorem State.updDomain_host (s : State) (d) (f) : (s.updDomain d f).host = s.host := rfl
@[simp] theorem State.updDomain_store (s : State) (d) (f) : (s.updDomain d f).store = s.store := rfl
@[simp] theorem State.updDomain_buf (s : State) (d) (f) : (s.updDomain d f).buf = s.buf := rfl
@[simp] theorem State.updDomain_movers (s : State) (d) (f) : (s.updDomain d f).movers = s.movers := rfl
@[simp] theorem State.updDomain_lastMoverError (s : State) (d) (f) : (s.updDomain d f).lastMoverError = s.lastMoverError := rfl
@[simp] theorem State.updDomain_layers (s : State) (d) (f) : (s.updDomain d f).layers = s.layers := rfl
@[simp] theorem State.updDomain_raw (s : State) (d) (f) : (s.updDomain d f).raw = s.raw := rfl
@[simp] theorem State.updDomain_can (s : State) (d) (f) : (s.updDomain d f).can = s.can := rfl
@[simp] theorem State.updDomain_heldAccess (s : State) (d) (f) : (s.updDomain d f).heldAccess = s.heldAccess := rfl
@[simp] theorem State.updDomain_faults (s : State) (d) (f) : (s.updDomain d f).faults = s.faults := rfl
@[simp] theorem State.updDomain_inputs (s : State) (d) (f) : (s.updDomain d f).inputs = s.inputs := rfl
@[simp] theorem State.updDomain_clusters (s : State) (d) (f) : (s.updDomain d f).clusters = s.clusters := rfl
@[simp] theorem State.updDomain_arbiter (s : State) (d) (f) : (s.updDomain d f).arbiter = s.arbiter := rfl
@[simp] theorem State.updDomain_injection (s : State) (d) (f) : (s.updDomain d f).injection = s.injection := rfl
@[simp] theorem State.updDomain_dev (s : State) (d) (f) : (s.updDomain d f).dev = s.dev := rfl
@[simp] theorem State.updDomain_boot (s : State) (d) (f) : (s.updDomain d f).boot = s.boot := rfl
@[simp] theorem State.updDomain_rails (s : State) (d) (f) : (s.updDomain d f).rails = s.rails := rfl
@[simp] theorem State.updDomain_flash (s : State) (d) (f) : (s.updDomain d f).flash = s.flash := rfl
@[simp] theorem State.updDomain_fuses (s : State) (d) (f) : (s.updDomain d f).fuses = s.fuses := rfl
@[simp] theorem State.updDomain_window (s : State) (d) (f) : (s.updDomain d f).window = s.window := rfl
@[simp] theorem State.updDomain_sec (s : State) (d) (f) : (s.updDomain d f).sec = s.sec := rfl
@[simp] theorem State.updDomain_recorder (s : State) (d) (f) : (s.updDomain d f).recorder = s.recorder := rfl
@[simp] theorem State.updDomain_mirrorHeld (s : State) (d) (f) : (s.updDomain d f).mirrorHeld = s.mirrorHeld := rfl
@[simp] theorem State.updDomain_heldTokens (s : State) (d) (f) : (s.updDomain d f).heldTokens = s.heldTokens := rfl
@[simp] theorem State.updDomain_tileHeld (s : State) (d) (f) : (s.updDomain d f).tileHeld = s.tileHeld := rfl
@[simp] theorem State.updDomain_out (s : State) (d) (f) : (s.updDomain d f).out = s.out := rfl

/-! ### updRail -/

@[simp] theorem State.updRail_pending (s : State) (r) (f) : (s.updRail r f).pending = s.pending := rfl
@[simp] theorem State.updRail_now (s : State) (r) (f) : (s.updRail r f).now = s.now := rfl
@[simp] theorem State.updRail_free (s : State) (r) (f) : (s.updRail r f).free = s.free := rfl
@[simp] theorem State.updRail_part (s : State) (r) (f) : (s.updRail r f).part = s.part := rfl
@[simp] theorem State.updRail_tiles (s : State) (r) (f) : (s.updRail r f).tiles = s.tiles := rfl
@[simp] theorem State.updRail_packs (s : State) (r) (f) : (s.updRail r f).packs = s.packs := rfl
@[simp] theorem State.updRail_spinQueue (s : State) (r) (f) : (s.updRail r f).spinQueue = s.spinQueue := rfl
@[simp] theorem State.updRail_buses (s : State) (r) (f) : (s.updRail r f).buses = s.buses := rfl
@[simp] theorem State.updRail_fmtStore (s : State) (r) (f) : (s.updRail r f).fmtStore = s.fmtStore := rfl
@[simp] theorem State.updRail_svc (s : State) (r) (f) : (s.updRail r f).svc = s.svc := rfl
@[simp] theorem State.updRail_bench (s : State) (r) (f) : (s.updRail r f).bench = s.bench := rfl
@[simp] theorem State.updRail_ref100Lost (s : State) (r) (f) : (s.updRail r f).ref100Lost = s.ref100Lost := rfl
@[simp] theorem State.updRail_ref156Lost (s : State) (r) (f) : (s.updRail r f).ref156Lost = s.ref156Lost := rfl
@[simp] theorem State.updRail_dict (s : State) (r) (f) : (s.updRail r f).dict = s.dict := rfl
@[simp] theorem State.updRail_lock (s : State) (r) (f) : (s.updRail r f).lock = s.lock := rfl
@[simp] theorem State.updRail_host (s : State) (r) (f) : (s.updRail r f).host = s.host := rfl
@[simp] theorem State.updRail_store (s : State) (r) (f) : (s.updRail r f).store = s.store := rfl
@[simp] theorem State.updRail_buf (s : State) (r) (f) : (s.updRail r f).buf = s.buf := rfl
@[simp] theorem State.updRail_movers (s : State) (r) (f) : (s.updRail r f).movers = s.movers := rfl
@[simp] theorem State.updRail_lastMoverError (s : State) (r) (f) : (s.updRail r f).lastMoverError = s.lastMoverError := rfl
@[simp] theorem State.updRail_layers (s : State) (r) (f) : (s.updRail r f).layers = s.layers := rfl
@[simp] theorem State.updRail_raw (s : State) (r) (f) : (s.updRail r f).raw = s.raw := rfl
@[simp] theorem State.updRail_can (s : State) (r) (f) : (s.updRail r f).can = s.can := rfl
@[simp] theorem State.updRail_heldAccess (s : State) (r) (f) : (s.updRail r f).heldAccess = s.heldAccess := rfl
@[simp] theorem State.updRail_faults (s : State) (r) (f) : (s.updRail r f).faults = s.faults := rfl
@[simp] theorem State.updRail_inputs (s : State) (r) (f) : (s.updRail r f).inputs = s.inputs := rfl
@[simp] theorem State.updRail_clusters (s : State) (r) (f) : (s.updRail r f).clusters = s.clusters := rfl
@[simp] theorem State.updRail_arbiter (s : State) (r) (f) : (s.updRail r f).arbiter = s.arbiter := rfl
@[simp] theorem State.updRail_injection (s : State) (r) (f) : (s.updRail r f).injection = s.injection := rfl
@[simp] theorem State.updRail_dev (s : State) (r) (f) : (s.updRail r f).dev = s.dev := rfl
@[simp] theorem State.updRail_boot (s : State) (r) (f) : (s.updRail r f).boot = s.boot := rfl
@[simp] theorem State.updRail_domains (s : State) (r) (f) : (s.updRail r f).domains = s.domains := rfl
@[simp] theorem State.updRail_flash (s : State) (r) (f) : (s.updRail r f).flash = s.flash := rfl
@[simp] theorem State.updRail_fuses (s : State) (r) (f) : (s.updRail r f).fuses = s.fuses := rfl
@[simp] theorem State.updRail_window (s : State) (r) (f) : (s.updRail r f).window = s.window := rfl
@[simp] theorem State.updRail_sec (s : State) (r) (f) : (s.updRail r f).sec = s.sec := rfl
@[simp] theorem State.updRail_recorder (s : State) (r) (f) : (s.updRail r f).recorder = s.recorder := rfl
@[simp] theorem State.updRail_mirrorHeld (s : State) (r) (f) : (s.updRail r f).mirrorHeld = s.mirrorHeld := rfl
@[simp] theorem State.updRail_heldTokens (s : State) (r) (f) : (s.updRail r f).heldTokens = s.heldTokens := rfl
@[simp] theorem State.updRail_tileHeld (s : State) (r) (f) : (s.updRail r f).tileHeld = s.tileHeld := rfl
@[simp] theorem State.updRail_out (s : State) (r) (f) : (s.updRail r f).out = s.out := rfl

/-! ### updRecorder -/

@[simp] theorem State.updRecorder_pending (s : State) (f) : (s.updRecorder f).pending = s.pending := rfl
@[simp] theorem State.updRecorder_now (s : State) (f) : (s.updRecorder f).now = s.now := rfl
@[simp] theorem State.updRecorder_free (s : State) (f) : (s.updRecorder f).free = s.free := rfl
@[simp] theorem State.updRecorder_part (s : State) (f) : (s.updRecorder f).part = s.part := rfl
@[simp] theorem State.updRecorder_tiles (s : State) (f) : (s.updRecorder f).tiles = s.tiles := rfl
@[simp] theorem State.updRecorder_packs (s : State) (f) : (s.updRecorder f).packs = s.packs := rfl
@[simp] theorem State.updRecorder_spinQueue (s : State) (f) : (s.updRecorder f).spinQueue = s.spinQueue := rfl
@[simp] theorem State.updRecorder_buses (s : State) (f) : (s.updRecorder f).buses = s.buses := rfl
@[simp] theorem State.updRecorder_fmtStore (s : State) (f) : (s.updRecorder f).fmtStore = s.fmtStore := rfl
@[simp] theorem State.updRecorder_svc (s : State) (f) : (s.updRecorder f).svc = s.svc := rfl
@[simp] theorem State.updRecorder_bench (s : State) (f) : (s.updRecorder f).bench = s.bench := rfl
@[simp] theorem State.updRecorder_ref100Lost (s : State) (f) : (s.updRecorder f).ref100Lost = s.ref100Lost := rfl
@[simp] theorem State.updRecorder_ref156Lost (s : State) (f) : (s.updRecorder f).ref156Lost = s.ref156Lost := rfl
@[simp] theorem State.updRecorder_dict (s : State) (f) : (s.updRecorder f).dict = s.dict := rfl
@[simp] theorem State.updRecorder_lock (s : State) (f) : (s.updRecorder f).lock = s.lock := rfl
@[simp] theorem State.updRecorder_host (s : State) (f) : (s.updRecorder f).host = s.host := rfl
@[simp] theorem State.updRecorder_store (s : State) (f) : (s.updRecorder f).store = s.store := rfl
@[simp] theorem State.updRecorder_buf (s : State) (f) : (s.updRecorder f).buf = s.buf := rfl
@[simp] theorem State.updRecorder_movers (s : State) (f) : (s.updRecorder f).movers = s.movers := rfl
@[simp] theorem State.updRecorder_lastMoverError (s : State) (f) : (s.updRecorder f).lastMoverError = s.lastMoverError := rfl
@[simp] theorem State.updRecorder_layers (s : State) (f) : (s.updRecorder f).layers = s.layers := rfl
@[simp] theorem State.updRecorder_raw (s : State) (f) : (s.updRecorder f).raw = s.raw := rfl
@[simp] theorem State.updRecorder_can (s : State) (f) : (s.updRecorder f).can = s.can := rfl
@[simp] theorem State.updRecorder_heldAccess (s : State) (f) : (s.updRecorder f).heldAccess = s.heldAccess := rfl
@[simp] theorem State.updRecorder_faults (s : State) (f) : (s.updRecorder f).faults = s.faults := rfl
@[simp] theorem State.updRecorder_inputs (s : State) (f) : (s.updRecorder f).inputs = s.inputs := rfl
@[simp] theorem State.updRecorder_clusters (s : State) (f) : (s.updRecorder f).clusters = s.clusters := rfl
@[simp] theorem State.updRecorder_arbiter (s : State) (f) : (s.updRecorder f).arbiter = s.arbiter := rfl
@[simp] theorem State.updRecorder_injection (s : State) (f) : (s.updRecorder f).injection = s.injection := rfl
@[simp] theorem State.updRecorder_dev (s : State) (f) : (s.updRecorder f).dev = s.dev := rfl
@[simp] theorem State.updRecorder_boot (s : State) (f) : (s.updRecorder f).boot = s.boot := rfl
@[simp] theorem State.updRecorder_rails (s : State) (f) : (s.updRecorder f).rails = s.rails := rfl
@[simp] theorem State.updRecorder_domains (s : State) (f) : (s.updRecorder f).domains = s.domains := rfl
@[simp] theorem State.updRecorder_flash (s : State) (f) : (s.updRecorder f).flash = s.flash := rfl
@[simp] theorem State.updRecorder_fuses (s : State) (f) : (s.updRecorder f).fuses = s.fuses := rfl
@[simp] theorem State.updRecorder_window (s : State) (f) : (s.updRecorder f).window = s.window := rfl
@[simp] theorem State.updRecorder_sec (s : State) (f) : (s.updRecorder f).sec = s.sec := rfl
@[simp] theorem State.updRecorder_mirrorHeld (s : State) (f) : (s.updRecorder f).mirrorHeld = s.mirrorHeld := rfl
@[simp] theorem State.updRecorder_heldTokens (s : State) (f) : (s.updRecorder f).heldTokens = s.heldTokens := rfl
@[simp] theorem State.updRecorder_tileHeld (s : State) (f) : (s.updRecorder f).tileHeld = s.tileHeld := rfl
@[simp] theorem State.updRecorder_out (s : State) (f) : (s.updRecorder f).out = s.out := rfl

/-! ### updSource -/

@[simp] theorem State.updSource_pending (s : State) (k) (f) : (s.updSource k f).pending = s.pending := by unfold State.updSource; split <;> rfl
@[simp] theorem State.updSource_now (s : State) (k) (f) : (s.updSource k f).now = s.now := by unfold State.updSource; split <;> rfl
@[simp] theorem State.updSource_free (s : State) (k) (f) : (s.updSource k f).free = s.free := by unfold State.updSource; split <;> rfl
@[simp] theorem State.updSource_part (s : State) (k) (f) : (s.updSource k f).part = s.part := by unfold State.updSource; split <;> rfl
@[simp] theorem State.updSource_tiles (s : State) (k) (f) : (s.updSource k f).tiles = s.tiles := by unfold State.updSource; split <;> rfl
@[simp] theorem State.updSource_packs (s : State) (k) (f) : (s.updSource k f).packs = s.packs := by unfold State.updSource; split <;> rfl
@[simp] theorem State.updSource_spinQueue (s : State) (k) (f) : (s.updSource k f).spinQueue = s.spinQueue := by unfold State.updSource; split <;> rfl
@[simp] theorem State.updSource_buses (s : State) (k) (f) : (s.updSource k f).buses = s.buses := by unfold State.updSource; split <;> rfl
@[simp] theorem State.updSource_fmtStore (s : State) (k) (f) : (s.updSource k f).fmtStore = s.fmtStore := by unfold State.updSource; split <;> rfl
@[simp] theorem State.updSource_svc (s : State) (k) (f) : (s.updSource k f).svc = s.svc := by unfold State.updSource; split <;> rfl
@[simp] theorem State.updSource_bench (s : State) (k) (f) : (s.updSource k f).bench = s.bench := by unfold State.updSource; split <;> rfl
@[simp] theorem State.updSource_ref100Lost (s : State) (k) (f) : (s.updSource k f).ref100Lost = s.ref100Lost := by unfold State.updSource; split <;> rfl
@[simp] theorem State.updSource_ref156Lost (s : State) (k) (f) : (s.updSource k f).ref156Lost = s.ref156Lost := by unfold State.updSource; split <;> rfl
@[simp] theorem State.updSource_dict (s : State) (k) (f) : (s.updSource k f).dict = s.dict := by unfold State.updSource; split <;> rfl
@[simp] theorem State.updSource_lock (s : State) (k) (f) : (s.updSource k f).lock = s.lock := by unfold State.updSource; split <;> rfl
@[simp] theorem State.updSource_host (s : State) (k) (f) : (s.updSource k f).host = s.host := by unfold State.updSource; split <;> rfl
@[simp] theorem State.updSource_store (s : State) (k) (f) : (s.updSource k f).store = s.store := by unfold State.updSource; split <;> rfl
@[simp] theorem State.updSource_buf (s : State) (k) (f) : (s.updSource k f).buf = s.buf := by unfold State.updSource; split <;> rfl
@[simp] theorem State.updSource_movers (s : State) (k) (f) : (s.updSource k f).movers = s.movers := by unfold State.updSource; split <;> rfl
@[simp] theorem State.updSource_lastMoverError (s : State) (k) (f) : (s.updSource k f).lastMoverError = s.lastMoverError := by unfold State.updSource; split <;> rfl
@[simp] theorem State.updSource_layers (s : State) (k) (f) : (s.updSource k f).layers = s.layers := by unfold State.updSource; split <;> rfl
@[simp] theorem State.updSource_raw (s : State) (k) (f) : (s.updSource k f).raw = s.raw := by unfold State.updSource; split <;> rfl
@[simp] theorem State.updSource_can (s : State) (k) (f) : (s.updSource k f).can = s.can := by unfold State.updSource; split <;> rfl
@[simp] theorem State.updSource_heldAccess (s : State) (k) (f) : (s.updSource k f).heldAccess = s.heldAccess := by unfold State.updSource; split <;> rfl
@[simp] theorem State.updSource_inputs (s : State) (k) (f) : (s.updSource k f).inputs = s.inputs := by unfold State.updSource; split <;> rfl
@[simp] theorem State.updSource_clusters (s : State) (k) (f) : (s.updSource k f).clusters = s.clusters := by unfold State.updSource; split <;> rfl
@[simp] theorem State.updSource_arbiter (s : State) (k) (f) : (s.updSource k f).arbiter = s.arbiter := by unfold State.updSource; split <;> rfl
@[simp] theorem State.updSource_injection (s : State) (k) (f) : (s.updSource k f).injection = s.injection := by unfold State.updSource; split <;> rfl
@[simp] theorem State.updSource_dev (s : State) (k) (f) : (s.updSource k f).dev = s.dev := by unfold State.updSource; split <;> rfl
@[simp] theorem State.updSource_boot (s : State) (k) (f) : (s.updSource k f).boot = s.boot := by unfold State.updSource; split <;> rfl
@[simp] theorem State.updSource_rails (s : State) (k) (f) : (s.updSource k f).rails = s.rails := by unfold State.updSource; split <;> rfl
@[simp] theorem State.updSource_domains (s : State) (k) (f) : (s.updSource k f).domains = s.domains := by unfold State.updSource; split <;> rfl
@[simp] theorem State.updSource_flash (s : State) (k) (f) : (s.updSource k f).flash = s.flash := by unfold State.updSource; split <;> rfl
@[simp] theorem State.updSource_fuses (s : State) (k) (f) : (s.updSource k f).fuses = s.fuses := by unfold State.updSource; split <;> rfl
@[simp] theorem State.updSource_window (s : State) (k) (f) : (s.updSource k f).window = s.window := by unfold State.updSource; split <;> rfl
@[simp] theorem State.updSource_sec (s : State) (k) (f) : (s.updSource k f).sec = s.sec := by unfold State.updSource; split <;> rfl
@[simp] theorem State.updSource_recorder (s : State) (k) (f) : (s.updSource k f).recorder = s.recorder := by unfold State.updSource; split <;> rfl
@[simp] theorem State.updSource_mirrorHeld (s : State) (k) (f) : (s.updSource k f).mirrorHeld = s.mirrorHeld := by unfold State.updSource; split <;> rfl
@[simp] theorem State.updSource_heldTokens (s : State) (k) (f) : (s.updSource k f).heldTokens = s.heldTokens := by unfold State.updSource; split <;> rfl
@[simp] theorem State.updSource_tileHeld (s : State) (k) (f) : (s.updSource k f).tileHeld = s.tileHeld := by unfold State.updSource; split <;> rfl
@[simp] theorem State.updSource_out (s : State) (k) (f) : (s.updSource k f).out = s.out := by unfold State.updSource; split <;> rfl

/-! ### updCluster -/

@[simp] theorem State.updCluster_pending (s : State) (c) (f) : (s.updCluster c f).pending = s.pending := rfl
@[simp] theorem State.updCluster_now (s : State) (c) (f) : (s.updCluster c f).now = s.now := rfl
@[simp] theorem State.updCluster_free (s : State) (c) (f) : (s.updCluster c f).free = s.free := rfl
@[simp] theorem State.updCluster_part (s : State) (c) (f) : (s.updCluster c f).part = s.part := rfl
@[simp] theorem State.updCluster_tiles (s : State) (c) (f) : (s.updCluster c f).tiles = s.tiles := rfl
@[simp] theorem State.updCluster_packs (s : State) (c) (f) : (s.updCluster c f).packs = s.packs := rfl
@[simp] theorem State.updCluster_spinQueue (s : State) (c) (f) : (s.updCluster c f).spinQueue = s.spinQueue := rfl
@[simp] theorem State.updCluster_buses (s : State) (c) (f) : (s.updCluster c f).buses = s.buses := rfl
@[simp] theorem State.updCluster_fmtStore (s : State) (c) (f) : (s.updCluster c f).fmtStore = s.fmtStore := rfl
@[simp] theorem State.updCluster_svc (s : State) (c) (f) : (s.updCluster c f).svc = s.svc := rfl
@[simp] theorem State.updCluster_bench (s : State) (c) (f) : (s.updCluster c f).bench = s.bench := rfl
@[simp] theorem State.updCluster_ref100Lost (s : State) (c) (f) : (s.updCluster c f).ref100Lost = s.ref100Lost := rfl
@[simp] theorem State.updCluster_ref156Lost (s : State) (c) (f) : (s.updCluster c f).ref156Lost = s.ref156Lost := rfl
@[simp] theorem State.updCluster_dict (s : State) (c) (f) : (s.updCluster c f).dict = s.dict := rfl
@[simp] theorem State.updCluster_lock (s : State) (c) (f) : (s.updCluster c f).lock = s.lock := rfl
@[simp] theorem State.updCluster_host (s : State) (c) (f) : (s.updCluster c f).host = s.host := rfl
@[simp] theorem State.updCluster_store (s : State) (c) (f) : (s.updCluster c f).store = s.store := rfl
@[simp] theorem State.updCluster_buf (s : State) (c) (f) : (s.updCluster c f).buf = s.buf := rfl
@[simp] theorem State.updCluster_movers (s : State) (c) (f) : (s.updCluster c f).movers = s.movers := rfl
@[simp] theorem State.updCluster_lastMoverError (s : State) (c) (f) : (s.updCluster c f).lastMoverError = s.lastMoverError := rfl
@[simp] theorem State.updCluster_layers (s : State) (c) (f) : (s.updCluster c f).layers = s.layers := rfl
@[simp] theorem State.updCluster_raw (s : State) (c) (f) : (s.updCluster c f).raw = s.raw := rfl
@[simp] theorem State.updCluster_can (s : State) (c) (f) : (s.updCluster c f).can = s.can := rfl
@[simp] theorem State.updCluster_heldAccess (s : State) (c) (f) : (s.updCluster c f).heldAccess = s.heldAccess := rfl
@[simp] theorem State.updCluster_faults (s : State) (c) (f) : (s.updCluster c f).faults = s.faults := rfl
@[simp] theorem State.updCluster_inputs (s : State) (c) (f) : (s.updCluster c f).inputs = s.inputs := rfl
@[simp] theorem State.updCluster_arbiter (s : State) (c) (f) : (s.updCluster c f).arbiter = s.arbiter := rfl
@[simp] theorem State.updCluster_injection (s : State) (c) (f) : (s.updCluster c f).injection = s.injection := rfl
@[simp] theorem State.updCluster_dev (s : State) (c) (f) : (s.updCluster c f).dev = s.dev := rfl
@[simp] theorem State.updCluster_boot (s : State) (c) (f) : (s.updCluster c f).boot = s.boot := rfl
@[simp] theorem State.updCluster_rails (s : State) (c) (f) : (s.updCluster c f).rails = s.rails := rfl
@[simp] theorem State.updCluster_domains (s : State) (c) (f) : (s.updCluster c f).domains = s.domains := rfl
@[simp] theorem State.updCluster_flash (s : State) (c) (f) : (s.updCluster c f).flash = s.flash := rfl
@[simp] theorem State.updCluster_fuses (s : State) (c) (f) : (s.updCluster c f).fuses = s.fuses := rfl
@[simp] theorem State.updCluster_window (s : State) (c) (f) : (s.updCluster c f).window = s.window := rfl
@[simp] theorem State.updCluster_sec (s : State) (c) (f) : (s.updCluster c f).sec = s.sec := rfl
@[simp] theorem State.updCluster_recorder (s : State) (c) (f) : (s.updCluster c f).recorder = s.recorder := rfl
@[simp] theorem State.updCluster_mirrorHeld (s : State) (c) (f) : (s.updCluster c f).mirrorHeld = s.mirrorHeld := rfl
@[simp] theorem State.updCluster_heldTokens (s : State) (c) (f) : (s.updCluster c f).heldTokens = s.heldTokens := rfl
@[simp] theorem State.updCluster_tileHeld (s : State) (c) (f) : (s.updCluster c f).tileHeld = s.tileHeld := rfl
@[simp] theorem State.updCluster_out (s : State) (c) (f) : (s.updCluster c f).out = s.out := rfl

/-! ### updPin -/

@[simp] theorem State.updPin_pending (s : State) (i) (f) : (s.updPin i f).pending = s.pending := rfl
@[simp] theorem State.updPin_now (s : State) (i) (f) : (s.updPin i f).now = s.now := rfl
@[simp] theorem State.updPin_free (s : State) (i) (f) : (s.updPin i f).free = s.free := rfl
@[simp] theorem State.updPin_part (s : State) (i) (f) : (s.updPin i f).part = s.part := rfl
@[simp] theorem State.updPin_tiles (s : State) (i) (f) : (s.updPin i f).tiles = s.tiles := rfl
@[simp] theorem State.updPin_packs (s : State) (i) (f) : (s.updPin i f).packs = s.packs := rfl
@[simp] theorem State.updPin_spinQueue (s : State) (i) (f) : (s.updPin i f).spinQueue = s.spinQueue := rfl
@[simp] theorem State.updPin_buses (s : State) (i) (f) : (s.updPin i f).buses = s.buses := rfl
@[simp] theorem State.updPin_fmtStore (s : State) (i) (f) : (s.updPin i f).fmtStore = s.fmtStore := rfl
@[simp] theorem State.updPin_svc (s : State) (i) (f) : (s.updPin i f).svc = s.svc := rfl
@[simp] theorem State.updPin_bench (s : State) (i) (f) : (s.updPin i f).bench = s.bench := rfl
@[simp] theorem State.updPin_ref100Lost (s : State) (i) (f) : (s.updPin i f).ref100Lost = s.ref100Lost := rfl
@[simp] theorem State.updPin_ref156Lost (s : State) (i) (f) : (s.updPin i f).ref156Lost = s.ref156Lost := rfl
@[simp] theorem State.updPin_dict (s : State) (i) (f) : (s.updPin i f).dict = s.dict := rfl
@[simp] theorem State.updPin_lock (s : State) (i) (f) : (s.updPin i f).lock = s.lock := rfl
@[simp] theorem State.updPin_host (s : State) (i) (f) : (s.updPin i f).host = s.host := rfl
@[simp] theorem State.updPin_store (s : State) (i) (f) : (s.updPin i f).store = s.store := rfl
@[simp] theorem State.updPin_buf (s : State) (i) (f) : (s.updPin i f).buf = s.buf := rfl
@[simp] theorem State.updPin_movers (s : State) (i) (f) : (s.updPin i f).movers = s.movers := rfl
@[simp] theorem State.updPin_lastMoverError (s : State) (i) (f) : (s.updPin i f).lastMoverError = s.lastMoverError := rfl
@[simp] theorem State.updPin_layers (s : State) (i) (f) : (s.updPin i f).layers = s.layers := rfl
@[simp] theorem State.updPin_raw (s : State) (i) (f) : (s.updPin i f).raw = s.raw := rfl
@[simp] theorem State.updPin_can (s : State) (i) (f) : (s.updPin i f).can = s.can := rfl
@[simp] theorem State.updPin_heldAccess (s : State) (i) (f) : (s.updPin i f).heldAccess = s.heldAccess := rfl
@[simp] theorem State.updPin_faults (s : State) (i) (f) : (s.updPin i f).faults = s.faults := rfl
@[simp] theorem State.updPin_clusters (s : State) (i) (f) : (s.updPin i f).clusters = s.clusters := rfl
@[simp] theorem State.updPin_arbiter (s : State) (i) (f) : (s.updPin i f).arbiter = s.arbiter := rfl
@[simp] theorem State.updPin_injection (s : State) (i) (f) : (s.updPin i f).injection = s.injection := rfl
@[simp] theorem State.updPin_dev (s : State) (i) (f) : (s.updPin i f).dev = s.dev := rfl
@[simp] theorem State.updPin_boot (s : State) (i) (f) : (s.updPin i f).boot = s.boot := rfl
@[simp] theorem State.updPin_rails (s : State) (i) (f) : (s.updPin i f).rails = s.rails := rfl
@[simp] theorem State.updPin_domains (s : State) (i) (f) : (s.updPin i f).domains = s.domains := rfl
@[simp] theorem State.updPin_flash (s : State) (i) (f) : (s.updPin i f).flash = s.flash := rfl
@[simp] theorem State.updPin_fuses (s : State) (i) (f) : (s.updPin i f).fuses = s.fuses := rfl
@[simp] theorem State.updPin_window (s : State) (i) (f) : (s.updPin i f).window = s.window := rfl
@[simp] theorem State.updPin_sec (s : State) (i) (f) : (s.updPin i f).sec = s.sec := rfl
@[simp] theorem State.updPin_recorder (s : State) (i) (f) : (s.updPin i f).recorder = s.recorder := rfl
@[simp] theorem State.updPin_mirrorHeld (s : State) (i) (f) : (s.updPin i f).mirrorHeld = s.mirrorHeld := rfl
@[simp] theorem State.updPin_heldTokens (s : State) (i) (f) : (s.updPin i f).heldTokens = s.heldTokens := rfl
@[simp] theorem State.updPin_tileHeld (s : State) (i) (f) : (s.updPin i f).tileHeld = s.tileHeld := rfl
@[simp] theorem State.updPin_out (s : State) (i) (f) : (s.updPin i f).out = s.out := rfl

/-! ### takeFree -/

@[simp] theorem State.takeFree_pending (s : State) : s.takeFree.2.pending = s.pending := rfl
@[simp] theorem State.takeFree_now (s : State) : s.takeFree.2.now = s.now := rfl
@[simp] theorem State.takeFree_part (s : State) : s.takeFree.2.part = s.part := rfl
@[simp] theorem State.takeFree_tiles (s : State) : s.takeFree.2.tiles = s.tiles := rfl
@[simp] theorem State.takeFree_packs (s : State) : s.takeFree.2.packs = s.packs := rfl
@[simp] theorem State.takeFree_spinQueue (s : State) : s.takeFree.2.spinQueue = s.spinQueue := rfl
@[simp] theorem State.takeFree_buses (s : State) : s.takeFree.2.buses = s.buses := rfl
@[simp] theorem State.takeFree_fmtStore (s : State) : s.takeFree.2.fmtStore = s.fmtStore := rfl
@[simp] theorem State.takeFree_svc (s : State) : s.takeFree.2.svc = s.svc := rfl
@[simp] theorem State.takeFree_bench (s : State) : s.takeFree.2.bench = s.bench := rfl
@[simp] theorem State.takeFree_ref100Lost (s : State) : s.takeFree.2.ref100Lost = s.ref100Lost := rfl
@[simp] theorem State.takeFree_ref156Lost (s : State) : s.takeFree.2.ref156Lost = s.ref156Lost := rfl
@[simp] theorem State.takeFree_dict (s : State) : s.takeFree.2.dict = s.dict := rfl
@[simp] theorem State.takeFree_lock (s : State) : s.takeFree.2.lock = s.lock := rfl
@[simp] theorem State.takeFree_host (s : State) : s.takeFree.2.host = s.host := rfl
@[simp] theorem State.takeFree_store (s : State) : s.takeFree.2.store = s.store := rfl
@[simp] theorem State.takeFree_buf (s : State) : s.takeFree.2.buf = s.buf := rfl
@[simp] theorem State.takeFree_movers (s : State) : s.takeFree.2.movers = s.movers := rfl
@[simp] theorem State.takeFree_lastMoverError (s : State) : s.takeFree.2.lastMoverError = s.lastMoverError := rfl
@[simp] theorem State.takeFree_layers (s : State) : s.takeFree.2.layers = s.layers := rfl
@[simp] theorem State.takeFree_raw (s : State) : s.takeFree.2.raw = s.raw := rfl
@[simp] theorem State.takeFree_can (s : State) : s.takeFree.2.can = s.can := rfl
@[simp] theorem State.takeFree_heldAccess (s : State) : s.takeFree.2.heldAccess = s.heldAccess := rfl
@[simp] theorem State.takeFree_faults (s : State) : s.takeFree.2.faults = s.faults := rfl
@[simp] theorem State.takeFree_inputs (s : State) : s.takeFree.2.inputs = s.inputs := rfl
@[simp] theorem State.takeFree_clusters (s : State) : s.takeFree.2.clusters = s.clusters := rfl
@[simp] theorem State.takeFree_arbiter (s : State) : s.takeFree.2.arbiter = s.arbiter := rfl
@[simp] theorem State.takeFree_injection (s : State) : s.takeFree.2.injection = s.injection := rfl
@[simp] theorem State.takeFree_dev (s : State) : s.takeFree.2.dev = s.dev := rfl
@[simp] theorem State.takeFree_boot (s : State) : s.takeFree.2.boot = s.boot := rfl
@[simp] theorem State.takeFree_rails (s : State) : s.takeFree.2.rails = s.rails := rfl
@[simp] theorem State.takeFree_domains (s : State) : s.takeFree.2.domains = s.domains := rfl
@[simp] theorem State.takeFree_flash (s : State) : s.takeFree.2.flash = s.flash := rfl
@[simp] theorem State.takeFree_fuses (s : State) : s.takeFree.2.fuses = s.fuses := rfl
@[simp] theorem State.takeFree_window (s : State) : s.takeFree.2.window = s.window := rfl
@[simp] theorem State.takeFree_sec (s : State) : s.takeFree.2.sec = s.sec := rfl
@[simp] theorem State.takeFree_recorder (s : State) : s.takeFree.2.recorder = s.recorder := rfl
@[simp] theorem State.takeFree_mirrorHeld (s : State) : s.takeFree.2.mirrorHeld = s.mirrorHeld := rfl
@[simp] theorem State.takeFree_heldTokens (s : State) : s.takeFree.2.heldTokens = s.heldTokens := rfl
@[simp] theorem State.takeFree_tileHeld (s : State) : s.takeFree.2.tileHeld = s.tileHeld := rfl
@[simp] theorem State.takeFree_out (s : State) : s.takeFree.2.out = s.out := rfl
@[simp] theorem State.takeFree_free (s : State) : s.takeFree.2.free = s.free + 1 := rfl
@[simp] theorem State.takeFree_value (s : State) : s.takeFree.1 = Config.freeValue s.free := rfl

/-! ### Where an update acts -/

@[simp] theorem State.send_out (s : State) (o) : (s.send o).out = s.out ++ [o] := rfl
@[simp] theorem State.updSvc_svc (s : State) (f) : (s.updSvc f).svc = f s.svc := rfl
@[simp] theorem State.updHost_host (s : State) (f) : (s.updHost f).host = f s.host := rfl
@[simp] theorem State.updStore_store (s : State) (f) : (s.updStore f).store = f s.store := rfl
@[simp] theorem State.updBuf_buf (s : State) (f) : (s.updBuf f).buf = f s.buf := rfl
@[simp] theorem State.updRecorder_recorder (s : State) (f) : (s.updRecorder f).recorder = f s.recorder := rfl
@[simp] theorem State.updPack_same (s : State) (p f) : (s.updPack p f).packs[p] = f s.packs[p] := by simp [State.updPack]
theorem State.updPack_other (s : State) (p q : PackId) (f) (h : p ≠ q) : (s.updPack p f).packs[q] = s.packs[q] := by
  simp only [State.updPack, Fin.getElem_fin]; rw [Vector.getElem_set_ne]; exact fun e => h (Fin.ext e)
@[simp] theorem State.updArm_same (s : State) (p a f) : (s.updArm p a f).arm p a = f (s.arm p a) := by
  simp [State.updArm, State.arm, State.updPack, Pack.updArm]
@[simp] theorem State.updFmt_fmt (s : State) (p a f) : ((s.updFmt p a f).arm p a).fmt = f (s.arm p a).fmt := by
  simp [State.updFmt]
@[simp] theorem State.updServo_servo (s : State) (p a f) : ((s.updServo p a f).arm p a).servo = f (s.arm p a).servo := by
  simp [State.updServo]
@[simp] theorem State.updLane_same (s : State) (p a h f) : (s.updLane p a h f).lane p a h = f (s.lane p a h) := by
  simp [State.updLane, State.updArm, State.lane, State.updPack, Pack.updArm, Arm.updLane]
@[simp] theorem State.updCtx_same (s : State) (q c f) : (s.updCtx q c f).ctx q c = f (s.ctx q c) := by
  simp [State.ctx, State.updCtx]
@[simp] theorem State.updMover_same (s : State) (c f) : (s.updMover c f).movers[c] = f s.movers[c] := by simp [State.updMover]
@[simp] theorem State.updDomain_same (s : State) (d f) : (s.updDomain d f).domains[d] = f s.domains[d] := by simp [State.updDomain]
@[simp] theorem State.updRail_same (s : State) (r f) : (s.updRail r f).rails[r] = f s.rails[r] := by simp [State.updRail]
@[simp] theorem State.updCluster_same (s : State) (c f) : (s.updCluster c f).clusters.unit[c] = f s.clusters.unit[c] := by
  simp [State.updCluster]
@[simp] theorem State.updCluster_active (s : State) (c f) : (s.updCluster c f).clusters.active = s.clusters.active := rfl
@[simp] theorem State.updCluster_failOver (s : State) (c f) : (s.updCluster c f).clusters.failOver = s.clusters.failOver := rfl
theorem State.updCluster_other (s : State) (c d : ClusterId) (f) (h : c ≠ d) :
    (s.updCluster c f).clusters.unit[d] = s.clusters.unit[d] := by
  simp only [State.updCluster, Fin.getElem_fin]; rw [Vector.getElem_set_ne]; exact fun e => h (Fin.ext e)
theorem State.updSource_same (s : State) (k : Nat) (f) (h : k < 416) : (s.updSource k f).source k = f (s.source k) := by
  simp [State.updSource, State.source, h]
theorem State.updSource_other (s : State) (k j : Nat) (f) (h : k ≠ j) : (s.updSource k f).source j = s.source j := by
  unfold State.updSource State.source; split
  · simp [h]
  · rfl
@[simp] theorem State.updPin_same (s : State) (i f) : (s.updPin i f).inputs.get i = f (s.inputs.get i) := by
  cases i <;> simp [State.updPin, Inputs.get, Inputs.set]

end Sys2Proof.Machine
end

