-- ==== Sys2Proof/Laws/Memory.lean ====
section
/-! SUPPORT. The two stores in canonical form: the dictionary's values and buffer memory's code words. Every write keeps the form, the
value written reads back, and other places stay. -/

namespace Sys2Proof.Machine

/-! ### Values by key -/

theorem putVal_keys (k v d : Nat) (l : List (Nat × Nat)) : ∀ x ∈ putVal k v d l, x = (k, v) ∨ x ∈ l := by
  induction l with
  | nil => intro x; unfold putVal; split <;> simp
  | cons y l ih =>
    obtain ⟨k', v'⟩ := y
    intro x; unfold putVal
    split
    · split
      · exact Or.inr
      · intro h; simpa using h
    · split
      · split
        · intro h; exact .inr (List.mem_cons_of_mem _ h)
        · intro h; rcases List.mem_cons.mp h with h | h
          · exact .inl h
          · exact .inr (List.mem_cons_of_mem _ h)
      · intro h; rcases List.mem_cons.mp h with h | h
        · exact .inr (h ▸ List.mem_cons_self ..)
        · exact (ih x h).imp id (List.mem_cons_of_mem _)

theorem putVal_rising (k v d : Nat) (l : List (Nat × Nat)) (h : l.Pairwise (fun x y => x.1 < y.1)) :
    (putVal k v d l).Pairwise (fun x y => x.1 < y.1) := by
  induction l with
  | nil => unfold putVal; split <;> simp
  | cons y l ih =>
    obtain ⟨k', v'⟩ := y
    have ⟨h1, h2⟩ := List.pairwise_cons.mp h
    unfold putVal
    split
    · split
      · exact h
      · refine List.pairwise_cons.mpr ⟨?_, h⟩
        intro z hz; rcases List.mem_cons.mp hz with rfl | hz
        · assumption
        · exact Nat.lt_trans (by assumption) (h1 z hz)
    · split
      · split
        · exact h2
        · exact List.pairwise_cons.mpr ⟨fun z hz => by subst_vars; exact h1 z hz, h2⟩
      · refine List.pairwise_cons.mpr ⟨?_, ih h2⟩
        intro z hz; rcases putVal_keys k v d l z hz with rfl | hz
        · simp only; omega
        · exact h1 z hz

/-- A store in its form stays so when a value is put. -/
theorem putVal_wf (d : Nat → Nat) (k v : Nat) (l : List (Nat × Nat)) (h : storeWf d l = true) :
    storeWf d (putVal k v (d k) l) = true := by
  simp only [storeWf, Bool.and_eq_true, decide_eq_true_eq, List.all_eq_true, bne_iff_ne] at h ⊢
  refine ⟨?_, putVal_rising _ _ _ _ h.2⟩
  have key : ∀ (l : List (Nat × Nat)), (∀ x ∈ l, x.2 ≠ d x.1) → ∀ x ∈ putVal k v (d k) l, x.2 ≠ d x.1 := by
    intro l; induction l with
    | nil => intro _ x; unfold putVal; split <;> simp; rintro rfl; assumption
    | cons y l ih =>
      obtain ⟨k', v'⟩ := y
      intro hl x; unfold putVal
      have hy := hl _ (List.mem_cons_self ..)
      have hl' := fun z hz => hl z (List.mem_cons_of_mem _ hz)
      split
      · split
        · exact hl x
        · intro hx; rcases List.mem_cons.mp hx with rfl | hx
          · assumption
          · exact hl x hx
      · split
        · split
          · exact hl' x
          · intro hx; rcases List.mem_cons.mp hx with rfl | hx
            · assumption
            · exact hl' x hx
        · intro hx; rcases List.mem_cons.mp hx with rfl | hx
          · exact hy
          · exact ih hl' x hx
  exact key l h.1

theorem lookup_none_of_rising (k : Nat) (l : List (Nat × Nat)) (h : ∀ x ∈ l, k < x.1) : l.lookup k = none := by
  induction l with
  | nil => rfl
  | cons y l ih =>
    have hy := h y (List.mem_cons_self ..)
    rw [List.lookup_cons, beq_false_of_ne (by omega)]
    exact ih fun x hx => h x (List.mem_cons_of_mem _ hx)

/-- The value put reads back. -/
theorem getVal_putVal_same (k v d : Nat) (l : List (Nat × Nat)) (h : l.Pairwise (fun x y => x.1 < y.1)) :
    getVal k d (putVal k v d l) = v := by
  induction l with
  | nil => unfold putVal getVal; split <;> simp_all
  | cons y l ih =>
    obtain ⟨k', v'⟩ := y
    have ⟨h1, h2⟩ := List.pairwise_cons.mp h
    unfold putVal
    split
    · split
      · unfold getVal; rw [lookup_none_of_rising]
        · simp_all
        · intro x hx; rcases List.mem_cons.mp hx with rfl | hx
          · assumption
          · exact Nat.lt_trans (by assumption) (h1 x hx)
      · simp [getVal]
    · split
      · split
        · unfold getVal; rw [lookup_none_of_rising]
          · simp_all
          · intro x hx; subst_vars; exact h1 x hx
        · simp [getVal]
      · have : getVal k d ((k', v') :: putVal k v d l) = getVal k d (putVal k v d l) := by
          unfold getVal; rw [List.lookup_cons, beq_false_of_ne (by omega)]
        rw [this]; exact ih h2

/-- Other keys read as before. -/
theorem getVal_putVal_other (k j v d e : Nat) (l : List (Nat × Nat)) (h : j ≠ k) : getVal j e (putVal k v d l) = getVal j e l := by
  induction l with
  | nil => unfold putVal; split <;> simp [getVal, List.lookup_cons, beq_false_of_ne h]
  | cons y l ih =>
    obtain ⟨k', v'⟩ := y
    unfold putVal
    split
    · split
      · rfl
      · simp [getVal, List.lookup_cons, beq_false_of_ne h]
    · split
      · subst_vars
        split <;> simp [getVal, List.lookup_cons, beq_false_of_ne h]
      · unfold getVal at ih ⊢
        simp only [List.lookup_cons]
        split
        · rfl
        · exact ih

/-! ### Code words by granule -/

theorem putWord_mem (w : CodeWord) (l : List CodeWord) : ∀ x ∈ putWord w l, x = w ∨ x ∈ l := by
  induction l with
  | nil => intro x; simp [putWord]
  | cons y l ih =>
    intro x; unfold putWord
    split
    · intro h; simpa using h
    · split
      · intro h; rcases List.mem_cons.mp h with h | h
        · exact .inl h
        · exact .inr (List.mem_cons_of_mem _ h)
      · intro h; rcases List.mem_cons.mp h with h | h
        · exact .inr (h ▸ List.mem_cons_self ..)
        · exact (ih x h).imp id (List.mem_cons_of_mem _)

theorem putWord_rising (w : CodeWord) (l : List CodeWord) (h : l.Pairwise (fun a b => a.gran < b.gran)) :
    (putWord w l).Pairwise (fun a b => a.gran < b.gran) := by
  induction l with
  | nil => simp [putWord]
  | cons y l ih =>
    have ⟨h1, h2⟩ := List.pairwise_cons.mp h
    unfold putWord
    split
    · refine List.pairwise_cons.mpr ⟨?_, h⟩
      intro z hz; rcases List.mem_cons.mp hz with rfl | hz
      · assumption
      · exact Nat.lt_trans (by assumption) (h1 z hz)
    · split
      · exact List.pairwise_cons.mpr ⟨fun z hz => by rename_i e; rw [e]; exact h1 z hz, h2⟩
      · refine List.pairwise_cons.mpr ⟨?_, ih h2⟩
        intro z hz; rcases putWord_mem w l z hz with rfl | hz
        · omega
        · exact h1 z hz

/-- What a stored code word's state depends on: nothing but the list and the layout. -/
@[simp] theorem State.checkBytes_storeWord (s : State) (g d k a x p) : (s.storeWord g d k).checkBytes a x p = s.checkBytes a x p := rfl

/-- Storing a code word keeps the list's form. -/
theorem State.storeWord_wf (s : State) (g data check : Nat) (h : Memory.wf s = true) : Memory.wf (s.storeWord g data check) = true := by
  simp only [Memory.wf, Bool.and_eq_true, decide_eq_true_eq, List.all_eq_true, State.checkBytes_storeWord] at h ⊢
  simp only [State.storeWord, State.updBuf]
  split
  · exact ⟨h.1.filter _, fun x hx => h.2 x ((List.mem_filter.mp hx).1)⟩
  · refine ⟨putWord_rising _ _ h.1, fun x hx => ?_⟩
    rcases putWord_mem _ _ x hx with rfl | hx
    · rename_i hn; simp only [not_and] at hn
      by_cases h0 : data = 0 <;> simp [h0]; exact hn h0
    · exact h.2 x hx

theorem State.wf_of_same (s t : State) (hp : t.part = s.part) (hw : t.buf.words = s.buf.words) :
    Memory.wf t = Memory.wf s := by
  simp only [Memory.wf, State.checkBytes, State.location, State.granPlace, State.chanCount, hp, hw]

/-- A list without words is in its form. -/
theorem State.wf_of_empty (s : State) (h : s.buf.words = []) : Memory.wf s = true := by simp [Memory.wf, h]

/-- A list from which words are dropped stays in its form. -/
theorem State.wf_of_filter (s t : State) (p : CodeWord → Bool) (hp : t.part = s.part) (hw : t.buf.words = s.buf.words.filter p)
    (h : Memory.wf s = true) : Memory.wf t = true := by
  simp only [Memory.wf, Bool.and_eq_true, decide_eq_true_eq, List.all_eq_true, hw] at h ⊢
  refine ⟨h.1.filter _, fun x hx => ?_⟩
  have := h.2 x ((List.mem_filter.mp hx).1)
  simpa only [State.checkBytes, State.location, State.granPlace, State.chanCount, hp] using this

/-- A write of a granule keeps the form, whatever the channel. -/
theorem State.memPut_wf (s : State) (g data check : Nat) (h : Memory.wf s = true) : Memory.wf (s.memPut g data check) = true := by
  simp only [State.memPut]
  split
  · exact h
  · split
    · exact h
    · refine State.storeWord_wf _ _ _ _ ?_
      split
      · exact h
      · refine (State.wf_of_same _ _ ?_ ?_).trans h <;> simp only [State.updMem] <;> split <;> rfl

end Sys2Proof.Machine
end

