-- ==== Sys2Proof/Laws/Micro.lean ====
section
/-! SUPPORT. What the issue of a microword comes to, for the statements about micro-operations. -/

namespace Sys2Proof.Machine

/-- The rotation's pointer is no part of a context, nor of what the sequencers share. -/
@[simp] theorem ctx_noteTurn (s : State) (q c) : (s.noteTurn q c).ctx q c = s.ctx q c := by simp [State.noteTurn, State.ctx, State.updSvc]
@[simp] theorem token_noteTurn (s : State) (q c) (n : Nat) : (s.noteTurn q c).svc.token n = s.svc.token n := rfl
@[simp] theorem cmd_noteTurn (s : State) (q c) (r k : Nat) : (s.noteTurn q c).svc.cmd r k = s.svc.cmd r k := rfl
/-- Counting an issue changes no condition. -/
theorem holds_count (s : State) (e w b) : (s.countIssue e b).holds e w = s.holds e w := by
  cases e with
  | formatter p a => rfl
  | service q c => simp only [State.holds, State.cond, State.countIssue, State.svcCond, State.updCtx_same, ctx_noteTurn]; rfl
@[simp] theorem thread_count (s : State) (e b) : (s.countIssue e b).thread e = s.thread e := by
  cases e with
  | formatter p a => rfl
  | service q c => simp only [State.thread, State.countIssue, State.updCtx_same, ctx_noteTurn]
@[simp] theorem thread_issued (s : State) (e) : (s.issued e).thread e = s.thread e := thread_count ..
@[simp] theorem issued_fmt (s : State) (p a) : s.issued (.formatter p a) = s := rfl
/-- A fetched word either takes its effect, or only the cycle when its predicate is false (R197). -/
theorem fetch_eq (s : State) (e opc f) (h : s.Fetches e opc) : s.issue e opc f =
   if opc ≠ 0x22 ∧ s.holds e (s.wordOf e) = false then (s.issued e).advance e else f (s.wordOf e) (s.issued e) := by
  have hf : s.fetchErrors e = (s, false) := by simp [State.fetchErrors, h.clean]
  unfold State.issue
  simp only [h.ready, h.here, hf, h.legal, holds_count]
  cases e with
  | formatter p a => simp [State.issued]
  | service q c =>
    cases hs : ((s.wordOf (.service q c)).isSafe || (s.ctx q c).forcedSafe) with
    | false => simp [State.issued, hs]
    | true => simp [State.issued, hs, h.goes q c rfl hs]
/-- An issued word takes its effect. -/
theorem issue_eq (s : State) (e opc f) (h : s.Issues e opc) : s.issue e opc f = f (s.wordOf e) (s.issued e) := by
  rw [fetch_eq _ _ _ _ h.toFetches]; simp [h.holds]
/-- A word whose predicate is false goes on to the next (R197). -/
theorem false_eq (s : State) (e opc f) (h : s.Fetches e opc) (hh : s.holds e (s.wordOf e) = false) (ho : opc ≠ 0x22) : s.issue e opc f = (s.issued e).advance e := by
  rw [fetch_eq _ _ _ _ h]; simp [hh, ho]
/-- A write of a register, where G0 stays (R194). -/
theorem set_eq (r : Regs) (i v) : r.set i v = { r with g := if i = 0 then r.g else r.g.set i.val v i.isLt } := by
  unfold Regs.set; split <;> rfl
/-- Going on with the registers unchanged. -/
theorem advance_issued (s : State) (e) : (s.issued e).advance e = s.retires e (s.regs e) := by
  simp [State.advance, State.retires, State.regs]

/-- A command that runs on its context does what its opcode says. -/
theorem on_eq (s : State) (q c op f) (h : s.Runs q c op) : s.onCommand q c op f = f (s.ctx q c) := by
  obtain ⟨h1, h2, h3, h4, h5, h6, h7, h8, h9⟩ := h
  simp only [State.onCommand]
  rw [if_neg (by rintro (h | h | h | h | h | h | h | h) <;> simp_all)]
  split
  · rename_i y hy
    have := h9 y hy
    rw [if_neg (by simp [this.1]), if_neg (by simp [this.2])]
  · rfl

end Sys2Proof.Machine
end

