-- ==== Sys2Proof/Laws/Packs.lean ====
section
/-! SUPPORT. What the operations of a wedge boundary leave as they were. -/

namespace Sys2Proof.Machine

/-- A change of one arm leaves the time base of every pack. -/
@[simp] theorem State.updArm_tb (s : State) (p q : PackId) (a f) : ((s.updArm p a f).packs[q]).tb = s.packs[q].tb := by
  by_cases h : p = q
  · subst h; simp [State.updArm, State.updPack, Pack.updArm]
  · simp only [State.updArm]; rw [State.updPack_other _ _ _ _ h]

/-- A new synthesizer rate leaves the SEEK that an arm has taken. -/
theorem State.applySynth_order (s : State) (p : PackId) (a b : ArmId) :
    ((s.applySynth p a).arm p b).servo.order = (s.arm p b).servo.order := by
  unfold State.applySynth
  by_cases h : a = b
  · subst h; rw [State.updArm_same]; split <;> rfl
  · have hn : a.val ≠ b.val := fun e => h (Fin.ext e)
    simp [State.updArm, State.arm, State.updPack, Pack.updArm, Vector.getElem_set_ne _ _ hn]

/-- With no SEEK taken, nothing changes but what the rates and the servo entries are. -/
theorem State.takeOrder_none (s : State) (p : PackId) (a : ArmId) (h : (s.arm p a).servo.order = none) : s.takeOrder p a = s := by
  simp only [State.takeOrder, h]

/-- What waits for a wedge boundary while no SEEK waits for it. -/
theorem State.atWedge_quiet (s : State) (p : PackId) (h : ∀ a, (s.arm p a).servo.order = none) :
    s.atWedge p = ((s.applySynth p 0).applySynth p 1).applyTuning p := by
  have e : ∀ b, (((s.applySynth p 0).applySynth p 1).arm p b).servo.order = none := fun b => by
    rw [State.applySynth_order, State.applySynth_order, h]
  unfold State.atWedge
  rw [State.takeOrder_none _ p 0 (e 0), State.takeOrder_none _ p 1 (e 1)]

/-- What waits for a wedge boundary while no SEEK waits is no part of the time base. -/
theorem State.atWedge_tb (s : State) (p : PackId) (h : ∀ a, (s.arm p a).servo.order = none) :
    (s.atWedge p).packs[p].tb = s.packs[p].tb := by
  rw [State.atWedge_quiet s p h]
  unfold State.applyTuning
  split
  · simp only [State.applySynth, State.updArm_tb]
  · rw [State.updPack_same]; simp only [State.applySynth, State.updArm_tb]

/-- Nor of the dictionary. -/
theorem State.atWedge_dict (s : State) (p : PackId) (h : ∀ a, (s.arm p a).servo.order = none) : (s.atWedge p).dict = s.dict := by
  rw [State.atWedge_quiet s p h]
  unfold State.applyTuning
  split <;> rfl
theorem State.atWedge_part (s : State) (p : PackId) (h : ∀ a, (s.arm p a).servo.order = none) : (s.atWedge p).part = s.part := by
  rw [State.atWedge_quiet s p h]
  unfold State.applyTuning
  split <;> rfl

end Sys2Proof.Machine
end

