-- ==== Sys2Proof/Machine/Package.lean ====
section
/-! DEFINITION. The package (R562, R563, R565, R570, R576, R583): where its lands lie, their groups, those a smaller part leaves
unconnected, and what each order code is sold as. -/

namespace Sys2Proof.Machine

/-! ### The land grid (R562) -/

/-- Row and column of land `n`, 1 to 11,236. -/
def landRow (n : Nat) : Nat := (n - 1) / 106
def landColumn (n : Nat) : Nat := (n - 1) % 106

/-- The centre of land `n` from the body centre, in half millimetres: x, then y. -/
def landCentre (n : Nat) : Int × Int := (2 * (landColumn n : Int) - 105, 105 - 2 * (landRow n : Int))

/-- The distance of a land from a side in lands: 0 A, 1 B, 2 C, 3 D (R562, R565). -/
def sideDistance (n side : Nat) : Nat :=
  match side with
  | 0 => landRow n
  | 1 => 105 - landColumn n
  | 2 => 105 - landRow n
  | _ => landColumn n

/-! ### Groups of lands (R563, R565) -/

/-- The groups of lands. -/
inductive LandGroup where
  | pack | motorBus | memory | host | clocks | management | flashAndTest | railSense | supply | ground | reserved
  deriving DecidableEq, Repr

/-- Every group, in the order of R563. -/
def landGroups : List LandGroup :=
  [.pack, .motorBus, .memory, .host, .clocks, .management, .flashAndTest, .railSense, .supply, .ground, .reserved]

/-- Lands of an item of a group and the items of the full part; a group without items counts as one (R563). -/
def LandGroup.perItem : LandGroup → Nat
  | .pack => 163 | .motorBus => 3 | .memory => 48 | .host => 16 | .clocks => 12 | .management => 36 | .flashAndTest => 19
  | .railSense => 2 | .supply => 1472 | .ground => 3000 | .reserved => 49
def LandGroup.items : LandGroup → Nat
  | .pack => 32 | .motorBus => 4 | .memory => 24 | .host => 16 | .railSense => 6 | _ => 1

/-- Lands of a group (R563). -/
def LandGroup.lands (g : LandGroup) : Nat := g.perItem * g.items

/-- Lands of a group that are not connected inside the package of a part (R565): those of the items it does not have, and the SerDes
references of port groups without ports, two lands each. -/
def LandGroup.unconnected (g : LandGroup) (part : Part) : Nat :=
  let t := partTiles part
  match g with
  | .pack => 163 * (32 - 4 * t)
  | .motorBus => 3 * (4 - t / 2)
  | .memory => 48 * (24 - 3 * t)
  | .host => 16 * (16 - 2 * t)
  | .clocks => 2 * (4 - t / 2)
  | _ => 0

/-- Lands not connected inside the package of a part (R565, R583). -/
def unconnectedLands (part : Part) : Nat := (landGroups.map (fun g => g.unconnected part)).sum

/-- The side on which the lands of a pack, a GDDR7 channel and a host port lie (R563). -/
def packSide (p : PackId) : Nat := p.val / 8
def channelSide (c : ChanId) : Nat := c.val / 6
def portSide (q : PortId) : Nat := q.val / 4

/-! ### Order codes (R570, R583) -/

/-- The power that a part does not exceed, in watts (R570). -/
def partTdp : Part → Nat
  | .qh1024 => 540 | .qh0512 => 300 | .qh0256 => 170

/-- The first line of the lid marking (R583). -/
def lidMarking : Part → String
  | .qh1024 => "OVIXO QH1024-A1" | .qh0512 => "OVIXO QH0512-A1" | .qh0256 => "OVIXO QH0256-A1"

/-- The third line of the lid marking: the device serial, 0x1018.04, as eight hexadecimal digits, the highest first (R583). -/
def State.lidSerial (s : State) : List Nat := (List.range 8).map (fun i => s.fuses.serial / 16 ^ (7 - i) % 16)

/-! ### An output (R576) -/

/-- MEM_RESET_N of a channel is high: from the start of its training on. -/
def State.memResetN (s : State) (c : ChanId) : Bool := s.buf.chans[c].state ≠ 0

end Sys2Proof.Machine
end

