-- ==== Sys2Proof/WellFormed.lean ====
section
/-! DEFINITION. Which commands are well formed: every operand lies in the range that the manual gives its field. A sender of commands
keeps it; the meanings of `exec` are total and answer any operand. -/

namespace Sys2Proof

/-- A USDO client node (R459). -/
def clientOk (n : Nat) : Bool := decide (1 ≤ n ∧ n ≤ 127)

/-- A writer identity of R467: a client, a connection, or the controller itself. -/
def writerOk (n : Nat) : Bool := clientOk n || decide (0x100 ≤ n ∧ n < 0x500) || n == 0xFFFF

/-- A value that DICT_WRITE or USDO can carry (R367, R459). -/
def dataOk (l : List Byte) : Bool := decide (1 ≤ l.length ∧ l.length ≤ 65536)

/-- A detection: cells of the address mark and of the index field (R107). -/
def Detection.wf (d : Detection) : Bool := decide (d.mark < 2 ^ 16) && decide (d.indexCells < 2 ^ 20)

/-- A demodulator result: the cells of a servo field's parts (R107). -/
def Demod.wf (d : Demod) : Bool := decide (d.mark < 2 ^ 16) && decide (d.indexCells < 2 ^ 20) && decide (d.trackCells < 2 ^ 48) && decide (d.runoutCells < 2 ^ 32)

/-- The areas of an identity memory as R66 sizes them. -/
def PackMem.wf (m : PackMem) : Bool :=
  m.identity.length == 256 && m.signature.length == 512 && m.geometry.length == 1024 && m.servo.length == 2048
    && m.locator.length == 256 && m.life0.length == 1024 && m.life1.length == 1024 && m.logHeader.length == 64

/-- A connection request: peer address, QP number, private data (R353, R354). -/
def CmReq.wf (r : CmReq) : Bool := decide (r.source < 2 ^ 128) && decide (r.qp < 2 ^ 24) && decide (r.data.length ≤ 92)

/-- What a device does at a read: bytes of the code word of 68 (R397). -/
def DramRead.wf (x : DramRead) : Bool := x.flips.all (fun y => decide (y.1 < 68 ∧ y.2 < 256))

/-- The operands of a command are in range. -/
def Instr.wf (i : Instr) : Bool :=
  match i with
  | .cWedgePhaseUpdate _ dets => dets.all Detection.wf
  | .cPackSettleDone _ m => m.wf
  | .cLadderReadDone _ _ _ addr _ => decide (addr < 2 ^ 40)
  | .cMemoryLoadComplete _ _ x _ => x.all DramRead.wf
  | .cContextResume ring slot => decide (ring < 4096) && decide (slot < 2 ^ 32)
  | .cFormatterRequest _ _ req => req.length == 128
  | .cControlStoreScrub _ word => decide (word < 16384)
  | .cLockedStoreWrite _ word _ => decide (word < 16384)
  | .cServoDemodResult _ _ _ d _ => d.wf
  | .cWatchEnd _ speed _ _ _ => decide (speed < 65536)
  | .cMotorBusSample _ code _ => decide (code < 4096)
  | .cKeyLockGrant hash => decide (hash < 2 ^ 128)
  | .cStripePlacementRetry _ addr => decide (addr < 2 ^ 27)
  | .cLeafWriteDone _ _ tag => decide (tag < 2 ^ 32)
  | .cRebuildStripe _ addr => decide (addr < 2 ^ 27)
  | .cDrainLeaf _ addr leaf | .cScrubLeaf _ addr leaf => decide (addr < 2 ^ 27) && decide (leaf < 16)
  | .cCmReq r => r.wf
  | .cCmRtu conn => decide (conn < 1024)
  | .cCmDreq conn => decide (conn < 1024)
  | .cCmDrep _conn => decide (_conn < 1024)
  | .cInvalidRequest conn => decide (conn < 1024)
  | .cDoorbell conn key _ _ => decide (conn < 1024) && decide (key < 2 ^ 32)
  | .cChainFrame ring => decide (ring < 4096)
  | .cDescriptorReadResponse ring data => decide (ring < 4096) && data.length % 64 == 0
  | .cHeadPublish ring => decide (ring < 4096)
  | .cRnrNak ring => decide (ring < 4096)
  | .cAckTimeout conn _ => decide (conn < 1024)
  | .cCeMarkedPacket conn => decide (conn < 1024)
  | .cCnpReceived conn => decide (conn < 1024)
  | .cDcqcnRateIncreaseTimer conn => decide (conn < 1024)
  | .cDcqcnByteCounter conn => decide (conn < 1024)
  | .cPortLinkTraining _ up => decide (up < 16)
  | .cDeleteRingDone ring => decide (ring < 4096)
  | .cDictWrite _ _ data => dataOk data
  | .cBufferRead _ _ _ _ x _ => x.all DramRead.wf
  | .cCoreNarrowWrite _ _ _ _ x _ => x.all DramRead.wf
  | .cBufferScrub _ x => x.wf
  | .cDiagnosticModeSet v => decide (v < 256)
  | .cMoverDescriptorSubmit desc => desc.length == 64
  | .cMoverDescriptorStart _ x _ => x.all DramRead.wf
  | .cUsdoExpeditedDownload client idx sub data => clientOk client && decide (idx < 65536) && decide (sub < 256) && dataOk data
  | .cUsdoExpeditedUpload client idx sub => clientOk client && decide (idx < 65536) && decide (sub < 256)
  | .cUsdoSegmentedDownloadInit client idx sub => clientOk client && decide (idx < 65536) && decide (sub < 256)
  | .cUsdoDownloadSegment client data _ => clientOk client && dataOk data
  | .cUsdoSegmentedUploadInit client idx sub => clientOk client && decide (idx < 65536) && decide (sub < 256)
  | .cUsdoUploadSegment client _ => clientOk client
  | .cUsdoAbort client => clientOk client
  | .cUsdoSegmentTimeout client => clientOk client
  | .cDictionaryWrite who idx sub data => writerOk who && decide (idx < 65536) && decide (sub < 256) && dataOk data
  | .cLockTake who => writerOk who
  | .cLockFree who => writerOk who
  | .cOverlayApply who mask => writerOk who && decide (mask < 65536)
  | .cFaultOccurrence source => decide (source < 416)
  | .cClearSticky source => decide (source < 416)
  | .cBootStart _ nodeId _ => decide (nodeId < 128)
  | .cZephyrEntryDone energy => decide (energy < 65536)
  | .cWakeEvent _ chatter => decide (chatter < 2 ^ 32)
  | .cSecurityVersionCommit version => decide (version < 256)
  | .cBootSelectorWrite image => decide (image < 256)
  | .cKeyIndexRevoke index => decide (index < 256)
  | .cEventMark who data => writerOk who && dataOk data
  | .cEventReadWindow client => clientOk client
  | .cNakReceived conn => decide (conn < 1024)
  | .cD2dKeepaliveSend _ _ | .cD2dLinkLostTile _ | .cD2dLinkLostHub _ | .cPerArrayWriteApply _ _ | .cReference100mhzLost
  | .cReference156mhzLost | .cTbCoastLimit _ | .cTbAcquireTimeout _ | .cSkewMeasurementDone _ | .cSkewRemeasureStart _
  | .cArmReload _ _ | .cAngleWaitReached _ _ | .cPackPresAssert _ | .cPackPresDeassert _ | .cI2cRetry _ _ | .cLifeRecordWrite _ _
  | .cStatusFrame _ _ _ | .cRegrespFrame _ _ _ | .cArmLinkRxTimeout _ _ | .cCmdEchoTimeout _ _ | .cArmLinkTrainingDone _ _
  | .cArmLinkTrainingTimeout _ _ | .cPackCmdDrain _ | .cPackCmdCancelDrain _ | .cPackCmdRetire _ | .cPackCmdPrepareRemoval _
  | .cSpinupRequest _ | .cSpinupTimeout _ | .cPackSensorPoll _ _ _ | .cPackLogWrite _ _ | .cPackLogRepeatRewrite _
  | .cZoneTableReadDone _ _ _ _ | .cServoProtectStart _ _ _ | .cServoWindowOpen _ _ _ | .cReadGateOpen _ _ _ | .cReadGateClose _ _ _ _
  | .cWriteGateOpen _ _ _ | .cWriteGateClose _ _ _ | .cSyncWindowDecision _ _ _ _ | .cWriteBufferDeadline _ _ _ _
  | .cLaneActivate _ _ _ | .cLaneGatingDelayExpiry _ _ _ | .cSectorDelivery _ _ _ | .cFirstDecodeDone _ _ _ _ _
  | .cStoredRecoveryDone _ _ _ _ | .cNop _ | .cAdd _ | .cSub _ | .cAnd _ | .cOr _ | .cXor _ | .cShl _ | .cShr _ | .cCmp _ | .cMovi _
  | .cMin _ | .cMax _ | .cAdda _ | .cAcmp _ | .cLd _ | .cSt _ | .cLdl _ | .cStl _ | .cJmp _ | .cCall _ | .cRet _ | .cJmpr _ | .cEnd _
  | .cDisp _ | .cWaita _ | .cWaitr _ | .cWaite _ | .cWaiteConditionMet _ | .cWaiteTimeout _ | .cSuspend _
  | .cContextBlockAvailable _ _ | .cCommit _ | .cAbtset _ | .cSeek _ _ | .cXfer _ | .cLadder _ | .cLink _ | .cNow _ | .cGrp _ | .cEng _
  | .cTokenComplete _ _ _ _ | .cRoutineRestart _ _ | .cFormatterCancel _ _ | .cSafePointOverrun _ _ | .cChainStart | .cHeadLost _ _ _ _
  | .cHeadReturn _ _ _ | .cBackEmfVelocityLoop _ _ _ | .cServoStateCrcCompare _ _ _ | .cLoadTimeEnd _ _ | .cSearchTimeout _ _ _
  | .cSettleTimeout _ _ _ | .cArmPark _ _ _ | .cParkTimeout _ _ _ | .cUnloadTimeEnd _ _ | .cGaleRetract _ _ _ _ | .cGaleTimeEnd _ _
  | .cVcmCurrentLoop _ _ _ | .cVcmSetpointWatchdog _ _ | .cTilePllUnlock _ | .cPowerStageFault _ | .cSpindleCurrentLoop _ _ _ _ _
  | .cSpindleSpeedLoop _ _ _ | .cSpeedInWindow _ | .cSpindleOverspeed _ | .cSpindleSpeedDeviation _ | .cAlignEnd _
  | .cForcedHandover _ | .cStartAttemptFailed _ | .cControlledStopBegin _ | .cChopperFeedbackTimeout _ | .cChopperFault _
  | .cBusFreewheel _ | .cBusFreewheelRelease _ | .cBusUndervoltage _ | .cBusUndervoltageEnd _ | .cPut _ _ _ | .cGet _ _
  | .cPatch _ _ _ | .cDelete _ _ | .cList _ _ | .cNopCommand _ _ | .cPetitFourDurableSeal _ | .cPetitFourLazySeal _
  | .cJournalSectorCommit _ | .cJournalLagExpiry | .cCheckpointSegmentWrite | .cJournalPackReplace _ | .cBackgroundWindow _ _
  | .cRebuildDelayExpiry _ | .cCompactionBand _ _ _ | .cSelfTestShort | .cSelfTestExtended | .cSelfTestStop
  | .cSelfTestShareEnd _ | .cStoreInitialise | .cSpanAddPack _ | .cSpanStartRebuild _ | .cSpanDrainPack _ | .cPfcFrame _ _ _ _
  | .cPauseFrame | .cCreateRing _ _ | .cDeleteRing _ _ | .cAbort _ _ | .cDictRead _ _ | .cBufferWrite _ _ _ _ _ _ | .cBufferFillDone
  | .cChannelReinit _ | .cChannelReinitDone _ | .cRangeClean _ | .cRangeInvalidate _ | .cRangeCleanInvalidate _ | .cRangeFill _
  | .cRangeOpDone | .cCacheDisable | .cCacheEnable | .cMoverRateWindow _ _ | .cMoverDescriptorComplete _ | .cLockLeaseExpiry
  | .cStoreParameters _ | .cRestoreDefaultParameters | .cErrorHistoryClear | .cOverlayQuietPoint | .cOverlayQuietTimeout
  | .cRawReadQuick | .cRawReadFull | .cRawSectorWrite | .cNmtStartRemoteNode | .cNmtEnterPreOperational
  | .cNmtStopRemoteNode | .cNmtResetCommunication | .cNmtResetNode | .cHeartbeat | .cEmcyTransmit | .cCanBusOff | .cChipResetReaction
  | .cReadmitCluster _ | .cInputFilteredChange _ _ | .cRateWindowEnd _ | .cStuckTimeout _ | .cStuckMaskLift _ | .cEpoNAssert
  | .cArbiterCheck _ | .cFailoverHubRelease | .cClusterSelfTestDone _ _ | .cClusterSyncDone _ | .cMirrorAck _ | .cRoleSwap _
  | .cRoleSwapNow _ | .cArbiterLockstepMismatch | .cArbiterWatchdogExpiry | .cInjectionTokenWrite _ | .cInjectionArm _
  | .cInjectionPeriodic | .cTapUnlockToken _ | .cVddAonApply _ _ _ | .cVddAonRemoved | .cResetNAssert | .cRailPgAccept _
  | .cRailEnDelay _ | .cRailPgTimeout _ | .cStartRetry | .cBootEnd _ | .cLossOfSupply _ | .cLossOfSupplyRailOff | .cPmbusPoll _
  | .cDomainSwitchOn _ | .cEngineSliceIdle _ | .cStateCmdOpen | .cStateCmdQuiesce | .cStateCmdLee | .cStateCmdStart
  | .cStateCmdPowerDown | .cStateCmdZephyr | .cStateCmdAssemble | .cSelftestDone _ | .cOrderlyCloseStepDone | .cShutdownTimeout
  | .cLeeEntryArmsUnloaded | .cReducedFormRailOff | .cZephyrDelayExpiry | .cZephyrTick _ | .cFlashDataWrite _ | .cFlashErase
  | .cFlashVerify | .cEscrowKeyWrite _ | .cStoreKeyImport _ | .cCounterSave _ | .cStagingFlush _ | .cStagingHoldExpiry _
  | .cReferenceMeasurementEnd _ _ | .cPllLockTimeout | .cChipResetParkWaitEnd | .cFlashOperationDone _ _ | .cPortLinkDown _ _
  | .cGddr7Refresh _ _ _ | .cOperatingSecondsTick => true

end Sys2Proof
end

