-- ==== Sys2Proof/Tests/Slice0.lean ====
section
/-! SUPPORT. The model's own tests: what `Instr.wf` refuses; for each statement with hypotheses a state and operands that meet those
of each clause, at the values where clauses meet; and effects that the manual's own figures give. -/

namespace Sys2Proof.Tests

set_option Elab.async false

open Sys2Proof.Machine

/-! ### Small states -/

/-- Pack 0, arm 0 and head 0, as most tests name them. -/
def p0 : PackId := 0
def a0 : ArmId := 0
def h0 : HeadId := 0
/-- Formatter 0 and context 0 of service sequencer 0. -/
def ef : Eng := .formatter 0 0
def es : Eng := .service 0 0

/-- A microword of a micro-operation, the other fields given as a number (R193). -/
def mw (opc rest : Nat) : Microword := BitVec.ofNat 128 (opc * 2 ^ 122 + rest)

/-- RD, RA and RB of a microword. -/
def mwRegs (rd ra rb : Nat) : Nat := rd * 2 ^ 108 + ra * 2 ^ 104 + rb * 2 ^ 100

/-- The device in a state. -/
def inState (d : DevState) : State := { State.reset with dev := { State.reset.dev with state := d } }

/-- A time base of pack 0. -/
def withTb (s : State) (t : TimeBase) : State := s.updPack 0 (fun k => { k with tb := t })

/-- Formatter 0 runs the microwords, from a state. -/
def fmtOn (s : State) (l : List Microword) : State :=
  ({ s with fmtStore := { s.fmtStore with words := l } }).updFmt 0 0 (fun f => { f with running := true })

/-- Context 0 of service sequencer 0 runs the microwords. -/
def svcOn (s : State) (l : List Microword) : State :=
  (s.updSvc (fun v => { v with store := { v.store with words := l } })).updCtx 0 0 (fun x => { x with busy := true })

def fmtRun (l : List Microword) : State := fmtOn State.reset l
def svcRun (l : List Microword) : State := svcOn State.reset l

/-- Buffer memory filled and reachable at density 32. -/
def bufUp (s : State) : State := s.updBuf (fun b => { b with reachable := true, density := 32 })

/-- Registers by number. -/
def withRegs (s : State) (e : Eng) (l : List (Nat × Nat)) : State :=
  let t := s.thread e
  s.setThread e { t with regs := { t.regs with g := Vector.ofFn (fun i : Fin 16 => BitVec.ofNat 64 (getVal i.val 0 l)) } }

/-- `State.Fetches` as a check. -/
def fetchesB (s : State) (e : Eng) (opc : Nat) : Bool :=
  s.ready e && (s.wordOf e).opc == opc && (s.ctlStore e).marks.isEmpty && wordLegal (engService e) (s.ctlStore e).words.length (s.wordOf e)
    && (match e with
        | .service q c => decide (((s.wordOf e).isSafe || (s.ctx q c).forcedSafe) = true → s.safeCheck q c = .go)
        | .formatter _ _ => true)

theorem fetches_of {s : State} {e : Eng} {opc : Nat} (h : fetchesB s e opc = true) : s.Fetches e opc := by
  simp only [fetchesB, Bool.and_eq_true, beq_iff_eq, List.isEmpty_iff] at h
  refine ⟨h.1.1.1.1, h.1.1.1.2, h.1.1.2, h.1.2, ?_⟩
  rintro q c rfl
  exact of_decide_eq_true h.2

theorem issues_of {s : State} {e : Eng} {opc : Nat} (h : (fetchesB s e opc && s.holds e (s.wordOf e)) = true) : s.Issues e opc := by
  simp only [Bool.and_eq_true] at h
  exact ⟨fetches_of h.1, h.2⟩

/-- Operations given as numbers are issued by formatter 0 of the states that `f` builds. -/
theorem issues_all {f : Nat → State} {e : Eng} {l : List Nat}
    (h : (l.all (fun o => fetchesB (f o) e o && (f o).holds e ((f o).wordOf e))) = true) : ∀ o ∈ l, (f o).Issues e o :=
  fun o ho => issues_of (List.all_eq_true.mp h o ho)

theorem fetches_all {f : Nat → State} {e : Eng} {l : List Nat}
    (h : (l.all (fun o => fetchesB (f o) e o)) = true) : ∀ o ∈ l, (f o).Fetches e o :=
  fun o ho => fetches_of (List.all_eq_true.mp h o ho)

/-! ### Hypotheses that can be met: the frame, the time base, the movers -/

/-- O1: a command at the front, and an empty queue. -/
theorem witness_StepRunsFrontCommand :
    ({ State.reset with pending := [.cVddAonRemoved] }).pending = .cVddAonRemoved :: [] ∧ State.reset.pending = [] := by decide +kernel

/-- O2: the phase below its top, at its top with the wedge below, at both tops, at all three. -/
theorem witness_AngleTimeCarries :
    (let phase := fun y : AngleTime => y.toNat % 2 ^ 19
     let wedge := fun y : AngleTime => y.toNat / 2 ^ 19 % 512
     let rev := fun y : AngleTime => y.toNat / 2 ^ 28
     phase 524286#40 < 524287 ∧ phase 524287#40 = 524287 ∧ wedge 524287#40 < 511
       ∧ (phase 268435455#40 = 524287 ∧ wedge 268435455#40 = 511 ∧ rev 268435455#40 < 4095)
       ∧ (phase 1099511627775#40 = 524287 ∧ wedge 1099511627775#40 = 511 ∧ rev 1099511627775#40 = 4095))
    ∧ (let s := withTb State.reset { state := .locked, loopPeriod := 1 }
       s.pending = [] ∧ s.packs[p0].tb.state ≠ .stopped ∧ s.packs[p0].tb.loopPeriod ≠ 0) := by decide +kernel

/-- A descriptor of 64 bytes: flags, source and destination, and the elements of dimension 0 and their size (R427, R435). -/
def descOf (flags source count elem : Nat) : List Byte :=
  natBytes 4 (flags * 2 ^ 8 + source * 2 ^ 16) ++ List.replicate 28 0 ++ natBytes 8 (count + 2 ^ 16 + 2 ^ 32 + elem * 2 ^ 48)
    ++ natBytes 4 elem ++ List.replicate 20 0

/-- Mover channel 0 with its bank on, waiting and running descriptors. -/
def moverOf (queue : List MoverReq) (running : List MoverRun) : State :=
  ({ State.reset with domains := State.reset.domains.map (fun (d : Domain) => { d with state := 2 }) }).updMover 0 (fun m =>
    { m with queue := queue, running := running })

/-- O3: a descriptor that may start at once, behind one whose reads are done, with BARRIER behind none, and those that may not. -/
theorem witness_MoverStartsInOrder :
    (moverOf [] []).mayStart 0 = none
    ∧ (moverOf [⟨descOf 0 2 4 8, 1⟩] []).mayStart 0 = some ⟨descOf 0 2 4 8, 1⟩
    ∧ (moverOf [⟨descOf 1 2 4 8, 1⟩] []).mayStart 0 = some ⟨descOf 1 2 4 8, 1⟩
    ∧ (moverOf [⟨descOf 1 2 4 8, 1⟩] [{ req := ⟨descOf 0 2 4 8, 0⟩, readsDone := true }]).mayStart 0 = none
    ∧ (moverOf [⟨descOf 0 2 4 8, 1⟩] [{ req := ⟨descOf 0 2 4 8, 0⟩, readsDone := true }]).mayStart 0 = some ⟨descOf 0 2 4 8, 1⟩
    ∧ (moverOf [⟨descOf 0 2 4 8, 1⟩] [{ req := ⟨descOf 0 2 4 8, 0⟩ }]).mayStart 0 = none := by decide +kernel

/-- O4: a pattern descriptor of one dimension. -/
theorem witness_PatternSources :
    (descOf 0 2 4 8).length = 64 ∧ descTotal (descOf 0 2 4 8) = 32 ∧ descSource (descOf 0 2 4 8) = 2 ∧ descScatter (descOf 0 2 4 8) = false
    ∧ descCount (descOf 0 2 4 8) 1 = 1 ∧ descCount (descOf 0 2 4 8) 2 = 1 ∧ descStep (descOf 0 2 4 8) 0 = descElem (descOf 0 2 4 8) := by decide +kernel

/-! ### Hypotheses that can be met: the sequencers -/

/-- O9: every operation of the arithmetic and logic rows is issued; and with CNEG set (the predicate false) each operation named
is fetched and not done, the service's own by a service context. -/
theorem witness_AluAndFalsePredicate :
    (∀ o ∈ [0x00, 0x01, 0x02, 0x03, 0x04, 0x05, 0x06, 0x07, 0x08, 0x09, 0x0A, 0x0B], (fmtRun [mw o 0]).Issues ef o)
    ∧ (∀ o ∈ opcBoth ++ opcFormatter, o ≠ 0x22 → (fmtRun [mw o (2 ^ 116)]).Fetches ef o
        ∧ (fmtRun [mw o (2 ^ 116)]).holds ef ((fmtRun [mw o (2 ^ 116)]).wordOf ef) = false)
    ∧ (∀ o ∈ opcService, (svcRun [mw o (2 ^ 116)]).Fetches es o
        ∧ (svcRun [mw o (2 ^ 116)]).holds es ((svcRun [mw o (2 ^ 116)]).wordOf es) = false) := by
  refine ⟨issues_all (by decide), fun o ho _ => ⟨fetches_all (f := fun o => fmtRun [mw o (2 ^ 116)]) (by decide) o ho, ?_⟩,
    fun o ho => ⟨fetches_all (f := fun o => svcRun [mw o (2 ^ 116)]) (by decide) o ho, ?_⟩⟩
  · revert o; decide
  · revert o; decide

/-- Formatter 0 at a locked time base at angle 0. -/
def fmtLocked (l : List Microword) : State := withTb (fmtRun l) { state := .locked }

/-- O10: ADDA at its greatest step, ACMP, NOW, WAITA and WAITR at the shortest and the longest wait, and the wait's end at its
angle. -/
theorem witness_AngleCommands :
    let adda := fmtRun [mw 0x0C (2 ^ 99 + (2 ^ 39 - 1))]
    (adda.Issues ef 0x0C ∧ ((adda.regs ef).opB (adda.wordOf ef)).toNat % 2 ^ 40 < 2 ^ 39)
    ∧ (fmtRun [mw 0x0D 0]).Issues ef 0x0D ∧ (fmtRun [mw 0x2C 0]).Issues ef 0x2C
    ∧ (∀ d ∈ [1, 2 ^ 39 - 1], let s := withRegs (fmtLocked [mw 0x20 (mwRegs 0 1 0)]) ef [(1, d)]
        s.Issues ef 0x20 ∧ s.tbUsable 0 = true ∧
        0 < (((s.regs ef).get (s.wordOf ef).ra).setWidth 40 - s.armAngle 0 0).toNat ∧
        (((s.regs ef).get (s.wordOf ef).ra).setWidth 40 - s.armAngle 0 0).toNat < 2 ^ 39)
    ∧ (∀ d ∈ [1, 2 ^ 39 - 1], let s := fmtLocked [mw 0x21 (2 ^ 99 + d)]
        s.Issues ef 0x21 ∧ s.tbUsable 0 = true ∧
        0 < (((s.regs ef).opB (s.wordOf ef)).setWidth 40).toNat ∧ (((s.regs ef).opB (s.wordOf ef)).setWidth 40).toNat < 2 ^ 39)
    ∧ (let s := (fmtLocked []).updFmt 0 0 (fun f => { f with wait := .angle 0 })
       (s.arm 0 0).fmt.wait = .angle 0 ∧ laterMod 40 (0 : AngleTime).toNat (s.armAngle 0 0).toNat = false) := by
  refine ⟨⟨issues_of (by decide), by decide⟩, issues_of (by decide), issues_of (by decide),
    fun d hd => ⟨?_, ?_⟩, fun d hd => ⟨?_, ?_⟩, by decide⟩
  · exact issues_of (s := withRegs (fmtLocked [mw 0x20 (mwRegs 0 1 0)]) ef [(1, d)])
      (List.all_eq_true.mp (by decide : ([1, 2 ^ 39 - 1].all (fun d => let s := withRegs (fmtLocked [mw 0x20 (mwRegs 0 1 0)]) ef [(1, d)]
        fetchesB s ef 0x20 && s.holds ef (s.wordOf ef))) = true) d hd)
  · revert d; decide
  · exact issues_of (s := fmtLocked [mw 0x21 (2 ^ 99 + d)])
      (List.all_eq_true.mp (by decide : ([1, 2 ^ 39 - 1].all (fun d => let s := fmtLocked [mw 0x21 (2 ^ 99 + d)]
        fetchesB s ef 0x21 && s.holds ef (s.wordOf ef))) = true) d hd)
  · revert d; decide

/-- O11: LD at the last word of the scratch and beyond it, on both engines; ST likewise; LDL and STL; JMP; CALL with room and
without; RET with an entry and without; JMPR. -/
theorem witness_MemoryAndFlowCommands :
    let stacked := fun (o n : Nat) => (fmtRun [mw o 0]).updFmt 0 0 (fun f => { f with stack := List.replicate n 0 })
    ((fmtRun [mw 0x10 2040]).Issues ef 0x10 ∧ (fmtRun [mw 0x10 2040]).fmtLoad 0 0 0 2040 = some 0)
    ∧ ((fmtRun [mw 0x10 2048]).Issues ef 0x10 ∧ (fmtRun [mw 0x10 2048]).fmtLoad 0 0 0 2048 = none)
    ∧ ((svcRun [mw 0x10 504]).Issues es 0x10 ∧ ((svcRun [mw 0x10 504]).ctx 0 0).load 0 504 = some 0)
    ∧ ((bufUp (svcRun [mw 0x10 (2 * 2 ^ 80)])).Issues es 0x10 ∧ ((bufUp (svcRun [mw 0x10 (2 * 2 ^ 80)])).wordOf es).sel = 2
        ∧ 0 + 8 ≤ (bufUp (svcRun [mw 0x10 (2 * 2 ^ 80)])).bufSize)
    ∧ ((bufUp (svcRun [mw 0x12 0])).Issues es 0x12 ∧ 0 + 64 ≤ (bufUp (svcRun [mw 0x12 0])).bufSize)
    ∧ ((bufUp (svcRun [mw 0x13 0])).Issues es 0x13 ∧ 0 + 64 ≤ (bufUp (svcRun [mw 0x13 0])).bufSize)
    ∧ ((fmtRun [mw 0x11 2040]).Issues ef 0x11 ∧ spaceOk (engScratchSize ef) 2040 = true ∧ spaceOk (engScratchSize es) 504 = true)
    ∧ ((fmtRun [mw 0x11 2048]).Issues ef 0x11 ∧ spaceOk (engScratchSize ef) 2048 = false)
    ∧ (fmtRun [mw 0x18 0]).Issues ef 0x18
    ∧ ((stacked 0x19 7).Issues ef 0x19 ∧ ((stacked 0x19 7).thread ef).stack.length < engStackDepth ef)
    ∧ ((stacked 0x19 8).Issues ef 0x19 ∧ engStackDepth ef ≤ ((stacked 0x19 8).thread ef).stack.length)
    ∧ ((stacked 0x1A 1).Issues ef 0x1A ∧ ((stacked 0x1A 1).thread ef).stack = 0 :: [])
    ∧ ((stacked 0x1A 0).Issues ef 0x1A ∧ ((stacked 0x1A 0).thread ef).stack = [])
    ∧ (fmtRun [mw 0x1B 0]).Issues ef 0x1B := by
  refine ⟨⟨issues_of (by decide), by decide⟩, ⟨issues_of (by decide), by decide⟩, ⟨issues_of (by decide), by decide⟩,
    ⟨issues_of (by decide), by decide⟩, ⟨issues_of (by decide), by decide⟩, ⟨issues_of (by decide), by decide⟩,
    ⟨issues_of (by decide), by decide⟩,
    ⟨issues_of (by decide), by decide⟩, issues_of (by decide), ⟨issues_of (by decide), by decide⟩,
    ⟨issues_of (by decide), by decide⟩, ⟨issues_of (by decide), by decide⟩, ⟨issues_of (by decide), by decide⟩, issues_of (by decide)⟩

/-- A service context with a chain of one NOP_COMMAND, a dispatch table and its command in flight. -/
def dispatching (o : Nat) (entry : BitVec 32) : State :=
  ((svcRun [mw o 0]).updSvc (fun v => { v with dispatch := [entry] })).updCtx 0 0 (fun x => { x with chain := List.replicate 32 0 })

/-- An engine whose WAITE waits on condition ALWAYS (`n` inverts it), until time 0. -/
def waitingOn (n : Bool) : State := (fmtRun [mw 0x22 0]).updFmt 0 0 (fun f => { f with wait := .event 0 n (some 0) })

/-- O12. -/
theorem witness_EndDispatchAndWait :
    (fmtRun [mw 0x1C 0]).Issues ef 0x1C
    ∧ ((svcRun [mw 0x1C 0]).Issues es 0x1C ∧ (svcRun [mw 0x1C 0]).owesTokens 0 0 = false)
    ∧ ((dispatching 0x1D 0x4005#32).Issues es 0x1D ∧ (dispatching 0x1D 0x4005#32).svc.dispatchMarks = []
        ∧ (((dispatching 0x1D 0x4005#32).svc.dispatch.getD (fieldAt ((dispatching 0x1D 0x4005#32).ctx 0 0).chain 0 1) 0).toNat).testBit 14 = true
        ∧ (0x4005).testBit 15 = false)
    ∧ (fmtRun [mw 0x22 0]).Issues ef 0x22 ∧ (svcRun [mw 0x22 0]).Issues es 0x22
    ∧ ((fmtRun [mw 0x22 (2 ^ 116)]).Fetches ef 0x22 ∧ (fmtRun [mw 0x22 (2 ^ 116)]).holds ef ((fmtRun [mw 0x22 (2 ^ 116)]).wordOf ef) = false)
    ∧ ((svcRun [mw 0x22 (2 ^ 116 + 1)]).Fetches es 0x22
        ∧ (svcRun [mw 0x22 (2 ^ 116 + 1)]).holds es ((svcRun [mw 0x22 (2 ^ 116 + 1)]).wordOf es) = false)
    ∧ ((waitingOn false).eventWait ef = some (0, false, some 0) ∧ (waitingOn false).waitAct ef = .go
        ∧ (waitingOn false).cond ef ((waitingOn false).wordOf ef).ra 0 = !false)
    ∧ ((waitingOn true).eventWait ef = some (0, true, some 0) ∧ (waitingOn true).waitAct ef = .go
        ∧ (waitingOn true).cond ef ((waitingOn true).wordOf ef).ra 0 = true)
    ∧ (let s := (bufUp (svcRun [])).updCtx 0 0 (fun x => { x with wait := .load 15 0 })
       15 < 16 ∧ (s.ctx 0 0).wait = .load 15 0 ∧ (s.bufRead .service false 0 8 [] .none).1.isSome = true) := by
  refine ⟨issues_of (by decide), ⟨issues_of (by decide), by decide⟩, ⟨issues_of (by decide), by decide⟩, issues_of (by decide),
    issues_of (by decide), ⟨fetches_of (by decide), by decide⟩, ⟨fetches_of (by decide), by decide⟩, by decide, by decide, ?_⟩
  decide +kernel

/-- The service context with a value in a register, a pool of one context block, and its command in flight. -/
def svcCmd (l : List Microword) (y : CmdEntry) : State := (svcRun l).updSvc (fun v => { v with cmds := [y] })

/-- The command of context 0 in flight, and committed. -/
def cmdsTo : List CmdEntry := [{ ring := 0, slot := 0 }, { ring := 0, slot := 0, committed := true }]

theorem commits_of : ∀ y ∈ cmdsTo, (svcCmd [mw 0x24 0] y).Issues es 0x24
    ∧ (svcCmd [mw 0x24 0] y).svc.cmd ((svcCmd [mw 0x24 0] y).ctx 0 0).ring ((svcCmd [mw 0x24 0] y).ctx 0 0).slot = some y := by
  intro y hy
  simp only [cmdsTo, List.mem_cons, List.not_mem_nil, or_false] at hy
  rcases hy with rfl | rfl <;> exact ⟨issues_of (by decide +kernel), by decide +kernel⟩

/-- O13. `SUSPEND` with a block free and with none; a wait for a block; resumptions with an ABORT and without; `COMMIT` of a command not
committed, committed, and with an ABORT pending; `ABTSET`; `ENG` with room for one token more and with none; a token completed, and one of
the flush that waits for the mirror. -/
theorem witness_SuspendCommitAndTokens :
    (let s := (svcRun [mw 0x23 0]).setParam 0x7430 7 1
     s.Issues es 0x23 ∧ s.svc.suspended.length < s.poolSize)
    ∧ (let s := ((svcRun [mw 0x23 0]).setParam 0x7430 7 1).updSvc (fun v => { v with suspended := [⟨{}, 0⟩] })
       s.Issues es 0x23 ∧ s.poolSize ≤ s.svc.suspended.length)
    ∧ (let s := ((svcRun []).setParam 0x7430 7 1).updCtx 0 0 (fun x => { x with wait := .block 1 })
       (s.ctx 0 0).wait = .block 1 ∧ s.svc.suspended.length < s.poolSize ∧ s.safeCheck 0 0 = .go)
    ∧ (∀ ab ∈ [false, true], let b : Suspended := ⟨{ ring := 1, slot := 2 }, 9⟩
       let y : CmdEntry := { ring := 1, slot := 2, aborted := ab }
       let s := State.reset.updSvc (fun v => { v with suspended := [b], cmds := [y] })
       s.clusters.failOver = none ∧ s.svc.suspended.find? (fun b => b.ctx.ring = 1 ∧ b.ctx.slot = 2) = some b
        ∧ s.freeContext = some (0, 0) ∧ s.svc.cmd 1 2 = some y ∧ s.resumable b = true)
    ∧ (∀ y ∈ cmdsTo, let s := svcCmd [mw 0x24 0] y
       s.Issues es 0x24 ∧ s.svc.cmd (s.ctx 0 0).ring (s.ctx 0 0).slot = some y)
    ∧ (∀ fo ∈ [none, some ⟨0, 0, 1, false, 0, []⟩], let s := svcCmd [mw 0x24 0] { ring := 0, slot := 0, aborted := true }
       let s := { s with clusters := { s.clusters with failOver := fo } }
       s.ready es = true ∧ (s.wordOf es).opc = 0x24 ∧ (s.ctlStore es).marks = []
        ∧ wordLegal true (s.ctlStore es).words.length (s.wordOf es) = true ∧ s.safeCheck 0 0 = (if fo = none then .abort else .hold))
    ∧ (svcRun [mw 0x25 0]).Issues es 0x25
    ∧ (let s := (svcRun [mw 0x30 0]).updSvc (fun v => { v with tokens := List.replicate 1023 ⟨1, 0, 1, 0, 0, [], 0⟩ })
       s.Issues es 0x30 ∧ s.tokensOut 0 < 1024 ∧ (s.wordOf es).sel ∈ [0, 1, 2, 5])
    ∧ (let s := (svcRun [mw 0x30 0]).updSvc (fun v => { v with tokens := List.replicate 1024 ⟨1, 0, 1, 0, 0, [], 0⟩ })
       s.Issues es 0x30 ∧ 1024 ≤ s.tokensOut 0)
    ∧ (let s := State.reset.updSvc (fun v => { v with tokens := [⟨7, 0, 1, 0, 0, [], 0⟩] })
       s.svc.token 7 = some ⟨7, 0, 1, 0, 0, [], 0⟩ ∧ s.heldTokens.any (fun y => y.1 = 7) = false)
    ∧ (let s := { (State.reset.updSvc (fun v => { v with tokens := [⟨7, 0, 1, 5, 0, [], 0⟩] })) with
         clusters := { State.reset.clusters with unit := #v[{ role := .active }, { role := .standby }], active := some 0, mirrorSent := 1 } }
       s.svc.token 7 = some ⟨7, 0, 1, 5, 0, [], 0⟩ ∧ s.clusters.failOver = none ∧ s.mirrorOwed = true
        ∧ s.heldTokens.any (fun y => y.1 = 7) = false) := by
  refine ⟨⟨issues_of (by decide +kernel), by decide +kernel⟩, ⟨issues_of (by decide +kernel), by decide +kernel⟩, by decide +kernel, by decide +kernel,
    commits_of, by decide +kernel, issues_of (by decide +kernel),
    ⟨issues_of (by decide +kernel), by decide +kernel, by decide +kernel⟩, ⟨issues_of (by decide +kernel), by decide +kernel⟩, by decide +kernel,
    by decide +kernel⟩

/-- Pack 0 with one zone of `n` sectors a track on every surface, a model of one head, and a data band at track 0. -/
def zoned (s : State) (n : Nat) : State :=
  s.updPack 0 (fun k => { k with
    factory := some { surfaces := List.replicate 16 { tracks := 100, firstData := 0, lastData := 99 } },
    media := { k.media with zones := some ⟨0, 1, List.replicate 16 { cells := 25000000, sectors := n }⟩ } })

/-- O14: the formatter's own micro-operations, a transfer to the end of its track and one sector beyond. -/
theorem witness_FormatterMicroOperations :
    (fmtRun [mw 0x28 0]).Issues ef 0x28
    ∧ (let s := zoned (fmtLocked [mw 0x29 (2 ^ 99 + 2 ^ 64 + 4)]) 4
       s.Issues ef 0x29 ∧ s.tbUsable 0 = true
        ∧ s.xferRefusal 0 0 ((s.regs ef).lanes (s.wordOf ef)) (((s.regs ef).get (s.wordOf ef).ra).toNat % 2 ^ 11)
            (((s.regs ef).opB (s.wordOf ef)).toNat % 2 ^ 9) (s.wordOf ef).sel = none)
    ∧ (let s := zoned (fmtLocked [mw 0x29 (2 ^ 99 + 2 ^ 64 + 5)]) 4
       s.Issues ef 0x29 ∧ s.tbUsable 0 = true
        ∧ s.xferRefusal 0 0 ((s.regs ef).lanes (s.wordOf ef)) (((s.regs ef).get (s.wordOf ef).ra).toNat % 2 ^ 11)
            (((s.regs ef).opB (s.wordOf ef)).toNat % 2 ^ 9) (s.wordOf ef).sel = some 0x14)
    ∧ (fmtRun [mw 0x2A 0]).Issues ef 0x2A
    ∧ ((fmtRun [mw 0x2B 1]).Issues ef 0x2B ∧ ((fmtRun [mw 0x2B 1]).wordOf ef).sel = 0)
    ∧ ((fmtRun [mw 0x2B (2 ^ 80)]).Issues ef 0x2B ∧ ((fmtRun [mw 0x2B (2 ^ 80)]).wordOf ef).sel ≠ 0)
    ∧ (fmtRun [mw 0x2D 0]).Issues ef 0x2D := by
  refine ⟨issues_of (by decide +kernel), ⟨issues_of (by decide +kernel), by decide +kernel⟩,
    ⟨issues_of (by decide +kernel), by decide +kernel⟩, issues_of (by decide +kernel),
    ⟨issues_of (by decide +kernel), by decide +kernel⟩, ⟨issues_of (by decide +kernel), by decide +kernel⟩,
    issues_of (by decide +kernel)⟩

/-- A request of routine 0 with no lane (R200). -/
def req0 : List Byte := List.replicate 128 0

/-- Formatter 0 with its fields changed. -/
def fmtWith (f : Formatter → Formatter) : State := State.reset.updFmt 0 0 f

/-- O15. -/
theorem witness_RequestsAndStores :
    (let s := fmtWith (fun f => { f with queue := List.replicate 15 req0 })
     s.clusters.failOver = none ∧ s.layers.applyStatus ≠ 1 ∧ reqOk req0 = true ∧ (s.arm 0 0).fmt.fault = false ∧ (s.arm 0 0).link.state ≠ .out
      ∧ (s.arm 0 0).fmt.queue.length < 16)
    ∧ reqOk (64 :: req0.drop 1) = false
    ∧ (let s := fmtWith (fun f => { f with running := true }); (s.arm 0 0).fmt.running = true ∧ (s.arm 0 0).fmt.committed = false)
    ∧ (let s := fmtWith (fun f => { f with running := true, committed := true })
       (s.arm 0 0).fmt.running = true ∧ (s.arm 0 0).fmt.committed = true)
    ∧ (let s := (fmtWith (fun f => { f with running := true, wait := .restart, restarts := 4 })).setParam 0x7430 5 5
       (s.arm 0 0).fmt.running = true ∧ (s.arm 0 0).fmt.wait = .restart
        ∧ (s.arm 0 0).fmt.restarts + 1 - (s.arm 0 0).fmt.uncounted ≤ s.param 0x7430 5)
    ∧ (let s := (fmtWith (fun f => { f with writesDue := true })).updServo 0 0 (fun v => { v with mode := .following })
       (s.arm 0 0).fmt.writesDue = true ∧ (s.arm 0 0).servo.mode.parkable = true
        ∧ (s.arm 0 0).fmt.running = false)
    ∧ (let s := State.reset.updSvc (fun v => { v with store := { v.store with marks := [(15, 16383, false)] } })
       s.svc.store.marks.find? (fun x => x.1 = (15 : SeqId).val && x.2.1 = 16383) = some ((15 : SeqId).val, 16383, false))
    ∧ (({ State.reset with fmtStore := { State.reset.fmtStore with locked := true } }).ctlStore ef).locked = true
    ∧ (let s := (svcRun []).updCtx 0 0 (fun x => { x with sinceSafe := 6400 })
       (s.ctx 0 0).busy = true ∧ 6400 ≤ (s.ctx 0 0).sinceSafe ∧ (s.ctx 0 0).forcedSafe = false) := by decide +kernel

/-- Time base 0 in a state. -/
def tbIn (t : TbState) : State := withTb State.reset { state := t }

/-- Arms 0 and 1 of pack 0 with a servo mode. -/
def armsIn (s : State) (m : ArmMode) : State :=
  (s.updServo 0 0 (fun v => { v with mode := m })).updServo 0 1 (fun v => { v with mode := m })

/-- Boot at a step. -/
def bootAt (b : BootStep) : State := { State.reset with boot := { State.reset.boot with step := b } }

/-- O16. -/
theorem witness_ReferencesAndTimeBase :
    (State.reset.tileFitted 7 = true ∧ (State.reset.updTile 7 (fun t => { t with linkUp := true })).tiles[7].linkUp = true
      ∧ State.reset.tiles[7].orphaned = false)
    ∧ ((inState .lee).ref100Lost = false ∧ (inState .lee).dev.state ≠ .boot ∧ (inState .lee).dev.state ≠ .off ∧ (inState .lee).dev.state ≠ .zephyr ∧ (inState .lee).ref156Lost = false)
    ∧ ((bootAt .references).dev.state = .boot ∧ (bootAt .references).boot.step = .references ∧ (bootAt .references).boot.railsKept = false)
    ∧ ((bootAt .plls).dev.state = .boot ∧ (bootAt .plls).boot.step = .plls)
    ∧ (∀ t ∈ [TbState.freeRun, .acquire, .locked, .stopped, .lost], ((tbIn t).atWedge p0).packs[p0].tb.state = t)
    ∧ (let s := ((withTb State.reset { state := .coast, missed := 31 }).setParam 0x4020 7 32).atWedge p0
       s.packs[p0].tb.state = .coast ∧ s.packs[p0].tb.missed < s.packParam p0 0x20 7)
    ∧ (let s := (withTb State.reset { state := .coast, missed := 32 }).setParam 0x4020 7 32
       s.packs[p0].tb.state = .coast ∧ s.packParam p0 0x20 7 ≤ s.packs[p0].tb.missed)
    ∧ (let s := withTb State.reset { state := .acquire, poorRun := 512 }
       s.packs[p0].tb.state = .acquire ∧ (512 ≤ s.packs[p0].tb.poorRun ∨ 32768 ≤ s.packs[p0].tb.acquireWedges))
    ∧ (let s := armsIn (withTb State.reset { state := .locked, measuring := true, measured := 2048, measSet := #v[true, false] }) .following
       s.packs[p0].tb.state = .locked ∧ s.packs[p0].tb.measuring = true ∧ 2048 ≤ s.packs[p0].tb.measured
        ∧ (List.finRange 2).filter (fun a => s.packs[p0].tb.measSet[a] && (s.arm p0 a).servo.mode.onTrack) = [0]
        ∧ (s.arm p0 0).fmt.running = false)
    ∧ (let s := withTb State.reset { state := .locked, remeasure := #v[true, false] }
       s.packs[p0].tb.state = .locked ∧ s.packs[p0].tb.measuring = false
        ∧ s.packs[p0].arms.any Arm.writing = false ∧ s.packs[p0].tb.remeasure[(0 : Fin 2)] = true)
    ∧ (let s := ((withTb State.reset { state := .freeRun }).updPack 0 (fun k =>
          { k with state := .spinning, spindle := { k.spindle with inWindow := true } })).updArm 0 0 (fun x =>
            { x with link := { x.link with state := .up }, servo := { x.servo with reloadPending := true } })
       (s.arm p0 a0).servo.reloadPending = true ∧ s.mayLoad p0 a0 = true ∧ s.packs[p0].state.mayCarry = true ∧ s.packs[p0].tb.state ≠ .lost
        ∧ (s.arm p0 a0).link.state = .up ∧ (s.arm p0 a0).fmt.fault = false) := by decide +kernel

/-- A pack in a state. -/
def packIn (k : PackState) : State := State.reset.updPack 0 (fun x => { x with state := k })


/-! ### Hypotheses that can be met: packs and arm links -/

/-- An area of `n` bytes with its CRC in the last four (R66). -/
def areaBytes (l : List Byte) (n : Nat) : List Byte :=
  let b := l ++ List.replicate (n - 4 - l.length) 0
  b ++ natBytes 4 (crc32c b)

theorem crcShift_lt (n : Nat) : ∀ r, r < 2 ^ 32 → crcShift 0x82F63B78 n r < 2 ^ 32 := by
  induction n with
  | zero => intro r h; exact h
  | succ n ih =>
    intro r h
    have h2 : r / 2 < 2 ^ 32 := by omega
    simp only [crcShift]
    split
    · exact ih _ (Nat.xor_lt_two_pow h2 (by decide))
    · exact ih _ h2

theorem crc32c_lt (l : List Byte) : crc32c l < 2 ^ 32 := by
  have go : ∀ (l : List Byte) (r : Nat), r < 2 ^ 32 → l.foldl (fun r b => crcShift 0x82F63B78 8 (r ^^^ b.toNat)) r < 2 ^ 32 := by
    intro l
    induction l with
    | nil => intro r h; exact h
    | cons b l ih =>
      intro r h
      exact ih _ (crcShift_lt 8 _ (Nat.xor_lt_two_pow h (Nat.lt_of_lt_of_le b.isLt (by decide))))
  exact Nat.xor_lt_two_pow (go l _ (by decide)) (by decide)

/-- An area with its CRC is valid (R66). -/
theorem areaOk_areaBytes (l : List Byte) (n : Nat) (h : l.length + 4 ≤ n) : areaOk (areaBytes l n) n = true := by
  have hl : (l ++ List.replicate (n - 4 - l.length) (0 : Byte)).length = n - 4 := by simp; omega
  have hc := crc32c_lt (l ++ List.replicate (n - 4 - l.length) (0 : Byte))
  simp only [areaOk, areaBytes, fieldAt, Bool.and_eq_true, beq_iff_eq]
  refine ⟨by simp [natBytes]; omega, ?_⟩
  rw [List.take_append_of_le_length (by omega), List.drop_append_of_le_length (by omega), List.take_of_length_le (by omega),
    List.drop_of_length_le (by omega)]
  generalize crc32c _ = c at hc ⊢
  simp [natBytes, leNat]
  omega

/-- An identity block of model 5 with its limits (R67). -/
def identityOf : List Byte :=
  areaBytes (natBytes 8 (0x4B50564F + 2 ^ 32 + 256 * 2 ^ 48) ++ List.replicate 32 0x41 ++ natBytes 4 5 ++ List.replicate 20 0x42
    ++ natBytes 12 7 ++ natBytes 8 (0x10021008 + 512 * 2 ^ 32 + 1 * 2 ^ 48 + 1 * 2 ^ 56) ++ natBytes 8 10000 ++ natBytes 4 1
    ++ natBytes 20 (1 + 2 ^ 32 + 2 ^ 64 + 2 ^ 96 + 2 ^ 128) ++ natBytes 4 0x0102003C) 256

/-- The identity memory of a pack that carries no signature. -/
def newPack : PackMem :=
  { failures := 3, identity := identityOf, signature := List.replicate 512 0xFF, geometry := areaBytes [] 1024,
    servo := areaBytes [] 2048, locator := areaBytes [] 256, life0 := areaBytes (natBytes 8 (1 + 2 ^ 32 + 1024 * 2 ^ 48)) 1024, life1 := [],
    logHeader := List.replicate 64 0xFF, lifeWritten := true }

/-- A pack that settles, its tile linked, a model table of model 5 and a policy that takes unsigned packs. -/
def settling : State :=
  let s := (((packIn .present).updPack 0 (fun k => { k with settling := true })).updTile 0 (fun t => { t with linkUp := true })).setParam 0x5000 1 5
  ({ s with clusters := { s.clusters with active := some 0 } }).setParam 0x7410 1 1

/-- Its factory areas are in order (R68). -/
theorem newPack_factoryOk : factoryOk newPack (parseIdentity newPack.identity) = true := by
  have h1 : areaOk newPack.geometry 1024 = true := areaOk_areaBytes _ _ (by decide)
  have h2 : areaOk newPack.servo 2048 = true := areaOk_areaBytes _ _ (by decide)
  have h3 : areaOk newPack.locator 256 = true := areaOk_areaBytes _ _ (by decide)
  simp only [factoryOk, h1, h2, h3, Bool.true_and]
  decide +kernel

/-- A readable pack in order, of a known model and an accepted class, with its first life copy valid, is accepted (R92). -/
theorem verifyPack_ok {s : State} {p : PackId} {m : PackMem} (h1 : s.tiles[tileOf p].servoOut = false) (h2 : s.tiles[tileOf p].linkUp = true)
    (h3 : memReadable m = true) (h4 : identityOk m.identity = true) (h5 : factoryOk m (parseIdentity m.identity) = true)
    (h6 : (s.modelSet (parseIdentity m.identity).modelCode).isSome = true) (h7 : policyAccepts (s.param 0x7410 1) (s.packClass m) = true)
    (h8 : lifeOk m.life0 = true) (h9 : lifeOk m.life1 = false) (h10 : s.packs[p].removable = false) :
    s.verifyPack p m = .ok (parseIdentity m.identity, s.packClass m, parseLife m.life0 0, false) := by
  simp only [State.verifyPack, State.blockOk, chooseLife, h1, h2, h3, h4, h5, h6, h7, h8, h9, h10, Bool.false_eq_true, if_false, not_true_eq_false,
    Bool.and_self, Bool.and_false, if_true]

/-- The state in which the pack of `settling` is judged. -/
def settled (m : PackMem) : State := (settling.updPack 0 (fun k => { k with settling := false, i2c := { k.i2c with identity := 0 } })).takeMemory 0 m

theorem newPack_accepted : ∃ x, (settled newPack).verifyPack 0 newPack = .ok x := by
  have h : lifeOk newPack.life0 = true := by
    have h : areaOk newPack.life0 1024 = true := areaOk_areaBytes _ _ (by decide)
    simp only [lifeOk, h, Bool.true_and]
    decide +kernel
  exact ⟨_, verifyPack_ok (by decide +kernel) (by decide +kernel) rfl (by decide +kernel) newPack_factoryOk (by decide +kernel)
    (by decide +kernel) h (by decide +kernel) (by decide +kernel)⟩

/-- O17. -/
theorem witness_PackPresenceAndVerification :
    (State.reset.packFitted 31 = true ∧ State.reset.packs[(31 : PackId)].state = .absent)
    ∧ (packIn .ready).packs[p0].state ≠ .absent
    ∧ (let s := settling
       s.packs[p0].state = .present ∧ s.packs[p0].settling = true ∧ s.clusters.active.isSome = true ∧ s.dev.state ≠ .zephyr
        ∧ (∃ c, (settled { newPack with failures := 4 }).verifyPack 0 { newPack with failures := 4 } = .error c)
        ∧ (∃ x, (settled newPack).verifyPack 0 newPack = .ok x))
    ∧ (let s := settling.updPack 0 (fun k => { k with state := .failed })
       s.packs[p0].settling = true ∧ s.clusters.active.isSome = true ∧ s.dev.state ≠ .zephyr ∧ s.packs[p0].state ≠ .present)
    ∧ (∀ n ∈ [2, 3], let s := (packIn .present).updPack 0 (fun k => { k with i2c := { k.i2c with identity := n } })
       s.packs[p0].state ≠ .absent ∧ s.packs[p0].settling = false ∧ s.packs[p0].i2c.get 0 = n)
    ∧ (let s := (packIn .present).updPack 0 (fun k => { k with settling := true, i2c := { k.i2c with identity := 2 } })
       s.packs[p0].state ≠ .absent ∧ (s.packs[p0].settling = false ∨ (1 : Fin 4) ≠ 0) ∧ s.packs[p0].i2c.get 1 < 3)
    ∧ (let s := State.reset.updPack 0 (fun k => { k with lifeRead := true, spindle := { k.spindle with state := .atSpeed, speed := 7200 } })
       s.packs[p0].lifeRead = true ∧ s.packs[p0].spindle.turning = true) := by
  refine ⟨by decide +kernel, by decide +kernel, ⟨by decide +kernel, by decide +kernel, by decide +kernel, by decide +kernel,
    ⟨1, by rfl⟩, newPack_accepted⟩, by decide +kernel, by decide +kernel, by decide +kernel, by decide +kernel⟩

/-- Arm 0 of pack 0 with its link changed. -/
def linkWith (s : State) (f : ArmLink → ArmLink) : State := s.updLink 0 0 f

/-- A frame of a type and body with its CRC-8 (R79). -/
def frameOf (l : List Byte) : List Byte := l ++ natBytes 1 (crc8 l)

/-- O18: whole and damaged frames; the timers; the third resend and the fourth echo time-out; the third attempt at training. -/
theorem witness_ArmLinkFrames :
    (let s := linkWith (packIn .present) (fun l => { l with state := .up })
     let status := frameOf [0x50, 0, 0, 0, 0, 9, 0]
     let resp := frameOf [0x60, 0, 0, 0, 0, 0]
     s.packs[p0].state ≠ .absent ∧ (s.arm p0 a0).link.state = .up ∧ frameOk 5 8 status = true ∧ frameOk 5 8 (status.drop 1) = false
      ∧ frameOk 6 7 resp = true ∧ frameOk 6 7 status = false)
    ∧ (let s := linkWith (packIn .present) (fun l => { l with state := .training })
       let status := frameOf [0x50, 1, 2, 0, 0, 9, 0]
       s.packs[p0].state ≠ .absent ∧ (s.arm p0 a0).link.state = .training ∧ frameOk 5 8 status = true
        ∧ fieldAt status 1 1 % 8 ≠ 0 ∧ fieldAt status 2 2 ≠ 0)
    ∧ (let s := (linkWith (packIn .present) (fun l => { l with state := .up })).updFmt 0 0 (fun f => { f with regWait := [(3, 0), (4, 1)] })
       (s.arm p0 a0).fmt.regWait.find? (fun w => w.2 = fieldAt (frameOf [0x60, 0, 0, 0, 0, 0]) 5 1) = some (3, 0))
    ∧ (∀ n ∈ [2, 3], let s := linkWith State.reset (fun l => { l with state := .up, unechoed := [⟨1, [], n⟩] })
        (s.arm p0 a0).link.state = .up ∧ (s.arm p0 a0).link.unechoed = ⟨1, [], n⟩ :: [])
    ∧ (∀ n ∈ [1, 2], let s := linkWith (packIn .spinning) (fun l => { l with state := .training, attempts := n })
        s.packs[p0].state ≠ .absent ∧ (s.arm p0 a0).link.state = .training ∧ (s.arm p0 a0).link.attempts = n) := by decide +kernel

/-! ### Hypotheses that can be met: pack commands, zone tables, lanes -/

/-- A zone record of the system format's cell rate with one sector a track (R123). -/
def zoneRec0 : List Byte := natBytes 4 20480000 ++ natBytes 8 1 ++ List.replicate 18 0 ++ natBytes 6 8192 ++ List.replicate 28 0
/-- The records of 16 surfaces, one zone each, and their set. -/
def zoneRecs : List (List Byte) := (List.replicate 16 (zoneRec0 :: List.replicate 63 (List.replicate 64 0))).flatten
def zoneBytes : List Byte :=
  natBytes 64 (0x545A564F + 1 * 2 ^ 32 + 7200 * 2 ^ 48 + 1 * 2 ^ 64 + 16 * 2 ^ 72 + 64 * 2 ^ 80) ++ zoneRecs.flatten

theorem zoneRecs_lengths : ∀ c ∈ zoneRecs, c.length = 64 := by
  intro c hc
  have h : c = zoneRec0 ∨ c = List.replicate 64 0 := by
    simp only [zoneRecs, List.mem_flatten, List.mem_replicate] at hc
    obtain ⟨l, ⟨-, rfl⟩, hc⟩ := hc
    simp only [List.mem_cons, List.mem_replicate] at hc
    exact hc.imp id (fun h => h.2)
  rcases h with rfl | rfl <;> decide +kernel

theorem chunks64_flatten (l : List (List Byte)) (h : ∀ c ∈ l, c.length = 64) : chunks64 l.length l.flatten = l := by
  induction l with
  | nil => rfl
  | cons c l ih =>
    have hc : c.length = 64 := h c (by simp)
    simp only [List.length_cons, List.flatten_cons, chunks64]
    rw [List.take_append_of_le_length (by omega), List.drop_append_of_le_length (by omega), List.take_of_length_le (by omega),
      List.drop_of_length_le (by omega), List.nil_append, ih (fun c h' => h c (by simp [h']))]

theorem zoneBytes_chunks : chunks64 1024 (zoneBytes.drop 64) = zoneRecs := by
  have hd : zoneBytes.drop 64 = zoneRecs.flatten := by
    rw [zoneBytes, List.drop_append_of_le_length (by decide +kernel), List.drop_of_length_le (by decide +kernel), List.nil_append]
  have hl : zoneRecs.length = 1024 := by decide +kernel
  have hc := chunks64_flatten zoneRecs zoneRecs_lengths
  rw [hl] at hc
  rw [hd, hc]

theorem zoneBytes_length : zoneBytes.length = 65600 := by
  have h : (zoneRecs.map List.length) = zoneRecs.map (fun _ => 64) := List.map_congr_left zoneRecs_lengths
  rw [zoneBytes, List.length_append, List.length_flatten, h]
  decide +kernel

/-- The set is accepted for a pack whose surfaces begin at track 0 and whose digest is its own (R124, R137). -/
theorem zoneBytes_matches : zoneSetMatches zoneBytes 1 7200 (sha384 zoneBytes).toNat [] none = true := by
  have h1 : zoneHeaderOk zoneBytes 1 7200 = true := by decide +kernel
  have h2 : recordsClean zoneBytes 1 = true := by
    simp only [recordsClean, zoneBytes_chunks]
    decide +kernel
  have h3 : (List.range 16).all (fun s => surfaceOk (parseZones zoneBytes) s (([] : List Surface).getD s {}).firstData) = true := by
    simp only [parseZones, zoneBytes_chunks]
    decide +kernel
  simp only [zoneSetMatches, zoneBytes_length, h1, h2, h3, beq_self_eq_true, Bool.and_self]

/-- The set of the first speed among the sectors of a locator's track that begin with it (R122). -/
theorem zoneBytes_first : zoneSetBytes zoneBytes false = zoneBytes :=
  List.take_of_length_le (Nat.le_of_eq zoneBytes_length)

/-- A device in Open with pack 0 in a state, in span 0 or in none. -/
def packOpen (k : PackState) (spanned : Bool) : State :=
  let s := { packIn k with dev := { State.reset.dev with state := .opened } }
  if spanned then s.updSpan 0 (fun x => { x with configured := true, members := 1 }) else s

/-- O19. -/
theorem witness_PackCommandsAndSpinUp :
    (inState .boot).dev.state.packCommands = false
    ∧ (∀ k ∈ [PackState.absent, .present, .verified, .spinning, .loaded, .ready, .draining, .spent, .failed, .retired],
        (packOpen k false).dev.state.packCommands = true ∧ (packOpen k false).packs[p0].state = k ∧ (packOpen k false).inSpan p0 = false
        ∧ (packOpen k true).packs[p0].state = k ∧ (packOpen k true).inSpan p0 = true)
    ∧ (let s := packOpen .verified false
       s.spinWanted p0 = true ∧ s.spinNeeded p0 = true ∧ s.spinQueue.contains p0 = false ∧ s.packs[p0].spindle.spinningUp = false)
    ∧ ((packOpen .spinning false).packs[p0].state = .spinning ∧ (packOpen .spinning false).packs[p0].spindle.inWindow = false)
    ∧ (∀ k ∈ [PackState.draining, .spent], let s := (packOpen k true).updPack 0 (fun k => { k with spindle := { k.spindle with spinningUp := true } })
        s.packs[p0].state = k ∧ s.packs[p0].spindle.inWindow = false ∧ s.packs[p0].spindle.spinningUp = true) := by
  decide +kernel

/-- A pack of model 5 at 7,200 rpm, loaded, with a log record waiting, and a stale one written 60 s ago. -/
def logged (next now : Nat) : State :=
  { (packOpen .loaded false).updPack 0 (fun k => { k with
      identity := some { zones := 1, speed0 := 7200 }, block := some { zones := 1, speed0 := 7200 },
      factory := some { digest0 := (sha384 zoneBytes).toNat }, spindle := { k.spindle with target := 7200 },
      log := { k.log with ready := true, next := next, waiting := [{}], newest := some {}, stale := true, rewrittenAt := 0 } }) with now := now }

/-- O20: the log at its first and last slots, the repeat rewrite at 60 s; zone table copies that match and that do not. -/
theorem witness_PackSensorsLogAndZones :
    (∀ n ∈ [0, 894], let s := logged n (60 * 10 ^ 9)
      s.packs[p0].state ≠ .absent ∧ s.packs[p0].settling = false ∧ s.dev.state ≠ .off ∧ s.dev.state ≠ .zephyr
      ∧ s.packs[p0].block = some { zones := 1, speed0 := 7200 }
      ∧ s.packs[p0].log.waiting = {} :: [] ∧ s.packs[p0].log.ready = true ∧ s.packs[p0].log.due = [] ∧ s.packs[p0].log.newest = some {}
      ∧ s.packs[p0].log.stale = true ∧ s.packs[p0].log.rewrittenAt + 60 * 10 ^ 9 ≤ s.now ∧ s.packs[p0].log.next = n)
    ∧ ((packIn .present).packs[p0].state ≠ .absent ∧ (packIn .present).packs[p0].block = none)
    ∧ (let s := (logged 0 (60 * 10 ^ 9)).updPack 0 (fun k => { k with log := { k.log with due := [(5, {}, 0)] } })
       s.packs[p0].log.due = (5, {}, 0) :: [] ∧ (5, ({} : EvRec), 0).2.2 + 60 * 10 ^ 9 ≤ s.now)
    ∧ (let s := logged 0 0
       s.packs[p0].identity = some { zones := 1, speed0 := 7200 } ∧ s.packs[p0].factory = some { digest0 := (sha384 zoneBytes).toNat }
        ∧ s.packs[p0].state = .loaded ∧ s.packs[p0].spindle.target = 7200)
    ∧ zoneSetMatches (zoneSetBytes zoneBytes false) 1 7200 (sha384 zoneBytes).toNat [] none = true
    ∧ zoneSetMatches (zoneSetBytes [] false) 1 7200 (sha384 zoneBytes).toNat [] none = false :=
  ⟨by decide +kernel, by decide +kernel, by decide +kernel, ⟨rfl, rfl, rfl, rfl⟩, (congrArg (fun l => zoneSetMatches l 1 7200 _ [] none) zoneBytes_first).trans zoneBytes_matches,
    by decide +kernel⟩

/-- A transfer of the four sectors of track 0 by lane 0. -/
def run0 (type : Nat) : Run := { lane := 0, track := 0, first := 0, count := 4, type := type }

/-- Lane 0 of arm 0 of a zoned pack 0 at a locked time base at an angle, running one transfer of a type. -/
def laneAt (angle type : Nat) (f : Channel → Channel) : State :=
  ((((zoned (withTb State.reset { state := .locked, angle := BitVec.ofNat 40 angle }) 4).updFmt 0 0 (fun f =>
      { f with running := true, runs := [run0 type] })).updServo
      0 0 (fun v => { v with mode := .following, armedSent := 1, armedEchoed := 1 })).updLane 0 0 0
    (fun l => { l with servo := { l.servo with inhibit := false } })).updChan 0 0 0 f
def laneOn : Nat → (Channel → Channel) → State := laneAt 0

/-- A gate that is due does not cross a servo window. -/
def dueClear (write : Bool) (x : Option (GatePlan × AngleTime)) : Bool :=
  x.any (fun g => !crossesWindow g.1.first (if write then g.1.writeEnd else g.1.readEnd))

theorem due_of {write : Bool} {x : Option (GatePlan × AngleTime)} (h : dueClear write x = true) :
    ∃ g t, x = some (g, t) ∧ crossesWindow g.first (if write then g.writeEnd else g.readEnd) = false := by
  cases x with
  | none => simp [dueClear] at h
  | some g => exact ⟨g.1, g.2, rfl, by simpa [dueClear] using h⟩

/-- Lane 0 with its skew drifting during a measurement, so that its gates are refused (R155). -/
def refusedTime (s : State) : State :=
  (s.updTb 0 (fun t => { t with measuring := true })).updLane 0 0 0 (fun l => { l with time := .drifting })

/-- O21: the lane limit's last place; gates and windows; a write buffer's fourth place; a sector whole and split. -/
theorem witness_LanePowerAndWriteGates :
    (let s := (State.reset.updChan 0 0 0 (fun c => { c with power := .servoOnly, waiting := some 0 })).updArm 0 0 (fun x => { x with activeLimit := 1 })
     (s.lane p0 a0 h0).chan.power = .servoOnly ∧ (s.arm p0 a0).oldestWaiting = some h0 ∧ (s.arm p0 a0).activeLanes < (s.arm p0 a0).activeLimit)
    ∧ (let s := (State.reset.updChan 0 0 0 (fun c => { c with power := .idle })).updArm 0 0 (fun x => { x with activeLimit := 1 })
       (s.arm p0 a0).activeLimit ≤ (s.arm p0 a0).activeLanes ∧ (s.lane p0 a0 h0).chan.power = .idle
        ∧ (s.lane p0 a0 h0).chan.readOpen = false ∧ (s.lane p0 a0 h0).chan.writing = none)
    ∧ (let s := laneOn 1 (fun c => { c with power := .idle })
       (s.lane p0 a0 h0).chan.power ≠ .off ∧ s.packs[p0].tb.state ≠ .stopped ∧ s.packs[p0].tb.state ≠ .lost)
    ∧ (∀ x ∈ [2 ^ 19 - 13312, 2 ^ 19 - 1, 2 ^ 19, 2 ^ 19 + 14591], let s := laneAt x 1 (fun c => { c with power := .idle })
        ((s.laneAngle p0 a0 h0).toNat + windowBefore false) % 2 ^ 19 < windowBefore false + windowAfter false)
    ∧ (∀ x ∈ [2 ^ 19 - 17920, 16383], ∀ e ∈ [x, x + 1],
        let s := laneAt x 1 (fun c => { c with writing := some { addr := 0 }, gateEnd := BitVec.ofNat 40 e })
        (s.lane p0 a0 h0).chan.writeOpen = true ∧ s.inProtect p0 a0 h0 = true
        ∧ angleReached (s.lane p0 a0 h0).chan.gateEnd (s.laneAngle p0 a0 h0) = decide (e = x))
    ∧ (laneAt 16384 1 id).inProtect p0 a0 h0 = false ∧ ((laneAt 16384 1 id).lane p0 a0 h0).chan.writeOpen = false
    ∧ (let t := (laneAt 16384 1 (fun c => { c with power := .idle, wbuf := List.replicate 3 ⟨1, []⟩ })).atNext p0 a0 h0 true
       (t.arm p0 a0).fmt.run h0 true = some (run0 1) ∧ (t.arm p0 a0).fmt.running = true ∧ (run0 1).type = 1
        ∧ (run0 1).done + 0 < (run0 1).count ∧ (List.replicate 4152 (0 : Byte)).length = 4152
        ∧ (t.lane p0 a0 h0).chan.wbuf.length < 4 ∧ (t.arm p0 a0).fmt.committed = false
        ∧ (t.lane p0 a0 h0).chan.power.active = true ∧ (t.lane p0 a0 h0).chan.writeOpen = false ∧ (t.lane p0 a0 h0).chan.writing = none
        ∧ t.tbUsable p0 = true ∧ t.coastHolds p0 = false ∧ t.servoOpen p0 a0 h0 = false ∧ (t.lane p0 a0 h0).chan.readOpen = false
        ∧ t.timeRefused p0 a0 h0 = false
        ∧ (∃ g at_, t.dueGate p0 a0 h0 (mkAddr 0 0 0 0) false 0 = some (g, at_) ∧ crossesWindow g.first g.writeEnd = false)
        ∧ t.mayWrite p0 a0 h0 (run0 1) = true)
    ∧ (let t := ((laneAt 16384 1 (fun c => { c with power := .idle })).updFmt 0 0 (fun f => { f with committed := true })).atNext p0 a0 h0 true
       (t.arm p0 a0).fmt.committed = true ∧ (t.lane p0 a0 h0).chan.wbuf.any (fun b => b.addr = mkAddr 0 0 0 0) = false)
    ∧ ((laneAt 16384 1 (fun c => { c with power := .idle, readOpen := true })).atNext p0 a0 h0 true |>.lane p0 a0 h0).chan.readOpen = true
    ∧ (let t := (refusedTime (laneAt 16384 1 (fun c => { c with power := .idle }))).atNext p0 a0 h0 true
       t.coastHolds p0 = false ∧ t.timeRefused p0 a0 h0 = true ∧ (t.arm p0 a0).fmt.run h0 true = some (run0 1)
        ∧ dueClear true (t.dueGate p0 a0 h0 (mkAddr 0 0 0 0) false 0) = true)
    ∧ (let t := (withTb (laneAt 16384 1 id) { state := .coast, missed := 2, angle := 16384 }).atNext p0 a0 h0 true
       t.tbUsable p0 = true ∧ t.coastHolds p0 = true)
    ∧ (let t := (laneAt 16384 1 (fun c => { c with power := .idle, wbuf := [⟨0, []⟩] })).atNext p0 a0 h0 true
       (t.lane p0 a0 h0).chan.wbuf.any (fun b => b.addr = mkAddr 0 0 0 0) = true)
    ∧ (let t := (laneAt 16384 1 (fun c => { c with power := .idle, writing := some { addr := 0, closed := 1, isOpen := false } })).atNext p0 a0 h0 true
       (t.lane p0 a0 h0).chan.writing.isSome = true ∧ (t.lane p0 a0 h0).chan.writeOpen = false)
    ∧ (let s := (laneAt 16384 1 (fun c => { c with power := .idle })).updFmt 0 0 (fun f => { f with running := true })
       (s.lane p0 a0 h0).chan.power = .idle ∧ (s.arm p0 a0).fmt.names h0 = true)
    ∧ (∀ n ∈ [0, 1], ∀ last ∈ [false, true], let s := laneAt 16384 1 (fun c => { c with writing := some { addr := 0, closed := n, last := last }, gateEnd := 16384 })
        (s.lane p0 a0 h0).chan.writing = some { addr := 0, closed := n, last := last }
        ∧ angleReached (s.lane p0 a0 h0).chan.gateEnd (s.laneAngle p0 a0 h0) = true)
    ∧ (laneOn 1 id).isSplit p0 a0 h0 0 = false
    ∧ (let s := (laneOn 1 id).updPack 0 (fun k => { k with media := { k.media with zones := some ⟨0, 1, List.replicate 16 { cells := 20480000, sectors := 4 }⟩ } })
       s.isSplit p0 a0 h0 0 = true) := by
  refine ⟨by decide +kernel, by decide +kernel, by decide +kernel, by decide +kernel, by decide +kernel, by decide +kernel, by decide +kernel, ?_,
    by decide +kernel, by decide +kernel, by decide +kernel, by decide +kernel, by decide +kernel, by decide +kernel, by decide +kernel,
    by decide +kernel, by decide +kernel, by decide +kernel⟩
  refine ⟨by decide +kernel, by decide +kernel, rfl, by decide, List.length_replicate, by decide +kernel, by decide +kernel, by decide +kernel,
    by decide +kernel, by decide +kernel, by decide +kernel, by decide +kernel, by decide +kernel, by decide +kernel, by decide +kernel,
    due_of (write := true) (by decide +kernel), by decide +kernel⟩

/-! ### Hypotheses that can be met: read gates, recovery, servo, VCM -/

/-- A sector in the sample store whose marks were found at their places. -/
def reading (phase : ReadPhase) (split : Bool) (closed : Nat) : Reading :=
  { addr := 0, split := split, verify := false, phase := phase, closed := closed, mark1 := some ⟨0, 0, false⟩, mark2 := some ⟨0, 0, false⟩,
    params := [3, 2, 16, 16, 64, 16, 1400, 15, 30, 2] }

/-- Lane 0 at the sector that its transfer reads next, with a sample store. -/
def readAt (l : List Reading) : State := (laneAt 16384 0 (fun c => { c with power := .idle, store := l })).atNext p0 a0 h0 false

/-- O22: the store free and full; a cancel, a lane whose time is refused, a write gate open and a servo window; a second gate of a split sector; a decision and a closing gate at the first and the second fragment. -/
theorem witness_ReadGates :
    (∀ l ∈ [[reading .ended false 1], [reading .recovering false 1, reading .decoding false 1],
        [reading .recovering false 1, reading .recovering false 1], [reading .reading true 1]],
      let t := readAt l
      (t.arm p0 a0).fmt.run h0 false = some (run0 0) ∧ (t.arm p0 a0).fmt.running = true ∧ (run0 0).type ≠ 1
      ∧ (t.lane p0 a0 h0).chan.power.active = true ∧ (t.lane p0 a0 h0).chan.readOpen = false ∧ t.tbUsable p0 = true
      ∧ (t.arm p0 a0).fmt.readTurn (run0 0) = true ∧ t.timeRefused p0 a0 h0 = false
      ∧ (t.arm p0 a0).fmt.cancel = false ∧ t.servoOpen p0 a0 h0 = false ∧ (t.lane p0 a0 h0).chan.writeOpen = false)
    ∧ (∃ g at_, (readAt [reading .ended false 1]).dueGate p0 a0 h0 (mkAddr 0 0 0 0) false 0 = some (g, at_)
        ∧ crossesWindow g.first g.readEnd = false)
    ∧ (((readAt []).updFmt 0 0 (fun f => { f with cancel := true })).arm p0 a0).fmt.cancel = true
    ∧ (refusedTime (readAt [])).timeRefused p0 a0 h0 = true
    ∧ (((readAt []).updChan 0 0 0 (fun c => { c with writing := some { addr := 0 } })).lane p0 a0 h0).chan.writeOpen = true
    ∧ (let t := ((laneAt 16384 0 (fun c => { c with power := .idle })).updFmt 0 0 (fun f => { f with runs := [], laddering := true })).atNext p0 a0 h0 false
       (t.arm p0 a0).fmt.run h0 false = none ∧ (t.arm p0 a0).fmt.running = true ∧ (t.arm p0 a0).fmt.laddering = true
        ∧ (t.lane p0 a0 h0).chan.power.active = true ∧ (t.lane p0 a0 h0).chan.readOpen = false ∧ (t.lane p0 a0 h0).chan.writeOpen = false
        ∧ t.servoOpen p0 a0 h0 = false ∧ t.tbUsable p0 = true)
    ∧ ([reading .recovering false 1, reading .recovering false 1].any (fun x => x.phase = .reading) = false
        ∧ storeRoom [reading .recovering false 1, reading .recovering false 1] = none
        ∧ storeRoom [reading .recovering false 1, reading .decoding false 1] ≠ none)
    ∧ ([reading .ended false 1].any (fun x => x.phase = .reading) = false ∧ storeRoom [reading .ended false 1] = some [reading .ended false 1])
    ∧ [reading .reading true 1].any (fun x => x.phase = .reading) = true
    ∧ (∀ n ∈ [0, 1], let r := { reading .reading true n with decided := n }
        let s := laneAt 16384 0 (fun c => { c with power := .reading, readOpen := true, gateEnd := 16384, store := [r] })
        (s.lane p0 a0 h0).chan.readOpen = true ∧ (s.lane p0 a0 h0).chan.store.find? (fun r => r.phase = .reading) = some r
        ∧ r.decided = r.closed
        ∧ angleReached (decisionTime (s.lane p0 a0 h0).chan.gateFrom 20480000 16 (decide (0 < n))) (s.laneAngle p0 a0 h0) = true
        ∧ angleReached (s.lane p0 a0 h0).chan.gateEnd (s.laneAngle p0 a0 h0) = true)
    ∧ alignments true (some ⟨0, 0, false⟩) (some ⟨0, 0, false⟩) = some (0, 0, false)
    ∧ alignments true (some ⟨4, 0, false⟩) none = some (4, 0, true) ∧ alignments true (some ⟨5, 0, false⟩) none = none
    ∧ alignments false none none = none :=
  ⟨by decide +kernel, due_of (write := false) (by decide +kernel), by decide +kernel, by decide +kernel, by decide +kernel, by decide +kernel,
    by decide +kernel, by decide +kernel, by decide +kernel, by decide +kernel, by decide +kernel, by decide +kernel, by decide +kernel,
    by decide +kernel⟩

/-- An attempt ended the sector. -/
def finalB : Fate → Bool
  | .final _ => true
  | .failed _ _ => false

theorem final_of {x : Fate} (h : finalB x = true) : ∃ e, x = .final e := by
  cases x with
  | final e => exact ⟨e, rfl⟩
  | failed w e => cases h

theorem failed_of {x : Fate} (h : finalB x = false) : ∃ w e, x = .failed w e := by
  cases x with
  | final e => cases h
  | failed w e => exact ⟨w, e, rfl⟩

/-- A ladder read of 24 cells without a signal that decodes to a word of zeros within `n` iterations. -/
def ladderRead (n : Nat) : LadderRead :=
  ⟨markBits false, [], List.replicate 24 ⟨0, false, 0, 0, 0, 0, 0⟩, [], [], ⟨0, n⟩, 0, ⟨[], ⟨0, 999⟩, ⟨0, 999⟩⟩⟩

/-- Lane 0 at the end of a ladder read of a sector. -/
def ladderAt (x : LadderSector) : State :=
  ((laneAt 16384 0 (fun c => { c with power := .reading, readOpen := true, gateEnd := 16384, tail := [100] })).updServo 0 0
    (fun v => { v with coef := [(0x2902, 16384)] })).updFmt 0 0 (fun f => { f with laddering := true, ladder := [x] })

/-- A sector in the ladder, its read under way. -/
def ladderSector (drop0 : Bool) : LadderSector :=
  { lane := 0, addr := 0, reason := 0x11, step := 1, drop0 := drop0, passing := true, params := [3, 2, 0, 16, 64, 16, 1400, 15, 30, 2] }

/-- O23: a word of zeros is the torn pattern, which ends the sector; a decode beyond its limit fails. -/
theorem witness_SectorRecovery :
    (∀ ph ∈ [ReadPhase.decoding, .recovering],
      ((laneOn 0 (fun c => { c with store := [reading ph false 1] })).lane p0 a0 h0).chan.store.find? (fun r => r.phase = ph) = some (reading ph false 1))
    ∧ alignments false (some ⟨0, 0, false⟩) (some ⟨0, 0, false⟩) = some (0, 0, false)
    ∧ (let r := reading .decoding false 1
       (∃ e, firstDecode (recOf r.params 4) r.relaxed false 0 0 (r.llr 0 0 false) (r.base 0) ⟨0, 16⟩ = .final e)
        ∧ (∃ why e, firstDecode (recOf r.params 4) r.relaxed false 0 0 (r.llr 0 0 false) (r.base 0) ⟨0, 17⟩ = .failed why e))
    ∧ (let r := reading .recovering false 1
       (∃ e, recoverStored r.params r.split 0 0 r.llr ⟨[], ⟨0, 64⟩, ⟨0, 0⟩⟩ (r.base 0) 0x11 = .final e)
        ∧ (∃ why e, recoverStored r.params r.split 0 0 r.llr ⟨[], ⟨0, 65⟩, ⟨0, 0⟩⟩ (r.base 0) 0x11 = .failed why e))
    ∧ (∀ d ∈ [true, false], let x := ladderSector d
       let s := ladderAt x
       (s.arm p0 a0).fmt.ladder.find? (fun x => x.lane = h0 ∧ x.addr = 0) = some x ∧ (s.arm p0 a0).fmt.laddering = true
        ∧ x.passing = true ∧ (s.lane p0 a0 h0).chan.readOpen = true
        ∧ angleReached (s.lane p0 a0 h0).chan.gateEnd (s.laneAngle p0 a0 h0) = true
        ∧ x.step = 1 ∧ x.drop0 = d ∧ (s.ladderReading p0 a0 x (ladderRead 16)).dropout = true)
    ∧ (let x := ladderSector false
       let s := ladderAt x
       let r := s.ladderReading p0 a0 x (ladderRead 16)
       (∃ e, s.ladderFate p0 a0 x r (ladderRead 16) = .final e) ∧ (∃ why e, s.ladderFate p0 a0 x r (ladderRead 17) = .failed why e))
    ∧ ((laneOn 0 (fun c => { c with ends := [{ addr := 0, outcome := 0 }] })).lane p0 a0 h0).chan.ends = { addr := 0, outcome := 0 } :: [] := by
  refine ⟨by decide +kernel, rfl, ⟨final_of (by decide +kernel), failed_of (by decide +kernel)⟩, ⟨final_of (by decide +kernel),
    failed_of (by decide +kernel)⟩, by decide +kernel, ⟨final_of (by decide +kernel), failed_of (by decide +kernel)⟩, rfl⟩

/-- Arm 0 of pack 0 in a mode, its lane group powered. -/
def armIn (m : ArmMode) : State :=
  (State.reset.updServo 0 0 (fun v => { v with mode := m })).updArm 0 0 (fun x => { x with laneGroup := true })

/-- Head 0 of that arm. -/
def headIn (f : HeadServo → HeadServo) : State := (armIn .following).updLane 0 0 0 (fun l => { l with servo := f l.servo })

/-- O24: a lane on and off; the last head of a wedge and one before it; the eighth wedge missed; the sixteenth valid wedge and the one
before; the unit's CRC and another. -/
theorem witness_ServoWedge :
    (let s := (armIn .following).updChan 0 0 0 (fun c => { c with power := .servoOnly })
     s.laneOn p0 a0 h0 = true ∧ (s.arm p0 a0).servo.mode.loaded = true ∧ s.tiles[tileOf p0].servoOut = false)
    ∧ ((armIn .unloaded).arm p0 a0).servo.mode.loaded = false ∧ State.reset.laneOn p0 a0 h0 = false
    ∧ (let s := headIn (fun v => { v with missRun := 8, status := .coastingInhibited })
       8 ≤ (s.lane p0 a0 h0).servo.missRun ∧ (s.lane p0 a0 h0).servo.status ≠ .lost ∧ (s.lane p0 a0 h0).servo.status ≠ .notInService)
    ∧ (∀ n ∈ [15, 16], let s := headIn (fun v => { v with validRun := n, status := .lost })
        (s.lane p0 a0 h0).servo.status = .lost ∧ (s.lane p0 a0 h0).servo.validRun = n) := by decide +kernel

/-- Another value than a state CRC. -/
theorem other_crc (x : Arm) : ∃ c, c ≠ x.unitCrc := ⟨x.unitCrc + 1, by omega⟩

/-- The motor gates may be driven: rail 0 on and the motor settings loaded. -/
def driven (s : State) : State :=
  { s with rails := s.rails.set 0 { s.rails[(0 : Fin 8)] with enable := true }, dev := { s.dev with motorLoaded := true } }

/-- O25: each mode that a timer ends; the settle limit at its boundary; the watchdog at its fourth period; gates live and off. -/
theorem witness_ArmLoadsParksAndVcm :
    (∀ m ∈ [ArmMode.loading, .searching, .settling, .parking, .gale, .unloaded], ((armIn m).arm p0 a0).servo.mode = m)
    ∧ (∀ n ∈ [1023, 1024], (((armIn .settling).updServo 0 0 (fun v => { v with wedgesSettling := n })).arm p0 a0).servo.wedgesSettling = n)
    ∧ (let s := (armIn .parking).updServo 0 0 (fun v => { v with stage := .unload })
       (s.arm p0 a0).servo.mode = .parking ∧ (s.arm p0 a0).servo.stage = .unload ∧ (s.arm p0 a0).servo.stage ≠ .position)
    ∧ (∀ n ∈ [3, 4], let s := driven ((armIn .following).updServo 0 0 (fun v => { v with noSetPoint := n }))
        (s.arm p0 a0).servo.mode.loaded = true ∧ (s.arm p0 a0).servo.noSetPoint = n ∧ s.gatesLive = true)
    ∧ ((armIn .unloaded).arm p0 a0).servo.mode.loaded = false ∧ State.reset.gatesLive = false ∧ State.reset.tileFitted 7 = true := by
  decide +kernel

/-! ### Hypotheses that can be met: spindles, buses, the object store -/

/-- Spindle 0 with its fields changed. -/
def spinWith (f : Spindle → Spindle) : State := State.reset.updSpin 0 f

/-- O26: with the gates live each driven state, short braking with the sum above its limit, and a spindle that stands; with the gates off; the
speed loop of a driven spindle and of one that is off. -/
theorem witness_SpindleLoops :
    (∀ st ∈ [SpinState.align, .forced, .accelerate, .atSpeed, .stop], let s := driven (spinWith (fun x => { x with state := st }))
      s.gatesLive = true ∧ s.packs[p0].spindle.braking = false ∧ s.packs[p0].spindle.state.driven = true ∧ s.packs[p0].spindle.state ≠ .off)
    ∧ (∀ st ∈ [SpinState.brake, .faultBrake], let s := driven (spinWith (fun x => { x with state := st }))
      s.gatesLive = true ∧ s.packs[p0].spindle.braking = true
      ∧ s.packs[p0].spindle.scaled (s.packs[p0].spindle.coef 0x1C 4) < (⟨1, 0⟩ : ShuntPair).first)
    ∧ (let s := driven State.reset
       s.gatesLive = true ∧ s.packs[p0].spindle.braking = false ∧ s.packs[p0].spindle.state.driven = false ∧ s.packs[p0].spindle.state = .off)
    ∧ State.reset.gatesLive = false
    ∧ (spinWith (fun x => { x with noDrive := true, state := .accelerate })).packs[p0].spindle.noDrive = true
    ∧ (spinWith (fun x => { x with shortBrake := true, state := .stop })).packs[p0].spindle.shortBrake = true := by decide +kernel

/-- O27: each run at its limit and one below. -/
theorem witness_SpindleStartsAndStops :
    (let x := (spinWith (fun x => { x with inWindowRun := 32, state := .accelerate })).packs[p0].spindle
     32 ≤ x.inWindowRun ∧ x.inWindow = false ∧ x.state = .accelerate)
    ∧ (∀ n ∈ [15, 16], (spinWith (fun x => { x with overRun := n, devRun := n })).packs[p0].spindle.overRun = n
        ∧ (spinWith (fun x => { x with overRun := n, devRun := n })).packs[p0].spindle.devRun = n)
    ∧ (∀ st ∈ [SpinState.watch, .align, .forced], (spinWith (fun x => { x with state := st })).packs[p0].spindle.state = st)
    ∧ (let x := (spinWith (fun x => { x with state := .forced, agreeRun := 64 })).packs[p0].spindle
       x.state = .forced ∧ 64 ≤ x.agreeRun)
    ∧ (∀ n ∈ [1, 2], let x := (spinWith (fun x => { x with state := .forced, agreeRun := 63, target := 10, forced := 1024, attempts := n })).packs[p0].spindle
       x.state = .forced ∧ x.agreeRun < 64 ∧ x.target * 1024 ≤ x.forced * 10 ∧ x.attempts = n)
    ∧ (∀ st ∈ [SpinState.watch, .align, .forced, .accelerate, .atSpeed], let s := spinWith (fun x => { x with state := st, stopDue := true })
        s.packs[p0].armsDown = true ∧ s.packs[p0].spindle.stopDue = true ∧ s.packs[p0].spindle.state = st)
    ∧ (armIn .following).packs[p0].armsDown = false ∧ State.reset.packFitted 31 = true := by decide +kernel

/-- Motor bus 0 with its fields changed. -/
def busWith (f : Bus → Bus) : State := State.reset.updBus 0 f

/-- O28: every run at its limit and one below; a sample at each threshold and one code below. -/
theorem witness_MotorBuses :
    (State.reset.busFitted 3 = true ∧ State.reset.gatesLive = false ∧ (driven State.reset).gatesLive = true)
    ∧ (∀ n ∈ [3, 4], (busWith (fun b => { b with faultRun := n })).buses[(0 : BusId)].faultRun = n)
    ∧ (let b := (busWith (fun b => { b with gate := true })).buses[(0 : BusId)]; b.fault = false ∧ b.feedback ≠ b.gate)
    ∧ State.reset.buses[(0 : BusId)].feedback = State.reset.buses[(0 : BusId)].gate
    ∧ (let b := (busWith (fun b => { b with freewheelRun := 2 })).buses[(0 : BusId)]; 2 ≤ b.freewheelRun ∧ b.freewheel = false)
    ∧ (let b := (busWith (fun b => { b with releaseRun := 2, freewheel := true })).buses[(0 : BusId)]; 2 ≤ b.releaseRun ∧ b.freewheel = true)
    ∧ (let b := (busWith (fun b => { b with underRun := 100 })).buses[(0 : BusId)]; 100 ≤ b.underRun ∧ b.undervoltage = false)
    ∧ (let b := (busWith (fun b => { b with underEndRun := 100, undervoltage := true })).buses[(0 : BusId)]
       100 ≤ b.underEndRun ∧ b.undervoltage = true)
    ∧ (let s := (State.reset.setParam 0x7030 1 75).setParam 0x7030 2 15
       s.param 0x7030 1 * 8 ≤ 8 * 75 ∧ 7 * 75 < s.param 0x7030 1 * 8 ∧ s.param 0x7030 2 * 8 < 7 * 75 ∧ 1 * 75 ≤ s.param 0x7030 2 * 8) := by
  decide +kernel

/-- `State.Runs` as a check. -/
def runsB (s : State) (q : SeqId) (c : CtxId) (op : Nat) : Bool :=
  (s.ctx q c).busy && (s.ctx q c).chain != [] && decide ((s.ctx q c).wait = .none) && !(s.ctx q c).held
    && fieldAt (s.ctx q c).chain 0 1 == op && !s.svc.seqs[q].fault && s.clusters.active.isSome && !s.hostStopped
    && (match s.svc.cmd (s.ctx q c).ring (s.ctx q c).slot with | some y => !y.committed && !y.aborted | none => true)

theorem runs_of {s : State} {q : SeqId} {c : CtxId} {op : Nat} (h : runsB s q c op = true) : s.Runs q c op := by
  simp only [runsB, Bool.and_eq_true, bne_iff_ne, ne_eq, decide_eq_true_eq, Bool.not_eq_true', beq_iff_eq] at h
  obtain ⟨⟨⟨⟨⟨⟨⟨⟨h1, h2⟩, h3⟩, h4⟩, h5⟩, h6⟩, h7⟩, h8⟩, h9⟩ := h
  refine ⟨h1, h2, h3, h4, h5, h6, Option.isSome_iff_ne_none.mp h7, h8, ?_⟩
  intro y hy
  rw [hy] at h9
  simpa using h9

/-- The reset state with cluster 0 active. -/
def active0 : State := { State.reset with clusters := { State.reset.clusters with active := some 0 } }

/-- Context 0 of service sequencer 0 runs a chain of ring 1, slot 0, with its command in flight. -/
def runChain (l : List Byte) : State :=
  (active0.updSvc (fun v => { v with cmds := [{ ring := 1, slot := 0 }] })).updCtx 0 0 (fun x =>
    { x with busy := true, ring := 1, slot := 0, chain := l })

/-- A descriptor of an object command: opcode, the flags that name the key by its hash and `flags`, span, offset and hash (R325). -/
def objDesc (op flags span offset hash : Nat) : List Byte :=
  natBytes 8 (op + (flags + 0x20) * 2 ^ 8 + span * 2 ^ 48) ++ natBytes 8 offset ++ List.replicate 32 0 ++ natBytes 16 hash

/-- A GET of 8 bytes from the start of an object. -/
def getDesc : List Byte := natBytes 8 (2 + 0x20 * 2 ^ 8) ++ natBytes 8 0 ++ natBytes 8 8 ++ List.replicate 24 0 ++ natBytes 16 7

/-- Span 0 of pack 0, which is Ready, an index of `n` slots and object entries. -/
def stored (s : State) (n : Nat) (objs : List ObjEntry) : State :=
  ((s.updSpan 0 (fun x => { x with configured := true, members := 1, k := 1, m := 0 })).updStore (fun t =>
    { t with formed := true, slots := n, objs := objs })).updPack 0 (fun k => { k with state := .ready })

/-- An entry of an object without data. -/
def obj0 : ObjEntry := { slot := 3, hash := 7, version := 1, size := 0, span := 0 }

/-- An entry of an object of 8 bytes in a petit-four stripe. -/
def obj8 : ObjEntry := { slot := 3, hash := 7, version := 1, size := 8, span := 0, petit := some (9, 0, 1) }

theorem ok_of {x : Except α β} (h : (match x with | .ok _ => true | .error _ => false) = true) : ∃ y, x = .ok y := by
  cases x with
  | ok y => exact ⟨y, rfl⟩
  | error e => cases h

theorem error_of {x : Except α β} (h : (match x with | .ok _ => true | .error _ => false) = false) : ∃ y, x = .error y := by
  cases x with
  | ok y => cases h
  | error e => exact ⟨e, rfl⟩

/-- O29: PUT with its lock free and held, its condition met and not, the index with room and without; GET at the object's size and one
beyond, with the object there and not; PATCH, DELETE, LIST and NOP_COMMAND. -/
theorem witness_ObjectCommands :
    (let s := stored (runChain (objDesc 1 0 0 0 7)) 1024 [obj0]
     s.Runs 0 0 1 ∧ s.behindOlder 1 0 7 = false ∧ (s.takeLock 7 1 0).1 = true ∧ s.chainHash (objDesc 1 0 0 0 7) = 7
      ∧ conditionFails (objDesc 1 0 0 0 7) (s.store.entry 7) false = none ∧ s.putSpan 0 = some 0 ∧ s.spanTakes 0 = true
      ∧ padTo (fieldAt (objDesc 1 0 0 0 7) 0x10 8) [] = [] ∧ (∃ y, (s.takeLock 7 1 0).2.formVersion 0 7 [] false = .ok y))
    ∧ (let s := stored (runChain (objDesc 1 0 0 0 7)) 0 []
       s.Runs 0 0 1 ∧ conditionFails (objDesc 1 0 0 0 7) (s.store.entry 7) false = none ∧ s.putSpan 0 = some 0 ∧ s.spanTakes 0 = true
        ∧ (∃ y, (s.takeLock 7 1 0).2.formVersion 0 7 [] false = .error y))
    ∧ (let s := (runChain (objDesc 1 0 0 0 7)).updStore (fun t => { t with locks := [{ hash := 7, holder := some (2, 0) }] })
       s.Runs 0 0 1 ∧ (s.takeLock 7 1 0).1 = false)
    ∧ conditionFails (objDesc 1 8 0 0 7) (some obj0) false = some (0x21, 0)
    ∧ ((runChain (objDesc 2 0 0 0 7)).Runs 0 0 2 ∧ (runChain (objDesc 2 0 0 0 7)).store.entry 7 = none)
    ∧ (∀ n ∈ [0, 1], let s := stored (runChain (objDesc 2 0 0 n 7)) 1024 [obj0]
        s.Runs 0 0 2 ∧ s.behindOlder 1 0 7 = false ∧ s.store.entry 7 = some obj0 ∧ conditionFails (objDesc 2 0 0 n 7) (some obj0) true = none
        ∧ fieldAt (objDesc 2 0 0 n 7) 8 8 = n ∧ obj0.size = 0)
    ∧ (let s := (stored (runChain getDesc) 1024 [obj8]).updHost (fun h => { h with rings := [{ num := 1, conn := 0, loc := 0 }] })
       s.Runs 0 0 2 ∧ s.behindOlder 1 0 7 = false ∧ s.store.entry 7 = some obj8 ∧ conditionFails getDesc (some obj8) true = none
        ∧ fieldAt getDesc 8 8 ≤ obj8.size ∧ s.ring? 1 = some { num := 1, conn := 0, loc := 0 }
        ∧ s.goodPrefix 0 obj8 (fieldAt getDesc 8 8) (min (fieldAt getDesc 8 8 + fieldAt getDesc 0x10 8) obj8.size) [] = (8, none))
    ∧ (∀ op ∈ [3, 4], let s := stored (runChain (objDesc op 0 0 0 7)) 1024 [obj0]
        s.Runs 0 0 op ∧ s.behindOlder 1 0 7 = false ∧ (s.takeLock 7 1 0).1 = true ∧ conditionFails (objDesc op 0 0 0 7) (some obj0) true = none)
    ∧ (let s := stored (runChain (objDesc 4 0 0 0 7)) 1024 []
       s.Runs 0 0 4 ∧ (s.takeLock 7 1 0).2.store.entry 7 = none)
    ∧ (let s := (runChain (objDesc 5 0 0 0 0)).updHost (fun h => { h with rings := [{ num := 1, conn := 0, loc := 0 }] })
       s.Runs 0 0 5 ∧ s.ring? 1 = some { num := 1, conn := 0, loc := 0 })
    ∧ (runChain (objDesc 0x0F 0 0 0 0)).Runs 0 0 0x0F := by
  refine ⟨⟨runs_of (by decide +kernel), by decide +kernel, by decide +kernel, by decide +kernel, by decide +kernel, by decide +kernel,
      by decide +kernel, by decide +kernel, ok_of (by decide +kernel)⟩,
    ⟨runs_of (by decide +kernel), by decide +kernel, by decide +kernel, by decide +kernel, error_of (by decide +kernel)⟩,
    ⟨runs_of (by decide +kernel), by decide +kernel⟩, by decide +kernel, ⟨runs_of (by decide +kernel), by decide +kernel⟩, fun n hn => ⟨?_, ?_⟩, ⟨runs_of (by decide +kernel), by decide +kernel⟩,
    fun op ho => ⟨?_, ?_⟩, ⟨runs_of (by decide +kernel), by decide +kernel⟩, ⟨runs_of (by decide +kernel), by decide +kernel⟩,
    runs_of (by decide +kernel)⟩
  · exact runs_of (List.all_eq_true.mp (by decide +kernel : ([0, 1].all (fun n =>
      runsB (stored (runChain (objDesc 2 0 0 n 7)) 1024 [obj0]) 0 0 2)) = true) n hn)
  · revert n; decide +kernel
  · exact runs_of (List.all_eq_true.mp (by decide +kernel : ([3, 4].all (fun op =>
      runsB (stored (runChain (objDesc op 0 0 0 7)) 1024 [obj0]) 0 0 op)) = true) op ho)
  · revert op; decide +kernel

/-! ### Hypotheses that can be met: the store's work, the host side -/

/-- A store's fields changed. -/
def storeWith (s : State) (f : Store → Store) : State := s.updStore f

/-- A stripe of span 0 with one leaf on pack 0, placed. -/
def stripe0 : Stripe := { addr := 9, gen := 1, k := 1, m := 1, present := 1, state := .placed, locs := [some ⟨0, 4, 0⟩, some ⟨1, 4, 0⟩] }

/-- Span 0 of packs 0 and 1, pack 0 Ready, pack 1 Absent and being rebuilt, with one stripe and an open petit-four stripe. -/
def spanned : State :=
  let s := State.reset.updSpan 0 (fun x => { x with configured := true, members := 3, k := 1, m := 1, rebuilding := 2 })
  let t := s.updSpan 0 (fun x => { x with stripes := [stripe0], petit := some { addr := 5, gen := 2, durableAt := some 1, lazyAt := some 2 } })
  t.updPack 0 (fun k => { k with state := .ready })

/-- A leaf write of tag 77 for span 0 that waits for its record, and that record, whole. -/
def leafWritten : State :=
  (storeWith spanned (fun t => { t with writes := [⟨77, 0, 9, 0, ⟨0, 4, 0⟩, none⟩] })).send
    (.completion 0 0 (natBytes 4 77 ++ List.replicate 4 0 ++ [0xFF, 0xFF] ++ List.replicate 54 0))

/-- O30. -/
theorem witness_LocksStripesAndJournal :
    (let s := storeWith State.reset (fun t => { t with locks := [{ hash := 7, holder := none, waiters := [(1, 0)] }] })
     s.store.lock? 7 = some { hash := 7, holder := none, waiters := [(1, 0)] })
    ∧ spanned.store.spans[(0 : SpanId)].petit = some { addr := 5, gen := 2, durableAt := some 1, lazyAt := some 2 }
    ∧ (State.reset.updSpan 0 (fun x => { x with petit := some { addr := 5, gen := 2 } })).store.spans[(0 : SpanId)].petit
        = some { addr := 5, gen := 2, durableAt := none }
    ∧ ((spanned.tryPlace 0 9).store.spans[(0 : SpanId)].stripe? 9).isSome = true
    ∧ (leafWritten.store.writes.find? (fun w => w.tag = 77 ∧ w.loc.pack = p0.val ∧ w.loc.band % 2 = a0.val) = some ⟨77, 0, 9, 0, ⟨0, 4, 0⟩, none⟩
        ∧ (leafWritten.recordOf 0 0 77).any wroteWhole = true ∧ leafWritten.clusters.failOver = none)
    ∧ (let s := storeWith (packIn .ready) (fun t => { t with formed := true, packs := [0, 1, 2, 3], current := [1, 2, 3] })
       s.store.journalWhole = true
        ∧ (storeWith s (fun t => { t with journal := [{ seq := 1, body := .mark 0 }] })).store.journalWhole = true
        ∧ (storeWith s (fun t => { t with journal := [{ seq := 1, body := .mark 0 }] })).store.journal ≠ [] ∧ s.store.formed = true ∧ s.store.packs.contains p0.val = true ∧ s.store.current.contains p0.val = false
        ∧ s.packs[p0].state = .ready ∧ s.store.current ≠ [])
    ∧ State.reset.store.journalWhole = false := by decide +kernel

/-- O31. -/
theorem witness_BackgroundWork :
    ((spanned.spanOf 1 = some 0 ∧ spanned.packs[(1 : PackId)].state = .absent) ∧ spanned.packs[p0].state ≠ .absent)
    ∧ (spanned.store.spans[(0 : SpanId)].stripe? 9 = some stripe0
        ∧ (((spanned.store.spans[(0 : SpanId)].live.filter (fun u => !(spanned.rebuildLeaves 0 u).isEmpty)).map
              (spanned.lostLeaves spanned.store.spans[(0 : SpanId)])).foldl max 0 ≤ spanned.lostLeaves spanned.store.spans[(0 : SpanId)] stripe0)
        ∧ spanned.lostLeaves spanned.store.spans[(0 : SpanId)] stripe0 ≤ stripe0.m)
    ∧ (let s := spanned.updPack 0 (fun k => { k with state := .draining })
       s.store.spans[(0 : SpanId)].stripe? 9 = some stripe0 ∧ stripe0.locs.getD 0 none = some ⟨0, 4, 0⟩ ∧ s.packState 0 = .draining
        ∧ s.stripeReads 0 9 [(9, 0)] = false ∧ s.store.writes.any (fun w => w.span = 0 ∧ w.addr = 9 ∧ w.leaf = 0) = false)
    ∧ spanned.store.spans[(0 : SpanId)].stripe? 10 = none
    ∧ (let s := spanned.updSpan 0 (fun x => { x with bands := [{ pack := 0, band := 6, next := 0, isOpen := false }] })
       let s := s.updPack 0 (fun k => { k with factory := some { surfaces := [{ tracks := 10000, firstData := 0, lastData := 9999 }] } })
       s.spanOf 0 = some 0 ∧ s.store.spans[(0 : SpanId)].bands.any (fun u => u.pack = p0.val ∧ u.band = 6 ∧ ¬ u.isOpen) = true
        ∧ (s.packs[p0].band 0 6).type = .sequential ∧ s.bandLive 0 0 6 = [])
    ∧ (let s := (spanned.updSpan 0 (fun x => { x with bands := [{ pack := 0, band := 4, next := 0, isOpen := false }] })).setParam 0x2010 8 1
       let s := s.updPack 0 (fun k => { k with
         factory := some { surfaces := [{ tracks := 10000, firstData := 0, lastData := 9999 }] },
         media := { k.media with zones := some ⟨0, 1, List.replicate 1024 { cells := 25000000, sectors := 160 }⟩ } })
       s.store.spans[(0 : SpanId)].bands.any (fun u => u.pack = p0.val ∧ u.band = 4 ∧ ¬ u.isOpen) = true
        ∧ (s.packs[p0].band 0 4).type = .sequential ∧ s.bandLive 0 0 4 = [(9, 0)]
        ∧ [((9 : Nat), (0 : Nat))].length * 1000 < s.param 0x2010 8 * s.packs[p0].bandLeaves 4)
    ∧ (stripe0.state = .placed ∧ (stripe0.locs.getD 1 none).isSome = true ∧ spanned.stripeReads 0 9 [(9, 1)] = true
        ∧ (stripe0.locs.getD 0 none).isSome = true ∧ spanned.stripeReads 0 9 [(9, 0)] = false
        ∧ retryOutcome 0x20 = true ∧ retryOutcome 0x22 = true ∧ retryOutcome 0x11 = false ∧ finalLoss 0x11 = true ∧ finalLoss 1 = false)
    ∧ ((inState .selfTest).dev.state = .selfTest ∧ (inState .opened).dev.state = .opened
        ∧ (inState .quiesce).dev.state ≠ .selfTest ∧ (inState .quiesce).dev.state ≠ .opened)
    ∧ (storeWith State.reset (fun t => { t with selfTest := { running := 1 } })).store.selfTest.running.testBit p0.val = true := by
  decide +kernel

/-- O32. -/
theorem witness_StoreAndSpanCommands :
    (let s := ((bufUp (inState .assemble)).setParam 0x2001 1 1)
     s.dev.state = .assemble ∧ (List.range 8).all s.spanConfigOk = true ∧ (s.regionSizes.foldl (· + ·) 0 + 4) * 2 ^ 30 ≤ s.bufSize)
    ∧ (inState .opened).dev.state ≠ .assemble
    ∧ (let s := ({ spanned with dev := { spanned.dev with state := .opened } }).updPack 4 (fun k => { k with state := .verified })
       let t := s.setParam 0x3001 2 4
       (t.dev.state = .opened ∧ t.store.spans[(0 : SpanId)].configured = true) ∧ t.packState (t.param 0x3001 2) = .verified
        ∧ t.store.spans.any (fun z => z.configured && z.members.testBit (t.param 0x3001 2)) = false
        ∧ t.store.spans[(0 : SpanId)].packs.filter (fun p => !t.packReads t.store.spans[(0 : SpanId)] p) ≠ []
        ∧ t.store.spans[(0 : SpanId)].members.testBit (t.param 0x3001 2) = false
        ∧ s.store.spans.any (fun z => z.configured && z.members.testBit (s.param 0x3001 2)) = true
        ∧ s.store.spans[(0 : SpanId)].members.testBit (s.param 0x3001 2) = true)
    ∧ (let s := spanned.updSpan 0 (fun x => { x with members := 1 })
       s.store.spans[(0 : SpanId)].packs.filter (fun p => !s.packReads s.store.spans[(0 : SpanId)] p) = [])
    ∧ (let y := (spanned.updSpan 0 (fun x => { x with members := 63, leaving := 2 })).store.spans[(0 : SpanId)]
       y.members.testBit 0 = true ∧ max 4 (y.k + y.m) ≤ (y.packs.filter (fun j => j ≠ 0 ∧ ¬ y.leaving.testBit j)).length) := by
  decide +kernel

/-- A connect block for a data connection (R354). -/
def connectBlock : List Byte := natBytes 8 (0x4E55564F + 2 ^ 32 + 6 * 2 ^ 56) ++ List.replicate 24 0 ++ natBytes 32 1

/-- Port 0 in Open with its link up and a path MTU of 4,096 allowed. -/
def portUp : State :=
  (({ inState .opened with clusters := { State.reset.clusters with active := some 0 } }).updPort 0 (fun q =>
    { q with link := q.link.set 0 .up })).setParam 0x6501 3 4096

/-- A connection request there. -/
def cmReq0 : CmReq := { port := 0, sub := 0, source := 1, qp := 5, mtu := 4096, data := connectBlock }

/-- A connection with its window key, and its admin ring. -/
def conn0 : Conn :=
  { num := 2, port := 0, sub := 0, management := false, source := 1, qp := 3, remote := 5, mtu := 4096, ready := true,
    adminRing := { num := 1, conn := 2, loc := 0, admin := true }, windowKey := 9 }

/-- The host side with a connection and rings. -/
def hostWith (c : Conn) (rings : List Ring) : State := portUp.updHost (fun h => { h with conns := [c], rings := rings })

/-- A number that is free where the search starts is found, whatever the start. -/
theorem pickUnused_some {n start : Nat} {used : Nat → Bool} (hn : 0 < n) (h : used (start % n) = false) :
    ∃ k, pickUnused n start used = some k := by
  obtain ⟨m, rfl⟩ : ∃ m, n = m + 1 := ⟨n - 1, by omega⟩
  exact ⟨start % (m + 1), by simp [pickUnused, List.range_succ_eq_map, h]⟩

/-- O33: a request accepted and one refused; each event of a connection; retries at their limit and one below; a doorbell at the end of
its window, beyond it, and with a wrong key. -/
theorem witness_Connections :
    (portUp.portFitted 0 = true ∧ portUp.host.ports[cmReq0.port].link[cmReq0.sub] = .up ∧ portUp.rejectCode cmReq0 true = none
      ∧ portUp.rejectCode { cmReq0 with mtu := 512 } true = some 6)
    ∧ (∃ n, pickUnused 1024 (Config.freeValue (portUp.free + 0)) (fun n => (portUp.conn? n).isSome) = some n)
    ∧ (∃ n, pickUnused 4096 (Config.freeValue (portUp.free + 1)) portUp.ringUsed = some n)
    ∧ ((hostWith { conn0 with ready := false } []).conn? 2 = some { conn0 with ready := false })
    ∧ ((hostWith conn0 []).conn? 2 = some conn0 ∧ conn0.ready = true ∧ (6 < conn0.retryLimit ∧ conn0.retryLimit ≤ 7))
    ∧ ((8 : Nat) ≠ conn0.windowKey ∧ 9 = conn0.windowKey ∧ 504 % 8 = 0 ∧ (natBytes 8 0).length % 8 = 0 ∧ 8 ≤ (natBytes 8 0).length
        ∧ 504 + (natBytes 8 0).length ≤ 512 ∧ 512 < 512 + (natBytes 8 0).length) := by
  refine ⟨by decide +kernel, pickUnused_some (by decide) rfl, pickUnused_some (by decide) rfl, by decide +kernel, by decide +kernel, by decide +kernel⟩

/-- A ring of connection 2. -/
def ring0 : Ring := { num := 4, conn := 2, loc := 1, size := 6, limit := 4 }

/-- O34. -/
theorem witness_FramingAndHeads :
    (let s := hostWith conn0 [{ ring0 with prod := 1 }]
     s.pickRing.map (fun x => x.1.num) = some 4 ∧ s.freeContext = some (0, 0))
    ∧ (State.reset.pickRing = none)
    ∧ ((hostWith conn0 [{ ring0 with reading := 64 }]).ring? 4 = some { ring0 with reading := 64 }
        ∧ (List.replicate 64 (0 : Byte)).length = 64)
    ∧ (let r : Ring := { ring0 with prod := 1, framing := some (0, 0), fetched := List.replicate 64 0 }
       (hostWith conn0 [r]).ring? 4 = some r ∧ 64 * chainLen r.fetched ≤ r.fetched.length ∧ r.reading = 0 ∧ chainLen r.fetched ≤ r.waiting
        ∧ (hostWith conn0 [r]).framed r.admin = true)
    ∧ (let r : Ring := { ring0 with prod := 1, cons := 1, chains := [⟨0, 1, true⟩] }
       (advanceHead r.head r.chains).1 ≠ r.head ∧ (hostWith conn0 [r]).clusters.failOver = none ∧ (hostWith conn0 [r]).mirrorHeld = []
        ∧ (hostWith conn0 [r]).hostStopped = false)
    ∧ (let r : Ring := { ring0 with notify := true, rnr := 2 }
       (hostWith conn0 [r]).ring? 4 = some r ∧ (hostWith conn0 [r]).conn? r.conn = some conn0 ∧ conn0.rnrLimit = 7
        ∧ (hostWith { conn0 with rnrLimit := 3 } [r]).conn? r.conn = some { conn0 with rnrLimit := 3 } ∧ r.rnr < 3
        ∧ (hostWith { conn0 with rnrLimit := 2 } [r]).conn? r.conn = some { conn0 with rnrLimit := 2 } ∧ 2 ≤ r.rnr) := by
  refine ⟨by decide +kernel, by decide +kernel, by decide +kernel, by decide +kernel, by decide +kernel, by decide +kernel⟩

/-- O35: a notification's interval at its last nanosecond; a rate at its floor; a priority that is flow-controlled. -/
theorem witness_CongestionAndPorts :
    ((hostWith conn0 []).conn? 2 = some conn0 ∧ conn0.cnpAt = none)
    ∧ (let s := { (hostWith { conn0 with cnpAt := some 0 } []).setParam 0x6412 6 50 with now := 49999 }
       s.conn? 2 = some { conn0 with cnpAt := some 0 } ∧ s.now < 0 + s.param 0x6412 6 * 1000)
    ∧ (let s := (hostWith { conn0 with rate := 100 } []).setParam 0x6412 5 100
       s.conn? 2 = some { conn0 with rate := 100 } ∧ s.param 0x6412 5 ≤ 100)
    ∧ (let s := State.reset.setParam 0x6411 5 8
       s.portFitted 15 = true ∧ (s.param 0x6411 5).testBit (3 : Fin 8).val = true ∧ (s.param 0x6411 5).testBit (2 : Fin 8).val = false)
    ∧ (let s := { inState .opened with domains := (inState .opened).domains.set 135 { (inState .opened).domains[(135 : Fin 178)] with state := 2 } }
       s.portFitted 15 = true ∧ s.ref156Lost = false ∧ s.dev.state.running = true ∧ s.domains[(120 + (15 : PortId).val : Nat)].state = 2) := by decide +kernel

/-- O36: the admin commands; a ring index left and none; a dictionary entry that exists and one that does not. -/
theorem witness_AdminCommands :
    (let s := runChain (natBytes 64 0x80)
     s.Runs 0 0 0x80 ∧ s.freeLocal 0 = some 0)
    ∧ (∃ n, pickUnused 4096 (Config.freeValue State.reset.free) State.reset.ringUsed = some n)
    ∧ (State.reset.updHost (fun h => { h with rings := (List.range 64).map (fun i => { num := i, conn := 0, loc := i }) })).freeLocal 0 = none
    ∧ (runChain (natBytes 64 0x81)).Runs 0 0 0x81 ∧ (runChain (natBytes 64 0x82)).Runs 0 0 0x82
    ∧ (let s := State.reset.updHost (fun h => { h with rings := [{ ring0 with state := .deleting }], deletes := [(4, 1, 0)] })
       s.ringBusy 4 = false ∧ s.host.deletes.any (fun x => x.1 = 4) = true ∧ s.clusters.failOver = none ∧ s.hostStopped = false)
    ∧ (let l := natBytes 64 (0x83 + 0x1000 * 2 ^ 32 + 4 * 2 ^ 160)
       let s := (runChain l).updHost (fun h => { h with rings := [{ num := 1, conn := 0, loc := 0 }] })
       s.Runs 0 0 0x83 ∧ fieldAt l 4 2 = 0x1000 ∧ fieldAt l 0x14 4 = 4 ∧ (s.ring? 1).isSome = true
        ∧ (∃ v t, s.dictRead (s.bandWriter 1) 0x1000 0 (some 4) = .ok (v, t) ∧ v.length ≤ 4 ∧ v ≠ [] ∧ (t.ring? 1).isSome = true)
        ∧ (∃ e, s.dictRead (s.bandWriter 1) 0x0FFF 0 (some 4) = .error e))
    ∧ (let l := natBytes 64 (0x84 + 0x7020 * 2 ^ 32 + 2 ^ 48 + 2 ^ 160)
       let s := { (runChain l).updHost (fun h => { h with rings := [{ num := 1, conn := 0, loc := 0 }] }) with dev := (inState .opened).dev }
       s.Runs 0 0 0x84 ∧ (natBytes 1 5).length = fieldAt l 0x14 4
        ∧ (∃ t, s.dictWrite (s.bandWriter 1) (fieldAt l 4 2) (fieldAt l 6 1) (natBytes 1 5) = .ok t)
        ∧ (∃ e, s.dictWrite (s.bandWriter 1) (fieldAt l 4 2) (fieldAt l 6 1) (natBytes 1 0) = .error e)) := by
  refine ⟨⟨runs_of (by decide +kernel), by decide +kernel⟩, pickUnused_some (by decide) rfl, by decide +kernel, runs_of (by decide +kernel), runs_of (by decide +kernel),
    by decide +kernel, ⟨runs_of (by decide +kernel), by decide +kernel, by decide +kernel, by decide +kernel, ?_, error_of (by decide +kernel)⟩,
    ⟨runs_of (by decide +kernel), by decide +kernel, ok_of (by decide +kernel), error_of (by decide +kernel)⟩⟩
  exact ⟨_, _, rfl, by decide +kernel, by decide +kernel, by decide +kernel⟩

/-! ### Hypotheses that can be met: buffer memory, movers, the dictionary -/

/-- The near cache off (R423). -/
def uncached (s : State) : State := s.setParam 0x6100 1 0

/-- Buffer memory with channel 0 up and the cache off; and with the cache on. -/
def memUp : State := (bufUp (uncached State.reset)).updMem 0 (fun m => { m with state := 2 })
def memCached : State := (bufUp State.reset).updMem 0 (fun m => { m with state := 2 })

/-- O37: reads and writes at the end of the buffer and one granule beyond, aligned and not; a cached granule; a narrow write. -/
theorem witness_BufferAccess :
    State.reset.buf.reachable = false
    ∧ (memUp.buf.reachable = true ∧ (isCore .service && memUp.diagnostic) = false ∧ isCore .service = false ∧ isCore (.cluster 0) = true
        ∧ memUp.bufSize % 64 = 0 ∧ 0 < memUp.bufSize
        ∧ memUp.bufSize < memUp.bufSize - 63 + 64 ∧ memUp.cacheOn = false ∧ 64 * (memUp.bufSize / 64 - 1) + 64 ≤ memUp.bufSize
        ∧ (memUp.chan? (memUp.granPlace 0).1).map (fun c => c.state) = some 2 ∧ (memUp.classify 0 (memUp.stored 0).1 (memUp.stored 0).2).1 = .clean)
    ∧ (let s := memCached.updBuf (fun b => { b with lines := [⟨0, 0, 0, 3, 0, 5, 6, 0⟩] })
       s.cacheOn = true ∧ (s.line? (0 / 2)).isSome = true)
    ∧ (64 % 64 = 0 ∧ 1 % 64 ≠ 0 ∧ (List.replicate 64 (0 : Byte)).length = 64)
    ∧ ([(1 : Byte)] ≠ [] ∧ 62 % 64 + [(1 : Byte)].length < 64 ∧ (memUp.granRead (.cluster 0) false 0 (cleanRead 0) .none).1.isSome = true
        ∧ (memUp.granRead (.cluster 0) false 0 { cleanRead 0 with flips := [(0, 1), (1, 1), (2, 1)] } .none).1 = none) := by decide +kernel

/-- O38: the forms hold at reset. -/
theorem witness_StoresReadBack :
    Memory.wf State.reset = true ∧ storeWf (dictDefault State.reset.part) State.reset.dict.vals = true := by decide +kernel

/-- O39. -/
theorem witness_BufferUpkeep :
    ((bootAt .plls).dev.state = .boot ∧ (bootAt .plls).boot.step = .plls ∧ (bootAt .plls).buf.reachable = false)
    ∧ ((inState .bench).dev.state = .bench ∧ State.reset.chanFitted 23 = true ∧ (inState .opened).dev.state ≠ .selfTest
        ∧ (inState .opened).dev.state ≠ .bench)
    ∧ ((State.reset.updMem 0 (fun m => { m with state := 3 })).buf.chans[(0 : ChanId)].state = 3)
    ∧ ((memUp.chan? (memUp.granPlace 0).1).map (fun c => c.state) = some 2 ∧ 64 * 0 < memUp.bufSize)
    ∧ (memUp.buf.chans[(0 : ChanId)].state ≠ 0 ∧ memUp.buf.chans[(0 : ChanId)].state ≠ 4)
    ∧ ((uncached (inState .bench)).cacheOn = false ∧ (inState .bench).buf.op = none ∧ (inState .bench).cacheOn = true) := by decide +kernel

/-- O40: a range to the end of the buffer; the engine busy with each operation; the cache on, off and being disabled. -/
theorem witness_RangeEngine :
    (∀ s ∈ [memCached, memUp], s.buf.op = none ∧ (s.bufSize - 128) % 128 = 0 ∧ 128 % 128 = 0 ∧ s.bufSize - 128 + 128 ≤ s.bufSize)
    ∧ memCached.cacheOn = true ∧ memUp.cacheOn = false
    ∧ (∀ n ∈ [1, 2, 3, 5], (memUp.updBuf (fun b => { b with op := some ⟨n, 0, 128, 3⟩ })).buf.op = some ⟨n, 0, 128, 3⟩)
    ∧ storeWf (dictDefault memCached.part) memCached.dict.vals = true
    ∧ storeWf (dictDefault (uncached State.reset).part) (uncached State.reset).dict.vals = true
    ∧ (inState .quiesce).dev.state.cacheEnable = true
    ∧ ((inState .quiesce).cacheOn = true ∧ (inState .quiesce).buf.disabling = false ∧ (uncached (inState .quiesce)).cacheOn = false)
    ∧ (((inState .quiesce).updBuf (fun b => { b with disabling := true })).buf.disabling = true) := by decide +kernel

/-- A pattern scattered over granules from address 0 of buffer memory. -/
def scatter0 : MoverReq := ⟨descOf 4 2 4 64, 0⟩

/-- O41. -/
theorem witness_MoverChannels :
    ((descOf 0 2 4 8).length = 64 ∧ (moverOf [] []).bankOn 0 = true ∧ State.reset.bankOn 0 = false)
    ∧ ((moverOf [] []).mayStart 0 = none ∧ (moverOf [] []).movers[(0 : MoverId)].active = none
        ∧ (moverOf [] []).movers[(0 : MoverId)].running.find? MoverRun.ended = none)
    ∧ (let s := moverOf [⟨descOf 0 2 4 8, 0⟩] []
       s.mayStart 0 = some ⟨descOf 0 2 4 8, 0⟩
        ∧ (s.updMover 0 (fun m => ({ m with queue := m.queue.drop 1 } : Mover).refill)).descCheck (descOf 0 2 4 8) ≠ 0)
    ∧ (let s := bufUp (moverOf [scatter0] [{ req := ⟨descOf 0 2 4 8, 0⟩, readsDone := true }])
       s.mayStart 0 = some scatter0 ∧ descSource scatter0.desc = 2 ∧ descScatter scatter0.desc = true ∧ s.movers[(0 : MoverId)].active ≠ none
        ∧ (s.updMover 0 (fun m => ({ m with queue := m.queue.drop 1 } : Mover).refill)).descCheck scatter0.desc = 0)
    ∧ (let s := (bufUp (moverOf [] [{ req := scatter0 }])).setParam 0x6204 1 255
       s.movers[(0 : MoverId)].active = some { req := scatter0 } ∧ s.moverShare 0 scatter0.desc < 256)
    ∧ (let r : MoverRun := { req := ⟨descOf 4 2 4 64 |>.take 56 |>.append (List.replicate 8 0xFF), 0⟩, status := 1, readsDone := true }
       (moverOf [] [r]).movers[(0 : MoverId)].running.find? MoverRun.ended = some r ∧ r.req.token = 0 ∧ descGranule r.req.desc = 2 ^ 64 - 1) := by
  decide +kernel

theorem ok_and {x : Except α β} {f : β → Bool} (h : (match x with | .ok y => f y | .error _ => false) = true) :
    ∃ y, x = .ok y ∧ f y = true := by
  cases x with
  | ok y => exact ⟨y, rfl, h⟩
  | error e => cases h

/-- O42: a case for each of the six checks, and one that passes them all. -/
theorem witness_DictionaryChecks :
    let s := inState .opened
    let w := fun (x : Except Nat Row) (f : Row → Bool) => ∃ r, x = .ok r ∧ f r = true
    s.clusters.failOver = none
    ∧ (∃ e, existsCheck 0x0FFF 0 = .error e) ∧ (∃ e, existsCheck 0x1000 9 = .error e)
    ∧ w (existsCheck 0x1000 0) (fun r => r.acc = .ro)
    ∧ w (existsCheck 0x7020 1) (fun r => r.acc ≠ .ro && (({ s with lock := { holder := 5 } }).setParam 0x2401 3 1).lockRefuses 9 0x7020 1 r (natBytes 1 5))
    ∧ w (existsCheck 0x2010 1) (fun r => r.acc ≠ .ro && !s.lockRefuses 1 0x2010 1 r (natBytes 1 5) && s.stateRefuses 0x2010 1 r (natBytes 1 5))
    ∧ w (existsCheck 0x7020 1) (fun r => !s.lockRefuses 1 0x7020 1 r (natBytes 2 5) && !s.stateRefuses 0x7020 1 r (natBytes 2 5)
        && !r.ty.lengthOk 2)
    ∧ w (existsCheck 0x7020 1) (fun r => !s.stateRefuses 0x7020 1 r (natBytes 1 0) && r.ty.lengthOk 1
        && !valueOk s.microOf s.param r 0x7020 1 0)
    ∧ w (existsCheck 0x7020 1) (fun r => !s.lockRefuses 1 0x7020 1 r (natBytes 1 5) && !s.stateRefuses 0x7020 1 r (natBytes 1 5)
        && r.ty.lengthOk 1 && (s.writeBytes 0x7020 1 (natBytes 1 5)).isNone && r.ty.bytesOk (natBytes 1 5)
        && valueOk s.microOf s.param r 0x7020 1 5 && (s.writeSpecial 1 0x7020 1 (r.stored 5)).isNone) :=
  ⟨rfl, error_of (by decide +kernel), error_of (by decide +kernel), ok_and (by decide +kernel), ok_and (by decide +kernel),
    ok_and (by decide +kernel), ok_and (by decide +kernel), ok_and (by decide +kernel), ok_and (by decide +kernel)⟩

/-! ### Hypotheses that can be met: boot images -/

/-- A record of a dictionary image for one entry (R472). -/
def recOne (idx sub type length v : Nat) : DictRec := ⟨idx, sub, 1, type, length, v⟩

/-- The records of a smallest base image: spans and coefficient sets empty, the memory density, the port addresses and for every source no
reaction where it may have none (R473). -/
def baseRecs : List DictRec :=
  ((List.range 8).map (fun i => let b := 0x3002 + i * 0x40
    [recOne b 1 7 4 0, recOne b 2 5 1 0, recOne b 3 5 1 0])).flatten
    ++ (List.range 16).map (fun c => recOne (0x5000 + c * 0x40) 1 7 4 0)
    ++ [recOne 0x6000 1 5 1 32, recOne 0x6000 2 5 1 28]
    ++ (List.range 16).map (fun q => recOne (0x6501 + q * 0x10) 2 25 6 0)
    ++ (List.range 416).map (fun k => recOne (0x8100 + k) 1 5 1 (if reactionAllowed k 0 then 0 else srcDefaultReaction k))

theorem leNat_natBytes (n v : Nat) : leNat (natBytes n v) = v % 256 ^ n := by
  induction n generalizing v with
  | zero => simp [natBytes, leNat, Nat.mod_one]
  | succ n ih =>
    simp only [natBytes, leNat, ih, BitVec.toNat_ofNat]
    rw [show 256 ^ (n + 1) = 256 * 256 ^ n from by rw [Nat.pow_succ, Nat.mul_comm], Nat.mod_mul]

theorem natBytes_length (n : Nat) : ∀ v, (natBytes n v).length = n := by
  induction n with
  | zero => intro v; rfl
  | succ n ih => intro v; simp [natBytes, ih]

theorem fieldAt_left (a b : List Byte) (off n : Nat) (h : off + n ≤ a.length) : fieldAt (a ++ b) off n = fieldAt a off n := by
  simp only [fieldAt]
  rw [List.drop_append_of_le_length (by omega), List.take_append_of_le_length (by simp; omega)]

theorem fieldAt_right (a b : List Byte) (off n : Nat) (h : a.length ≤ off) : fieldAt (a ++ b) off n = fieldAt b (off - a.length) n := by
  simp only [fieldAt]
  rw [List.drop_append, List.drop_of_length_le h, List.nil_append]

/-- A field that stands between other bytes. -/
theorem fieldAt_mid (a d b : List Byte) (off n : Nat) (ha : a.length = off) (hd : d.length = n) : fieldAt (a ++ (d ++ b)) off n = leNat d := by
  rw [fieldAt_right _ _ _ _ (by omega), ha, Nat.sub_self, fieldAt_left _ _ _ _ (by omega), fieldAt, List.drop_zero,
    List.take_of_length_le (by omega)]

theorem drop_mid (a b : List Byte) (off : Nat) (ha : a.length = off) : (a ++ b).drop off = b := by
  rw [List.drop_append_of_le_length (by omega), List.drop_of_length_le (by omega), List.nil_append]

theorem take_mid (d b : List Byte) (n : Nat) (hd : d.length = n) : (d ++ b).take n = d := by
  rw [List.take_append_of_le_length (by omega), List.take_of_length_le (by omega)]

/-- Bytes followed by their CRC are a valid area (R66). -/
theorem areaOk_crc (l : List Byte) (n : Nat) (h : l.length + 4 = n) : areaOk (l ++ natBytes 4 (crc32c l)) n = true := by
  have h0 := areaOk_areaBytes l n (by omega)
  rw [areaBytes, show n - 4 - l.length = 0 by omega] at h0
  simpa using h0

/-- A digest stored in 48 bytes reads back. -/
theorem digest_field (x : BitVec 384) : leNat (natBytes 48 x.toNat) = x.toNat := by
  rw [leNat_natBytes]
  exact Nat.mod_eq_of_lt (Nat.lt_of_lt_of_le x.isLt (by decide))

/-- The bytes of a number that fits in the first `n` of them. -/
theorem natBytes_split (n k v : Nat) (h : v < 256 ^ n) : natBytes (n + k) v = natBytes n v ++ List.replicate k 0 := by
  induction n generalizing v with
  | zero =>
    have hv : v = 0 := by simpa using h
    subst hv
    simp only [Nat.zero_add, natBytes, List.nil_append]
    clear h
    induction k with
    | zero => rfl
    | succ k ih => simp only [natBytes, Nat.zero_div, ih, List.replicate_succ]; rfl
  | succ n ih =>
    rw [show n + 1 + k = n + k + 1 by omega]
    simp only [natBytes, List.cons_append]
    rw [ih (v / 256) (by rw [Nat.pow_succ] at h; omega)]

/-- The fields of a record fit in their bytes (R472). -/
def recFits (r : DictRec) : Bool :=
  decide (r.index < 65536 ∧ r.sub < 256 ∧ r.times < 256 ∧ r.type < 65536 ∧ r.length < 65536 ∧ r.value < 256 ^ r.length)

/-- A record is read back from its bytes. -/
theorem parseRecord_recordBytes (r : DictRec) (rest : List Byte) (h : recFits r = true) : parseRecord (recordBytes r ++ rest) = some (r, rest) := by
  obtain ⟨idx, sub, times, type, n, v⟩ := r
  simp only [recFits, decide_eq_true_eq] at h
  obtain ⟨h1, h2, h3, h4, h5, h6⟩ := h
  have hs : natBytes ((n + 7) / 8 * 8) v = natBytes n v ++ List.replicate ((n + 7) / 8 * 8 - n) 0 := by
    rw [← natBytes_split n _ v h6, show n + ((n + 7) / 8 * 8 - n) = (n + 7) / 8 * 8 by omega]
  have hn : (natBytes n v).length = n := natBytes_length _ _
  have e : recordBytes ⟨idx, sub, times, type, n, v⟩ ++ rest
      = natBytes 2 idx ++ (natBytes 1 sub ++ (natBytes 1 times ++ (natBytes 2 type ++ (natBytes 2 n ++
          (natBytes n v ++ (List.replicate ((n + 7) / 8 * 8 - n) 0 ++ rest)))))) := by
    simp only [recordBytes, hs, List.append_assoc]
  have l2 := fun w => natBytes_length 2 w
  have l1 := fun w => natBytes_length 1 w
  have f0 : fieldAt (recordBytes ⟨idx, sub, times, type, n, v⟩ ++ rest) 0 2 = idx := by
    rw [e, fieldAt_left _ _ _ _ (by simp [l2]), fieldAt, List.drop_zero, List.take_of_length_le (by simp [l2]), leNat_natBytes]; omega
  have f2 : fieldAt (recordBytes ⟨idx, sub, times, type, n, v⟩ ++ rest) 2 1 = sub := by
    rw [e, fieldAt_mid _ _ _ _ _ (l2 _) (l1 _), leNat_natBytes]; omega
  have f3 : fieldAt (recordBytes ⟨idx, sub, times, type, n, v⟩ ++ rest) 3 1 = times := by
    rw [e, ← List.append_assoc, fieldAt_mid _ _ _ _ _ (by simp [l2, l1]) (l1 _), leNat_natBytes]; omega
  have f4 : fieldAt (recordBytes ⟨idx, sub, times, type, n, v⟩ ++ rest) 4 2 = type := by
    rw [e, ← List.append_assoc, ← List.append_assoc, fieldAt_mid _ _ _ _ _ (by simp [l2, l1]) (l2 _), leNat_natBytes]; omega
  have f6 : fieldAt (recordBytes ⟨idx, sub, times, type, n, v⟩ ++ rest) 6 2 = n := by
    rw [e, ← List.append_assoc, ← List.append_assoc, ← List.append_assoc, fieldAt_mid _ _ _ _ _ (by simp [l2, l1]) (l2 _), leNat_natBytes]; omega
  have f8 : fieldAt (recordBytes ⟨idx, sub, times, type, n, v⟩ ++ rest) 8 n = v := by
    rw [e, ← List.append_assoc, ← List.append_assoc, ← List.append_assoc, ← List.append_assoc,
      fieldAt_mid _ _ _ _ _ (by simp [l2, l1]) hn, leNat_natBytes, Nat.mod_eq_of_lt h6]
  have hd : (recordBytes ⟨idx, sub, times, type, n, v⟩ ++ rest).drop (8 + n) = List.replicate ((n + 7) / 8 * 8 - n) 0 ++ rest := by
    rw [e, ← List.append_assoc, ← List.append_assoc, ← List.append_assoc, ← List.append_assoc, ← List.append_assoc]
    exact drop_mid _ _ _ (by simp [l2, l1, hn]; omega)
  have hr : (recordBytes ⟨idx, sub, times, type, n, v⟩ ++ rest).drop (8 + (n + 7) / 8 * 8) = rest := by
    exact drop_mid _ _ _ (by simp [recordBytes, natBytes_length]; omega)
  have hz : zeroSpan (recordBytes ⟨idx, sub, times, type, n, v⟩ ++ rest) (8 + n) ((n + 7) / 8 * 8 - n) = true := by
    rw [zeroSpan, hd, take_mid _ _ _ List.length_replicate]
    simp [allBytes]
  have hl : 8 + (n + 7) / 8 * 8 ≤ (recordBytes ⟨idx, sub, times, type, n, v⟩ ++ rest).length := by
    simp [recordBytes, natBytes_length]; omega
  simp only [parseRecord, f6, f0, f2, f3, f4, f8, hr, hz, hl, and_self, if_true]

/-- Records are read back from their bytes. -/
theorem parseRecords_bytes (l : List DictRec) (h : l.all recFits = true) : parseRecords l.length (l.map recordBytes).flatten = some l := by
  induction l with
  | nil => rfl
  | cons r l ih =>
    simp only [List.all_cons, Bool.and_eq_true] at h
    simp only [List.length_cons, List.map_cons, List.flatten_cons, parseRecords, parseRecord_recordBytes r _ h.1, ih h.2, Option.map_some]

/-- That base image. -/
def baseBody : List Byte := (baseRecs.map recordBytes).flatten
def baseImg : DictImage :=
  { header := dictHeader 1 0 0 1 0 baseRecs.length 0 baseBody (fun _ => List.replicate 96 0), body := baseBody, signatureOk := true }

/-- Its header holds the digest of its body. -/
theorem baseImg_digest : fieldAt baseImg.header 0x30 48 = (sha384 baseBody).toNat := by
  simp only [baseImg, dictHeader, List.append_assoc]
  iterate 10 rw [← List.append_assoc]
  rw [fieldAt_mid _ _ _ _ _ (by simp [natBytes_length]) (natBytes_length _ _), digest_field]

theorem baseImg_crc : areaOk baseImg.header 256 = true := by
  simp only [baseImg, dictHeader]
  exact areaOk_crc _ _ (by decide +kernel)

theorem baseRecs_fit : baseRecs.all recFits = true := by decide +kernel

theorem baseImg_records : baseImg.records = baseRecs := by
  have hc : baseImg.recordCount = baseRecs.length := by decide +kernel
  simp only [DictImage.records, hc]
  exact congrArg (fun x => x.getD []) (parseRecords_bytes baseRecs baseRecs_fit)

/-- A section of microcode: words of NOP, and dispatch entries that are not valid (R224). -/
def microSection (kind words entries : Nat) : List Byte :=
  let body : List Byte := List.replicate (4 * entries + 16 * words) 0
  let h := natBytes 4 0x434D564F ++ natBytes 2 1 ++ natBytes 2 kind ++ natBytes 4 words ++ natBytes 4 entries ++ natBytes 4 1
    ++ natBytes 12 body.length ++ (natBytes 48 (sha384 body).toNat ++ List.replicate 12 0)
  h ++ natBytes 4 (crc32c h) ++ body

/-- A key list of one key, for images and tokens (R534). -/
def keyList1 : List Byte := natBytes 8 (0x4C4B564F + 2 ^ 32 + 2 ^ 48) ++ List.replicate 8 0 ++ natBytes 2 (7 * 256) ++ List.replicate 126 0

/-- A valid firmware image with that key list (R532 to R535). -/
def fwImg : FwImage :=
  { header := natBytes 8 (0x5746564F + 2 ^ 32 + 512 * 2 ^ 48) ++ natBytes 8 (1 + 3 * 2 ^ 32) ++ natBytes 8 (0x100 + 2432 * 2 ^ 32)
      ++ natBytes 8 5 ++ List.replicate 32 0
      ++ ([(1, 0, 144), (2, 144, 16), (3, 160, 1120), (4, 1280, 1136), (5, 2416, 16)].map (fun x : Nat × Nat × Nat =>
          natBytes 4 x.1 ++ natBytes 4 x.2.1 ++ natBytes 8 x.2.2)).flatten ++ List.replicate 368 0,
    payload := keyList1 ++ (List.replicate 16 0 ++ (microSection 1 64 0 ++ (microSection 2 1 256 ++ List.replicate 16 0))),
    signatureOk := true, tagOk := true, writingRoutines := [] }

/-- A section's header lies within R224. -/
theorem micro_header (kind words entries : Nat) (service : Bool)
    (h : (kind, words, entries, service) = (1, 64, 0, false) ∨ (kind, words, entries, service) = (2, 1, 256, true)) :
    microHeaderOk service (microSection kind words entries) = true := by
  have hd : fieldAt (microSection kind words entries) 0x20 48 = (sha384 (List.replicate (4 * entries + 16 * words) (0 : Byte))).toNat := by
    simp only [microSection, List.append_assoc]
    iterate 6 rw [← List.append_assoc]
    rw [fieldAt_mid _ _ _ _ _ (by simp [natBytes_length]) (natBytes_length _ _), digest_field]
  have hc : areaOk ((microSection kind words entries).take 96) 96 = true := by
    rw [microSection, take_mid _ _ _ (by simp [natBytes_length])]
    exact areaOk_crc _ _ (by simp [natBytes_length])
  have hb : (microSection kind words entries).drop 96 = List.replicate (4 * entries + 16 * words) 0 := by
    rw [microSection, drop_mid _ _ _ (by simp [natBytes_length])]
  have hw : wordCount (microSection kind words entries) = words ∧ dispatchCount (microSection kind words entries) = entries := by
    simp only [Prod.mk.injEq] at h
    rcases h with ⟨rfl, rfl, rfl, rfl⟩ | ⟨rfl, rfl, rfl, rfl⟩ <;> decide +kernel
  simp only [microHeaderOk, hw.1, hw.2, hd, hc, hb, List.take_replicate, Nat.min_self, beq_self_eq_true, Bool.and_true]
  simp only [Prod.mk.injEq] at h
  rcases h with ⟨rfl, rfl, rfl, rfl⟩ | ⟨rfl, rfl, rfl, rfl⟩ <;> decide +kernel

/-- A field of bytes that are all zero. -/
theorem fieldAt_zeros (m off n : Nat) : fieldAt (List.replicate m 0) off n = 0 := by
  simp only [fieldAt, List.drop_replicate, List.take_replicate]
  generalize min n (m - off) = k
  induction k with
  | zero => rfl
  | succ k ih => simp only [List.replicate_succ, leNat, ih]; rfl

/-- Its dispatch entries and its words are zeros. -/
theorem micro_zero :
    microwords (microSection 1 64 0) = List.replicate 64 0 ∧ dispatchOf (microSection 1 64 0) = []
    ∧ microwords (microSection 2 1 256) = [0] ∧ dispatchOf (microSection 2 1 256) = List.replicate 256 0 := by
  have hl : ∀ k w e, (natBytes 4 0x434D564F ++ natBytes 2 1 ++ natBytes 2 k ++ natBytes 4 w ++ natBytes 4 e ++ natBytes 4 1
      ++ natBytes 12 (List.replicate (4 * e + 16 * w) (0 : Byte)).length
      ++ (natBytes 48 (sha384 (List.replicate (4 * e + 16 * w) (0 : Byte))).toNat ++ List.replicate 12 0)).length = 92 := by
    intro k w e
    simp [natBytes_length]
  have hf : ∀ k w e off n, 96 ≤ off → fieldAt (microSection k w e) off n = 0 := by
    intro k w e off n h
    rw [microSection, fieldAt_right _ _ _ _ (by rw [List.length_append, hl, natBytes_length]; omega), fieldAt_zeros]
  have hw : ∀ k w e, wordsOfBytes ((microSection k w e).drop (96 + 4 * e)) w = List.replicate w 0 := by
    intro k w e
    rw [wordsOfBytes, List.eq_replicate_iff]
    refine ⟨by simp, fun b hb => ?_⟩
    obtain ⟨i, -, rfl⟩ := List.mem_map.mp hb
    rw [fieldAt, List.drop_drop]
    exact congrArg (BitVec.ofNat 128) (hf k w e _ _ (by omega))
  have c1 : wordCount (microSection 1 64 0) = 64 ∧ dispatchCount (microSection 1 64 0) = 0 ∧ wordCount (microSection 2 1 256) = 1
      ∧ dispatchCount (microSection 2 1 256) = 256 := by decide +kernel
  refine ⟨by rw [microwords, c1.1, c1.2.1]; exact hw 1 64 0, by rw [dispatchOf, c1.2.1]; rfl,
    by rw [microwords, c1.2.2.1, c1.2.2.2]; exact hw 2 1 256, ?_⟩
  rw [dispatchOf, c1.2.2.2, List.eq_replicate_iff]
  refine ⟨by simp, fun b hb => ?_⟩
  obtain ⟨i, -, rfl⟩ := List.mem_map.mp hb
  exact congrArg (BitVec.ofNat 32) (hf 2 1 256 _ _ (by omega))

/-- Its words are legal and its dispatch entries are not valid (R225). -/
theorem micro_ok : microOk false (microSection 1 64 0) = true ∧ microOk true (microSection 2 1 256) = true := by
  constructor
  · rw [microOk, micro_header _ _ _ _ (.inl rfl), micro_zero.1, micro_zero.2.1]
    decide +kernel
  · rw [microOk, micro_header _ _ _ _ (.inr rfl), micro_zero.2.2.1, micro_zero.2.2.2]
    decide +kernel

/-- A section that stands between others in the payload. -/
theorem section_of {x : FwImage} {t : Nat} {y : FwSection} (a m b : List Byte) (hf : x.sections.find? (fun y => y.type = t) = some y)
    (hp : x.payload = a ++ (m ++ b)) (ha : a.length = y.offset) (hm : m.length = y.length) : x.section t = m := by
  rw [FwImage.section, hf, hp]
  simp only [drop_mid _ _ _ ha, take_mid _ _ _ hm]

theorem fwImg_section1 : fwImg.section 1 = keyList1 :=
  section_of (y := ⟨1, 0, 144⟩) [] _ _ (by decide +kernel) rfl rfl (by decide +kernel)

theorem fwImg_section3 : fwImg.section 3 = microSection 1 64 0 :=
  section_of (y := ⟨3, 160, 1120⟩) (keyList1 ++ List.replicate 16 0) _ (microSection 2 1 256 ++ List.replicate 16 0) (by decide +kernel)
    (by simp only [fwImg, List.append_assoc]) (by decide +kernel) (by decide +kernel)

theorem fwImg_section4 : fwImg.section 4 = microSection 2 1 256 :=
  section_of (y := ⟨4, 1280, 1136⟩) (keyList1 ++ (List.replicate 16 0 ++ microSection 1 64 0)) _ (List.replicate 16 0) (by decide +kernel)
    (by simp only [fwImg, List.append_assoc]) (by decide +kernel) (by decide +kernel)

/-- Its payload passes checks 5 and 6 of R535. -/
theorem fwImg_payload : payloadOk fwImg = true := by
  have h1 : sectionsOk fwImg = true := by decide +kernel
  have h2 : keyListOk keyList1 = true := by decide +kernel
  simp only [payloadOk, h1, fwImg_section1, fwImg_section3, fwImg_section4, micro_ok, h2, Bool.and_true]
  rfl

/-- Fuses with the hash of the image's root public key in slot 0. -/
def rooted (s : State) : State :=
  { s with fuses := { s.fuses with rootHash := #v[(sha384 fwImg.rootKey).toNat, 0, 0, 0] } }

/-- The image passes checks 1 to 4 of R535 on the part of its product. -/
theorem fwImg_head {s : State} {x : FwImage} (hx : x.header = fwImg.header) (hs : x.signatureOk = true) (hp : s.part = .qh0256)
    (hr : s.fuses.rootRevoked = 0) (hh : s.fuses.rootHash = #v[(sha384 fwImg.rootKey).toNat, 0, 0, 0]) :
    s.headState x = if 3 < s.fuses.securityVersion then 3 else 1 := by
  have h1 : x.headerOk = true := by
    have e : fwImg.headerOk = true := by decide +kernel
    obtain ⟨l, _, _, _, _⟩ := x
    subst hx
    exact e
  have h2 : x.product = 0x100 := by simp only [FwImage.product, hx]; decide +kernel
  have h3 : x.rootSlot = 0 := by simp only [FwImage.rootSlot, hx]; decide +kernel
  have h4 : x.securityVersion = 3 := by simp only [FwImage.securityVersion, hx]; decide +kernel
  have h5 : x.rootKey = fwImg.rootKey := by simp only [FwImage.rootKey, hx]
  simp [State.headState, State.headerOk, State.rootOk, h1, h2, h3, h4, h5, hs, hp, hr, hh, partProduct]

/-- Boot at its end, with boot flash holding the images. -/
def bootAtEnd (a b : Option FwImage) : State :=
  let s := rooted (bufUp (bootAt .plls))
  { s with part := .qh0256, flash := { s.flash with image := #v[a, b], base := #v[some baseImg, none] } }

/-- What a record of one entry covers. -/
theorem covered_of {x : DictImage} {r : DictRec} (h : r ∈ x.records) (h1 : r.times = 1) :
    (imageSets x).any (fun e => e.1 == dictKey r.index r.sub) = true := by
  have e : recEntries r = [(r.index, r.sub)] := by simp [recEntries, h1]
  rw [List.any_eq_true]
  refine ⟨_, List.mem_flatten.2 ⟨_, List.mem_map.2 ⟨r, h, rfl⟩, List.mem_map.2 ⟨(r.index, r.sub), by simp [e], rfl⟩⟩, ?_⟩
  simp

/-- What the records of the base image set. -/
def baseSets : List (Nat × Nat) :=
  (baseRecs.map (fun r => (recEntries r).map (fun e =>
    (dictKey e.1 e.2, match findRow e.1 e.2 with | some w => w.stored r.value | none => r.value)))).flatten

theorem baseImg_sets : imageSets baseImg = baseSets := by rw [imageSets, baseImg_records]; rfl

theorem baseImg_complete : baseComplete .qh0256 baseImg = true := by
  have hs : (List.range 416).all (fun k => sourceRows.all (fun r =>
      !(r.img && r.acc == .rw) || (List.range (r.hi + 1 - r.lo)).all (fun i =>
        (imageSets baseImg).any (fun e => e.1 == dictKey (0x8100 + k + r.off) (r.lo + i))))) = true := by
    rw [List.all_eq_true]
    intro k hk
    have h : (imageSets baseImg).any (fun e => e.1 == dictKey (0x8100 + k) 1) = true :=
      covered_of (r := recOne (0x8100 + k) 1 5 1 (if reactionAllowed k 0 then 0 else srcDefaultReaction k))
        (by rw [baseImg_records]; exact List.mem_append_right _ (List.mem_map.mpr ⟨k, hk, rfl⟩)) rfl
    simp [sourceRows, List.range_succ, h]
  rw [baseImg_sets] at hs
  simp only [baseComplete, baseImg_sets, hs, Bool.and_true]
  decide +kernel

/-- Boot loads the layers from a base image that is accepted. -/
theorem loadLayers_of {s : State} {i : Fin 2} {b : DictImage} (h : pickCopy (s.dictImageOk 1 0 []) s.flash.base = some (i, b)) :
    ∃ t, s.loadLayers = .ok t := by
  unfold State.loadLayers
  rw [h]
  exact ⟨_, rfl⟩

/-- Its header lies within R471. -/
theorem baseImg_header : baseImg.headerOk = true := by
  have h : (sha384 baseImg.body).toNat = baseImg.digest := baseImg_digest.symm
  simp only [DictImage.headerOk, baseImg_crc, h, beq_self_eq_true, Bool.and_true, Bool.true_and]
  decide +kernel

theorem baseImg_ok {s : State} (hk : s.window.keys = keysOf keyList1) (hf : s.fuses.keyRevoked = 0) (hp : s.part = .qh0256)
    (hm : s.microOf = fun _ => 0) : s.dictImageOk 1 0 [] baseImg = true := by
  have h1 : imageValuesOk (fun _ => 0) .qh0256 [] baseImg = true := by
    simp only [imageValuesOk, baseImg_sets]
    decide +kernel
  have h2 : baseImg.bodyOk = true := by
    have hc : baseImg.recordCount = baseRecs.length := by decide +kernel
    simp only [DictImage.bodyOk, hc]
    exact congrArg (fun x => x.isSome) (parseRecords_bytes baseRecs baseRecs_fit)
  have h3 : recordsSorted baseRecs = true ∧ baseRecs.all (recOk 1) = true := by decide +kernel
  simp only [State.dictImageOk, hk, hf, hp, hm, h1, h2, h3, baseImg_header, baseImg_records, baseImg_complete, Bool.and_true, Bool.or_true]
  decide +kernel

theorem pickCopy_first {ok : DictImage → Bool} {b : DictImage} (h : ok b = true) : pickCopy ok #v[some b, none] = some (0, b) := by
  simp [pickCopy, Option.filter, h]

/-! ### Hypotheses that can be met: the dictionary server, the network, faults, clusters -/

/-- CAN started with a session of client 5, in Open. -/
def canUp (l : List UsdoSession) : State :=
  { inState .opened with can := { State.reset.can with started := true, nodeId := 3, sessions := l } }

/-- O43: the session table's last place and none; an access that is served and one refused, in each form. -/
theorem witness_UsdoSessions :
    let s := canUp []
    let seg := fun up => (⟨5, up, 0x7020, 1, [5]⟩ : UsdoSession)
    (State.reset.usdoOpen 5 = false ∧ s.usdoOpen 5 = true ∧ s.clusters.failOver = none)
    ∧ ({ s with clusters := { s.clusters with failOver := some ⟨1, 0, 1, false, 0, []⟩ } }).clusters.failOver ≠ none
    ∧ (∃ t, (s.endSession 5).dictWrite 5 0x7020 1 (natBytes 1 5) = .ok t) ∧ (∃ e, (s.endSession 5).dictWrite 5 0x7020 1 [] = .error e)
    ∧ (∃ t, (s.endSession 5).dictRead 5 0x7020 1 none = .ok t) ∧ (∃ e, (s.endSession 5).dictRead 5 0x0FFF 1 none = .error e)
    ∧ (((canUp (List.replicate 15 ⟨6, true, 0, 0, []⟩)).endSession 5).can.sessions.length < 16)
    ∧ (16 ≤ ((canUp (List.replicate 16 ⟨6, true, 0, 0, []⟩)).endSession 5).can.sessions.length)
    ∧ ((canUp [seg false]).can.session 5 = some (seg false) ∧ (canUp [seg true]).can.session 5 = some (seg true))
    ∧ (∃ t, ((canUp [seg false]).endSession 5).dictWrite 5 0x7020 1 ([] ++ [5]) = .ok t)
    ∧ (∃ e, ((canUp [seg false]).endSession 5).dictWrite 5 0x7020 1 ([5] ++ [5]) = .error e) :=
  ⟨by decide +kernel, by decide +kernel, ok_of (by decide +kernel), error_of (by decide +kernel), ok_of (by decide +kernel),
    error_of (by decide +kernel), by decide +kernel, by decide +kernel, by decide +kernel, ok_of (by decide +kernel), error_of (by decide +kernel)⟩

/-- A stored layer that sets nothing, as the controller writes it. -/
def storedImg : DictImage := storedImage 1 0 []

/-- The bytes of its header that the signature covers. -/
def storedHead : List Byte :=
  natBytes 4 0x4944564F ++ natBytes 2 1 ++ natBytes 1 3 ++ natBytes 1 0 ++ natBytes 16 0 ++ natBytes 4 1
    ++ natBytes 4 0 ++ natBytes 4 0 ++ natBytes 4 0 ++ natBytes 2 0 ++ List.replicate 6 0 ++ natBytes 48 (sha384 []).toNat

theorem storedImg_header : storedImg.header = storedHead ++ (natBytes 48 (configMac storedHead).toNat ++ (List.replicate 48 0
    ++ (List.replicate 60 0 ++ natBytes 4 (crc32c (storedHead ++ (natBytes 48 (configMac storedHead).toNat ++ List.replicate 48 0)
      ++ List.replicate 60 0))))) := by
  rw [← List.append_assoc (natBytes 48 _), ← List.append_assoc storedHead, ← List.append_assoc (storedHead ++ _)]
  rfl

/-- What the controller writes passes R471's checks of the header and R473's signature. -/
theorem storedImg_ok (s : State) (h : recordsSorted ([] : List DictRec) = true) : s.dictImageOk 3 0 s.dict.base storedImg = true := by
  have hb : storedImg.body = [] := rfl
  have hc : areaOk storedImg.header 256 = true := by
    simp only [storedImg, storedImage, dictHeader]
    exact areaOk_crc _ _ (by decide +kernel)
  have hd : (sha384 storedImg.body).toNat = storedImg.digest := by
    rw [hb]
    symm
    simp only [DictImage.digest, storedImg, storedImage, dictHeader, List.append_assoc, List.map_nil, List.flatten_nil]
    iterate 10 rw [← List.append_assoc]
    rw [fieldAt_mid _ _ _ _ _ (by simp [natBytes_length]) (natBytes_length _ _), digest_field]
  have hm : (configMac (storedImg.header.take 0x60)).toNat = fieldAt storedImg.header 0x60 48 := by
    have ha : storedHead.length = 0x60 := by simp [storedHead, natBytes_length]
    rw [storedImg_header, take_mid _ _ _ ha, fieldAt_mid _ _ _ _ _ ha (natBytes_length _ _), digest_field]
  have hk : storedImg.kind = 3 := by decide +kernel
  have hh : storedImg.headerOk = true := by
    simp only [DictImage.headerOk, hc, hd, beq_self_eq_true, Bool.and_true, Bool.true_and]
    decide +kernel
  have hr : storedImg.recordCount = 0 ∧ storedImg.slot = 0 ∧ storedImg.product = 0 := by decide +kernel
  have hs : storedImg.records = [] := by simp only [DictImage.records, hr.1, hb]; rfl
  simp only [State.dictImageOk, hh, DictImage.signed, DictImage.bodyOk, hk, hr, hb, hs, hm, h, imageValuesOk, imageSets, parseRecords]
  simp

/-- Assemble with a full server. -/
def served (d : DevState) : State := { inState d with clusters := { State.reset.clusters with active := some 0 } }

/-- O44. -/
theorem witness_LockAndStoredLayer :
    (∃ r, existsCheck 0x2401 1 = .ok r ∧ ([([1, 0] : List Byte), [0, 0]].all (fun l => !(served .opened).stateRefuses 0x2401 1 r l)) = true)
    ∧ ((served .opened).lock.holder = 0 ∧ (200 : Nat) ≠ 0 ∧ (128 : Nat) ≤ 200 ∧ (served .opened).clusters.failOver = none)
    ∧ (∀ n ∈ [200, 201], ({ served .opened with lock := { holder := n } }).lock.holder = n)
    ∧ ((served .quiesce).changeable 0x1E4 = true ∧ (served .boot).changeable 0x1E4 = false ∧ (served .opened).inStates 0x1F4 = true)
    ∧ (let s := { served .quiesce with flash := { State.reset.flash with stored := #v[some storedImg, none] } }
       pickCopy (s.dictImageOk 3 0 s.dict.base) s.flash.stored = some (0, storedImg)) :=
  ⟨ok_and (by decide +kernel), by decide +kernel, by decide +kernel, by decide +kernel, pickCopy_first (storedImg_ok _ rfl)⟩

/-- A raw access has been commanded to address 0 with a head in service, on a pack with zones and on one without. -/
def rawAt (n : Nat) (zones : Bool) : State :=
  let s := (if zones then zoned State.reset 4 else State.reset).updLane 0 0 0 (fun l => { l with servo := { l.servo with status := .satOut } })
  { s with raw := { s.raw with state := 1, command := n } }

/-- O45: a mask of the highest slot, loaded and not; an apply that waits, quiet and not; each raw command's answer. -/
theorem witness_OverlaysAndRawAccess :
    (let s := { served .quiesce with lock := { holder := 200 } }
     (∃ r, existsCheck 0x2423 1 = .ok r
       ∧ (!s.lockRefuses 200 0x2423 1 r (natBytes 2 0x8000) && !s.stateRefuses 0x2423 1 r (natBytes 2 0x8000)) = true)
      ∧ (∃ n : Fin 16, (0x8000).testBit n.val = true ∧ (s.layers.overlays[n].loaded = false ∨ s.layers.overlays[n].state ≠ 1)))
    ∧ (let s := { served .quiesce with layers := { State.reset.layers with overlays := State.reset.layers.overlays.set 15 { loaded := true, state := 1 } } }
       ∀ n : Fin 16, (0x8000).testBit n.val = true → s.layers.overlays[n].loaded = true ∧ s.layers.overlays[n].state = 1)
    ∧ (let s := { State.reset with layers := { State.reset.layers with applyStatus := 1 } }
       s.layers.applyStatus = 1 ∧ s.quiet = true ∧ ({ s with window := { s.window with writing := [0] } }.updFmt 0 0 (fun f => { f with running := true, req := req0 })).quiet = false)
    ∧ (∀ n ∈ [1, 2, 3], (rawAt n true).raw.state = 1 ∧ (rawAt n true).raw.command = n ∧ (rawAt n false).raw.state = 1
        ∧ (rawAt n false).raw.command = n)
    ∧ ((rawAt 1 true).rawRefusal false = none ∧ (rawAt 3 true).rawRefusal true = none ∧ (rawAt 3 true).rawRefusal false = none
        ∧ (rawAt 1 false).rawRefusal false = some 0x14 ∧ (rawAt 3 false).rawRefusal true = some 0x14)
    ∧ (let s := { (rawAt 1 true).setParam 0x2410 1 (mkAddr 31 0 0 0) with part := .qh0256 }
       ¬ s.packFitted ⟨addrPack s.rawAddr % 32, by omega⟩)
    ∧ ((1 : Reg64).toNat % 256 ≤ 1 ∧ 1 < (2 : Reg64).toNat % 256) :=
  ⟨⟨ok_and (by decide +kernel), by decide +kernel⟩, by decide +kernel, by decide +kernel, by decide +kernel, by decide +kernel,
    by decide +kernel, by decide +kernel⟩

/-- O46: the interval between two EMCY messages at its end and before. -/
theorem witness_NetworkCommands :
    ((canUp []).can.started = true ∧ State.reset.can.started = false ∧ (canUp []).can.listenOnly = false ∧ (canUp []).dev.state ≠ .off
      ∧ (canUp []).dev.state ≠ .zephyr)
    ∧ ((inState .lee).dev.state = .lee ∧ (canUp []).dev.state ≠ .lee ∧ (canUp []).dev.state ≠ .bench)
    ∧ (let s := ({ canUp [] with can := { (canUp []).can with emcyQueue := [⟨0, 0, 0, 0, 0, 0⟩], emcyAt := some 0 } }).setParam 0x1015 0 1
       s.can.emcyQueue = [⟨0, 0, 0, 0, 0, 0⟩] ∧ s.can.started = true ∧ s.can.nmt ≠ .stopped
        ∧ ({ s with now := 100000 }).emcyDue = true ∧ ({ s with now := 99999 }).emcyDue = false) := by decide +kernel

/-- O47: a source with no reaction, a sticky one, an unfatal and a fatal one, the last source; a reset waiting and its parks begun. -/
theorem witness_FaultSourcesAndReactions :
    (∃ k, k < 416 ∧ (State.reset.source k).sticky = false ∧ State.reset.reaction k % 8 = 0)
    ∧ ((State.reset.updSource 5 (fun f => { f with sticky := true })).source 5).sticky = true
    ∧ (∃ k, k < 416 ∧ srcClass k = 0) ∧ (∃ k, k < 416 ∧ srcClass k ≠ 0) ∧ (∃ k, k < 416 ∧ 2 ≤ k ∧ srcClass k = 2)
    ∧ State.reset.faults.resetRequest = none
    ∧ (∀ b ∈ [true, false], ({ State.reset with faults := { State.reset.faults with resetRequest := some 5, resetParking := b } }).faults.resetRequest = some 5
        ∧ ({ State.reset with faults := { State.reset.faults with resetRequest := some 5, resetParking := b } }).faults.resetParking = b)
    ∧ (reactionAllowed 16 (srcDefaultReaction 16) = true)
    ∧ ((State.reset.activate 0).fullServer = true ∧ State.reset.fullServer = false) := by
  refine ⟨⟨32, by decide +kernel⟩, by decide +kernel, ?_, ?_, ?_, by decide +kernel, by decide +kernel, by decide +kernel, by decide +kernel⟩
  · exact ⟨5, by decide +kernel⟩
  · exact ⟨0, by decide +kernel⟩
  · exact ⟨2, by decide +kernel⟩

/-- WAKE 0 with its fields changed. -/
def wakeWith (f : InputSt → InputSt) : State := State.reset.updPin (.wake 0) f

/-- O48. -/
theorem witness_DiscreteInputs :
    (State.reset.dev.aonUp = true ∧ (State.reset.inputs.get (.wake 0)).filtered ≠ true ∧ (State.reset.inputs.get (.wake 0)).window = false
      ∧ (State.reset.inputs.get (.wake 0)).conditioned ≠ true ∧ (State.reset.inputs.get (.wake 0)).filtered = false)
    ∧ (((wakeWith (fun y => { y with window := true })).inputs.get (.wake 0)).window = true)
    ∧ (let s := wakeWith (fun y => { y with masked := true })
       (s.inputs.get (.wake 0)).masked = true ∧ (s.inputs.get (.wake 0)).filtered = false)
    ∧ (let s := (wakeWith (fun y => { y with conditioned := true })).setParam 0x7082 1 5
       s.inputs.wake[(0 : Fin 4)].conditioned = true ∧ s.inputs.wake[(0 : Fin 4)].stuck = false ∧ s.inputs.wake[(0 : Fin 4)].masked = false
        ∧ s.param 0x7082 1 ≠ 0)
    ∧ (State.reset.inputs.epoActing = false
        ∧ ({ State.reset with inputs := { State.reset.inputs with epoActing := true } }).inputs.epoActing = true) := by decide +kernel

/-- A pair with cluster A Active and B in a role. -/
def pairWith (r : Role) : State :=
  let s := served .opened
  (s.updCluster 0 (fun u => { u with role := .active })).updCluster 1 (fun u => { u with role := r })

/-- O49: the Active cluster at its missed-heartbeat limit and one check below, a fit Standby and none; traps at the storm limit. -/
theorem witness_ArbiterAndFailOver :
    (let s := pairWith .standby
     let v : ArbiterView := ⟨false, true, 0, false⟩
     let after := fun (s : State) => ((s.beat 0 false).beat 1 true).viewMirror v
     s.hostStopped = false ∧ s.clusters.failOver = none ∧ s.clusters.active = some 0 ∧ s.standbyFit = true
      ∧ (∃ n, (after (s.updCluster 0 (fun u => { u with missRun := n }))).activeFails 0 = some 1
          ∧ (after (s.updCluster 0 (fun u => { u with missRun := n }))).standbyFit = true)
      ∧ (after (s.updCluster 0 (fun u => { u with missRun := 0 }))).activeFails 0 = none)
    ∧ (let s := ((pairWith .out).setParam 0x8011 3 200).setParam 0x8011 4 1
       let t := s.updCluster 0 (fun u => { u with trapTimes := [0] })
       ((((t.beat 0 true).beat 1 true).viewMirror ⟨true, true, 0, false⟩).activeFails 0 = some 2)
        ∧ (((t.beat 0 true).beat 1 true).viewMirror ⟨true, true, 0, false⟩).standbyFit = false)
    ∧ ({ State.reset with arbiter := { State.reset.arbiter with stopped := true } }).hostStopped = true
    ∧ ({ State.reset with clusters := { State.reset.clusters with failOver := some ⟨1, 0, 1, false, 0, []⟩ } }).clusters.failOver
        = some ⟨1, 0, 1, false, 0, []⟩
    ∧ ((pairWith .standby).dev.state = .opened ∧ (pairWith .standby).param 0x8011 1 ≠ 0 ∧ (pairWith .synchronising).standbyFit = false)
    ∧ ¬ (State.reset.dev.state = .opened ∨ State.reset.dev.state = .quiesce) := by
  refine ⟨⟨by decide +kernel, by decide +kernel, by decide +kernel, by decide +kernel, ⟨99, by decide +kernel⟩, by decide +kernel⟩,
    by decide +kernel, by decide +kernel, by decide +kernel, by decide +kernel, by decide +kernel⟩

/-- O50. -/
theorem witness_ClusterRoles :
    (let s := (State.reset.updCluster 0 (fun u => { u with role := .selfTest })).updCluster 1 (fun u => { u with role := .selfTest })
     s.clusters.unit[(0 : ClusterId)].role = .selfTest ∧ s.hostStopped = false ∧ s.clusters.active = none ∧ s.clusters.failOver = none
      ∧ (0 : ClusterId) = s.clusters.bootCluster)
    ∧ (let s := pairWith .selfTest
       s.clusters.unit[(1 : ClusterId)].role = .selfTest ∧ s.clusters.active ≠ none ∧ (s.raise (22 + 8 * (1 : ClusterId).val)).clusters.active ≠ none)
    ∧ (let s := pairWith .synchronising
       s.clusters.unit[(1 : ClusterId)].role = .synchronising ∧ s.clusters.active = some (otherCluster 1) ∧ s.clusters.failOver = none)
    ∧ ((pairWith .out).clusters.unit[(1 : ClusterId)].role = .out ∧ (pairWith .out).dev.state = .opened ∧ State.reset.clusters.unit[(1 : ClusterId)].role ≠ .out)
    ∧ (State.reset.arbiter.failed = false ∧ ({ State.reset with arbiter := { State.reset.arbiter with failed := true } }).arbiter.failed = true) := by
  decide +kernel

/-! ### Hypotheses that can be met: tokens, power, start, flash, the recorder -/

/-- What stands before and after the nonce of an injection or unlock token (R512, R548). -/
def tokenHead (magic : Nat) : List Byte := natBytes 16 (magic + 2 ^ 32)
def tokenTail : List Byte := natBytes 8 (0xFFFFFFFF + 3 * 2 ^ 32) ++ List.replicate 128 0
def tokenOf (magic nonce : Nat) : List Byte := tokenHead magic ++ (natBytes 8 nonce ++ tokenTail)

/-- Bench with the key list of the image. -/
def benchKeys : State := { inState .bench with window := { State.reset.window with keys := keysOf keyList1 } }

/-- A token laid out as R512 asks, with the current nonce, is good when its signature verifies, which nothing in the model decides
(`Config.tokenSigned` is a free value). -/
theorem token_layout (magic nonce perms : Nat) (hm : magic = 0x4946564F ∧ perms = 3 ∨ magic = 0x5554564F ∧ perms = 2)
    (h : Config.tokenSigned 0 0 (tokenOf magic (Config.freeValue nonce)) = true) :
    benchKeys.tokenGood magic nonce perms (tokenOf magic (Config.freeValue nonce)) = true := by
  have hh : (tokenHead magic).length = 16 := natBytes_length _ _
  have h8 : (natBytes 8 (Config.freeValue nonce)).length = 8 := natBytes_length _ _
  have left : ∀ off n, off + n ≤ 16 → fieldAt (tokenOf magic (Config.freeValue nonce)) off n = fieldAt (tokenHead magic) off n :=
    fun off n ho => fieldAt_left _ _ off n (by omega)
  have right : ∀ off n, 24 ≤ off → fieldAt (tokenOf magic (Config.freeValue nonce)) off n = fieldAt tokenTail (off - 24) n := by
    intro off n ho
    rw [tokenOf, fieldAt_right _ _ _ _ (by omega), fieldAt_right _ _ _ _ (by omega), hh, h8]
    congr 1
  have hn : fieldAt (tokenOf magic (Config.freeValue nonce)) 0x10 8 = Config.freeValue nonce % 2 ^ 64 := by
    rw [tokenOf, fieldAt_right _ _ _ _ (by omega), hh, fieldAt_left _ _ _ _ (by omega), fieldAt, List.drop_zero,
      List.take_of_length_le (by omega), leNat_natBytes, show (256 : Nat) ^ 8 = 2 ^ 64 from by decide]
  have hz : zeroAt (tokenOf magic (Config.freeValue nonce)) 0x20 32 = true := by
    rw [zeroAt, tokenOf, ← List.append_assoc, List.drop_append, List.drop_of_length_le (by simp only [List.length_append]; omega),
      List.nil_append, List.length_append, hh, h8]
    decide +kernel
  have hl : (tokenOf magic (Config.freeValue nonce)).length = 160 := by
    rw [tokenOf, List.length_append, List.length_append, hh, h8]
    decide +kernel
  have hr : benchKeys.window.revision = 0 := rfl
  have h6 : fieldAt (tokenHead magic) 6 2 = 0 := by rcases hm with ⟨rfl, -⟩ | ⟨rfl, -⟩ <;> decide +kernel
  simp only [State.tokenGood, hn, hz, hl, hr, left 6 2 (by omega), h6, h, left 0 4 (by omega), left 4 2 (by omega), left 8 8 (by omega),
    right 0x18 4 (by omega), right 0x1C 4 (by omega), Bool.and_true, beq_self_eq_true]
  rcases hm with ⟨rfl, rfl⟩ | ⟨rfl, rfl⟩ <;> decide +kernel

/-- O51. -/
theorem witness_TokensAndInjection :
    ((inState .opened).dev.state ≠ .bench ∧ benchKeys.dev.state = .bench ∧ (inState .opened).dev.state ≠ .lee ∧ (inState .lee).dev.state = .lee)
    ∧ (benchKeys.tokenGood 0x4946564F benchKeys.injection.nonce 3 [] = false ∧ benchKeys.tokenGood 0x5554564F benchKeys.sec.tapNonce 2 [] = false)
    ∧ State.reset.injectionOpen (State.reset.param 0xF100 5) = false
    ∧ (∀ m ∈ [1, 2, 3, 4], let s := { benchKeys with injection := ⟨0, 1, 7, 9⟩ }.setParam 0xF100 5 m
        s.injectionOpen (s.param 0xF100 5) = true ∧ s.param 0xF100 5 = m)
    ∧ (let s := (({ benchKeys with injection := ⟨0, 1, 7, 9⟩ }.setParam 0xF100 5 2).setParam 0xF100 6 1)
       s.param 0xF100 6 = 1 ∧ s.param 0xF100 5 = 2 ∧ s.injectionOpen 2 = true)
    ∧ State.reset.param 0xF100 6 ≠ 1 := by decide +kernel

/-- Rail 3 good. -/
def railGood : State := State.reset.updRail 3 (fun r => { r with enable := true, state := 2 })

/-- O52. -/
theorem witness_SupplyAndReset :
    (let s := { State.reset with dev := { State.reset.dev with state := .off, aonUp := false } }
     s.dev.state = .off ∧ s.dev.aonUp = false)
    ∧ State.reset.dev.state ≠ .off
    ∧ (railGood.rails[(3 : RailId)].enable = true ∧ railGood.rails[(3 : RailId)].state = 2 ∧ railGood.dev.supplyLost = false
        ∧ State.reset.rails[(3 : RailId)].enable = false)
    ∧ ({ State.reset with dev := { State.reset.dev with supplyLost := true } }).dev.supplyLost = true := by decide +kernel

/-- O53: domains on both sides of those of the mover banks; slices at both ends of theirs. -/
theorem witness_RailsDomainsAndSeconds :
    (let s := (railGood.setParam 0x7042 1 1).setParam 0x7042 5 1
     s.param 0x7042 1 = 1 ∧ s.rails[(3 : RailId)].enable = true ∧ s.param 0x7042 ((3 : RailId).val + 2) ≠ 0)
    ∧ State.reset.param 0x7042 1 ≠ 1
    ∧ (let s := { inState .opened with rails := Vector.replicate 8 { enable := true, state := 2 } }
       let t := s.updMover 0 (fun m => { m with waiting := [⟨[], 0⟩] })
       let u := (s.updArm 0 0 (fun x => { x with laneGroup := true })).updArm 31 1 (fun x => { x with laneGroup := true })
       (∀ d ∈ [(0 : DomainId), 63], u.domainWanted d.val = true ∧ u.domains[d].state ≠ 2)
        ∧ s.rails[0].enable = true ∧ (∀ d ∈ [(168 : DomainId), 176, 177], s.domainWanted d.val = true ∧ s.domains[d].state ≠ 2)
        ∧ t.domainWanted (moverDomain 0).val = true ∧ t.domains[moverDomain 0].state ≠ 2
        ∧ (∀ d ∈ [(160 : DomainId), 167], State.reset.domainWanted d.val = false))
    ∧ (let s := State.reset.updDomain 5 (fun x => { x with state := 2 }); s.domains[(5 : DomainId)].state = 2)
    ∧ State.reset.domainWanted 0 = false := by decide +kernel

/-- Boot at its end with the firmware image chosen. -/
def bootPicked (s : State) : State :=
  { s with window := { s.window with running := 0, imageState := #v[1, 0], keys := keysOf keyList1, revision := 1, writing := [] } }

/-- Boot flash without a base image. -/
def withoutBase (s : State) : State := { s with flash := { s.flash with base := #v[none, none] } }

theorem microOf_empty {s : State} (h : s.packs = Vector.replicate 32 {}) : s.microOf = fun _ => 0 := by
  funext p
  simp only [State.microOf, h]
  split
  · rw [Vector.getElem_replicate]
    rfl
  · rfl

/-- What the choice of an image needs of a state. -/
structure Chooses (s : State) : Prop where
  part : s.part = .qh0256
  revoked : s.fuses.rootRevoked = 0
  hash : s.fuses.rootHash = #v[(sha384 fwImg.rootKey).toNat, 0, 0, 0]
  version : s.fuses.securityVersion = 0
  preferred : s.flash.preferred = 0

theorem chooses_bootAtEnd (a b : Option FwImage) : Chooses (bootAtEnd a b) :=
  ⟨rfl, rfl, rfl, rfl, by simp only [Flash.preferred]; rfl⟩

theorem bootAtEnd_image (a b : Option FwImage) : (bootAtEnd a b).flash.image = #v[a, b] := rfl

/-- Without a base image Boot fails. -/
theorem noBase (s : State) (h : s.flash.base = #v[none, none]) : s.loadLayers = .error 0x32 := by
  rw [State.loadLayers, h]
  rfl

theorem Chooses.noteCheckers {s : State} (h : Chooses s) : Chooses (s.noteCheckers []) := ⟨h.part, h.revoked, h.hash, h.version, h.preferred⟩

theorem Chooses.withoutBase {s : State} (h : Chooses s) : Chooses (withoutBase s) := ⟨h.part, h.revoked, h.hash, h.version, h.preferred⟩

theorem Chooses.head {s : State} (h : Chooses s) {x : FwImage} (hx : x.header = fwImg.header) (hs : x.signatureOk = true) : s.headState x = 1 := by
  rw [fwImg_head hx hs h.part h.revoked h.hash, h.version]
  rfl

theorem Chooses.fails {s : State} (h : Chooses s) {x : FwImage} (hx : x.header = fwImg.header) (hs : x.signatureOk = true)
    (hi : s.flash.image = #v[some x, none]) : s.headFails = none := by
  simp [State.headFails, hi, h.head hx hs]

theorem Chooses.pick {s : State} (h : Chooses s) (hi : s.flash.image = #v[some fwImg, none]) : s.pickImage = .ok (fwImg, bootPicked s) := by
  have h1 : s.imageStateOf (some fwImg) = 1 := by simp [State.imageStateOf, h.head rfl rfl, fwImg_payload]
  have h2 : s.imageStateOf none = 0 := rfl
  have h3 : fwImg.revision = 1 ∧ fwImg.writingRoutines = [] := by decide +kernel
  simp [State.pickImage, hi, h.preferred, h1, h2, h3, fwImg_section1, bootPicked]
  rfl

theorem Chooses.pickNone {s : State} (h : Chooses s) (hi : s.flash.image = #v[some { fwImg with tagOk := false }, none]) :
    ∃ e, s.pickImage = .error e := by
  have h1 : s.imageStateOf (some { fwImg with tagOk := false }) = 2 := by
    simp [State.imageStateOf, h.head (x := { fwImg with tagOk := false }) rfl rfl, payloadOk]
  have h2 : s.imageStateOf none = 0 := rfl
  refine ⟨failCode [2, 0], ?_⟩
  simp [State.pickImage, hi, h.preferred, h1, h2, otherImage]

/-- The image with a wrong tag. -/
def fwUntagged : FwImage := { fwImg with tagOk := false }

theorem boot_untagged {s : State} (h : Chooses s) (hi : s.flash.image = #v[some fwUntagged, none]) :
    s.headFails = none ∧ ∃ e, (s.noteCheckers []).pickImage = .error e :=
  ⟨h.fails (x := fwUntagged) rfl rfl hi, h.noteCheckers.pickNone hi⟩

theorem boot_picks {s : State} (h : Chooses s) (hi : s.flash.image = #v[some fwImg, none]) (hb : s.flash.base = #v[some baseImg, none])
    (hp : s.packs = Vector.replicate 32 {}) (hk : s.fuses.keyRevoked = 0) :
    s.headFails = none ∧ (∃ x t u, (s.noteCheckers []).pickImage = .ok (x, t) ∧ t.loadLayers = .ok u)
    ∧ ∃ x t e, ((withoutBase s).noteCheckers []).pickImage = .ok (x, t) ∧ t.loadLayers = .error e := by
  have hok : (bootPicked (s.noteCheckers [])).dictImageOk 1 0 [] baseImg = true := baseImg_ok rfl hk h.part (microOf_empty hp)
  have hc : pickCopy ((bootPicked (s.noteCheckers [])).dictImageOk 1 0 []) (bootPicked (s.noteCheckers [])).flash.base = some (0, baseImg) := by
    rw [show (bootPicked (s.noteCheckers [])).flash.base = #v[some baseImg, none] from hb]
    exact pickCopy_first hok
  obtain ⟨u, hu⟩ := loadLayers_of hc
  exact ⟨h.fails (x := fwImg) rfl rfl hi, ⟨fwImg, _, u, h.noteCheckers.pick hi, hu⟩, ⟨fwImg, _, 0x32, h.withoutBase.noteCheckers.pick hi, noBase _ rfl⟩⟩

/-- Every checker passes its test (R405). -/
theorem checkers_pass : (bootAtEnd none none).failedChannels 0 = [] := by decide +kernel

/-- O54: Boot at each of its steps, the fourth attempt and the third; its end with both failures of the head of the images, of the choice, and
with none. -/
theorem witness_BootSteps :
    (State.reset.dev.state = .boot ∧ State.reset.boot.step = .waiting ∧ State.reset.can.sampled = false ∧ State.reset.boot.railsKept = false)
    ∧ (∀ r ∈ [0, 1, 2, 7], (bootAt (.powerGood r)).boot.step = .powerGood r ∧ (bootAt (.enable r)).boot.step = .enable r)
    ∧ (∀ n ∈ [3, 4], ({ bootAt .references with boot := { (bootAt .references).boot with attempt := n } }).boot.attempt = n)
    ∧ ((bootAt .retryWait).boot.step = .retryWait ∧ (bootAt .references).boot.step = .references)
    ∧ ((bootAtEnd none none).headFails = some 0x30 ∧ (bootAtEnd none none).failedChannels 0 = [] ∧ (bootAtEnd none none).buf.reachable = true)
    ∧ ((bootAtEnd (some fwUntagged) none).headFails = none
        ∧ ∃ e, ((bootAtEnd (some fwUntagged) none).noteCheckers []).pickImage = .error e)
    ∧ ((bootAtEnd (some fwImg) none).headFails = none
        ∧ (∃ x t u, ((bootAtEnd (some fwImg) none).noteCheckers []).pickImage = .ok (x, t) ∧ t.loadLayers = .ok u)
        ∧ (∃ x t e, ((withoutBase (bootAtEnd (some fwImg) none)).noteCheckers []).pickImage = .ok (x, t) ∧ t.loadLayers = .error e)) := by
  have h : (bootAtEnd none none).headFails = some 0x30 := by decide +kernel
  refine ⟨by decide +kernel, by decide +kernel, by decide +kernel, by decide +kernel, ⟨h, checkers_pass, rfl⟩, ?_, ?_⟩
  · exact boot_untagged (chooses_bootAtEnd _ _) (bootAtEnd_image _ _)
  · exact boot_picks (chooses_bootAtEnd _ _) (bootAtEnd_image _ _) rfl rfl rfl

/-- Boot flash with two images, on the part that they are for. -/
def withImages (a b : Option FwImage) : State :=
  let s := rooted State.reset
  { s with part := .qh0256, flash := { s.flash with image := #v[a, b] } }
/-- The same under a fuse of 4, which refuses the image. -/
def fuse4 (s : State) : State := { s with fuses := { s.fuses with securityVersion := 4 } }

/-- The image's state where its root key is fused: refused below the fused version, else valid, or rejected for its tag (R535). -/
theorem image_states {s : State} (hp : s.part = .qh0256) (hr : s.fuses.rootRevoked = 0)
    (hh : s.fuses.rootHash = #v[(sha384 fwImg.rootKey).toNat, 0, 0, 0]) :
    s.imageStateOf (some fwImg) = (if 3 < s.fuses.securityVersion then 3 else 1)
    ∧ s.imageStateOf (some fwUntagged) = (if 3 < s.fuses.securityVersion then 3 else 2) := by
  have h1 : s.headState fwImg = if 3 < s.fuses.securityVersion then 3 else 1 := fwImg_head rfl rfl hp hr hh
  have h2 : s.headState fwUntagged = if 3 < s.fuses.securityVersion then 3 else 1 := fwImg_head (x := fwUntagged) rfl rfl hp hr hh
  have h3 : payloadOk fwUntagged = false := rfl
  by_cases h : 3 < s.fuses.securityVersion <;> simp [State.imageStateOf, h1, h2, h, fwImg_payload, h3]

/-- SelfTest with every cluster in a role. -/
def selfTesting (r : Role) : State :=
  { inState .selfTest with
    clusters := { State.reset.clusters with unit := Vector.replicate 2 { State.reset.clusters.unit[0] with role := r } } }

/-- O55: the choice among the states of both images, 0x31 and 0x30; the tests' results, in a factory start and not, with a cluster out and
with none. -/
theorem witness_ImageChoiceAndSelfTest :
    ((withImages (some fwImg) none).imageStateOf (some fwImg) = 1 ∧ (withImages (some fwImg) none).flash.preferred = 0)
    ∧ ((withImages (some fwUntagged) (some fwImg)).imageStateOf (some fwUntagged) = 2 ∧ (withImages none none).imageStateOf none = 0
        ∧ (fuse4 (withImages (some fwImg) none)).imageStateOf (some fwImg) = 3)
    ∧ ((inState .opened).dev.state ≠ .selfTest ∧ (selfTesting .selfTest).clusters.unit[(0 : ClusterId)].role = .selfTest)
    ∧ (let s := selfTesting .out
       s.dev.state = .selfTest ∧ s.dev.testsEnded = false ∧ ∀ c : ClusterId, s.clusters.unit[c].role = .out)
    ∧ (let s := selfTesting .standby
       s.dev.state = .selfTest ∧ s.dev.testsEnded = false ∧ s.dev.factory = false
        ∧ (∀ c : ClusterId, s.clusters.unit[c].role ≠ .out ∧ s.clusters.unit[c].role ≠ .selfTest) ∧ s.param 0x7001 1 ≠ 1 ∧ s.dev.pendingLee = none)
    ∧ (let s := (selfTesting .standby).setParam 0x7001 1 1
       s.dev.state = .selfTest ∧ s.dev.testsEnded = false ∧ s.param 0x7001 1 = 1)
    ∧ (let s := { selfTesting .standby with dev := { (selfTesting .standby).dev with pendingLee := some ⟨false, 1⟩ } }
       s.dev.state = .selfTest ∧ s.dev.testsEnded = false ∧ s.dev.pendingLee ≠ none ∧ (∀ c : ClusterId, s.clusters.unit[c].role ≠ .selfTest)
        ∧ ∃ c : ClusterId, s.clusters.unit[c].role ≠ .out)
    ∧ (let s := { selfTesting .standby with dev := { (selfTesting .standby).dev with factory := true } }
       s.dev.state = .selfTest ∧ s.dev.factory = true ∧ s.dev.pendingLee = none ∧ (∀ c : ClusterId, s.clusters.unit[c].role ≠ .selfTest)
        ∧ ∃ c : ClusterId, s.clusters.unit[c].role ≠ .out)
    ∧ (let s := (selfTesting .standby).updCluster 1 (fun u => { u with role := .out })
       s.dev.state = .selfTest ∧ s.dev.testsEnded = false ∧ s.dev.factory = false ∧ (∀ c : ClusterId, s.clusters.unit[c].role ≠ .selfTest)
        ∧ (∃ c : ClusterId, s.clusters.unit[c].role ≠ .out) ∧ ∃ c : ClusterId, s.clusters.unit[c].role = .out) :=
  ⟨⟨(image_states rfl rfl rfl).1, by simp only [Flash.preferred]; rfl⟩, ⟨(image_states rfl rfl rfl).2, rfl, (image_states rfl rfl rfl).1⟩,
    by decide +kernel, by decide +kernel, by decide +kernel, by decide +kernel, by decide +kernel, by decide +kernel, by decide +kernel⟩

/-- Lee in the full form, by command. -/
def leeFull : State := { inState .lee with dev := { (inState .lee).dev with leeForm := 0, leeCause := 0 } }

/-- O56: each state from which a command is taken, and that in which it is not. -/
theorem witness_StateCommands :
    (({ State.reset with dev := { State.reset.dev with closeStep := 1 } }).commandRuns = true ∧ leeFull.commandRuns = false)
    ∧ (let s := inState .assemble
       let t := { s with store := { s.store with isOpen := true } }
       t.dev.state = .assemble ∧ t.store.isOpen = true ∧ t.commandRuns = false)
    ∧ (∀ d ∈ [DevState.quiesce, .opened, .selfTest, .bench, .boot, .zephyr, .off], (inState d).dev.state = d ∧ (inState d).commandRuns = false)
    ∧ (leeFull.dev.state = .lee ∧ leeFull.inputs.epo.filtered = false ∧ leeFull.dev.leeCause ≠ 2 ∧ leeFull.dev.leeCause ≠ 8
        ∧ leeFull.dev.leeForm = 0)
    ∧ ({ leeFull with dev := { leeFull.dev with leeForm := 1 } }).dev.leeForm ≠ 0
    ∧ (leeFull.mayZephyr = true ∧ State.reset.mayZephyr = false)
    ∧ (let s := { inState .selfTest with dev := { (inState .selfTest).dev with testsEnded := true } }
       s.dev.state = .selfTest ∧ s.dev.testsEnded = true ∧ s.commandRuns = false) := by decide +kernel

/-- A close at a step. -/
def closing (n : Nat) : State := { inState .quiesce with dev := { (inState .quiesce).dev with closeStep := n } }
/-- A move to Lee that waits. -/
def movingLee (cause : Nat) : State := { inState .assemble with dev := { (inState .assemble).dev with pendingLee := some ⟨false, cause⟩ } }

/-- O57. -/
theorem witness_LeeAndOrderlyClose :
    ((movingLee 0).dev.pendingLee = some ⟨false, 0⟩ ∧ (movingLee 0).allArmsDown = true ∧ (movingLee 0).svc.cmds = [])
    ∧ (let s := (movingLee 5).updArm 0 0 (fun a => { a with servo := { a.servo with mode := .following } })
       s.dev.pendingLee = some ⟨false, 5⟩ ∧ s.allArmsDown = false)
    ∧ ((closing 1).dev.closeStep = 1 ∧ (closing 1).noDataCommand = true)
    ∧ (let s := { closing 1 with host := { State.reset.host with rings := [ring0] } }
       let t := s.updSvc (fun v => { v with cmds := [{ ring := 4, slot := 0 }] })
       t.dev.closeStep = 1 ∧ t.noDataCommand = false)
    ∧ ((closing 3).dev.closeStep = 3 ∧ (closing 3).store.changes = [] ∧ (closing 3).store.journal = [])
    ∧ (let s := { closing 6 with dev := { (closing 6).dev with pendingLee := some ⟨true, 8⟩ } }
       (closing 6).dev.closeStep = 6 ∧ (closing 6).dev.pendingLee = none ∧ s.dev.closeStep = 6 ∧ s.dev.pendingLee = some ⟨true, 8⟩)
    ∧ ((closing 5).dev.closeStep = 5 ∧ (closing 5).allArmsDown = true ∧ (closing 0).dev.closeStep = 0)
    ∧ (let s := { leeFull with dev := { leeFull.dev with leeForm := 1 } }
       s.dev.powerDown = false ∧ s.dev.state = .lee ∧ s.dev.leeForm = 1 ∧ s.spindlesOff = true)
    ∧ (State.reset.dev.powerDown = false ∧ State.reset.dev.state ≠ .lee) := by decide +kernel

/-- O58. -/
theorem witness_ZephyrAndWake :
    (let s := leeFull.setParam 0x7001 4 10
     s.param 0x7001 4 ≠ 0 ∧ s.mayZephyr = true ∧ s.dev.zephyrEntry = false)
    ∧ (∀ w ∈ [0, 1], let s := { leeFull with dev := { leeFull.dev with zephyrEntry := true, latchedWake := w } }
        s.dev.zephyrEntry = true ∧ s.dev.latchedWake = w)
    ∧ (∀ bit : Fin 8, let s := (inState .zephyr).setParam 0x7050 1 0
        s.dev.state ≠ .off ∧ (s.param 0x7050 1).testBit bit.val = false)
    ∧ (∀ bit : Fin 8, let s := (inState .zephyr).setParam 0x7050 1 255
        s.dev.state = .zephyr ∧ s.dev.zephyrEntry = false ∧ (s.param 0x7050 1).testBit bit.val = true)
    ∧ (inState .off).dev.state = .off
    ∧ (let s := (inState .zephyr).setParam 0x7060 4 127
       let x : TickSample := ⟨[], 127 * 256, 0⟩
       s.dev.state = .zephyr ∧ s.presBits = s.dev.presAtEntry ∧ x.temps = [] ∧ x.die ≤ signedNat 8 (s.param 0x7060 4) * 256 ∧ x.energy = 0) := by
  decide +kernel

/-- The dictionary's full server, in a state. -/
def serving (d : DevState) : State := { inState d with clusters := { State.reset.clusters with active := some 0 } }
/-- Both images in boot flash, the first running. -/
def twoImages : State :=
  let s := serving .lee
  { s with flash := { s.flash with image := #v[some fwImg, some fwImg] },
           window := { s.window with running := 0, imageState := #v[1, 1] },
           fuses := { s.fuses with securityVersion := 2 } }
/-- A flash target selected at an offset. -/
def atTarget (t off : Nat) : State := ((serving .lee).setParam 0x7402 1 t).setParam 0x7402 2 off

/-- An import block meets its map when it unwraps, which nothing in the model decides (`Config.unwrapImport` is a free value). -/
def importBlock : List Byte := natBytes 8 (0x4B53564F + 2 ^ 32 + 64 * 2 ^ 48) ++ List.replicate 168 0

theorem importKeys_of (x : List Byte) (h : Config.unwrapImport importBlock = some x) (hx : x.length = 48) :
    importKeys importBlock = some x := by
  have hl : (importBlock.length ≤ 1024 ∧ fieldAt importBlock 0 4 = 0x4B53564F ∧ fieldAt importBlock 4 2 = 1
      ∧ 64 ≤ fieldAt importBlock 6 2 ∧ fieldAt importBlock 6 2 ≤ 640 ∧ zeroAt importBlock 0x68 8 = true
      ∧ importBlock.length = 0x70 + fieldAt importBlock 6 2) := by decide +kernel
  have hs : secretsOk x = true := by simp [secretsOk, hx]
  unfold importKeys
  simp only [hl, h, hx, hs, and_self]
  rfl

/-- O59: the last bytes of a target, and one byte beyond them; the selector's copies; versions at and above those of the images. -/
theorem witness_FlashWindow :
    (let s := atTarget 1 (0x1000000 - 1)
     s.changeable 0x1E4 = true ∧ s.window.state ≠ 1 ∧ s.targetHeld (s.param 0x7402 1) = false
      ∧ s.param 0x7402 2 + 1 ≤ targetSize (s.param 0x7402 1) ∧ targetSize (s.param 0x7402 1) < s.param 0x7402 2 + 2
      ∧ s.erasedAt (s.param 0x7402 1) (s.param 0x7402 2) 1 = true)
    ∧ (let s := atTarget 1 0
       let t := { s with window := { s.window with state := 1 } }
       t.changeable 0x1E4 = true ∧ t.window.state = 1)
    ∧ (let s := atTarget 0 0
       let t := { s with window := { s.window with running := 0 } }
       t.changeable 0x1E4 = true ∧ t.window.state ≠ 1 ∧ t.targetHeld (t.param 0x7402 1) = true)
    ∧ (let s := serving .lee
       let t := { s with flash := { s.flash with selector := #v[selectorBytes ⟨7, 1⟩, selectorBytes ⟨6, 0⟩] } }
       t.changeable 0x1E4 = true ∧ t.flash.decides = some (0, ⟨7, 1⟩))
    ∧ (State.reset.changeable 0x1E4 = false ∧ State.reset.changeable 0x1E0 = false)
    ∧ (∀ o ∈ [1, 2, 3], let s := atTarget 1 0
        let t := { s with window := { s.window with op := o, target := 1, state := 1 } }
        t.window.op = o ∧ t.window.target < 2)
    ∧ (let s := { twoImages with dev := { twoImages.dev with state := .opened } }
       s.changeable 0x1E0 = true ∧ s.flash.image[(0 : Fin 2)] = some fwImg ∧ s.flash.image[otherImage 0] = some fwImg
        ∧ s.window.running = 0 ∧ s.window.imageState[otherImage 0] = 1 ∧ s.fuses.securityVersion < 3 ∧ 3 ≤ fwImg.securityVersion
        ∧ fwImg.securityVersion < 4 ∧ s.fuses.securityVersion < 4)
    ∧ ((serving .bench).changeable 0x100 = true ∧ (serving .opened).changeable 0x100 = false)
    ∧ (let key : List Byte := List.replicate 96 0
       key.length = 96 ∧ leNat key = 0 ∧ (serving .assemble).changeable 0x24 = true)
    ∧ (let key : List Byte := List.replicate 96 1
       let s := { serving .assemble with store := { State.reset.store with isOpen := true } }
       key.length = 96 ∧ leNat key ≠ 0 ∧ s.changeable 0x24 = true ∧ s.dev.state = .assemble ∧ s.store.isOpen = true)
    ∧ ((List.replicate 95 (0 : Byte)).length ≠ 96)
    ∧ (importKeys [] = none ∧ (serving .assemble).changeable 0x20 = true ∧ (serving .opened).changeable 0x20 = false) :=
  ⟨by decide +kernel, by decide +kernel, by decide +kernel, by decide +kernel, by decide +kernel, by decide +kernel,
    ⟨by decide +kernel, rfl, rfl, rfl, rfl, by decide +kernel, by decide +kernel, by decide +kernel, by decide +kernel⟩, by decide +kernel,
    by decide +kernel, by decide +kernel, by decide +kernel, by decide +kernel⟩

/-- A record that repeats the newest one. -/
def lastRec : EvRec := { type := 0x40, code := 3 }
def withLast : State := State.reset.formRecord lastRec

/-- O60. -/
theorem witness_RecorderWrites :
    (State.reset.mergeable lastRec = false ∧ withLast.mergeable lastRec = true)
    ∧ ((State.reset.updRail 1 (fun r => { r with enable := true, state := 2 })).flashReachable = true ∧ State.reset.flashReachable = false)
    ∧ (1 < (((State.reset.updRail 1 (fun r => { r with enable := true, state := 2 })).formRecord lastRec).formRecord { type := 0x41 }).recorder.staging.length)
    ∧ (let s := serving .lee
       s.clusters.failOver = none ∧ (∃ t, s.dictWrite 200 0x8803 1 (natBytes 24 5) = .ok t))
    ∧ (let s := { serving .lee with can := { State.reset.can with started := true, nodeId := 5 } }
       s.usdoOpen 1 = true ∧ s.usdoOpen 127 = true ∧ s.clusters.failOver = none ∧ (∃ r, existsCheck 0x8802 3 = .ok r)
        ∧ s.readRefuses 0x8802 = false) := by
  refine ⟨by decide +kernel, by decide +kernel, by decide +kernel, ⟨by decide +kernel, ok_of (by decide +kernel)⟩,
    by decide +kernel, by decide +kernel, by decide +kernel, ok_of (by decide +kernel), by decide +kernel⟩

/-! ### What `Instr.wf` refuses -/

/-- One byte string too short for any area, and a demodulator result out of range in one field at a time. -/
def dm0 : Demod := ⟨0, 0, 0, 0, 0, 0⟩
def read68 : DramRead := ⟨0, 0, [(68, 0)], none, none⟩
def read256 : DramRead := ⟨0, 0, [(0, 256)], none, none⟩
def mem0 : PackMem :=
  { failures := 0, identity := List.replicate 256 0, signature := List.replicate 512 0, geometry := List.replicate 1024 0,
    servo := List.replicate 2048 0, locator := List.replicate 256 0, life0 := List.replicate 1024 0, life1 := List.replicate 1024 0,
    logHeader := List.replicate 64 0, lifeWritten := true }
def ladder0 : LadderRead := ⟨[], [], [], [], [], ⟨0, 0⟩, 0, ⟨[], ⟨0, 0⟩, ⟨0, 0⟩⟩⟩
def cm0 : CmReq := ⟨0, 0, 0, 0, 0, []⟩

/-- Each check on tiles, packs and sequencers refuses a command that breaks it alone. -/
theorem test_wf_refuses_1 :
    ∀ i ∈ ([.cWedgePhaseUpdate 0 [⟨0, 0, 2 ^ 16, 0, 0⟩], .cWedgePhaseUpdate 0 [⟨0, 0, 0, 2 ^ 20, 0⟩], .cLadderReadDone 0 0 0 (2 ^ 40) ladder0,
      .cPackSettleDone 0 { mem0 with identity := [] }, .cPackSettleDone 0 { mem0 with signature := [] },
      .cPackSettleDone 0 { mem0 with geometry := [] }, .cPackSettleDone 0 { mem0 with servo := [] },
      .cPackSettleDone 0 { mem0 with locator := [] }, .cPackSettleDone 0 { mem0 with life0 := [] },
      .cPackSettleDone 0 { mem0 with life1 := [] }, .cPackSettleDone 0 { mem0 with logHeader := [] },
      .cMemoryLoadComplete 0 0 [read68] .none, .cMemoryLoadComplete 0 0 [read256] .none,
      .cContextResume 4096 0, .cContextResume 0 (2 ^ 32), .cFormatterRequest 0 0 [], .cControlStoreScrub ef 16384,
      .cLockedStoreWrite ef 16384 0, .cServoDemodResult 0 0 0 { dm0 with mark := 2 ^ 16 } true,
      .cServoDemodResult 0 0 0 { dm0 with indexCells := 2 ^ 20 } true, .cServoDemodResult 0 0 0 { dm0 with trackCells := 2 ^ 48 } true,
      .cServoDemodResult 0 0 0 { dm0 with runoutCells := 2 ^ 32 } true, .cWatchEnd 0 65536 false 0 0,
      .cMotorBusSample 0 4096 false, .cKeyLockGrant (2 ^ 128), .cStripePlacementRetry 0 (2 ^ 27), .cLeafWriteDone 0 0 (2 ^ 32),
      .cRebuildStripe 0 (2 ^ 27), .cDrainLeaf 0 (2 ^ 27) 0, .cDrainLeaf 0 0 16] : List Instr), i.wf = false := by decide +kernel

/-- The same for the host's side and the buffer. -/
theorem test_wf_refuses_2 :
    ∀ i ∈ ([.cCmReq { cm0 with source := 2 ^ 128 }, .cCmReq { cm0 with qp := 2 ^ 24 }, .cCmReq { cm0 with data := List.replicate 93 0 },
      .cCmRtu 1024, .cCmDreq 1024, .cCmDrep 1024, .cInvalidRequest 1024, .cDoorbell 1024 0 0 [], .cDoorbell 0 (2 ^ 32) 0 [], .cChainFrame 4096,
      .cDescriptorReadResponse 4096 [], .cDescriptorReadResponse 0 [0], .cHeadPublish 4096, .cRnrNak 4096, .cAckTimeout 1024 0,
      .cCeMarkedPacket 1024, .cCnpReceived 1024, .cDcqcnRateIncreaseTimer 1024, .cDcqcnByteCounter 1024, .cPortLinkTraining 0 16,
      .cDeleteRingDone 4096, .cDictWrite 0 0 [], .cDictWrite 0 0 (List.replicate 65537 0), .cBufferRead .tile false 0 0 [read68] .none,
      .cCoreNarrowWrite 0 false 0 [] [read68] .none, .cBufferScrub 0 read68, .cDiagnosticModeSet 256, .cMoverDescriptorSubmit [],
      .cMoverDescriptorStart 0 [read256] [], .cNakReceived 1024] : List Instr), i.wf = false := by
  intro i hi
  simp only [List.mem_cons, List.not_mem_nil, or_false] at hi
  rcases hi with rfl | rfl | rfl | rfl | rfl | rfl | rfl | rfl | rfl | rfl | rfl | rfl | rfl | rfl | rfl | rfl | rfl | rfl | rfl | rfl | rfl | rfl
    | rfl | rfl | rfl | rfl | rfl | rfl | rfl | rfl <;> decide +kernel

/-- The same for the dictionary, faults, power and the recorder. -/
theorem test_wf_refuses_3 :
    ∀ i ∈ ([.cUsdoExpeditedDownload 0 0 0 [0], .cUsdoExpeditedDownload 1 65536 0 [0], .cUsdoExpeditedDownload 1 0 256 [0],
      .cUsdoExpeditedDownload 1 0 0 [], .cUsdoExpeditedUpload 128 0 0, .cUsdoExpeditedUpload 1 65536 0, .cUsdoExpeditedUpload 1 0 256,
      .cUsdoSegmentedDownloadInit 0 0 0, .cUsdoSegmentedDownloadInit 1 65536 0, .cUsdoSegmentedDownloadInit 1 0 256, .cUsdoDownloadSegment 0 [0] true,
      .cUsdoDownloadSegment 1 [] true, .cUsdoSegmentedUploadInit 0 0 0, .cUsdoSegmentedUploadInit 1 65536 0, .cUsdoSegmentedUploadInit 1 0 256,
      .cUsdoUploadSegment 0 1, .cUsdoAbort 0, .cUsdoSegmentTimeout 128, .cDictionaryWrite 0 0 0 [0], .cDictionaryWrite 0x500 0 0 [0],
      .cDictionaryWrite 1 65536 0 [0], .cDictionaryWrite 1 0 256 [0], .cDictionaryWrite 1 0 0 [], .cLockTake 0, .cLockFree 0xFF,
      .cOverlayApply 0 0, .cOverlayApply 1 65536, .cFaultOccurrence 416, .cClearSticky 416, .cBootStart false 128 true, .cZephyrEntryDone 65536,
      .cWakeEvent 0 (2 ^ 32), .cSecurityVersionCommit 256, .cBootSelectorWrite 256, .cKeyIndexRevoke 256, .cEventMark 0 [0], .cEventMark 1 [],
      .cEventReadWindow 0] : List Instr), i.wf = false := by decide +kernel

/-- Operands at the ends of their ranges are accepted. -/
theorem test_wf_accepts :
    ∀ i ∈ ([.cWedgePhaseUpdate 0 [⟨0, 0, 2 ^ 16 - 1, 2 ^ 20 - 1, 7⟩], .cLadderReadDone 0 0 0 (2 ^ 40 - 1) ladder0, .cPackSettleDone 0 mem0, .cFormatterRequest 0 0 req0,
      .cContextResume 4095 (2 ^ 32 - 1), .cServoDemodResult 0 0 0 ⟨2 ^ 16 - 1, 2 ^ 20 - 1, 2 ^ 48 - 1, 2 ^ 32 - 1, 0, 0⟩ true,
      .cDrainLeaf 0 (2 ^ 27 - 1) 15, .cCmReq { cm0 with source := 2 ^ 128 - 1, qp := 2 ^ 24 - 1, data := List.replicate 92 0 },
      .cDictionaryWrite 0xFFFF 65535 255 [0], .cDictionaryWrite 0x4FF 0 0 [0], .cDictionaryWrite 127 0 0 [0], .cFaultOccurrence 415,
      .cNmtResetNode] : List Instr), i.wf = true := by decide +kernel

/-- No word spells a command: the table gives bits to no row. -/
theorem test_no_word_is_a_command : decodeTableWord 8 0x5A = none ∧ (State.reset.withFetchWord 8 0x5A).pending = [] := by decide +kernel

/-! ### The manual's own figures -/

/-- What holds of the next state. -/
def nextIs (r : Res) (f : State → Bool) : Bool := match r with | .next t => f t | _ => false

/-- R52, R53 (the example of 02_rotation_timebase.md): ADDA of a delta of 111,848,107 RU passes 2^28 into REV, and the target lies later. -/
theorem test_angle_wait :
    (let s := withRegs (fmtRun [mw 0x0C (mwRegs 3 1 2)]) ef [(1, 0x3E89A41C20), (2, 111848107)]
     nextIs (execAdda ef s) (fun t => (t.regs ef).get 3 == 0x3E904EC6CB))
    ∧ laterMod 40 0x3E904EC6CB 0x3E89A41C20 = true := by decide +kernel

/-- R53: a delta of 3,000 revolutions is an angle-range fault. -/
theorem test_angle_range :
    nextIs (execAdda ef (withRegs (fmtRun [mw 0x0C (mwRegs 3 1 2)]) ef [(2, 3000 * 2 ^ 28)])) (fun t =>
      (t.regs ef).get 3 == 0 && !t.packs[p0].arms[a0].fmt.running) := by decide +kernel

/-- R77 (03_platter_packs.md, P12): the fractions of its counts. -/
theorem test_life_fractions :
    lifeFractions { loadLimit := 600000, spindleLimit := 60000, writeLimit := 3000, strokeLimit := 50000000, mediaLimit := 55000 }
      { loads := #v[412350, 0], spindleSec := 162000000,
        heads := Vector.replicate 32 { bytes := 2731400000000000, strokes := 31200000000, mediaSec := 158400000 } }
      = [687, 750, 910, 624, 800] := by decide +kernel

/-- R117, R118, R119 (04_recording_format.md): the first sectors of tracks 1,040 and 693,248 of P07, and where they start. -/
theorem test_sector_walk :
    (walk 37500000 4 = [⟨0, 0, none⟩, ⟨0, 37656, some 30641⟩, ⟨1, 6943, none⟩, ⟨1, 44599, some 23698⟩])
    ∧ dataCells 37500000 = 68449 ∧ dataCells 20400000 = 37236
    ∧ (walk 20400000 2 = [⟨0, 0, some 37084⟩, ⟨1, 500, some 36584⟩])
    ∧ [cellAngle 37500000 0 0, cellAngle 37500000 0 37656, cellAngle 37500000 0 6943, cellAngle 37500000 0 44599, cellAngle 20400000 0 500]
        = [16384, 285936, 66083, 335636, 22963]
    ∧ startWedge 1040 32 = 0 ∧ startWedge 693248 32 = 0 := by decide +kernel

/-- R121, R131 (04_recording_format.md and 10_object_store.md): two physical addresses, and a scrambler seed. -/
theorem test_physical_address :
    mkAddr 7 12 1040 2 = 0x3E00208002 ∧ scrambleSeed 0x3E00208002 = 31795 ∧ mkAddr 14 13 214329 167 = 0x769A29C8A7
    ∧ natBytes 5 0x3E00208002 = [0x02, 0x80, 0x20, 0x00, 0x3E] := by decide +kernel

/-- R183 (06_sector_recovery.md): the status word of the example. -/
theorem test_status_word :
    SectorEnd.word { addr := 0x3E00208002, outcome := 1, method := 2, shift1 := 1, dist := 3, iter := 6, off := -2 } = 0x3E00000603012001 := by
  decide +kernel

/-- R193 (07_sequencers.md): the fields of WAITE SETTLED with a 50 ms timeout. -/
theorem test_microword :
    splitWord 0x89600000000000000000000002FAF080
      = { opc := 0x22, cond := 11, cneg := false, safe := false, reserved := 0, rd := 0, ra := 0, rb := 0, immb := false, msrc := false,
          target := 0, sel := 0, mask := 0, imm := 50000000 } := by decide +kernel

/-- R193 (07_sequencers.md): the bytes in which that microword is stored. -/
theorem test_microword_bytes :
    wordsOfBytes [0x80, 0xF0, 0xFA, 0x02, 0, 0, 0, 0, 0, 0, 0, 0, 0, 0, 0x60, 0x89] 1 = [0x89600000000000000000000002FAF080] := by decide +kernel

/-- R193, R198, R211 (07_sequencers.md): every word of READ_LEAF is legal, and stored it reads back. -/
theorem test_read_leaf_legal :
    (readLeaf 0x40 0xFFFF).all (wordLegal false 0x50) = true
      ∧ wordsOfBytes (((readLeaf 0x40 0xFFFF).map (fun w => wordBytesOf w.pack)).flatten) 16 = (readLeaf 0x40 0xFFFF).map Word.pack := by
  decide +kernel

/-- R211: entry word 0x00 jumps to its routine, entry word 0x0B holds END 0x17. -/
theorem test_library_entries : libraryEntry 0 0x40 = jmpWord 0 false 0x40 ∧ libraryEntry 0x0B 0x40 = endWord 0x17 := by decide +kernel

/-- R107 (04_recording_format.md): the parts of a servo field end where its runout word ends. -/
theorem test_servo_field_length : servoParts.sum * 64 = 12288 + burstEnd := by decide

/-- R396, R398 (12_buffer_memory.md): segment 0x12 lies in bank 3, row 1; the tag written for a segment checks there and not at the next. -/
theorem test_segment_place :
    segmentBank 0x12 = 3 ∧ segmentRow 0x12 = 1 ∧ tagChecks 3 0x12 7 (segmentTag 3 0x12 7) = true
      ∧ tagChecks 3 0x13 7 (segmentTag 3 0x12 7) = false := by decide +kernel

/-- R20 (01_architecture.md): the two spans of the full part's default build take the even and the odd packs. -/
theorem test_default_build : (defaultBuild .qh1024).map (fun x => maskPacks x.1)
    = [(List.range 16).map (fun i => 2 * i), (List.range 16).map (fun i => 2 * i + 1)] := by decide +kernel

/-- R168 (06_sector_recovery.md): the sync decision of an unsplit sector of zone 0 falls 192 cells after its gate, 30.72 ns, or 1,374 RU. -/
theorem test_sync_decision : decisionTime 0 37500000 16 false = 1374 := by decide +kernel

/-- R276 (09_spindle_drive.md): the phase currents of the example, in mA, and its second sample, in ns. -/
theorem test_phase_currents :
    phaseCurrents #v[14531, 13594, 8906] 1100 350 = (1100, -750, -350) ∧ (sampleTimes 23438 1200 900 #v[14531, 13594, 8906]).2 = 5822 := by
  decide +kernel

/-- R231, R232, R238 (08_servo.md): the PI stage with its clamp, and the lead-lag stage that saturates. -/
theorem test_head_loop :
    integStep 214761472 (4096 * 29491) 8192 = ⟨268435456, 1⟩
    ∧ stageOut (24576 * 29491 + 268435456) 0 = ⟨30310, 0⟩
    ∧ biquadStep 24576 (-16384) 0 8192 0 1 { x1 := 10000, u1 := 10000 } 30310 = (⟨32767, 1⟩, ⟨30310, 10000, 32767, 10000⟩) := by decide +kernel

/-- R242 (08_servo.md): the subset and the arm target of the SEEK. -/
theorem test_cylinder_set :
    cylinderSet ([112, 115, 118, 160, 121, 100, 108, 125, 130, 60, 110, 119, 140, 104, 126, 133].zipIdx.map (fun x => (x.2, x.1 + 300000))) 24
      = (0xFDF7, 300120) := by decide +kernel

/-- R291, R575 (18_package_and_pins.md): the first code at which the chopper turns on, and the reading it gives; one code less does not. -/
theorem test_motor_bus :
    nextIs (execMotorBusSample 0 2774 false (driven State.reset)) (fun t => t.buses[(0 : BusId)].gate && t.buses[(0 : BusId)].volts == 26006)
    ∧ nextIs (execMotorBusSample 0 2773 false (driven State.reset)) (fun t => !t.buses[(0 : BusId)].gate) := by decide +kernel

/-- R375 (11_unsia_rings.md): the head word of ring 17 at 1,022. -/
theorem test_head_word :
    leNat (Ring.headWord { num := 17, conn := 5, loc := 2, size := 8, limit := 4, head := 1022, state := .active }) = 0x00000011000003FE := by
  decide +kernel

/-- R397, R400 (12_buffer_and_cache.md): where BA 0x987654340 lies, its location word; R415: its line's set. -/
theorem test_location_word :
    (bufUp State.reset).granPlace (0x987654340 / 64) = (19, 888156, 19) ∧ (bufUp State.reset).location (0x987654340 / 64) false = 0x4DB1AB93
    ∧ 0x987654340 / 128 = 0x130ECA86 ∧ lineSet 0x130ECA86 = 60571 := by decide +kernel

/-- The descriptor of the example of 13_data_movers.md. -/
def tagGather : List Byte :=
  [0x0B, 0x00, 0x00, 0x00, 32, 0, 0, 0] ++ natBytes 8 0xC00001000 ++ natBytes 8 0xC10000000 ++ natBytes 8 0
    ++ natBytes 2 256 ++ natBytes 2 1 ++ natBytes 2 1 ++ natBytes 2 56 ++ natBytes 4 4160 ++ natBytes 8 0 ++ natBytes 4 0 ++ natBytes 8 0xC10003800

/-- R433: its total and its extents; R439, R440: its rate allowance. -/
theorem test_mover_extents :
    tagGather.length = 64 ∧ descChannel tagGather = 11 ∧ descTotal tagGather = 14336 ∧ descSourceExtent tagGather = (0xC00001000, 0xC00103FF8)
    ∧ descDestExtent tagGather = (0xC10000000, 0xC10003800) ∧ descGranule tagGather = 0xC10003800
    ∧ ((bufUp State.reset).updBuf (fun b => { b with pinRate := 32 })).windowBytes 11 tagGather = 384000 := by decide +kernel

/-- R487 to R489 (15_faults_and_failover.md): the codes of the two faults of the example and of the one of 17_event_recorder.md, and the
lower index of two first set in one cycle. -/
theorem test_fault_codes :
    srcCode 133 = 0x514D ∧ srcCode 270 = 0x7167 ∧ srcCode 132 = 0x514C ∧ srcPack 270 = 7 := by decide +kernel

/-- R498 (15_faults_and_failover.md): WAKE[1] with a window: the accepted change, two that only chatter, and the one after the window. -/
theorem test_wake_chatter :
    let w : InputPin := .wake 1
    let s1 := State.reset.filteredChange w true
    let s3 := (s1.filteredChange w false).filteredChange w true
    let s4 := (match execRateWindowEnd w { s3 with now := (s3.inputs.get w).windowEnd } with | .next t => t | _ => s3)
    let s5 := s4.filteredChange w false
    ((s1.inputs.get w).conditioned = true ∧ (s1.inputs.get w).window = true ∧ (s1.inputs.get w).chatter = 0)
    ∧ ((s3.inputs.get w).chatter = 2 ∧ (s3.inputs.get w).conditioned = true)
    ∧ ((s4.inputs.get w).window = false ∧ (s4.inputs.get w).conditioned = true)
    ∧ ((s5.inputs.get w).conditioned = false ∧ (s5.inputs.get w).window = true) := by decide +kernel

/-- R562 to R564 (18_package_and_pins.md): every land of the array belongs to a group, and the parts leave the lands of the groups that they lack unconnected. -/
theorem test_package_lands :
    (landGroups.map LandGroup.lands).sum = 11236 ∧ unconnectedLands .qh1024 = 0 ∧ unconnectedLands .qh0512 = 3322 ∧ unconnectedLands .qh0256 = 4983 := by decide +kernel

/-- The example of R476: Calm's record for the active-lane limit of pack 07, and the size of its body. -/
theorem test_calm_records :
    (ovixoRecords 0).length = 98 ∧ ((ovixoRecords 0).map (fun r => (recordBytes r).length)).sum = 1568
    ∧ (recordBytes (runRecord 0x4389 3 2 8)).map BitVec.toNat = [0x89, 0x43, 3, 2, 5, 0, 1, 0, 8, 0, 0, 0, 0, 0, 0, 0]
    ∧ runRecord 0x4389 3 2 8 ∈ ovixoRecords 0 := by decide +kernel

/-- What the test access port answers (R548): locked after reset, and unlocked in Bench with boundary scan alone. -/
theorem test_tap_answers :
    ([TapInstr.bypass, .idcode, .samplePreload, .extest, .internalScan].map State.reset.tapAnswers = [true, true, false, false, false])
    ∧ (let s := { inState .bench with sec := { State.reset.sec with tapUnlocked := true, tapPermissions := 1 } }
       [TapInstr.samplePreload, .extest, .extestPulse, .extestTrain, .internalScan].map s.tapAnswers = [true, true, true, true, false]) := by
  decide +kernel

/-- Every record of the Ovixo overlays is one that an overlay may hold. -/
theorem test_ovixo_records :
    [0, 1, 2, 3].all (fun n => recordsSorted (ovixoRecords n) && (ovixoRecords n).all (recOk 2)) = true := by decide +kernel

/-- FIPS 180-4's example "abc". -/
theorem test_sha384_abc :
    beNat (sha384Bytes [0x61, 0x62, 0x63])
      = 0xcb00753f45a35e8bb5a03d699ac65007272c32ab0eded1631a8b605a43ff5bed8086072ba1e7cc2358baeca134c825a7 := by decide +kernel

/-- R555 (17_event_recorder.md): an occurrence that repeats the newest record is merged; another record ends that. -/
theorem test_merge :
    let s1 := State.reset.record lastRec
    let s2 := s1.record lastRec
    let s3 := (s2.record { type := 0x41 }).record lastRec
    (s2.recorder.newest.map (fun r => r.repeats) = [1] ∧ s2.recorder.nextSeq = s1.recorder.nextSeq ∧ s2.recorder.merged = 1)
    ∧ (s3.recorder.newest.map (fun r => r.repeats) = [1, 0, 0] ∧ s3.recorder.merged = 1) := by decide +kernel

/-- R545 (16_power_and_start.md): a wake in Zephyr whose mask bit is set starts Boot, attempt 1. -/
theorem test_wake_starts_boot :
    nextIs (execWakeEvent 0 0 ((inState .zephyr).setParam 0x7050 1 255)) (fun t =>
      t.dev.state == .boot && t.boot.attempt == 1 && t.boot.wake == 1) := by decide +kernel

/-- One step runs the command at the front and leaves the rest of the queue. -/
theorem test_step_takes_the_front :
    nextIs (step { State.reset with pending := [.cSpindleOverspeed 0, .cNmtResetNode] }) (fun t => t.pending == [.cNmtResetNode])
    ∧ nextIs (step State.reset) (fun t => t.now == 1) := by decide +kernel

/-! ### Hypotheses that can be met: reads, timers and waits -/

/-- `State.GoesOn` as a check. -/
def goesB (s : State) (q : SeqId) (c : CtxId) (g : HeldGet) : Bool :=
  let x := s.ctx q c
  x.busy && x.chain != [] && decide (x.wait = .none) && !x.held && fieldAt x.chain 0 1 == 2 && !s.svc.seqs[q].fault
    && s.clusters.active.isSome && !s.hostStopped
    && (match s.svc.cmd x.ring x.slot with | some y => y.committed | none => true)
    && s.store.gets.any (fun g => g.ring = x.ring ∧ g.slot = x.slot)
    && decide (s.pollJobs.store.gets.find? (fun g => g.ring = x.ring ∧ g.slot = x.slot) = some g)

theorem goes_of {s : State} {q : SeqId} {c : CtxId} {g : HeldGet} (h : goesB s q c g = true) : s.GoesOn q c g := by
  simp only [goesB, Bool.and_eq_true, bne_iff_ne, ne_eq, decide_eq_true_eq, Bool.not_eq_true', beq_iff_eq] at h
  obtain ⟨⟨⟨⟨⟨⟨⟨⟨⟨⟨h1, h2⟩, h3⟩, h4⟩, h5⟩, h6⟩, h7⟩, h8⟩, h9⟩, h10⟩, h11⟩ := h
  refine ⟨h1, h2, h3, h4, h5, h6, Option.isSome_iff_ne_none.mp h7, h8, ?_, h10, h11⟩
  intro y hy
  rw [hy] at h9
  exact h9

/-- The read of leaf 0 of stripe 9 for a reader, ended or under way. -/
def job0 (who : Option (Nat × Nat)) (verify : Bool) (ended : Option (Nat × Nat)) : LeafJob :=
  { tag := 5, span := 0, addr := 9, leaf := 0, pack := 0, arm := 0, full := false, verify := verify, who := who, ended := ended }

/-- A command of ring 1, slot 0, over span 0 of `spanned`, an index of 1,024 slots, and reads for it. -/
def reading0 (l : List Byte) (e : ObjEntry) (ended : Option (Option (Nat × Nat))) : State :=
  (((runChain l).updSpan 0 (fun _ => spanned.store.spans[(0 : SpanId)])).updPack 0 (fun k => { k with state := .ready })).updStore (fun t =>
    { t with formed := true, slots := 1024, objs := [e], reads := (ended.map (job0 (some (1, 0)) false)).toList })

/-- The same once a GET holds its version and has committed. -/
def getHeld (l : List Byte) (e : ObjEntry) (ended : Option (Option (Nat × Nat))) : State :=
  let s := (reading0 l e ended).updStore (fun t => { t with gets := [⟨1, 0, e⟩] })
  (s.updSvc (fun v => { v with cmds := [{ ring := 1, slot := 0, committed := true }] })).updHost (fun h =>
    { h with rings := [{ num := 1, conn := 0, loc := 0 }] })

/-- An object whose second full stripe is stripe 9. -/
def obj2 : ObjEntry := { slot := 3, hash := 7, version := 1, size := 2 * leafBytes, span := 0, runs := [(8, 2)] }

/-- GET of all of it; PATCH of 8 bytes at its start. -/
def getAll : List Byte := natBytes 8 (2 + 0x20 * 2 ^ 8) ++ natBytes 8 0 ++ natBytes 8 (2 * leafBytes) ++ List.replicate 24 0 ++ natBytes 16 7
def patchDesc : List Byte := natBytes 8 (3 + 0x20 * 2 ^ 8) ++ natBytes 8 0 ++ natBytes 8 8 ++ List.replicate 24 0 ++ natBytes 16 7

/-- The PATCH over a span of two Ready packs. -/
def patching (ended : Option (Option (Nat × Nat))) : State :=
  (reading0 patchDesc obj8 ended).updPack 1 (fun k =>
    { k with state := .ready })

/-- O29, reads: a GET that goes on while a read runs, once it has ended good, and once a stripe cannot be delivered; a PATCH likewise. -/
theorem witness_ObjectReads :
    (let s := reading0 getDesc obj8 none
     s.Runs 0 0 2 ∧ s.pollJobs.store.gets.find? (fun g => g.ring = 1 ∧ g.slot = 0) = none ∧ s.pollJobs.behindOlder 1 0 7 = false
      ∧ s.pollJobs.chainHash getDesc = 7 ∧ s.pollJobs.store.entry 7 = some obj8)
    ∧ (let s := getHeld getDesc obj8 (some none)
       s.GoesOn 0 0 ⟨1, 0, obj8⟩ ∧ (s.pollJobs.gather 0 (some (1, 0)) [9]).2 = true)
    ∧ (let s := getHeld getDesc obj8 (some (some (0, 0)))
       let x := s.pollJobs.gather 0 (some (1, 0)) [9]
       s.GoesOn 0 0 ⟨1, 0, obj8⟩ ∧ x.2 = false ∧ (x.1.ring? 1).isSome = true
        ∧ x.1.goodPrefix 0 obj8 0 8 (x.1.undelivered 0 (some (1, 0))) = (8, none))
    ∧ (let s := getHeld getAll obj2 (some (some (0x11, 7)))
       let x := s.pollJobs.gather 0 (some (1, 0)) [8, 9]
       s.GoesOn 0 0 ⟨1, 0, obj2⟩ ∧ x.2 = false ∧ (x.1.ring? 1).isSome = true
        ∧ x.1.goodPrefix 0 obj2 0 (2 * leafBytes) (x.1.undelivered 0 (some (1, 0))) = (leafBytes, some 9))
    ∧ (∀ e ∈ [none, some (0, 0)], let s := patching (some e)
       s.Runs 0 0 3 ∧ s.pollJobs.chainHash patchDesc = 7 ∧ s.pollJobs.behindOlder 1 0 7 = false ∧ (s.pollJobs.takeLock 7 1 0).1 = true
        ∧ (s.pollJobs.takeLock 7 1 0).2.store.entry 7 = some obj8 ∧ conditionFails patchDesc (some obj8) true = none
        ∧ (s.pollJobs.takeLock 7 1 0).2.spanTakes 0 = true
        ∧ obj8.patched leafBytes 0 8 true = [9]
        ∧ ((s.pollJobs.takeLock 7 1 0).2.gather 0 (some (1, 0)) [9]).2 = decide (e = none))
    ∧ (let s := (((patching (some (some (0, 0)))).pollJobs.takeLock 7 1 0).2.gather 0 (some (1, 0)) [9]).1
       s.stripeReads 0 9 (s.undelivered 0 (some (1, 0))) = true
        ∧ ∃ y, (s.settleReads (1, 0)).formVersion 0 7 (patchBytes ((s.settleReads (1, 0)).objectBytes obj8) 0 (padTo 8 [])) false = .ok y)
    ∧ (let s := (patching none).updStore (fun t => { t with locks := [{ hash := 7, holder := some (2, 0) }] })
       s.Runs 0 0 3 ∧ (s.pollJobs.takeLock 7 1 0).1 = false) := by
  refine ⟨⟨runs_of (by decide +kernel), by decide +kernel, by decide +kernel, by decide +kernel, by decide +kernel⟩,
    ⟨goes_of (by decide +kernel), by decide +kernel⟩, ⟨goes_of (by decide +kernel), by decide +kernel⟩,
    ⟨goes_of (by decide +kernel), by decide +kernel⟩, fun e he => ⟨?_, ?_⟩,
    ⟨by decide +kernel, ok_of (by decide +kernel)⟩, ⟨runs_of (by decide +kernel), by decide +kernel⟩⟩
  · exact runs_of (List.all_eq_true.mp (by decide +kernel : ([none, some (0, 0)].all (fun e =>
      runsB (patching (some e)) 0 0 3)) = true) e he)
  · revert e; decide +kernel

/-- O31, reads: a rebuild, a drain and a scrub before their read, while it runs, and once it has ended; a share of a self-test with routines
left and with none, passed and failed. -/
theorem witness_BackgroundReads :
    (∀ e ∈ [none, some (0, 0)], let s := storeWith spanned (fun t => { t with reads := [job0 none false e] })
      let u := s.pollJobs
      u.store.spans[(0 : SpanId)].stripe? 9 = some stripe0 ∧ u.rebuildLeaves 0 stripe0 = [1] ∧ u.lostLeaves u.store.spans[(0 : SpanId)] stripe0 = 1
        ∧ u.survivors 0 stripe0 = [0] ∧ (u.store.job? none false 0 9 0).map (fun y => y.ended) = some e)
    ∧ (∀ e ∈ [none, some (0, 0), some (0x11, 7)],
      let s := (storeWith spanned (fun t => { t with reads := [job0 none false e] })).updPack 0 (fun k => { k with state := .draining })
      let u := s.pollJobs
      u.packState 0 = .draining ∧ u.store.writes = [] ∧ (u.fetchLeaf 0 9 0 0).2 = e)
    ∧ goodOutcome 0 = true ∧ goodOutcome 0x11 = false
    ∧ (let u := spanned.pollJobs
       u.store.job? none true 0 9 0 = none ∧ u.scrubDue stripe0 0 = true
        ∧ u.scrubDue { stripe0 with scrubbed := [some 0, none] } 0 = decide (u.param 0x2010 6 * 86400000000000 ≤ u.now))
    ∧ (let s := (spanned.setParam 0x2010 6 1)
       s.scrubDue { stripe0 with scrubbed := [some 0, none] } 0 = false)
    ∧ (∀ e ∈ [(0x11, 7), (1, 0)], let s := storeWith spanned (fun t => { t with reads := [job0 none true (some e)] })
       s.pollJobs.store.job? none true 0 9 0 = some (job0 none true (some e)) ∧ s.pollJobs.stripeReads 0 9 [(9, 0)] = false
        ∧ finalLoss e.1 = decide (e.1 = 0x11))
    ∧ (∀ o ∈ [(0 : Byte), 0x18], let s := ((storeWith State.reset (fun t => { t with selfTest := { running := 1, kind := 2, jobs := [(77, 0, 0)] } })).send (.completion 0 0 (natBytes 4 77 ++ [o] ++ List.replicate 59 0)))
       s.store.selfTest.running.testBit p0.val = true ∧ s.testLeft p0 = [] ∧ s.testPassed p0 = decide (o = 0))
    ∧ (storeWith State.reset (fun t => { t with selfTest := { running := 1, jobs := [(5, 0, 0)] } })).testLeft p0 ≠ []
    ∧ (let s := spanned.updSpan 0 (fun x => { x with bands := [{ pack := 0, band := 6, next := 0, isOpen := false }] })
       (storeWith s (fun t => { t with writes := [⟨77, 0, 9, 0, ⟨0, 6, 0⟩, none⟩] })).store.writes.any (fun w => w.loc.pack = 0 ∧ w.loc.band = 6) = true) :=
  ⟨by decide +kernel, by decide +kernel, by decide +kernel, by decide +kernel, by decide +kernel, by decide +kernel, by decide +kernel, by decide +kernel, by decide +kernel, by decide +kernel⟩

/-- Packs 0, 1 and 2 with one zone and two Random band slots of each arm, that hold the journal. -/
def journalOn : State :=
  let place := fun (s : State) (p : PackId) => s.updPack p (fun k => { k with
    factory := some { surfaces := List.replicate 16 { tracks := 10000, firstData := 0, lastData := 9999 } },
    media := { k.media with zones := some ⟨0, 1, List.replicate 1024 { cells := 25000000, sectors := 160 }⟩,
                            bands := [0, 1, 2, 3].map (fun b => { surface := 0, slot := b, type := .random }) } })
  storeWith (([0, 1, 2] : List PackId).foldl place State.reset) (fun t => { t with current := [0, 1, 2], journal := [{ seq := 1, body := .mark 0 }] })

/-- O30, journal: the last position free before a wrap, and the first that is not. -/
theorem witness_JournalRoom :
    (let s := storeWith journalOn (fun t => { t with position := 5242879 })
     s.journalFree = true ∧ s.store.journal ≠ [] ∧ s.store.journalWhole = true)
    ∧ (storeWith journalOn (fun t => { t with position := 5242880 })).journalFree = false := by
  decide +kernel

/-- O24 to O27, the rest: a head with no miss, a CRC that differs; the end of the search with the time base Locked and not; a Gale retract of a
miscompare; a stop that waits in Brake. -/
theorem witness_ServoAndSpindleTimers :
    ((State.reset.lane p0 a0 h0).servo.missRun < 8 ∧ ∃ crc1, crc1 ≠ (State.reset.arm p0 a0).unitCrc)
    ∧ ((armIn .searching).packs[p0].tb.state ≠ .locked
        ∧ (withTb (armIn .searching) { state := .locked }).packs[p0].tb.state = .locked)
    ∧ (∀ b ∈ [false, true], let s := (armIn .gale).updServo 0 0 (fun v => { v with galeMiscompare := b })
       (s.arm p0 a0).servo.mode = .gale ∧ (s.arm p0 a0).servo.galeMiscompare = b ∧ (s.arm p0 a0).servo.mode.driven = true)
    ∧ ((armIn .unloaded).arm p0 a0).servo.mode.driven = false ∧ ((armIn .following).arm p0 a0).servo.mode.driven = true
    ∧ (∀ n ∈ [3, 4], let s := driven ((armIn .gale).updServo 0 0 (fun v => { v with noSetPoint := n }))
        (s.arm p0 a0).servo.mode.driven = true ∧ (s.arm p0 a0).servo.noSetPoint = n ∧ s.gatesLive = true)
    ∧ (let s := spinWith (fun x => { x with state := .brake, stopDue := true })
       s.packs[p0].armsDown = true ∧ s.packs[p0].spindle.stopDue = true ∧ s.packs[p0].spindle.state = .brake) :=
  ⟨⟨by decide +kernel, _, Nat.succ_ne_self _⟩, by decide +kernel, by decide +kernel, by decide +kernel, by decide +kernel, by decide +kernel,
    by decide +kernel⟩

theorem seekUnused_some {next : Nat → Nat} {used : Nat → Bool} {v n : Nat} (h : used v = false) : seekUnused next used (n + 1) v = some v := by
  simp [seekUnused, h]

/-- A QP number from any start, when no connection stands. -/
theorem seekQp_some (v : Nat) (hv : v < 2 ^ 24) :
    (seekUnused (fun v => (v + 1) % 2 ^ 24) (fun v => decide (v < 2) || false) 4096 v).isSome = true := by
  by_cases h : v < 2
  · obtain rfl | rfl : v = 0 ∨ v = 1 := by omega
    · rfl
    · rfl
  · rw [seekUnused_some (by simp [h])]; rfl

/-- O33: a window, a key and a QP number are found; O34: a head that waits for the mirror, and one that does not. -/
theorem witness_FreshQpAndHeads :
    (∃ x, ({ portUp with free := portUp.free + 2 } : State).freshQp.1 = some x)
    ∧ (let r : Ring := { ring0 with prod := 1, cons := 1, chains := [⟨0, 1, true⟩] }
       (hostWith conn0 [r]).mirrorOwed = false
        ∧ (let s := hostWith conn0 [r]
           let t := { s with clusters := { s.clusters with unit := #v[{ role := .active }, { role := .standby }], mirrorSent := 1 } }
           t.mirrorOwed = true)
        ∧ (advanceHead ring0.head ring0.chains).1 = ring0.head) := by
  refine ⟨?_, by decide +kernel⟩
  have h := seekQp_some (Config.freeValue (portUp.free + 4) % 2 ^ 24) (Nat.mod_lt _ (by decide))
  have e1 : portUp.host.conns = [] := rfl
  obtain ⟨y, hy⟩ := Option.isSome_iff_exists.mp h
  simp only [State.freshQp, State.takeFree, e1, List.any_nil]
  rw [seekUnused_some (n := 4095) (show _ = false from rfl), seekUnused_some (n := 4095) (show _ = false from rfl), show _ = some y from hy]
  exact ⟨_, rfl⟩

/-- O37, O39, O41: failed write transfers; a scrub period over and not, a granule scrubbed and not; descriptors refused and accepted, of the
buffer and of a pattern. -/
theorem witness_BufferAndMovers :
    (memUp.failWrites []).1.bufSize = memUp.bufSize ∧ (memUp.failWrites []).1.cacheOn = false
    ∧ ((memUp.failWrites [{ cleanRead 0 with crcFails := 5 }]).2 ≠ [])
    ∧ (let s := memUp.setParam 0x6000 5 1
       s.scrubPeriod.buf.scrubbed.contains 0 = false
        ∧ (s.updBuf (fun b => { b with scrubbed := [0] })).scrubPeriod.buf.scrubbed.contains 0 = true
        ∧ (s.scrubPeriod.chan? (s.granPlace 0).1).map (fun c => c.state) = some 2 ∧ 64 * 0 < s.scrubPeriod.bufSize)
    ∧ (∀ x ∈ [(descOf 0 2 4 8, false), (scatter0.desc, true)], let s := bufUp (moverOf [⟨x.1, 0⟩] [])
       s.mayStart 0 = some ⟨x.1, 0⟩
        ∧ (((s.updMover 0 (fun m => ({ m with queue := m.queue.drop 1 } : Mover).refill)).placeChecks).descCheck x.1 = 0) = (x.2 = true))
    ∧ descSource scatter0.desc = 2 ∧ descSource (descOf 0 1 4 8) = 1 := by decide +kernel

/-- O44, O45: the lease at its end and one before; a raw command accepted, one whose routine runs, and one whose record has come, with its
sector and, of a write, without. -/
theorem witness_LeaseAndRawAccess :
    (∀ n ∈ [0, 1], let s := { (served .opened).setParam 0x2401 2 60 with now := 60000000000 - n, lock := { holder := 5, since := 0 } }
       s.lock.holder ≠ 0 ∧ (s.lock.since + s.param 0x2401 2 * 1000000000 ≤ s.now ↔ n = 0))
    ∧ (let s := (served .quiesce).setParam 0x2402 1 1
       s.raw.state ≠ 1 ∧ s.changeable 0x1C0 = true ∧ s.param 0x2402 1 = 1 ∧ (served .lee).changeable 0x1C0 = false)
    ∧ (∀ n ∈ [1, 2, 3], let s := rawAt n true
       s.raw.state = 1 ∧ s.raw.command = n ∧ s.clusters.failOver = none ∧ s.recordOf 0 0 s.raw.tag = none)
    ∧ (∀ n ∈ [1, 3], let s := (rawAt n true).send (.completion 0 0 (List.replicate 64 0))
       s.raw.state = 1 ∧ s.raw.command = n ∧ s.raw.tag = 0 ∧ s.recordOf 0 0 0 = some (List.replicate 64 0))
    ∧ (∀ o ∈ [0, 0x11], let d : Delivery := { tag := 0, head := 0, restart := 0, status := o, data := List.replicate 4152 0 }
       let s := (rawAt 1 true).updArm 0 0 (fun x => { x with received := [d] })
       (s.arm p0 a0).received.find? (fun d => d.tag = s.raw.tag) = some d ∧ 4152 ≤ d.data.length ∧ goodOutcome (d.status % 256) = decide (o = 0)) := by
  refine ⟨by decide +kernel, by decide +kernel, by decide +kernel, by decide +kernel, fun o ho => ⟨rfl, Nat.le_of_eq List.length_replicate.symm, ?_⟩⟩
  revert o
  decide +kernel

/-- O48: a window at its end and before; a pin stuck just longer than its timeout and just as long; a stuck pin released for a window. -/
theorem witness_InputTimers :
    (∀ n ∈ [99, 100], let s := { wakeWith (fun y => { y with window := true, windowEnd := 100 }) with now := n }
       (s.inputs.get (.wake 0)).window = true ∧ ((s.inputs.get (.wake 0)).windowEnd ≤ s.now ↔ n = 100))
    ∧ (∀ n ∈ [5000000, 5000001], let s := { wakeWith (fun y => { y with conditioned := true, stuckMs := 5, activeAt := 0 }) with now := n }
       s.pinFitted (.wake 0) = true ∧ (s.inputs.get (.wake 0)).conditioned = true ∧ (s.inputs.get (.wake 0)).stuck = false
        ∧ (s.inputs.get (.wake 0)).masked = false ∧ (s.inputs.get (.wake 0)).stuckMs ≠ 0
        ∧ ((s.inputs.get (.wake 0)).activeAt + (s.inputs.get (.wake 0)).stuckMs * 1000000 < s.now ↔ n = 5000001))
    ∧ (let s := { (wakeWith (fun y => { y with masked := true, stuck := true, changedAt := 0 })).setParam 0x7081 1 50 with now := 50000 }
       (s.inputs.get (.wake 0)).masked = true ∧ (s.inputs.get (.wake 0)).filtered = false
        ∧ (s.inputs.get (.wake 0)).changedAt + s.param 0x7081 ((pinCls (.wake 0)).val + 1) * 1000 ≤ s.now)
    ∧ (State.reset.pinFitted .epo = true ∧ State.reset.inputs.epo.filtered = false
        ∧ (let u := (State.reset.updPin .epo (fun y => { y with filtered := true })).atOnce .epo true
           (u.inputs.get .epo).window = false ∧ (u.inputs.get .epo).conditioned = false)) := by decide +kernel

/-- O53, O57, O58: a slice needed and not; the close's step 2 with background work ended and not; a wake latched, and one in the reduced form by
command; a tick for each cause. -/
theorem witness_PowerTimers :
    (∀ d ∈ [(160 : DomainId), 167], State.reset.sliceNeeded d.val = false) ∧ (inState .opened).sliceNeeded 160 = true
    ∧ ((closing 2).dev.closeStep = 2 ∧ (closing 2).backgroundEnded = true
        ∧ ((closing 2).updFmt 0 0 (fun f => { f with running := true, back := some 0 })).backgroundEnded = false)
    ∧ (∀ bit : Fin 8, let s := (inState .lee).setParam 0x7050 1 255
       let t := { s with dev := { s.dev with leeForm := 1, leeCause := 0 } }
       t.dev.state = .lee ∧ t.dev.leeForm = 1 ∧ t.dev.leeCause = 0 ∧ t.dev.zephyrEntry = false ∧ (t.param 0x7050 1).testBit bit.val = true
        ∧ ({ t with dev := { t.dev with zephyrEntry := true } }).dev.zephyrEntry = true)
    ∧ (let s := (inState .zephyr).setParam 0x7060 4 10
       s.dev.state = .zephyr ∧ s.presBits = s.dev.presAtEntry ∧ ¬ ((2561 : Int) ≤ signedNat 8 (s.param 0x7060 4) * 256)
        ∧ (2560 : Int) ≤ signedNat 8 (s.param 0x7060 4) * 256
        ∧ ({ s with dev := { s.dev with presAtEntry := 1 } }).presBits ≠ 1
        ∧ s.portFitted 15 = true ∧ (2 ^ 15).testBit (15 : PortId).val = true ∧ s.dev.energyAtEntry.testBit (15 : PortId).val = false)
    ∧ (let s := ((inState .zephyr).setParam 0x7060 2 40).updPin (.pres 31) (fun y => { y with conditioned := true })
       s.packFitted 31 = true ∧ s.inputs.pres[(31 : PackId)].conditioned = true ∧ s.packBeyond 10241 = true
        ∧ ({ s with dev := { s.dev with presAtEntry := 2 ^ 31 } }).presBits = 2 ^ 31) := by decide +kernel

/-- O5 to O8: the state after reset keeps the invariant, and it steps. -/
theorem witness_InvariantKept : State.reset.Inv ∧ ∃ t, step State.reset = .next t := ⟨⟨by decide +kernel, by decide +kernel⟩, _, rfl⟩

end Sys2Proof.Tests
end

namespace Sys2Proof.Machine
open Sys2Proof

/-- Every source reads its defaults after a reset, those past the table's 416 included. -/
theorem State.reset_source (k : Nat) : State.reset.source k = {} := by
  have hsources : State.reset.faults.sources.toList = List.replicate 416 {} := Vector.toList_replicate
  rw [State.source, hsources, List.getElem?_replicate]
  split <;> rfl

theorem State.reset_pack (p : PackId) : State.reset.packs[p] = ({} : Pack) := by
  simp [State.reset]

theorem State.reset_cluster (c : ClusterId) : State.reset.clusters.unit[c].role = .off := by
  simp [State.reset]

/-- Settles O5: R10's columns, read off the reset state. -/
theorem resetLeaves : Obligations.ResetLeaves := by
  refine ⟨rfl, rfl, rfl, rfl, rfl, fun p => ?_, State.reset_source, rfl, rfl, rfl, rfl,
    State.reset_cluster, rfl, rfl, rfl, rfl, rfl, rfl, rfl, rfl, rfl, rfl, rfl⟩
  rw [State.reset_pack]
  exact ⟨rfl, rfl, rfl⟩


/-! ### A plain dictionary write -/

/-- Without a fail-over a plain write is served at once. -/
theorem exec_dictionaryWrite {s : State} (h : s.clusters.failOver = none) (who idx sub : Nat) (l : List Byte) :
    exec (.cDictionaryWrite who idx sub l) s = .next (s.serve ⟨0, who, idx, sub, l⟩) := by
  simp [exec, execDictionaryWrite, State.request, h]

theorem State.serve_write_ok {s t : State} {who idx sub : Nat} {l : List Byte} (h : s.dictWrite who idx sub l = .ok t) :
    s.serve ⟨0, who, idx, sub, l⟩ = if who < 128 then t.answer who 0 [] else t := by
  simp [State.serve, h]

/-- A refused write changes nothing, but for the save signature's flash failure (0x08000020). -/
theorem State.serve_write_error {s : State} {who idx sub e : Nat} {l : List Byte}
    (h : s.dictWrite who idx sub l = .error e) (he : e ≠ 0x08000020) :
    s.serve ⟨0, who, idx, sub, l⟩ = if who < 128 then s.answer who e [] else s := by
  simp [State.serve, State.writeRefused, h, he]

/-- Check 1 fails with one of two codes: no such index, or no such subindex. -/
theorem existsCheck_error {idx sub e : Nat} (h : existsCheck idx sub = .error e) : e = 0x06020000 ∨ e = 0x06090011 := by
  unfold existsCheck at h
  split at h
  · cases h
  · grind

theorem State.dictWrite_noEntry (s : State) (who : Nat) {idx sub e : Nat} (l : List Byte) (h : existsCheck idx sub = .error e) :
    s.dictWrite who idx sub l = .error e := by
  simp [State.dictWrite, h]

section
variable {s : State} {who idx sub : Nat} {l : List Byte} {r : Row} (hr : existsCheck idx sub = .ok r)
include hr

theorem State.dictWrite_readOnly (hacc : r.acc = .ro) : s.dictWrite who idx sub l = .error 0x06010002 := by
  simp [State.dictWrite, hr, hacc]

variable (hacc : r.acc ≠ .ro)
include hacc

theorem State.dictWrite_locked (hlock : s.lockRefuses who idx sub r l = true) :
    s.dictWrite who idx sub l = .error 0x08000021 := by
  simp [State.dictWrite, hr, hacc, hlock]

variable (hlock : s.lockRefuses who idx sub r l = false)
include hlock

theorem State.dictWrite_wrongState (hstate : s.stateRefuses idx sub r l = true) :
    s.dictWrite who idx sub l = .error 0x08000022 := by
  simp [State.dictWrite, hr, hacc, hlock, hstate]

variable (hstate : s.stateRefuses idx sub r l = false)
include hstate

theorem State.dictWrite_wrongLength (hlen : r.ty.lengthOk l.length = false) :
    s.dictWrite who idx sub l = .error 0x06070010 := by
  simp [State.dictWrite, hr, hacc, hlock, hstate, hlen]

/-- Past the first five checks the effect decides. -/
theorem State.dictWrite_effect (hlen : r.ty.lengthOk l.length = true) :
    s.dictWrite who idx sub l = (s.writeEffect who idx sub r l).map (fun t => t.renewLease who) := by
  simp [State.dictWrite, hr, hacc, hlock, hstate, hlen]

end

/-- Check 6 refuses characters or a value that the entry does not take. -/
theorem State.writeEffect_outOfRange {s : State} {who idx sub : Nat} {r : Row} {l : List Byte}
    (hbytes : s.writeBytes idx sub l = none)
    (hbad : r.ty.bytesOk l = false ∨ valueOk s.microOf s.param r idx sub (leNat l) = false) :
    s.writeEffect who idx sub r l = .error 0x06090030 := by
  simp only [State.writeEffect, hbytes]
  rw [if_pos (by simpa using hbad)]

/-- A plain entry's value is stored with its reserved bits ignored. -/
theorem State.writeEffect_stored {s : State} {who idx sub : Nat} {r : Row} {l : List Byte}
    (hbytes : s.writeBytes idx sub l = none) (hchars : r.ty.bytesOk l = true)
    (hvalue : valueOk s.microOf s.param r idx sub (leNat l) = true)
    (hplain : s.writeSpecial who idx sub (r.stored (leNat l)) = none) :
    s.writeEffect who idx sub r l = .ok ((s.setParam idx sub (r.stored (leNat l))).afterWrite idx sub) := by
  simp only [State.writeEffect, hbytes]
  rw [if_neg (by simp [hchars, hvalue])]
  simp only [hplain]

/-- Settles O42: each check's refusal goes through `State.serve_write_error`, the write that passes through `State.serve_write_ok`. -/
theorem dictionaryChecks : Obligations.DictionaryChecks := by
  intro s who idx sub l hfo refused
  have hrefused : ∀ e, e ≠ 0x08000020 → s.dictWrite who idx sub l = .error e → refused e := fun e hne he =>
    (exec_dictionaryWrite hfo who idx sub l).trans (congrArg Host.Outcome.next (State.serve_write_error he hne))
  refine ⟨fun e he => ?_, fun r hr => ⟨fun hro => ?_, fun hacc hlock => ?_, fun hacc hlock => ⟨fun hstate => ?_, fun hstate =>
    ⟨fun hlen => ?_, fun hlen hbytes => ⟨fun hbad => ?_, fun hchars hvalue hplain => ?_⟩⟩⟩⟩⟩
  · have hcode := existsCheck_error he
    exact ⟨hrefused e (by omega) (State.dictWrite_noEntry s who l he), hcode⟩
  · exact hrefused _ (by decide) (State.dictWrite_readOnly hr hro)
  · exact hrefused _ (by decide) (State.dictWrite_locked hr hacc hlock)
  · exact hrefused _ (by decide) (State.dictWrite_wrongState hr hacc hlock hstate)
  · exact hrefused _ (by decide) (State.dictWrite_wrongLength hr hacc hlock hstate hlen)
  · refine hrefused _ (by decide) ?_
    rw [State.dictWrite_effect hr hacc hlock hstate hlen, State.writeEffect_outOfRange hbytes hbad]
    rfl
  · intro t
    have hwrite : s.dictWrite who idx sub l = .ok t := by
      rw [State.dictWrite_effect hr hacc hlock hstate hlen, State.writeEffect_stored hbytes hchars hvalue hplain]
      rfl
    exact (exec_dictionaryWrite hfo who idx sub l).trans (congrArg Host.Outcome.next (State.serve_write_ok hwrite))

end Sys2Proof.Machine

namespace Sys2Proof.Machine
open Sys2Proof

/-! ### The queue and the part

What no command changes is `State.fixed`. Each operation of the model has one lemma that says so, in the order of the definitions; a lemma's
proof splits the branches of its definition and cites the lemmas of the operations that it calls. An operation that answers a state and
more has the lemma about that state, one that answers an error or a state has `Keeps`, and a command has `fixedOf`, which also says that the
command completes. What holds by computation is proved `by rfl` and not as a term, so that `simp` takes it for a rewrite rule like the rest. -/

/-- What no command changes: the commands that wait and the order code of the part (R3). -/
def State.fixed (s : State) : List Instr × Part := (s.pending, s.part)

/-- Keeps `simp` from rewriting inside a state of which only `fixed` is read; `keeps_congr` does the same for an answer. -/
@[congr] theorem State.fixed_congr {s : State} : s.fixed = s.fixed := rfl

@[simp] theorem State.mk_fixed {now free tiles packs spinQueue buses fmtStore svc bench ref100Lost ref156Lost dict lock host store buf movers
    lastMoverError layers raw can heldAccess faults inputs clusters arbiter injection dev boot rails domains
    flash fuses window sec recorder mirrorHeld
    heldTokens tileHeld out} (s : State) :
    State.fixed ⟨s.pending, now, free, s.part, tiles, packs, spinQueue, buses, fmtStore, svc, bench, ref100Lost, ref156Lost, dict, lock, host,
      store, buf, movers, lastMoverError, layers, raw, can, heldAccess, faults, inputs, clusters, arbiter, injection, dev, boot, rails, domains,
      flash, fuses, window, sec, recorder, mirrorHeld, heldTokens, tileHeld, out⟩ = s.fixed := by rfl

@[simp] theorem State.ite_fixed (c : Prop) [Decidable c] (s t : State) : (if c then s else t).fixed = if c then s.fixed else t.fixed := by
  split <;> rfl

@[simp] theorem State.dite_fixed (c : Prop) [Decidable c] (s : c → State) (t : ¬ c → State) :
    (if h : c then s h else t h).fixed = if h : c then (s h).fixed else (t h).fixed := by
  split <;> rfl

@[simp] theorem State.ite_fst_fixed {α : Type} (c : Prop) [Decidable c] (x y : State × α) :
    (if c then x else y).1.fixed = if c then x.1.fixed else y.1.fixed := by
  split <;> rfl

@[simp] theorem State.ite_snd_fixed {α : Type} (c : Prop) [Decidable c] (x y : α × State) :
    (if c then x else y).2.fixed = if c then x.2.fixed else y.2.fixed := by
  split <;> rfl

@[simp] theorem State.foldl_fixed {α : Type} (f : State → α → State) (hf : ∀ s a, (f s a).fixed = s.fixed) (l : List α) (s : State) :
    (l.foldl f s).fixed = s.fixed := by
  induction l generalizing s with
  | nil => rfl
  | cons a l ih => rw [List.foldl_cons, ih, hf]

@[simp] theorem State.foldl_fst_fixed {α β : Type} (f : State × β → α → State × β) (hf : ∀ t a, (f t a).1.fixed = t.1.fixed)
    (l : List α) (t : State × β) : (l.foldl f t).1.fixed = t.1.fixed := by
  induction l generalizing t with
  | nil => rfl
  | cons a l ih => rw [List.foldl_cons, ih, hf]

/-- What a command's answer leaves of it: nothing unless the command completes. -/
def fixedOf : Res → Option (List Instr × Part)
  | .next t => some t.fixed
  | _ => none

@[simp] theorem fixedOf_next (t : State) : fixedOf (.next t) = some t.fixed := by rfl

/-- An answer that is a state has left alone what no command changes. -/
def Keeps (s : State) (e : Except Nat State) : Prop := ∀ t, e = .ok t → t.fixed = s.fixed

@[congr] theorem keeps_congr {s : State} {e : Except Nat State} : Keeps s e = Keeps s e := rfl

@[simp] theorem keeps_ok (s t : State) : Keeps s (.ok t) ↔ t.fixed = s.fixed := by simp [Keeps]

@[simp] theorem keeps_error (s : State) (e : Nat) : Keeps s (.error e) := by simp [Keeps]

@[simp] theorem keeps_ite (c : Prop) [Decidable c] (s : State) (x y : Except Nat State) :
    Keeps s (if c then x else y) ↔ if c then Keeps s x else Keeps s y := by split <;> rfl

@[simp] theorem keeps_dite (c : Prop) [Decidable c] (s : State) (x : c → Except Nat State) (y : ¬ c → Except Nat State) :
    Keeps s (if h : c then x h else y h) ↔ if h : c then Keeps s (x h) else Keeps s (y h) := by split <;> rfl

/-! #### Machine/Ops -/

@[simp] theorem State.takeFree_fixed (s : State) : s.takeFree.2.fixed = s.fixed := by rfl
@[simp] theorem State.mirror_fixed (s : State) (r) : (s.mirror r).fixed = s.fixed := by simp [State.mirror]
@[simp] theorem State.mirrorUpTo_fixed (s : State) (n) : (s.mirrorUpTo n).fixed = s.fixed := by rfl
@[simp] theorem State.send_fixed (s : State) (o) : (s.send o).fixed = s.fixed := by rfl
@[simp] theorem State.updPack_fixed (s : State) (p f) : (s.updPack p f).fixed = s.fixed := by rfl
@[simp] theorem State.updArm_fixed (s : State) (p a f) : (s.updArm p a f).fixed = s.fixed := by rfl
@[simp] theorem State.updLane_fixed (s : State) (p a h f) : (s.updLane p a h f).fixed = s.fixed := by rfl
@[simp] theorem State.updServo_fixed (s : State) (p a f) : (s.updServo p a f).fixed = s.fixed := by rfl
@[simp] theorem State.updTile_fixed (s : State) (t f) : (s.updTile t f).fixed = s.fixed := by rfl
@[simp] theorem State.setParam_fixed (s : State) (idx sub v) : (s.setParam idx sub v).fixed = s.fixed := by rfl
@[simp] theorem State.gatesOff_fixed (s : State) : s.gatesOff.fixed = s.fixed := by rfl
@[simp] theorem State.updDomain_fixed (s : State) (d f) : (s.updDomain d f).fixed = s.fixed := by rfl

/-! #### Machine/BufferOps -/

@[simp] theorem State.updMem_fixed (s : State) (n f) : (s.updMem n f).fixed = s.fixed := by simp [State.updMem]
@[simp] theorem State.updBuf_fixed (s : State) (f) : (s.updBuf f).fixed = s.fixed := by rfl
@[simp] theorem State.storeWord_fixed (s : State) (g data check) : (s.storeWord g data check).fixed = s.fixed := by rfl
@[simp] theorem State.failChannel_fixed (s : State) (ch) : (s.failChannel ch).1.fixed = s.fixed := by simp [State.failChannel]
@[simp] theorem State.logError_fixed (s : State) (g kind) : (s.logError g kind).fixed = s.fixed := by simp [State.logError]

@[simp] theorem State.memRead_fixed (s : State) (g x) : (s.memRead g x).2.1.fixed = s.fixed := by
  unfold State.memRead
  rcases s.granPlace g with ⟨ch, n, k⟩
  dsimp only
  repeat' split
  all_goals simp

@[simp] theorem State.memPut_fixed (s : State) (g data check) : (s.memPut g data check).fixed = s.fixed := by
  unfold State.memPut
  repeat' split
  all_goals simp

@[simp] theorem State.memWrite_fixed (s : State) (g data) : (s.memWrite g data).fixed = s.fixed := by simp [State.memWrite]
@[simp] theorem State.memPoison_fixed (s : State) (g data) : (s.memPoison g data).fixed = s.fixed := by simp [State.memPoison]
@[simp] theorem State.updLine_fixed (s : State) (l f) : (s.updLine l f).fixed = s.fixed := by rfl
@[simp] theorem State.dropLine_fixed (s : State) (l) : (s.dropLine l).fixed = s.fixed := by rfl
@[simp] theorem State.countBack_fixed (s : State) : s.countBack.fixed = s.fixed := by rfl
@[simp] theorem State.writeBack_fixed (s : State) (x) : (s.writeBack x).fixed = s.fixed := by simp [State.writeBack]

theorem State.victim_fixed {s : State} {set mask x} (h : s.victim set mask = some x) : x.2.fixed = s.fixed := by
  unfold State.victim at h
  dsimp only at h
  split at h
  · obtain rfl := Option.some.inj h
    rfl
  · split at h
    · cases h
    · obtain ⟨w, -, rfl⟩ := Option.map_eq_some_iff.mp h
      simp

theorem State.allocate_fixed {s : State} {l mask age t} (h : s.allocate l mask age = some t) : t.fixed = s.fixed := by
  unfold State.allocate at h
  split at h
  · cases h
  next hv =>
    cases h
    have := State.victim_fixed hv
    split <;> simp_all

@[simp] theorem State.countHit_fixed (s : State) : s.countHit.fixed = s.fixed := by rfl
@[simp] theorem State.countMiss_fixed (s : State) : s.countMiss.fixed = s.fixed := by rfl
@[simp] theorem State.countBypass_fixed (s : State) : s.countBypass.fixed = s.fixed := by rfl

@[simp] theorem State.sramError_fixed (s : State) (g e) : (s.sramError g e).1.fixed = s.fixed := by
  unfold State.sramError
  dsimp only
  repeat' split
  all_goals simp

@[simp] theorem State.cacheRead_fixed (s : State) (r own g x e) : (s.cacheRead r own g x e).2.1.fixed = s.fixed := by
  unfold State.cacheRead
  dsimp only
  repeat' split
  all_goals simp
  simp [State.allocate_fixed ‹_›]

@[simp] theorem State.granRead_fixed (s : State) (r own g x e) : (s.granRead r own g x e).2.1.fixed = s.fixed := by simp [State.granRead]

@[simp] theorem State.granWrite_fixed (s : State) (r own g data e) : (s.granWrite r own g data e).1.fixed = s.fixed := by
  unfold State.granWrite
  dsimp only
  repeat' split
  all_goals simp
  simp [State.allocate_fixed ‹_›]

@[simp] theorem State.mergePut_fixed (s : State) (g data) : (s.mergePut g data).fixed = s.fixed := by unfold State.mergePut; split <;> simp

@[simp] theorem State.gransRead_fixed (s : State) (r own x e l) : (s.gransRead r own x e l).2.1.fixed = s.fixed := by
  induction l generalizing s e with
  | nil => rfl
  | cons g l ih =>
    unfold State.gransRead
    dsimp only
    split <;> simp [ih]

@[simp] theorem State.bufRead_fixed (s : State) (r own addr len x e) : (s.bufRead r own addr len x e).2.1.fixed = s.fixed := by
  unfold State.bufRead
  split <;> simp

@[simp] theorem State.gransWrite_fixed (s : State) (r own e g l n) : (s.gransWrite r own e g l n).1.fixed = s.fixed := by
  induction n generalizing s e g l with
  | zero => rfl
  | succ n ih => simp [State.gransWrite, ih]

@[simp] theorem State.bufWrite_fixed (s : State) (r own addr l e) : (s.bufWrite r own addr l e).1.fixed = s.fixed := by
  simp [State.bufWrite]

/-! #### Machine/HostWire -/

@[simp] theorem State.sendOn_fixed (s : State) (w m) : (s.sendOn w m).fixed = s.fixed := by simp [State.sendOn]
@[simp] theorem State.resumeHost_fixed (s : State) : s.resumeHost.fixed = s.fixed := by simp [State.resumeHost]
@[simp] theorem State.updHost_fixed (s : State) (f) : (s.updHost f).fixed = s.fixed := by rfl
@[simp] theorem State.updConn_fixed (s : State) (n f) : (s.updConn n f).fixed = s.fixed := by rfl
@[simp] theorem State.sendHost_fixed (s : State) (m) : (s.sendHost m).fixed = s.fixed := by unfold State.sendHost; split <;> simp

@[simp] theorem State.sendCm_fixed (s : State) (q sub peer kind conn l) : (s.sendCm q sub peer kind conn l).fixed = s.fixed := by
  simp [State.sendCm]

/-! #### Machine/BlockResets -/

@[simp] theorem State.reinitChannel_fixed (s : State) (c) : (s.reinitChannel c).fixed = s.fixed := by simp [State.reinitChannel]
@[simp] theorem State.resetPort_fixed (s : State) (q) : (s.resetPort q).fixed = s.fixed := by simp [State.resetPort]

/-! #### Machine/Contexts -/

@[simp] theorem State.updCtx_fixed (s : State) (q c f) : (s.updCtx q c f).fixed = s.fixed := by rfl
@[simp] theorem State.updSvc_fixed (s : State) (f) : (s.updSvc f).fixed = s.fixed := by rfl
@[simp] theorem State.toAbort_fixed (s : State) (q c) : (s.toAbort q c).fixed = s.fixed := by rfl
@[simp] theorem State.waitChecks_fixed (s : State) : s.waitChecks.fixed = s.fixed := by simp [State.waitChecks]

/-! #### Machine/Recorder -/

@[simp] theorem State.updRecorder_fixed (s : State) (f) : (s.updRecorder f).fixed = s.fixed := by rfl
@[simp] theorem State.queueForPack_fixed (s : State) (r) : (s.queueForPack r).fixed = s.fixed := by simp [State.queueForPack]
@[simp] theorem State.numberRecord_fixed (s : State) (r) : (s.numberRecord r).fixed = s.fixed := by simp [State.numberRecord]
@[simp] theorem State.stageRecord_fixed (s : State) (r) : (s.stageRecord r).fixed = s.fixed := by simp [State.stageRecord]
@[simp] theorem State.formRecord_fixed (s : State) (t) : (s.formRecord t).fixed = s.fixed := by simp [State.formRecord]
@[simp] theorem State.storeOrdinary_fixed (s : State) (r) : (s.storeOrdinary r).fixed = s.fixed := by rfl
@[simp] theorem State.storePinned_fixed (s : State) (r) : (s.storePinned r).fixed = s.fixed := by simp [State.storePinned]
@[simp] theorem State.formFatal_fixed (s : State) (t) : (s.formFatal t).fixed = s.fixed := by simp [State.formFatal]
@[simp] theorem State.mergeRecord_fixed (s : State) : s.mergeRecord.fixed = s.fixed := by unfold State.mergeRecord; split <;> simp
@[simp] theorem State.record_fixed (s : State) (t) : (s.record t).fixed = s.fixed := by simp [State.record]
@[simp] theorem State.storeStaged_fixed (s : State) (g) : (s.storeStaged g).fixed = s.fixed := by simp [State.storeStaged]
@[simp] theorem State.flushStaging_fixed (s : State) (keep) : (s.flushStaging keep).fixed = s.fixed := by simp [State.flushStaging]
@[simp] theorem State.flushAll_fixed (s : State) : s.flushAll.fixed = s.fixed := by simp [State.flushAll]

/-! #### Machine/Faults -/

@[simp] theorem State.updSource_fixed (s : State) (k f) : (s.updSource k f).fixed = s.fixed := by simp [State.updSource]
@[simp] theorem State.emcy_fixed (s : State) (code src) : (s.emcy code src).fixed = s.fixed := by simp [State.emcy]
@[simp] theorem State.pushHistory_fixed (s : State) (code) : (s.pushHistory code).fixed = s.fixed := by rfl

@[simp] theorem State.recordAgain_fixed (s : State) (k lane subject flags) : (s.recordAgain k lane subject flags).fixed = s.fixed := by
  simp [State.recordAgain]

@[simp] theorem State.recordFirst_fixed (s : State) (k lane subject flags) : (s.recordFirst k lane subject flags).fixed = s.fixed := by
  simp [State.recordFirst]

@[simp] theorem State.updCluster_fixed (s : State) (c f) : (s.updCluster c f).fixed = s.fixed := by rfl

@[simp] theorem State.deliver_fixed (s : State) (q) : (s.deliver q).fixed = s.fixed := by
  unfold State.deliver
  repeat' split
  all_goals simp

@[simp] theorem State.leaveFaults_fixed (s : State) (l why) : (s.leaveFaults l why).fixed = s.fixed := by simp [State.leaveFaults]
@[simp] theorem State.setSticky_fixed (s : State) (k) : (s.setSticky k).fixed = s.fixed := by simp [State.setSticky]
@[simp] theorem State.notePins_fixed (s : State) : s.notePins.fixed = s.fixed := by rfl

@[simp] theorem State.beginFailOver_fixed (s : State) (cause swap) : (s.beginFailOver cause swap).fixed = s.fixed := by
  unfold State.beginFailOver
  split <;> simp

@[simp] theorem State.resetCluster_fixed (s : State) (c) : (s.resetCluster c).fixed = s.fixed := by simp [State.resetCluster]

@[simp] theorem State.resetClusterBlock_fixed (s : State) (c) : (s.resetClusterBlock c).fixed = s.fixed := by
  unfold State.resetClusterBlock
  repeat' split
  all_goals simp

@[simp] theorem State.requestReset_fixed (s : State) (k) : (s.requestReset k).fixed = s.fixed := by simp [State.requestReset]
@[simp] theorem State.react_fixed (s : State) (k) : (s.react k).fixed = s.fixed := by unfold State.react; split <;> simp

@[simp] theorem State.raiseWith_fixed (s : State) (k lane subject flags) : (s.raiseWith k lane subject flags).fixed = s.fixed := by
  simp [State.raiseWith]

@[simp] theorem State.raise_fixed (s : State) (k) : (s.raise k).fixed = s.fixed := by simp [State.raise]
@[simp] theorem State.raisePack_fixed (s : State) (p k) : (s.raisePack p k).fixed = s.fixed := by simp [State.raisePack]
@[simp] theorem State.raiseLane_fixed (s : State) (p a h k) : (s.raiseLane p a h k).fixed = s.fixed := by simp [State.raiseLane]

/-! #### Machine/Links -/

@[simp] theorem State.updLink_fixed (s : State) (p a f) : (s.updLink p a f).fixed = s.fixed := by rfl

@[simp] theorem State.sendNumbered_fixed (s : State) (p a frame) : (s.sendNumbered p a frame).fixed = s.fixed := by
  simp [State.sendNumbered]

@[simp] theorem State.sendCmd_fixed (s : State) (p a opcode mask) : (s.sendCmd p a opcode mask).fixed = s.fixed := by simp [State.sendCmd]
@[simp] theorem State.disarm_fixed (s : State) (p a) : (s.disarm p a).fixed = s.fixed := by simp [State.disarm]
@[simp] theorem State.echo_fixed (s : State) (p a n) : (s.echo p a n).fixed = s.fixed := by rfl

/-! #### Machine/LaneOps -/

@[simp] theorem State.updFmt_fixed (s : State) (p a f) : (s.updFmt p a f).fixed = s.fixed := by rfl
@[simp] theorem State.updChan_fixed (s : State) (p a h f) : (s.updChan p a h f).fixed = s.fixed := by rfl
@[simp] theorem State.updHealth_fixed (s : State) (p a h f) : (s.updHealth p a h f).fixed = s.fixed := by rfl
@[simp] theorem State.updMedia_fixed (s : State) (p f) : (s.updMedia p f).fixed = s.fixed := by rfl

@[simp] theorem State.forLanes_fixed (s : State) (m) (f : State → HeadId → State) (hf : ∀ s h, (f s h).fixed = s.fixed) :
    (s.forLanes m f).fixed = s.fixed := State.foldl_fixed f hf _ s

@[simp] theorem State.passPointer_fixed (s : State) (p h addr) : (s.passPointer p h addr).fixed = s.fixed := by simp [State.passPointer]
@[simp] theorem State.recordBands_fixed (s : State) (p) : (s.recordBands p).fixed = s.fixed := by rfl
@[simp] theorem State.writeDefects_fixed (s : State) (p) : (s.writeDefects p).fixed = s.fixed := by simp [State.writeDefects]
@[simp] theorem State.addDefect_fixed (s : State) (p type addr) : (s.addDefect p type addr).fixed = s.fixed := by simp [State.addDefect]
@[simp] theorem State.growDefect_fixed (s : State) (p addr) : (s.growDefect p addr).fixed = s.fixed := by simp [State.growDefect]
@[simp] theorem State.setQuality_fixed (s : State) (p a h q) : (s.setQuality p a h q).fixed = s.fixed := by simp [State.setQuality]
@[simp] theorem State.assessLane_fixed (s : State) (p a h) : (s.assessLane p a h).fixed = s.fixed := by simp [State.assessLane]
@[simp] theorem State.hubGets_fixed (s : State) (p a o) : (s.hubGets p a o).fixed = s.fixed := by rfl
@[simp] theorem State.toHub_fixed (s : State) (p a o) : (s.toHub p a o).fixed = s.fixed := by simp [State.toHub]
@[simp] theorem State.releaseTiles_fixed (s : State) : s.releaseTiles.fixed = s.fixed := by simp [State.releaseTiles]
@[simp] theorem State.deliverEnd_fixed (s : State) (p a h e) : (s.deliverEnd p a h e).fixed = s.fixed := by simp [State.deliverEnd]
@[simp] theorem State.deliverAll_fixed (s : State) (p a h) : (s.deliverAll p a h).fixed = s.fixed := by simp [State.deliverAll]
@[simp] theorem State.saveSuspects_fixed (s : State) (p) : (s.saveSuspects p).fixed = s.fixed := by rfl
@[simp] theorem State.noteWritten_fixed (s : State) (p addr) : (s.noteWritten p addr).fixed = s.fixed := by simp [State.noteWritten]

@[simp] theorem State.drive_fixed (s : State) (p a h cut) : (s.drive p a h cut).fixed = s.fixed := by
  unfold State.drive
  dsimp only
  repeat' split
  all_goals simp

@[simp] theorem State.closeWrite_fixed (s0 : State) (p a h torn) : (s0.closeWrite p a h torn).fixed = s0.fixed := by
  unfold State.closeWrite
  split <;> simp

@[simp] theorem State.armTurn_fixed (s : State) (p a) : (s.armTurn p a).fixed = s.fixed := by simp [State.armTurn]
@[simp] theorem State.afterGates_fixed (s : State) (p a) : (s.afterGates p a).fixed = s.fixed := by simp [State.afterGates]
@[simp] theorem State.barWrites_fixed (s : State) (p a m) : (s.barWrites p a m).fixed = s.fixed := by simp [State.barWrites]
@[simp] theorem State.idleWrites_fixed (s : State) (p a) : (s.idleWrites p a).fixed = s.fixed := by simp [State.idleWrites]

/-! #### Machine/SpanWatch -/

@[simp] theorem State.setDevState_fixed (s : State) (d form cause) : (s.setDevState d form cause).fixed = s.fixed := by
  simp [State.setDevState]

@[simp] theorem State.updSpan_fixed (s : State) (x f) : (s.updSpan x f).fixed = s.fixed := by rfl
@[simp] theorem State.updStore_fixed (s : State) (f) : (s.updStore f).fixed = s.fixed := by rfl
@[simp] theorem State.noteJournal_fixed (s : State) : s.noteJournal.fixed = s.fixed := by rfl
@[simp] theorem State.replay_fixed (s : State) : s.replay.fixed = s.fixed := by rfl
@[simp] theorem State.tryOpen_fixed (s : State) : s.tryOpen.fixed = s.fixed := by simp [State.tryOpen]
@[simp] theorem State.noteSpans_fixed (s : State) : s.noteSpans.fixed = s.fixed := by simp [State.noteSpans]

/-! #### Machine/ServoOps -/

@[simp] theorem State.writeLife_fixed (s : State) (p readBack) : (s.writeLife p readBack).fixed = s.fixed := by simp [State.writeLife]
@[simp] theorem State.saveLife_fixed (s : State) (p) : (s.saveLife p).fixed = s.fixed := by simp [State.saveLife]
@[simp] theorem State.packWarning_fixed (s : State) (p code) : (s.packWarning p code).fixed = s.fixed := by simp [State.packWarning]
@[simp] theorem State.updTb_fixed (s : State) (p f) : (s.updTb p f).fixed = s.fixed := by rfl

@[simp] theorem State.tbArmsDown_fixed (s : State) (p) : (s.tbArmsDown p).fixed = s.fixed := by
  unfold State.tbArmsDown
  repeat' split
  all_goals simp

@[simp] theorem State.inhibitArm_fixed (s : State) (p a cut) : (s.inhibitArm p a cut).fixed = s.fixed := by simp [State.inhibitArm]
@[simp] theorem State.parkServo_fixed (s : State) (p a cut) : (s.parkServo p a cut).fixed = s.fixed := by simp [State.parkServo]
@[simp] theorem State.armDown_fixed (s : State) (p a m) : (s.armDown p a m).fixed = s.fixed := by simp [State.armDown]
@[simp] theorem State.loadServo_fixed (s : State) (p a k) : (s.loadServo p a k).fixed = s.fixed := by rfl

@[simp] theorem State.galeServo_fixed (s : State) (p a outs miscompare) : (s.galeServo p a outs miscompare).fixed = s.fixed := by
  simp [State.galeServo]

/-! #### Machine/Routines -/

@[simp] theorem State.applyArrays_fixed (s : State) (p a) : (s.applyArrays p a).fixed = s.fixed := by rfl
@[simp] theorem State.trimActive_fixed (s : State) (p a) : (s.trimActive p a).fixed = s.fixed := by simp [State.trimActive]
@[simp] theorem State.dropReads_fixed (s : State) (p a) : (s.dropReads p a).fixed = s.fixed := by rfl

@[simp] theorem State.abandonRoutine_fixed (s : State) (p a counted) : (s.abandonRoutine p a counted).fixed = s.fixed := by
  simp [State.abandonRoutine]

@[simp] theorem State.giveBack_fixed (s : State) (p b h e) : (s.giveBack p b h e).fixed = s.fixed := by simp [State.giveBack]
@[simp] theorem State.stopWith_fixed (s : State) (p a h e) : (s.stopWith p a h e).fixed = s.fixed := by simp [State.stopWith]

@[simp] theorem State.stopSector_fixed (s : State) (p a h addr outcome verify) :
    (s.stopSector p a h addr outcome verify).fixed = s.fixed := by simp [State.stopSector]

@[simp] theorem State.stopSix_fixed (s : State) (p a outcome x) : (s.stopSix p a outcome x).fixed = s.fixed := by
  unfold State.stopSix
  dsimp only
  repeat' split
  all_goals simp

@[simp] theorem State.dropSixes_fixed (s : State) (p a m) : (s.dropSixes p a m).fixed = s.fixed := by simp [State.dropSixes]
@[simp] theorem State.stopLane_fixed (s : State) (p a h outcome) : (s.stopLane p a h outcome).fixed = s.fixed := by simp [State.stopLane]

@[simp] theorem State.stopSectors_fixed (s : State) (p a outcome) : (s.stopSectors p a outcome).fixed = s.fixed := by
  simp [State.stopSectors]

@[simp] theorem State.cancelWrites_fixed (s : State) (p a ends h) : (s.cancelWrites p a ends h).fixed = s.fixed := by
  unfold State.cancelWrites
  split <;> simp

@[simp] theorem State.settleRoutine_fixed (s : State) (p a outcome) : (s.settleRoutine p a outcome).fixed = s.fixed := by
  unfold State.settleRoutine
  dsimp only
  repeat' split
  all_goals simp

@[simp] theorem State.chargeBack_fixed (s : State) (p a) : (s.chargeBack p a).fixed = s.fixed := by
  unfold State.chargeBack
  dsimp only
  repeat' split
  all_goals simp

@[simp] theorem State.closeRoutine_fixed (s : State) (p a left result) : (s.closeRoutine p a left result).fixed = s.fixed := by
  simp [State.closeRoutine]

@[simp] theorem State.endRoutine_fixed (s : State) (p a outcome) : (s.endRoutine p a outcome).fixed = s.fixed := by simp [State.endRoutine]

@[simp] theorem State.refuseRequest_fixed (s : State) (p a req outcome) : (s.refuseRequest p a req outcome).fixed = s.fixed := by
  simp [State.refuseRequest]

@[simp] theorem State.formatterFault_fixed (s : State) (p a) : (s.formatterFault p a).fixed = s.fixed := by simp [State.formatterFault]
@[simp] theorem State.parkArmBy_fixed (s : State) (p a cut) : (s.parkArmBy p a cut).fixed = s.fixed := by simp [State.parkArmBy]
@[simp] theorem State.parkArm_fixed (s : State) (p a) : (s.parkArm p a).fixed = s.fixed := by simp [State.parkArm]
@[simp] theorem State.parkPack_fixed (s : State) (p) : (s.parkPack p).fixed = s.fixed := by simp [State.parkPack]
@[simp] theorem State.parkAll_fixed (s : State) : s.parkAll.fixed = s.fixed := by simp [State.parkAll]

@[simp] theorem State.galeArm_fixed (s : State) (p a outs miscompare) : (s.galeArm p a outs miscompare).fixed = s.fixed := by
  simp [State.galeArm]

@[simp] theorem State.galePack_fixed (s : State) (p outs miscompare) : (s.galePack p outs miscompare).fixed = s.fixed := by
  simp [State.galePack]

@[simp] theorem State.loseLink_fixed (s : State) (p a) : (s.loseLink p a).fixed = s.fixed := by simp [State.loseLink]

/-! #### Machine/PackOps -/

@[simp] theorem State.updSpin_fixed (s : State) (p f) : (s.updSpin p f).fixed = s.fixed := by rfl
@[simp] theorem State.updBus_fixed (s : State) (x f) : (s.updBus x f).fixed = s.fixed := by rfl
@[simp] theorem State.setPackState_fixed (s : State) (p n) : (s.setPackState p n).fixed = s.fixed := by simp [State.setPackState]
@[simp] theorem State.grantSpin_fixed (s : State) (p) : (s.grantSpin p).fixed = s.fixed := by simp [State.grantSpin]

@[simp] theorem State.passOver_fixed (s : State) (l) : (s.passOver l).fixed = s.fixed := by
  induction l generalizing s with
  | nil => rfl
  | cons p l ih => unfold State.passOver; simp [ih]

@[simp] theorem State.admissionPass_fixed (s : State) : s.admissionPass.fixed = s.fixed := by simp [State.admissionPass]
@[simp] theorem State.releaseSpin_fixed (s : State) (p) : (s.releaseSpin p).fixed = s.fixed := by rfl
@[simp] theorem State.packToVerified_fixed (s : State) (p) : (s.packToVerified p).fixed = s.fixed := by simp [State.packToVerified]
@[simp] theorem State.packFail_fixed (s : State) (p cause) : (s.packFail p cause).fixed = s.fixed := by simp [State.packFail]
@[simp] theorem State.checkOut_fixed (s : State) (p) : (s.checkOut p).fixed = s.fixed := by simp [State.checkOut]
@[simp] theorem State.checkLoaded_fixed (s : State) (p) : (s.checkLoaded p).fixed = s.fixed := by simp [State.checkLoaded]
@[simp] theorem State.removeLane_fixed (s : State) (p a h) : (s.removeLane p a h).fixed = s.fixed := by simp [State.removeLane]

@[simp] theorem State.countLoadFailure_fixed (s : State) (p a) : (s.countLoadFailure p a).fixed = s.fixed := by
  simp [State.countLoadFailure]

@[simp] theorem State.sendElement_fixed (s : State) (p a v) : (s.sendElement p a v).fixed = s.fixed := by simp [State.sendElement]
@[simp] theorem State.wakePreamp_fixed (s : State) (p a) : (s.wakePreamp p a).fixed = s.fixed := by simp [State.wakePreamp]

@[simp] theorem State.loadArm_fixed (s : State) (p a) : (s.loadArm p a).fixed = s.fixed := by
  unfold State.loadArm
  repeat' split
  all_goals simp

@[simp] theorem State.routineMechanics_fixed (s : State) (p a) : (s.routineMechanics p a).fixed = s.fixed := by
  simp [State.routineMechanics]

@[simp] theorem State.idlePoint_fixed (s : State) (p a) : (s.idlePoint p a).fixed = s.fixed := by simp [State.idlePoint]

@[simp] theorem State.startRequest_fixed (s : State) (p a r rest held back) : (s.startRequest p a r rest held back).fixed = s.fixed := by
  simp [State.startRequest]

@[simp] theorem State.startBack_fixed (s : State) (p a b) : (s.startBack p a b).fixed = s.fixed := by simp [State.startBack]

@[simp] theorem State.kick_fixed (s : State) (p a) : (s.kick p a).fixed = s.fixed := by
  unfold State.kick
  dsimp only
  repeat' split
  all_goals simp

@[simp] theorem State.kickPack_fixed (s : State) (p) : (s.kickPack p).fixed = s.fixed := by simp [State.kickPack]
@[simp] theorem State.kickAll_fixed (s : State) : s.kickAll.fixed = s.fixed := by simp [State.kickAll]
@[simp] theorem State.microFault_fixed (s : State) (p a) : (s.microFault p a).fixed = s.fixed := by simp [State.microFault]
@[simp] theorem State.miscompare_fixed (s : State) (t) : (s.miscompare t).fixed = s.fixed := by simp [State.miscompare]

@[simp] theorem State.compared_fixed (s : State) (t same) (f : State → State) (hf : ∀ s, (f s).fixed = s.fixed) :
    (s.compared t same f).fixed = s.fixed := by unfold State.compared; simp [hf]

@[simp] theorem State.retirePack_fixed (s : State) (p) : (s.retirePack p).fixed = s.fixed := by simp [State.retirePack]
@[simp] theorem State.noteEmpty_fixed (s : State) : s.noteEmpty.fixed = s.fixed := by simp [State.noteEmpty]

/-! #### Machine/RingOps -/

@[simp] theorem State.updRing_fixed (s : State) (n f) : (s.updRing n f).fixed = s.fixed := by rfl
@[simp] theorem State.updPort_fixed (s : State) (q f) : (s.updPort q f).fixed = s.fixed := by rfl
@[simp] theorem State.updCmd_fixed (s : State) (ring slot f) : (s.updCmd ring slot f).fixed = s.fixed := by rfl
@[simp] theorem State.hostOut_fixed (s : State) (o mirrored) : (s.hostOut o mirrored).fixed = s.fixed := by simp [State.hostOut]
@[simp] theorem State.sendHead_fixed (s : State) (r) : (s.sendHead r).fixed = s.fixed := by simp [State.sendHead]
@[simp] theorem State.mirrorRing_fixed (s : State) (n) : (s.mirrorRing n).fixed = s.fixed := by unfold State.mirrorRing; split <;> simp
@[simp] theorem State.publish_fixed (s : State) (n) : (s.publish n).fixed = s.fixed := by unfold State.publish; split <;> simp
@[simp] theorem State.dropLocks_fixed (s : State) (ring slot) : (s.dropLocks ring slot).fixed = s.fixed := by rfl
@[simp] theorem State.endReads_fixed (s : State) (ring slot) : (s.endReads ring slot).fixed = s.fixed := by rfl
@[simp] theorem State.countStatus_fixed (s : State) (status) : (s.countStatus status).fixed = s.fixed := by rfl

@[simp] theorem State.completeWith_fixed (s : State) (ring slot status size value) :
    (s.completeWith ring slot status size value).fixed = s.fixed := by
  unfold State.completeWith
  dsimp only
  repeat' split
  all_goals simp

@[simp] theorem State.completeCommand_fixed (s : State) (ring slot status) : (s.completeCommand ring slot status).fixed = s.fixed := by
  simp [State.completeCommand]

@[simp] theorem State.abortRing_fixed (s : State) (n) : (s.abortRing n).fixed = s.fixed := by simp [State.abortRing]

@[simp] theorem State.dropFraming_fixed (s : State) (n) : (s.dropFraming n).fixed = s.fixed := by
  unfold State.dropFraming
  repeat' split
  all_goals simp

@[simp] theorem State.faultFraming_fixed (s : State) (q) : (s.faultFraming q).fixed = s.fixed := by simp [State.faultFraming]

@[simp] theorem State.ringFatal_fixed (s : State) (n cause) : (s.ringFatal n cause).fixed = s.fixed := by
  unfold State.ringFatal
  split <;> simp

@[simp] theorem State.dropCommands_fixed (s : State) (rings) : (s.dropCommands rings).fixed = s.fixed := by rfl
@[simp] theorem State.freeLock_fixed (s : State) (code) : (s.freeLock code).fixed = s.fixed := by simp [State.freeLock]
@[simp] theorem State.stopMovers_fixed (s : State) (conn status) : (s.stopMovers conn status).fixed = s.fixed := by rfl
@[simp] theorem State.endConn_fixed (s : State) (n cause) : (s.endConn n cause).fixed = s.fixed := by unfold State.endConn; split <;> simp
@[simp] theorem State.endAllConns_fixed (s : State) (cause) : (s.endAllConns cause).fixed = s.fixed := by simp [State.endAllConns]

/-! #### Machine/Micro -/

@[simp] theorem State.setThread_fixed (s : State) (e t) : (s.setThread e t).fixed = s.fixed := by unfold State.setThread; split <;> simp
@[simp] theorem State.serviceFault_fixed (s : State) (q) : (s.serviceFault q).fixed = s.fixed := by simp [State.serviceFault]
@[simp] theorem State.engFault_fixed (s : State) (x) : (s.engFault x).fixed = s.fixed := by unfold State.engFault; split <;> simp
@[simp] theorem State.advance_fixed (s : State) (e) : (s.advance e).fixed = s.fixed := by simp [State.advance]
@[simp] theorem State.noteTurn_fixed (s : State) (q c) : (s.noteTurn q c).fixed = s.fixed := by rfl

@[simp] theorem State.countIssue_fixed (s : State) (e safe) : (s.countIssue e safe).fixed = s.fixed := by
  unfold State.countIssue
  split <;> simp

@[simp] theorem State.fetchErrors_fixed (s : State) (e) : (s.fetchErrors e).1.fixed = s.fixed := by
  unfold State.fetchErrors
  dsimp only
  repeat' split
  all_goals simp

@[simp] theorem State.issue_fixed (s : State) (e opc) (f : Word → State → State) (hf : ∀ w s, (f w s).fixed = s.fixed) :
    (s.issue e opc f).fixed = s.fixed := by
  unfold State.issue
  dsimp only
  repeat' split
  all_goals simp [hf]

@[simp] theorem State.alu_fixed (s : State) (e opc g) : (s.alu e opc g).fixed = s.fixed := by simp [State.alu]

/-! #### Machine/Sequencers -/

@[simp] theorem execNop_fixed (e) (s : State) : fixedOf (execNop e s) = some s.fixed := by simp [execNop]
@[simp] theorem execAdd_fixed (e) (s : State) : fixedOf (execAdd e s) = some s.fixed := by simp [execAdd]
@[simp] theorem execSub_fixed (e) (s : State) : fixedOf (execSub e s) = some s.fixed := by simp [execSub]
@[simp] theorem execAnd_fixed (e) (s : State) : fixedOf (execAnd e s) = some s.fixed := by simp [execAnd]
@[simp] theorem execOr_fixed (e) (s : State) : fixedOf (execOr e s) = some s.fixed := by simp [execOr]
@[simp] theorem execXor_fixed (e) (s : State) : fixedOf (execXor e s) = some s.fixed := by simp [execXor]
@[simp] theorem execShl_fixed (e) (s : State) : fixedOf (execShl e s) = some s.fixed := by simp [execShl]
@[simp] theorem execShr_fixed (e) (s : State) : fixedOf (execShr e s) = some s.fixed := by simp [execShr]
@[simp] theorem execCmp_fixed (e) (s : State) : fixedOf (execCmp e s) = some s.fixed := by simp [execCmp]
@[simp] theorem execMovi_fixed (e) (s : State) : fixedOf (execMovi e s) = some s.fixed := by simp [execMovi]
@[simp] theorem execMin_fixed (e) (s : State) : fixedOf (execMin e s) = some s.fixed := by simp [execMin]
@[simp] theorem execMax_fixed (e) (s : State) : fixedOf (execMax e s) = some s.fixed := by simp [execMax]
@[simp] theorem State.angleFault_fixed (s : State) (e) : (s.angleFault e).fixed = s.fixed := by unfold State.angleFault; split <;> simp
@[simp] theorem execAdda_fixed (e) (s : State) : fixedOf (execAdda e s) = some s.fixed := by simp [execAdda]
@[simp] theorem execAcmp_fixed (e) (s : State) : fixedOf (execAcmp e s) = some s.fixed := by simp [execAcmp]
@[simp] theorem execNow_fixed (e) (s : State) : fixedOf (execNow e s) = some s.fixed := by unfold execNow; split <;> simp
@[simp] theorem State.angleWait_fixed (s : State) (p a target) : (s.angleWait p a target).fixed = s.fixed := by simp [State.angleWait]
@[simp] theorem execWaita_fixed (e) (s : State) : fixedOf (execWaita e s) = some s.fixed := by unfold execWaita; split <;> simp
@[simp] theorem execWaitr_fixed (e) (s : State) : fixedOf (execWaitr e s) = some s.fixed := by unfold execWaitr; split <;> simp

@[simp] theorem execAngleWaitReached_fixed (p a) (s : State) : fixedOf (execAngleWaitReached p a s) = some s.fixed := by
  unfold execAngleWaitReached
  split <;> simp

@[simp] theorem execLd_fixed (e) (s : State) : fixedOf (execLd e s) = some s.fixed := by
  unfold execLd
  rw [fixedOf_next, State.issue_fixed]
  intro w s
  dsimp only
  repeat' split
  all_goals simp

@[simp] theorem execSt_fixed (e) (s : State) : fixedOf (execSt e s) = some s.fixed := by simp [execSt]
@[simp] theorem execJmp_fixed (e) (s : State) : fixedOf (execJmp e s) = some s.fixed := by simp [execJmp]
@[simp] theorem execCall_fixed (e) (s : State) : fixedOf (execCall e s) = some s.fixed := by simp [execCall]

@[simp] theorem execRet_fixed (e) (s : State) : fixedOf (execRet e s) = some s.fixed := by
  unfold execRet
  rw [fixedOf_next, State.issue_fixed]
  intro w s
  dsimp only
  split <;> simp

@[simp] theorem execJmpr_fixed (e) (s : State) : fixedOf (execJmpr e s) = some s.fixed := by simp [execJmpr]

@[simp] theorem State.endWait_fixed (s : State) (e timeout) : (s.endWait e timeout).fixed = s.fixed := by
  unfold State.endWait
  split <;> simp

@[simp] theorem execWaite_fixed (e) (s : State) : fixedOf (execWaite e s) = some s.fixed := by unfold execWaite; split <;> simp

@[simp] theorem State.leaveWait_fixed (s : State) (e timeout) : (s.leaveWait e timeout).fixed = s.fixed := by
  unfold State.leaveWait
  split <;> simp

@[simp] theorem execWaiteConditionMet_fixed (e) (s : State) : fixedOf (execWaiteConditionMet e s) = some s.fixed := by
  unfold execWaiteConditionMet
  split <;> simp

@[simp] theorem execWaiteTimeout_fixed (e) (s : State) : fixedOf (execWaiteTimeout e s) = some s.fixed := by
  unfold execWaiteTimeout
  split <;> simp

@[simp] theorem State.applySynth_fixed (s : State) (p a) : (s.applySynth p a).fixed = s.fixed := by rfl

@[simp] theorem State.takeOrder_fixed (s : State) (p a) : (s.takeOrder p a).fixed = s.fixed := by
  unfold State.takeOrder
  dsimp only
  repeat' split
  all_goals simp

@[simp] theorem State.seek_fixed (s : State) (p a lanes) : (s.seek p a lanes).fixed = s.fixed := by simp [State.seek]
@[simp] theorem execSeek_fixed (e same) (s : State) : fixedOf (execSeek e same s) = some s.fixed := by unfold execSeek; split <;> simp
@[simp] theorem execGrp_fixed (e) (s : State) : fixedOf (execGrp e s) = some s.fixed := by unfold execGrp; split <;> simp
@[simp] theorem State.wantActive_fixed (s : State) (p a h) : (s.wantActive p a h).fixed = s.fixed := by simp [State.wantActive]

@[simp] theorem State.sitOutXfer_fixed (s : State) (p a out first count type) :
    (s.sitOutXfer p a out first count type).fixed = s.fixed := by simp [State.sitOutXfer]

@[simp] theorem State.xfer_fixed (s : State) (p a set first count type) : (s.xfer p a set first count type).fixed = s.fixed := by
  unfold State.xfer
  repeat' split
  all_goals simp

@[simp] theorem execXfer_fixed (e) (s : State) : fixedOf (execXfer e s) = some s.fixed := by unfold execXfer; split <;> simp
@[simp] theorem execLadder_fixed (e) (s : State) : fixedOf (execLadder e s) = some s.fixed := by unfold execLadder; split <;> simp
@[simp] theorem execLink_fixed (e) (s : State) : fixedOf (execLink e s) = some s.fixed := by unfold execLink; split <;> simp

@[simp] theorem execControlStoreScrub_fixed (e word) (s : State) : fixedOf (execControlStoreScrub e word s) = some s.fixed := by
  unfold execControlStoreScrub
  dsimp only
  repeat' split
  all_goals simp

@[simp] theorem execLockedStoreWrite_fixed (e word value) (s : State) : fixedOf (execLockedStoreWrite e word value s) = some s.fixed := by
  unfold execLockedStoreWrite
  repeat' split
  all_goals simp

/-! #### Machine/FormatterCmds -/

@[simp] theorem State.enqueue_fixed (s : State) (p a req) : (s.enqueue p a req).fixed = s.fixed := by simp [State.enqueue]

@[simp] theorem State.formatterRequest_fixed (s : State) (p a req) : (s.formatterRequest p a req).fixed = s.fixed := by
  simp [State.formatterRequest]

@[simp] theorem State.releaseRequests_fixed (s : State) : s.releaseRequests.fixed = s.fixed := by simp [State.releaseRequests]

@[simp] theorem execFormatterRequest_fixed (p a req) (s : State) : fixedOf (execFormatterRequest p a req s) = some s.fixed := by
  simp [execFormatterRequest]

@[simp] theorem execRoutineRestart_fixed (p a) (s : State) : fixedOf (execRoutineRestart p a s) = some s.fixed := by
  simp [execRoutineRestart]

@[simp] theorem execFormatterCancel_fixed (p a) (s : State) : fixedOf (execFormatterCancel p a s) = some s.fixed := by
  simp [execFormatterCancel]

@[simp] theorem execPerArrayWriteApply_fixed (p a) (s : State) : fixedOf (execPerArrayWriteApply p a s) = some s.fixed := by
  simp [execPerArrayWriteApply]

/-! #### Machine/TimeBases -/

@[simp] theorem State.tbLost_fixed (s : State) (p) : (s.tbLost p).fixed = s.fixed := by simp [State.tbLost]

@[simp] theorem State.tbAcquire_fixed (s : State) (p dets) : (s.tbAcquire p dets).fixed = s.fixed := by
  unfold State.tbAcquire
  dsimp only
  repeat' split
  all_goals simp

@[simp] theorem State.tbCorrect_fixed (s : State) (p) : (s.tbCorrect p).fixed = s.fixed := by rfl
@[simp] theorem State.sumSkews_fixed (s : State) (p dets) : (s.sumSkews p dets).fixed = s.fixed := by simp [State.sumSkews]
@[simp] theorem State.watchDrift_fixed (s : State) (p a) : (s.watchDrift p a).fixed = s.fixed := by simp [State.watchDrift]
@[simp] theorem State.countWedge_fixed (s0 : State) (p) : (s0.countWedge p).fixed = s0.fixed := by simp [State.countWedge]
@[simp] theorem State.startMeasuring_fixed (s : State) (p) : (s.startMeasuring p).fixed = s.fixed := by rfl
@[simp] theorem State.startFollowing_fixed (s : State) (p a) : (s.startFollowing p a).fixed = s.fixed := by rfl
@[simp] theorem State.followLocked_fixed (s : State) (p a) : (s.followLocked p a).fixed = s.fixed := by simp [State.followLocked]
@[simp] theorem State.followPack_fixed (s : State) (p) : (s.followPack p).fixed = s.fixed := by simp [State.followPack]
@[simp] theorem State.tbLocked_fixed (s : State) (p) : (s.tbLocked p).fixed = s.fixed := by simp [State.tbLocked]
@[simp] theorem State.acquireWedge_fixed (s : State) (p err) : (s.acquireWedge p err).fixed = s.fixed := by simp [State.acquireWedge]
@[simp] theorem State.endHold_fixed (s : State) (p) : (s.endHold p).fixed = s.fixed := by rfl

@[simp] theorem State.lockedWedge_fixed (s : State) (p dets err) : (s.lockedWedge p dets err).fixed = s.fixed := by
  unfold State.lockedWedge
  split <;> simp

@[simp] theorem State.applyTuning_fixed (s : State) (p) : (s.applyTuning p).fixed = s.fixed := by simp [State.applyTuning]
@[simp] theorem State.atWedge_fixed (s : State) (p) : (s.atWedge p).fixed = s.fixed := by simp [State.atWedge]

@[simp] theorem execWedgePhaseUpdate_fixed (p dets) (s0 : State) : fixedOf (execWedgePhaseUpdate p dets s0) = some s0.fixed := by
  unfold execWedgePhaseUpdate
  dsimp only
  repeat' split
  all_goals simp

@[simp] theorem execTbCoastLimit_fixed (p) (s : State) : fixedOf (execTbCoastLimit p s) = some s.fixed := by simp [execTbCoastLimit]

@[simp] theorem execTbAcquireTimeout_fixed (p) (s : State) : fixedOf (execTbAcquireTimeout p s) = some s.fixed := by
  simp [execTbAcquireTimeout]

@[simp] theorem State.takeSkews_fixed (s : State) (p a) : (s.takeSkews p a).fixed = s.fixed := by simp [State.takeSkews]

@[simp] theorem execSkewMeasurementDone_fixed (p) (s : State) : fixedOf (execSkewMeasurementDone p s) = some s.fixed := by
  simp [execSkewMeasurementDone]

@[simp] theorem execSkewRemeasureStart_fixed (p) (s : State) : fixedOf (execSkewRemeasureStart p s) = some s.fixed := by
  simp [execSkewRemeasureStart]

@[simp] theorem execArmReload_fixed (p a) (s : State) : fixedOf (execArmReload p a s) = some s.fixed := by simp [execArmReload]

/-! #### Machine/Servo -/

@[simp] theorem State.countStrokes_fixed (s : State) (p a h) : (s.countStrokes p a h).fixed = s.fixed := by simp [State.countStrokes]

@[simp] theorem execServoStateCrcCompare_fixed (p a crc1) (s : State) : fixedOf (execServoStateCrcCompare p a crc1 s) = some s.fixed := by
  simp [execServoStateCrcCompare]

@[simp] theorem State.armWedge_fixed (s0 : State) (p a) : (s0.armWedge p a).fixed = s0.fixed := by
  unfold State.armWedge
  dsimp only
  repeat' split
  all_goals simp

@[simp] theorem execServoDemodResult_fixed (p a h d same) (s : State) : fixedOf (execServoDemodResult p a h d same s) = some s.fixed := by
  simp [execServoDemodResult]

@[simp] theorem execHeadLost_fixed (p a h same) (s : State) : fixedOf (execHeadLost p a h same s) = some s.fixed := by simp [execHeadLost]
@[simp] theorem execHeadReturn_fixed (p a h) (s : State) : fixedOf (execHeadReturn p a h s) = some s.fixed := by simp [execHeadReturn]
@[simp] theorem execLoadTimeEnd_fixed (p a) (s : State) : fixedOf (execLoadTimeEnd p a s) = some s.fixed := by simp [execLoadTimeEnd]

@[simp] theorem execSearchTimeout_fixed (p a same) (s : State) : fixedOf (execSearchTimeout p a same s) = some s.fixed := by
  simp [execSearchTimeout]

@[simp] theorem execSettleTimeout_fixed (p a same) (s : State) : fixedOf (execSettleTimeout p a same s) = some s.fixed := by
  simp [execSettleTimeout]

@[simp] theorem execArmPark_fixed (p a same) (s : State) : fixedOf (execArmPark p a same s) = some s.fixed := by simp [execArmPark]

@[simp] theorem execParkTimeout_fixed (p a same) (s : State) : fixedOf (execParkTimeout p a same s) = some s.fixed := by
  simp [execParkTimeout]

@[simp] theorem execUnloadTimeEnd_fixed (p a) (s : State) : fixedOf (execUnloadTimeEnd p a s) = some s.fixed := by simp [execUnloadTimeEnd]

@[simp] theorem execGaleRetract_fixed (p a out miscompare) (s : State) : fixedOf (execGaleRetract p a out miscompare s) = some s.fixed := by
  simp [execGaleRetract]

@[simp] theorem execGaleTimeEnd_fixed (p a) (s : State) : fixedOf (execGaleTimeEnd p a s) = some s.fixed := by simp [execGaleTimeEnd]

@[simp] theorem execBackEmfVelocityLoop_fixed (p a same) (s : State) : fixedOf (execBackEmfVelocityLoop p a same s) = some s.fixed := by
  simp [execBackEmfVelocityLoop]

@[simp] theorem execVcmCurrentLoop_fixed (p a current) (s : State) : fixedOf (execVcmCurrentLoop p a current s) = some s.fixed := by
  simp [execVcmCurrentLoop]

@[simp] theorem execVcmSetpointWatchdog_fixed (p a) (s : State) : fixedOf (execVcmSetpointWatchdog p a s) = some s.fixed := by
  simp [execVcmSetpointWatchdog]

@[simp] theorem execTilePllUnlock_fixed (t) (s : State) : fixedOf (execTilePllUnlock t s) = some s.fixed := by simp [execTilePllUnlock]

/-! #### Machine/ArmLinks -/

@[simp] theorem State.discardFrame_fixed (s : State) (p a) : (s.discardFrame p a).fixed = s.fixed := by rfl

@[simp] theorem State.removeLanes_fixed (s : State) (p a mask driver) : (s.removeLanes p a mask driver).fixed = s.fixed := by
  simp [State.removeLanes]

@[simp] theorem execStatusFrame_fixed (p a frame) (s : State) : fixedOf (execStatusFrame p a frame s) = some s.fixed := by
  simp [execStatusFrame]

@[simp] theorem execRegrespFrame_fixed (p a frame) (s : State) : fixedOf (execRegrespFrame p a frame s) = some s.fixed := by
  unfold execRegrespFrame
  dsimp only
  repeat' split
  all_goals simp

@[simp] theorem execArmLinkRxTimeout_fixed (p a) (s : State) : fixedOf (execArmLinkRxTimeout p a s) = some s.fixed := by
  simp [execArmLinkRxTimeout]

@[simp] theorem execCmdEchoTimeout_fixed (p a) (s : State) : fixedOf (execCmdEchoTimeout p a s) = some s.fixed := by
  unfold execCmdEchoTimeout
  dsimp only
  repeat' split
  all_goals simp

@[simp] theorem execArmLinkTrainingDone_fixed (p a) (s : State) : fixedOf (execArmLinkTrainingDone p a s) = some s.fixed := by
  simp [execArmLinkTrainingDone]

@[simp] theorem execArmLinkTrainingTimeout_fixed (p a) (s : State) : fixedOf (execArmLinkTrainingTimeout p a s) = some s.fixed := by
  simp [execArmLinkTrainingTimeout]

@[simp] theorem execD2dKeepaliveSend_fixed (t byHub) (s : State) : fixedOf (execD2dKeepaliveSend t byHub s) = some s.fixed := by
  simp [execD2dKeepaliveSend]

@[simp] theorem State.finishWrites_fixed (s : State) (p a) : (s.finishWrites p a).fixed = s.fixed := by simp [State.finishWrites]

@[simp] theorem execD2dLinkLostTile_fixed (t) (s : State) : fixedOf (execD2dLinkLostTile t s) = some s.fixed := by
  simp [execD2dLinkLostTile]

@[simp] theorem State.linkLostHub_fixed (s : State) (t) : (s.linkLostHub t).fixed = s.fixed := by simp [State.linkLostHub]
@[simp] theorem execD2dLinkLostHub_fixed (t) (s : State) : fixedOf (execD2dLinkLostHub t s) = some s.fixed := by simp [execD2dLinkLostHub]

/-! #### Machine/Chains -/

@[simp] theorem State.freeCtx_fixed (s : State) (q c) : (s.freeCtx q c).fixed = s.fixed := by rfl

@[simp] theorem State.endCommand_fixed (s : State) (q c status size value) : (s.endCommand q c status size value).fixed = s.fixed := by
  simp [State.endCommand]

@[simp] theorem State.commitCmd_fixed (s : State) (ring slot) : (s.commitCmd ring slot).fixed = s.fixed := by simp [State.commitCmd]

@[simp] theorem State.onCommand_fixed (s : State) (q c op) (f : Ctx → State) (hf : ∀ x, (f x).fixed = s.fixed) :
    (s.onCommand q c op f).fixed = s.fixed := by
  unfold State.onCommand
  dsimp only
  repeat' split
  all_goals simp [hf]

@[simp] theorem State.readSlots_fixed (s : State) (n) : (s.readSlots n).fixed = s.fixed := by unfold State.readSlots; split <;> simp

@[simp] theorem State.abtset_fixed (s : State) (ring idx) : (s.abtset ring idx).2.fixed = s.fixed := by
  unfold State.abtset
  repeat' split
  all_goals simp

/-! #### Machine/Spindles -/

@[simp] theorem State.brakePeriod_fixed (s : State) (p sum) : (s.brakePeriod p sum).fixed = s.fixed := by rfl

@[simp] theorem State.drivePeriod_fixed (s : State) (p shunt observer angle moved) :
    (s.drivePeriod p shunt observer angle moved).fixed = s.fixed := by rfl

@[simp] theorem execSpindleCurrentLoop_fixed (p shunt observer angle moved) (s : State) :
    fixedOf (execSpindleCurrentLoop p shunt observer angle moved s) = some s.fixed := by simp [execSpindleCurrentLoop]

@[simp] theorem State.tbSpeed_fixed (s : State) (p) : (s.tbSpeed p).fixed = s.fixed := by unfold State.tbSpeed; split <;> simp
@[simp] theorem State.checkRemoval_fixed (s : State) (p) : (s.checkRemoval p).fixed = s.fixed := by simp [State.checkRemoval]

@[simp] theorem State.spinSpeed_fixed (s : State) (p) : (s.spinSpeed p).fixed = s.fixed := by
  unfold State.spinSpeed
  dsimp only
  repeat' split
  all_goals simp

@[simp] theorem execSpindleSpeedLoop_fixed (p observer backward) (s : State) :
    fixedOf (execSpindleSpeedLoop p observer backward s) = some s.fixed := by simp [execSpindleSpeedLoop]

@[simp] theorem execSpeedInWindow_fixed (p) (s : State) : fixedOf (execSpeedInWindow p s) = some s.fixed := by simp [execSpeedInWindow]

@[simp] theorem execSpindleOverspeed_fixed (p) (s : State) : fixedOf (execSpindleOverspeed p s) = some s.fixed := by
  simp [execSpindleOverspeed]

@[simp] theorem execSpindleSpeedDeviation_fixed (p) (s : State) : fixedOf (execSpindleSpeedDeviation p s) = some s.fixed := by
  simp [execSpindleSpeedDeviation]

@[simp] theorem execWatchEnd_fixed (p speed backward amplitude angle) (s0 : State) :
    fixedOf (execWatchEnd p speed backward amplitude angle s0) = some s0.fixed := by simp [execWatchEnd]

@[simp] theorem execAlignEnd_fixed (p) (s : State) : fixedOf (execAlignEnd p s) = some s.fixed := by simp [execAlignEnd]
@[simp] theorem execForcedHandover_fixed (p) (s : State) : fixedOf (execForcedHandover p s) = some s.fixed := by simp [execForcedHandover]

@[simp] theorem execStartAttemptFailed_fixed (p) (s : State) : fixedOf (execStartAttemptFailed p s) = some s.fixed := by
  simp [execStartAttemptFailed]

@[simp] theorem execControlledStopBegin_fixed (p) (s : State) : fixedOf (execControlledStopBegin p s) = some s.fixed := by
  unfold execControlledStopBegin
  dsimp only
  repeat' split
  all_goals simp

@[simp] theorem State.forBus_fixed (s : State) (x) (f : State → PackId → State) (hf : ∀ s p, (f s p).fixed = s.fixed) :
    (s.forBus x f).fixed = s.fixed := State.foldl_fixed f hf _ s

@[simp] theorem execMotorBusSample_fixed (x code feedback) (s : State) : fixedOf (execMotorBusSample x code feedback s) = some s.fixed := by
  simp [execMotorBusSample]

@[simp] theorem State.chopperFault_fixed (s : State) (x) : (s.chopperFault x).fixed = s.fixed := by simp [State.chopperFault]

@[simp] theorem execChopperFeedbackTimeout_fixed (x) (s : State) : fixedOf (execChopperFeedbackTimeout x s) = some s.fixed := by
  simp [execChopperFeedbackTimeout]

@[simp] theorem execChopperFault_fixed (x) (s : State) : fixedOf (execChopperFault x s) = some s.fixed := by simp [execChopperFault]
@[simp] theorem execBusFreewheel_fixed (x) (s : State) : fixedOf (execBusFreewheel x s) = some s.fixed := by simp [execBusFreewheel]

@[simp] theorem execBusFreewheelRelease_fixed (x) (s : State) : fixedOf (execBusFreewheelRelease x s) = some s.fixed := by
  simp [execBusFreewheelRelease]

@[simp] theorem execBusUndervoltage_fixed (x) (s : State) : fixedOf (execBusUndervoltage x s) = some s.fixed := by
  simp [execBusUndervoltage]

@[simp] theorem execBusUndervoltageEnd_fixed (x) (s : State) : fixedOf (execBusUndervoltageEnd x s) = some s.fixed := by
  simp [execBusUndervoltageEnd]

@[simp] theorem State.powerStage_fixed (s : State) (p) : (s.powerStage p).fixed = s.fixed := by simp [State.powerStage]

@[simp] theorem execPowerStageFault_fixed (p) (s : State) : fixedOf (execPowerStageFault p s) = some s.fixed := by
  simp [execPowerStageFault]

/-! #### Machine/ClusterOps -/

@[simp] theorem State.parkAndStop_fixed (s : State) : s.parkAndStop.fixed = s.fixed := by simp [State.parkAndStop]
@[simp] theorem State.pendLee_fixed (s : State) (reduced cause) : (s.pendLee reduced cause).fixed = s.fixed := by simp [State.pendLee]
@[simp] theorem State.stopBackground_fixed (s : State) : s.stopBackground.fixed = s.fixed := by rfl
@[simp] theorem State.stopDevice_fixed (s : State) (cause) : (s.stopDevice cause).fixed = s.fixed := by simp [State.stopDevice]

@[simp] theorem State.arbiterFail_fixed (s : State) (k cause flags) : (s.arbiterFail k cause flags).fixed = s.fixed := by
  simp [State.arbiterFail]

@[simp] theorem State.deviceStop_fixed (s : State) : s.deviceStop.fixed = s.fixed := by simp [State.deviceStop]
@[simp] theorem State.activate_fixed (s : State) (c) : (s.activate c).fixed = s.fixed := by rfl
@[simp] theorem State.clusterOut_fixed (s : State) (c) : (s.clusterOut c).fixed = s.fixed := by simp [State.clusterOut]
@[simp] theorem State.clustersOff_fixed (s : State) : s.clustersOff.fixed = s.fixed := by rfl
@[simp] theorem State.releaseClusters_fixed (s : State) (boot) : (s.releaseClusters boot).fixed = s.fixed := by rfl
@[simp] theorem State.resetStandby_fixed (s : State) (c) : (s.resetStandby c).fixed = s.fixed := by simp [State.resetStandby]

/-! #### Machine/EventStore -/

@[simp] theorem State.saveCounters_fixed (s : State) : s.saveCounters.fixed = s.fixed := by simp [State.saveCounters]
@[simp] theorem State.flashWriteFails_fixed (s : State) : s.flashWriteFails.fixed = s.fixed := by simp [State.flashWriteFails]

@[simp] theorem execCounterSave_fixed (flashOk) (s : State) : fixedOf (execCounterSave flashOk s) = some s.fixed := by
  simp [execCounterSave]

@[simp] theorem execStagingFlush_fixed (flashOk) (s : State) : fixedOf (execStagingFlush flashOk s) = some s.fixed := by
  simp [execStagingFlush]

@[simp] theorem execStagingHoldExpiry_fixed (flashOk) (s : State) : fixedOf (execStagingHoldExpiry flashOk s) = some s.fixed := by
  simp [execStagingHoldExpiry]

@[simp] theorem State.putReader_fixed (s : State) (r) : (s.putReader r).fixed = s.fixed := by rfl
@[simp] theorem State.windowRead_fixed (s : State) (who cap) : (s.windowRead who cap).2.fixed = s.fixed := by simp [State.windowRead]
@[simp] theorem State.restage_fixed (s : State) : s.restage.fixed = s.fixed := by rfl
@[simp] theorem State.bootScan_fixed (s : State) : s.bootScan.fixed = s.fixed := by simp [State.bootScan]

/-! #### Machine/Buffers -/

@[simp] theorem State.raiseAll_fixed (s : State) (l) : (s.raiseAll l).fixed = s.fixed := by simp [State.raiseAll]
@[simp] theorem State.diagRead_fixed (s : State) (addr len) : (s.diagRead addr len).2.fixed = s.fixed := by simp [State.diagRead]

@[simp] theorem execBufferRead_fixed (r own addr len x e) (s : State) : fixedOf (execBufferRead r own addr len x e s) = some s.fixed := by
  simp [execBufferRead]

@[simp] theorem State.coreWrite_fixed (s : State) (r own x e addr l n) : (s.coreWrite r own x e addr l n).1.fixed = s.fixed := by
  induction n generalizing s addr l with
  | zero => rfl
  | succ n ih =>
    unfold State.coreWrite
    dsimp only
    repeat' split
    all_goals simp [ih]

@[simp] theorem State.coreStore_fixed (s : State) (c own addr data x e) : (s.coreStore c own addr data x e).fixed = s.fixed := by
  simp [State.coreStore]

@[simp] theorem State.failWrites_fixed (s : State) (x) : (s.failWrites x).1.fixed = s.fixed :=
  State.foldl_fst_fixed _ (fun _ _ => by simp) _ (s, [])

@[simp] theorem execBufferWrite_fixed (r own addr data x e) (s : State) :
    fixedOf (execBufferWrite r own addr data x e s) = some s.fixed := by
  unfold execBufferWrite
  dsimp only
  repeat' split
  all_goals simp

@[simp] theorem execCoreNarrowWrite_fixed (c own addr data x e) (s : State) :
    fixedOf (execCoreNarrowWrite c own addr data x e s) = some s.fixed := by simp [execCoreNarrowWrite]

@[simp] theorem State.reinitCommand_keeps (s : State) (c) : Keeps s (s.reinitCommand c) := by simp [State.reinitCommand]

@[simp] theorem okOr_fixed (s : State) (e) (h : Keeps s e) : (okOr s e).fixed = s.fixed := by
  cases e with
  | ok t => exact h t rfl
  | error e => rfl

@[simp] theorem execChannelReinit_fixed (c) (s : State) : fixedOf (execChannelReinit c s) = some s.fixed := by simp [execChannelReinit]

@[simp] theorem execChannelReinitDone_fixed (c) (s : State) : fixedOf (execChannelReinitDone c s) = some s.fixed := by
  simp [execChannelReinitDone]

@[simp] theorem State.scrubPeriod_fixed (s : State) : s.scrubPeriod.fixed = s.fixed := by simp [State.scrubPeriod]

/-- The check-byte arithmetic of `classify` is put behind a name: the kernel need not compute it. -/
@[simp] theorem execBufferScrub_fixed (g x) (s : State) : fixedOf (execBufferScrub g x s) = some s.fixed := by
  rw [execBufferScrub, ← State.scrubPeriod_fixed s]
  obtain ⟨classify, hc⟩ : ∃ f, f = State.classify := ⟨_, rfl⟩
  obtain ⟨t, ht⟩ : ∃ t, t = s.scrubPeriod := ⟨_, rfl⟩
  rw [← hc, ← ht]
  dsimp only
  repeat' split
  all_goals simp

@[simp] theorem execGddr7Refresh_fixed (c hot fastest) (s : State) : fixedOf (execGddr7Refresh c hot fastest s) = some s.fixed := by
  simp [execGddr7Refresh]

@[simp] theorem State.rangeCommand_keeps (s : State) (code base length mask) : Keeps s (s.rangeCommand code base length mask) := by
  simp [State.rangeCommand]

@[simp] theorem State.rangeBy_keeps (s : State) (code own) : Keeps s (s.rangeBy code own) := by
  unfold State.rangeBy
  repeat' split
  all_goals simp

@[simp] theorem execRangeClean_fixed (own) (s : State) : fixedOf (execRangeClean own s) = some s.fixed := by simp [execRangeClean]

@[simp] theorem execRangeInvalidate_fixed (own) (s : State) : fixedOf (execRangeInvalidate own s) = some s.fixed := by
  simp [execRangeInvalidate]

@[simp] theorem execRangeCleanInvalidate_fixed (own) (s : State) : fixedOf (execRangeCleanInvalidate own s) = some s.fixed := by
  simp [execRangeCleanInvalidate]

@[simp] theorem execRangeFill_fixed (own) (s : State) : fixedOf (execRangeFill own s) = some s.fixed := by simp [execRangeFill]
@[simp] theorem State.cleanLines_fixed (s : State) (p) : (s.cleanLines p).fixed = s.fixed := by simp [State.cleanLines]
@[simp] theorem State.discardLines_fixed (s : State) (p) : (s.discardLines p).fixed = s.fixed := by rfl

@[simp] theorem State.fillLine_fixed (s : State) (mask l) : (s.fillLine mask l).1.fixed = s.fixed := by
  unfold State.fillLine
  split
  · rfl
  split
  · simp
  next h =>
    rw [State.foldl_fst_fixed, State.allocate_fixed h]
    intro t i
    dsimp only
    split <;> simp

@[simp] theorem State.rangeEffect_fixed (s : State) (o) : (s.rangeEffect o).1.fixed = s.fixed := by
  unfold State.rangeEffect
  split
  case h_4 => exact State.foldl_fst_fixed _ (fun _ _ => by simp) _ (s, [])
  all_goals simp

@[simp] theorem execRangeOpDone_fixed (s : State) : fixedOf (execRangeOpDone s) = some s.fixed := by unfold execRangeOpDone; split <;> simp
@[simp] theorem State.writeEnable_keeps (s : State) (v) : Keeps s (s.writeEnable v) := by simp [State.writeEnable]
@[simp] theorem execCacheDisable_fixed (s : State) : fixedOf (execCacheDisable s) = some s.fixed := by simp [execCacheDisable]
@[simp] theorem execCacheEnable_fixed (s : State) : fixedOf (execCacheEnable s) = some s.fixed := by simp [execCacheEnable]
@[simp] theorem State.writeDiagnostic_keeps (s : State) (v) : Keeps s (s.writeDiagnostic v) := by simp [State.writeDiagnostic]

@[simp] theorem execDiagnosticModeSet_fixed (v) (s : State) : fixedOf (execDiagnosticModeSet v s) = some s.fixed := by
  simp [execDiagnosticModeSet]

/-! #### Machine/MoverQueue -/

@[simp] theorem State.updMover_fixed (s : State) (c f) : (s.updMover c f).fixed = s.fixed := by rfl
@[simp] theorem State.wantDomain_fixed (s : State) (d) : (s.wantDomain d).fixed = s.fixed := by rfl
@[simp] theorem State.submitMover_fixed (s : State) (desc token) : (s.submitMover desc token).fixed = s.fixed := by simp [State.submitMover]
@[simp] theorem State.placeChecks_fixed (s : State) : s.placeChecks.fixed = s.fixed := by rfl

@[simp] theorem execMoverDescriptorSubmit_fixed (desc) (s : State) : fixedOf (execMoverDescriptorSubmit desc s) = some s.fixed := by
  simp [execMoverDescriptorSubmit]

/-! #### Machine/Packs -/

@[simp] theorem State.startLog_fixed (s : State) (p) : (s.startLog p).fixed = s.fixed := by simp [State.startLog]
@[simp] theorem State.readLog_fixed (s : State) (p l) : (s.readLog p l).fixed = s.fixed := by simp [State.readLog]
@[simp] theorem State.presAssert_fixed (s : State) (p) : (s.presAssert p).fixed = s.fixed := by simp [State.presAssert]
@[simp] theorem State.presDeassert_fixed (s : State) (p) : (s.presDeassert p).fixed = s.fixed := by simp [State.presDeassert]
@[simp] theorem execPackPresAssert_fixed (p) (s : State) : fixedOf (execPackPresAssert p s) = some s.fixed := by simp [execPackPresAssert]

@[simp] theorem execPackPresDeassert_fixed (p) (s : State) : fixedOf (execPackPresDeassert p s) = some s.fixed := by
  simp [execPackPresDeassert]

@[simp] theorem State.takeMemory_fixed (s : State) (p m) : (s.takeMemory p m).fixed = s.fixed := by simp [State.takeMemory]

@[simp] theorem execPackSettleDone_fixed (p m) (s : State) : fixedOf (execPackSettleDone p m s) = some s.fixed := by
  unfold execPackSettleDone
  dsimp only
  repeat' split
  all_goals simp

@[simp] theorem execI2cRetry_fixed (p dev) (s : State) : fixedOf (execI2cRetry p dev s) = some s.fixed := by simp [execI2cRetry]

@[simp] theorem execLifeRecordWrite_fixed (p readBack) (s : State) : fixedOf (execLifeRecordWrite p readBack s) = some s.fixed := by
  simp [execLifeRecordWrite]

@[simp] theorem State.packCommand_keeps (s : State) (p v) : Keeps s (s.packCommand p v) := by simp [State.packCommand]

@[simp] theorem State.tryPackCommand_fixed (s : State) (p v) : (s.tryPackCommand p v).fixed = s.fixed := by
  unfold State.tryPackCommand
  split
  next h => exact State.packCommand_keeps s p v _ h
  · rfl

@[simp] theorem execPackCmdDrain_fixed (p) (s : State) : fixedOf (execPackCmdDrain p s) = some s.fixed := by simp [execPackCmdDrain]

@[simp] theorem execPackCmdCancelDrain_fixed (p) (s : State) : fixedOf (execPackCmdCancelDrain p s) = some s.fixed := by
  simp [execPackCmdCancelDrain]

@[simp] theorem execPackCmdRetire_fixed (p) (s : State) : fixedOf (execPackCmdRetire p s) = some s.fixed := by simp [execPackCmdRetire]

@[simp] theorem execPackCmdPrepareRemoval_fixed (p) (s : State) : fixedOf (execPackCmdPrepareRemoval p s) = some s.fixed := by
  simp [execPackCmdPrepareRemoval]

@[simp] theorem execSpinupRequest_fixed (p) (s : State) : fixedOf (execSpinupRequest p s) = some s.fixed := by simp [execSpinupRequest]
@[simp] theorem execSpinupTimeout_fixed (p) (s : State) : fixedOf (execSpinupTimeout p s) = some s.fixed := by simp [execSpinupTimeout]
@[simp] theorem State.setHold_fixed (s : State) (p) : (s.setHold p).fixed = s.fixed := by simp [State.setHold]

@[simp] theorem State.actOnSensors_fixed (s : State) (p i temp helium) : (s.actOnSensors p i temp helium).fixed = s.fixed := by
  unfold State.actOnSensors
  cases temp <;> cases helium <;> simp

@[simp] theorem execPackSensorPoll_fixed (p temp helium) (s : State) : fixedOf (execPackSensorPoll p temp helium s) = some s.fixed := by
  unfold execPackSensorPoll
  dsimp only
  repeat' split
  all_goals simp

@[simp] theorem execPackLogWrite_fixed (p readBack) (s : State) : fixedOf (execPackLogWrite p readBack s) = some s.fixed := by
  unfold execPackLogWrite
  dsimp only
  repeat' split
  all_goals simp

@[simp] theorem execPackLogRepeatRewrite_fixed (p) (s : State) : fixedOf (execPackLogRepeatRewrite p s) = some s.fixed := by
  unfold execPackLogRepeatRewrite
  dsimp only
  repeat' split
  all_goals simp

/-! #### Machine/PowerOps -/

@[simp] theorem State.updRail_fixed (s : State) (r f) : (s.updRail r f).fixed = s.fixed := by rfl
@[simp] theorem State.enableRail_fixed (s : State) (r) : (s.enableRail r).fixed = s.fixed := by rfl
@[simp] theorem State.disableRail_fixed (s : State) (r) : (s.disableRail r).fixed = s.fixed := by simp [State.disableRail]
@[simp] theorem State.domainsOff_fixed (s : State) : s.domainsOff.fixed = s.fixed := by rfl

@[simp] theorem State.railsOff_fixed (s : State) : s.railsOff.fixed = s.fixed := by
  unfold State.railsOff
  rw [State.domainsOff_fixed, State.foldl_fixed _ State.disableRail_fixed]

@[simp] theorem State.refreshDomains_fixed (s : State) : s.refreshDomains.fixed = s.fixed := by simp [State.refreshDomains]

@[simp] theorem State.packsToLee_fixed (s : State) : s.packsToLee.fixed = s.fixed :=
  State.foldl_fixed _ (fun s p => by split <;> simp) _ s

@[simp] theorem State.widthDue_fixed (s : State) (key) : (s.widthDue key).fixed = s.fixed := by simp [State.widthDue]
@[simp] theorem State.applyMask_fixed (s : State) (mask) : (s.applyMask mask).fixed = s.fixed := by simp [State.applyMask]
@[simp] theorem State.leaveBench_fixed (s : State) : s.leaveBench.fixed = s.fixed := by simp [State.leaveBench]
@[simp] theorem State.leaveState_fixed (s : State) : s.leaveState.fixed = s.fixed := by unfold State.leaveState; split <;> simp
@[simp] theorem State.writeLives_fixed (s : State) : s.writeLives.fixed = s.fixed := by simp [State.writeLives]
@[simp] theorem State.enterLee_fixed (s : State) (reduced cause) : (s.enterLee reduced cause).fixed = s.fixed := by simp [State.enterLee]
@[simp] theorem State.enterState_fixed (s : State) (d) : (s.enterState d).fixed = s.fixed := by simp [State.enterState]
@[simp] theorem State.hubAtStart_fixed (s : State) : s.hubAtStart.fixed = s.fixed := by rfl
@[simp] theorem State.chipReset_fixed (s : State) : s.chipReset.fixed = s.fixed := by simp [State.chipReset]

/-! #### Machine/Hosts -/

@[simp] theorem State.freshQp_fixed (s : State) : s.freshQp.2.fixed = s.fixed := by rfl

@[simp] theorem execCmReq_fixed (r) (s : State) : fixedOf (execCmReq r s) = some s.fixed := by
  unfold execCmReq
  dsimp only
  repeat' split
  all_goals simp

@[simp] theorem execCmRtu_fixed (conn) (s : State) : fixedOf (execCmRtu conn s) = some s.fixed := by unfold execCmRtu; split <;> simp
@[simp] theorem execCmDreq_fixed (conn) (s : State) : fixedOf (execCmDreq conn s) = some s.fixed := by unfold execCmDreq; split <;> simp
@[simp] theorem execCmDrep_fixed (_conn) (s : State) : fixedOf (execCmDrep _conn s) = some s.fixed := by rfl

@[simp] theorem execInvalidRequest_fixed (conn) (s : State) : fixedOf (execInvalidRequest conn s) = some s.fixed := by
  simp [execInvalidRequest]

@[simp] theorem execNakReceived_fixed (conn) (s : State) : fixedOf (execNakReceived conn s) = some s.fixed := by simp [execNakReceived]
@[simp] theorem State.ignoreDoorbell_fixed (s : State) : s.ignoreDoorbell.fixed = s.fixed := by rfl
@[simp] theorem State.ringDoorbell_fixed (s : State) (r word) : (s.ringDoorbell r word).fixed = s.fixed := by simp [State.ringDoorbell]

@[simp] theorem State.doorbellWord_fixed (s : State) (conn loc word) : (s.doorbellWord conn loc word).fixed = s.fixed := by
  unfold State.doorbellWord
  split <;> simp

@[simp] theorem State.doorbellWords_fixed (s : State) (conn loc l) : (s.doorbellWords conn loc l).fixed = s.fixed := by
  induction l generalizing s loc with
  | nil => rfl
  | cons w l ih => simp [State.doorbellWords, ih]

@[simp] theorem execDoorbell_fixed (conn key offset data) (s : State) : fixedOf (execDoorbell conn key offset data s) = some s.fixed := by
  unfold execDoorbell
  split <;> simp

@[simp] theorem execChainStart_fixed (s : State) : fixedOf (execChainStart s) = some s.fixed := by unfold execChainStart; split <;> simp

@[simp] theorem execDescriptorReadResponse_fixed (ring data) (s : State) :
    fixedOf (execDescriptorReadResponse ring data s) = some s.fixed := by unfold execDescriptorReadResponse; split <;> simp

@[simp] theorem execHeadPublish_fixed (ring) (s : State) : fixedOf (execHeadPublish ring s) = some s.fixed := by simp [execHeadPublish]

@[simp] theorem execRnrNak_fixed (ring) (s : State) : fixedOf (execRnrNak ring s) = some s.fixed := by
  unfold execRnrNak
  repeat' split
  all_goals simp

@[simp] theorem execAckTimeout_fixed (conn made) (s : State) : fixedOf (execAckTimeout conn made s) = some s.fixed := by
  unfold execAckTimeout
  split <;> simp

@[simp] theorem execCeMarkedPacket_fixed (conn) (s : State) : fixedOf (execCeMarkedPacket conn s) = some s.fixed := by
  unfold execCeMarkedPacket
  split <;> simp

@[simp] theorem execCnpReceived_fixed (conn) (s : State) : fixedOf (execCnpReceived conn s) = some s.fixed := by rfl
@[simp] theorem execDcqcnRateIncreaseTimer_fixed (conn) (s : State) : fixedOf (execDcqcnRateIncreaseTimer conn s) = some s.fixed := by rfl
@[simp] theorem execDcqcnByteCounter_fixed (conn) (s : State) : fixedOf (execDcqcnByteCounter conn s) = some s.fixed := by rfl

@[simp] theorem execPfcFrame_fixed (q sub prio pause) (s : State) : fixedOf (execPfcFrame q sub prio pause s) = some s.fixed := by
  simp [execPfcFrame]

@[simp] theorem execPauseFrame_fixed (s : State) : fixedOf (execPauseFrame s) = some s.fixed := by rfl

@[simp] theorem execPortLinkTraining_fixed (q up) (s : State) : fixedOf (execPortLinkTraining q up s) = some s.fixed := by
  simp [execPortLinkTraining]

@[simp] theorem execPortLinkDown_fixed (q sub) (s : State) : fixedOf (execPortLinkDown q sub s) = some s.fixed := by simp [execPortLinkDown]

/-! #### Machine/StoreOps -/

theorem State.slotOn_fixed {s : State} {i p a r} (h : s.slotOn i p a = some r) : r.2.fixed = s.fixed := by
  unfold State.slotOn at h
  dsimp only at h
  split at h
  · cases h
  split at h
  · cases h; simp
  split at h
  · cases h
  · obtain ⟨x, -, rfl⟩ := Option.map_eq_some_iff.mp h
    simp

theorem State.placeLeaf_fixed {s : State} {i held doubled spare not r} (h : s.placeLeaf i held doubled spare not = some r) :
    r.2.fixed = s.fixed := by
  unfold State.placeLeaf at h
  dsimp only at h
  split at h
  · cases h
  · obtain ⟨a, -, ha⟩ := List.exists_of_findSome?_eq_some h
    rw [State.slotOn_fixed ha]
    simp

theorem State.placeLeaves_fixed {s : State} {i n held r} (h : s.placeLeaves i n held = some r) : r.2.fixed = s.fixed := by
  induction n generalizing s held with
  | zero => cases h; rfl
  | succ n ih =>
    unfold State.placeLeaves at h
    dsimp only at h
    split at h
    · cases h
    next hl => rw [ih h, State.placeLeaf_fixed hl]

@[simp] theorem State.layerRequest_fixed (s : State) (p a back req) : (s.layerRequest p a back req).fixed = s.fixed := by
  unfold State.layerRequest
  split <;> simp

@[simp] theorem State.takeTag_fixed (s : State) : s.takeTag.2.fixed = s.fixed := by rfl
@[simp] theorem State.updStripe_fixed (s : State) (i addr f) : (s.updStripe i addr f).fixed = s.fixed := by rfl

@[simp] theorem State.issueLeaf_fixed (s : State) (i addr leaf l back) : (s.issueLeaf i addr leaf l back).fixed = s.fixed := by
  unfold State.issueLeaf
  split <;> simp

@[simp] theorem State.issueStripe_fixed (s : State) (i addr) : (s.issueStripe i addr).fixed = s.fixed := by
  unfold State.issueStripe
  split
  · rfl
  · exact State.foldl_fixed _ (fun s x => by split <;> simp) _ s

theorem State.moveLeaf_fixed {s : State} {i addr leaf spare back not t} (h : s.moveLeaf i addr leaf spare back not = some t) :
    t.fixed = s.fixed := by
  unfold State.moveLeaf at h
  dsimp only at h
  split at h
  · cases h
  · obtain ⟨y, hy, rfl⟩ := Option.map_eq_some_iff.mp h
    simpa using State.placeLeaf_fixed hy

@[simp] theorem State.moveLeaf_getD_fixed (s t : State) (i addr leaf spare back not) (ht : t.fixed = s.fixed) :
    ((s.moveLeaf i addr leaf spare back not).getD t).fixed = s.fixed := by
  cases h : s.moveLeaf i addr leaf spare back not with
  | none => exact ht
  | some u => exact State.moveLeaf_fixed h

@[simp] theorem State.takeGen_fixed (s : State) : s.takeGen.2.fixed = s.fixed := by rfl

theorem State.addrBlock_fixed {s : State} {i n r} (h : s.addrBlock i n = some r) : r.2.fixed = s.fixed := by
  obtain ⟨a, -, rfl⟩ := Option.map_eq_some_iff.mp h
  simp

theorem State.extentSlots_fixed {s : State} {taken n r} (h : s.extentSlots taken n = some r) : r.2.fixed = s.fixed := by
  induction n generalizing s taken r with
  | zero => cases h; rfl
  | succ n ih => grind [State.extentSlots, State.takeFree_fixed]

theorem State.indexRoom_fixed {s : State} {hash runs r} (h : s.indexRoom hash runs = .ok r) : r.2.2.fixed = s.fixed := by
  unfold State.indexRoom at h
  grind [State.extentSlots_fixed, State.takeFree_fixed]

/-- `placeLeaves` is put behind a name before the recursion is unfolded: the kernel need not run it. -/
@[simp] theorem State.formStripes_keeps (s : State) (i hash owner base l) : Keeps s (s.formStripes i hash owner base l) := by
  delta State.formStripes State.formStripes._f
  obtain ⟨place, hp⟩ : ∃ f, f = @State.placeLeaves := ⟨_, rfl⟩
  have hplace : ∀ {s i n held r}, place s i n held = some r → r.2.fixed = s.fixed := hp ▸ State.placeLeaves_fixed
  rw [← hp]
  induction l generalizing s base with
  | nil => exact (keeps_ok s s).mpr rfl
  | cons x l ih =>
    dsimp only
    split
    · simp
    next h =>
      intro t ht
      rw [ih _ _ t ht]
      simpa using hplace h

@[simp] theorem State.tryPlace_fixed (s : State) (i addr) : (s.tryPlace i addr).fixed = s.fixed := by
  unfold State.tryPlace
  split
  · rfl
  split
  · rfl
  split
  · rfl
  next hl => simpa using State.placeLeaves_fixed hl

@[simp] theorem State.sealPetit_fixed (s : State) (i) : (s.sealPetit i).fixed = s.fixed := by
  unfold State.sealPetit
  dsimp only
  repeat' split
  all_goals simp

theorem State.petitAppend_fixed {s : State} {i hash data durable r} (h : s.petitAppend i hash data durable = .ok r) :
    r.2.fixed = s.fixed := by
  unfold State.petitAppend at h
  extract_lets n x s1 opened at h
  have hs1 : s1.fixed = s.fixed := by
    unfold s1
    split <;> simp
  have hopened : ∀ t, opened = some t → t.fixed = s.fixed := by
    unfold opened
    split
    · rintro t ⟨⟩; exact hs1
    · intro t ht
      obtain ⟨y, hy, rfl⟩ := Option.map_eq_some_iff.mp ht
      simp [State.addrBlock_fixed hy, hs1]
  clear_value opened
  split at h
  · cases h
  next ho =>
    split at h
    · cases h
    · cases h
      simpa using hopened _ rfl

@[simp] theorem State.sendJob_fixed (s : State) (j l) : (s.sendJob j l).fixed = s.fixed := by simp [State.sendJob]

@[simp] theorem State.readLeaf_fixed (s : State) (i addr leaf who verify back bad) :
    (s.readLeaf i addr leaf who verify back bad).fixed = s.fixed := by
  unfold State.readLeaf
  dsimp only
  repeat' split
  all_goals simp

@[simp] theorem State.endJob_fixed (s : State) (j r) : (s.endJob j r).fixed = s.fixed := by simp [State.endJob]

@[simp] theorem State.retryJob_fixed (s : State) (j) : (s.retryJob j).fixed = s.fixed := by
  unfold State.retryJob
  dsimp only
  repeat' split
  all_goals simp

@[simp] theorem State.pollJob_fixed (s : State) (j) : (s.pollJob j).fixed = s.fixed := by
  unfold State.pollJob
  dsimp only
  repeat' split
  all_goals simp

@[simp] theorem State.pollJobs_fixed (s : State) : s.pollJobs.fixed = s.fixed := by simp [State.pollJobs]
@[simp] theorem State.gather_fixed (s : State) (i who addrs) : (s.gather i who addrs).1.fixed = s.fixed := by simp [State.gather]

@[simp] theorem State.fetchLeaf_fixed (s : State) (i addr leaf back) : (s.fetchLeaf i addr leaf back).1.fixed = s.fixed := by
  unfold State.fetchLeaf
  split <;> simp

theorem State.fetchLeaf_eq_fixed {s t : State} {i addr leaf back e} (h : s.fetchLeaf i addr leaf back = (t, e)) : t.fixed = s.fixed := by
  simpa [h] using s.fetchLeaf_fixed i addr leaf back

@[simp] theorem State.dropJobs_fixed (s : State) (p) : (s.dropJobs p).fixed = s.fixed := by rfl

@[simp] theorem State.countLost_fixed (s : State) (i addr) : (s.countLost i addr).fixed = s.fixed := by
  unfold State.countLost
  split <;> simp

@[simp] theorem State.outcomeAction_fixed (s : State) (i addr leaf outcome step) :
    (s.outcomeAction i addr leaf outcome step).fixed = s.fixed := by
  unfold State.outcomeAction
  extract_lets x
  split
  · rfl
  split
  · simp
  split
  · extract_lets s1
    have hs1 : s1.fixed = s.fixed := by
      unfold s1
      repeat' split
      all_goals simp
    clear_value s1
    split
    · rw [State.moveLeaf_getD_fixed _ _ _ _ _ _ _ _ rfl, hs1]
    · exact hs1
  · rfl

@[simp] theorem State.queueBodies_fixed (s : State) (l fin) : (s.queueBodies l fin).fixed = s.fixed := by rfl
@[simp] theorem State.queueChanges_fixed (s : State) : s.queueChanges.fixed = s.fixed := by simp [State.queueChanges]
@[simp] theorem State.killUnnamed_fixed (s : State) : s.killUnnamed.fixed = s.fixed := by simp [State.killUnnamed]
@[simp] theorem State.makeVisible_fixed (s : State) (c) : (s.makeVisible c).fixed = s.fixed := by simp [State.makeVisible]
@[simp] theorem State.releaseContext_fixed (s : State) (ring slot) : (s.releaseContext ring slot).fixed = s.fixed := by rfl

@[simp] theorem State.commitRecord_fixed (s : State) (r) : (s.commitRecord r).fixed = s.fixed := by
  unfold State.commitRecord
  repeat' split
  all_goals simp

@[simp] theorem State.commitJournal_fixed (s : State) (n) : (s.commitJournal n).fixed = s.fixed := by simp [State.commitJournal]
@[simp] theorem State.saveBands_fixed (s : State) : s.saveBands.fixed = s.fixed := by rfl
@[simp] theorem State.suspendCtx_fixed (s : State) (q c token) : (s.suspendCtx q c token).fixed = s.fixed := by simp [State.suspendCtx]

@[simp] theorem State.newToken_fixed (s : State) (q ring slot engine body) : (s.newToken q ring slot engine body).2.fixed = s.fixed := by
  rfl

@[simp] theorem State.takeLock_fixed (s : State) (hash ring slot) : (s.takeLock hash ring slot).2.fixed = s.fixed := by
  unfold State.takeLock
  split <;> simp

/-! #### Machine/Service -/

@[simp] theorem execLdl_fixed (e) (s : State) : fixedOf (execLdl e s) = some s.fixed := by unfold execLdl; split <;> simp
@[simp] theorem execStl_fixed (e) (s : State) : fixedOf (execStl e s) = some s.fixed := by simp [execStl]

@[simp] theorem State.takeEight_fixed (s : State) (n) : (s.takeEight n).2.fixed = s.fixed := by
  induction n generalizing s with
  | zero => rfl
  | succ n ih => simp [State.takeEight, ih]

@[simp] theorem execMemoryLoadComplete_fixed (q c x e) (s : State) : fixedOf (execMemoryLoadComplete q c x e s) = some s.fixed := by
  unfold execMemoryLoadComplete
  dsimp only
  repeat' split
  all_goals simp

@[simp] theorem State.endService_fixed (s : State) (q c status) : (s.endService q c status).fixed = s.fixed := by simp [State.endService]
@[simp] theorem State.tryEnd_fixed (s : State) (q c status) : (s.tryEnd q c status).fixed = s.fixed := by simp [State.tryEnd]
@[simp] theorem execEnd_fixed (e) (s : State) : fixedOf (execEnd e s) = some s.fixed := by unfold execEnd; split <;> simp
@[simp] theorem State.dispatch_fixed (s : State) (q c d) : (s.dispatch q c d).fixed = s.fixed := by simp [State.dispatch]
@[simp] theorem execDisp_fixed (e) (s : State) : fixedOf (execDisp e s) = some s.fixed := by unfold execDisp; split <;> simp
@[simp] theorem execSuspend_fixed (e) (s : State) : fixedOf (execSuspend e s) = some s.fixed := by unfold execSuspend; split <;> simp

@[simp] theorem execContextBlockAvailable_fixed (q c) (s : State) : fixedOf (execContextBlockAvailable q c s) = some s.fixed := by
  unfold execContextBlockAvailable
  repeat' split
  all_goals simp

@[simp] theorem execContextResume_fixed (ring slot) (s : State) : fixedOf (execContextResume ring slot s) = some s.fixed := by
  unfold execContextResume
  repeat' split
  all_goals simp

@[simp] theorem execCommit_fixed (e) (s : State) : fixedOf (execCommit e s) = some s.fixed := by
  unfold execCommit
  rw [fixedOf_next, State.issue_fixed]
  intro w s
  dsimp only
  repeat' split
  all_goals simp

@[simp] theorem execAbtset_fixed (e) (s : State) : fixedOf (execAbtset e s) = some s.fixed := by simp [execAbtset]
@[simp] theorem State.markToken_fixed (s : State) (id error) : (s.markToken id error).fixed = s.fixed := by rfl

@[simp] theorem State.engFormatter_fixed (s : State) (id body) : (s.engFormatter id body).fixed = s.fixed := by
  unfold State.engFormatter
  dsimp only
  repeat' split
  all_goals simp

@[simp] theorem State.engIssue_fixed (s : State) (q c w) : (s.engIssue q c w).fixed = s.fixed := by simp [State.engIssue]
@[simp] theorem execEng_fixed (e) (s : State) : fixedOf (execEng e s) = some s.fixed := by unfold execEng; split <;> simp

@[simp] theorem State.afterToken_fixed (s : State) (q) : (s.afterToken q).fixed = s.fixed := by
  unfold State.afterToken
  dsimp only
  rw [State.foldl_fixed]
  · repeat' split
    all_goals simp
  · refine fun s k => State.foldl_fixed _ (fun s c => ?_) _ s
    split <;> simp

@[simp] theorem State.completeToken_fixed (s : State) (id error) : (s.completeToken id error).fixed = s.fixed := by
  unfold State.completeToken
  split <;> simp

@[simp] theorem execTokenComplete_fixed (id error x reads) (s : State) : fixedOf (execTokenComplete id error x reads s) = some s.fixed := by
  unfold execTokenComplete
  split <;> simp

@[simp] theorem State.chainRead_fixed (s : State) (ring slot) : (s.chainRead ring slot).fixed = s.fixed := by simp [State.chainRead]

@[simp] theorem State.frameChain_fixed (s : State) (r q c len) : (s.frameChain r q c len).fixed = s.fixed := by
  unfold State.frameChain
  dsimp only
  repeat' split
  all_goals simp

@[simp] theorem execChainFrame_fixed (ring) (s : State) : fixedOf (execChainFrame ring s) = some s.fixed := by
  unfold execChainFrame
  repeat' split
  all_goals simp

@[simp] theorem execSafePointOverrun_fixed (q c) (s : State) : fixedOf (execSafePointOverrun q c s) = some s.fixed := by
  simp [execSafePointOverrun]

/-! #### Machine/Boot -/

theorem State.pickImage_fixed {s : State} {r} (h : s.pickImage = .ok r) : r.2.fixed = s.fixed := by
  unfold State.pickImage at h
  grind [State.mk_fixed]

@[simp] theorem State.loadLayers_keeps (s : State) : Keeps s (s.loadLayers) := by
  unfold State.loadLayers
  repeat' split
  all_goals simp

@[simp] theorem State.endStart_fixed (s : State) (code) : (s.endStart code).fixed = s.fixed := by simp [State.endStart]
@[simp] theorem State.attemptFails_fixed (s : State) (code) : (s.attemptFails code).fixed = s.fixed := by simp [State.attemptFails]

@[simp] theorem State.startBoot_fixed (s : State) (wake fromLee kept) : (s.startBoot wake fromLee kept).fixed = s.fixed := by
  simp [State.startBoot]

@[simp] theorem State.startCan_fixed (s : State) : s.startCan.fixed = s.fixed := by simp [State.startCan]
@[simp] theorem State.firstRail_fixed (s : State) : s.firstRail.fixed = s.fixed := by simp [State.firstRail]

@[simp] theorem execBootStart_fixed (factory nodeId fusesOk) (s : State) :
    fixedOf (execBootStart factory nodeId fusesOk s) = some s.fixed := by simp [execBootStart]

@[simp] theorem State.pgAccept_fixed (s : State) (r) : (s.pgAccept r).fixed = s.fixed := by simp [State.pgAccept]
@[simp] theorem execRailPgAccept_fixed (r) (s : State) : fixedOf (execRailPgAccept r s) = some s.fixed := by simp [execRailPgAccept]
@[simp] theorem execRailEnDelay_fixed (r) (s : State) : fixedOf (execRailEnDelay r s) = some s.fixed := by simp [execRailEnDelay]
@[simp] theorem execRailPgTimeout_fixed (r) (s : State) : fixedOf (execRailPgTimeout r s) = some s.fixed := by simp [execRailPgTimeout]
@[simp] theorem execStartRetry_fixed (s : State) : fixedOf (execStartRetry s) = some s.fixed := by simp [execStartRetry]

@[simp] theorem execReferenceMeasurementEnd_fixed (ok100 ok156) (s : State) :
    fixedOf (execReferenceMeasurementEnd ok100 ok156 s) = some s.fixed := by simp [execReferenceMeasurementEnd]

@[simp] theorem execPllLockTimeout_fixed (s : State) : fixedOf (execPllLockTimeout s) = some s.fixed := by simp [execPllLockTimeout]
@[simp] theorem execBufferFillDone_fixed (s : State) : fixedOf (execBufferFillDone s) = some s.fixed := by simp [execBufferFillDone]
@[simp] theorem State.noteCheckers_fixed (s : State) (bad) : (s.noteCheckers bad).fixed = s.fixed := by rfl
@[simp] theorem State.bootDone_fixed (s : State) (x) : (s.bootDone x).fixed = s.fixed := by simp [State.bootDone]

@[simp] theorem execBootEnd_fixed (r) (s : State) : fixedOf (execBootEnd r s) = some s.fixed := by
  unfold execBootEnd
  dsimp only
  repeat' split
  all_goals simp
  next hp _ _ hl _ => simpa [State.pickImage_fixed hp] using State.loadLayers_keeps _ _ hl

@[simp] theorem State.failUnits_fixed (s : State) (r) : (s.failUnits r).fixed = s.fixed := by simp [State.failUnits]
@[simp] theorem execSelftestDone_fixed (r) (s : State) : fixedOf (execSelftestDone r s) = some s.fixed := by simp [execSelftestDone]

/-! #### Machine/Clusters -/

@[simp] theorem State.beat_fixed (s : State) (c seen) : (s.beat c seen).fixed = s.fixed := by unfold State.beat; split <;> simp
@[simp] theorem State.viewMirror_fixed (s : State) (v) : (s.viewMirror v).fixed = s.fixed := by rfl
@[simp] theorem State.raiseCause_fixed (s : State) (c why flags) : (s.raiseCause c why flags).fixed = s.fixed := by simp [State.raiseCause]
@[simp] theorem State.leaveActive_fixed (s : State) (c why) : (s.leaveActive c why).fixed = s.fixed := by simp [State.leaveActive]
@[simp] theorem State.checkStandby_fixed (s : State) (b) : (s.checkStandby b).fixed = s.fixed := by simp [State.checkStandby]

@[simp] theorem execArbiterCheck_fixed (v) (s : State) : fixedOf (execArbiterCheck v s) = some s.fixed := by
  unfold execArbiterCheck
  dsimp only
  repeat' split
  all_goals simp

@[simp] theorem execClusterSelfTestDone_fixed (c pass) (s : State) : fixedOf (execClusterSelfTestDone c pass s) = some s.fixed := by
  simp [execClusterSelfTestDone]

@[simp] theorem execClusterSyncDone_fixed (c) (s : State) : fixedOf (execClusterSyncDone c s) = some s.fixed := by
  simp [execClusterSyncDone]

@[simp] theorem State.readmit_keeps (s : State) (v) : Keeps s (s.readmit v) := by simp [State.readmit]
@[simp] theorem execReadmitCluster_fixed (c) (s : State) : fixedOf (execReadmitCluster c s) = some s.fixed := by simp [execReadmitCluster]
@[simp] theorem State.releaseTokens_fixed (s : State) (all) : (s.releaseTokens all).fixed = s.fixed := by simp [State.releaseTokens]
@[simp] theorem State.releaseHeld_fixed (s : State) (all) : (s.releaseHeld all).fixed = s.fixed := by simp [State.releaseHeld]
@[simp] theorem execMirrorAck_fixed (n) (s : State) : fixedOf (execMirrorAck n s) = some s.fixed := by simp [execMirrorAck]
@[simp] theorem State.roleSwap_fixed (s : State) (pass) : (s.roleSwap pass).fixed = s.fixed := by unfold State.roleSwap; split <;> simp
@[simp] theorem execRoleSwap_fixed (pass) (s : State) : fixedOf (execRoleSwap pass s) = some s.fixed := by simp [execRoleSwap]
@[simp] theorem State.swapNow_keeps (s : State) (v pass) : Keeps s (s.swapNow v pass) := by simp [State.swapNow]
@[simp] theorem execRoleSwapNow_fixed (pass) (s : State) : fixedOf (execRoleSwapNow pass s) = some s.fixed := by simp [execRoleSwapNow]
@[simp] theorem State.settleOld_fixed (s : State) (c) : (s.settleOld c).fixed = s.fixed := by simp [State.settleOld]
@[simp] theorem State.releaseHub_fixed (s : State) (f) : (s.releaseHub f).fixed = s.fixed := by simp [State.releaseHub]

@[simp] theorem execArbiterLockstepMismatch_fixed (s : State) : fixedOf (execArbiterLockstepMismatch s) = some s.fixed := by
  simp [execArbiterLockstepMismatch]

@[simp] theorem execArbiterWatchdogExpiry_fixed (s : State) : fixedOf (execArbiterWatchdogExpiry s) = some s.fixed := by
  simp [execArbiterWatchdogExpiry]

@[simp] theorem State.injectionToken_keeps (s : State) (l) : Keeps s (s.injectionToken l) := by simp [State.injectionToken]

@[simp] theorem execInjectionTokenWrite_fixed (token) (s : State) : fixedOf (execInjectionTokenWrite token s) = some s.fixed := by
  simp [execInjectionTokenWrite]

@[simp] theorem State.injectionArm_keeps (s : State) (v) : Keeps s (s.injectionArm v) := by simp [State.injectionArm]
@[simp] theorem execInjectionArm_fixed (arm) (s : State) : fixedOf (execInjectionArm arm s) = some s.fixed := by simp [execInjectionArm]

@[simp] theorem execInjectionPeriodic_fixed (s : State) : fixedOf (execInjectionPeriodic s) = some s.fixed := by
  simp [execInjectionPeriodic]

/-! #### Machine/Recovery -/

@[simp] theorem State.clearSuspect_fixed (s : State) (p addr) : (s.clearSuspect p addr).fixed = s.fixed := by simp [State.clearSuspect]
@[simp] theorem State.suspect_fixed (s : State) (p addr) : (s.suspect p addr).fixed = s.fixed := by unfold State.suspect; split <;> simp
@[simp] theorem State.endSector_fixed (s : State) (p a h e) : (s.endSector p a h e).fixed = s.fixed := by simp [State.endSector]

@[simp] theorem State.queueStepSix_fixed (s : State) (p a h addr) : (s.queueStepSix p a h addr).fixed = s.fixed := by
  simp [State.queueStepSix]

@[simp] theorem State.putLadder_fixed (s : State) (p a x) : (s.putLadder p a x).fixed = s.fixed := by rfl
@[simp] theorem State.dropLadder_fixed (s : State) (p a x) : (s.dropLadder p a x).fixed = s.fixed := by rfl
@[simp] theorem State.toLadder_fixed (s : State) (p a h x) : (s.toLadder p a h x).fixed = s.fixed := by simp [State.toLadder]

@[simp] theorem State.unrecovered_fixed (s : State) (p a x e six) : (s.unrecovered p a x e six).fixed = s.fixed := by
  simp [State.unrecovered]

@[simp] theorem State.ladderOn_fixed (s : State) (p a x0 e) : (s.ladderOn p a x0 e).fixed = s.fixed := by
  unfold State.ladderOn
  dsimp only
  repeat' split
  all_goals simp

/-! #### Machine/Lanes -/

@[simp] theorem execLaneActivate_fixed (p a h) (s : State) : fixedOf (execLaneActivate p a h s) = some s.fixed := by simp [execLaneActivate]

@[simp] theorem execLaneGatingDelayExpiry_fixed (p a h) (s : State) : fixedOf (execLaneGatingDelayExpiry p a h s) = some s.fixed := by
  simp [execLaneGatingDelayExpiry]

@[simp] theorem State.sitOutRest_fixed (s : State) (p a h) : (s.sitOutRest p a h).fixed = s.fixed := by simp [State.sitOutRest]
@[simp] theorem State.gateConflict_fixed (s : State) (p a h) : (s.gateConflict p a h).fixed = s.fixed := by simp [State.gateConflict]

@[simp] theorem execServoWindowOpen_fixed (p a h) (s : State) : fixedOf (execServoWindowOpen p a h s) = some s.fixed := by
  simp [execServoWindowOpen]

@[simp] theorem State.skipListed_fixed (s : State) (p a h write n) : (s.skipListed p a h write n).fixed = s.fixed := by
  induction n generalizing s with
  | zero => rfl
  | succ n ih =>
    unfold State.skipListed
    split <;> simp [ih]

@[simp] theorem State.atNext_fixed (s : State) (p a h write) : (s.atNext p a h write).fixed = s.fixed := by simp [State.atNext]

@[simp] theorem State.skippedOut_fixed (s s0 : State) (p a h write) (hs : s.fixed = s0.fixed) :
    (s.skippedOut s0 p a h write).fixed = s0.fixed := by
  unfold State.skippedOut
  split <;> simp [hs]

@[simp] theorem State.openLadder_fixed (s : State) (p a h) : (s.openLadder p a h).fixed = s.fixed := by
  unfold State.openLadder
  dsimp only
  repeat' split
  all_goals simp

/-- The state at the lane's next sector and the gate sought are put behind names: the kernel need not compute them. -/
@[simp] theorem execReadGateOpen_fixed (p a h) (s0 : State) : fixedOf (execReadGateOpen p a h s0) = some s0.fixed := by
  rw [execReadGateOpen, fixedOf_next]
  obtain ⟨t, ht⟩ : ∃ t, t = s0.atNext p a h false := ⟨_, rfl⟩
  obtain ⟨due, hd⟩ : ∃ f, f = State.dueGate := ⟨_, rfl⟩
  have hs : t.fixed = s0.fixed := by simp [ht]
  rw [← ht, ← hd]
  dsimp only
  repeat' split
  all_goals simp [hs]

@[simp] theorem execSyncWindowDecision_fixed (p a h bits) (s : State) : fixedOf (execSyncWindowDecision p a h bits s) = some s.fixed := by
  unfold execSyncWindowDecision
  dsimp only
  repeat' split
  all_goals simp

@[simp] theorem State.endCapture_fixed (s : State) (p a h samples) : (s.endCapture p a h samples).fixed = s.fixed := by
  simp [State.endCapture]

@[simp] theorem execReadGateClose_fixed (p a h cells) (s0 : State) : fixedOf (execReadGateClose p a h cells s0) = some s0.fixed := by
  unfold execReadGateClose
  dsimp only
  repeat' split
  all_goals simp

@[simp] theorem State.teachCache_fixed (s : State) (p a h r) : (s.teachCache p a h r).fixed = s.fixed := by
  unfold State.teachCache
  repeat' split
  all_goals simp

@[simp] theorem execFirstDecodeDone_fixed (p a h result snr) (s : State) :
    fixedOf (execFirstDecodeDone p a h result snr s) = some s.fixed := by
  unfold execFirstDecodeDone
  repeat' split
  all_goals simp

@[simp] theorem execStoredRecoveryDone_fixed (p a h found) (s : State) : fixedOf (execStoredRecoveryDone p a h found s) = some s.fixed := by
  unfold execStoredRecoveryDone
  dsimp only
  repeat' split
  all_goals simp

@[simp] theorem execLadderReadDone_fixed (p a h addr v) (s0 : State) : fixedOf (execLadderReadDone p a h addr v s0) = some s0.fixed := by
  unfold execLadderReadDone
  dsimp only
  repeat' split
  all_goals simp

@[simp] theorem execSectorDelivery_fixed (p a h) (s : State) : fixedOf (execSectorDelivery p a h s) = some s.fixed := by
  unfold execSectorDelivery
  split <;> simp

@[simp] theorem execWriteBufferDeadline_fixed (p a h data) (s0 : State) :
    fixedOf (execWriteBufferDeadline p a h data s0) = some s0.fixed := by
  unfold execWriteBufferDeadline
  dsimp only
  repeat' split
  all_goals simp

/-- The state at the lane's next sector and the gate sought are put behind names: the kernel need not compute them. -/
@[simp] theorem execWriteGateOpen_fixed (p a h) (s0 : State) : fixedOf (execWriteGateOpen p a h s0) = some s0.fixed := by
  rw [execWriteGateOpen, fixedOf_next]
  obtain ⟨t, ht⟩ : ∃ t, t = s0.atNext p a h true := ⟨_, rfl⟩
  obtain ⟨due, hd⟩ : ∃ f, f = State.dueGate := ⟨_, rfl⟩
  have hs : t.fixed = s0.fixed := by simp [ht]
  rw [← ht, ← hd]
  dsimp only
  repeat' split
  all_goals simp [hs]

@[simp] theorem State.endWriteRun_fixed (s : State) (p a h) : (s.endWriteRun p a h).fixed = s.fixed := by
  unfold State.endWriteRun
  split <;> simp

@[simp] theorem State.checkLife_fixed (s : State) (p) : (s.checkLife p).fixed = s.fixed := by simp [State.checkLife]

/-- The plan of the gate is put behind a name: the kernel need not compute it. -/
@[simp] theorem State.joinNext_fixed (s : State) (p a h closeAt last) : (s.joinNext p a h closeAt last).fixed = s.fixed := by
  unfold State.joinNext
  obtain ⟨plan, hp⟩ : ∃ f, f = State.gatePlan := ⟨_, rfl⟩
  rw [← hp]
  dsimp only
  repeat' split
  all_goals simp

@[simp] theorem State.writeCloses_fixed (s : State) (p a h) : (s.writeCloses p a h).fixed = s.fixed := by
  unfold State.writeCloses
  dsimp only
  repeat' split
  all_goals simp

@[simp] theorem execWriteGateClose_fixed (p a h) (s : State) : fixedOf (execWriteGateClose p a h s) = some s.fixed := by
  simp [execWriteGateClose]

@[simp] theorem execServoProtectStart_fixed (p a h) (s : State) : fixedOf (execServoProtectStart p a h s) = some s.fixed := by
  simp [execServoProtectStart]

@[simp] theorem State.loadZones_fixed (s : State) (p copy t l) : (s.loadZones p copy t l).fixed = s.fixed := by simp [State.loadZones]

@[simp] theorem execZoneTableReadDone_fixed (p copy0 copy1 lists) (s : State) :
    fixedOf (execZoneTableReadDone p copy0 copy1 lists s) = some s.fixed := by unfold execZoneTableReadDone; split <;> simp

/-! #### Machine/Power -/

@[simp] theorem execVddAonRemoved_fixed (s : State) : fixedOf (execVddAonRemoved s) = some s.fixed := by rfl

@[simp] theorem execVddAonApply_fixed (flash resetN crystal) (s : State) :
    fixedOf (execVddAonApply flash resetN crystal s) = some s.fixed := by simp [execVddAonApply]

@[simp] theorem execResetNAssert_fixed (s : State) : fixedOf (execResetNAssert s) = some s.fixed := by simp [execResetNAssert]
@[simp] theorem State.supplyGale_fixed (s : State) : s.supplyGale.fixed = s.fixed := by simp [State.supplyGale]
@[simp] theorem State.supplyLoss_fixed (s : State) (r) : (s.supplyLoss r).fixed = s.fixed := by simp [State.supplyLoss]
@[simp] theorem execLossOfSupply_fixed (r) (s : State) : fixedOf (execLossOfSupply r s) = some s.fixed := by simp [execLossOfSupply]

@[simp] theorem execLossOfSupplyRailOff_fixed (s : State) : fixedOf (execLossOfSupplyRailOff s) = some s.fixed := by
  simp [execLossOfSupplyRailOff]

@[simp] theorem State.readRail_fixed (s : State) (x) : (s.readRail x).fixed = s.fixed := by simp [State.readRail]
@[simp] theorem execPmbusPoll_fixed (samples) (s : State) : fixedOf (execPmbusPoll samples s) = some s.fixed := by simp [execPmbusPoll]
@[simp] theorem State.groupOn_fixed (s : State) (p a) : (s.groupOn p a).fixed = s.fixed := by rfl
@[simp] theorem execDomainSwitchOn_fixed (d) (s : State) : fixedOf (execDomainSwitchOn d s) = some s.fixed := by simp [execDomainSwitchOn]

@[simp] theorem execEngineSliceIdle_fixed (d) (s : State) : fixedOf (execEngineSliceIdle d s) = some s.fixed := by
  simp [execEngineSliceIdle]

@[simp] theorem execReference100mhzLost_fixed (s : State) : fixedOf (execReference100mhzLost s) = some s.fixed := by
  simp [execReference100mhzLost]

@[simp] theorem execReference156mhzLost_fixed (s : State) : fixedOf (execReference156mhzLost s) = some s.fixed := by
  simp [execReference156mhzLost]

@[simp] theorem State.tryPowerDown_fixed (s : State) : s.tryPowerDown.fixed = s.fixed := by simp [State.tryPowerDown]

@[simp] theorem execLeeEntryArmsUnloaded_fixed (s : State) : fixedOf (execLeeEntryArmsUnloaded s) = some s.fixed := by
  unfold execLeeEntryArmsUnloaded
  split <;> simp

@[simp] theorem execReducedFormRailOff_fixed (s : State) : fixedOf (execReducedFormRailOff s) = some s.fixed := by
  simp [execReducedFormRailOff]

@[simp] theorem State.beginZephyr_fixed (s : State) : s.beginZephyr.fixed = s.fixed := by simp [State.beginZephyr]

@[simp] theorem execZephyrDelayExpiry_fixed (s : State) : fixedOf (execZephyrDelayExpiry s) = some s.fixed := by
  simp [execZephyrDelayExpiry]

@[simp] theorem execZephyrEntryDone_fixed (energy) (s : State) : fixedOf (execZephyrEntryDone energy s) = some s.fixed := by
  simp [execZephyrEntryDone]

@[simp] theorem State.wakeRecord_fixed (s : State) (bit chatter temp) : (s.wakeRecord bit chatter temp).fixed = s.fixed := by
  simp [State.wakeRecord]

@[simp] theorem State.wakeEvent_fixed (s : State) (bit chatter temp) : (s.wakeEvent bit chatter temp).fixed = s.fixed := by
  simp [State.wakeEvent]

@[simp] theorem execWakeEvent_fixed (bit chatter) (s : State) : fixedOf (execWakeEvent bit chatter s) = some s.fixed := by
  simp [execWakeEvent]

@[simp] theorem execZephyrTick_fixed (x) (s : State) : fixedOf (execZephyrTick x s) = some s.fixed := by simp [execZephyrTick]

theorem State.commandEffect_fixed {s : State} {v t} (h : s.commandEffect v = some t) : t.fixed = s.fixed := by
  unfold State.commandEffect at h
  repeat' split at h
  all_goals simp only [reduceCtorEq, Option.some.injEq] at h
  all_goals rw [← h]
  all_goals simp

@[simp] theorem State.stateCommand_keeps (s : State) (v) : Keeps s (s.stateCommand v) := by
  unfold State.stateCommand
  cases h : s.commandEffect v with
  | none => simp
  | some t => simp [State.commandEffect_fixed h]

@[simp] theorem execStateCmdOpen_fixed (s : State) : fixedOf (execStateCmdOpen s) = some s.fixed := by simp [execStateCmdOpen]
@[simp] theorem execStateCmdQuiesce_fixed (s : State) : fixedOf (execStateCmdQuiesce s) = some s.fixed := by simp [execStateCmdQuiesce]
@[simp] theorem execStateCmdLee_fixed (s : State) : fixedOf (execStateCmdLee s) = some s.fixed := by simp [execStateCmdLee]
@[simp] theorem execStateCmdStart_fixed (s : State) : fixedOf (execStateCmdStart s) = some s.fixed := by simp [execStateCmdStart]

@[simp] theorem execStateCmdPowerDown_fixed (s : State) : fixedOf (execStateCmdPowerDown s) = some s.fixed := by
  simp [execStateCmdPowerDown]

@[simp] theorem execStateCmdZephyr_fixed (s : State) : fixedOf (execStateCmdZephyr s) = some s.fixed := by simp [execStateCmdZephyr]
@[simp] theorem execStateCmdAssemble_fixed (s : State) : fixedOf (execStateCmdAssemble s) = some s.fixed := by simp [execStateCmdAssemble]
@[simp] theorem State.closeFrom4_fixed (s : State) : s.closeFrom4.fixed = s.fixed := by simp [State.closeFrom4]

@[simp] theorem execOrderlyCloseStepDone_fixed (s : State) : fixedOf (execOrderlyCloseStepDone s) = some s.fixed := by
  unfold execOrderlyCloseStepDone
  repeat' split
  all_goals simp

@[simp] theorem execShutdownTimeout_fixed (s : State) : fixedOf (execShutdownTimeout s) = some s.fixed := by simp [execShutdownTimeout]

/-! #### Machine/FaultCmds -/

@[simp] theorem execFaultOccurrence_fixed (source) (s : State) : fixedOf (execFaultOccurrence source s) = some s.fixed := by
  simp [execFaultOccurrence]

@[simp] theorem State.clearSticky_keeps (s : State) (k) : Keeps s (s.clearSticky k) := by simp [State.clearSticky]
@[simp] theorem execClearSticky_fixed (source) (s : State) : fixedOf (execClearSticky source s) = some s.fixed := by simp [execClearSticky]
@[simp] theorem State.pinFault_fixed (s : State) (k) : (s.pinFault k).fixed = s.fixed := by unfold State.pinFault; split <;> simp
@[simp] theorem State.reactReset_fixed (s : State) : s.reactReset.fixed = s.fixed := by simp [State.reactReset]

@[simp] theorem execChipResetReaction_fixed (s : State) : fixedOf (execChipResetReaction s) = some s.fixed := by
  unfold execChipResetReaction
  split <;> simp

@[simp] theorem execChipResetParkWaitEnd_fixed (s : State) : fixedOf (execChipResetParkWaitEnd s) = some s.fixed := by
  simp [execChipResetParkWaitEnd]

@[simp] theorem State.unlockToken_keeps (s : State) (l) : Keeps s (s.unlockToken l) := by simp [State.unlockToken]

@[simp] theorem execTapUnlockToken_fixed (token) (s : State) : fixedOf (execTapUnlockToken token s) = some s.fixed := by
  simp [execTapUnlockToken]

@[simp] theorem State.lifeSecond_fixed (s : State) (p) : (s.lifeSecond p).fixed = s.fixed := by simp [State.lifeSecond]

@[simp] theorem execOperatingSecondsTick_fixed (s : State) : fixedOf (execOperatingSecondsTick s) = some s.fixed := by
  simp [execOperatingSecondsTick]

/-! #### Machine/Store -/

@[simp] theorem State.finish_fixed (s : State) (q c status size value) : (s.finish q c status size value).fixed = s.fixed := by
  simp [State.finish]

@[simp] theorem State.locked_fixed (s : State) (q c x) (f : Nat → State → State) (hf : ∀ h s, (f h s).fixed = s.fixed) :
    (s.locked q c x f).fixed = s.fixed := by
  unfold State.locked
  simp [hf]

/-- `cutStripes` is put behind a name: the kernel need not run it. -/
theorem State.formVersion_fixed {s : State} {i hash data durable r} (h : s.formVersion i hash data durable = .ok r) :
    r.2.2.2.fixed = s.fixed := by
  unfold State.formVersion at h
  obtain ⟨cut, hc⟩ : ∃ f, f = cutStripes := ⟨_, rfl⟩
  rw [← hc] at h
  dsimp only at h
  split at h
  · split at h
    · cases h
    next hroom => cases h; exact State.indexRoom_fixed hroom
  split at h
  · split at h
    · cases h
    next hroom =>
      split at h
      · cases h
      next hpetit => cases h; exact (State.petitAppend_fixed hpetit).trans (State.indexRoom_fixed hroom)
  split at h
  · cases h
  split at h
  · cases h
  next hroom =>
    split at h
    · cases h
    next hblock =>
      split at h
      · cases h
      next hform =>
        cases h
        calc _ = _ := State.formStripes_keeps _ _ _ _ _ _ _ hform
          _ = _ := State.addrBlock_fixed hblock
          _ = _ := State.indexRoom_fixed hroom

@[simp] theorem State.commitChange_fixed (s : State) (q c x change) : (s.commitChange q c x change).fixed = s.fixed := by
  unfold State.commitChange
  split <;> simp

@[simp] theorem State.commitVersion_fixed (s : State) (q c x i hash size slot ext w) :
    (s.commitVersion q c x i hash size slot ext w).fixed = s.fixed := by simp [State.commitVersion]

@[simp] theorem State.putObject_fixed (s : State) (q c x data hash) : (s.putObject q c x data hash).fixed = s.fixed := by
  unfold State.putObject
  dsimp only
  repeat' split
  all_goals simp
  next h => exact State.formVersion_fixed h

@[simp] theorem execPut_fixed (q c data) (s : State) : fixedOf (execPut q c data s) = some s.fixed := by simp [execPut]

@[simp] theorem State.settleReads_fixed (s : State) (who) : (s.settleReads who).fixed = s.fixed := by
  unfold State.settleReads
  rw [State.foldl_fixed, State.dropJobs_fixed]
  intro s j
  split <;> simp

@[simp] theorem State.getVersion_fixed (s0 : State) (q c x e) : (s0.getVersion q c x e).fixed = s0.fixed := by
  unfold State.getVersion
  dsimp only
  repeat' split
  all_goals simp

@[simp] theorem State.lookUp_fixed (s : State) (q c x) : (s.lookUp q c x).fixed = s.fixed := by
  unfold State.lookUp
  dsimp only
  repeat' split
  all_goals simp

@[simp] theorem execGet_fixed (q c) (s : State) : fixedOf (execGet q c s) = some s.fixed := by
  unfold execGet
  rw [fixedOf_next, State.onCommand_fixed]
  intro x
  dsimp only
  split <;> simp

/-- `addrBlock`, `indexRoom` and `formStripes` are put behind names before the definition is unfolded: the kernel need not run them. -/
theorem State.patchStripes_fixed {s : State} {i e off data r} (h : s.patchStripes i e off data = .ok r) :
    r.2.2.2.fixed = s.fixed := by
  obtain ⟨patch, hpatch⟩ : ∃ f, f = @State.patchStripes := ⟨_, rfl⟩
  obtain ⟨block, hb⟩ : ∃ f, f = State.addrBlock := ⟨_, rfl⟩
  obtain ⟨room, hr⟩ : ∃ f, f = State.indexRoom := ⟨_, rfl⟩
  obtain ⟨form, hf⟩ : ∃ f, f = State.formStripes := ⟨_, rfl⟩
  have hblock : ∀ {s i n r}, block s i n = some r → r.2.fixed = s.fixed := hb ▸ State.addrBlock_fixed
  have hroom : ∀ {s hash n r}, room s hash n = .ok r → r.2.2.fixed = s.fixed := hr ▸ State.indexRoom_fixed
  have hform : ∀ s i hash owner base l, Keeps s (form s i hash owner base l) := hf ▸ State.formStripes_keeps
  rw [← hpatch] at h
  delta State.patchStripes at hpatch
  rw [← hb, ← hr, ← hf] at hpatch
  rw [hpatch] at h
  dsimp only at h
  split at h
  · cases h
  next hbase =>
    split at h
    · cases h
    split at h
    · cases h
    split at h
    · cases h
    next hindex =>
      split at h
      · cases h
      next hstripes =>
        cases h
        calc _ = _ := hform _ _ _ _ _ _ _ hstripes
          _ = _ := hroom hindex
          _ = _ := hblock hbase

@[simp] theorem State.patchObject_fixed (s : State) (q c x data hash) : (s.patchObject q c x data hash).fixed = s.fixed := by
  unfold State.patchObject
  dsimp only
  repeat' split
  all_goals simp
  next hf =>
    split at hf
    · simpa using State.formVersion_fixed hf
    · simpa using State.patchStripes_fixed hf

@[simp] theorem execPatch_fixed (q c data) (s : State) : fixedOf (execPatch q c data s) = some s.fixed := by simp [execPatch]

@[simp] theorem State.deleteObject_fixed (s : State) (q c x hash) : (s.deleteObject q c x hash).fixed = s.fixed := by
  unfold State.deleteObject
  dsimp only
  repeat' split
  all_goals simp

@[simp] theorem execDelete_fixed (q c) (s : State) : fixedOf (execDelete q c s) = some s.fixed := by simp [execDelete]

@[simp] theorem execList_fixed (q c) (s : State) : fixedOf (execList q c s) = some s.fixed := by
  unfold execList
  rw [fixedOf_next, State.onCommand_fixed]
  intro x
  dsimp only
  split <;> simp

@[simp] theorem execNopCommand_fixed (q c) (s : State) : fixedOf (execNopCommand q c s) = some s.fixed := by simp [execNopCommand]

@[simp] theorem execKeyLockGrant_fixed (hash) (s : State) : fixedOf (execKeyLockGrant hash s) = some s.fixed := by
  unfold execKeyLockGrant
  repeat' split
  all_goals simp

/-! #### Machine/StoreBytes -/

@[simp] theorem State.writeSector_fixed (s : State) (l) : (s.writeSector l).fixed = s.fixed := by simp [State.writeSector]
@[simp] theorem State.writeSectors_fixed (s : State) (n) : (s.writeSectors n).fixed = s.fixed := by simp [State.writeSectors]
@[simp] theorem State.sendSegment_fixed (s : State) (pack n) : (s.sendSegment pack n).fixed = s.fixed := by rfl
@[simp] theorem State.bringUp_fixed (s : State) (pack) : (s.bringUp pack).fixed = s.fixed := by simp [State.bringUp]

/-! #### Machine/StoreWork -/

@[simp] theorem execPetitFourDurableSeal_fixed (x) (s : State) : fixedOf (execPetitFourDurableSeal x s) = some s.fixed := by
  unfold execPetitFourDurableSeal
  split <;> simp

@[simp] theorem execPetitFourLazySeal_fixed (x) (s : State) : fixedOf (execPetitFourLazySeal x s) = some s.fixed := by
  unfold execPetitFourLazySeal
  split <;> simp

@[simp] theorem execStripePlacementRetry_fixed (x addr) (s : State) : fixedOf (execStripePlacementRetry x addr s) = some s.fixed := by
  unfold execStripePlacementRetry
  dsimp only
  repeat' split
  all_goals simp

@[simp] theorem State.noteLeft_fixed (s : State) (x) : (s.noteLeft x).fixed = s.fixed := by simp [State.noteLeft]

@[simp] theorem State.leafPlaced_fixed (s : State) (x w) : (s.leafPlaced x w).fixed = s.fixed := by
  unfold State.leafPlaced
  dsimp only
  repeat' split
  all_goals simp

@[simp] theorem execLeafWriteDone_fixed (p a tag) (s : State) : fixedOf (execLeafWriteDone p a tag s) = some s.fixed := by
  unfold execLeafWriteDone
  dsimp only
  repeat' split
  all_goals simp
  next hm => simpa using State.slotOn_fixed (Option.ite_none_right_eq_some.mp hm).2

@[simp] theorem execJournalSectorCommit_fixed (untorn) (s : State) : fixedOf (execJournalSectorCommit untorn s) = some s.fixed := by
  simp [execJournalSectorCommit]

@[simp] theorem State.flushJournal_fixed (s : State) : s.flushJournal.fixed = s.fixed := by simp [State.flushJournal]
@[simp] theorem execJournalLagExpiry_fixed (s : State) : fixedOf (execJournalLagExpiry s) = some s.fixed := by simp [execJournalLagExpiry]

@[simp] theorem execCheckpointSegmentWrite_fixed (s : State) : fixedOf (execCheckpointSegmentWrite s) = some s.fixed := by
  simp [execCheckpointSegmentWrite]

@[simp] theorem State.journalBands_fixed (s : State) (p) : (s.journalBands p).fixed = s.fixed := by
  unfold State.journalBands
  refine State.foldl_fixed _ (fun s a => State.foldl_fixed _ (fun s n => ?_) _ s) _ s
  dsimp only
  split <;> simp

@[simp] theorem execJournalPackReplace_fixed (p) (s : State) : fixedOf (execJournalPackReplace p s) = some s.fixed := by
  simp [execJournalPackReplace]

@[simp] theorem execBackgroundWindow_fixed (p a) (s : State) : fixedOf (execBackgroundWindow p a s) = some s.fixed := by
  simp [execBackgroundWindow]

@[simp] theorem execRebuildDelayExpiry_fixed (p) (s : State) : fixedOf (execRebuildDelayExpiry p s) = some s.fixed := by
  unfold execRebuildDelayExpiry
  split <;> simp

@[simp] theorem State.failJob_fixed (s : State) (x addr leaf e) : (s.failJob x addr leaf e).fixed = s.fixed := by simp [State.failJob]

@[simp] theorem execRebuildStripe_fixed (x addr) (s0 : State) : fixedOf (execRebuildStripe x addr s0) = some s0.fixed := by
  unfold execRebuildStripe
  dsimp only
  repeat' split
  all_goals simp

@[simp] theorem execDrainLeaf_fixed (x addr leaf) (s0 : State) : fixedOf (execDrainLeaf x addr leaf s0) = some s0.fixed := by
  unfold execDrainLeaf
  dsimp only
  repeat' split
  all_goals simp
  next h => simpa using State.fetchLeaf_eq_fixed h
  next h _ => simpa using State.fetchLeaf_eq_fixed h
  next h _ => simpa using State.fetchLeaf_eq_fixed h

@[simp] theorem State.resetBand_fixed (s : State) (x p b) : (s.resetBand x p b).fixed = s.fixed := by simp [State.resetBand]
@[simp] theorem State.rewriteEntry_fixed (s : State) (e needs) : (s.rewriteEntry e needs).fixed = s.fixed := by simp [State.rewriteEntry]

@[simp] theorem State.mergeRuns_fixed (s : State) (hash) : (s.mergeRuns hash).fixed = s.fixed := by
  unfold State.mergeRuns
  dsimp only
  repeat' split
  all_goals simp
  next h => exact State.addrBlock_fixed h

@[simp] theorem State.repackPetit_fixed (s : State) (x u) : (s.repackPetit x u).fixed = s.fixed := by
  unfold State.repackPetit
  rw [State.killUnnamed_fixed, State.foldl_fixed]
  intro s o
  split
  · rfl
  split
  · rfl
  next h => simpa using State.petitAppend_fixed h

@[simp] theorem State.copyLeaf_fixed (s : State) (x addr leaf) : (s.copyLeaf x addr leaf).fixed = s.fixed := by
  unfold State.copyLeaf
  split
  next h => exact State.fetchLeaf_eq_fixed h
  next h =>
    have h1 := State.fetchLeaf_eq_fixed h
    split
    · simpa using h1
    split
    next hm => simpa [State.moveLeaf_fixed hm] using h1
    · exact h1

@[simp] theorem execCompactionBand_fixed (p b merge) (s0 : State) : fixedOf (execCompactionBand p b merge s0) = some s0.fixed := by
  unfold execCompactionBand
  rw [fixedOf_next]
  extract_lets s
  have hs : s.fixed = s0.fixed := by
    unfold s
    split <;> simp
  split
  · rw [hs]
  extract_lets
  split
  · split <;> simp [hs]
  · rw [State.foldl_fixed, hs]
    intro s v
    repeat' split
    all_goals simp

@[simp] theorem execScrubLeaf_fixed (x addr leaf) (s0 : State) : fixedOf (execScrubLeaf x addr leaf s0) = some s0.fixed := by
  unfold execScrubLeaf
  dsimp only
  repeat' split
  all_goals simp

@[simp] theorem State.sendTest_fixed (s : State) (p a req) : (s.sendTest p a req).fixed = s.fixed := by simp [State.sendTest]

@[simp] theorem State.startTest_fixed (s : State) (kind p) : (s.startTest kind p).fixed = s.fixed := by
  unfold State.startTest
  dsimp only
  repeat' split
  · simp
  · rw [State.foldl_fixed, State.foldl_fixed]
    · simp
    · exact fun s b => State.foldl_fixed _ (fun s i => State.foldl_fixed _ (fun s g => by simp) _ s) _ s
  · simp

@[simp] theorem State.selfTestCommand_keeps (s : State) (v) : Keeps s (s.selfTestCommand v) := by simp [State.selfTestCommand]
@[simp] theorem execSelfTestShort_fixed (s : State) : fixedOf (execSelfTestShort s) = some s.fixed := by simp [execSelfTestShort]
@[simp] theorem execSelfTestExtended_fixed (s : State) : fixedOf (execSelfTestExtended s) = some s.fixed := by simp [execSelfTestExtended]
@[simp] theorem execSelfTestStop_fixed (s : State) : fixedOf (execSelfTestStop s) = some s.fixed := by simp [execSelfTestStop]

@[simp] theorem execSelfTestShareEnd_fixed (p) (s : State) : fixedOf (execSelfTestShareEnd p s) = some s.fixed := by
  simp [execSelfTestShareEnd]

@[simp] theorem State.takeBits_fixed (s : State) (n) : (s.takeBits n).2.fixed = s.fixed := by rfl
@[simp] theorem State.formSpan_fixed (s : State) (i) : (s.formSpan i).fixed = s.fixed := by simp [State.formSpan]
@[simp] theorem State.initialiseStore_keeps (s : State) : Keeps s s.initialiseStore := by unfold State.initialiseStore; simp
@[simp] theorem execStoreInitialise_fixed (s : State) : fixedOf (execStoreInitialise s) = some s.fixed := by simp [execStoreInitialise]
@[simp] theorem State.spanCommand_keeps (s : State) (x v) : Keeps s (s.spanCommand x v) := by simp [State.spanCommand]
@[simp] theorem execSpanAddPack_fixed (x) (s : State) : fixedOf (execSpanAddPack x s) = some s.fixed := by simp [execSpanAddPack]

@[simp] theorem execSpanStartRebuild_fixed (x) (s : State) : fixedOf (execSpanStartRebuild x s) = some s.fixed := by
  simp [execSpanStartRebuild]

@[simp] theorem execSpanDrainPack_fixed (x) (s : State) : fixedOf (execSpanDrainPack x s) = some s.fixed := by simp [execSpanDrainPack]

/-! #### Machine/FlashOps -/

@[simp] theorem State.inTurn_keeps (s : State) (mask e) (h : Keeps s e) : Keeps s (s.inTurn mask e) := by
  unfold State.inTurn
  simp [h]

@[simp] theorem State.flashStart_fixed (s : State) (op data) : (s.flashStart op data).fixed = s.fixed := by rfl
@[simp] theorem State.flashData_keeps (s : State) (l) : Keeps s (s.flashData l) := by simp [State.flashData]

@[simp] theorem execFlashDataWrite_fixed (data) (s : State) : fixedOf (execFlashDataWrite data s) = some s.fixed := by
  simp [execFlashDataWrite]

@[simp] theorem State.flashCommand_keeps (s : State) (v) : Keeps s (s.flashCommand v) := by simp [State.flashCommand]
@[simp] theorem execFlashErase_fixed (s : State) : fixedOf (execFlashErase s) = some s.fixed := by simp [execFlashErase]
@[simp] theorem execFlashVerify_fixed (s : State) : fixedOf (execFlashVerify s) = some s.fixed := by simp [execFlashVerify]

@[simp] theorem State.verifyTarget_fixed (s : State) (t) : (s.verifyTarget t).2.fixed = s.fixed := by
  unfold State.verifyTarget
  repeat' split
  all_goals simp

@[simp] theorem State.noteErased_fixed (s : State) (t) : (s.noteErased t).fixed = s.fixed := by simp [State.noteErased]
@[simp] theorem State.flashFailed_fixed (s : State) (first n) : (s.flashFailed first n).fixed = s.fixed := by simp [State.flashFailed]

@[simp] theorem execFlashOperationDone_fixed (ok content) (s : State) : fixedOf (execFlashOperationDone ok content s) = some s.fixed := by
  unfold execFlashOperationDone
  dsimp only
  repeat' split
  all_goals simp

@[simp] theorem State.preferImage_keeps (s : State) (v) : Keeps s (s.preferImage v) := by simp [State.preferImage]

@[simp] theorem execBootSelectorWrite_fixed (image) (s : State) : fixedOf (execBootSelectorWrite image s) = some s.fixed := by
  simp [execBootSelectorWrite]

@[simp] theorem State.commitSecurity_keeps (s : State) (v) : Keeps s (s.commitSecurity v) := by simp [State.commitSecurity]

@[simp] theorem execSecurityVersionCommit_fixed (version) (s : State) : fixedOf (execSecurityVersionCommit version s) = some s.fixed := by
  simp [execSecurityVersionCommit]

@[simp] theorem State.revokeKey_keeps (s : State) (v) : Keeps s (s.revokeKey v) := by simp [State.revokeKey]

@[simp] theorem execKeyIndexRevoke_fixed (index) (s : State) : fixedOf (execKeyIndexRevoke index s) = some s.fixed := by
  simp [execKeyIndexRevoke]

@[simp] theorem State.escrowKey_keeps (s : State) (v) : Keeps s (s.escrowKey v) := by simp [State.escrowKey]

@[simp] theorem execEscrowKeyWrite_fixed (key) (s : State) : fixedOf (execEscrowKeyWrite key s) = some s.fixed := by
  simp [execEscrowKeyWrite]

@[simp] theorem State.importSecrets_fixed (s : State) (l) : (s.importSecrets l).fixed = s.fixed := by simp [State.importSecrets]

@[simp] theorem State.keyImport_keeps (s : State) (l) : Keeps s (s.keyImport l) := by
  unfold State.keyImport
  repeat' split
  all_goals simp

@[simp] theorem execStoreKeyImport_fixed (block) (s : State) : fixedOf (execStoreKeyImport block s) = some s.fixed := by
  simp [execStoreKeyImport]

/-! #### Machine/Movers -/

@[simp] theorem State.readPieces_fixed (s : State) (r own x l) : (s.readPieces r own x l).2.2.1.fixed = s.fixed := by
  induction l generalizing s with
  | nil => rfl
  | cons p l ih =>
    unfold State.readPieces
    dsimp only
    split <;> simp [ih]

@[simp] theorem State.drainStream_fixed (s : State) (c d from_ bytes) : (s.drainStream c d from_ bytes).1.fixed = s.fixed := by
  simp [State.drainStream]

@[simp] theorem State.moveUnit_fixed (s : State) (c r u host newOp) : (s.moveUnit c r u host newOp).fixed = s.fixed := by
  simp [State.moveUnit]

@[simp] theorem State.moveUnits_fixed (s : State) (c limited from_ host l) : (s.moveUnits c limited from_ host l).fixed = s.fixed := by
  induction l generalizing s with
  | nil => simp [State.moveUnits]
  | cons u l ih =>
    unfold State.moveUnits
    dsimp only
    repeat' split
    all_goals simp [ih]

@[simp] theorem State.moverWork_fixed (s : State) (c host) : (s.moverWork c host).fixed = s.fixed := by
  unfold State.moverWork
  split <;> simp

@[simp] theorem State.readSource_fixed (s : State) (c q x) : (s.readSource c q x).fixed = s.fixed := by simp [State.readSource]
@[simp] theorem State.stopAtError_fixed (s : State) (c) : (s.stopAtError c).fixed = s.fixed := by rfl

@[simp] theorem execMoverDescriptorStart_fixed (c x host) (s : State) : fixedOf (execMoverDescriptorStart c x host s) = some s.fixed := by
  unfold execMoverDescriptorStart
  split <;> simp

@[simp] theorem execMoverRateWindow_fixed (c host) (s : State) : fixedOf (execMoverRateWindow c host s) = some s.fixed := by
  unfold execMoverRateWindow
  split <;> simp

@[simp] theorem execMoverDescriptorComplete_fixed (c) (s : State) : fixedOf (execMoverDescriptorComplete c s) = some s.fixed := by
  unfold execMoverDescriptorComplete
  dsimp only
  repeat' split
  all_goals simp

/-! #### Machine/DictRead -/

@[simp] theorem State.readEntry_fixed (s : State) (who idx sub r inBand) : (s.readEntry who idx sub r inBand).2.fixed = s.fixed := by
  unfold State.readEntry
  split <;> simp

/-! #### Machine/DictWrite -/

theorem State.dictRead_fixed {s : State} {who idx sub inBand r} (h : s.dictRead who idx sub inBand = .ok r) : r.2.fixed = s.fixed := by
  unfold State.dictRead at h
  split at h
  · cases h
  split at h
  · cases h
  · cases h
    simp

@[simp] theorem State.writeStored_fixed (s : State) : s.writeStored.fixed = s.fixed := by rfl

@[simp] theorem State.storeParameters_keeps (s : State) (v flashOk) : Keeps s (s.storeParameters v flashOk) := by
  simp [State.storeParameters]

@[simp] theorem State.writeRefused_fixed (s : State) (idx l e) : (s.writeRefused idx l e).fixed = s.fixed := by simp [State.writeRefused]
@[simp] theorem State.restoreDefaults_keeps (s : State) (v) : Keeps s (s.restoreDefaults v) := by simp [State.restoreDefaults]
@[simp] theorem State.startApply_keeps (s : State) (v) : Keeps s (s.startApply v) := by simp [State.startApply]
@[simp] theorem State.writeLock_keeps (s : State) (who v) : Keeps s (s.writeLock who v) := by simp [State.writeLock]
@[simp] theorem State.rawEnd_fixed (s : State) (status) : (s.rawEnd status).fixed = s.fixed := by rfl
@[simp] theorem State.rawIssue_fixed (s : State) (v) : (s.rawIssue v).fixed = s.fixed := by unfold State.rawIssue; split <;> simp
@[simp] theorem State.rawCommand_keeps (s : State) (v) : Keeps s (s.rawCommand v) := by simp [State.rawCommand]
@[simp] theorem State.armsPerPack_fixed (s : State) : s.armsPerPack.fixed = s.fixed := by simp [State.armsPerPack]
@[simp] theorem State.afterWrite_fixed (s : State) (idx sub) : (s.afterWrite idx sub).fixed = s.fixed := by simp [State.afterWrite]

theorem State.writeSpecial_keeps {s : State} {who idx sub v e} (h : s.writeSpecial who idx sub v = some e) : Keeps s e := by
  unfold State.writeSpecial at h
  dsimp only at h
  repeat' split at h
  all_goals cases h
  case h_2 => exact fun t ht => (State.storeParameters_keeps _ _ _ t ht).trans s.takeFree_fixed
  case h_21 => exact fun t ht => (State.swapNow_keeps _ _ _ t ht).trans s.takeFree_fixed
  all_goals simp

theorem State.writeBytes_keeps {s : State} {idx sub l e} (h : s.writeBytes idx sub l = some e) : Keeps s e := by
  unfold State.writeBytes at h
  repeat' split at h
  all_goals cases h
  all_goals simp

@[simp] theorem State.writeEffect_keeps (s : State) (who idx sub r l) : Keeps s (s.writeEffect who idx sub r l) := by
  unfold State.writeEffect
  dsimp only
  split
  next h => exact State.writeBytes_keeps h
  split
  · simp
  split
  next h => exact State.writeSpecial_keeps h
  · simp

@[simp] theorem State.renewLease_fixed (s : State) (who) : (s.renewLease who).fixed = s.fixed := by simp [State.renewLease]

@[simp] theorem State.dictWrite_keeps (s : State) (who idx sub l) : Keeps s (s.dictWrite who idx sub l) := by
  unfold State.dictWrite
  split
  · simp
  next r _ =>
    have hw := s.writeEffect_keeps who idx sub r l
    cases h : s.writeEffect who idx sub r l with
    | error e => simp [Except.map]
    | ok t => simp [Except.map, hw t h]

/-! #### Machine/CanCmds -/

@[simp] theorem State.answer_fixed (s : State) (client abort l) : (s.answer client abort l).fixed = s.fixed := by rfl
@[simp] theorem State.endSession_fixed (s : State) (client) : (s.endSession client).fixed = s.fixed := by rfl
@[simp] theorem State.openSession_fixed (s : State) (x) : (s.openSession x).fixed = s.fixed := by rfl

@[simp] theorem State.serveDownload_fixed (s : State) (client idx sub l) : (s.serveDownload client idx sub l).fixed = s.fixed := by
  unfold State.serveDownload
  split
  next h => simpa using s.dictWrite_keeps _ _ _ _ _ h
  · simp

@[simp] theorem State.serveInit_fixed (s : State) (q upload) : (s.serveInit q upload).fixed = s.fixed := by
  unfold State.serveInit
  dsimp only
  repeat' split
  all_goals simp
  next h => simpa using State.dictRead_fixed h

@[simp] theorem State.serveSegment_fixed (s : State) (q last) : (s.serveSegment q last).fixed = s.fixed := by
  unfold State.serveSegment
  split <;> simp

@[simp] theorem State.serveNext_fixed (s : State) (client n) : (s.serveNext client n).fixed = s.fixed := by
  unfold State.serveNext
  split <;> simp

@[simp] theorem State.serve_fixed (s : State) (q) : (s.serve q).fixed = s.fixed := by
  unfold State.serve
  split
  · split
    next h =>
      have ht := s.dictWrite_keeps _ _ _ _ _ h
      split
      · simpa using ht
      · exact ht
    · dsimp only
      split <;> simp
  · simp
  · dsimp only
    split
    · simp
    next h => simpa using State.dictRead_fixed h
  all_goals simp

@[simp] theorem State.request_fixed (s : State) (q) : (s.request q).fixed = s.fixed := by simp [State.request]
@[simp] theorem State.usdo_fixed (s : State) (q) : (s.usdo q).fixed = s.fixed := by simp [State.usdo]

@[simp] theorem execUsdoExpeditedDownload_fixed (client idx sub data) (s : State) :
    fixedOf (execUsdoExpeditedDownload client idx sub data s) = some s.fixed := by simp [execUsdoExpeditedDownload]

@[simp] theorem execUsdoExpeditedUpload_fixed (client idx sub) (s : State) :
    fixedOf (execUsdoExpeditedUpload client idx sub s) = some s.fixed := by simp [execUsdoExpeditedUpload]

@[simp] theorem execUsdoSegmentedDownloadInit_fixed (client idx sub) (s : State) :
    fixedOf (execUsdoSegmentedDownloadInit client idx sub s) = some s.fixed := by simp [execUsdoSegmentedDownloadInit]

@[simp] theorem execUsdoDownloadSegment_fixed (client data last) (s : State) :
    fixedOf (execUsdoDownloadSegment client data last s) = some s.fixed := by simp [execUsdoDownloadSegment]

@[simp] theorem execUsdoSegmentedUploadInit_fixed (client idx sub) (s : State) :
    fixedOf (execUsdoSegmentedUploadInit client idx sub s) = some s.fixed := by simp [execUsdoSegmentedUploadInit]

@[simp] theorem execUsdoUploadSegment_fixed (client size) (s : State) : fixedOf (execUsdoUploadSegment client size s) = some s.fixed := by
  simp [execUsdoUploadSegment]

@[simp] theorem execUsdoAbort_fixed (client) (s : State) : fixedOf (execUsdoAbort client s) = some s.fixed := by simp [execUsdoAbort]

@[simp] theorem execUsdoSegmentTimeout_fixed (client) (s : State) : fixedOf (execUsdoSegmentTimeout client s) = some s.fixed := by
  simp [execUsdoSegmentTimeout]

@[simp] theorem execDictionaryWrite_fixed (who idx sub data) (s : State) :
    fixedOf (execDictionaryWrite who idx sub data s) = some s.fixed := by simp [execDictionaryWrite]

@[simp] theorem execLockTake_fixed (who) (s : State) : fixedOf (execLockTake who s) = some s.fixed := by simp [execLockTake]
@[simp] theorem execLockFree_fixed (who) (s : State) : fixedOf (execLockFree who s) = some s.fixed := by simp [execLockFree]
@[simp] theorem execLockLeaseExpiry_fixed (s : State) : fixedOf (execLockLeaseExpiry s) = some s.fixed := by simp [execLockLeaseExpiry]

@[simp] theorem execStoreParameters_fixed (flashOk) (s : State) : fixedOf (execStoreParameters flashOk s) = some s.fixed := by
  simp [execStoreParameters]

@[simp] theorem execRestoreDefaultParameters_fixed (s : State) : fixedOf (execRestoreDefaultParameters s) = some s.fixed := by
  simp [execRestoreDefaultParameters]

@[simp] theorem execErrorHistoryClear_fixed (s : State) : fixedOf (execErrorHistoryClear s) = some s.fixed := by
  simp [execErrorHistoryClear]

@[simp] theorem execOverlayApply_fixed (who mask) (s : State) : fixedOf (execOverlayApply who mask s) = some s.fixed := by
  simp [execOverlayApply]

@[simp] theorem execOverlayQuietPoint_fixed (s : State) : fixedOf (execOverlayQuietPoint s) = some s.fixed := by
  simp [execOverlayQuietPoint]

@[simp] theorem execOverlayQuietTimeout_fixed (s : State) : fixedOf (execOverlayQuietTimeout s) = some s.fixed := by
  simp [execOverlayQuietTimeout]

theorem State.rawBegin_fixed {s : State} {v t} (h : s.rawBegin v = some t) : t.fixed = s.fixed := by
  unfold State.rawBegin at h
  repeat' split at h
  all_goals cases h
  · rfl
  next h => exact s.rawCommand_keeps _ _ h

@[simp] theorem State.rawPoll_fixed (s : State) (v) : (s.rawPoll v).fixed = s.fixed := by
  unfold State.rawPoll
  dsimp only
  repeat' split
  all_goals simp

@[simp] theorem State.rawGo_fixed (s : State) (v) : (s.rawGo v).fixed = s.fixed := by
  unfold State.rawGo
  split
  · rfl
  next h => simp [State.rawBegin_fixed h]

@[simp] theorem execRawReadQuick_fixed (s : State) : fixedOf (execRawReadQuick s) = some s.fixed := by simp [execRawReadQuick]
@[simp] theorem execRawReadFull_fixed (s : State) : fixedOf (execRawReadFull s) = some s.fixed := by simp [execRawReadFull]
@[simp] theorem execRawSectorWrite_fixed (s : State) : fixedOf (execRawSectorWrite s) = some s.fixed := by simp [execRawSectorWrite]
@[simp] theorem State.nmt_fixed (s : State) (n) : (s.nmt n).fixed = s.fixed := by simp [State.nmt]

@[simp] theorem execNmtStartRemoteNode_fixed (s : State) : fixedOf (execNmtStartRemoteNode s) = some s.fixed := by
  simp [execNmtStartRemoteNode]

@[simp] theorem execNmtEnterPreOperational_fixed (s : State) : fixedOf (execNmtEnterPreOperational s) = some s.fixed := by
  simp [execNmtEnterPreOperational]

@[simp] theorem execNmtStopRemoteNode_fixed (s : State) : fixedOf (execNmtStopRemoteNode s) = some s.fixed := by
  simp [execNmtStopRemoteNode]

@[simp] theorem execNmtResetCommunication_fixed (s : State) : fixedOf (execNmtResetCommunication s) = some s.fixed := by
  simp [execNmtResetCommunication]

@[simp] theorem execNmtResetNode_fixed (s : State) : fixedOf (execNmtResetNode s) = some s.fixed := by simp [execNmtResetNode]
@[simp] theorem execHeartbeat_fixed (s : State) : fixedOf (execHeartbeat s) = some s.fixed := by simp [execHeartbeat]

@[simp] theorem execEmcyTransmit_fixed (s : State) : fixedOf (execEmcyTransmit s) = some s.fixed := by
  unfold execEmcyTransmit
  split <;> simp

@[simp] theorem execCanBusOff_fixed (s : State) : fixedOf (execCanBusOff s) = some s.fixed := by simp [execCanBusOff]
@[simp] theorem execEventMark_fixed (who data) (s : State) : fixedOf (execEventMark who data s) = some s.fixed := by simp [execEventMark]

@[simp] theorem execEventReadWindow_fixed (client) (s : State) : fixedOf (execEventReadWindow client s) = some s.fixed := by
  simp [execEventReadWindow]

@[simp] theorem execFailoverHubRelease_fixed (s : State) : fixedOf (execFailoverHubRelease s) = some s.fixed := by
  unfold execFailoverHubRelease
  split <;> simp

/-! #### Machine/HostAdmin -/

@[simp] theorem execCreateRing_fixed (q c) (s : State) : fixedOf (execCreateRing q c s) = some s.fixed := by
  unfold execCreateRing
  rw [fixedOf_next, State.onCommand_fixed]
  intro x
  dsimp only
  split <;> simp

@[simp] theorem execDeleteRing_fixed (q c) (s : State) : fixedOf (execDeleteRing q c s) = some s.fixed := by simp [execDeleteRing]
@[simp] theorem State.completeDeletes_fixed (s : State) (n) : (s.completeDeletes n).fixed = s.fixed := by simp [State.completeDeletes]

@[simp] theorem execDeleteRingDone_fixed (ring) (s : State) : fixedOf (execDeleteRingDone ring s) = some s.fixed := by
  simp [execDeleteRingDone]

@[simp] theorem execAbort_fixed (q c) (s : State) : fixedOf (execAbort q c s) = some s.fixed := by simp [execAbort]
@[simp] theorem State.dictRefused_fixed (s : State) (q c code) : (s.dictRefused q c code).fixed = s.fixed := by simp [State.dictRefused]

@[simp] theorem execDictRead_fixed (q c) (s : State) : fixedOf (execDictRead q c s) = some s.fixed := by
  unfold execDictRead
  rw [fixedOf_next, State.onCommand_fixed]
  intro x
  dsimp only
  repeat' split
  all_goals simp
  all_goals exact State.dictRead_fixed ‹_›

@[simp] theorem execDictWrite_fixed (q c data) (s : State) : fixedOf (execDictWrite q c data s) = some s.fixed := by
  unfold execDictWrite
  rw [fixedOf_next, State.onCommand_fixed]
  intro x
  dsimp only
  repeat' split
  all_goals simp
  next h => exact s.dictWrite_keeps _ _ _ _ _ h

/-! #### Machine/Inputs -/

@[simp] theorem State.updPin_fixed (s : State) (i f) : (s.updPin i f).fixed = s.fixed := by rfl
@[simp] theorem State.epoAssert_fixed (s : State) : s.epoAssert.fixed = s.fixed := by simp [State.epoAssert]

@[simp] theorem State.pinEvent_fixed (s : State) (i level chatter) : (s.pinEvent i level chatter).fixed = s.fixed := by
  unfold State.pinEvent
  split <;> simp

@[simp] theorem State.acceptPin_fixed (s : State) (i level) : (s.acceptPin i level).fixed = s.fixed := by simp [State.acceptPin]
@[simp] theorem State.atOnce_fixed (s : State) (i level) : (s.atOnce i level).fixed = s.fixed := by unfold State.atOnce; split <;> simp

@[simp] theorem State.filteredChange_fixed (s : State) (i level) : (s.filteredChange i level).fixed = s.fixed := by
  simp [State.filteredChange]

@[simp] theorem execEpoNAssert_fixed (s : State) : fixedOf (execEpoNAssert s) = some s.fixed := by simp [execEpoNAssert]

@[simp] theorem execInputFilteredChange_fixed (pin level) (s : State) : fixedOf (execInputFilteredChange pin level s) = some s.fixed := by
  simp [execInputFilteredChange]

@[simp] theorem execRateWindowEnd_fixed (pin) (s : State) : fixedOf (execRateWindowEnd pin s) = some s.fixed := by simp [execRateWindowEnd]

@[simp] theorem execStuckTimeout_fixed (pin) (s : State) : fixedOf (execStuckTimeout pin s) = some s.fixed := by
  unfold execStuckTimeout
  split <;> simp

@[simp] theorem execStuckMaskLift_fixed (pin) (s : State) : fixedOf (execStuckMaskLift pin s) = some s.fixed := by simp [execStuckMaskLift]

/-! #### Every command -/

theorem exec_fixed (c : Instr) (s : State) : fixedOf (exec c s) = some s.fixed := by
  cases c <;> simp [exec]

/-- An answer that leaves the fixed parts alone is a next state. -/
theorem exists_next_of_fixedOf {s : State} {o : Res} (h : fixedOf o = some s.fixed) :
    ∃ t, o = .next t ∧ t.pending = s.pending ∧ t.part = s.part := by
  match o, h with
  | .next t, h => exact ⟨t, rfl, Prod.mk.inj (Option.some.inj h)⟩

theorem answers_pending_part (c : Instr) (s : State) : Answers c s (fun t => t.pending = s.pending ∧ t.part = s.part) :=
  exists_next_of_fixedOf (exec_fixed c s)

/-- Settles O8: every command's own lemma above, then the two cases of a step. -/
theorem queueAndPartKept : Obligations.QueueAndPartKept := by
  refine ⟨answers_pending_part, fun s => ?_⟩
  unfold step
  split
  next h => exact ⟨s.tick, rfl, by simp [State.tick, h], rfl⟩
  next c rest h =>
    obtain ⟨t, hnext, hpending, hpart⟩ := answers_pending_part c { s with pending := rest }
    exact ⟨t, hnext, by simp [hpending, h], hpart⟩

end Sys2Proof.Machine

namespace Sys2Proof.Machine
open Sys2Proof

/-! ### Requests to a formatter and the upkeep of the control stores -/

section
variable {s : State} {p : PackId} {a : ArmId}

/-- With no fail-over and no overlay apply a request is not held at the hub. -/
theorem State.formatterRequest_passed {req : List Byte} (hfo : s.clusters.failOver = none) (happ : s.layers.applyStatus ≠ 1) :
    s.formatterRequest p a req =
      if ¬ reqOk req then s.refuseRequest p a req 0x1C
      else if (s.arm p a).fmt.fault then s.refuseRequest p a req 0x17
      else if (s.arm p a).link.state = .out then s.refuseRequest p a req 0x18
      else s.enqueue p a req := by
  simp [State.formatterRequest, hfo, happ]

theorem State.enqueue_room {req : List Byte} (hroom : (s.arm p a).fmt.queue.length < 16) :
    s.enqueue p a req = (s.updFmt p a (fun f => { f with queue := f.queue ++ [req] })).kick p a :=
  if_pos hroom

theorem execFormatterCancel_running (hrun : (s.arm p a).fmt.running = true) :
    execFormatterCancel p a s = .next (if (s.arm p a).fmt.committed then s.updFmt p a (fun f => { f with cancel := true })
      else (s.endRoutine p a 0x1A).kick p a) := by
  simp [execFormatterCancel, hrun]

/-- An abandoned routine within its restart limit. -/
theorem execRoutineRestart_again (hrun : (s.arm p a).fmt.running = true) (hwait : (s.arm p a).fmt.wait = .restart)
    (hlimit : (s.arm p a).fmt.restarts + 1 - (s.arm p a).fmt.uncounted ≤ s.param 0x7430 5) :
    execRoutineRestart p a s = .next ((((s.dropReads p a).disarm p a).updFmt p a (fun f =>
      { f.enter f.req with restarts := f.restarts + 1, restartCount := sat32 f.restartCount 1 })).routineMechanics p a) := by
  simp [execRoutineRestart, hrun, hwait, Nat.not_lt.mpr hlimit]

theorem execPerArrayWriteApply_idle (hdue : (s.arm p a).fmt.writesDue = true) (hpark : (s.arm p a).servo.mode.parkable = true)
    (hidle : (s.arm p a).fmt.running = false) : execPerArrayWriteApply p a s = .next ((s.applyArrays p a).trimActive p a) := by
  simp [execPerArrayWriteApply, hdue, hpark, hidle]

end

/-- The scrubber corrects a service store's word with a single-bit error. -/
theorem execControlStoreScrub_corrects {s : State} {q : SeqId} {word : Nat} (c : CtxId)
    (hmark : s.svc.store.marks.find? (fun x => x.1 = q.val && x.2.1 = word) = some (q.val, word, false)) :
    execControlStoreScrub (.service q c) word s = .next ((s.updSvc (fun v =>
      { v with corrected := sat32 v.corrected 1,
               store := { v.store with marks := s.svc.store.marks.filter (fun x => !(x.1 = q.val && x.2.1 = word)) } })).raise 176) := by
  have hfind : (s.ctlStore (.service q c)).marks.find? (fun x => x.1 = engStoreNo (.service q c) && x.2.1 = word)
      = some (q.val, word, false) := hmark
  simp only [execControlStoreScrub, hfind]
  rfl

theorem execLockedStoreWrite_locked {s : State} {e : Eng} (word : Nat) (v : Microword) (hlock : (s.ctlStore e).locked = true) :
    execLockedStoreWrite e word v s = .next (s.raise 177) := by
  simp [execLockedStoreWrite, hlock]

theorem execSafePointOverrun_forces {s : State} {q : SeqId} {c : CtxId} (hbusy : (s.ctx q c).busy = true)
    (hcount : 6400 ≤ (s.ctx q c).sinceSafe) (hforced : (s.ctx q c).forcedSafe = false) :
    execSafePointOverrun q c s = .next (((s.updCtx q c (fun x => { x with forcedSafe := true })).updSvc (fun v =>
      { v with overruns := sat32 v.overruns 1 })).raise 178) := by
  simp [execSafePointOverrun, hbusy, hcount, hforced]

/-- Settles O15: one lemma above for each command where its condition holds. -/
theorem requestsAndStores : Obligations.RequestsAndStores := by
  refine ⟨fun s p a req hfo happ hok hfault hlink hroom => ?_, fun s p a req hfo happ hbad => ?_, fun s p a hrun hcom => ?_,
    fun s p a hrun hcom => ?_, fun s p a => execRoutineRestart_again, fun s p a => execPerArrayWriteApply_idle,
    fun s q c word => execControlStoreScrub_corrects c, fun s e word v => execLockedStoreWrite_locked word v,
    fun s q c => execSafePointOverrun_forces⟩
  · have hqueued : s.formatterRequest p a req = s.enqueue p a req := by
      rw [State.formatterRequest_passed hfo happ]
      simp [hok, hfault, hlink]
    exact congrArg Host.Outcome.next (hqueued.trans (State.enqueue_room hroom))
  · have hrefused : s.formatterRequest p a req = s.refuseRequest p a req 0x1C := by
      rw [State.formatterRequest_passed hfo happ]
      simp [hbad]
    exact congrArg Host.Outcome.next hrefused
  · exact (execFormatterCancel_running hrun).trans (by rw [hcom]; rfl)
  · exact (execFormatterCancel_running hrun).trans (by rw [hcom]; rfl)

end Sys2Proof.Machine

namespace Sys2Proof.Machine
open Sys2Proof

/-! ### Die-to-die links, references and the time base -/

section
variable {s : State}

/-- Neither reference is watched in Boot, Off and Zephyr. -/
theorem execReference100mhzLost_first (hboot : s.dev.state ≠ .boot) (hoff : s.dev.state ≠ .off) (hzephyr : s.dev.state ≠ .zephyr)
    (hheld : s.ref100Lost = false) : execReference100mhzLost s = .next (
      ((((({ s with ref100Lost := true, tiles := s.tiles.map (fun (t : Tile) => { t with holdover := true }) }).raise 2).parkAndStop).endAllConns
        6).stopBackground).pendLee true 6) := by
  simp [execReference100mhzLost, hboot, hoff, hzephyr, hheld]

theorem execReference156mhzLost_first (hboot : s.dev.state ≠ .boot) (hoff : s.dev.state ≠ .off) (hzephyr : s.dev.state ≠ .zephyr)
    (hheld : s.ref156Lost = false) : execReference156mhzLost s = .next (
      ((({ s with ref156Lost := true }).raise 3).updHost (fun h =>
        { h with ports := h.ports.map (fun (q : Port) => { q with link := Vector.replicate 4 .down }) })).endAllConns 7) := by
  simp [execReference156mhzLost, hboot, hoff, hzephyr, hheld]

end

/-! #### The references measured in Boot -/

section
variable {s : State} (hboot : s.dev.state = .boot) (hstep : s.boot.step = .references)
include hboot hstep

theorem execReferenceMeasurementEnd_bad100 (ok156 : Bool) :
    execReferenceMeasurementEnd false ok156 s = .next (s.attemptFails 0x20) := by
  simp [execReferenceMeasurementEnd, hboot, hstep]

theorem execReferenceMeasurementEnd_bad156 : execReferenceMeasurementEnd true false s = .next (s.attemptFails 0x21) := by
  simp [execReferenceMeasurementEnd, hboot, hstep]

/-- With the rails off rail 2 is next. -/
theorem execReferenceMeasurementEnd_good (hkept : s.boot.railsKept = false) :
    execReferenceMeasurementEnd true true s = .next { s with boot := { s.boot with step := .enable 2 } } := by
  simp [execReferenceMeasurementEnd, hboot, hstep, hkept]

/-- Rails that stayed on leave only the PLLs. -/
theorem execReferenceMeasurementEnd_kept (hkept : s.boot.railsKept = true) :
    ∃ t, execReferenceMeasurementEnd true true s = .next t ∧ t.boot.step = .plls := by
  simp [execReferenceMeasurementEnd, hboot, hstep, hkept]

end

theorem execPllLockTimeout_plls {s : State} (hboot : s.dev.state = .boot) (hstep : s.boot.step = .plls) :
    execPllLockTimeout s = .next (s.attemptFails 0x22) :=
  congrArg Host.Outcome.next (if_pos ⟨hboot, hstep⟩)

/-! #### The time base -/

section
variable {s w : State} {p : PackId} (hw : s.atWedge p = w) (dets : List Detection)
include hw

/-- Free-run looks for an index. -/
theorem execWedgePhaseUpdate_freeRun (h : w.packs[p].tb.state = .freeRun) :
    execWedgePhaseUpdate p dets s = .next (w.tbAcquire p dets) := by
  simp only [execWedgePhaseUpdate, hw, h]

theorem execWedgePhaseUpdate_acquire (h : w.packs[p].tb.state = .acquire) :
    execWedgePhaseUpdate p dets s = .next ((w.acquireWedge p (w.packError p dets)).countWedge p) := by
  simp only [execWedgePhaseUpdate, hw, h]

theorem execWedgePhaseUpdate_locked (h : w.packs[p].tb.state = .locked) :
    execWedgePhaseUpdate p dets s = .next ((w.lockedWedge p dets (w.packError p dets)).countWedge p) := by
  simp only [execWedgePhaseUpdate, hw, h]

/-- Below the coast limit Coast goes through a wedge as Locked does. -/
theorem execWedgePhaseUpdate_coast (h : w.packs[p].tb.state = .coast) (hmissed : w.packs[p].tb.missed < w.packParam p 0x20 7) :
    execWedgePhaseUpdate p dets s = .next ((w.lockedWedge p dets (w.packError p dets)).countWedge p) := by
  simp only [execWedgePhaseUpdate, hw, h, if_neg (Nat.not_le.mpr hmissed)]

/-- A time base that follows no disk takes no detection. -/
theorem execWedgePhaseUpdate_stopped_or_lost (h : w.packs[p].tb.state = .stopped ∨ w.packs[p].tb.state = .lost) :
    execWedgePhaseUpdate p dets s = .next w := by
  obtain h | h := h <;> simp only [execWedgePhaseUpdate, hw, h]

end

/-- Acquire ends after 512 wedges with too few detections or after 64 revolutions. -/
theorem execTbAcquireTimeout_due {s : State} {p : PackId} (hacq : s.packs[p].tb.state = .acquire)
    (hlong : 512 ≤ s.packs[p].tb.poorRun ∨ 32768 ≤ s.packs[p].tb.acquireWedges) :
    execTbAcquireTimeout p s = .next (s.updTb p TimeBase.freeRun) := by
  simp only [execTbAcquireTimeout, Nat.reduceMul, if_pos (And.intro hacq hlong)]

theorem State.no_arm_past_commit {s : State} {p : PackId} {arms : List ArmId}
    (h : ∀ a ∈ arms, (s.arm p a).fmt.running = true → (s.arm p a).fmt.committed = false) :
    ¬ arms.any (fun a => (s.arm p a).fmt.running && (s.arm p a).fmt.committed) := by
  simpa using h

/-- Settles O16: the links, the references and the PLLs first, then the time base of a pack. -/
theorem referencesAndTimeBase : Obligations.ReferencesAndTimeBase := by
  refine ⟨fun s => ⟨fun t byHub hfit hhub htile => ?_, fun t hfit horphan => ?_, fun t hfit hup => ?_, execReference100mhzLost_first,
    execReference156mhzLost_first, execReferenceMeasurementEnd_good, fun ok156 hboot hstep => execReferenceMeasurementEnd_bad100 hboot hstep ok156,
    execReferenceMeasurementEnd_bad156, execPllLockTimeout_plls⟩, fun s p => ?_⟩
  · refine congrArg Host.Outcome.next (if_pos ⟨hfit, ?_⟩)
    cases byHub
    · exact htile rfl
    · exact hhub rfl
  · exact congrArg Host.Outcome.next (if_pos ⟨hfit, ne_true_of_eq_false horphan⟩)
  · exact congrArg Host.Outcome.next (if_pos ⟨hfit, hup⟩)
  generalize hw : s.atWedge p = w
  refine ⟨fun dets h => execWedgePhaseUpdate_freeRun hw dets h, fun dets h => execWedgePhaseUpdate_acquire hw dets h,
    fun dets h => execWedgePhaseUpdate_locked hw dets h, fun dets h hmissed => execWedgePhaseUpdate_coast hw dets h hmissed,
    fun dets h => execWedgePhaseUpdate_stopped_or_lost hw dets h, fun hcoast hlimit => ?_,
    fun hacq hlong => execTbAcquireTimeout_due hacq hlong, fun hlock hmeas hcount hpast => ?_,
    fun hlock hmeas hwrite hwant => ?_, fun a hpend hload hcarry hlost hlink hfault => ?_⟩
  · exact congrArg Host.Outcome.next (if_pos ⟨hcoast, hlimit⟩)
  · exact congrArg Host.Outcome.next (if_pos ⟨hlock, hmeas, hcount, State.no_arm_past_commit hpast⟩)
  · exact congrArg Host.Outcome.next (if_pos ⟨hlock, ne_true_of_eq_false hmeas, ne_true_of_eq_false hwrite, hwant⟩)
  · exact congrArg Host.Outcome.next (if_pos ⟨hpend, hload, hcarry, hlost, hlink, ne_true_of_eq_false hfault⟩)

end Sys2Proof.Machine

namespace Sys2Proof.Machine
open Sys2Proof

/-! ### Overlay applies -/

/-- A special entry's write has passed check 6: its operation decides. -/
theorem State.writeEffect_special {s : State} {who idx sub : Nat} {r : Row} {l : List Byte} {x : Except Nat State}
    (hbytes : s.writeBytes idx sub l = none) (hchars : r.ty.bytesOk l = true)
    (hvalue : valueOk s.microOf s.param r idx sub (leNat l) = true)
    (hspecial : s.writeSpecial who idx sub (r.stored (leNat l)) = some x) : s.writeEffect who idx sub r l = x := by
  simp [State.writeEffect, hbytes, hchars, hvalue, hspecial]

theorem leNat_natBytes_two {v : Nat} (h : v < 0x10000) : leNat (natBytes 2 v) = v := by
  simp only [natBytes, leNat, BitVec.toNat_ofNat]
  omega

/-- The row of the active mask's entry. -/
def maskRow : Row := { off := 0x2423, lo := 1, hi := 1, ty := .u16, acc := .rwl, chg := 484 }

theorem entryRow_mask : entryRow 0x2423 1 = some maskRow := by decide +kernel

theorem existsCheck_mask : existsCheck 0x2423 1 = .ok maskRow := by
  simp only [existsCheck, entryRow_mask]

/-- A write of the active mask that the lock and the state allow starts an apply. -/
theorem State.dictWrite_mask {s : State} {who mask : Nat} {r : Row} (hr : existsCheck 0x2423 1 = .ok r) (hmask : mask < 0x10000)
    (hlock : s.lockRefuses who 0x2423 1 r (natBytes 2 mask) = false) (hstate : s.stateRefuses 0x2423 1 r (natBytes 2 mask) = false) :
    s.dictWrite who 0x2423 1 (natBytes 2 mask) = (s.startApply mask).map (fun t => t.renewLease who) := by
  obtain rfl : maskRow = r := Except.ok.inj (existsCheck_mask.symm.trans hr)
  rw [State.dictWrite_effect hr (by decide) hlock hstate (by rfl)]
  refine congrArg _ (State.writeEffect_special rfl rfl ?_ ?_)
  · rfl
  · rw [leNat_natBytes_two hmask]
    rfl

theorem State.startApply_loaded {s : State} {mask : Nat}
    (h : ∀ n : Fin 16, mask.testBit n.val = true → s.layers.overlays[n].loaded = true ∧ s.layers.overlays[n].state = 1) :
    s.startApply mask = .ok { s with layers := { s.layers with prevMask := s.layers.mask, mask := mask, applyStatus := 1 } } := by
  refine if_pos (List.all_eq_true.mpr fun n _ => ?_)
  cases hbit : mask.testBit n.val
  · rfl
  · obtain ⟨hloaded, hvalid⟩ := h n hbit
    simp only [hloaded, hvalid]
    rfl

theorem State.startApply_unloaded {s : State} {mask : Nat} {n : Fin 16} (hbit : mask.testBit n.val = true)
    (h : s.layers.overlays[n].loaded = false ∨ s.layers.overlays[n].state ≠ 1) : s.startApply mask = .error 0x06090030 := by
  refine if_neg fun hall => ?_
  have hslot := List.all_eq_true.mp hall n (List.mem_finRange n)
  simp only [hbit, Bool.not_true, Bool.false_or, Bool.and_eq_true, beq_iff_eq] at hslot
  obtain ⟨hloaded, hvalid⟩ := hslot
  exact h.elim (fun hnot => Bool.noConfusion (hnot.symm.trans hloaded)) (fun hnot => hnot hvalid)

section
variable {s : State} {who mask : Nat} {r : Row} (hfo : s.clusters.failOver = none) (hr : existsCheck 0x2423 1 = .ok r)
  (hmask : mask < 0x10000) (hlock : s.lockRefuses who 0x2423 1 r (natBytes 2 mask) = false)
  (hstate : s.stateRefuses 0x2423 1 r (natBytes 2 mask) = false) (hwho : 128 ≤ who)
include hfo hr hmask hlock hstate hwho

theorem execOverlayApply_starts
    (h : ∀ n : Fin 16, mask.testBit n.val = true → s.layers.overlays[n].loaded = true ∧ s.layers.overlays[n].state = 1) :
    exec (.cOverlayApply who mask) s
      = .next (({ s with layers := { s.layers with prevMask := s.layers.mask, mask := mask, applyStatus := 1 } } : State).renewLease who) := by
  have hwrite := State.dictWrite_mask hr hmask hlock hstate
  rw [State.startApply_loaded h] at hwrite
  refine (exec_dictionaryWrite hfo who 0x2423 1 _).trans (congrArg Host.Outcome.next ?_)
  rw [State.serve_write_ok hwrite, if_neg (Nat.not_lt.mpr hwho)]

theorem execOverlayApply_refused {n : Fin 16} (hbit : mask.testBit n.val = true)
    (h : s.layers.overlays[n].loaded = false ∨ s.layers.overlays[n].state ≠ 1) : exec (.cOverlayApply who mask) s = .next s := by
  have hwrite := State.dictWrite_mask hr hmask hlock hstate
  rw [State.startApply_unloaded hbit h] at hwrite
  refine (exec_dictionaryWrite hfo who 0x2423 1 _).trans (congrArg Host.Outcome.next ?_)
  rw [State.serve_write_error hwrite (by decide), if_neg (Nat.not_lt.mpr hwho)]

end

theorem execOverlayQuietPoint_waits {s : State} (h : s.layers.applyStatus ≠ 1 ∨ s.quiet = false) :
    execOverlayQuietPoint s = .next s :=
  congrArg Host.Outcome.next (if_pos (h.imp_right ne_true_of_eq_false))

/-! ### Raw sector access -/

/-- The three raw commands with their values at 0x2410.02. -/
def rawCommands : List (Instr × Nat) := [(.cRawReadQuick, 1), (.cRawReadFull, 2), (.cRawSectorWrite, 3)]

theorem exec_rawCommand {x : Instr × Nat} (h : x ∈ rawCommands) (s : State) : exec x.1 s = .next (s.rawGo x.2) := by
  simp only [rawCommands, List.mem_cons, List.not_mem_nil, or_false] at h
  obtain rfl | rfl | rfl := h <;> rfl

section
variable {s : State} {v : Nat}

theorem State.rawGo_starts {t : State} (hidle : s.raw.state ≠ 1) (hstate : s.changeable 0x1C0 = true) (henable : s.param 0x2402 1 = 1)
    (hcommand : s.rawCommand v = .ok t) : s.rawGo v = t.rawPoll v := by
  simp [State.rawGo, State.rawBegin, hidle, hstate, henable, hcommand]

theorem State.rawGo_barred (hidle : s.raw.state ≠ 1) (hbar : s.changeable 0x1C0 = false ∨ s.param 0x2402 1 ≠ 1) : s.rawGo v = s := by
  have hno : ¬ (s.changeable 0x1C0 = true ∧ s.param 0x2402 1 = 1) := fun ⟨hstate, henable⟩ =>
    hbar.elim (fun h => Bool.noConfusion (h.symm.trans hstate)) (fun h => h henable)
  simp [State.rawGo, State.rawBegin, hidle, hno]

theorem State.rawIssue_refused {o : Nat} (h : s.rawRefusal (decide (v = 3)) = some o) : s.rawIssue v = s.rawEnd (rawStopped o) := by
  simp [State.rawIssue, h]

theorem State.rawRefusal_notFitted {write : Bool} (h : ¬ s.packFitted ⟨addrPack s.rawAddr % 32, by omega⟩) :
    s.rawRefusal write = some 0x14 :=
  if_pos (Or.inl h)

/-! #### A raw command that runs -/

variable (hruns : s.raw.state = 1)
include hruns

theorem State.rawGo_goesOn (hcommand : s.raw.command = v) : s.rawGo v = s.rawPoll v := by
  simp [State.rawGo, State.rawBegin, hruns, hcommand]

variable (hfo : s.clusters.failOver = none)
include hfo

theorem State.rawPoll_waits (hrec : s.recordOf ⟨addrPack s.rawAddr % 32, by omega⟩ s.raw.arm s.raw.tag = none) : s.rawPoll v = s := by
  simp [State.rawPoll, hruns, hfo, hrec]

variable {r : List Byte} (hrec : s.recordOf ⟨addrPack s.rawAddr % 32, by omega⟩ s.raw.arm s.raw.tag = some r)
include hrec

theorem State.rawPoll_written : s.rawPoll 3 = s.rawEnd (rawStopped (rawWritten r (addrSurface s.rawAddr % 16))) := by
  simp [State.rawPoll, hruns, hfo, hrec]

variable {d : Delivery} (hread : v ≠ 3)
  (hsector : (s.arm ⟨addrPack s.rawAddr % 32, by omega⟩ s.raw.arm).received.find? (fun d => d.tag = s.raw.tag) = some d)
include hread hsector

/-- The sector and its status word, the sector kept when it came whole. -/
theorem State.rawPoll_read : s.rawPoll v = (({ s with raw := { s.raw with
    sector := if goodOutcome (d.status % 256) && decide (4152 ≤ d.data.length) then d.data.take 4152 else s.raw.sector } }).updArm
      ⟨addrPack s.rawAddr % 32, by omega⟩ s.raw.arm (fun x =>
        { x with received := x.received.filter (fun y => y.tag ≠ s.raw.tag) })).rawEnd d.status := by
  simp [State.rawPoll, hruns, hfo, hrec, hread, hsector]

end

/-- Settles O45: an apply goes through the dictionary's checks, a raw command through its start and its end. -/
theorem overlaysAndRawAccess : Obligations.OverlaysAndRawAccess := by
  refine fun s => ⟨fun who mask r hfo hwho hmask hr hlock hstate => ⟨execOverlayApply_starts hfo hr hmask hlock hstate hwho,
    fun ⟨n, hbit, hslot⟩ => execOverlayApply_refused hfo hr hmask hlock hstate hwho hbit hslot⟩, fun happ hquiet => ?_,
    execOverlayQuietPoint_waits, fun happ => ?_, fun x hx => ⟨fun t hidle hstate henable hcommand => ?_, fun hidle hbar => ?_,
      fun o ho => State.rawIssue_refused ho, fun hruns hcommand hfo => ⟨fun hrec => ?_, fun r hrec => ⟨fun hwrite => ?_,
        fun d hread hsector => ⟨fun hgood hlen => ?_, fun hbad => ?_⟩⟩⟩⟩, fun write h => State.rawRefusal_notFitted h⟩
  · exact congrArg Host.Outcome.next (if_neg (by simp [happ, hquiet]))
  · exact congrArg Host.Outcome.next (if_neg (not_not_intro happ))
  all_goals refine (exec_rawCommand hx s).trans (congrArg Host.Outcome.next ?_)
  · exact State.rawGo_starts hidle hstate henable hcommand
  · exact State.rawGo_barred hidle hbar
  all_goals rw [State.rawGo_goesOn hruns hcommand]
  · exact State.rawPoll_waits hruns hfo hrec
  · rw [hwrite]
    exact State.rawPoll_written hruns hfo hrec
  · rw [State.rawPoll_read hruns hfo hrec hread hsector, hgood, decide_eq_true hlen]
    rfl
  · rw [State.rawPoll_read hruns hfo hrec hread hsector, hbad]
    rfl

end Sys2Proof.Machine

namespace Sys2Proof.Machine
open Sys2Proof

/-! ### The device's own state and the rails

What records, faults, parks and the end of connections leave as they find it is `State.standing`; the lemmas stand in the order of the
definitions, as those about `State.fixed` do. -/

/-- The device's state with its Lee form and start failure, the step of Boot, and the rails. -/
def State.standing (s : State) : Device × Boot × Vector Rail 8 := (s.dev, s.boot, s.rails)

theorem State.standing_iff {s t : State} : t.standing = s.standing ↔ t.dev = s.dev ∧ t.boot = s.boot ∧ t.rails = s.rails := by
  simp only [State.standing, Prod.mk.injEq]

@[simp] theorem State.mk_standing {pending now free part tiles packs spinQueue buses fmtStore svc bench ref100Lost ref156Lost dict lock host
    store buf movers lastMoverError layers raw can heldAccess faults inputs clusters arbiter injection domains
    flash fuses window sec recorder mirrorHeld heldTokens tileHeld out} (s : State) :
    State.standing ⟨pending, now, free, part, tiles, packs, spinQueue, buses, fmtStore, svc, bench, ref100Lost, ref156Lost, dict, lock, host,
      store, buf, movers, lastMoverError, layers, raw, can, heldAccess, faults, inputs, clusters, arbiter, injection, s.dev, s.boot, s.rails,
      domains, flash, fuses, window, sec, recorder, mirrorHeld, heldTokens, tileHeld, out⟩ = s.standing := by rfl

@[simp] theorem State.ite_standing (c : Prop) [Decidable c] (s t : State) :
    (if c then s else t).standing = if c then s.standing else t.standing := by
  split <;> rfl

@[simp] theorem State.dite_standing (c : Prop) [Decidable c] (s : c → State) (t : ¬ c → State) :
    (if h : c then s h else t h).standing = if h : c then (s h).standing else (t h).standing := by
  split <;> rfl

@[simp] theorem State.foldl_standing {α : Type} (f : State → α → State) (hf : ∀ s a, (f s a).standing = s.standing) (l : List α) (s : State) :
    (l.foldl f s).standing = s.standing := by
  induction l generalizing s with
  | nil => rfl
  | cons a l ih => rw [List.foldl_cons, ih, hf]


/-! #### Machine/Ops -/

@[simp] theorem State.takeFree_standing (s : State) : s.takeFree.2.standing = s.standing := by rfl
@[simp] theorem State.mirror_standing (s : State) (r) : (s.mirror r).standing = s.standing := by simp [State.mirror]
@[simp] theorem State.send_standing (s : State) (o) : (s.send o).standing = s.standing := by rfl
@[simp] theorem State.updPack_standing (s : State) (p f) : (s.updPack p f).standing = s.standing := by rfl
@[simp] theorem State.updArm_standing (s : State) (p a f) : (s.updArm p a f).standing = s.standing := by rfl
@[simp] theorem State.updServo_standing (s : State) (p a f) : (s.updServo p a f).standing = s.standing := by rfl
@[simp] theorem State.setParam_standing (s : State) (idx sub v) : (s.setParam idx sub v).standing = s.standing := by rfl

/-! #### Machine/BufferOps -/

@[simp] theorem State.updMem_standing (s : State) (n f) : (s.updMem n f).standing = s.standing := by simp [State.updMem]
@[simp] theorem State.updBuf_standing (s : State) (f) : (s.updBuf f).standing = s.standing := by rfl

/-! #### Machine/HostWire -/

@[simp] theorem State.sendOn_standing (s : State) (w m) : (s.sendOn w m).standing = s.standing := by simp [State.sendOn]
@[simp] theorem State.resumeHost_standing (s : State) : s.resumeHost.standing = s.standing := by simp [State.resumeHost]

@[simp] theorem State.sendCm_standing (s : State) (q sub peer kind conn l) : (s.sendCm q sub peer kind conn l).standing = s.standing := by
  simp [State.sendCm]

/-! #### Machine/BlockResets -/

@[simp] theorem State.reinitChannel_standing (s : State) (c) : (s.reinitChannel c).standing = s.standing := by simp [State.reinitChannel]
@[simp] theorem State.resetPort_standing (s : State) (q) : (s.resetPort q).standing = s.standing := by simp [State.resetPort]

/-! #### Machine/Contexts -/

@[simp] theorem State.updSvc_standing (s : State) (f) : (s.updSvc f).standing = s.standing := by rfl
@[simp] theorem State.waitChecks_standing (s : State) : s.waitChecks.standing = s.standing := by simp [State.waitChecks]

/-! #### Machine/Recorder -/

@[simp] theorem State.updRecorder_standing (s : State) (f) : (s.updRecorder f).standing = s.standing := by rfl
@[simp] theorem State.queueForPack_standing (s : State) (r) : (s.queueForPack r).standing = s.standing := by simp [State.queueForPack]
@[simp] theorem State.numberRecord_standing (s : State) (r) : (s.numberRecord r).standing = s.standing := by simp [State.numberRecord]
@[simp] theorem State.stageRecord_standing (s : State) (r) : (s.stageRecord r).standing = s.standing := by simp [State.stageRecord]
@[simp] theorem State.formRecord_standing (s : State) (t) : (s.formRecord t).standing = s.standing := by simp [State.formRecord]
@[simp] theorem State.storeOrdinary_standing (s : State) (r) : (s.storeOrdinary r).standing = s.standing := by rfl
@[simp] theorem State.storePinned_standing (s : State) (r) : (s.storePinned r).standing = s.standing := by simp [State.storePinned]
@[simp] theorem State.formFatal_standing (s : State) (t) : (s.formFatal t).standing = s.standing := by simp [State.formFatal]
@[simp] theorem State.mergeRecord_standing (s : State) : s.mergeRecord.standing = s.standing := by unfold State.mergeRecord; split <;> simp
@[simp] theorem State.record_standing (s : State) (t) : (s.record t).standing = s.standing := by simp [State.record]
@[simp] theorem State.storeStaged_standing (s : State) (g) : (s.storeStaged g).standing = s.standing := by simp [State.storeStaged]
@[simp] theorem State.flushStaging_standing (s : State) (keep) : (s.flushStaging keep).standing = s.standing := by simp [State.flushStaging]
@[simp] theorem State.flushAll_standing (s : State) : s.flushAll.standing = s.standing := by simp [State.flushAll]

/-! #### Machine/Faults -/

@[simp] theorem State.updSource_standing (s : State) (k f) : (s.updSource k f).standing = s.standing := by simp [State.updSource]
@[simp] theorem State.emcy_standing (s : State) (code src) : (s.emcy code src).standing = s.standing := by simp [State.emcy]
@[simp] theorem State.pushHistory_standing (s : State) (code) : (s.pushHistory code).standing = s.standing := by rfl

@[simp] theorem State.recordAgain_standing (s : State) (k lane subject flags) : (s.recordAgain k lane subject flags).standing = s.standing := by
  simp [State.recordAgain]

@[simp] theorem State.recordFirst_standing (s : State) (k lane subject flags) : (s.recordFirst k lane subject flags).standing = s.standing := by
  simp [State.recordFirst]

@[simp] theorem State.updCluster_standing (s : State) (c f) : (s.updCluster c f).standing = s.standing := by rfl

@[simp] theorem State.deliver_standing (s : State) (q) : (s.deliver q).standing = s.standing := by
  unfold State.deliver
  repeat' split
  all_goals simp

@[simp] theorem State.leaveFaults_standing (s : State) (l why) : (s.leaveFaults l why).standing = s.standing := by simp [State.leaveFaults]
@[simp] theorem State.setSticky_standing (s : State) (k) : (s.setSticky k).standing = s.standing := by simp [State.setSticky]

@[simp] theorem State.beginFailOver_standing (s : State) (cause swap) : (s.beginFailOver cause swap).standing = s.standing := by
  unfold State.beginFailOver
  split <;> simp

@[simp] theorem State.resetCluster_standing (s : State) (c) : (s.resetCluster c).standing = s.standing := by simp [State.resetCluster]

@[simp] theorem State.resetClusterBlock_standing (s : State) (c) : (s.resetClusterBlock c).standing = s.standing := by
  unfold State.resetClusterBlock
  repeat' split
  all_goals simp

@[simp] theorem State.requestReset_standing (s : State) (k) : (s.requestReset k).standing = s.standing := by simp [State.requestReset]
@[simp] theorem State.react_standing (s : State) (k) : (s.react k).standing = s.standing := by unfold State.react; split <;> simp

@[simp] theorem State.raiseWith_standing (s : State) (k lane subject flags) : (s.raiseWith k lane subject flags).standing = s.standing := by
  simp [State.raiseWith]

@[simp] theorem State.raise_standing (s : State) (k) : (s.raise k).standing = s.standing := by simp [State.raise]
@[simp] theorem State.raiseLane_standing (s : State) (p a h k) : (s.raiseLane p a h k).standing = s.standing := by simp [State.raiseLane]

/-! #### Machine/Links -/

@[simp] theorem State.updLink_standing (s : State) (p a f) : (s.updLink p a f).standing = s.standing := by rfl

@[simp] theorem State.sendNumbered_standing (s : State) (p a frame) : (s.sendNumbered p a frame).standing = s.standing := by
  simp [State.sendNumbered]

@[simp] theorem State.sendCmd_standing (s : State) (p a opcode mask) : (s.sendCmd p a opcode mask).standing = s.standing := by simp [State.sendCmd]
@[simp] theorem State.disarm_standing (s : State) (p a) : (s.disarm p a).standing = s.standing := by simp [State.disarm]

/-! #### Machine/LaneOps -/

@[simp] theorem State.updFmt_standing (s : State) (p a f) : (s.updFmt p a f).standing = s.standing := by rfl
@[simp] theorem State.updChan_standing (s : State) (p a h f) : (s.updChan p a h f).standing = s.standing := by rfl
@[simp] theorem State.updHealth_standing (s : State) (p a h f) : (s.updHealth p a h f).standing = s.standing := by rfl
@[simp] theorem State.updMedia_standing (s : State) (p f) : (s.updMedia p f).standing = s.standing := by rfl
@[simp] theorem State.passPointer_standing (s : State) (p h addr) : (s.passPointer p h addr).standing = s.standing := by simp [State.passPointer]
@[simp] theorem State.setQuality_standing (s : State) (p a h q) : (s.setQuality p a h q).standing = s.standing := by simp [State.setQuality]
@[simp] theorem State.assessLane_standing (s : State) (p a h) : (s.assessLane p a h).standing = s.standing := by simp [State.assessLane]
@[simp] theorem State.hubGets_standing (s : State) (p a o) : (s.hubGets p a o).standing = s.standing := by rfl
@[simp] theorem State.toHub_standing (s : State) (p a o) : (s.toHub p a o).standing = s.standing := by simp [State.toHub]
@[simp] theorem State.deliverEnd_standing (s : State) (p a h e) : (s.deliverEnd p a h e).standing = s.standing := by simp [State.deliverEnd]
@[simp] theorem State.deliverAll_standing (s : State) (p a h) : (s.deliverAll p a h).standing = s.standing := by simp [State.deliverAll]
@[simp] theorem State.saveSuspects_standing (s : State) (p) : (s.saveSuspects p).standing = s.standing := by rfl
@[simp] theorem State.noteWritten_standing (s : State) (p addr) : (s.noteWritten p addr).standing = s.standing := by simp [State.noteWritten]

@[simp] theorem State.drive_standing (s : State) (p a h cut) : (s.drive p a h cut).standing = s.standing := by
  unfold State.drive
  dsimp only
  repeat' split
  all_goals simp

@[simp] theorem State.closeWrite_standing (s0 : State) (p a h torn) : (s0.closeWrite p a h torn).standing = s0.standing := by
  unfold State.closeWrite
  split <;> simp

@[simp] theorem State.armTurn_standing (s : State) (p a) : (s.armTurn p a).standing = s.standing := by simp [State.armTurn]
@[simp] theorem State.afterGates_standing (s : State) (p a) : (s.afterGates p a).standing = s.standing := by simp [State.afterGates]
@[simp] theorem State.barWrites_standing (s : State) (p a m) : (s.barWrites p a m).standing = s.standing := by simp [State.barWrites]

/-! #### Machine/SpanWatch -/

@[simp] theorem State.updStore_standing (s : State) (f) : (s.updStore f).standing = s.standing := by rfl
@[simp] theorem State.noteJournal_standing (s : State) : s.noteJournal.standing = s.standing := by rfl

/-! #### Machine/ServoOps -/

@[simp] theorem State.writeLife_standing (s : State) (p readBack) : (s.writeLife p readBack).standing = s.standing := by simp [State.writeLife]
@[simp] theorem State.saveLife_standing (s : State) (p) : (s.saveLife p).standing = s.standing := by simp [State.saveLife]
@[simp] theorem State.inhibitArm_standing (s : State) (p a cut) : (s.inhibitArm p a cut).standing = s.standing := by simp [State.inhibitArm]
@[simp] theorem State.parkServo_standing (s : State) (p a cut) : (s.parkServo p a cut).standing = s.standing := by simp [State.parkServo]

/-! #### Machine/Routines -/

@[simp] theorem State.trimActive_standing (s : State) (p a) : (s.trimActive p a).standing = s.standing := by simp [State.trimActive]
@[simp] theorem State.dropReads_standing (s : State) (p a) : (s.dropReads p a).standing = s.standing := by rfl
@[simp] theorem State.giveBack_standing (s : State) (p b h e) : (s.giveBack p b h e).standing = s.standing := by simp [State.giveBack]
@[simp] theorem State.stopWith_standing (s : State) (p a h e) : (s.stopWith p a h e).standing = s.standing := by simp [State.stopWith]

@[simp] theorem State.stopSector_standing (s : State) (p a h addr outcome verify) :
    (s.stopSector p a h addr outcome verify).standing = s.standing := by simp [State.stopSector]

@[simp] theorem State.stopSix_standing (s : State) (p a outcome x) : (s.stopSix p a outcome x).standing = s.standing := by
  unfold State.stopSix
  dsimp only
  repeat' split
  all_goals simp

@[simp] theorem State.dropSixes_standing (s : State) (p a m) : (s.dropSixes p a m).standing = s.standing := by simp [State.dropSixes]
@[simp] theorem State.stopLane_standing (s : State) (p a h outcome) : (s.stopLane p a h outcome).standing = s.standing := by simp [State.stopLane]

@[simp] theorem State.stopSectors_standing (s : State) (p a outcome) : (s.stopSectors p a outcome).standing = s.standing := by
  simp [State.stopSectors]

@[simp] theorem State.cancelWrites_standing (s : State) (p a ends h) : (s.cancelWrites p a ends h).standing = s.standing := by
  unfold State.cancelWrites
  split <;> simp

@[simp] theorem State.settleRoutine_standing (s : State) (p a outcome) : (s.settleRoutine p a outcome).standing = s.standing := by
  unfold State.settleRoutine
  dsimp only
  repeat' split
  all_goals simp

@[simp] theorem State.chargeBack_standing (s : State) (p a) : (s.chargeBack p a).standing = s.standing := by
  unfold State.chargeBack
  dsimp only
  repeat' split
  all_goals simp

@[simp] theorem State.closeRoutine_standing (s : State) (p a left result) : (s.closeRoutine p a left result).standing = s.standing := by
  simp [State.closeRoutine]

@[simp] theorem State.endRoutine_standing (s : State) (p a outcome) : (s.endRoutine p a outcome).standing = s.standing := by simp [State.endRoutine]
@[simp] theorem State.parkArmBy_standing (s : State) (p a cut) : (s.parkArmBy p a cut).standing = s.standing := by simp [State.parkArmBy]
@[simp] theorem State.parkArm_standing (s : State) (p a) : (s.parkArm p a).standing = s.standing := by simp [State.parkArm]
@[simp] theorem State.parkPack_standing (s : State) (p) : (s.parkPack p).standing = s.standing := by simp [State.parkPack]

/-! #### Machine/PackOps -/

@[simp] theorem State.updSpin_standing (s : State) (p f) : (s.updSpin p f).standing = s.standing := by rfl
@[simp] theorem State.releaseSpin_standing (s : State) (p) : (s.releaseSpin p).standing = s.standing := by rfl

/-! #### Machine/RingOps -/

@[simp] theorem State.updRing_standing (s : State) (n f) : (s.updRing n f).standing = s.standing := by rfl

@[simp] theorem State.dropFraming_standing (s : State) (n) : (s.dropFraming n).standing = s.standing := by
  unfold State.dropFraming
  repeat' split
  all_goals simp

@[simp] theorem State.dropCommands_standing (s : State) (rings) : (s.dropCommands rings).standing = s.standing := by rfl
@[simp] theorem State.freeLock_standing (s : State) (code) : (s.freeLock code).standing = s.standing := by simp [State.freeLock]
@[simp] theorem State.stopMovers_standing (s : State) (conn status) : (s.stopMovers conn status).standing = s.standing := by rfl
@[simp] theorem State.endConn_standing (s : State) (n cause) : (s.endConn n cause).standing = s.standing := by unfold State.endConn; split <;> simp
@[simp] theorem State.endAllConns_standing (s : State) (cause) : (s.endAllConns cause).standing = s.standing := by simp [State.endAllConns]

/-! #### Machine/ClusterOps -/

@[simp] theorem State.stopBackground_standing (s : State) : s.stopBackground.standing = s.standing := by rfl
@[simp] theorem State.clustersOff_standing (s : State) : s.clustersOff.standing = s.standing := by rfl

/-! #### Machine/EventStore -/

@[simp] theorem State.saveCounters_standing (s : State) : s.saveCounters.standing = s.standing := by simp [State.saveCounters]

/-! #### Machine/PowerOps -/

@[simp] theorem State.widthDue_standing (s : State) (key) : (s.widthDue key).standing = s.standing := by simp [State.widthDue]
@[simp] theorem State.applyMask_standing (s : State) (mask) : (s.applyMask mask).standing = s.standing := by simp [State.applyMask]
@[simp] theorem State.leaveBench_standing (s : State) : s.leaveBench.standing = s.standing := by simp [State.leaveBench]

/-! #### Outside Assemble nothing opens the store -/

theorem State.dev_of_standing {s t : State} (h : t.standing = s.standing) : t.dev = s.dev := congrArg Prod.fst h

theorem State.tryOpen_of_ne_assemble {s : State} (h : s.dev.state ≠ .assemble) : s.tryOpen = s := if_pos (Or.inl h)

theorem State.noteSpans_standing {s : State} (h : s.dev.state ≠ .assemble) : s.noteSpans.standing = s.standing := by
  have hopen : ∀ t : State, t.standing = s.standing → t.tryOpen.standing = s.standing := fun t ht => by
    rw [State.tryOpen_of_ne_assemble (by rwa [State.dev_of_standing ht]), ht]
  exact hopen _ (by simp)

theorem State.setPackState_standing {s : State} (p n) (h : s.dev.state ≠ .assemble) : (s.setPackState p n).standing = s.standing := by
  unfold State.setPackState
  dsimp only
  split
  · rfl
  · have hkept : ∀ t : State, t.standing = s.standing → t.noteSpans.standing = s.standing := fun t ht => by
      rw [State.noteSpans_standing (by rwa [State.dev_of_standing ht]), ht]
    exact hkept _ (by simp)

theorem State.packToVerified_standing {s : State} (p) (h : s.dev.state ≠ .assemble) : (s.packToVerified p).standing = s.standing := by
  have hrelease : (s.releaseSpin p).standing = s.standing := by simp
  simp only [State.packToVerified, State.updSpin_standing, State.parkPack_standing]
  rw [State.setPackState_standing p _ (by rwa [State.dev_of_standing hrelease]), hrelease]

theorem State.foldl_standing_of_ne_assemble {α : Type} {f : State → α → State}
    (hf : ∀ s a, s.dev.state ≠ .assemble → (f s a).standing = s.standing) (l : List α) {s : State} (h : s.dev.state ≠ .assemble) :
    (l.foldl f s).standing = s.standing := by
  induction l generalizing s with
  | nil => rfl
  | cons a l ih =>
    have hstep := hf s a h
    rw [List.foldl_cons, ih (by rwa [State.dev_of_standing hstep]), hstep]

theorem State.packsToLee_standing {s : State} (h : s.dev.state ≠ .assemble) : s.packsToLee.standing = s.standing := by
  rw [State.packsToLee]
  refine State.foldl_standing_of_ne_assemble (fun s p h => ?_) _ h
  split
  · exact State.packToVerified_standing p h
  · exact State.packToVerified_standing p h
  · exact State.packToVerified_standing p h
  · simp

/-! ### The device's state in Lee -/

theorem State.setDevState_dev (s : State) (d form cause) :
    (s.setDevState d form cause).dev = { s.dev with state := d, leeForm := form, leeCause := cause } :=
  State.dev_of_standing (State.record_standing _ _)

theorem State.disableRail_dev (s : State) (r) : (s.disableRail r).dev = s.dev := by
  unfold State.disableRail
  split
  · dsimp only
    split <;> rfl
  · rfl

@[simp] theorem State.domainsOff_dev (s : State) : s.domainsOff.dev = s.dev := rfl

theorem State.railsOff_dev (s : State) : s.railsOff.dev = s.dev := by
  have hfold : ∀ (l : List RailId) (t : State), (l.foldl State.disableRail t).dev = t.dev := fun l => by
    induction l with
    | nil => exact fun t => rfl
    | cons r l ih => exact fun t => (ih _).trans (State.disableRail_dev t r)
  rw [State.railsOff, State.domainsOff_dev, hfold]

@[simp] theorem State.leaveState_standing (s : State) : s.leaveState.standing = s.standing := by
  unfold State.leaveState
  split <;> simp

@[simp] theorem State.writeLives_standing (s : State) : s.writeLives.standing = s.standing := by simp [State.writeLives]

@[simp] theorem State.refreshDomains_standing (s : State) : s.refreshDomains.standing = s.standing := by rfl

/-- What a device that enters Lee keeps of its own state, with the form and the cause it has there. -/
theorem State.enterLee_dev (s : State) (reduced cause) : (s.enterLee reduced cause).dev =
    { s.dev.settled with state := .lee, leeForm := if reduced then 1 else 0, leeCause := cause } := by
  have hleave : (if cause = 4 ∨ s.dev.closeStep = 6 then s else s.writeLives).leaveState.standing = s.standing := by simp
  have hclose : ∀ t : State, t.dev.state ≠ .assemble →
      (if reduced then ((t.packsToLee.endAllConns 6).saveCounters).clustersOff
        else (t.packsToLee.endAllConns 6).saveCounters).refreshDomains.dev = t.dev := fun t ht =>
    State.dev_of_standing (by simp [State.packsToLee_standing ht])
  unfold State.enterLee
  dsimp only
  rw [hclose _ (by simp [State.setDevState_dev]), State.setDevState_dev, State.dev_of_standing hleave]

/-- A start that ends on a failure leaves the device in Lee, reduced form, with its code. -/
theorem State.endStart_dev (s : State) (code) : (s.endStart code).dev =
    { s.dev.settled with state := .lee, leeForm := 1, leeCause := 3, startFail := code } := by
  have hrecord : ∀ t u : EvRec, (if s.dev.state = .boot then s.formFatal t else s.record u).saveCounters.dev = s.dev := fun t u =>
    State.dev_of_standing (by simp)
  have hraise : ∀ t : State, (if code = 0x31 then (t.raise 413).raise 414 else t.raise 413).dev = t.dev := fun t =>
    State.dev_of_standing (by simp)
  unfold State.endStart
  dsimp only
  rw [hraise, State.enterLee_dev, State.railsOff_dev, hrecord]
  rfl

theorem State.attemptFails_dev {s : State} (code) (h : s.boot.attempt < 4) : (s.attemptFails code).dev = s.dev := by
  rw [State.attemptFails, if_pos h]
  dsimp only
  rw [State.railsOff_dev, State.dev_of_standing (State.record_standing _ _)]

theorem State.bootScan_rails (s : State) : s.bootScan.rails = s.rails := by
  have hfold : ∀ t : State, (s.dev.tickRecords.foldl (fun s r =>
      (s.numberRecord { r with seq := s.recorder.nextSeq }).stageRecord { r with seq := s.recorder.nextSeq }) t).standing = t.standing :=
    fun t => State.foldl_standing _ (by simp) _ t
  exact (State.standing_iff.mp (hfold _)).2.2

theorem State.flushAll_rails (s : State) : s.flushAll.rails = s.rails := (State.standing_iff.mp (State.flushAll_standing s)).2.2

end Sys2Proof.Machine

namespace Sys2Proof.Machine
open Sys2Proof

/-! ### The steps of Boot -/

section
variable {s : State}

/-! #### Failures, rails and CAN -/

theorem State.attemptFails_retried (code) (h : s.boot.attempt < 4) : (s.attemptFails code).boot.step = .retryWait := by
  rw [State.attemptFails, if_pos h]

theorem State.attemptFails_last (code) (h : 4 ≤ s.boot.attempt) : s.attemptFails code = s.endStart code := if_neg (Nat.not_lt.mpr h)

theorem State.enableRail_enable (s : State) (r : RailId) : (s.enableRail r).rails[r].enable = true := by
  rw [State.enableRail, State.send_rails, State.updRail_same]

/-- With the rails off the power-up begins with rail 0. -/
theorem State.firstRail_off (h : s.boot.railsKept = false) : s.firstRail =
    { s.enableRail 0 with boot := { s.boot with step := .powerGood 0 } } := by
  rw [State.firstRail, if_neg (ne_true_of_eq_false h)]
  rfl

/-- CAN starts with the boot-up message of a node that has a number. -/
theorem State.startCan_node (h : s.can.nodeId ≠ 0) : s.startCan =
    { s with can := { s.can with started := true, nmt := .preOperational, sessions := [] }, out := s.out ++ [.bootUp s.can.nodeId] } := by
  refine if_neg ?_
  simpa [Can.listenOnly] using h

/-- The straps have been sampled at the attempt that begins. -/
def State.strapsSampled (s : State) (factory : Bool) (n : Nat) : State :=
  { s with dev := { s.dev with wakeAttempts := s.boot.attempt, factory := factory }, can := { s.can with sampled := true, nodeId := n } }

/-- Boot begins after a chip reset: the straps are sampled. -/
theorem execBootStart_samples (hboot : s.dev.state = .boot) (hstep : s.boot.step = .waiting) (hsampled : s.can.sampled = false)
    (hkept : s.boot.railsKept = false) (factory : Bool) {n : Nat} (hn : 0 < n) (hn' : n < 128) :
    ∃ t, execBootStart factory n true s = .next t ∧ t.can.nodeId = n ∧ t.can.started = true ∧ t.dev.factory = factory
      ∧ t.rails[0].enable = true ∧ t.boot.step = .powerGood 0 ∧ t.out = s.out ++ [.bootUp n, .rail 0 true] := by
  have hnode : n ≠ 0 := Nat.ne_of_gt hn
  have hstart : execBootStart factory n true s = .next (s.strapsSampled factory n).startCan.firstRail := by
    simp [execBootStart, hboot, hstep, hsampled, State.strapsSampled, Nat.mod_eq_of_lt hn', State.startCan_node, hnode]
  have hcan := State.startCan_node (s := s.strapsSampled factory n) hnode
  rw [State.firstRail_off (by rw [hcan]; exact hkept), hcan] at hstart
  exact ⟨_, hstart, rfl, rfl, rfl, State.enableRail_enable _ 0, rfl, List.append_assoc ..⟩

theorem execBootStart_begun (hstep : s.boot.step ≠ .waiting) (hoff : s.dev.state ≠ .off) (factory n ok) :
    execBootStart factory n ok s = .next s := by
  simp [execBootStart, hoff, hstep]

end

/-! #### Rails -/

section
variable {s : State} {r : RailId} (hboot : s.dev.state = .boot)
include hboot

theorem State.pgAccept_rails (hstep : s.boot.step = .powerGood r.val) :
    (s.pgAccept r).rails = (s.updRail r (fun x => { x with state := 2 })).rails := by
  rw [State.pgAccept, if_pos ⟨hboot, hstep⟩]
  simp only [apply_ite State.rails, State.flushAll_rails, State.bootScan_rails, ite_self]

theorem State.pgAccept_step (hstep : s.boot.step = .powerGood r.val) : (s.pgAccept r).boot.step =
    if r.val = 1 then .references else if r.val = 7 then .plls else .enable (r.val + 1) := by
  rw [State.pgAccept, if_pos ⟨hboot, hstep⟩]
  simp only [apply_ite State.boot, ite_self, Fin.ext_iff]
  rfl

theorem State.pgAccept_powerGood (hstep : s.boot.step = .powerGood r.val) : (s.pgAccept r).rails[r].state = 2 := by
  rw [State.pgAccept_rails hboot hstep, State.updRail_same]

theorem execRailEnDelay_enables (hstep : s.boot.step = .enable r.val) : ∃ t, execRailEnDelay r s = .next t ∧ t.rails[r].enable = true
    ∧ t.boot.step = .powerGood r.val ∧ t.out = s.out ++ [.rail r.val true] := by
  refine ⟨_, congrArg Host.Outcome.next (if_pos ⟨hboot, hstep⟩), State.enableRail_enable s r, rfl, rfl⟩

theorem execStartRetry_again (hstep : s.boot.step = .retryWait) : ∃ t, execStartRetry s = .next t ∧ t.boot.attempt = s.boot.attempt + 1
    ∧ t.boot.step = .powerGood 0 ∧ t.rails[0].enable = true := by
  refine ⟨_, congrArg Host.Outcome.next (if_pos ⟨hboot, hstep⟩), ?_⟩
  rw [State.firstRail_off rfl]
  exact ⟨rfl, rfl, State.enableRail_enable _ 0⟩

end

/-! #### The end of Boot -/

section
variable {s : State} {r : BootResult} (hboot : s.dev.state = .boot) (hstep : s.boot.step = .plls)
include hboot hstep

theorem execBootEnd_arbiter (harb : r.arbiterOk = false) : execBootEnd r s = .next (s.endStart 0x51) := by
  simp [execBootEnd, hboot, hstep, harb]

variable (harb : r.arbiterOk = true)
include harb

theorem execBootEnd_headers {code} (hhead : s.headFails = some code) : execBootEnd r s = .next (s.endStart code) := by
  simp [execBootEnd, hboot, hstep, harb, hhead]

variable (hhead : s.headFails = none) (hchan : s.failedChannels r.channelsFailed = [])
include hhead hchan

theorem execBootEnd_image {code} (hpick : (s.noteCheckers []).pickImage = .error code) :
    execBootEnd r s = .next ((s.noteCheckers []).endStart code) := by
  simp [execBootEnd, hboot, hstep, harb, hhead, hchan, hpick]

variable {x : FwImage} {s1 : State} (hpick : (s.noteCheckers []).pickImage = .ok (x, s1))
include hpick

theorem execBootEnd_layers {code} (hload : s1.loadLayers = .error code) :
    execBootEnd r s = .next ((s.noteCheckers []).endStart code) := by
  simp [execBootEnd, hboot, hstep, harb, hhead, hchan, hpick, hload]

theorem execBootEnd_done {s2 : State} (hload : s1.loadLayers = .ok s2) (hfill : s.buf.reachable = true) :
    execBootEnd r s = .next (s2.bootDone x) := by
  have hfill' : (s.noteCheckers []).buf.reachable = true := hfill
  simp [execBootEnd, hboot, hstep, harb, hhead, hchan, hpick, hload, hfill']

end

/-- Settles O54: each step of Boot by its lemma above, the failures by what `State.attemptFails` and `State.endStart` leave of the device. -/
theorem bootSteps : Obligations.BootSteps := by
  refine fun s => ⟨fun hboot hstep hsampled hkept factory n hn hn' => execBootStart_samples hboot hstep hsampled hkept factory hn hn',
    fun hstep factory n ok hoff => execBootStart_begun hstep hoff factory n ok,
    fun r hboot hstep => ⟨_, rfl, State.pgAccept_powerGood hboot hstep, State.pgAccept_step hboot hstep⟩,
    fun r hboot hstep => execRailEnDelay_enables hboot hstep,
    fun r hboot hstep => congrArg Host.Outcome.next (if_pos ⟨hboot, hstep⟩),
    fun code => ⟨fun h => ⟨State.attemptFails_retried code h, congrArg Device.state (State.attemptFails_dev code h)⟩,
      State.attemptFails_last code⟩,
    fun code => ?_, fun hboot hstep => execStartRetry_again hboot hstep,
    fun hboot hstep => ⟨execReferenceMeasurementEnd_bad100 hboot hstep true, execReferenceMeasurementEnd_bad156 hboot hstep, ?_⟩,
    fun hboot hstep => ⟨execPllLockTimeout_plls hboot hstep, fun r harb => execBootEnd_arbiter hboot hstep harb,
      fun r code harb hhead => execBootEnd_headers hboot hstep harb hhead, fun r harb hhead hchan =>
        ⟨fun code hpick => execBootEnd_image hboot hstep harb hhead hchan hpick,
          fun x s1 code hpick hload => execBootEnd_layers hboot hstep harb hhead hchan hpick hload,
          fun x s1 s2 hpick hload hfill => execBootEnd_done hboot hstep harb hhead hchan hpick hload hfill⟩⟩⟩
  · rw [State.endStart_dev]
    exact ⟨rfl, rfl, rfl, rfl⟩
  · cases hkept : s.boot.railsKept
    · exact ⟨_, execReferenceMeasurementEnd_good hboot hstep hkept, rfl⟩
    · exact execReferenceMeasurementEnd_kept hboot hstep hkept

end Sys2Proof.Machine

namespace Sys2Proof.Machine
open Sys2Proof

/-! ### AngleTime and the passing of time -/

section
variable (x : AngleTime)

/-- One RU more, wrapping after the last of a turn of REV. -/
theorem AngleTime.toNat_succ : (x + 1).toNat = (x.toNat + 1) % 2 ^ 40 := BitVec.toNat_add x 1

/-- Below its last value PHASE counts and the other fields stay. -/
theorem AngleTime.succ_of_phase_lt (h : x.toNat % 2 ^ 19 < 524287) :
    (x + 1).toNat % 2 ^ 19 = x.toNat % 2 ^ 19 + 1 ∧ (x + 1).toNat / 2 ^ 19 % 512 = x.toNat / 2 ^ 19 % 512
      ∧ (x + 1).toNat / 2 ^ 28 = x.toNat / 2 ^ 28 := by
  have hx := x.isLt
  rw [AngleTime.toNat_succ]
  omega

section
variable (hphase : x.toNat % 2 ^ 19 = 524287)
include hphase

theorem AngleTime.phase_succ_of_last : (x + 1).toNat % 2 ^ 19 = 0 := by
  rw [AngleTime.toNat_succ]
  omega

/-- PHASE carries into WEDGE. -/
theorem AngleTime.succ_of_wedge_lt (h : x.toNat / 2 ^ 19 % 512 < 511) :
    (x + 1).toNat / 2 ^ 19 % 512 = x.toNat / 2 ^ 19 % 512 + 1 ∧ (x + 1).toNat / 2 ^ 28 = x.toNat / 2 ^ 28 := by
  have hx := x.isLt
  rw [AngleTime.toNat_succ]
  omega

variable (hwedge : x.toNat / 2 ^ 19 % 512 = 511)
include hwedge

theorem AngleTime.wedge_succ_of_last : (x + 1).toNat / 2 ^ 19 % 512 = 0 := by
  rw [AngleTime.toNat_succ]
  omega

/-- WEDGE carries into REV. -/
theorem AngleTime.rev_succ_of_lt (h : x.toNat / 2 ^ 28 < 4095) : (x + 1).toNat / 2 ^ 28 = x.toNat / 2 ^ 28 + 1 := by
  rw [AngleTime.toNat_succ]
  omega

theorem AngleTime.rev_succ_of_last (h : x.toNat / 2 ^ 28 = 4095) : (x + 1).toNat / 2 ^ 28 = 0 := by
  rw [AngleTime.toNat_succ]
  omega

end
end

theorem State.tick_tb (s : State) (p : PackId) : s.tick.packs[p].tb = s.packs[p].tb.turn := by
  simp [State.tick, Pack.turn]

/-- The RU that pass in a nanosecond of a turning time base. -/
def TimeBase.passing (t : TimeBase) : Nat := (t.frac + 2 ^ 28 * 100) / t.loopPeriod

section
variable {t : TimeBase} (hturns : t.state ≠ .stopped) (hperiod : t.loopPeriod ≠ 0)
include hturns hperiod

theorem TimeBase.turn_angle : t.turn.angle = t.angle + BitVec.ofNat 40 t.passing := by
  simp [TimeBase.turn, TimeBase.passing, hturns, hperiod]

theorem TimeBase.turn_frac : t.turn.frac = (t.frac + 2 ^ 28 * 100) % t.loopPeriod := by
  simp [TimeBase.turn, hturns, hperiod]

/-- Whole RU and remainder account for the nanosecond exactly. -/
theorem TimeBase.passing_add_turn_frac : t.passing * t.loopPeriod + t.turn.frac = t.frac + 2 ^ 28 * 100 := by
  rw [TimeBase.turn_frac hturns hperiod, TimeBase.passing, Nat.div_add_mod']

theorem TimeBase.turn_frac_lt : t.turn.frac < t.loopPeriod := by
  rw [TimeBase.turn_frac hturns hperiod]
  exact Nat.mod_lt _ (Nat.pos_of_ne_zero hperiod)

end

theorem step_idle {s : State} (h : s.pending = []) : step s = .next s.tick := by
  simp only [step, h]

/-- Settles O2: the carries field by field, then the tick of a step with no command waiting. -/
theorem angleTimeCarries : Obligations.AngleTimeCarries := by
  refine ⟨fun x => ⟨AngleTime.succ_of_phase_lt x, AngleTime.phase_succ_of_last x, AngleTime.succ_of_wedge_lt x,
    AngleTime.wedge_succ_of_last x, AngleTime.rev_succ_of_lt x, AngleTime.rev_succ_of_last x⟩,
    fun s p hidle hturns hperiod => ⟨s.tick, s.packs[p].tb.passing, step_idle hidle, ?_⟩⟩
  rw [State.tick_tb]
  exact ⟨TimeBase.turn_angle hturns hperiod, TimeBase.passing_add_turn_frac hturns hperiod,
    TimeBase.turn_frac_lt hturns hperiod, rfl, rfl, rfl⟩

end Sys2Proof.Machine

namespace Sys2Proof.Machine
open Sys2Proof

/-! ### The angle micro-operations of a formatter -/

section
variable (s : State) (p : PackId) (a : ArmId)

/-- Two changes of one formatter are one. -/
theorem State.updFmt_updFmt (f g : Formatter → Formatter) :
    (s.updFmt p a f).updFmt p a g = s.updFmt p a (fun x => g (f x)) := by
  simp [State.updFmt, State.updArm, State.updPack, Pack.updArm]

/-- A change of a formatter counts for what it makes of the formatter there. -/
theorem State.updFmt_congr {f g : Formatter → Formatter} (h : f (s.arm p a).fmt = g (s.arm p a).fmt) :
    s.updFmt p a f = s.updFmt p a g := by
  have harm : s.packs[p].arms[a] = s.arm p a := rfl
  simp only [State.updFmt, State.updArm, State.updPack, Pack.updArm, harm, h]

/-- The next word of a formatter is the one after. -/
theorem State.advance_formatter : s.advance (.formatter p a) = s.updFmt p a (fun f => { f with pc := f.pc + 1 }) := by
  unfold State.advance State.setThread
  exact State.updFmt_congr s p a rfl

end

section
variable {s : State} {e : Eng}

/-- An arithmetic word that issues leaves the registers that `g` gives and goes on (R196). -/
theorem State.alu_issued {opc : Nat} (h : s.Issues e opc) (g : Word → Regs → Regs) :
    s.alu e opc g = s.retires e (g (s.wordOf e) (s.regs e)) := by
  simp only [State.alu, issue_eq s e opc _ h, thread_issued]
  rfl

/-- RD and Z take a result; the other flags stay. -/
theorem Regs.putZ_eq_result (r : Regs) (w : Word) (v : Reg64) : r.putZ w v = r.result w v (v == 0) r.n r.c r.later := by
  simp only [Regs.putZ, set_eq, Regs.result]

/-- RD takes a result and the flags stay. -/
theorem Regs.set_eq_result (r : Regs) (w : Word) (v : Reg64) : r.set w.rd v = r.result w v r.z r.n r.c r.later := by
  simp only [set_eq, Regs.result]

/-- ADDA of an interval below half the range (R53). -/
theorem execAdda_inRange (h : s.Issues e 0x0C) (hb : ((s.regs e).opB (s.wordOf e)).toNat % 2 ^ 40 < 2 ^ 39) :
    execAdda e s = .next (s.retires e ((s.regs e).putZ (s.wordOf e) (BitVec.ofNat 64
      ((((s.regs e).get (s.wordOf e).ra).toNat + ((s.regs e).opB (s.wordOf e)).toNat % 2 ^ 40) % 2 ^ 40)))) := by
  simp only [State.regs] at hb
  simp only [execAdda, issue_eq s e _ _ h, thread_issued, if_neg (Nat.not_le.mpr hb)]
  rfl

end

section
variable {s : State} {p : PackId} {a : ArmId}

theorem execNow_issued (h : s.Issues (.formatter p a) 0x2C) :
    execNow (.formatter p a) s = .next (s.retires (.formatter p a)
      ((s.regs (.formatter p a)).set (s.wordOf (.formatter p a)).rd ((s.armAngle p a).zeroExtend 64))) := by
  simp only [execNow, issue_eq s _ _ _ h]
  rfl

/-- An angle wait on a target ahead, within half the range (R54). -/
theorem State.angleWait_ahead {target : AngleTime} (husable : s.tbUsable p = true) (hpos : 0 < (target - s.armAngle p a).toNat)
    (hlt : (target - s.armAngle p a).toNat < 2 ^ 39) :
    s.angleWait p a target = s.updFmt p a (fun f => { f with wait := .angle target }) := by
  simp only [State.angleWait, husable, not_true_eq_false, if_false, if_pos (And.intro hpos hlt)]

theorem execWaita_issued (h : s.Issues (.formatter p a) 0x20) :
    execWaita (.formatter p a) s =
      .next (s.angleWait p a (((s.regs (.formatter p a)).get (s.wordOf (.formatter p a)).ra).setWidth 40)) := by
  simp only [execWaita, issue_eq s _ _ _ h]
  rfl

/-- A relative wait below half the range waits for the angle so far ahead (R53). -/
theorem execWaitr_issued {d : AngleTime} (h : s.Issues (.formatter p a) 0x21)
    (hd : ((s.regs (.formatter p a)).opB (s.wordOf (.formatter p a))).setWidth 40 = d) (hlt : d.toNat < 2 ^ 39) :
    execWaitr (.formatter p a) s = .next (s.angleWait p a (s.armAngle p a + d)) := by
  simp only [State.regs] at hd
  simp only [execWaitr, issue_eq s _ _ _ h, thread_issued, hd, if_neg (Nat.not_le.mpr hlt)]
  rfl

/-- A wait that has come is over and the next word follows (R54). -/
theorem execAngleWaitReached_come {t : AngleTime} (hwait : (s.arm p a).fmt.wait = .angle t)
    (hcome : laterMod 40 t.toNat (s.armAngle p a).toNat = false) :
    execAngleWaitReached p a s = .next (s.updFmt p a (fun f => { f with wait := .none, pc := f.pc + 1 })) := by
  simp only [execAngleWaitReached, hwait, hcome, State.advance_formatter, State.updFmt_updFmt]
  rfl

end

/-- Settles O10: the register results go through `State.retires`, the waits through `State.angleWait_ahead`. -/
theorem angleCommands : Obligations.AngleCommands := by
  refine fun s p a => ⟨fun h hb => ?_, fun h => ?_, fun h => ?_, fun h husable hpos hlt => ?_, fun h husable hpos hlt => ?_,
    fun t => execAngleWaitReached_come⟩
  · exact (execAdda_inRange h hb).trans (by rw [Regs.putZ_eq_result])
  · exact congrArg Host.Outcome.next (State.alu_issued h _)
  · rw [← Regs.set_eq_result]
    exact execNow_issued h
  · exact (execWaita_issued h).trans (congrArg Host.Outcome.next (State.angleWait_ahead husable hpos hlt))
  · refine (execWaitr_issued h rfl hlt).trans (congrArg Host.Outcome.next (State.angleWait_ahead husable ?_ ?_)) <;>
      rwa [BitVec.add_comm, BitVec.add_sub_cancel]

end Sys2Proof.Machine

namespace Sys2Proof.Machine
open Sys2Proof

/-! ### Lane power and the servo field's windows -/

section
variable {s : State} {p : PackId} {a : ArmId} {h : HeadId}

theorem execLaneActivate_oldest (hpower : (s.lane p a h).chan.power = .servoOnly) (holdest : (s.arm p a).oldestWaiting = some h)
    (hroom : (s.arm p a).activeLanes < (s.arm p a).activeLimit) :
    execLaneActivate p a h s = .next (s.updChan p a h (fun c => { c with power := .idle, waiting := none })) :=
  congrArg Host.Outcome.next (if_pos ⟨hpower, holdest, hroom⟩)

theorem execLaneActivate_full (hfull : (s.arm p a).activeLimit ≤ (s.arm p a).activeLanes) : execLaneActivate p a h s = .next s :=
  congrArg Host.Outcome.next (if_neg fun hall => Nat.not_lt.mpr hfull hall.2.2)

theorem execLaneGatingDelayExpiry_idle (hpower : (s.lane p a h).chan.power = .idle) (hread : (s.lane p a h).chan.readOpen = false)
    (hwriting : (s.lane p a h).chan.writing = none) :
    execLaneGatingDelayExpiry p a h s = .next (
      let s1 := s.updChan p a h (fun c => { c with power := .servoOnly })
      if (s.arm p a).fmt.names h = true then s1.wantActive p a h else s1) :=
  congrArg Host.Outcome.next (if_pos ⟨hpower, ne_true_of_eq_false hread, Option.isNone_iff_eq_none.mpr hwriting⟩)

theorem execLaneGatingDelayExpiry_inUse
    (huse : (s.lane p a h).chan.power ≠ .idle ∨ (s.lane p a h).chan.readOpen = true ∨ (s.lane p a h).chan.writing ≠ none) :
    execLaneGatingDelayExpiry p a h s = .next s := by
  refine congrArg Host.Outcome.next (if_neg fun ⟨hpower, hread, hwriting⟩ => ?_)
  obtain hp | hr | hw := huse
  · exact hp hpower
  · exact hread hr
  · exact hw (Option.isNone_iff_eq_none.mp hwriting)

/-- A powered lane of a tracking pack opens its window when the angle stands inside it. -/
theorem execServoWindowOpen_opens {prov : Bool} {now : Nat} (hprov : decide ((s.lane p a h).time = .provisional) = prov)
    (hnow : (s.laneAngle p a h).toNat + windowBefore prov = now) (hpower : (s.lane p a h).chan.power ≠ .off)
    (hturns : s.packs[p].tb.state ≠ .stopped) (hfound : s.packs[p].tb.state ≠ .lost)
    (hin : now % 2 ^ 19 < windowBefore prov + windowAfter prov) :
    execServoWindowOpen p a h s = .next (s.updChan p a h (fun c =>
      { c with servoUntil := some (BitVec.ofNat 40 (now / 2 ^ 19 * 2 ^ 19 + windowAfter prov)) })) := by
  subst hnow hprov
  refine congrArg Host.Outcome.next (if_neg ?_)
  rintro (hoff | hstop | hlost | hout)
  · exact hpower hoff
  · exact hturns hstop
  · exact hfound hlost
  · exact Nat.not_le.mpr hin hout

section
variable (hopen : (s.lane p a h).chan.writeOpen = true) (hprotect : s.inProtect p a h = true)
include hopen hprotect

/-- A gate whose scheduled close has come is no violation (R154). -/
theorem execServoProtectStart_scheduled (hcome : angleReached (s.lane p a h).chan.gateEnd (s.laneAngle p a h) = true) :
    execServoProtectStart p a h s = .next (s.writeCloses p a h) := by
  simp only [execServoProtectStart, hopen, hprotect, hcome, not_true_eq_false, or_self, if_false, if_true]

/-- A gate that would still be open ends the routine (R109). -/
theorem execServoProtectStart_violation (hahead : angleReached (s.lane p a h).chan.gateEnd (s.laneAngle p a h) = false) :
    execServoProtectStart p a h s = .next (
      (((s.closeWrite p a h true).updMedia p (fun m =>
        { m with servoProtect := sat32 m.servoProtect 1 })).endRoutine p a 0x15).kick p a) := by
  simp only [execServoProtectStart, hopen, hprotect, hahead, not_true_eq_false, or_self, if_false, Bool.false_eq_true]

end

theorem execServoProtectStart_quiet (hquiet : (s.lane p a h).chan.writeOpen = false ∨ s.inProtect p a h = false) :
    execServoProtectStart p a h s = .next s :=
  congrArg Host.Outcome.next (if_pos (hquiet.imp ne_true_of_eq_false ne_true_of_eq_false))

end

/-! ### The write buffer and the write gates -/

section
variable {s t : State} {p : PackId} {a : ArmId} {h : HeadId} {r : Run} (hnext : s.atNext p a h true = t)
  (hrun : (t.arm p a).fmt.run h true = some r) (hrunning : (t.arm p a).fmt.running = true)
include hnext hrun hrunning

section
variable {n : Nat} {data : List Byte} (hn : (if (t.lane p a h).chan.writing.isSome then 1 else 0) = n) (hleft : r.done + n < r.count)
include hn hleft

/-- A sector complete in time waits in the lane's buffer (R150). -/
theorem execWriteBufferDeadline_complete (hdata : data.length = 4152) :
    execWriteBufferDeadline p a h data s = .next (t.updChan p a h (fun c =>
      if c.wbuf.length < 4 then
        { c with wbuf := c.wbuf.filter (fun b => b.addr ≠ mkAddr p.val h.val r.track (r.first + r.done + n)) ++
            [⟨mkAddr p.val h.val r.track (r.first + r.done + n), data⟩] }
      else c)) := by
  simp only [execWriteBufferDeadline, hnext, hrun, hrunning, hn, hdata, if_neg (Nat.not_le.mpr hleft), not_true_eq_false, if_false, if_true]

variable (hdata : data.length ≠ 4152)
include hdata

theorem execWriteBufferDeadline_abandons (hcommitted : (t.arm p a).fmt.committed = false) :
    execWriteBufferDeadline p a h data s = .next (t.abandonRoutine p a true) := by
  simp only [execWriteBufferDeadline, hnext, hrun, hrunning, hn, hdata, hcommitted, if_neg (Nat.not_le.mpr hleft), not_true_eq_false,
    Bool.false_eq_true, if_false]

/-- Past the commit point the deadline leaves the sector to its gate's underrun. -/
theorem execWriteBufferDeadline_committed (hcommitted : (t.arm p a).fmt.committed = true) :
    execWriteBufferDeadline p a h data s = .next t := by
  simp only [execWriteBufferDeadline, hnext, hrun, hrunning, hn, hdata, hcommitted, if_neg (Nat.not_le.mpr hleft), not_true_eq_false,
    if_false, if_true]

end

end

/-- A lane's next write gate is due at `at_`: its run goes on in a routine that runs, the lane is Active with no write gate open, the time
base is usable and the gate's angle has come (R36, R153). -/
structure State.WriteGateDue (t : State) (p : PackId) (a : ArmId) (h : HeadId) (r : Run) (g : GatePlan) (at_ : AngleTime) : Prop where
  run : (t.arm p a).fmt.run h true = some r
  running : (t.arm p a).fmt.running = true
  active : (t.lane p a h).chan.power.active = true
  closed : (t.lane p a h).chan.writeOpen = false
  usable : t.tbUsable p = true
  due : t.dueGate p a h (mkAddr p.val h.val r.track (r.first + r.done)) (t.lane p a h).chan.writing.isSome r.fromTime = some (g, at_)

/-- Nothing holds, refuses or conflicts with a lane's write gate (R44, R155). -/
structure State.WriteGateFree (t : State) (p : PackId) (a : ArmId) (h : HeadId) (g : GatePlan) : Prop where
  coast : t.coastHolds p = false
  time : t.timeRefused p a h = false
  servo : t.servoOpen p a h = false
  read : (t.lane p a h).chan.readOpen = false
  cross : crossesWindow g.first g.writeEnd = false

theorem State.WriteGateDue.notBarred {t : State} {p : PackId} {a : ArmId} {h : HeadId} {r : Run} {g : GatePlan} {at_ : AngleTime}
    (hdue : t.WriteGateDue p a h r g at_) :
    ¬ (¬ (t.arm p a).fmt.running = true ∨ ¬ (t.lane p a h).chan.power.active = true ∨ (t.lane p a h).chan.writeOpen = true
      ∨ ¬ t.tbUsable p = true) := by
  simp [hdue.running, hdue.active, hdue.closed, hdue.usable]

theorem State.WriteGateFree.noConflict {t : State} {p : PackId} {a : ArmId} {h : HeadId} {g : GatePlan} (hfree : t.WriteGateFree p a h g) :
    ¬ (t.servoOpen p a h = true ∨ (t.lane p a h).chan.readOpen = true ∨ crossesWindow g.first g.writeEnd = true) := by
  simp [hfree.servo, hfree.read, hfree.cross]

/-- The routine goes on past a held gate, and the lane's run stands at the gate's time. -/
def State.atWriteGate (s : State) (p : PackId) (a : ArmId) (h : HeadId) (at_ : AngleTime) : State :=
  s.updFmt p a (fun f => { f with held := false, runs := updRun h true (fun r => { r with fromTime := at_ }) f.runs })

section
variable {s t : State} {p : PackId} {a : ArmId} {h : HeadId} {r : Run} {g : GatePlan} {at_ : AngleTime}
  (hnext : s.atNext p a h true = t) (hdue : t.WriteGateDue p a h r g at_)
include hnext hdue

/-- A Coast with two misses holds the gate (R44). -/
theorem execWriteGateOpen_held (hcoast : t.coastHolds p = true) :
    execWriteGateOpen p a h s = .next (t.updFmt p a (fun f => { f with held := true })) := by
  simp only [execWriteGateOpen, hnext, hdue.run, if_neg hdue.notBarred, hdue.due, if_pos hcoast]

section
variable (hcoast : t.coastHolds p = false)
include hcoast

theorem execWriteGateOpen_sitsOut (htime : t.timeRefused p a h = true) : execWriteGateOpen p a h s = .next (t.sitOutRest p a h) := by
  simp only [execWriteGateOpen, hnext, hdue.run, if_neg hdue.notBarred, hdue.due, if_neg (ne_true_of_eq_false hcoast), if_pos htime]

theorem execWriteGateOpen_conflict (htime : t.timeRefused p a h = false)
    (hconflict : t.servoOpen p a h = true ∨ (t.lane p a h).chan.readOpen = true ∨ crossesWindow g.first g.writeEnd = true) :
    execWriteGateOpen p a h s = .next (t.gateConflict p a h) := by
  simp only [execWriteGateOpen, hnext, hdue.run, if_neg hdue.notBarred, hdue.due, if_neg (ne_true_of_eq_false hcoast),
    if_neg (ne_true_of_eq_false htime), if_pos hconflict]

end

variable (hfree : t.WriteGateFree p a h g)
include hfree

/-- A free gate that is due either goes on with the sector under way, or begins one where the lane may write. -/
theorem execWriteGateOpen_free :
    execWriteGateOpen p a h s = .next (
      let c := (t.lane p a h).chan
      let addr := mkAddr p.val h.val r.track (r.first + r.done)
      let ready := c.wbuf.any (fun b => b.addr = addr)
      if c.writing.isSome = true then
        (t.atWriteGate p a h at_).updChan p a h (fun c =>
          { c with power := .writing, gateFrom := at_, gateEnd := at_ + BitVec.ofNat 40 (g.writeEnd - g.first),
                   writing := c.writing.map (fun w => { w with isOpen := true, joined := false }) })
      else if t.mayWrite p a h r = false then s
      else if ready = false ∧ (t.arm p a).fmt.committed = false then (t.atWriteGate p a h at_).abandonRoutine p a true
      else ((t.atWriteGate p a h at_).updChan p a h (fun c => c.beginWrite addr at_ g false)).updFmt p a (fun f =>
        { f with committed := true, underrun := f.underrun || !ready })) := by
  simp only [execWriteGateOpen, hnext, hdue.run, if_neg hdue.notBarred, hdue.due, if_neg (ne_true_of_eq_false hfree.coast),
    if_neg (ne_true_of_eq_false hfree.time), if_neg hfree.noConflict]
  cases hsecond : (t.lane p a h).chan.writing.isSome <;> simp [State.atWriteGate]

end

/-! ### The close of a write gate -/

/-- The position at which a sector's open fragment ends, where the next sector's gate may join (R153). -/
def State.fragmentEnd (s : State) (p : PackId) (a : ArmId) (h : HeadId) (w : Writing) : Nat :=
  match s.gatePlan p a h w.addr (decide (0 < w.closed)) with
  | some g => g.writeEnd
  | none => 0

section
variable {s : State} {p : PackId} {a : ArmId} {h : HeadId} {w : Writing} (hw : (s.lane p a h).chan.writing = some w)
include hw

theorem execWriteGateClose_come (hopen : w.isOpen = true)
    (hcome : angleReached (s.lane p a h).chan.gateEnd (s.laneAngle p a h) = true) :
    execWriteGateClose p a h s = .next (s.writeCloses p a h) := by
  simp only [execWriteGateClose, Channel.writeOpen, hw, hopen, hcome, and_self, if_true]

/-- Between its fragments a split sector keeps its write open with the pair idle. -/
theorem State.writeCloses_firstFragment (hsplit : s.isSplit p a h w.addr = true) (hclosed : w.closed = 0) (hlast : w.last = false) :
    s.writeCloses p a h = (s.drive p a h false).updChan p a h (fun c =>
      { c with power := .idle, writing := some { w with closed := 1, isOpen := false } }) := by
  simp [State.writeCloses, hw, hsplit, hclosed, hlast]

/-- A sector's last gate counts it as written; unless its second gate is cancelled the gate may stay open into the next. -/
theorem State.writeCloses_written (hwhole : s.isSplit p a h w.addr = false ∨ w.closed ≠ 0 ∨ w.last = true) :
    s.writeCloses p a h = ((if w.last = true then s.closeWrite p a h false
      else ((s.closeWrite p a h false).endWriteRun p a h).joinNext p a h (s.lane p a h).chan.gateEnd (s.fragmentEnd p a h w)).checkLife
        p).afterGates p a := by
  have hgo : ¬ (s.isSplit p a h w.addr = true ∧ w.closed = 0 ∧ ¬ w.last = true) := by
    rintro ⟨hsplit, hclosed, hlast⟩
    obtain hs | hc | hl := hwhole
    · exact ne_true_of_eq_false hs hsplit
    · exact hc hclosed
    · exact hlast hl
  simp only [State.writeCloses, hw, if_neg hgo]
  rfl

end

/-- Settles O21: lane power and the windows, then each outcome of a write gate by its lemma above. -/
theorem lanePowerAndWriteGates : Obligations.LanePowerAndWriteGates := by
  refine ⟨fun s p a h => ⟨execLaneActivate_oldest, execLaneActivate_full, execLaneGatingDelayExpiry_idle, execLaneGatingDelayExpiry_inUse,
    execServoWindowOpen_opens rfl rfl, execServoProtectStart_scheduled, execServoProtectStart_violation, execServoProtectStart_quiet⟩,
    fun s p a h => ?_⟩
  generalize hnext : s.atNext p a h true = t
  refine ⟨fun r data hrun hrunning hleft => ⟨execWriteBufferDeadline_complete hnext hrun hrunning rfl hleft,
      execWriteBufferDeadline_abandons hnext hrun hrunning rfl hleft, execWriteBufferDeadline_committed hnext hrun hrunning rfl hleft⟩,
    fun r g at_ hrun hrunning hactive hclosed husable hgate => ?_,
    fun w hw hopen hcome => ⟨fun hsplit hclosed hlast => ?_, fun hwhole => ?_⟩⟩
  · have hdue : t.WriteGateDue p a h r g at_ := ⟨hrun, hrunning, hactive, hclosed, husable, hgate⟩
    refine ⟨execWriteGateOpen_held hnext hdue, execWriteGateOpen_sitsOut hnext hdue, execWriteGateOpen_conflict hnext hdue,
      fun hcoast htime hservo hread hcross => ?_⟩
    have hopens := execWriteGateOpen_free hnext hdue ⟨hcoast, htime, hservo, hread, hcross⟩
    refine ⟨fun hsecond => hopens.trans ?_, fun hfirst hmay => hopens.trans ?_, fun hfirst hmay hmust => hopens.trans ?_,
      fun hfirst hmay hready hcommitted => hopens.trans ?_⟩
    · exact congrArg Host.Outcome.next (if_pos hsecond)
    · simp only [hfirst, hmay, Option.isSome_none, Bool.false_eq_true, if_false, if_true]
    · have hgo : ¬ (_ = false ∧ _ = false) := fun ⟨hr, hc⟩ => hmust.elim (ne_true_of_eq_false hr) (ne_true_of_eq_false hc)
      simp only [hfirst, hmay, Option.isSome_none, Bool.false_eq_true, Bool.true_eq_false, if_false, if_neg hgo]
      rfl
    · simp only [hfirst, hmay, hready, hcommitted, Option.isSome_none, Bool.false_eq_true, Bool.true_eq_false, and_self, if_false, if_true]
      rfl
  · exact (execWriteGateClose_come hw hopen hcome).trans
      (congrArg Host.Outcome.next (State.writeCloses_firstFragment hw hsplit hclosed hlast))
  · exact (execWriteGateClose_come hw hopen hcome).trans (congrArg Host.Outcome.next (State.writeCloses_written hw hwhole))

end Sys2Proof.Machine

namespace Sys2Proof.Machine
open Sys2Proof

/-! ### The read gates -/

/-- A lane's next read gate is due at `at_`: its run's turn has come in a routine that runs, the lane is Active with no read gate open, the
time base is usable and the gate's angle has come (R36, R153, R159). -/
structure State.ReadGateDue (t : State) (p : PackId) (a : ArmId) (h : HeadId) (r : Run) (g : GatePlan) (at_ : AngleTime) : Prop where
  run : (t.arm p a).fmt.run h false = some r
  running : (t.arm p a).fmt.running = true
  active : (t.lane p a h).chan.power.active = true
  closed : (t.lane p a h).chan.readOpen = false
  usable : t.tbUsable p = true
  turn : (t.arm p a).fmt.readTurn r = true
  due : t.dueGate p a h (mkAddr p.val h.val r.track (r.first + r.done)) ((t.lane p a h).chan.store.any (fun x => x.phase = .reading))
    r.fromTime = some (g, at_)

/-- Nothing cancels, refuses or conflicts with a lane's read gate (R155, R206). -/
structure State.ReadGateFree (t : State) (p : PackId) (a : ArmId) (h : HeadId) (g : GatePlan) : Prop where
  cancel : (t.arm p a).fmt.cancel = false
  time : t.timeRefused p a h = false
  servo : t.servoOpen p a h = false
  write : (t.lane p a h).chan.writeOpen = false
  cross : crossesWindow g.first g.readEnd = false

theorem State.ReadGateDue.notBarred {t : State} {p : PackId} {a : ArmId} {h : HeadId} {r : Run} {g : GatePlan} {at_ : AngleTime}
    (hdue : t.ReadGateDue p a h r g at_) :
    ¬ (¬ (t.arm p a).fmt.running = true ∨ ¬ (t.lane p a h).chan.power.active = true ∨ (t.lane p a h).chan.readOpen = true
      ∨ ¬ t.tbUsable p = true ∨ ¬ (t.arm p a).fmt.readTurn r = true) := by
  simp [hdue.running, hdue.active, hdue.closed, hdue.usable, hdue.turn]

theorem State.ReadGateFree.noConflict {t : State} {p : PackId} {a : ArmId} {h : HeadId} {g : GatePlan} (hfree : t.ReadGateFree p a h g) :
    ¬ (t.servoOpen p a h = true ∨ (t.lane p a h).chan.writeOpen = true ∨ crossesWindow g.first g.readEnd = true) := by
  simp [hfree.servo, hfree.write, hfree.cross]

/-- The lane's reading run stands at the gate's time. -/
def State.atReadGate (s : State) (p : PackId) (a : ArmId) (h : HeadId) (at_ : AngleTime) : State :=
  s.updFmt p a (fun f => { f with runs := updRun h false (fun r => { r with fromTime := at_ }) f.runs })

/-- The nominal rate of a gate's cells at the measured revolution period (R139). -/
def State.gateRate (t : State) (p : PackId) (g : GatePlan) : Nat := g.zrec.cells * 10 ^ 11 / max t.packs[p].tb.revPeriod 1

section
variable {s t : State} {p : PackId} {a : ArmId} {h : HeadId} (hnext : s.atNext p a h false = t)
include hnext

section
variable {r : Run} {g : GatePlan} {at_ : AngleTime} (hdue : t.ReadGateDue p a h r g at_)
include hdue

/-- A cancel that waited for the writes ends the routine at the gate (R206). -/
theorem execReadGateOpen_cancelled (hcancel : (t.arm p a).fmt.cancel = true) :
    execReadGateOpen p a h s = .next ((t.endRoutine p a 0x1A).kick p a) := by
  simp only [execReadGateOpen, hnext, hdue.run, if_neg hdue.notBarred, hdue.due, if_pos hcancel]

section
variable (hcancel : (t.arm p a).fmt.cancel = false)
include hcancel

theorem execReadGateOpen_sitsOut (htime : t.timeRefused p a h = true) : execReadGateOpen p a h s = .next (t.sitOutRest p a h) := by
  simp only [execReadGateOpen, hnext, hdue.run, if_neg hdue.notBarred, hdue.due, if_neg (ne_true_of_eq_false hcancel), if_pos htime]

theorem execReadGateOpen_conflict (htime : t.timeRefused p a h = false)
    (hconflict : t.servoOpen p a h = true ∨ (t.lane p a h).chan.writeOpen = true ∨ crossesWindow g.first g.readEnd = true) :
    execReadGateOpen p a h s = .next (t.gateConflict p a h) := by
  simp only [execReadGateOpen, hnext, hdue.run, if_neg hdue.notBarred, hdue.due, if_neg (ne_true_of_eq_false hcancel),
    if_neg (ne_true_of_eq_false htime), if_pos hconflict]

end

section
variable (hfree : t.ReadGateFree p a h g)
include hfree

/-- The second fragment of the sector under way reloads the phase and keeps the loops (R146). -/
theorem execReadGateOpen_second (hsecond : (t.lane p a h).chan.store.any (fun x => x.phase = .reading) = true) :
    execReadGateOpen p a h s = .next ((t.atReadGate p a h at_).updChan p a h (fun c =>
      c.openRead at_ g (t.gateRate p g) true ({}, 0))) := by
  simp only [execReadGateOpen, hnext, hdue.run, if_neg hdue.notBarred, hdue.due, if_neg (ne_true_of_eq_false hfree.cancel),
    if_neg (ne_true_of_eq_false hfree.time), if_neg hfree.noConflict, if_pos hsecond]
  rfl

variable (hfirst : (t.lane p a h).chan.store.any (fun x => x.phase = .reading) = false)
include hfirst

/-- A held sample store misses the sector, which goes to the ladder's first step (R147, R177). -/
theorem execReadGateOpen_storeHeld (hstore : storeRoom (t.lane p a h).chan.store = none) :
    execReadGateOpen p a h s = .next (((t.atReadGate p a h at_).toLadder p a h
        { lane := h, addr := mkAddr p.val h.val r.track (r.first + r.done), reason := 0x10, step := 1, verify := decide (r.type = 2) }).updFmt
      p a (fun f => { f with runs := updRun h false (fun r => r.advance true) f.runs })) := by
  simp only [execReadGateOpen, hnext, hdue.run, if_neg hdue.notBarred, hdue.due, if_neg (ne_true_of_eq_false hfree.cancel),
    if_neg (ne_true_of_eq_false hfree.time), if_neg hfree.noConflict, if_neg (ne_true_of_eq_false hfirst), hstore]
  rfl

/-- With room in the store the sector's gate opens with the starting values of the cache or the zone (R139, R145). -/
theorem execReadGateOpen_opens {l : List Reading} (hstore : storeRoom (t.lane p a h).chan.store = some l) :
    execReadGateOpen p a h s = .next (
      let f := (t.arm p a).fmt
      let v := t.startValues p a h g.zone g.zrec 0 g.zrec.boost
      (t.atReadGate p a h at_).updChan p a h (fun c =>
        { c.openRead at_ g (t.gateRate p g) false v with
          cache := if t.overridden p a h then c.cache else touchCache g.zone t.packs[p].spindle.target c.cache,
          capturing := t.dev.state = .bench && t.param (0xF203 + p.val * 8) 0 == laneSub a h,
          store := l ++ [{ addr := mkAddr p.val h.val r.track (r.first + r.done), split := g.place.first.isSome, verify := r.type = 2,
                           first := g.place.first.getD 37440, tag := reqTag f.req, restart := f.restarts, loops := v.1.loops,
                           params := t.recParams p }] })) := by
  simp only [execReadGateOpen, hnext, hdue.run, if_neg hdue.notBarred, hdue.due, if_neg (ne_true_of_eq_false hfree.cancel),
    if_neg (ne_true_of_eq_false hfree.time), if_neg hfree.noConflict, if_neg (ne_true_of_eq_false hfirst), hstore]
  rfl

end
end

/-- With no run left on the lane a ladder read's gate opens (R179). -/
theorem execReadGateOpen_ladder (hrun : (t.arm p a).fmt.run h false = none) (hrunning : (t.arm p a).fmt.running = true)
    (hladder : (t.arm p a).fmt.laddering = true) (hactive : (t.lane p a h).chan.power.active = true)
    (hread : (t.lane p a h).chan.readOpen = false) (hwrite : (t.lane p a h).chan.writeOpen = false)
    (hservo : t.servoOpen p a h = false) (husable : t.tbUsable p = true) :
    execReadGateOpen p a h s = .next (t.openLadder p a h) := by
  simp [execReadGateOpen, hnext, hrun, hrunning, hladder, hactive, hread, hwrite, hservo, husable]

end

/-! ### The sync decision and the close of a read gate -/

/-- A fragment's mark and its window's decisions enter the sector (R147, R168). -/
def Reading.takeMark (r : Reading) (second : Bool) (m : Option Mark) (win : List Bool) : Reading :=
  if second then { r with mark2 := m, frag2 := { r.frag2 with window := win }, decided := r.decided + 1 }
  else { r with mark1 := m, frag1 := { r.frag1 with window := win }, decided := r.decided + 1 }

/-- The cells of a revolution in the zone of a sector's track; none where no table names it. -/
def State.sectorCells (s : State) (p : PackId) (a : ArmId) (h : HeadId) (addr : Nat) : Nat :=
  match s.trackZone p a h (addrTrack addr) with
  | some z => z.2.cells
  | none => 0

section
variable {s : State} {p : PackId} {a : ArmId} {h : HeadId} {r : Reading}
  (hreading : (s.lane p a h).chan.store.find? (fun r => r.phase = .reading) = some r) (hopen : (s.lane p a h).chan.readOpen = true)
include hreading hopen

/-- A window that has closed since the last decision is decided (R168 to R170). -/
theorem execSyncWindowDecision_decides {bits : List Bool} {second : Bool} {w : Nat} (hundecided : r.decided = r.closed)
    (hsecond : decide (0 < r.closed) = second) (hw : recOf r.params 3 = w)
    (hcome : angleReached (decisionTime (s.lane p a h).chan.gateFrom (s.sectorCells p a h r.addr) w second) (s.laneAngle p a h) = true) :
    execSyncWindowDecision p a h bits s = .next (s.updChan p a h (fun c =>
      { c with store := updReading .reading (fun x => x.takeMark second
          (decideMark w (recOf r.params (if second then 2 else 1)) (markDistances second w bits))
          (bits.take (2 * w + markLen second))) c.store })) := by
  subst hsecond hw
  simp only [execSyncWindowDecision, hreading]
  refine congrArg Host.Outcome.next (if_neg ?_)
  rintro (hclosed | hdecided | hahead)
  · exact hclosed hopen
  · exact hdecided hundecided
  · exact hahead hcome

end

/-- A gate is its sector's last unless it is the first of two. -/
theorem Reading.not_betweenFragments {r : Reading} (hlast : r.split = false ∨ r.closed ≠ 1) : ¬ (r.split = true ∧ r.closed = 1) :=
  fun ⟨hsplit, hclosed⟩ => hlast.elim (fun hwhole => ne_true_of_eq_false hwhole hsplit) (fun hother => hother hclosed)

/-- What a read gate found enters the lane's capture and its health (R485, R164). -/
def State.afterReadGate (s : State) (p : PackId) (a : ArmId) (h : HeadId) (g : GateResult) : State :=
  (s.endCapture p a h g.frag.samples).updHealth p a h (fun x => x.sawRead (g.frag.marks.count true) g.slips)

/-- The lane's run has read its sector and stands at the next. -/
def State.pastSector (s : State) (p : PackId) (a : ArmId) (h : HeadId) : State :=
  s.updFmt p a (fun f => { f with runs := updRun h false (fun x => x.advance true) f.runs })

/-- The read gate has closed and the sector under way is now `r`. -/
def State.putReading (s : State) (p : PackId) (a : ArmId) (h : HeadId) (g : GateResult) (r : Reading) : State :=
  s.updChan p a h (fun c =>
    { c with readOpen := false, power := .idle, tail := g.tail, store := updReading .reading (fun _ => r) c.store })

section
variable {s : State} {p : PackId} {a : ArmId} {h : HeadId} {r0 r : Reading} {cells : List CellSample} {g : GateResult}
  (hopen : (s.lane p a h).chan.readOpen = true) (hcome : angleReached (s.lane p a h).chan.gateEnd (s.laneAngle p a h) = true)
  (hreading : (s.lane p a h).chan.store.find? (fun r => r.phase = .reading) = some r0)
  (hgate : s.readGate p a h (decide (0 < r0.closed)) r0.loops (if r0.closed = 0 then r0.frag1.window else r0.frag2.window) cells = g)
  (hr : r0.takeGate g = r)
include hopen hcome hreading hgate hr

/-- After its first fragment a split sector waits for the second. -/
theorem execReadGateClose_firstFragment (hsplit : r.split = true) (hclosed : r.closed = 1) :
    execReadGateClose p a h cells s = .next ((s.afterReadGate p a h g).putReading p a h g r) := by
  simp only [execReadGateClose, hopen, hcome, hreading, hgate, hr, hsplit, hclosed, not_true_eq_false, or_self, and_self, if_false, if_true]
  rfl

variable (hlast : r.split = false ∨ r.closed ≠ 1)
include hlast

/-- With an alignment the first decode begins (R171, R172). -/
theorem execReadGateClose_decodes {x : Int × Int × Bool} (halign : alignments r.split r.mark1 r.mark2 = some x) :
    execReadGateClose p a h cells s = .next (((s.afterReadGate p a h g).pastSector p a h).putReading p a h g
      { r with phase := .decoding }) := by
  simp only [execReadGateClose, hopen, hcome, hreading, hgate, hr, halign, if_neg (Reading.not_betweenFragments hlast), not_true_eq_false,
    or_self, if_false]
  rfl

/-- Without one the sector awaits the ladder with reason sync not found (R171). -/
theorem execReadGateClose_noSync (halign : alignments r.split r.mark1 r.mark2 = none) :
    execReadGateClose p a h cells s = .next ((((s.afterReadGate p a h g).pastSector p a h).putReading p a h g
        { r with phase := .ended }).toLadder p a h
      { lane := h, addr := r.addr, reason := 0x10, marksOwn := r.marked, drop0 := r.dropout, verify := r.verify,
        last := some (r.base (((s.afterReadGate p a h g).arm p a).fmt.readStep h r.addr)) }) := by
  simp only [execReadGateClose, hopen, hcome, hreading, hgate, hr, halign, if_neg (Reading.not_betweenFragments hlast), not_true_eq_false,
    or_self, if_false]
  rfl

end

/-- Settles O22: each outcome of a read gate's opening, of a sync decision and of a gate's close by its lemma above. -/
theorem readGates : Obligations.ReadGates := by
  intro s p a h
  refine ⟨?_, fun r bits hreading hopen hundecided =>
      execSyncWindowDecision_decides hreading hopen hundecided rfl rfl,
    fun r0 cells hopen hcome hreading => ⟨execReadGateClose_firstFragment hopen hcome hreading rfl rfl,
      fun x hlast => execReadGateClose_decodes hopen hcome hreading rfl rfl hlast,
      execReadGateClose_noSync hopen hcome hreading rfl rfl⟩⟩
  generalize hnext : s.atNext p a h false = t
  refine ⟨fun r g at_ hrun hrunning hactive hclosed husable hturn hgate => ?_, execReadGateOpen_ladder hnext⟩
  have hdue : t.ReadGateDue p a h r g at_ := ⟨hrun, hrunning, hactive, hclosed, husable, hturn, hgate⟩
  refine ⟨execReadGateOpen_cancelled hnext hdue, execReadGateOpen_sitsOut hnext hdue, execReadGateOpen_conflict hnext hdue,
    fun hcancel htime hservo hwrite hcross => ?_⟩
  have hfree : t.ReadGateFree p a h g := ⟨hcancel, htime, hservo, hwrite, hcross⟩
  exact ⟨execReadGateOpen_second hnext hdue hfree, execReadGateOpen_storeHeld hnext hdue hfree,
    fun l hfirst => execReadGateOpen_opens hnext hdue hfree hfirst⟩

end Sys2Proof.Machine

namespace Sys2Proof.Machine
open Sys2Proof

/-! ### Insertion, verification and removal of a pack -/

/-- The conditioned level of a slot's PACK_PRES (R93, R94). -/
def State.presLevel (s : State) (p : PackId) (b : Bool) : State :=
  { s with inputs := { s.inputs with
      pres := s.inputs.pres.set p.val { s.inputs.pres[p] with filtered := b, conditioned := b } p.isLt } }

theorem execPackPresAssert_eq (p : PackId) (s : State) : execPackPresAssert p s = .next ((s.presLevel p true).presAssert p) := rfl

theorem execPackPresDeassert_eq (p : PackId) (s : State) : execPackPresDeassert p s = .next ((s.presLevel p false).presDeassert p) := rfl

section
variable {s : State} {p : PackId}

theorem State.presAssert_absent (hfit : s.packFitted p = true) (habs : s.packs[p].state = .absent) :
    s.presAssert p = (s.setPackState p .present).updPack p (fun k => { k with settling := true }) := by
  rw [State.presAssert, if_neg (not_not_intro hfit), if_pos habs]

theorem State.presAssert_seated (hseat : s.packs[p].state ≠ .absent) : s.presAssert p = s := by
  rw [State.presAssert, if_neg hseat, ite_self]

theorem State.presDeassert_absent (habs : s.packs[p].state = .absent) :
    s.presDeassert p = s.updPack p (fun k => { k with removable := false, removalDue := false }) := if_pos habs

/-! #### The end of the settle timer -/

/-- The settle timer of a pack ends: its identity memory is read. -/
def State.memoryRead (s : State) (p : PackId) (m : PackMem) : State :=
  (s.updPack p (fun k => { k with settling := false, i2c := { k.i2c with identity := 0 } })).takeMemory p m

/-- A pack that passes its verification keeps what was read, and its life record says which state it reaches (R90). -/
def State.passVerification (s : State) (p : PackId) (m : PackMem) (i : Identity) (c : PackClass) (l : Life) (fresh : Bool) : State :=
  let s1 := s.updPack p (fun k => { k with identity := some i, factory := some (parseFactory m), life := l, lifeRead := true,
                                           unsignedFlag := c = .unsigned, counterfeit := c = .counterfeit })
  let s2 := if fresh then s1.send (.i2cWrite p.val (lifeCopy 0) (lifeBytes l)) else s1
  if l.retired then s2.setPackState p .retired
  else if l.spent then (s2.setPackState p .spent).noteEmpty
  else (s2.setPackState p .verified).startLog p

section
variable {m : PackMem} (hset : s.packs[p].settling = true) (hact : s.clusters.active.isSome = true) (hzeph : s.dev.state ≠ .zephyr)
include hset hact hzeph

/-- Memory is read at the end of a settle timer while a cluster runs, outside Zephyr. -/
theorem settleDone_reads : ¬ (¬ s.packs[p].settling ∨ s.clusters.active.isNone ∨ s.dev.state = .zephyr) := by
  rintro (h | h | h)
  · exact h hset
  · exact Option.isSome_iff_ne_none.mp hact (Option.isNone_iff_eq_none.mp h)
  · exact hzeph h

theorem execPackSettleDone_notPresent (h : s.packs[p].state ≠ .present) : execPackSettleDone p m s = .next (s.memoryRead p m) := by
  rw [execPackSettleDone, if_neg (settleDone_reads hset hact hzeph)]
  exact congrArg Host.Outcome.next (if_pos h)

section
variable (hpres : s.packs[p].state = .present)
include hpres

theorem execPackSettleDone_fails {c : Nat} (hver : (s.memoryRead p m).verifyPack p m = .error c) :
    execPackSettleDone p m s = .next (((s.memoryRead p m).packFail p c).kickPack p) := by
  rw [execPackSettleDone, if_neg (settleDone_reads hset hact hzeph)]
  simp only [State.memoryRead] at hver ⊢
  simp only [hpres, hver, ne_eq, not_true_eq_false, if_false]

theorem execPackSettleDone_passes {i : Identity} {c : PackClass} {l : Life} {fresh : Bool}
    (hver : (s.memoryRead p m).verifyPack p m = .ok (i, c, l, fresh)) :
    execPackSettleDone p m s = .next ((s.memoryRead p m).passVerification p m i c l fresh) := by
  rw [execPackSettleDone, if_neg (settleDone_reads hset hact hzeph)]
  simp only [State.memoryRead] at hver ⊢
  simp only [hpres, hver, ne_eq, not_true_eq_false, if_false]
  rfl

end
end

/-! #### I2C retries and the life record -/

section
variable {dev : Fin 3} (hseat : s.packs[p].state ≠ .absent) (hdev : s.packs[p].settling = false ∨ dev ≠ 0)
include hseat hdev

theorem i2cRetry_due : ¬ (s.packs[p].state = .absent ∨ (s.packs[p].settling ∧ dev = 0)) := by
  rintro (habs | ⟨hsettling, hzero⟩)
  · exact hseat habs
  · exact hdev.elim (fun h => Bool.false_ne_true (h.symm.trans hsettling)) (fun h => h hzero)

theorem execI2cRetry_again (hn : s.packs[p].i2c.get dev < 3) : execI2cRetry p dev s =
    .next ((s.updPack p (fun k => { k with i2c := k.i2c.set dev (s.packs[p].i2c.get dev + 1) })).send (.i2cRecover p.val)) := by
  rw [execI2cRetry, if_neg (i2cRetry_due hseat hdev)]
  exact congrArg Host.Outcome.next (if_pos hn)

theorem execI2cRetry_exhausted (hn : 3 ≤ s.packs[p].i2c.get dev) :
    execI2cRetry p dev s = .next (s.updPack p (fun k => { k with i2c := k.i2c.set dev 0 })) := by
  rw [execI2cRetry, if_neg (i2cRetry_due hseat hdev)]
  exact congrArg Host.Outcome.next (if_neg (Nat.not_lt.mpr hn))

end

theorem execLifeRecordWrite_turning (hturn : s.packs[p].spindle.turning = true) (readBack : Bool) :
    execLifeRecordWrite p readBack s = .next (s.writeLife p readBack) := congrArg Host.Outcome.next (if_pos hturn)

theorem State.writeLife_read (hread : s.packs[p].lifeRead = true) (readBack : Bool) : s.writeLife p readBack =
    let l := s.packs[p].life
    let next := { l with sequence := (l.sequence + 1) % 2 ^ 32 }
    let copy := if l.newer = 0 then 1 else 0
    (s.send (.i2cWrite p.val (lifeCopy copy) (lifeBytes next))).updPack p (fun k =>
      { k with life := if readBack then { next with newer := copy } else k.life, i2c := { k.i2c with identity := 0 } }) :=
  if_neg (not_not_intro hread)

end

/-- Settles O17: PACK_PRES both ways, the settle timer's three ends, then the I2C transactions. -/
theorem packPresenceAndVerification : Obligations.PackPresenceAndVerification := by
  refine fun s p => ⟨fun hfit habs => (execPackPresAssert_eq p s).trans (congrArg Host.Outcome.next (State.presAssert_absent hfit habs)),
    fun hseat => (execPackPresAssert_eq p s).trans (congrArg Host.Outcome.next (State.presAssert_seated hseat)),
    fun _ => execPackPresDeassert_eq p s,
    fun habs => (execPackPresDeassert_eq p s).trans (congrArg Host.Outcome.next (State.presDeassert_absent habs)),
    fun m hset hact hzeph => ⟨execPackSettleDone_notPresent hset hact hzeph,
      fun c hpres hver => execPackSettleDone_fails hset hact hzeph hpres hver,
      fun i c l fresh hpres hver => execPackSettleDone_passes hset hact hzeph hpres hver⟩,
    fun dev hseat hdev => ⟨execI2cRetry_again hseat hdev, execI2cRetry_exhausted hseat hdev⟩,
    fun hread hturn => ⟨?_, ?_⟩⟩
  · exact (execLifeRecordWrite_turning hturn true).trans (congrArg Host.Outcome.next (State.writeLife_read hread true))
  · exact (execLifeRecordWrite_turning hturn false).trans (congrArg Host.Outcome.next (State.writeLife_read hread false))

end Sys2Proof.Machine

namespace Sys2Proof.Machine
open Sys2Proof

/-! ### Arm links -/

section
variable {s : State} {p : PackId} {a : ArmId}

/-! #### STATUS frames -/

/-- The arm has taken a STATUS frame: it is kept, its echo taken, and the lanes under flags [0] to [2] are removed (R81, R85, R87). -/
def State.takeStatus (s : State) (p : PackId) (a : ArmId) (f : List Byte) : State :=
  let t := (s.updLink p a (fun l => { l with status := f.drop 1 })).echo p a (fieldAt f 5 1)
  if fieldAt f 1 1 % 8 ≠ 0 ∧ fieldAt f 2 2 ≠ 0 then t.removeLanes p a (fieldAt f 2 2) ((fieldAt f 1 1).testBit 2) else t

/-- The arm has taken a REGRESP frame: it is kept, and a register LINK that waits for it has its data (R81, R203). -/
def State.takeRegister (s : State) (p : PackId) (a : ArmId) (f : List Byte) : State :=
  let t := s.updLink p a (fun l => { l with regResp := f.drop 1 })
  match (s.arm p a).fmt.regWait.find? (fun w => w.2 = fieldAt f 5 1) with
  | some w => t.updFmt p a (fun x =>
      { x with regs := x.regs.set w.1 (BitVec.ofNat 64 (fieldAt f 3 2)), regWait := x.regWait.erase w })
  | none => t

section
variable (hseat : s.packs[p].state ≠ .absent) {f : List Byte}
include hseat

/-- A frame that fails its checks is only counted. -/
theorem execStatusFrame_bad (hbad : frameOk 5 8 f = false) : execStatusFrame p a f s = .next (s.discardFrame p a) := by
  exact congrArg Host.Outcome.next ((if_neg hseat).trans (if_pos (ne_true_of_eq_false hbad)))

/-- A link that trains or is up takes a valid frame. -/
theorem execStatusFrame_taken (hok : frameOk 5 8 f = true) (hlive : ¬ ((s.arm p a).link.state = .down ∨ (s.arm p a).link.state = .out)) :
    execStatusFrame p a f s = .next (if (s.arm p a).link.state = .up ∧ ((fieldAt f 1 1).testBit 3 ∨ (fieldAt f 1 1).testBit 4) then
      ((s.takeStatus p a f).loseLink p a).kick p a else s.takeStatus p a f) :=
  congrArg Host.Outcome.next ((if_neg hseat).trans ((if_neg (not_not_intro hok)).trans (if_neg hlive)))

/-- Flags [3] and [4] tell of a preamplifier that is not healthy: a link that is up is given up. -/
theorem execStatusFrame_up (hup : (s.arm p a).link.state = .up) (hok : frameOk 5 8 f = true) : execStatusFrame p a f s =
    .next (if (fieldAt f 1 1).testBit 3 ∨ (fieldAt f 1 1).testBit 4 then ((s.takeStatus p a f).loseLink p a).kick p a
      else s.takeStatus p a f) := by
  rw [execStatusFrame_taken hseat hok (by rw [hup]; decide)]
  simp only [hup, true_and]

/-- A link in training has nothing to give up. -/
theorem execStatusFrame_training (htrain : (s.arm p a).link.state = .training) (hok : frameOk 5 8 f = true) :
    execStatusFrame p a f s = .next (s.takeStatus p a f) := by
  rw [execStatusFrame_taken hseat hok (by rw [htrain]; decide), if_neg (by rw [htrain]; exact fun h => absurd h.1 (by decide))]

/-! #### REGRESP frames -/

theorem execRegrespFrame_bad (hbad : frameOk 6 7 f = false) : execRegrespFrame p a f s = .next (s.discardFrame p a) := by
  exact congrArg Host.Outcome.next ((if_neg hseat).trans (if_pos (ne_true_of_eq_false hbad)))

/-- A register LINK that waits for the frame goes on; a status other than done ends the load under way. -/
theorem execRegrespFrame_up (hup : (s.arm p a).link.state = .up) (hok : frameOk 6 7 f = true) : execRegrespFrame p a f s =
    .next (if fieldAt f 2 1 ≠ 0 ∧ (s.arm p a).servo.mode = .loading then (((s.takeRegister p a f).parkArm p a).countLoadFailure p a).kickPack p
      else s.takeRegister p a f) :=
  congrArg Host.Outcome.next ((if_neg hseat).trans ((if_neg (not_not_intro hok)).trans (if_neg (not_not_intro hup))))

end

/-! #### Silence and frames not echoed -/

theorem execArmLinkRxTimeout_up (hup : (s.arm p a).link.state = .up) : execArmLinkRxTimeout p a s = .next ((s.loseLink p a).kick p a) :=
  congrArg Host.Outcome.next (if_pos hup)

section
variable {u : Unechoed} {rest : List Unechoed} (hup : (s.arm p a).link.state = .up) (hun : (s.arm p a).link.unechoed = u :: rest)
include hup hun

/-- The frame sent longest ago goes out again, behind those that still wait. -/
theorem execCmdEchoTimeout_resends (hn : u.resends < 3) : execCmdEchoTimeout p a s = .next ((s.updLink p a (fun l =>
    { l with unechoed := rest ++ [{ u with resends := u.resends + 1 }] })).send (.frame p.val a.val u.frame)) := by
  simp [execCmdEchoTimeout, hup, hun, hn]

theorem execCmdEchoTimeout_gives_up (hn : 3 ≤ u.resends) : execCmdEchoTimeout p a s = .next ((s.loseLink p a).kick p a) := by
  simp [execCmdEchoTimeout, hup, hun, Nat.not_lt.mpr hn]

end

/-! #### Training -/

section
variable (hseat : s.packs[p].state ≠ .absent) (hdown : (s.arm p a).link.state = .training ∨ (s.arm p a).link.state = .down)
include hseat hdown

theorem execArmLinkTrainingDone_up : execArmLinkTrainingDone p a s =
    .next (s.updLink p a (fun l => { l with state := .up, attempts := 0, unechoed := [] })) :=
  congrArg Host.Outcome.next (if_pos ⟨hseat, hdown⟩)

theorem execArmLinkTrainingTimeout_again (hn : (s.arm p a).link.attempts < 2) : execArmLinkTrainingTimeout p a s =
    .next (s.updLink p a (fun l => { l with state := .training, attempts := l.attempts + 1 })) :=
  congrArg Host.Outcome.next ((if_pos ⟨hseat, hdown⟩).trans (if_pos (Nat.succ_lt_succ hn)))

/-- After the third attempt the arm is out. -/
theorem execArmLinkTrainingTimeout_out (hn : 2 ≤ (s.arm p a).link.attempts) : execArmLinkTrainingTimeout p a s =
    .next (((((s.updLink p a (fun l => { l with state := .out, attempts := 3 })).updServo p a (fun v =>
      { v with outLink := true, reloadPending := false })).checkOut p)).kickPack p) :=
  congrArg Host.Outcome.next ((if_pos ⟨hseat, hdown⟩).trans (if_neg (by omega)))

end

end

/-- Settles O18: the frames an arm link takes, then its timers and its training, whose first attempt from Down is the model's choice (log entry
16). -/
theorem armLinkFrames : Obligations.ArmLinkFrames := by
  refine fun s p a => ⟨fun f hseat hup hok => execStatusFrame_up hseat hup hok, fun f hseat htrain hok => execStatusFrame_training hseat htrain hok,
    fun f hseat hbad => execStatusFrame_bad hseat hbad, fun f hseat hup hok => execRegrespFrame_up hseat hup hok,
    fun f hseat hbad => execRegrespFrame_bad hseat hbad, execArmLinkRxTimeout_up,
    fun u rest hup hun hn => execCmdEchoTimeout_resends hup hun hn, fun u rest hup hun hn => execCmdEchoTimeout_gives_up hup hun hn,
    fun hseat hdown => execArmLinkTrainingDone_up hseat hdown, fun hseat hdown hn => execArmLinkTrainingTimeout_again hseat hdown hn,
    fun hseat hdown hn => execArmLinkTrainingTimeout_out hseat hdown hn⟩

end Sys2Proof.Machine

namespace Sys2Proof.Machine
open Sys2Proof

/-! ### Pack commands and spin-up -/

section
variable {s : State} {p : PackId}

theorem State.packCommand_outside (h : s.dev.state.packCommands = false) (v : Nat) : s.packCommand p v = .error 0x08000022 := by
  simp [State.packCommand, h]

theorem State.tryPackCommand_ok {v : Nat} {t : State} (h : s.packCommand p v = .ok t) : s.tryPackCommand p v = t := by
  rw [State.tryPackCommand, h]

theorem State.tryPackCommand_error {v e : Nat} (h : s.packCommand p v = .error e) : s.tryPackCommand p v = s := by
  rw [State.tryPackCommand, h]

/-! #### One equation for each command, in the states of R103 -/

/-- Prepare removal once the pack's arms and spindle have their orders (R95, R99). -/
def State.endPrepare (s : State) (p : PackId) : State :=
  let t := ((s.releaseSpin p).kickPack p).admissionPass
  if t.packs[p].spindle.state = .off then t.checkRemoval p else t

section
variable (hcmd : s.dev.state.packCommands = true)
include hcmd

theorem State.packCommand_drain : s.packCommand p 1 =
    if s.packs[p].state = .ready ∧ s.inSpan p then .ok ((s.setPackState p .draining).noteEmpty) else .error 0x08000022 := by
  simp [State.packCommand, hcmd]

theorem State.packCommand_cancelDrain : s.packCommand p 2 =
    if s.packs[p].state = .draining then .ok (s.setPackState p .ready) else .error 0x08000022 := by
  simp [State.packCommand, hcmd]

theorem State.packCommand_retire : s.packCommand p 3 =
    if s.packs[p].state = .failed ∨ ((s.packs[p].state = .ready ∨ s.packs[p].state = .verified) ∧ ¬ s.inSpan p) then .ok (s.retirePack p)
    else .error 0x08000022 := by
  simp [State.packCommand, hcmd]

theorem State.packCommand_prepare : s.packCommand p 4 =
    if s.packs[p].state = .present ∨ s.packs[p].state = .verified ∨ s.packs[p].state = .failed ∨ s.packs[p].state = .retired
      ∨ (s.packs[p].state = .ready ∧ ¬ s.inSpan p) then
      .ok (State.endPrepare (if s.packs[p].state = .ready then (s.updPack p (fun k => { k with removalDue := true })).packToVerified p
        else ((s.updPack p (fun k => { k with removalDue := true })).parkPack p).updSpin p Spindle.stop) p)
    else .error 0x08000022 := by
  simp [State.packCommand, State.endPrepare, hcmd]

/-- A pack that is not in service parks its arms and stops its spindle. -/
theorem State.packCommand_prepare_idle (h : s.packs[p].state = .present ∨ s.packs[p].state = .verified ∨ s.packs[p].state = .failed
    ∨ s.packs[p].state = .retired) : s.packCommand p 4 =
      .ok (State.endPrepare (((s.updPack p (fun k => { k with removalDue := true })).parkPack p).updSpin p Spindle.stop) p) := by
  have hready : s.packs[p].state ≠ .ready := by
    intro e
    rw [e] at h
    exact absurd h (by decide)
  exact (State.packCommand_prepare hcmd).trans ((if_pos (h.imp_right (Or.imp_right (Or.imp_right Or.inl)))).trans
    (congrArg (fun t : State => Except.ok (t.endPrepare p)) (if_neg hready)))

/-- A Ready pack outside the span goes to Verified. -/
theorem State.packCommand_prepare_ready (hready : s.packs[p].state = .ready) (hout : s.inSpan p = false) : s.packCommand p 4 =
    .ok (State.endPrepare ((s.updPack p (fun k => { k with removalDue := true })).packToVerified p) p) :=
  (State.packCommand_prepare hcmd).trans ((if_pos (.inr (.inr (.inr (.inr ⟨hready, ne_true_of_eq_false hout⟩))))).trans
    (congrArg (fun t : State => Except.ok (t.endPrepare p)) (if_pos hready)))

end

/-! #### Spin-up -/

theorem execSpinupRequest_queued (hwant : s.spinWanted p = true) (hneed : s.spinNeeded p = true) (hnew : s.spinQueue.contains p = false)
    (hidle : s.packs[p].spindle.spinningUp = false) :
    execSpinupRequest p s = .next ({ s with spinQueue := s.spinQueue ++ [p] }.admissionPass) :=
  congrArg Host.Outcome.next (if_pos ⟨hwant, hneed, ne_true_of_eq_false hnew, ne_true_of_eq_false hidle⟩)

section
variable (hout : s.packs[p].spindle.inWindow = false)
include hout

theorem execSpinupTimeout_fails (h : s.packs[p].state = .spinning) : execSpinupTimeout p s = .next ((s.packFail p 6).kickPack p) :=
  congrArg Host.Outcome.next ((if_neg (ne_true_of_eq_false hout)).trans (if_pos h))

/-- A Draining or Spent pack only loses its grant. -/
theorem execSpinupTimeout_withdraws (h : s.packs[p].state = .draining ∨ s.packs[p].state = .spent)
    (hup : s.packs[p].spindle.spinningUp = true) : execSpinupTimeout p s = .next ((s.releaseSpin p).admissionPass) := by
  have hspin : s.packs[p].state ≠ .spinning := by
    intro e
    rw [e] at h
    exact absurd h (by decide)
  exact congrArg Host.Outcome.next ((if_neg (ne_true_of_eq_false hout)).trans ((if_neg hspin).trans (if_pos ⟨h, hup⟩)))

end
end

/-- Settles O19: each command by its equation above, acting and refused; then the two commands of spin-up. What the timeout does to a Draining
or Spent pack is the model's choice (log entry 105). -/
theorem packCommandsAndSpinUp : Obligations.PackCommandsAndSpinUp := by
  intro s p
  have hdone : ∀ {v t}, s.packCommand p v = .ok t → (.next (s.tryPackCommand p v) : Res) = .next t := fun h =>
    congrArg Host.Outcome.next (State.tryPackCommand_ok h)
  have hrefused : ∀ {v e}, s.packCommand p v = .error e → (.next (s.tryPackCommand p v) : Res) = .next s := fun h =>
    congrArg Host.Outcome.next (State.tryPackCommand_error h)
  refine ⟨fun hout c hc => ?_, fun hcmd => ⟨fun hready hmem => ?_, fun hnot => ?_, fun hdrain => ?_, fun hnot => ?_, fun hallow => ?_,
    fun hnot => ?_, fun hallow => ?_, fun hready hmem => ?_, fun hnot => ?_⟩,
    execSpinupRequest_queued, fun hspin hout => execSpinupTimeout_fails hout hspin, fun h hout hup => execSpinupTimeout_withdraws hout h hup⟩
  · have hall : ∀ v, (.next (s.tryPackCommand p v) : Res) = .next s := fun v => hrefused (State.packCommand_outside hout v)
    simp only [List.mem_cons, List.not_mem_nil, or_false] at hc
    obtain rfl | rfl | rfl | rfl := hc
    · exact hall 1
    · exact hall 2
    · exact hall 3
    · exact hall 4
  · exact hdone ((State.packCommand_drain hcmd).trans (if_pos ⟨hready, hmem⟩))
  · refine hrefused ((State.packCommand_drain hcmd).trans (if_neg ?_))
    exact fun h => hnot.elim (fun hne => hne h.1) (fun hout => ne_true_of_eq_false hout h.2)
  · exact hdone ((State.packCommand_cancelDrain hcmd).trans (if_pos hdrain))
  · exact hrefused ((State.packCommand_cancelDrain hcmd).trans (if_neg hnot))
  · refine hdone ((State.packCommand_retire hcmd).trans (if_pos ?_))
    exact hallow.imp_right (fun h => ⟨h.1, ne_true_of_eq_false h.2⟩)
  · refine hrefused ((State.packCommand_retire hcmd).trans (if_neg ?_))
    obtain h | h | h | h | h := hnot <;> simp only [h, reduceCtorEq, or_self, false_and, not_false_eq_true]
  · refine (hdone (State.packCommand_prepare_idle hcmd hallow)).trans ?_
    simp only [State.endPrepare]
  · refine (hdone (State.packCommand_prepare_ready hcmd hready hmem)).trans ?_
    simp only [State.endPrepare]
  · refine hrefused ((State.packCommand_prepare hcmd).trans (if_neg ?_))
    obtain h | h | h | ⟨h, hmem⟩ := hnot
    case inr.inr.inr => simp only [h, hmem, reduceCtorEq, not_true_eq_false, and_false, or_self, not_false_eq_true]
    all_goals simp only [h, reduceCtorEq, or_self, false_and, not_false_eq_true]

end Sys2Proof.Machine

namespace Sys2Proof.Machine
open Sys2Proof

/-! ### Sensors, the pack log and the zone tables -/

section
variable {s : State} {p : PackId}

/-! #### Sensors -/

/-- The readings of a poll are stored, and both transactions have ended. -/
def State.takeReadings (s : State) (p : PackId) (temp : Option Int) (helium : Option Nat) : State :=
  s.updPack p (fun k => { k with sensors := k.sensors.take temp helium, i2c := { k.i2c with temperature := 0, helium := 0 } })

section
variable (hseat : s.packs[p].state ≠ .absent) (hoff : s.dev.state ≠ .off) (hzeph : s.dev.state ≠ .zephyr) (temp : Option Int)
  (helium : Option Nat)
include hseat hoff hzeph

theorem execPackSensorPoll_unknown (hblock : s.packs[p].block = none) :
    execPackSensorPoll p temp helium s = .next (s.takeReadings p temp helium) := by
  simp only [execPackSensorPoll, State.takeReadings, hseat, hoff, hzeph, hblock, or_self, if_false]

/-- Only an identity block in order gives the limits to act on (R100). -/
theorem execPackSensorPoll_known {i : Identity} (hblock : s.packs[p].block = some i) :
    execPackSensorPoll p temp helium s = .next ((s.takeReadings p temp helium).actOnSensors p i temp helium) := by
  simp only [execPackSensorPoll, State.takeReadings, hseat, hoff, hzeph, hblock, or_self, if_false]

end

/-! #### The pack log -/

/-- The oldest waiting record is written to the log's next slot. -/
def State.sendLogSlot (s : State) (p : PackId) (r : EvRec) : State :=
  (s.send (.i2cWrite p.val (0x2040 + 64 * s.packs[p].log.next) r.bytes)).updPack p (fun k => { k with i2c := { k.i2c with identity := 0 } })

section
variable {r : EvRec} {rest : List EvRec} (hwait : s.packs[p].log.waiting = r :: rest) (hseat : s.packs[p].state ≠ .absent)
  (hready : s.packs[p].log.ready = true)
include hwait hseat hready

theorem execPackLogWrite_unread : execPackLogWrite p false s = .next (s.sendLogSlot p r) := by
  simp only [execPackLogWrite, State.sendLogSlot, hwait, hseat, hready, not_true_eq_false, or_self, if_false, Bool.false_eq_true,
    not_false_eq_true, if_true]

/-- The header follows a record that has read back. -/
theorem execPackLogWrite_read : execPackLogWrite p true s =
    .next (((s.sendLogSlot p r).updPack p (fun k => { k with log := s.packs[p].log.push r rest s.now })).send
      (.i2cWrite p.val 0x2000 (s.packs[p].log.push r rest s.now).header)) := by
  simp only [execPackLogWrite, State.sendLogSlot, hwait, hseat, hready, not_true_eq_false, or_self, if_false]

end

/-- A slot of the log is written again with the record it holds. -/
def State.rewriteSlot (s : State) (p : PackId) (slot : Nat) (r : EvRec) (g : PackLog) : State :=
  (s.updPack p (fun k => { k with log := g.put slot r, i2c := { k.i2c with identity := 0 } })).send (.i2cWrite p.val (0x2040 + 64 * slot) r.bytes)

/-- With no older slot due, the newest record's slot is rewritten when its count has changed. -/
theorem execPackLogRepeatRewrite_newest {r : EvRec} (hdue : s.packs[p].log.due = []) (hnew : s.packs[p].log.newest = some r)
    (hstale : s.packs[p].log.stale = true) (htime : s.packs[p].log.rewrittenAt + 60 * 10 ^ 9 ≤ s.now) :
    execPackLogRepeatRewrite p s =
      .next (s.rewriteSlot p s.packs[p].log.lastSlot r { s.packs[p].log with stale := false, rewrittenAt := s.now }) := by
  have hrewrite : rewriteDue s.now s.packs[p].log.rewrittenAt = true := decide_eq_true htime
  simp only [execPackLogRepeatRewrite, State.rewriteSlot, hdue, hnew, hstale, hrewrite, and_self, if_true]

theorem execPackLogRepeatRewrite_due {x : Nat × EvRec × Nat} {rest : List (Nat × EvRec × Nat)} (hdue : s.packs[p].log.due = x :: rest)
    (htime : x.2.2 + 60 * 10 ^ 9 ≤ s.now) :
    execPackLogRepeatRewrite p s = .next (s.rewriteSlot p x.1 x.2.1 { s.packs[p].log with due := rest }) := by
  have hrewrite : rewriteDue s.now x.2.2 = true := decide_eq_true htime
  simp only [execPackLogRepeatRewrite, State.rewriteSlot, hdue, hrewrite, if_true]

/-! #### The zone tables -/

/-- A copy of the zone tables fits the pack: the set of the speed in use matches what the identity memory says of it (R124, R125). -/
def zonesFit (i : Identity) (f : Factory) (second : Bool) (c : List Byte) : Bool :=
  if second then zoneSetMatches (zoneSetBytes c true) i.zones i.speed1 f.digest1 f.surfaces (some (parseZones (zoneSetBytes c false)))
  else zoneSetMatches (zoneSetBytes c false) i.zones i.speed0 f.digest0 f.surfaces none

/-- The tables are awaited by a pack in these states (R90, R125). -/
theorem execZoneTableReadDone_reads {i : Identity} {f : Factory} (hid : s.packs[p].identity = some i) (hfac : s.packs[p].factory = some f)
    (hstate : s.packs[p].state = .loaded ∨ s.packs[p].state = .draining ∨ s.packs[p].state = .spent) {second : Bool}
    (hsecond : decide (s.packs[p].spindle.target ≠ i.speed0) = second) (c0 c1 : List Byte) (lists : MediaLists) :
    execZoneTableReadDone p c0 c1 lists s = .next (
      if zonesFit i f second c0 then s.loadZones p 0 (parseZones (zoneSetBytes c0 second)) lists
      else if zonesFit i f second c1 then s.loadZones p 1 (parseZones (zoneSetBytes c1 second)) lists
      else (s.packFail p 9).kickPack p) := by
  subst hsecond
  simp only [execZoneTableReadDone, hid, hfac]
  exact congrArg Host.Outcome.next (if_neg (not_not_intro hstate))

end

/-- Settles O20: the poll, the two writes of the log, then the tables, whose three clauses are the branches of one equation.
That the wrap count stays at its maximum is the model's choice (log entry 107). -/
theorem packSensorsLogAndZones : Obligations.PackSensorsLogAndZones := by
  refine fun s p => ⟨fun temp helium hseat _ hoff hzeph => ⟨fun hblock => execPackSensorPoll_unknown hseat hoff hzeph temp helium hblock,
      fun i hblock => execPackSensorPoll_known hseat hoff hzeph temp helium hblock⟩,
    fun r rest hwait hseat hready => ⟨execPackLogWrite_unread hwait hseat hready, execPackLogWrite_read hwait hseat hready,
      rfl, rfl, rfl, rfl, rfl⟩,
    fun r hdue hnew hstale htime => execPackLogRepeatRewrite_newest hdue hnew hstale htime,
    fun x rest hdue htime => execPackLogRepeatRewrite_due hdue htime, fun c0 c1 lists i f hid hfac hstate => ?_⟩
  have hread := execZoneTableReadDone_reads hid hfac hstate rfl c0 c1 lists
  refine ⟨fun h0 => hread.trans (congrArg Host.Outcome.next (if_pos h0)),
    fun h0 h1 => hread.trans (congrArg Host.Outcome.next ((if_neg (ne_true_of_eq_false h0)).trans (if_pos h1))),
    fun h0 h1 => hread.trans (congrArg Host.Outcome.next ((if_neg (ne_true_of_eq_false h0)).trans (if_neg (ne_true_of_eq_false h1))))⟩

end Sys2Proof.Machine

namespace Sys2Proof.Machine
open Sys2Proof

/-! ### Starts, checks and stops of a spindle -/

/-- A change of a spindle is told by what it makes of the pack's own. -/
theorem State.updSpin_congr {s : State} {p : PackId} {f g : Spindle → Spindle} (h : f s.packs[p].spindle = g s.packs[p].spindle) :
    s.updSpin p f = s.updSpin p g := by
  simp only [State.updSpin, State.updPack, h]

section
variable {s : State} {p : PackId}

/-! #### The checks of the speed -/

theorem execSpeedInWindow_reached (hrun : 32 ≤ s.packs[p].spindle.inWindowRun) (hout : s.packs[p].spindle.inWindow = false)
    (hstate : s.packs[p].spindle.state = .accelerate ∨ s.packs[p].spindle.state = .atSpeed) : execSpeedInWindow p s =
    .next ((((s.updSpin p (fun x => { x with inWindow := true, state := .atSpeed, attempts := 0 })).releaseSpin p).checkLoaded p).admissionPass) :=
  congrArg Host.Outcome.next (if_pos ⟨hrun, ne_true_of_eq_false hout, hstate⟩)

theorem execSpindleOverspeed_eq (p : PackId) (s : State) : execSpindleOverspeed p s =
    .next (if 16 ≤ s.packs[p].spindle.overRun then (s.packFail p 12).kickPack p else s) := rfl

theorem execSpindleSpeedDeviation_long (hrun : 16 ≤ s.packs[p].spindle.devRun) :
    execSpindleSpeedDeviation p s = .next ((s.packFail p 12).kickPack p) := congrArg Host.Outcome.next (if_pos hrun)

/-! #### Starts -/

/-- What the Watch makes of a spindle found at `v.1` rpm, backward when `v.2` (R282, R283, R285); `fault` is the bus's chopper fault. -/
def Spindle.afterWatch (x : Spindle) (v : Nat × Bool) (amplitude angle : Nat) (fault : Bool) : Spindle :=
  let y := { x with speed := v.1, backward := v.2 }
  let z := if ¬ v.2 = true ∧ x.target * 5 < v.1 * 100 then
      { y.fresh with state := .accelerate, ref := v.1 * 1024, catches := sat32 x.catches 1, qSet := 0, dInteg := 0, qInteg := 0, sInteg := 0,
                     feed := amplitude, caught := some (angle % 2 ^ 28) }
    else if x.target ≤ v.1 * 100 then { y with state := .brake, stopAfterBrake := false }
    else { y with state := .align }
  if fault then z.faultBrake else z

theorem execWatchEnd_watching (hwatch : s.packs[p].spindle.state = .watch) (speed : Nat) (backward : Bool) (amplitude angle : Nat) :
    execWatchEnd p speed backward amplitude angle s = .next (((({ s with free := s.free + 1 } : State).updSpin p (fun x =>
      x.afterWatch (s.packs[p].spindle.watched speed backward amplitude (Config.freeValue s.free)) amplitude angle
        s.buses[busOf p].fault)).tbSpeed p)) :=
  congrArg Host.Outcome.next (if_neg (not_not_intro hwatch))

theorem execWatchEnd_elsewhere (hstate : s.packs[p].spindle.state ≠ .watch) (speed : Nat) (backward : Bool) (amplitude angle : Nat) :
    execWatchEnd p speed backward amplitude angle s = .next s := congrArg Host.Outcome.next (if_pos hstate)

theorem execAlignEnd_aligned (halign : s.packs[p].spindle.state = .align) : execAlignEnd p s =
    .next (s.updSpin p (fun x => { x with state := .forced, forced := 0, forcedFrac := 0, forcedAngle := 0, agreeRun := 0 })) :=
  congrArg Host.Outcome.next (if_pos halign)

section
variable (hforced : s.packs[p].spindle.state = .forced)
include hforced

theorem execForcedHandover_agreed (hrun : 64 ≤ s.packs[p].spindle.agreeRun) : execForcedHandover p s = .next (s.updSpin p (fun x =>
    { x.fresh with state := .accelerate, ref := x.forced, attempts := 0, starts := sat32 x.starts 1 })) :=
  congrArg Host.Outcome.next (if_pos ⟨hforced, hrun⟩)

section
variable (hrun : s.packs[p].spindle.agreeRun < 64) (hfast : s.packs[p].spindle.target * 1024 ≤ s.packs[p].spindle.forced * 10)
include hrun hfast

theorem execStartAttemptFailed_watches (hn : s.packs[p].spindle.attempts < 2) : execStartAttemptFailed p s =
    .next (s.updSpin p (fun x =>
      { x.gatesOff with attempts := x.attempts + 1, state := .watch, forced := 0, forcedFrac := 0, agreeRun := 0, qSet := 0,
                        motor := s.motorSet p })) :=
  congrArg Host.Outcome.next ((if_pos ⟨hforced, hrun, hfast⟩).trans (State.updSpin_congr (if_pos (Nat.succ_lt_succ hn))))

/-- The third attempt is the last. -/
theorem execStartAttemptFailed_off (hn : 2 ≤ s.packs[p].spindle.attempts) : execStartAttemptFailed p s =
    .next (s.updSpin p (fun x => { x.off with attempts := x.attempts + 1 })) :=
  congrArg Host.Outcome.next ((if_pos ⟨hforced, hrun, hfast⟩).trans
    (State.updSpin_congr (if_neg (Nat.not_lt.mpr (Nat.succ_le_succ hn)))))

end
end

/-! #### The controlled stop -/

theorem execControlledStopBegin_armsUp (harms : s.packs[p].armsDown = false) : execControlledStopBegin p s = .next s :=
  congrArg Host.Outcome.next (if_pos (ne_true_of_eq_false harms))

section
variable (harms : s.packs[p].armsDown = true) (hdue : s.packs[p].spindle.stopDue = true)
include harms hdue

/-- A driven spindle is braked to a stop. -/
theorem execControlledStopBegin_driven (hstate : s.packs[p].spindle.state = .forced ∨ s.packs[p].spindle.state = .accelerate
    ∨ s.packs[p].spindle.state = .atSpeed) : execControlledStopBegin p s = .next (s.updSpin p (fun x =>
      { x.fresh with state := .stop, stopDue := false, stopTo := none, shortBrake := false })) := by
  obtain h | h | h := hstate <;>
    simp only [execControlledStopBegin, harms, hdue, h, not_true_eq_false, if_false, if_true]

/-- A spindle that has not been started is Off at once. -/
theorem execControlledStopBegin_unstarted (hstate : s.packs[p].spindle.state = .watch ∨ s.packs[p].spindle.state = .align) :
    execControlledStopBegin p s = .next ((s.updSpin p Spindle.off).checkRemoval p) := by
  obtain h | h := hstate <;>
    simp only [execControlledStopBegin, harms, hdue, h, not_true_eq_false, if_false, if_true]

theorem execControlledStopBegin_braking (hstate : s.packs[p].spindle.state = .brake) : execControlledStopBegin p s =
    .next (s.updSpin p (fun x => { x with stopAfterBrake := true, stopDue := false })) := by
  simp only [execControlledStopBegin, harms, hdue, hstate, not_true_eq_false, if_false, if_true]

end

theorem execPowerStageFault_fitted (hfit : s.packFitted p = true) : execPowerStageFault p s = .next (s.powerStage p) :=
  congrArg Host.Outcome.next (if_pos hfit)

end

/-- Settles O27: the checks, the starts and the stops by their lemmas above. A start is counted at the hand-over by the model's choice (log
entry 81). -/
theorem spindleStartsAndStops : Obligations.SpindleStartsAndStops :=
  fun s p => ⟨execSpeedInWindow_reached,
    fun hrun => (execSpindleOverspeed_eq p s).trans (congrArg Host.Outcome.next (if_pos hrun)),
    fun hrun => (execSpindleOverspeed_eq p s).trans (congrArg Host.Outcome.next (if_neg (Nat.not_le.mpr hrun))),
    execSpindleSpeedDeviation_long, fun speed backward amplitude angle hwatch => execWatchEnd_watching hwatch speed backward amplitude angle,
    execWatchEnd_elsewhere, execAlignEnd_aligned, execForcedHandover_agreed, execStartAttemptFailed_watches, execStartAttemptFailed_off,
    execControlledStopBegin_driven, execControlledStopBegin_unstarted, execControlledStopBegin_braking, execControlledStopBegin_armsUp,
    execPowerStageFault_fitted⟩

end Sys2Proof.Machine

namespace Sys2Proof.Machine
open Sys2Proof

/-! ### Rails and power domains -/

section
variable {s : State}

/-! #### PMBus -/

theorem execPmbusPoll_unsupervised (h : s.param 0x7042 1 ≠ 1) (l : List RailSample) : execPmbusPoll l s = .next s :=
  congrArg Host.Outcome.next (if_neg h)

theorem execPmbusPoll_one (h : s.param 0x7042 1 = 1) (x : RailSample) : execPmbusPoll [x] s = .next (s.readRail x) :=
  congrArg Host.Outcome.next (if_pos h)

section
variable {r : RailId} (hon : s.rails[r].enable = true) (haddr : s.param 0x7042 (r.val + 2) ≠ 0) (mv ma : Nat)
include hon haddr

/-- An enabled rail whose regulator has an address is read. -/
theorem rail_read : ¬ (¬ s.rails[r].enable ∨ s.param 0x7042 (r.val + 2) = 0) :=
  not_or_intro (not_not_intro hon) haddr

theorem State.readRail_acked : s.readRail ⟨r, true, false, mv, ma⟩ =
    s.updRail r (fun y => { y with milliVolt := min mv 0xFFFF, milliAmp := min ma 0xFFFFFFFF }) :=
  (if_neg (rail_read hon haddr)).trans ((if_neg (not_not_intro rfl)).trans (if_neg Bool.false_ne_true))

theorem State.readRail_silent : s.readRail ⟨r, false, false, mv, ma⟩ =
    (s.updRail r (fun y => { y with milliVolt := 0, milliAmp := 0 })).raise 411 :=
  (if_neg (rail_read hon haddr)).trans (if_pos Bool.false_ne_true)

end

/-! #### Domains -/

/-- A domain reaches On and its switching is counted (R522, R550). -/
def State.domainOn (s : State) (d : DomainId) : State := s.updDomain d (fun x => { x with state := 2, switchOns := sat32 x.switchOns 1 })

theorem State.domainOn_state (s : State) (d : DomainId) : (s.domainOn d).domains[d].state = 2 := by
  rw [State.domainOn, State.updDomain_same]

theorem State.groupOn_synth (s : State) (p : PackId) (a : ArmId) :
    ((s.groupOn p a).arm p a).synth = if (s.arm p a).synth = 0 then synthMost else (s.arm p a).synth := by
  rw [State.groupOn, State.updArm_same]

theorem State.groupOn_power (s : State) (p : PackId) (a : ArmId) (h : HeadId) : ((s.groupOn p a).lane p a h).chan.power =
    if (s.lane p a h).chan.power = .off then .servoOnly else (s.lane p a h).chan.power := by
  have harm : ((s.groupOn p a).lane p a h).chan.power = ((s.groupOn p a).arm p a).lanes[h].chan.power := rfl
  rw [harm, State.groupOn, State.updArm_same]
  simp only [Arm.mapLanes, Fin.getElem_fin, Vector.getElem_map]
  rfl

/-- The channels of a bank take the submissions that waited for it (R428, R522). -/
def State.bankRefilled (s : State) (bank : Nat) (l : List MoverId) : State :=
  l.foldl (fun (s : State) c => if c.val / 8 = bank then s.updMover c Mover.refill else s) s

theorem State.bankRefilled_cons (s : State) (bank : Nat) (c : MoverId) (l : List MoverId) : s.bankRefilled bank (c :: l) =
    (if c.val / 8 = bank then s.updMover c Mover.refill else s).bankRefilled bank l := rfl

theorem State.bankRefilled_domains (s : State) (bank : Nat) (l : List MoverId) : (s.bankRefilled bank l).domains = s.domains := by
  induction l generalizing s with
  | nil => rfl
  | cons c l ih =>
    rw [State.bankRefilled_cons, ih]
    split <;> rfl

theorem State.updMover_other (s : State) {c d : MoverId} (f) (h : c ≠ d) : (s.updMover c f).movers[d] = s.movers[d] := by
  simp only [State.updMover, Fin.getElem_fin]
  exact Vector.getElem_set_ne _ _ (fun e => h (Fin.ext e))

theorem State.bankRefilled_absent (s : State) (bank : Nat) {c : MoverId} {l : List MoverId} (h : c ∉ l) :
    (s.bankRefilled bank l).movers[c] = s.movers[c] := by
  induction l generalizing s with
  | nil => rfl
  | cons d l ih =>
    have hne := List.ne_of_not_mem_cons h
    have hl := List.not_mem_of_not_mem_cons h
    rw [State.bankRefilled_cons, ih _ hl]
    split
    · exact State.updMover_other s _ (Ne.symm hne)
    · rfl

/-- A channel is refilled once. -/
theorem State.bankRefilled_same (s : State) {bank : Nat} {c : MoverId} {l : List MoverId} (hbank : c.val / 8 = bank) (hmem : c ∈ l)
    (hl : l.Nodup) : (s.bankRefilled bank l).movers[c] = s.movers[c].refill := by
  induction l generalizing s with
  | nil => cases hmem
  | cons d l ih =>
    obtain ⟨hd, hl⟩ := List.nodup_cons.mp hl
    obtain rfl | hmem := List.mem_cons.mp hmem
    · rw [State.bankRefilled_cons, if_pos hbank, State.bankRefilled_absent _ bank hd, State.updMover_same]
    · have hne : d ≠ c := fun e => hd (e ▸ hmem)
      rw [State.bankRefilled_cons, ih _ hmem hl]
      refine congrArg Mover.refill ?_
      split
      · exact State.updMover_other s _ hne
      · rfl

theorem execDomainSwitchOn_stays {d : DomainId} (h : s.domainWanted d.val = false ∨ s.domains[d].state = 2) :
    execDomainSwitchOn d s = .next s :=
  congrArg Host.Outcome.next (if_pos (h.imp_left ne_true_of_eq_false))

section
variable {d : DomainId} (hwant : s.domainWanted d.val = true) (hoff : s.domains[d].state ≠ 2)
include hwant hoff

theorem domain_switches : ¬ (¬ s.domainWanted d.val ∨ s.domains[d].state = 2) := by
  exact not_or_intro (not_not_intro hwant) hoff

/-- The domain of an arm's lane group. -/
theorem execDomainSwitchOn_group {p : PackId} {a : ArmId} (hd : d.val = 2 * p.val + a.val) :
    execDomainSwitchOn d s = .next ((s.domainOn d).groupOn p a) := by
  have hlt : d.val < 64 := by omega
  have hp : (⟨d.val / 2, by omega⟩ : PackId) = p := Fin.ext (by dsimp only; omega)
  have ha : (⟨d.val % 2, by omega⟩ : ArmId) = a := Fin.ext (by dsimp only; omega)
  rw [execDomainSwitchOn, if_neg (domain_switches hwant hoff)]
  dsimp only
  rw [dif_pos hlt, hp, ha]
  rfl

/-- The domain of a mover bank. -/
theorem execDomainSwitchOn_bank {c : MoverId} (hd : d = moverDomain c) :
    execDomainSwitchOn d s = .next ((s.domainOn d).bankRefilled (c.val / 8) (List.finRange 32)) := by
  have hval : d.val = 172 + c.val / 8 := congrArg Fin.val hd
  rw [execDomainSwitchOn, if_neg (domain_switches hwant hoff)]
  dsimp only
  rw [dif_neg (by omega), if_pos (by omega), show d.val - 172 = c.val / 8 by omega]
  rfl

/-- Any other domain. -/
theorem execDomainSwitchOn_plain (hlo : 64 ≤ d.val) (hhi : d.val < 172 ∨ 176 ≤ d.val) : execDomainSwitchOn d s = .next (s.domainOn d) := by
  rw [execDomainSwitchOn, if_neg (domain_switches hwant hoff)]
  dsimp only
  rw [dif_neg (by omega), if_neg (by omega)]
  rfl

end

theorem execEngineSliceIdle_idle {d : DomainId} (hlo : 160 ≤ d.val) (hhi : d.val < 168) (hidle : s.sliceNeeded d.val = false) :
    execEngineSliceIdle d s = .next (s.updDomain d (fun x => { x with state := 0 })) :=
  congrArg Host.Outcome.next (if_pos ⟨hlo, hhi, ne_true_of_eq_false hidle⟩)

theorem execEngineSliceIdle_stays {d : DomainId} (h : d.val < 160 ∨ 168 ≤ d.val ∨ s.sliceNeeded d.val = true) :
    execEngineSliceIdle d s = .next s := by
  refine congrArg Host.Outcome.next (if_neg ?_)
  rintro ⟨hlo, hhi, hidle⟩
  obtain h | h | h := h
  · omega
  · omega
  · exact hidle h

end

/-! #### The rails off -/

theorem State.updRail_other (s : State) {r q : RailId} (f) (h : r ≠ q) : (s.updRail r f).rails[q] = s.rails[q] := by
  simp only [State.updRail, Fin.getElem_fin]
  exact Vector.getElem_set_ne _ _ (fun e => h (Fin.ext e))

/-- Of the rails a disable changes its own alone. -/
theorem State.disableRail_rails (s : State) (r : RailId) :
    (s.disableRail r).rails = if s.rails[r].enable then (s.updRail r (fun _ => {})).rails else s.rails := by
  unfold State.disableRail
  split
  · dsimp only
    split <;> rfl
  · rfl

theorem State.disableRail_same (s : State) (r : RailId) : (s.disableRail r).rails[r].enable = false := by
  rw [State.disableRail_rails]
  split
  · rw [State.updRail_same]
  · next h => exact eq_false_of_ne_true h

theorem State.disableRail_other (s : State) {r q : RailId} (h : r ≠ q) : (s.disableRail r).rails[q] = s.rails[q] := by
  rw [State.disableRail_rails]
  split
  · exact State.updRail_other s _ h
  · rfl

theorem State.disableRails_absent (s : State) {q : RailId} {l : List RailId} (h : q ∉ l) :
    (l.foldl State.disableRail s).rails[q] = s.rails[q] := by
  induction l generalizing s with
  | nil => rfl
  | cons r l ih =>
    have hne := List.ne_of_not_mem_cons h
    have hl := List.not_mem_of_not_mem_cons h
    exact (ih _ hl).trans (State.disableRail_other s (Ne.symm hne))

theorem State.disableRails_enable (s : State) {q : RailId} {l : List RailId} (h : q ∈ l ∨ s.rails[q].enable = false) :
    (l.foldl State.disableRail s).rails[q].enable = false := by
  induction l generalizing s with
  | nil => exact h.resolve_left List.not_mem_nil
  | cons r l ih =>
    refine ih _ ?_
    by_cases hr : r = q
    · exact .inr (hr ▸ State.disableRail_same s r)
    · refine h.imp (fun hmem => (List.mem_cons.mp hmem).resolve_left (Ne.symm hr)) (fun hq => ?_)
      rw [State.disableRail_other s hr, hq]

theorem State.domainsOff_rails (s : State) : s.domainsOff.rails = s.rails := rfl

theorem State.railsOff_enable (s : State) (r : RailId) : s.railsOff.rails[r].enable = false := by
  rw [State.railsOff, State.domainsOff_rails]
  exact State.disableRails_enable s (.inl (List.mem_reverse.mpr (List.mem_finRange r)))

theorem State.domainsOff_domain (s : State) (d : DomainId) : s.domainsOff.domains[d].state = 0 := by
  simp [State.domainsOff]

/-- Without rail 0 no motor gate is driven (R519). -/
theorem State.disableRail_zero (s : State) (h : s.rails[(0 : RailId)].enable = true) : ∃ t : State, s.disableRail 0 = t.gatesOff :=
  ⟨_, (if_pos h).trans (if_pos rfl)⟩

/-- Rail 0 goes last, and takes the motor gates with it (R518, R519). -/
theorem State.railsOff_gates (s : State) (h : s.rails[(0 : RailId)].enable = true) : ∃ t : State, s.railsOff = t.gatesOff.domainsOff := by
  have hsplit : (List.finRange 8).reverse = ([7, 6, 5, 4, 3, 2, 1] : List RailId) ++ [0] := by decide
  have hlast : (([7, 6, 5, 4, 3, 2, 1] : List RailId).foldl State.disableRail s).rails[(0 : RailId)].enable = true := by
    rw [State.disableRails_absent s (by decide), h]
  obtain ⟨t, ht⟩ := State.disableRail_zero _ hlast
  refine ⟨t, ?_⟩
  rw [State.railsOff, hsplit, List.foldl_append, List.foldl_cons, List.foldl_nil, ht]

/-- No motor gate is driven and no lane group is on. -/
theorem State.gatesOff_domainsOff (t : State) (p : PackId) (a : ArmId) (b : BusId) :
    t.gatesOff.domainsOff.packs[p].spindle.duty = Vector.replicate 3 0 ∧ (t.gatesOff.domainsOff.arm p a).servo.duty = 0
      ∧ (t.gatesOff.domainsOff.arm p a).synth = 0 ∧ (t.gatesOff.domainsOff.arm p a).laneGroup = false
      ∧ t.gatesOff.domainsOff.buses[b].gate = false := by
  simp [State.domainsOff, State.gatesOff, State.arm, Spindle.gatesOff, Arm.mapLanes]

end Sys2Proof.Machine

namespace Sys2Proof.Machine
open Sys2Proof

/-! ### What the end of an operating second leaves alone

`State.tally` is what the second counts, the injection token and the dictionary. No record, fault, park, routine or change of a pack's state
touches them; the lemmas stand in the order of the definitions, as those about `State.fixed` do. -/

/-- The dictionary, the injection token, the operating seconds with the time of the last one, and the seconds of the domains. -/
def State.tally (s : State) : Dict × Injection × Nat × Nat × Vector Nat 178 :=
  (s.dict, s.injection, s.dev.opSec, s.dev.secondAt, s.domains.map Domain.seconds)

theorem State.tally_iff {s t : State} : t.tally = s.tally ↔ t.dict = s.dict ∧ t.injection = s.injection ∧ t.dev.opSec = s.dev.opSec
    ∧ t.dev.secondAt = s.dev.secondAt ∧ t.domains.map Domain.seconds = s.domains.map Domain.seconds := by
  simp only [State.tally, Prod.mk.injEq]

@[simp] theorem State.mk_tally {pending now free part tiles packs spinQueue buses fmtStore svc bench ref100Lost ref156Lost lock host
    store buf movers lastMoverError layers raw can heldAccess faults inputs clusters arbiter boot rails
    flash fuses window sec recorder mirrorHeld heldTokens tileHeld out} (s : State) :
    State.tally ⟨pending, now, free, part, tiles, packs, spinQueue, buses, fmtStore, svc, bench, ref100Lost, ref156Lost, s.dict, lock, host,
      store, buf, movers, lastMoverError, layers, raw, can, heldAccess, faults, inputs, clusters, arbiter, s.injection, s.dev, boot, rails,
      s.domains, flash, fuses, window, sec, recorder, mirrorHeld, heldTokens, tileHeld, out⟩ = s.tally := by rfl

@[simp] theorem State.ite_tally (c : Prop) [Decidable c] (s t : State) : (if c then s else t).tally = if c then s.tally else t.tally := by
  split <;> rfl

@[simp] theorem State.dite_tally (c : Prop) [Decidable c] (s : c → State) (t : ¬ c → State) :
    (if h : c then s h else t h).tally = if h : c then (s h).tally else (t h).tally := by
  split <;> rfl

@[simp] theorem State.foldl_tally {α : Type} (f : State → α → State) (hf : ∀ s a, (f s a).tally = s.tally) (l : List α) (s : State) :
    (l.foldl f s).tally = s.tally := by
  induction l generalizing s with
  | nil => rfl
  | cons a l ih => rw [List.foldl_cons, ih, hf]

/-! #### Machine/Ops -/

@[simp] theorem State.takeFree_tally (s : State) : s.takeFree.2.tally = s.tally := by rfl
@[simp] theorem State.mirror_tally (s : State) (r) : (s.mirror r).tally = s.tally := by simp [State.mirror]
@[simp] theorem State.send_tally (s : State) (o) : (s.send o).tally = s.tally := by rfl
@[simp] theorem State.updPack_tally (s : State) (p f) : (s.updPack p f).tally = s.tally := by rfl
@[simp] theorem State.updArm_tally (s : State) (p a f) : (s.updArm p a f).tally = s.tally := by rfl
@[simp] theorem State.updServo_tally (s : State) (p a f) : (s.updServo p a f).tally = s.tally := by rfl

theorem State.updDomain_tally {s : State} (d) {f} (hf : (f s.domains[d]).seconds = s.domains[d].seconds) :
    (s.updDomain d f).tally = s.tally := by
  refine congrArg (fun v => (s.dict, s.injection, s.dev.opSec, s.dev.secondAt, v)) (Vector.ext fun i hi => ?_)
  simp only [State.updDomain, Vector.getElem_map, Vector.getElem_set]
  split
  · next h => subst h; exact hf
  · rfl

/-! #### Machine/BufferOps -/

@[simp] theorem State.updMem_tally (s : State) (n f) : (s.updMem n f).tally = s.tally := by simp [State.updMem]
@[simp] theorem State.updBuf_tally (s : State) (f) : (s.updBuf f).tally = s.tally := by rfl

/-! #### Machine/HostWire -/

@[simp] theorem State.resumeHost_tally (s : State) : s.resumeHost.tally = s.tally := by simp [State.resumeHost]

/-! #### Machine/BlockResets -/

@[simp] theorem State.reinitChannel_tally (s : State) (c) : (s.reinitChannel c).tally = s.tally := by simp [State.reinitChannel]
@[simp] theorem State.resetPort_tally (s : State) (q) : (s.resetPort q).tally = s.tally := by simp [State.resetPort]

/-! #### Machine/Contexts -/

@[simp] theorem State.waitChecks_tally (s : State) : s.waitChecks.tally = s.tally := by simp [State.waitChecks]

/-! #### Machine/Recorder -/

@[simp] theorem State.updRecorder_tally (s : State) (f) : (s.updRecorder f).tally = s.tally := by rfl
@[simp] theorem State.queueForPack_tally (s : State) (r) : (s.queueForPack r).tally = s.tally := by simp [State.queueForPack]
@[simp] theorem State.numberRecord_tally (s : State) (r) : (s.numberRecord r).tally = s.tally := by simp [State.numberRecord]
@[simp] theorem State.stageRecord_tally (s : State) (r) : (s.stageRecord r).tally = s.tally := by simp [State.stageRecord]
@[simp] theorem State.formRecord_tally (s : State) (t) : (s.formRecord t).tally = s.tally := by simp [State.formRecord]
@[simp] theorem State.storePinned_tally (s : State) (r) : (s.storePinned r).tally = s.tally := by simp [State.storePinned]
@[simp] theorem State.formFatal_tally (s : State) (t) : (s.formFatal t).tally = s.tally := by simp [State.formFatal]
@[simp] theorem State.mergeRecord_tally (s : State) : s.mergeRecord.tally = s.tally := by unfold State.mergeRecord; split <;> simp
@[simp] theorem State.record_tally (s : State) (t) : (s.record t).tally = s.tally := by simp [State.record]

/-! #### Machine/Faults -/

@[simp] theorem State.updSource_tally (s : State) (k f) : (s.updSource k f).tally = s.tally := by simp [State.updSource]
@[simp] theorem State.emcy_tally (s : State) (code src) : (s.emcy code src).tally = s.tally := by simp [State.emcy]
@[simp] theorem State.pushHistory_tally (s : State) (code) : (s.pushHistory code).tally = s.tally := by rfl

@[simp] theorem State.recordAgain_tally (s : State) (k lane subject flags) : (s.recordAgain k lane subject flags).tally = s.tally := by
  simp [State.recordAgain]

@[simp] theorem State.recordFirst_tally (s : State) (k lane subject flags) : (s.recordFirst k lane subject flags).tally = s.tally := by
  simp [State.recordFirst]

@[simp] theorem State.updCluster_tally (s : State) (c f) : (s.updCluster c f).tally = s.tally := by rfl

@[simp] theorem State.deliver_tally (s : State) (q) : (s.deliver q).tally = s.tally := by
  unfold State.deliver
  repeat' split
  all_goals simp

@[simp] theorem State.leaveFaults_tally (s : State) (l why) : (s.leaveFaults l why).tally = s.tally := by simp [State.leaveFaults]
@[simp] theorem State.setSticky_tally (s : State) (k) : (s.setSticky k).tally = s.tally := by simp [State.setSticky]

@[simp] theorem State.beginFailOver_tally (s : State) (cause swap) : (s.beginFailOver cause swap).tally = s.tally := by
  unfold State.beginFailOver
  split <;> simp

@[simp] theorem State.resetCluster_tally (s : State) (c) : (s.resetCluster c).tally = s.tally := by simp [State.resetCluster]

@[simp] theorem State.resetClusterBlock_tally (s : State) (c) : (s.resetClusterBlock c).tally = s.tally := by
  unfold State.resetClusterBlock
  repeat' split
  all_goals simp

@[simp] theorem State.requestReset_tally (s : State) (k) : (s.requestReset k).tally = s.tally := by simp [State.requestReset]
@[simp] theorem State.react_tally (s : State) (k) : (s.react k).tally = s.tally := by unfold State.react; split <;> simp

@[simp] theorem State.raiseWith_tally (s : State) (k lane subject flags) : (s.raiseWith k lane subject flags).tally = s.tally := by
  simp [State.raiseWith]

@[simp] theorem State.raise_tally (s : State) (k) : (s.raise k).tally = s.tally := by simp [State.raise]
@[simp] theorem State.raisePack_tally (s : State) (p k) : (s.raisePack p k).tally = s.tally := by simp [State.raisePack]
@[simp] theorem State.raiseLane_tally (s : State) (p a h k) : (s.raiseLane p a h k).tally = s.tally := by simp [State.raiseLane]

/-! #### Machine/Links -/

@[simp] theorem State.updLink_tally (s : State) (p a f) : (s.updLink p a f).tally = s.tally := by rfl

@[simp] theorem State.sendNumbered_tally (s : State) (p a frame) : (s.sendNumbered p a frame).tally = s.tally := by
  simp [State.sendNumbered]

@[simp] theorem State.sendCmd_tally (s : State) (p a opcode mask) : (s.sendCmd p a opcode mask).tally = s.tally := by simp [State.sendCmd]
@[simp] theorem State.disarm_tally (s : State) (p a) : (s.disarm p a).tally = s.tally := by simp [State.disarm]

/-! #### Machine/LaneOps -/

@[simp] theorem State.updFmt_tally (s : State) (p a f) : (s.updFmt p a f).tally = s.tally := by rfl
@[simp] theorem State.updChan_tally (s : State) (p a h f) : (s.updChan p a h f).tally = s.tally := by rfl
@[simp] theorem State.updHealth_tally (s : State) (p a h f) : (s.updHealth p a h f).tally = s.tally := by rfl
@[simp] theorem State.updMedia_tally (s : State) (p f) : (s.updMedia p f).tally = s.tally := by rfl
@[simp] theorem State.passPointer_tally (s : State) (p h addr) : (s.passPointer p h addr).tally = s.tally := by simp [State.passPointer]
@[simp] theorem State.setQuality_tally (s : State) (p a h q) : (s.setQuality p a h q).tally = s.tally := by simp [State.setQuality]
@[simp] theorem State.assessLane_tally (s : State) (p a h) : (s.assessLane p a h).tally = s.tally := by simp [State.assessLane]
@[simp] theorem State.hubGets_tally (s : State) (p a o) : (s.hubGets p a o).tally = s.tally := by rfl
@[simp] theorem State.toHub_tally (s : State) (p a o) : (s.toHub p a o).tally = s.tally := by simp [State.toHub]
@[simp] theorem State.deliverEnd_tally (s : State) (p a h e) : (s.deliverEnd p a h e).tally = s.tally := by simp [State.deliverEnd]
@[simp] theorem State.deliverAll_tally (s : State) (p a h) : (s.deliverAll p a h).tally = s.tally := by simp [State.deliverAll]
@[simp] theorem State.saveSuspects_tally (s : State) (p) : (s.saveSuspects p).tally = s.tally := by rfl
@[simp] theorem State.noteWritten_tally (s : State) (p addr) : (s.noteWritten p addr).tally = s.tally := by simp [State.noteWritten]

@[simp] theorem State.drive_tally (s : State) (p a h cut) : (s.drive p a h cut).tally = s.tally := by
  unfold State.drive
  dsimp only
  repeat' split
  all_goals simp

@[simp] theorem State.closeWrite_tally (s0 : State) (p a h torn) : (s0.closeWrite p a h torn).tally = s0.tally := by
  unfold State.closeWrite
  split <;> simp

@[simp] theorem State.armTurn_tally (s : State) (p a) : (s.armTurn p a).tally = s.tally := by simp [State.armTurn]
@[simp] theorem State.afterGates_tally (s : State) (p a) : (s.afterGates p a).tally = s.tally := by simp [State.afterGates]
@[simp] theorem State.barWrites_tally (s : State) (p a m) : (s.barWrites p a m).tally = s.tally := by simp [State.barWrites]

/-! #### Machine/SpanWatch -/

@[simp] theorem State.setDevState_tally (s : State) (d form cause) : (s.setDevState d form cause).tally = s.tally :=
  (State.record_tally _ _).trans rfl

@[simp] theorem State.updStore_tally (s : State) (f) : (s.updStore f).tally = s.tally := by rfl
@[simp] theorem State.noteJournal_tally (s : State) : s.noteJournal.tally = s.tally := by rfl
@[simp] theorem State.replay_tally (s : State) : s.replay.tally = s.tally := by rfl
@[simp] theorem State.tryOpen_tally (s : State) : s.tryOpen.tally = s.tally := by simp [State.tryOpen]
@[simp] theorem State.noteSpans_tally (s : State) : s.noteSpans.tally = s.tally := by simp [State.noteSpans]

/-! #### Machine/ServoOps -/

@[simp] theorem State.writeLife_tally (s : State) (p readBack) : (s.writeLife p readBack).tally = s.tally := by simp [State.writeLife]
@[simp] theorem State.saveLife_tally (s : State) (p) : (s.saveLife p).tally = s.tally := by simp [State.saveLife]
@[simp] theorem State.packWarning_tally (s : State) (p code) : (s.packWarning p code).tally = s.tally := by simp [State.packWarning]
@[simp] theorem State.inhibitArm_tally (s : State) (p a cut) : (s.inhibitArm p a cut).tally = s.tally := by simp [State.inhibitArm]
@[simp] theorem State.parkServo_tally (s : State) (p a cut) : (s.parkServo p a cut).tally = s.tally := by simp [State.parkServo]

@[simp] theorem State.loadServo_tally (s : State) (p a k) : (s.loadServo p a k).tally = s.tally := by
  rw [State.loadServo]
  exact (State.updArm_tally _ p a _).trans (State.updDomain_tally _ rfl)

/-! #### Machine/Routines -/

@[simp] theorem State.applyArrays_tally (s : State) (p a) : (s.applyArrays p a).tally = s.tally := by rfl
@[simp] theorem State.trimActive_tally (s : State) (p a) : (s.trimActive p a).tally = s.tally := by simp [State.trimActive]
@[simp] theorem State.dropReads_tally (s : State) (p a) : (s.dropReads p a).tally = s.tally := by rfl
@[simp] theorem State.giveBack_tally (s : State) (p b h e) : (s.giveBack p b h e).tally = s.tally := by simp [State.giveBack]
@[simp] theorem State.stopWith_tally (s : State) (p a h e) : (s.stopWith p a h e).tally = s.tally := by simp [State.stopWith]

@[simp] theorem State.stopSector_tally (s : State) (p a h addr outcome verify) :
    (s.stopSector p a h addr outcome verify).tally = s.tally := by simp [State.stopSector]

@[simp] theorem State.stopSix_tally (s : State) (p a outcome x) : (s.stopSix p a outcome x).tally = s.tally := by
  unfold State.stopSix
  dsimp only
  repeat' split
  all_goals simp

@[simp] theorem State.dropSixes_tally (s : State) (p a m) : (s.dropSixes p a m).tally = s.tally := by simp [State.dropSixes]
@[simp] theorem State.stopLane_tally (s : State) (p a h outcome) : (s.stopLane p a h outcome).tally = s.tally := by simp [State.stopLane]

@[simp] theorem State.stopSectors_tally (s : State) (p a outcome) : (s.stopSectors p a outcome).tally = s.tally := by
  simp [State.stopSectors]

@[simp] theorem State.cancelWrites_tally (s : State) (p a ends h) : (s.cancelWrites p a ends h).tally = s.tally := by
  unfold State.cancelWrites
  split <;> simp

@[simp] theorem State.settleRoutine_tally (s : State) (p a outcome) : (s.settleRoutine p a outcome).tally = s.tally := by
  unfold State.settleRoutine
  dsimp only
  repeat' split
  all_goals simp

@[simp] theorem State.chargeBack_tally (s : State) (p a) : (s.chargeBack p a).tally = s.tally := by
  unfold State.chargeBack
  dsimp only
  repeat' split
  all_goals simp

@[simp] theorem State.closeRoutine_tally (s : State) (p a left result) : (s.closeRoutine p a left result).tally = s.tally := by
  simp [State.closeRoutine]

@[simp] theorem State.endRoutine_tally (s : State) (p a outcome) : (s.endRoutine p a outcome).tally = s.tally := by simp [State.endRoutine]
@[simp] theorem State.parkArmBy_tally (s : State) (p a cut) : (s.parkArmBy p a cut).tally = s.tally := by simp [State.parkArmBy]
@[simp] theorem State.parkArm_tally (s : State) (p a) : (s.parkArm p a).tally = s.tally := by simp [State.parkArm]
@[simp] theorem State.parkPack_tally (s : State) (p) : (s.parkPack p).tally = s.tally := by simp [State.parkPack]

/-! #### Machine/PackOps -/

@[simp] theorem State.updSpin_tally (s : State) (p f) : (s.updSpin p f).tally = s.tally := by rfl
@[simp] theorem State.setPackState_tally (s : State) (p n) : (s.setPackState p n).tally = s.tally := by simp [State.setPackState]
@[simp] theorem State.grantSpin_tally (s : State) (p) : (s.grantSpin p).tally = s.tally := by simp [State.grantSpin]

@[simp] theorem State.passOver_tally (s : State) (l) : (s.passOver l).tally = s.tally := by
  induction l generalizing s with
  | nil => rfl
  | cons p l ih => unfold State.passOver; simp [ih]

@[simp] theorem State.admissionPass_tally (s : State) : s.admissionPass.tally = s.tally := by simp [State.admissionPass]
@[simp] theorem State.releaseSpin_tally (s : State) (p) : (s.releaseSpin p).tally = s.tally := by rfl
@[simp] theorem State.packFail_tally (s : State) (p cause) : (s.packFail p cause).tally = s.tally := by simp [State.packFail]
@[simp] theorem State.sendElement_tally (s : State) (p a v) : (s.sendElement p a v).tally = s.tally := by simp [State.sendElement]
@[simp] theorem State.wakePreamp_tally (s : State) (p a) : (s.wakePreamp p a).tally = s.tally := by simp [State.wakePreamp]

@[simp] theorem State.loadArm_tally (s : State) (p a) : (s.loadArm p a).tally = s.tally := by
  unfold State.loadArm
  repeat' split
  all_goals simp

@[simp] theorem State.routineMechanics_tally (s : State) (p a) : (s.routineMechanics p a).tally = s.tally := by
  simp [State.routineMechanics]

@[simp] theorem State.idlePoint_tally (s : State) (p a) : (s.idlePoint p a).tally = s.tally := by simp [State.idlePoint]

@[simp] theorem State.startRequest_tally (s : State) (p a r rest held back) : (s.startRequest p a r rest held back).tally = s.tally := by
  simp [State.startRequest]

@[simp] theorem State.startBack_tally (s : State) (p a b) : (s.startBack p a b).tally = s.tally := by simp [State.startBack]

@[simp] theorem State.kick_tally (s : State) (p a) : (s.kick p a).tally = s.tally := by
  unfold State.kick
  dsimp only
  repeat' split
  all_goals simp

@[simp] theorem State.kickPack_tally (s : State) (p) : (s.kickPack p).tally = s.tally := by simp [State.kickPack]
@[simp] theorem State.retirePack_tally (s : State) (p) : (s.retirePack p).tally = s.tally := by simp [State.retirePack]
@[simp] theorem State.noteEmpty_tally (s : State) : s.noteEmpty.tally = s.tally := by simp [State.noteEmpty]

/-! #### Machine/Lanes -/

@[simp] theorem State.checkLife_tally (s : State) (p) : (s.checkLife p).tally = s.tally := by simp [State.checkLife]

/-! #### Machine/FaultCmds -/

@[simp] theorem State.lifeSecond_tally (s : State) (p) : (s.lifeSecond p).tally = s.tally := by simp [State.lifeSecond]

/-! #### The second -/

/-- A domain that is switched off or begins to switch keeps its seconds. -/
theorem State.refreshDomains_tally (s : State) : s.refreshDomains.tally = s.tally := by
  refine congrArg (fun v => (s.dict, s.injection, s.dev.opSec, s.dev.secondAt, v)) (Vector.ext fun i hi => ?_)
  simp only [State.refreshDomains, Vector.getElem_map, Vector.getElem_ofFn]
  repeat' split
  all_goals rfl

/-- An accepted injection token whose validity has passed is expired (R512). -/
def Injection.atSecond (x : Injection) (n : Nat) : Injection :=
  if x.tokenState = 1 ∧ x.validUntil < n then { x with tokenState := 3 } else x

/-- A domain that is on counts the second (R550). -/
def Domain.atSecond (d : Domain) : Domain := if d.state = 2 then { d with seconds := sat32 d.seconds 1 } else d

/-- What the second counts before the packs' lives. -/
def State.secondCounted (s : State) : State :=
  { s with
    dev := { s.dev with opSec := (s.dev.opSec + 1) % 2 ^ 32, secondAt := s.now },
    domains := s.domains.map Domain.atSecond,
    injection := s.injection.atSecond ((s.dev.opSec + 1) % 2 ^ 32) }

theorem execOperatingSecondsTick_off {s : State} (h : s.dev.state = .off) : execOperatingSecondsTick s = .next s :=
  congrArg Host.Outcome.next (if_pos h)

theorem execOperatingSecondsTick_on {s : State} (h : s.dev.state ≠ .off) : execOperatingSecondsTick s =
    .next (((List.finRange 32).foldl (fun (s : State) p => s.lifeSecond p) s.secondCounted).refreshDomains) :=
  congrArg Host.Outcome.next (if_neg h)

/-- The packs' lives and the domains' switching leave what the second has counted. -/
theorem execOperatingSecondsTick_tally {s : State} (h : s.dev.state ≠ .off) :
    ∃ t, execOperatingSecondsTick s = .next t ∧ t.tally = s.secondCounted.tally :=
  ⟨_, execOperatingSecondsTick_on h, (State.refreshDomains_tally _).trans (State.foldl_tally _ State.lifeSecond_tally _ _)⟩

theorem Domain.atSecond_seconds (d : Domain) : d.atSecond.seconds = if d.state = 2 then sat32 d.seconds 1 else d.seconds := by
  unfold Domain.atSecond
  split <;> rfl

/-- The seconds of each domain, where the vectors of all agree. -/
theorem State.domain_seconds {s t : State} (h : t.domains.map Domain.seconds = s.domains.map Domain.seconds) (d : DomainId) :
    t.domains[d].seconds = s.domains[d].seconds := by
  simpa using congrArg (fun v : Vector Nat 178 => v[d]) h

/-- Settles O53: the rails and the domains by their lemmas, then the second, whose counts nothing after it touches. That a rail's loss acts in
one step and takes the motor gates is the model's choice (log entries 88 and 132), and so is the synthesizer's first rate (12). -/
theorem railsDomainsAndSeconds : Obligations.RailsDomainsAndSeconds := by
  refine ⟨fun s => ⟨fun l h => execPmbusPoll_unsupervised h l, fun r mv ma hsup hon haddr => ⟨?_, ?_⟩,
    fun d p a hwant hoff hd => ⟨_, execDomainSwitchOn_group hwant hoff hd, State.domainOn_state s d, State.groupOn_synth _ p a,
      State.groupOn_power _ p a⟩,
    fun d hwant hoff hlo hhi => execDomainSwitchOn_plain hwant hoff hlo hhi,
    fun d c hwant hoff hd => ⟨_, execDomainSwitchOn_bank hwant hoff hd, ?_, ?_⟩,
    fun d => execDomainSwitchOn_stays, fun d => execEngineSliceIdle_idle, fun d => execEngineSliceIdle_stays,
    s.railsOff_enable, fun d => State.domainsOff_domain _ d, fun hon p a b => ?_⟩,
    fun s => ⟨execOperatingSecondsTick_off, fun hon => ?_⟩⟩
  · exact (execPmbusPoll_one hsup _).trans (congrArg Host.Outcome.next (State.readRail_acked hon haddr mv ma))
  · exact (execPmbusPoll_one hsup _).trans (congrArg Host.Outcome.next (State.readRail_silent hon haddr mv ma))
  · exact State.bankRefilled_same (s.domainOn d) rfl (List.mem_finRange c) (List.nodup_finRange 32)
  · rw [State.bankRefilled_domains, State.domainOn_state]
  · obtain ⟨t, ht⟩ := s.railsOff_gates hon
    rw [ht]
    exact State.gatesOff_domainsOff t p a b
  · obtain ⟨t, hnext, htally⟩ := execOperatingSecondsTick_tally hon
    obtain ⟨hdict, hinj, hsec, hat, hdom⟩ := State.tally_iff.mp htally
    refine ⟨t, hnext, hsec, hat, hinj, fun d => ?_, hdict⟩
    rw [State.domain_seconds hdom d, ← Domain.atSecond_seconds]
    simp [State.secondCounted]

end Sys2Proof.Machine

namespace Sys2Proof.Machine
open Sys2Proof

/-! ### The formatter's own micro-operations -/

section
variable {s : State} {p : PackId} {a : ArmId}

/-- SEEK acts where both cores of the servo engine chose the same lanes (R229). -/
theorem execSeek_issued (h : s.Issues (.formatter p a) 0x28) (same : Bool) :
    execSeek (.formatter p a) same s = .next (
      if same then (s.seek p a ((s.regs (.formatter p a)).lanes (s.wordOf (.formatter p a)))).advance (.formatter p a)
      else s.miscompare (tileOf p)) := by
  simp only [execSeek, issue_eq s _ _ _ h]
  rfl

/-- XFER passes its lane set, first sector and count to the transfer (R202); an engine that has ended its routine takes the next. -/
theorem execXfer_issued (h : s.Issues (.formatter p a) 0x29) :
    execXfer (.formatter p a) s = .next (
      let w := s.wordOf (.formatter p a)
      let r := s.regs (.formatter p a)
      (s.xfer p a (r.lanes w) ((r.get w.ra).toNat % 2 ^ 11) ((r.opB w).toNat % 2 ^ 9) w.sel).kick p a) := by
  simp only [execXfer, issue_eq s _ _ _ h]
  rfl

section
variable {set first count type : Nat} (husable : s.tbUsable p = true)
include husable

/-- A refused transfer ends the routine with the outcome of the refusal (R202). -/
theorem State.xfer_refused {o : Nat} (hrefused : s.xferRefusal p a set first count type = some o) :
    s.xfer p a set first count type = s.endRoutine p a o := by
  simp [State.xfer, husable, hrefused]

/-- An accepted transfer ends the sectors of the lanes that sit out, then appends the runs of those that take part (R155, R202). -/
theorem State.xfer_accepted (haccepted : s.xferRefusal p a set first count type = none) :
    s.xfer p a set first count type =
      let m := s.xferLanes p a set (decide (type = 1))
      let runs := mkRuns (maskLanes m.1) (fun h => reqTarget (s.arm p a).fmt.req h.val) first count type (s.arm p a).fmt.groups
        (if type = 1 then s.writeWidth p a else (s.arm p a).activeLimit)
        (fun h => s.laneAngle p a h + BitVec.ofNat 40 (s.nsToRu p (s.param 0x7430 6)))
      let s1 := (s.sitOutXfer p a m.2 first count type).updFmt p a (fun f =>
        { f with runs := f.runs ++ runs, groups := f.groups + runs.length })
      let s2 := s1.forLanes m.1 (fun s h => s.wantActive p a h)
      (if type = 1 then s2.armTurn p a else s2).advance (.formatter p a) := by
  simp only [State.xfer, husable, not_true_eq_false, if_false, haccepted]

end

theorem execLadder_issued (h : s.Issues (.formatter p a) 0x2A) :
    execLadder (.formatter p a) s = .next ((((s.arm p a).fmt.ladder.foldl (fun s x => s.wantActive p a x.lane) s).updFmt p a (fun f =>
      { f with laddering := true, ladder := f.ladder.map (fun x => if x.step = 0 then { x with step := 1, reads := 0 } else x) })).advance
        (.formatter p a)) := by
  simp only [execLadder, issue_eq s _ _ _ h]
  rfl

/-- LINK with SEL 0 sends a CMD frame, which no register waits for (R203). -/
theorem execLink_command (h : s.Issues (.formatter p a) 0x2B) (hsel : (s.wordOf (.formatter p a)).sel = 0) :
    execLink (.formatter p a) s = .next (
      let w := s.wordOf (.formatter p a)
      ((s.sendCmd p a (w.imm.toNat % 256) ((s.regs (.formatter p a)).lanes w)).updFmt p a (fun f =>
        { f with lastLink := some (((s.arm p a).link.seq + 1) % 256) })).advance (.formatter p a)) := by
  simp only [execLink, issue_eq s _ _ _ h, hsel, if_true, Nat.zero_ne_one, if_false]
  rfl

/-- LINK with another SEL sends a REG frame, and with SEL 1 the response goes to a register (R203). -/
theorem execLink_register (h : s.Issues (.formatter p a) 0x2B) (hsel : (s.wordOf (.formatter p a)).sel ≠ 0) :
    execLink (.formatter p a) s = .next (
      let w := s.wordOf (.formatter p a)
      let imm := w.imm.toNat
      let next := ((s.arm p a).link.seq + 1) % 256
      ((s.sendNumbered p a (regFrame (match maskLanes w.mask with | h :: _ => h.val | [] => 0) (imm % 256)
          (imm.testBit 8) (imm.testBit 9) (imm / 2 ^ 16 % 2 ^ 16))).updFmt p a (fun f =>
        { f with lastLink := some next, regWait := if w.sel = 1 then f.regWait ++ [(w.rd, next)] else f.regWait })).advance
          (.formatter p a)) := by
  simp only [execLink, issue_eq s _ _ _ h, if_neg hsel]
  rfl

theorem execGrp_issued (h : s.Issues (.formatter p a) 0x2D) :
    execGrp (.formatter p a) s = .next (s.retires (.formatter p a) (
      let w := s.wordOf (.formatter p a)
      let r := s.regs (.formatter p a)
      r.putZ w (BitVec.ofNat 64 (s.sameGroup p a ((r.get w.ra).toNat % 2 ^ 16))))) := by
  simp only [execGrp, issue_eq s _ _ _ h]
  rfl

end

/-- Settles O14: each micro-operation by its lemma, a transfer by whether it is refused. -/
theorem formatterMicroOperations : Obligations.FormatterMicroOperations := by
  refine fun s p a => ⟨fun h => execSeek_issued h true, fun h => execSeek_issued h false, fun h husable haccepted => ?_,
    fun o h husable hrefused => ?_, execLadder_issued, execLink_command, execLink_register, fun h => ?_⟩
  · exact (execXfer_issued h).trans (congrArg (fun t : State => Host.Outcome.next (t.kick p a)) (State.xfer_accepted husable haccepted))
  · exact (execXfer_issued h).trans (congrArg (fun t : State => Host.Outcome.next (t.kick p a)) (State.xfer_refused husable hrefused))
  · exact (execGrp_issued h).trans (by rw [Regs.putZ_eq_result])

end Sys2Proof.Machine

namespace Sys2Proof.Machine
open Sys2Proof

/-! ### Background windows -/

section

/-- Floors of shares do not add up to more than the floor of their sum. -/
theorem sum_shares_le (t n : Nat) (l : List Nat) : (l.map (fun w => t * w / n)).sum ≤ t * l.sum / n := by
  induction l with
  | nil => simp
  | cons w l ih =>
    simp only [List.map_cons, List.sum_cons, Nat.mul_add]
    exact Nat.le_trans (Nat.add_le_add_left ih _) Nat.div_add_div_le_add_div

/-- `total` divided by the weights, or evenly among the pending kinds where no kind that weighs anything is pending (R339). -/
def windowParts (total : Nat) (pending : List Bool) (weights : List Nat) : List Nat :=
  if weights.sum = 0 then pending.map (fun b => if b then total / max (pending.filter id).length 1 else 0)
  else weights.map (fun w => total * w / weights.sum)

theorem sum_even_parts (q : Nat) (l : List Bool) : (l.map (fun b => if b then q else 0)).sum = (l.filter id).length * q := by
  induction l with
  | nil => simp
  | cons b l ih => cases b <;> simp [ih, Nat.succ_mul, Nat.add_comm]

/-- The parts of a window are never more than the window grants. -/
theorem windowParts_sum_le (total : Nat) (pending : List Bool) (weights : List Nat) : (windowParts total pending weights).sum ≤ total := by
  unfold windowParts
  split
  · rw [sum_even_parts]
    exact Nat.le_trans (Nat.mul_le_mul_right _ (Nat.le_max_left _ 1)) (Nat.mul_div_le _ _)
  · next hsum => exact Nat.le_trans (sum_shares_le _ _ _) (Nat.le_of_eq (Nat.mul_div_cancel _ (Nat.pos_of_ne_zero hsum)))

theorem windowParts_length {pending : List Bool} {weights : List Nat} (h : weights.length = pending.length) (total : Nat) :
    (windowParts total pending weights).length = pending.length := by
  unfold windowParts
  split <;> simp [h]

/-- The four parts as the model writes them. -/
theorem windowParts_four (total : Nat) (b0 b1 b2 b3 : Bool) (w0 w1 w2 w3 : Nat) :
    let sum := w0 + w1 + w2 + w3
    let part := fun (b : Bool) (w : Nat) =>
      if sum = 0 then (if b then total / max ([b0, b1, b2, b3].filter id).length 1 else 0) else total * w / sum
    windowParts total [b0, b1, b2, b3] [w0, w1, w2, w3] = [part b0 w0, part b1 w1, part b2 w2, part b3 w3] := by
  simp only [windowParts, List.map_cons, List.map_nil, List.sum_cons, List.sum_nil, Nat.add_zero, ← Nat.add_assoc]
  split <;> rfl

variable (s : State) (p : PackId) (a : ArmId)

/-- The weight of each kind of work: that of the dictionary while the kind is pending (R339). -/
def State.workWeights : List Nat := (s.pendingWork p).zipIdx.map (fun x => if x.1 then s.param 0x2010 (2 + x.2) else 0)

/-- Routine time that a window of a pack's arm grants (R339). -/
def State.windowTotal : Nat := if (s.pendingWork p).any id then 1000000000 * s.param 0x2010 1 / 256 else 0

theorem State.pendingWork_length : (s.pendingWork p).length = 4 := rfl

theorem State.workWeights_length : (s.workWeights p).length = (s.pendingWork p).length := by simp [State.workWeights]

theorem execBackgroundWindow_eq : execBackgroundWindow p a s = .next ((s.updStore (fun t =>
    { t with windows := t.windows.filter (fun w => ¬(w.pack = p.val ∧ w.arm = a.val))
        ++ [{ pack := p.val, arm := a.val, start := s.now, total := s.windowTotal p,
              parts := windowParts (s.windowTotal p) (s.pendingWork p) (s.workWeights p) }] })).kick p a) := by
  obtain ⟨b0, b1, b2, b3, hwork⟩ : ∃ b0 b1 b2 b3, s.pendingWork p = [b0, b1, b2, b3] := ⟨_, _, _, _, rfl⟩
  simp only [execBackgroundWindow, State.windowTotal, State.workWeights, hwork, List.zipIdx_cons, List.zipIdx_nil, List.map_cons, List.map_nil,
    windowParts_four]
  rfl

end

end Sys2Proof.Machine

namespace Sys2Proof.Machine
open Sys2Proof

/-! ### Rebuild and drain -/

section
variable {s : State} {p : PackId} {x : SpanId} {addr : Nat}

theorem execRebuildDelayExpiry_absent (hspan : s.spanOf p = some x) (habsent : s.packs[p].state = .absent) :
    execRebuildDelayExpiry p s = .next ((s.updSpan x (fun y =>
      { y with rebuilding := y.rebuilding ||| 2 ^ p.val, rebuilt := if y.rebuilding = 0 then 0 else y.rebuilt })).noteSpans) := by
  simp only [execRebuildDelayExpiry, hspan, habsent, if_true]

theorem execRebuildDelayExpiry_seated (hseated : s.packs[p].state ≠ .absent) : execRebuildDelayExpiry p s = .next s := by
  simp only [execRebuildDelayExpiry, if_neg hseated]
  split <;> rfl

end

section
variable (s : State) (x : SpanId) (addr : Nat) (t : Stripe)

/-- Most lost leaves of a stripe of a span that rebuild can regenerate (R340). -/
def State.mostLost : Nat :=
  let y := s.store.spans[x]
  ((y.live.filter (fun z => !(s.rebuildLeaves x z).isEmpty && decide (s.lostLeaves y z ≤ z.m))).map (s.lostLeaves y)).foldl max 0

/-- A rebuild has asked for the survivors of a stripe. -/
def State.askSurvivors : State := (s.survivors x t).foldl (fun s j => (s.fetchLeaf x addr j 0).1) s

/-- How the reads of a stripe's survivors have ended in `s1`, where they have. -/
def State.survivorEnds (s1 : State) : List (Nat × Option (Nat × Nat)) :=
  (s.survivors x t).map (fun j => (j, (s1.store.job? none false x.val addr j).bind (fun y => y.ended)))

end

section
variable {s : State} {x : SpanId} {addr : Nat} {t : Stripe} (hstripe : s.pollJobs.store.spans[x].stripe? addr = some t)
include hstripe

section
variable (hlost : s.pollJobs.rebuildLeaves x t ≠ []) (hregen : s.pollJobs.lostLeaves s.pollJobs.store.spans[x] t ≤ t.m)
  (hmost : s.pollJobs.mostLost x ≤ s.pollJobs.lostLeaves s.pollJobs.store.spans[x] t)
include hlost hregen hmost

/-- Rebuild asks for the survivors of the stripe it takes, and waits for them (R340). -/
theorem execRebuildStripe_waits
    (hwaits : (s.pollJobs.survivorEnds x addr t (s.pollJobs.askSurvivors x addr t)).any (fun e => e.2.isNone) = true) :
    execRebuildStripe x addr s = .next (s.pollJobs.askSurvivors x addr t) := by
  unfold State.mostLost at hmost
  have hgo := not_or.mpr ⟨Nat.not_lt.mpr hmost, not_or.mpr ⟨Nat.not_lt.mpr hregen, hlost⟩⟩
  simp only [execRebuildStripe, hstripe, if_neg hgo]
  exact congrArg Host.Outcome.next (if_pos hwaits)

/-- With every survivor delivered the lost leaves of the stripe are written again (R340). -/
theorem execRebuildStripe_writes
    (hended : (s.pollJobs.survivorEnds x addr t (s.pollJobs.askSurvivors x addr t)).any (fun e => e.2.isNone) = false)
    (hgood : (s.pollJobs.survivorEnds x addr t (s.pollJobs.askSurvivors x addr t)).find? (fun e => e.2.any (fun r => !goodOutcome r.1))
      = none) :
    execRebuildStripe x addr s = .next (
      let s1 := s.pollJobs.askSurvivors x addr t
      (s1.rebuildLeaves x t).foldl (fun s j => (s.moveLeaf x addr j true (some 0) (fun _ => false)).getD s)
        (s1.dropJobs (fun j => j.who = none ∧ j.verify = false ∧ j.span = x.val ∧ j.addr = addr))) := by
  unfold State.mostLost at hmost
  unfold State.survivorEnds State.askSurvivors at hended hgood
  have hgo := not_or.mpr ⟨Nat.not_lt.mpr hmost, not_or.mpr ⟨Nat.not_lt.mpr hregen, hlost⟩⟩
  simp only [execRebuildStripe, hstripe, if_neg hgo, hended, hgood, Bool.false_eq_true, if_false]
  rfl

end

/-- Drain asks for a leaf of a pack that leaves, and then moves it or acts on the failed read (R341). -/
theorem execDrainLeaf_leaving {leaf : Nat} {l : Locator} (hloc : t.locs.getD leaf none = some l)
    (hleaves : s.pollJobs.packState l.pack = .draining ∨ s.pollJobs.packState l.pack = .spent
      ∨ s.pollJobs.store.spans[x].leaving.testBit l.pack = true)
    (hidle : s.pollJobs.store.writes.any (fun w => w.span = x.val ∧ w.addr = addr ∧ w.leaf = leaf) = false)
    {s1 : State} {r : Option (Nat × Nat)} (hread : s.pollJobs.fetchLeaf x addr leaf 0 = (s1, r)) :
    execDrainLeaf x addr leaf s = .next (r.elim s1 (fun e =>
      if goodOutcome e.1 then (s1.moveLeaf x addr leaf true (some 0) (fun p => p == l.pack)).getD s1
      else s1.failJob x addr leaf e)) := by
  have hgo : ¬ (¬ (s.pollJobs.packState l.pack = .draining || s.pollJobs.packState l.pack = .spent
      || s.pollJobs.store.spans[x].leaving.testBit l.pack) = true
      ∨ s.pollJobs.store.writes.any (fun w => w.span = x.val ∧ w.addr = addr ∧ w.leaf = leaf) = true) := by
    simpa only [Bool.or_eq_true, decide_eq_true_eq, or_assoc, hidle, Bool.false_eq_true, or_false, Decidable.not_not] using hleaves
  simp only [execDrainLeaf, hstripe, hloc, if_neg hgo, hread]
  cases r <;> rfl

end

theorem execDrainLeaf_gone {s : State} {x : SpanId} {addr : Nat} (leaf : Nat) (hgone : s.pollJobs.store.spans[x].stripe? addr = none) :
    execDrainLeaf x addr leaf s = .next ((s.pollJobs.noteLeft x).noteEmpty) := by
  simp only [execDrainLeaf, hgone]

/-! ### Compaction -/

/-- Compaction of a live leaf of a band: its objects are packed again where its petit-four stripe is sparse, else it is copied; not while it is
being written (R320, R342). -/
def State.compactLeaf (s : State) (x : SpanId) (writes : List LeafWrite) (v : Nat × Nat) : State :=
  if writes.any (fun w => w.span = x.val ∧ w.addr = v.1 ∧ w.leaf = v.2) then s
  else match s.store.spans[x].stripe? v.1 with
    | some z => if s.petitSparse x z = true then s.repackPetit x z else s.copyLeaf x v.1 v.2
    | none => s

section
variable {s : State} {p : PackId} {b : Nat} {x : SpanId} (hspan : s.pollJobs.spanOf p = some x)
  (hused : s.pollJobs.store.spans[x].bands.any (fun u => u.pack = p.val ∧ u.band = b ∧ ¬ u.isOpen) = true)
  (htype : (s.pollJobs.packs[p].band 0 b).type = .sequential)
include hspan hused htype

/-- A closed Sequential band without a live leaf is reset once no leaf is on its way there (R342). -/
theorem execCompactionBand_empty (hempty : s.pollJobs.bandLive x p.val b = []) :
    execCompactionBand p b none s = .next (if s.pollJobs.store.writes.any (fun w => w.loc.pack = p.val ∧ w.loc.band = b) then s.pollJobs
      else s.pollJobs.resetBand x p b) := by
  simp only [execCompactionBand, hspan, hused, htype, hempty]
  rfl

/-- A closed Sequential band below the compaction threshold gives up its live leaves (R342). -/
theorem execCompactionBand_sparse (hlive : s.pollJobs.bandLive x p.val b ≠ [])
    (hsparse : (s.pollJobs.bandLive x p.val b).length * 1000 < s.pollJobs.param 0x2010 8 * s.pollJobs.packs[p].bandLeaves b) :
    execCompactionBand p b none s = .next ((s.pollJobs.bandLive x p.val b).foldl (fun s' v =>
      s'.compactLeaf x s.pollJobs.store.writes v) s.pollJobs) := by
  simp only [execCompactionBand, hspan, hused, htype, hlive, State.bandSparse, hsparse]
  rfl

end

/-! ### Scrub -/

/-- Scrub passes over a leaf of a dead stripe and one without a place alone (R343). -/
theorem Stripe.scrubbable {t : Stripe} {leaf : Nat} (halive : t.state ≠ .dead) (hloc : (t.locs.getD leaf none).isSome = true) :
    ¬ (t.state = .dead ∨ (t.locs.getD leaf none).isNone = true) :=
  not_or.mpr ⟨halive, fun hnone => Option.isSome_iff_ne_none.mp hloc (Option.isNone_iff_eq_none.mp hnone)⟩

section
variable {s : State} {x : SpanId} {addr leaf : Nat} {t : Stripe} (hstripe : s.pollJobs.store.spans[x].stripe? addr = some t)
  (halive : t.state ≠ .dead) (hloc : (t.locs.getD leaf none).isSome = true)
include hstripe halive hloc

/-- Scrub asks for the verify of a leaf that is due, unless it is asked for already (R343). -/
theorem execScrubLeaf_unasked (hjob : s.pollJobs.store.job? none true x.val addr leaf = none) :
    execScrubLeaf x addr leaf s = .next (if s.pollJobs.scrubDue t leaf then s.pollJobs.readLeaf x addr leaf none true (some 2) []
      else s.pollJobs) := by
  simp only [execScrubLeaf, hstripe, if_neg (Stripe.scrubbable halive hloc), hjob]

/-- A verify that has ended is acted on, and a stripe that can no longer be read counts as lost (R186, R336). -/
theorem execScrubLeaf_ended {j : LeafJob} {e : Nat × Nat} (hjob : s.pollJobs.store.job? none true x.val addr leaf = some j)
    (hended : j.ended = some e) :
    execScrubLeaf x addr leaf s = .next (
      let u := s.pollJobs
      let s1 := (u.dropJobs (fun y => y.tag = j.tag)).updStripe x addr (fun t =>
        { t with scrubbed := (t.scrubbed ++ List.replicate (t.k + t.m - t.scrubbed.length) none).set leaf (some u.now) })
      let s2 := s1.outcomeAction x addr leaf e.1 e.2
      if u.stripeReads x addr [(addr, leaf)] ∨ ¬ finalLoss e.1 then s2 else s2.countLost x addr) := by
  simp only [execScrubLeaf, hstripe, if_neg (Stripe.scrubbable halive hloc), hjob, hended]

end

/-! ### Self-tests -/

section
variable {s : State}

/-- A self-test is started and stopped in SelfTest and Open alone (R344). -/
theorem State.selfTestCommand_refused (hself : s.dev.state ≠ .selfTest) (hopen : s.dev.state ≠ .opened) (v : Nat) :
    s.selfTestCommand v = .error 0x08000022 :=
  if_pos (not_or.mpr ⟨hself, hopen⟩)

section
variable (hstate : s.dev.state = .selfTest ∨ s.dev.state = .opened)
include hstate

theorem State.selfTestCommand_start {v : Nat} (hv : v = 1 ∨ v = 2) : s.selfTestCommand v = .ok (
    let ready := (List.finRange 32).filter (fun p : Fin 32 => s.packs[p].state = .ready)
    ready.foldl (fun s p => s.startTest v p) (s.updStore (fun t =>
      { t with selfTest := { kind := if ready = [] then 0 else v, running := ready.foldl (fun m p => m ||| 2 ^ p.val) 0 } }))) := by
  simp only [State.selfTestCommand, hstate, not_true_eq_false, if_false, if_pos hv]

theorem State.selfTestCommand_stop : s.selfTestCommand 3 = .ok (s.updStore (fun t =>
    { t with selfTest := { t.selfTest with kind := 0, running := 0, stopped := t.selfTest.stopped ||| t.selfTest.running } })) := by
  simp [State.selfTestCommand, hstate]

end

section
variable {p : PackId}

/-- The packs still at work once a pack's share has ended, and its result noted among those passed or those failed (R344). -/
theorem execSelfTestShareEnd_last (hrun : s.store.selfTest.running.testBit p.val = true) (hleft : s.testLeft p = []) :
    execSelfTestShareEnd p s = .next (
      let passed := s.testPassed p
      let s1 := s.updStore (fun t =>
        let v := t.selfTest
        let left := v.running &&& (0xFFFFFFFF ^^^ 2 ^ p.val)
        { t with selfTest := { v with
          running := left, kind := if left = 0 then 0 else v.kind,
          passed := if passed then v.passed ||| 2 ^ p.val else v.passed,
          failed := if passed then v.failed else v.failed ||| 2 ^ p.val } })
      if passed then s1 else s1.raisePack p 2) :=
  congrArg Host.Outcome.next (if_pos ⟨hrun, hleft⟩)

theorem execSelfTestShareEnd_waits (hleft : s.testLeft p ≠ []) : execSelfTestShareEnd p s = .next s :=
  congrArg Host.Outcome.next (if_neg fun h => hleft h.2)

end
end

/-- Settles O31: the parts of a window by `windowParts`, every other kind of work by its lemmas. That a command asks for its reads and goes on
when it is presented again is the model's choice (log entry 156), and so are the choice of survivors (158), the verdict of a self-test (159) and
the order within a window (90). -/
theorem backgroundWork : Obligations.BackgroundWork := by
  refine fun s => ⟨fun p a => ⟨_, ?_, execBackgroundWindow_eq s p a, windowParts_sum_le ..⟩, fun p x => execRebuildDelayExpiry_absent,
    fun p => execRebuildDelayExpiry_seated, fun x addr t hstripe hlost hregen hmost => ?_,
    fun x addr leaf t l hstripe hloc hleaves hidle => ?_, fun x addr leaf => execDrainLeaf_gone leaf, fun p b x hspan hused htype => ?_,
    fun x addr leaf t hstripe halive hloc => ?_, fun hstate => ?_, fun hself hopen => ?_, fun p hrun hleft => ?_,
    fun p => execSelfTestShareEnd_waits⟩
  · exact (windowParts_length (s.workWeights_length p) _).trans (s.pendingWork_length p)
  · exact ⟨execRebuildStripe_waits hstripe hlost hregen hmost, execRebuildStripe_writes hstripe hlost hregen hmost⟩
  · refine ⟨fun s1 => execDrainLeaf_leaving hstripe hloc hleaves hidle, fun s1 e hread hgood => ?_, fun s1 e hread hbad => ?_⟩
    · exact (execDrainLeaf_leaving hstripe hloc hleaves hidle hread).trans (congrArg Host.Outcome.next (if_pos hgood))
    · exact (execDrainLeaf_leaving hstripe hloc hleaves hidle hread).trans (congrArg Host.Outcome.next (if_neg (Bool.eq_false_iff.mp hbad)))
  · refine ⟨fun hempty hquiet => ?_, fun hempty hcoming => ?_, fun hlive hsparse => ?_⟩
    · exact (execCompactionBand_empty hspan hused htype hempty).trans (by simp only [hquiet, Bool.false_eq_true, if_false])
    · exact (execCompactionBand_empty hspan hused htype hempty).trans (by simp only [hcoming, if_true])
    · exact execCompactionBand_sparse hspan hused htype hlive hsparse
  · refine ⟨fun hjob hdue => ?_, fun hjob hnot => ?_, fun j e hjob hended => ⟨fun hreads => ?_, fun hlost hfinal => ?_⟩⟩
    · exact (execScrubLeaf_unasked hstripe halive hloc hjob).trans (by simp only [hdue, if_true])
    · exact (execScrubLeaf_unasked hstripe halive hloc hjob).trans (by simp only [hnot, Bool.false_eq_true, if_false])
    · exact (execScrubLeaf_ended hstripe halive hloc hjob hended).trans (congrArg Host.Outcome.next (if_pos (by simpa using hreads)))
    · exact (execScrubLeaf_ended hstripe halive hloc hjob hended).trans (congrArg Host.Outcome.next (if_neg (by simp [hlost, hfinal])))
  · exact ⟨congrArg (fun r => Host.Outcome.next (okOr s r)) (State.selfTestCommand_start hstate (.inl rfl)),
      congrArg (fun r => Host.Outcome.next (okOr s r)) (State.selfTestCommand_start hstate (.inr rfl)),
      congrArg (fun r => Host.Outcome.next (okOr s r)) (State.selfTestCommand_stop hstate)⟩
  · have h := fun v => congrArg (fun r => Host.Outcome.next (φ := Fault) (ρ := Refusal) (okOr s r)) (State.selfTestCommand_refused hself hopen v)
    simp only [List.forall_mem_cons, List.not_mem_nil, false_imp_iff, implies_true, and_true]
    exact ⟨h 1, h 2, h 3⟩
  · refine ⟨fun hpass => ?_, fun hfail => ?_⟩
    · exact (execSelfTestShareEnd_last hrun hleft).trans (by rw [hpass]; rfl)
    · exact (execSelfTestShareEnd_last hrun hleft).trans (by rw [hfail]; rfl)

end Sys2Proof.Machine

namespace Sys2Proof.Machine
open Sys2Proof

/-! ### The first decode and stored recovery -/

/-- The sector of a phase in the lane's sample store changes (R147). -/
def State.changeReading (s : State) (p : PackId) (a : ArmId) (h : HeadId) (ph : ReadPhase) (f : Reading → Reading) : State :=
  s.updChan p a h (fun c => { c with store := updReading ph f c.store })

/-- The status of a read sector before it is decoded, at the step its lane reads it in (R183). -/
def State.readBase (s : State) (p : PackId) (a : ArmId) (h : HeadId) (r : Reading) : SectorEnd :=
  r.base ((s.arm p a).fmt.readStep h r.addr)

/-- What the first decode of a read sector comes to at its alignments (R172, R173). -/
def State.firstFate (s : State) (p : PackId) (a : ArmId) (h : HeadId) (r : Reading) (at_ : Int × Int × Bool) (x : Attempt) : Fate :=
  firstDecode (recOf r.params 4) r.relaxed at_.2.2 at_.1 at_.2.1 (r.llr at_.1 at_.2.1 false) (s.readBase p a h r) x

/-- What recovery on a sector's stored samples comes to; its first reason is that of the failed first decode (R174). -/
def State.storedFate (s : State) (p : PackId) (a : ArmId) (h : HeadId) (r : Reading) (at_ : Int × Int × Bool) (x : Recovered) : Fate :=
  recoverStored r.params r.split at_.1 at_.2.1 r.llr x
    { s.readBase p a h r with flywheel := at_.2.2, shift1 := at_.1, shift2 := at_.2.1 } (if r.crcBad then 0x12 else 0x11)

section
variable {s : State} {p : PackId} {a : ArmId} {h : HeadId} {r : Reading} {at_ : Int × Int × Bool}
  (halign : alignments r.split r.mark1 r.mark2 = some at_)
include halign

section
variable {x : Attempt} {snr : Int} (hdecoding : (s.lane p a h).chan.store.find? (fun r => r.phase = .decoding) = some r)
include hdecoding

/-- A failed first decode goes to recovery on the stored samples (R174). -/
theorem execFirstDecodeDone_failed {why : Nat} {e : SectorEnd} (hfate : s.firstFate p a h r at_ x = .failed why e) :
    execFirstDecodeDone p a h x snr s = .next (s.changeReading p a h .decoding (fun r =>
      { r with phase := .recovering, crcBad := e.crcBad, iter := e.iter })) := by
  rw [State.firstFate, State.readBase] at hfate
  simp only [execFirstDecodeDone, hdecoding, halign, hfate]
  rfl

/-- A final first decode waits for its delivery; a clean one teaches the cache (R145, R173). -/
theorem execFirstDecodeDone_final {e : SectorEnd} (hfate : s.firstFate p a h r at_ x = .final e) :
    execFirstDecodeDone p a h x snr s = .next (
      let s1 := s.changeReading p a h .decoding (fun r => { r with phase := .ended })
      (if e.good = true ∧ e.method = 0 then s1.teachCache p a h r else s1).endSector p a h
        { e with snr := if e.good then some snr else none }) := by
  rw [State.firstFate, State.readBase] at hfate
  simp only [execFirstDecodeDone, hdecoding, halign, hfate]
  rfl

end

section
variable {x : Recovered} (hrecovering : (s.lane p a h).chan.store.find? (fun r => r.phase = .recovering) = some r)
include hrecovering

theorem execStoredRecoveryDone_final {e : SectorEnd} (hfate : s.storedFate p a h r at_ x = .final e) :
    execStoredRecoveryDone p a h x s = .next
      ((s.changeReading p a h .recovering (fun r => { r with phase := .ended })).endSector p a h e) := by
  rw [State.storedFate, State.readBase] at hfate
  simp only [execStoredRecoveryDone, hrecovering, halign, hfate]
  rfl

/-- A recovery that fails leads to the ladder with the reason of its last attempt (R174, R178). -/
theorem execStoredRecoveryDone_failed {why : Nat} {e : SectorEnd} (hfate : s.storedFate p a h r at_ x = .failed why e) :
    execStoredRecoveryDone p a h x s = .next
      ((s.changeReading p a h .recovering (fun r => { r with phase := .ended })).toLadder p a h
        { lane := h, addr := r.addr, reason := why, marksOwn := r.marked, drop0 := r.dropout, verify := r.verify,
          llr := r.llr at_.1 at_.2.1 false, crcBad := e.crcBad, last := some e }) := by
  rw [State.storedFate, State.readBase] at hfate
  simp only [execStoredRecoveryDone, hrecovering, halign, hfate]
  rfl

end
end

/-! ### Ladder reads and delivery -/

/-- A ladder read of the sector `x` ends: the ladder runs, the read is under way and its gate's end has come (R178, R179). -/
structure State.LadderReadEnds (s : State) (p : PackId) (a : ArmId) (h : HeadId) (addr : Nat) (x : LadderSector) : Prop where
  sector : (s.arm p a).fmt.ladder.find? (fun x => x.lane = h ∧ x.addr = addr) = some x
  laddering : (s.arm p a).fmt.laddering = true
  passing : x.passing = true
  isOpen : (s.lane p a h).chan.readOpen = true
  come : angleReached (s.lane p a h).chan.gateEnd (s.laneAngle p a h) = true

theorem State.LadderReadEnds.notBarred {s : State} {p : PackId} {a : ArmId} {h : HeadId} {addr : Nat} {x : LadderSector}
    (hends : s.LadderReadEnds p a h addr x) :
    ¬ (¬ (s.arm p a).fmt.laddering = true ∨ ¬ x.passing = true ∨ ¬ (s.lane p a h).chan.readOpen = true
      ∨ ¬ angleReached (s.lane p a h).chan.gateEnd (s.laneAngle p a h) = true) := by
  simp [hends.laddering, hends.passing, hends.isOpen, hends.come]

/-- The gate of a ladder read has closed, and what it read enters the lane's health (R164). -/
def State.closeLadderRead (s : State) (p : PackId) (a : ArmId) (h : HeadId) (r : Reading) : State :=
  s.updLane p a h (fun l => { l with chan := { l.chan with readOpen := false, power := .idle }, health := l.health.sawRead r.marked r.slips })

/-- What a sector in the ladder keeps of a read of it: its marks, its LLRs for a combined read, its samples for the average (R180). -/
def LadderSector.gather (x : LadderSector) (r : Reading) : LadderSector :=
  { x with
    marksOwn := r.marked, reads := x.reads + 1,
    llr := if (alignments r.split r.mark1 r.mark2).isSome then r.llr r.atMarks.1 r.atMarks.2.1 false else x.llr,
    sum := if x.step = 5 then sumSamples x.sum (r.codeSamples r.atMarks.1 r.atMarks.2.1) else x.sum }

section
variable {s : State} {p : PackId} {a : ArmId} {h : HeadId} {addr : Nat} {x : LadderSector} {v : LadderRead} {r : Reading}
  (hends : s.LadderReadEnds p a h addr x) (hread : s.ladderReading p a x v = r)
include hends hread

/-- A sector whose whole read gate is dropout at steps 0 and 1 is blank (R182). -/
theorem execLadderReadDone_blank (hblank : x.step = 1 ∧ x.drop0 = true ∧ r.dropout = true) :
    execLadderReadDone p a h addr v s = .next (((s.closeLadderRead p a h r).dropLadder p a x).endSector p a h
      { r.base 1 with outcome := 0x15 }) := by
  simp only [execLadderReadDone, hends.sector, if_neg hends.notBarred, hread, if_pos hblank]
  rfl

section
variable (hnotBlank : ¬ (x.step = 1 ∧ x.drop0 = true ∧ r.dropout = true))
include hnotBlank

theorem execLadderReadDone_final {e : SectorEnd} (hfate : s.ladderFate p a x r v = .final e) :
    execLadderReadDone p a h addr v s = .next (((s.closeLadderRead p a h r).dropLadder p a x).endSector p a h e) := by
  simp only [execLadderReadDone, hends.sector, if_neg hends.notBarred, hread, if_neg hnotBlank, hfate]
  rfl

/-- A sector that fails goes on up the ladder with what the read gathered (R178, R180). -/
theorem execLadderReadDone_failed {why : Nat} {e : SectorEnd} (hfate : s.ladderFate p a x r v = .failed why e) :
    execLadderReadDone p a h addr v s = .next ((s.closeLadderRead p a h r).ladderOn p a
      { x.gather r with reason := why, crcBad := e.crcBad, last := some e } e) := by
  simp only [execLadderReadDone, hends.sector, if_neg hends.notBarred, hread, if_neg hnotBlank, hfate]
  rfl

end
end

/-- The oldest sector that has ended is sent (R148, R185). -/
theorem execSectorDelivery_oldest {s : State} {p : PackId} {a : ArmId} {h : HeadId} {e : SectorEnd} {l : List SectorEnd}
    (hended : (s.lane p a h).chan.ends = e :: l) :
    execSectorDelivery p a h s = .next ((s.updChan p a h (fun c => { c with ends := l })).deliverEnd p a h e) := by
  simp only [execSectorDelivery, hended]

/-- Settles O23: the two ends of a first decode and of stored recovery, then the three of a ladder read and the delivery. -/
theorem sectorRecovery : Obligations.SectorRecovery := by
  refine fun s p a h => ⟨fun r a1 a2 fly x snr hdecoding halign => ⟨fun why e => ?_, fun e => ?_⟩,
    fun r a1 a2 fly x hrecovering halign => ⟨fun e => ?_, fun why e => ?_⟩,
    fun addr v x hsector hladdering hpassing hopen hcome => ?_, fun e l => execSectorDelivery_oldest⟩
  · exact execFirstDecodeDone_failed halign hdecoding
  · exact execFirstDecodeDone_final halign hdecoding
  · exact execStoredRecoveryDone_final halign hrecovering
  · exact execStoredRecoveryDone_failed halign hrecovering
  · have hends : s.LadderReadEnds p a h addr x := ⟨hsector, hladdering, hpassing, hopen, hcome⟩
    exact ⟨fun hstep hdrop hblank => execLadderReadDone_blank hends rfl ⟨hstep, hdrop, hblank⟩,
      fun hnotBlank => ⟨fun e => execLadderReadDone_final hends rfl hnotBlank, fun why e => execLadderReadDone_failed hends rfl hnotBlank⟩⟩

end Sys2Proof.Machine

namespace Sys2Proof.Machine
open Sys2Proof

/-! ### Key locks and stripes -/

section
variable {s : State}

/-- A lock without a holder goes to the command that has waited longest, which goes on (R325). -/
theorem execKeyLockGrant_longestWaiter {hash : Nat} {k : KeyLock} {w : Nat × Nat} {rest : List (Nat × Nat)}
    (hlock : s.store.lock? hash = some k) (hfree : k.holder = none) (hwaiters : k.waiters = w :: rest) :
    execKeyLockGrant hash s = .next ((s.updStore (fun t =>
      { t with locks := t.locks.map (fun y => if y.hash = hash then { y with holder := some w, waiters := rest } else y) })).updSvc (fun v =>
        { v with seqs := v.seqs.map (fun q => { q with ctx := q.ctx.map (fun x =>
          if x.busy ∧ x.ring = w.1 ∧ x.slot = w.2 ∧ x.wait = .block 0 then { x with wait := .none } else x) }) })) := by
  simp only [execKeyLockGrant, hlock, hfree, hwaiters]

section
variable {x : SpanId} {z : OpenPetit} (hpetit : s.store.spans[x].petit = some z)
include hpetit

theorem execPetitFourDurableSeal_open :
    execPetitFourDurableSeal x s = .next (if z.durableAt.isSome then s.sealPetit x else s) := by
  simp only [execPetitFourDurableSeal, hpetit]

theorem execPetitFourLazySeal_open :
    execPetitFourLazySeal x s = .next (if z.lazyAt.isSome then s.sealPetit x else s) := by
  simp only [execPetitFourLazySeal, hpetit]

end

/-- A retry tries to place the stripe, then to write each leaf of it that no slot could take before (R320, R335). -/
theorem execStripePlacementRetry_live {x : SpanId} {addr : Nat} {t : Stripe}
    (hstripe : (s.tryPlace x addr).store.spans[x].stripe? addr = some t) :
    execStripePlacementRetry x addr s = .next (((s.tryPlace x addr).leavesDue x t).foldl (fun s j =>
      (s.moveLeaf x addr j false none (fun _ => false)).getD s) (s.tryPlace x addr)) := by
  simp only [execStripePlacementRetry, hstripe]

/-- A leaf that every lane wrote untorn sets its locator (R210, R335), and a pack that the leaf was the last to leave leaves its span (R347). -/
theorem execLeafWriteDone_whole {p : PackId} {a : ArmId} {tag : Nat} {w : LeafWrite} {r : List Byte} (hspan : w.span < 8)
    (hwrite : s.store.writes.find? (fun w => w.tag = tag ∧ w.loc.pack = p.val ∧ w.loc.band % 2 = a.val) = some w)
    (hrecord : s.recordOf p a tag = some r) (hwhole : wroteWhole r = true) (hhub : s.clusters.failOver = none) :
    execLeafWriteDone p a tag s = .next ((((((s.updStore (fun t => { t with writes := t.writes.filter (fun y => y.tag ≠ tag) })).leafPlaced
      ⟨w.span, hspan⟩ w).saveBands).noteLeft ⟨w.span, hspan⟩).noteEmpty).noteSpans) := by
  simp only [execLeafWriteDone, hhub, Option.isSome_none, Bool.false_eq_true, if_false, hwrite, hrecord, dif_pos hspan, if_pos hwhole]

/-! ### Journal -/

/-- A sector is written where one is due and overwrites nothing that a replay needs; its records commit once it is untorn on all three packs
(R332, R334). -/
theorem execJournalSectorCommit_writes (untorn : Bool) (hdue : s.store.journal ≠ []) (hroom : s.journalFree = true) :
    execJournalSectorCommit untorn s = .next (if untorn ∧ s.store.journalWhole then (s.writeSectors 1).commitJournal 32 else s.writeSectors 1) :=
  congrArg Host.Outcome.next (if_neg (not_or.mpr ⟨hdue, not_not_intro hroom⟩))

theorem execJournalSectorCommit_waits (untorn : Bool) (h : s.store.journal = [] ∨ s.journalFree = false) :
    execJournalSectorCommit untorn s = .next s :=
  congrArg Host.Outcome.next (if_pos (h.imp_right Bool.eq_false_iff.mp))

/-- The lag commits the whole queue where all three packs take it and it overwrites nothing that a replay needs (R333, R334). -/
theorem execJournalLagExpiry_flushes (hpacks : s.store.journalWhole = true) (hroom : s.journalFree = true) :
    execJournalLagExpiry s = .next s.flushJournal :=
  congrArg Host.Outcome.next (if_pos ⟨hpacks, hroom⟩)

theorem execJournalLagExpiry_waits (h : s.store.journalWhole = false ∨ s.journalFree = false) : execJournalLagExpiry s = .next s :=
  congrArg Host.Outcome.next (if_neg (not_and_of_not_or_not (h.imp Bool.eq_false_iff.mp Bool.eq_false_iff.mp)))

end

/-- Settles O30: the lock, the stripes, the leaf writes and the journal by their lemmas; the checkpoint and the pack brought up to date are the
branches of their commands that the premises open. That an event asserts that its time has passed is the model's choice (log entry 4, here both
seal times and the journal lag), and so are a journal sector that counts whole or not at all (65) and the committed versions that a segment
shows (164). -/
theorem locksStripesAndJournal : Obligations.LocksStripesAndJournal := by
  refine fun s => ⟨fun hash k w rest => execKeyLockGrant_longestWaiter, fun x z t hpetit hdurable => ?_, fun x z t hpetit hlazy => ?_,
    fun x z hpetit hnone => ?_, fun x addr t => execStripePlacementRetry_live, fun p a tag w r => execLeafWriteDone_whole,
    fun hdue hroom hpacks => ?_, fun untorn hdue hroom htorn => ?_, execJournalSectorCommit_waits, execJournalLagExpiry_flushes,
    execJournalLagExpiry_waits, fun hformed hpacks => ?_, fun p hformed hchosen hbehind hready => ?_⟩
  · exact (execPetitFourDurableSeal_open hpetit).trans (congrArg Host.Outcome.next (if_pos (Option.isSome_of_eq_some hdurable)))
  · exact (execPetitFourLazySeal_open hpetit).trans (congrArg Host.Outcome.next (if_pos (Option.isSome_of_eq_some hlazy)))
  · exact (execPetitFourDurableSeal_open hpetit).trans (congrArg Host.Outcome.next (if_neg (by simp [hnone])))
  · exact (execJournalSectorCommit_writes true hdue hroom).trans (congrArg Host.Outcome.next (if_pos ⟨rfl, hpacks⟩))
  · have hkept : ¬ (untorn = true ∧ s.store.journalWhole = true) := not_and_of_not_or_not (htorn.imp Bool.eq_false_iff.mp Bool.eq_false_iff.mp)
    exact (execJournalSectorCommit_writes untorn hdue hroom).trans (congrArg Host.Outcome.next (if_neg hkept))
  · exact congrArg Host.Outcome.next (if_neg (not_or.mpr ⟨not_not_intro hformed, not_not_intro hpacks⟩))
  · exact congrArg Host.Outcome.next (if_pos ⟨hformed, hchosen, Bool.eq_false_iff.mp hbehind, hready⟩)

end Sys2Proof.Machine

namespace Sys2Proof.Machine
open Sys2Proof

/-! ### What a service context's count of its issued words leaves as it was -/

section
variable (s : State) (e : Eng) (q : SeqId) (c : CtxId)

/-- Two changes of one context are one. -/
theorem State.updCtx_updCtx (f g : Ctx → Ctx) : (s.updCtx q c f).updCtx q c g = s.updCtx q c (fun x => g (f x)) := by
  simp [State.updCtx]

/-- The next word of a service context is the one after. -/
theorem State.advance_service : s.advance (.service q c) = s.updCtx q c (fun x => { x with pc := x.pc + 1 }) := by
  simp only [State.advance, State.setThread, State.thread, State.updCtx, State.ctx]

/-- The context that has issued a word keeps everything but its counts of R215. -/
theorem ctx_issued : ∃ n b, (s.issued (.service q c)).ctx q c = { s.ctx q c with sinceSafe := n, forcedSafe := b } :=
  ⟨_, _, (State.updCtx_same _ q c _).trans (by rw [ctx_noteTurn])⟩

@[simp] theorem ctx_issued_ring : ((s.issued (.service q c)).ctx q c).ring = (s.ctx q c).ring := by
  obtain ⟨n, b, h⟩ := ctx_issued s q c; rw [h]
@[simp] theorem ctx_issued_slot : ((s.issued (.service q c)).ctx q c).slot = (s.ctx q c).slot := by
  obtain ⟨n, b, h⟩ := ctx_issued s q c; rw [h]
@[simp] theorem ctx_issued_chain : ((s.issued (.service q c)).ctx q c).chain = (s.ctx q c).chain := by
  obtain ⟨n, b, h⟩ := ctx_issued s q c; rw [h]
@[simp] theorem ctx_issued_admin : ((s.issued (.service q c)).ctx q c).admin = (s.ctx q c).admin := by
  obtain ⟨n, b, h⟩ := ctx_issued s q c; rw [h]
@[simp] theorem ctx_issued_regs : ((s.issued (.service q c)).ctx q c).regs = (s.ctx q c).regs := by
  obtain ⟨n, b, h⟩ := ctx_issued s q c; rw [h]
@[simp] theorem ctx_issued_load (space addr : Nat) :
    ((s.issued (.service q c)).ctx q c).load space addr = (s.ctx q c).load space addr := by
  obtain ⟨n, b, h⟩ := ctx_issued s q c; rw [h]; rfl

/-- Nor does it change what the sequencers share, the dictionary, the time or the size of buffer memory. -/
@[simp] theorem svc_cmd_issued (ring slot : Nat) : (s.issued (.service q c)).svc.cmd ring slot = s.svc.cmd ring slot := rfl
@[simp] theorem svc_dispatch_issued : (s.issued (.service q c)).svc.dispatch = s.svc.dispatch := rfl
@[simp] theorem svc_dispatchMarks_issued : (s.issued (.service q c)).svc.dispatchMarks = s.svc.dispatchMarks := rfl
@[simp] theorem owesTokens_issued (ring slot : Nat) : (s.issued (.service q c)).owesTokens ring slot = s.owesTokens ring slot := rfl
@[simp] theorem tokensOut_issued : (s.issued (.service q c)).tokensOut q = s.tokensOut q := rfl
@[simp] theorem bufSize_issued : (s.issued (.service q c)).bufSize = s.bufSize := rfl
@[simp] theorem now_issued : (s.issued (.service q c)).now = s.now := rfl
@[simp] theorem holds_issued (w : Word) : (s.issued e).holds e w = s.holds e w := holds_count ..

end

/-! ### Arithmetic and logic -/

section
variable (r : Regs) (w : Word)

theorem Regs.put_eq_result (v : Reg64) : r.put w v = r.result w v (v == 0) v.msb r.c r.later := by
  simp only [Regs.put, Regs.zn, set_eq, Regs.result]

theorem Regs.add_eq_result :
    let v := r.get w.ra + r.opB w
    r.add w = r.result w v (v == 0) v.msb (decide (2 ^ 64 ≤ (r.get w.ra).toNat + (r.opB w).toNat)) r.later := by
  simp only [Regs.add, Regs.zn, set_eq, Regs.result, BitVec.ofNat_add, BitVec.ofNat_toNat, BitVec.setWidth_eq]

theorem Regs.sub_eq_result :
    let v := r.get w.ra - r.opB w
    (r.subFlags w).set w.rd v = r.result w v (v == 0) v.msb (decide ((r.get w.ra).toNat < (r.opB w).toNat)) r.later := by
  simp only [Regs.subFlags, Regs.zn, set_eq, Regs.result]

end

/-! ### Words whose predicate is false -/

/-- The micro-operations but WAITE, each with its opcode (R196). -/
def predicated (same : Bool) : List (Nat × (Eng → Instr)) :=
  [(0x00, .cNop), (0x01, .cAdd), (0x02, .cSub), (0x03, .cAnd), (0x04, .cOr), (0x05, .cXor), (0x06, .cShl), (0x07, .cShr),
    (0x08, .cCmp), (0x09, .cMovi), (0x0A, .cMin), (0x0B, .cMax), (0x0C, .cAdda), (0x0D, .cAcmp), (0x10, .cLd), (0x11, .cSt),
    (0x12, .cLdl), (0x13, .cStl), (0x18, .cJmp), (0x19, .cCall), (0x1A, .cRet), (0x1B, .cJmpr), (0x1C, .cEnd), (0x1D, .cDisp),
    (0x20, .cWaita), (0x21, .cWaitr), (0x23, .cSuspend), (0x24, .cCommit), (0x25, .cAbtset), (0x28, fun e => .cSeek e same), (0x29, .cXfer),
    (0x2A, .cLadder), (0x2B, .cLink), (0x2C, .cNow), (0x2D, .cGrp), (0x30, .cEng)]

theorem predicated_ne_waite {same : Bool} : ∀ x ∈ predicated same, x.1 ≠ 0x22 := by
  simp [predicated]

/-- Each of them acts through the issue of its word. -/
theorem exec_predicated {same : Bool} (s : State) (e : Eng) : ∀ x ∈ predicated same, ∃ f, exec (x.2 e) s = .next (s.issue e x.1 f) := by
  simp only [predicated, List.forall_mem_cons, List.not_mem_nil, false_imp_iff, implies_true, and_true]
  and_intros <;> exact ⟨_, rfl⟩

section
variable {s : State} {e : Eng} {opc : Nat}

/-- A result that sets Z and N, the carry and the order kept (R196). -/
theorem alu_put_issued (h : s.Issues e opc) (op : Reg64 → Reg64 → Reg64) :
    Host.Outcome.next (φ := Fault) (ρ := Refusal) (s.alu e opc (fun w r => r.put w (op (r.get w.ra) (r.opB w)))) =
      .next (s.retires e (
        let w := s.wordOf e
        let r := s.regs e
        let v := op (r.get w.ra) (r.opB w)
        r.result w v (v == 0) v.msb r.c r.later)) :=
  congrArg Host.Outcome.next ((State.alu_issued h _).trans (congrArg _ (Regs.put_eq_result ..)))

/-- A result that sets Z alone (R196). -/
theorem alu_putZ_issued (h : s.Issues e opc) (op : Reg64 → Reg64 → Reg64) :
    Host.Outcome.next (φ := Fault) (ρ := Refusal) (s.alu e opc (fun w r => r.putZ w (op (r.get w.ra) (r.opB w)))) =
      .next (s.retires e (
        let w := s.wordOf e
        let r := s.regs e
        let v := op (r.get w.ra) (r.opB w)
        r.result w v (v == 0) r.n r.c r.later)) :=
  congrArg Host.Outcome.next ((State.alu_issued h _).trans (congrArg _ (Regs.putZ_eq_result ..)))

theorem execAdd_issued (h : s.Issues e 0x01) : execAdd e s = .next (s.retires e ((s.regs e).add (s.wordOf e))) :=
  congrArg Host.Outcome.next (State.alu_issued h _)

theorem execSub_issued (h : s.Issues e 0x02) : execSub e s = .next (s.retires e (
    ((s.regs e).subFlags (s.wordOf e)).set (s.wordOf e).rd ((s.regs e).get (s.wordOf e).ra - (s.regs e).opB (s.wordOf e)))) :=
  congrArg Host.Outcome.next (State.alu_issued h _)

theorem execCmp_issued (h : s.Issues e 0x08) : execCmp e s = .next (s.retires e ((s.regs e).subFlags (s.wordOf e))) :=
  congrArg Host.Outcome.next (State.alu_issued h _)

theorem execMovi_issued (h : s.Issues e 0x09) :
    execMovi e s = .next (s.retires e ((s.regs e).set (s.wordOf e).rd (s.wordOf e).imm)) :=
  congrArg Host.Outcome.next (State.alu_issued h _)

theorem execNop_issued (h : s.Issues e 0x00) : execNop e s = .next (s.retires e (s.regs e)) :=
  congrArg Host.Outcome.next (State.alu_issued h _)

end

/-- Settles O9: what issues goes through `State.retires`, and what does not hold takes only the cycle (`false_eq`). -/
theorem aluAndFalsePredicate : Obligations.AluAndFalsePredicate := by
  refine ⟨fun s e => ⟨fun h => ?_, fun h => ?_, fun h => alu_put_issued h (· &&& ·), fun h => alu_put_issued h (· ||| ·),
    fun h => alu_put_issued h (· ^^^ ·), fun h => alu_put_issued h (fun a b => a <<< (b.toNat % 64)),
    fun h => alu_put_issued h (fun a b => a >>> (b.toNat % 64)), fun h => ?_,
    fun h => alu_putZ_issued h (fun a b => if b.toNat < a.toNat then b else a),
    fun h => alu_putZ_issued h (fun a b => if a.toNat < b.toNat then b else a), execCmp_issued⟩,
    fun s e => ⟨execNop_issued, fun same x hx h hfalse => ?_⟩⟩
  · exact (execAdd_issued h).trans (by rw [Regs.add_eq_result])
  · exact (execSub_issued h).trans (by rw [Regs.sub_eq_result])
  · exact (execMovi_issued h).trans (by rw [Regs.set_eq_result])
  · obtain ⟨f, hexec⟩ := exec_predicated (same := same) s e x hx
    rw [hexec, false_eq s e _ f h hfalse (predicated_ne_waite x hx), advance_issued]

end Sys2Proof.Machine

namespace Sys2Proof.Machine
open Sys2Proof

/-! ### Loads and stores -/

section
variable {s : State} {p : PackId} {a : ArmId} {addr v : Nat}
  (haddr : (s.regs (.formatter p a)).address (s.wordOf (.formatter p a)) = addr)
include haddr

theorem execLd_formatter (h : s.Issues (.formatter p a) 0x10)
    (hload : s.fmtLoad p a (s.wordOf (.formatter p a)).sel addr = some v) :
    execLd (.formatter p a) s = .next (s.retires (.formatter p a)
      ((s.regs (.formatter p a)).set (s.wordOf (.formatter p a)).rd (BitVec.ofNat 64 v))) := by
  simp only [State.regs] at haddr
  simp only [execLd, issue_eq s _ _ _ h, issued_fmt, haddr, hload]
  rfl

theorem execLd_formatter_illegal (h : s.Issues (.formatter p a) 0x10)
    (hload : s.fmtLoad p a (s.wordOf (.formatter p a)).sel addr = none) :
    execLd (.formatter p a) s = .next (s.engFault (.formatter p a)) := by
  simp only [State.regs] at haddr
  simp only [execLd, issue_eq s _ _ _ h, issued_fmt, haddr, hload]

end

section
variable {s : State} {q : SeqId} {c : CtxId} {addr v : Nat}
  (haddr : (s.regs (.service q c)).address (s.wordOf (.service q c)) = addr)
include haddr

theorem execLd_service (h : s.Issues (.service q c) 0x10) (hsel : (s.wordOf (.service q c)).sel ≠ 2)
    (hload : (s.ctx q c).load (s.wordOf (.service q c)).sel addr = some v) :
    execLd (.service q c) s = .next (s.retires (.service q c)
      ((s.regs (.service q c)).set (s.wordOf (.service q c)).rd (BitVec.ofNat 64 v))) := by
  simp only [State.regs] at haddr
  simp only [execLd, issue_eq s _ _ _ h, thread_issued, if_neg hsel, ctx_issued_load, haddr, hload]
  rfl

/-- A load of buffer memory makes the context wait (R199, R212). -/
theorem execLd_buffer (h : s.Issues (.service q c) 0x10) (hsel : (s.wordOf (.service q c)).sel = 2)
    (hok : addr % 8 = 0 ∧ addr + 8 ≤ s.bufSize) :
    execLd (.service q c) s = .next ((s.issued (.service q c)).updCtx q c (fun x =>
      { x with wait := .load (s.wordOf (.service q c)).rd.val addr })) := by
  simp only [State.regs] at haddr
  simp only [execLd, issue_eq s _ _ _ h, thread_issued, if_pos hsel, bufSize_issued, haddr, if_pos hok]

theorem execLdl_issued (h : s.Issues (.service q c) 0x12) (hok : addr % 64 = 0 ∧ addr + 64 ≤ s.bufSize) :
    execLdl (.service q c) s = .next ((s.issued (.service q c)).updCtx q c (fun x => { x with wait := .load 16 addr })) := by
  simp only [State.regs] at haddr
  simp only [execLdl, issue_eq s _ _ _ h, thread_issued, bufSize_issued, haddr, if_pos hok]

theorem execStl_issued (h : s.Issues (.service q c) 0x13) (hok : addr % 64 = 0 ∧ addr + 64 ≤ s.bufSize) :
    execStl (.service q c) s = .next (
      let m := (s.issued (.service q c)).bufWrite .service false addr (wordBytes (s.regs (.service q c)).body) .none
      (m.1.advance (.service q c)).raiseAll m.2) := by
  simp only [State.regs] at haddr ⊢
  simp only [execStl, issue_eq s _ _ _ h, thread_issued, bufSize_issued, haddr, if_pos hok]

end

section
variable {s : State} {e : Eng}

/-- ST writes the scratch, at an address within it (R198, R199). -/
theorem execSt_issued (h : s.Issues e 0x11) :
    execSt e s = .next (
      let t := s.thread e
      let addr := (s.regs e).address (s.wordOf e)
      if spaceOk (engScratchSize e) addr then
        (s.issued e).setThread e { t with scratch := scratchPut t.scratch addr (t.regs.get (s.wordOf e).rb).toNat, pc := t.pc + 1 }
      else (s.issued e).engFault e) := by
  simp only [execSt, issue_eq s _ _ _ h, thread_issued]
  rfl

/-! ### Jumps, calls and returns -/

theorem execJmp_issued (h : s.Issues e 0x18) :
    execJmp e s = .next ((s.issued e).setThread e { s.thread e with pc := (s.wordOf e).target }) := by
  simp only [execJmp, issue_eq s _ _ _ h, thread_issued]

theorem execCall_issued (h : s.Issues e 0x19) :
    execCall e s = .next (
      let t := s.thread e
      if t.stack.length < engStackDepth e then
        (s.issued e).setThread e { t with stack := (t.pc + 1) :: t.stack, pc := (s.wordOf e).target }
      else (s.issued e).engFault e) := by
  simp only [execCall, issue_eq s _ _ _ h, thread_issued]

theorem execRet_cons {x : Nat} {l : List Nat} (h : s.Issues e 0x1A) (hstack : (s.thread e).stack = x :: l) :
    execRet e s = .next ((s.issued e).setThread e { s.thread e with stack := l, pc := x }) := by
  simp only [execRet, issue_eq s _ _ _ h, thread_issued, hstack]

theorem execRet_nil (h : s.Issues e 0x1A) (hstack : (s.thread e).stack = []) :
    execRet e s = .next ((s.issued e).engFault e) := by
  simp only [execRet, issue_eq s _ _ _ h, thread_issued, hstack]

theorem execJmpr_issued (h : s.Issues e 0x1B) :
    execJmpr e s = .next ((s.issued e).setThread e
      { s.thread e with pc := ((s.regs e).get (s.wordOf e).ra).toNat % 2 ^ 14 }) := by
  simp only [execJmpr, issue_eq s _ _ _ h, thread_issued, State.regs]

end

/-- Settles O11: each micro-operation by its lemma, a store and a call by whether the address or the stack allows it. -/
theorem memoryAndFlowCommands : Obligations.MemoryAndFlowCommands := by
  refine fun s e => ⟨?_, ?_, ?_, ?_, ?_, ?_, fun h haddr => ?_, fun h haddr => ?_, execJmp_issued, fun h hroom => ?_, fun h hfull => ?_,
    fun _ _ => execRet_cons, execRet_nil, execJmpr_issued⟩
  · rintro p a v rfl h hload
    exact (execLd_formatter rfl h hload).trans (by rw [Regs.set_eq_result])
  · rintro p a rfl h hload
    exact execLd_formatter_illegal rfl h hload
  · rintro q c v rfl h hsel hload
    exact (execLd_service rfl h hsel hload).trans (by rw [Regs.set_eq_result])
  · rintro q c rfl h hsel haddr hend
    exact execLd_buffer rfl h hsel ⟨haddr, hend⟩
  · rintro q c rfl h haddr hend
    exact execLdl_issued rfl h ⟨haddr, hend⟩
  · rintro q c rfl h haddr hend
    exact execStl_issued rfl h ⟨haddr, hend⟩
  · exact (execSt_issued h).trans (congrArg Host.Outcome.next (if_pos haddr))
  · exact (execSt_issued h).trans (congrArg Host.Outcome.next (if_neg (ne_true_of_eq_false haddr)))
  · exact (execCall_issued h).trans (congrArg Host.Outcome.next (if_pos hroom))
  · exact (execCall_issued h).trans (congrArg Host.Outcome.next (if_neg (Nat.not_lt.mpr hfull)))

end Sys2Proof.Machine

namespace Sys2Proof.Machine
open Sys2Proof

/-! ### END and DISP -/

section
variable {s : State} {p : PackId} {a : ArmId}

theorem execEnd_formatter (h : s.Issues (.formatter p a) 0x1C) :
    execEnd (.formatter p a) s = .next ((s.closeRoutine p a 0x20 (fun f =>
      f.endOutcome ((s.wordOf (.formatter p a)).imm.toNat % 256))).kick p a) := by
  simp only [execEnd, issue_eq s _ _ _ h, issued_fmt]

/-- A WAITE whose condition does not hold waits for it, until its deadline where it has one (R196). -/
theorem execWaite_formatter_waits (h : s.Fetches (.formatter p a) 0x22)
    (hfalse : s.holds (.formatter p a) (s.wordOf (.formatter p a)) = false) :
    execWaite (.formatter p a) s = .next (
      let w := s.wordOf (.formatter p a)
      s.updFmt p a (fun f => { f with
        wait := .event w.cond w.cneg (if w.imm.toNat % 2 ^ 32 = 0 then none else some (s.now + w.imm.toNat % 2 ^ 32)) })) := by
  simp only [execWaite, fetch_eq s _ _ _ h, issued_fmt, hfalse, ne_eq, not_true_eq_false, false_and, if_false, Bool.false_eq_true]

end

section
variable {s : State} {q : SeqId} {c : CtxId}

/-- A command none of whose tokens is outstanding ends at once (R219). -/
theorem State.tryEnd_free (h : s.owesTokens (s.ctx q c).ring (s.ctx q c).slot = false) (status : Nat) :
    s.tryEnd q c status = s.endService q c status := by
  simp only [State.tryEnd, h, Bool.false_eq_true, if_false]

theorem execEnd_service (h : s.Issues (.service q c) 0x1C) :
    execEnd (.service q c) s =
      .next ((s.issued (.service q c)).tryEnd q c ((s.wordOf (.service q c)).imm.toNat % 65536)) := by
  simp only [execEnd, issue_eq s _ _ _ h]

/-- An entry that is valid, and an admin one on an admin ring, is entered at its START (R213, R214). -/
theorem State.dispatch_valid {d : Nat} (hvalid : d.testBit 14 = true) (hadmin : d.testBit 15 = false ∨ (s.ctx q c).admin = true) :
    s.dispatch q c d = s.updCtx q c (fun x => { x with pc := d % 2 ^ 14 }) := by
  have hallowed : ¬ (d.testBit 15 = true ∧ ¬ (s.ctx q c).admin = true) := by
    rintro ⟨hbit, hring⟩
    rcases hadmin with h | h
    · exact absurd hbit (ne_true_of_eq_false h)
    · exact hring h
  simp only [State.dispatch, hvalid, not_true_eq_false, if_false, if_neg hallowed]

theorem execDisp_unmarked (h : s.Issues (.service q c) 0x1D) (hmarks : s.svc.dispatchMarks = []) :
    execDisp (.service q c) s = .next ((s.issued (.service q c)).dispatch q c
      (s.svc.dispatch.getD (fieldAt (s.ctx q c).chain 0 1) 0).toNat) := by
  simp only [execDisp, issue_eq s _ _ _ h, ctx_issued_chain, svc_dispatch_issued, svc_dispatchMarks_issued, hmarks, List.any_nil,
    Bool.false_eq_true, if_false]

/-! ### WAITE and the ends of waits -/

theorem execWaite_service_waits (h : s.Fetches (.service q c) 0x22)
    (hfalse : s.holds (.service q c) (s.wordOf (.service q c)) = false) :
    execWaite (.service q c) s = .next (
      let w := s.wordOf (.service q c)
      (s.issued (.service q c)).updCtx q c (fun x => { x with
        wait := .event w.cond w.cneg (if w.imm.toNat % 2 ^ 32 = 0 then none else some (s.now + w.imm.toNat % 2 ^ 32)) })) := by
  simp only [execWaite, fetch_eq s _ _ _ h, holds_issued, now_issued, hfalse, ne_eq, not_true_eq_false, false_and, if_false,
    Bool.false_eq_true]

/-- The eight bytes that a load of buffer memory has read go into its register (R212). -/
theorem execMemoryLoadComplete_eight {rd addr : Nat} {x : List DramRead} {err : SramErr} {bytes : List Byte} {t : State} {l : List Nat}
    (hrd : rd < 16) (hwait : (s.ctx q c).wait = .load rd addr) (hread : s.bufRead .service false addr 8 x err = (some bytes, t, l)) :
    execMemoryLoadComplete q c x err s = .next ((t.updCtx q c (fun y =>
      { y with wait := .none, pc := y.pc + 1, regs := y.regs.set ⟨rd, hrd⟩ (BitVec.ofNat 64 (fieldAt bytes 0 8)) })).raiseAll l) := by
  simp only [execMemoryLoadComplete, hwait, if_pos hrd, dif_pos hrd, hread]
  rfl

end

section
variable {s : State} {e : Eng} {k : Nat} {n : Bool}

theorem execWaite_goes_on (h : s.Issues e 0x22) : execWaite e s = .next ((s.issued e).endWait e false) := by
  simp only [execWaite, issue_eq s _ _ _ h, holds_issued, h.holds, if_true]

/-- A wait ends in the common way where its safe point lets the engine go on (R215, R216). -/
theorem State.leaveWait_go (hgo : s.waitAct e = .go) (timeout : Bool) : s.leaveWait e timeout = s.endWait e timeout := by
  simp only [State.leaveWait, hgo]

theorem execWaiteConditionMet_met {d : Option Nat} (hwait : s.eventWait e = some (k, n, d)) (hgo : s.waitAct e = .go)
    (hcond : s.cond e (s.wordOf e).ra k = !n) : execWaiteConditionMet e s = .next (s.endWait e false) := by
  simp only [execWaiteConditionMet, hwait, hcond, Bool.not_bne_self, if_true, State.leaveWait_go hgo]

theorem execWaiteTimeout_due {d : Nat} (hwait : s.eventWait e = some (k, n, some d)) (hgo : s.waitAct e = .go)
    (hcond : s.cond e (s.wordOf e).ra k = n) : execWaiteTimeout e s = .next (s.endWait e true) := by
  simp only [execWaiteTimeout, hwait, hcond, bne_self_eq_false, Bool.false_eq_true, if_false, State.leaveWait_go hgo]

end

/-- Settles O12: each by its lemma; the deadline of a wait is judged by whoever puts `cWaiteTimeout` (assumption 4). -/
theorem endDispatchAndWait : Obligations.EndDispatchAndWait := by
  refine ⟨fun s p a => execEnd_formatter, fun s q c h howes => ?_, fun s q c d h hd hmarks hvalid hadmin => ?_, fun s e => execWaite_goes_on,
    fun s p a => execWaite_formatter_waits, fun s q c => execWaite_service_waits, fun s e k n d => execWaiteConditionMet_met,
    fun s e k n d => execWaiteTimeout_due, fun s q c rd addr x err bytes t l hrd => execMemoryLoadComplete_eight hrd⟩
  · refine (execEnd_service h).trans (congrArg Host.Outcome.next (State.tryEnd_free ?_ _))
    rwa [ctx_issued_ring, ctx_issued_slot, owesTokens_issued]
  · subst hd
    refine (execDisp_unmarked h hmarks).trans (congrArg Host.Outcome.next (State.dispatch_valid hvalid ?_))
    rwa [ctx_issued_admin]

end Sys2Proof.Machine

namespace Sys2Proof.Machine
open Sys2Proof

/-! ### Suspension -/

section
variable {s : State} {q : SeqId} {c : CtxId}

/-- The context with its wait over and its counts of R215 fresh, as a context block takes it (R218). -/
def Ctx.parked (x : Ctx) : Ctx := { x with wait := .none, sinceSafe := 0, forcedSafe := false }

/-- What a context held last does not matter once it is free, whatever the pool of context blocks took (R218). -/
theorem State.freeCtx_updSvc_updCtx (s : State) (q : SeqId) (c : CtxId) (f : Ctx → Ctx) (g : List Suspended → List Suspended) :
    ((s.updCtx q c f).updSvc (fun v => { v with suspended := g v.suspended })).freeCtx q c =
      (s.updSvc (fun v => { v with suspended := g v.suspended })).freeCtx q c :=
  State.updCtx_updCtx (s.updSvc (fun v => { v with suspended := g v.suspended })) q c f (fun _ => {})

theorem State.suspendCtx_block (hroom : s.svc.suspended.length < s.poolSize) (token : Nat) :
    s.suspendCtx q c token = (s.updSvc (fun v => { v with suspended := v.suspended ++ [⟨(s.ctx q c).parked, token⟩] })).freeCtx q c :=
  if_pos hroom

theorem State.suspendCtx_waits (hfull : s.poolSize ≤ s.svc.suspended.length) (token : Nat) :
    s.suspendCtx q c token = (s.updCtx q c (fun x => { x with wait := .block token })).updSvc (fun v => { v with delayed := sat32 v.delayed 1 }) :=
  if_neg (Nat.not_lt.mpr hfull)

theorem execSuspend_issued (h : s.Issues (.service q c) 0x23) :
    execSuspend (.service q c) s = .next (((s.issued (.service q c)).advance (.service q c)).suspendCtx q c
      ((s.regs (.service q c)).get (s.wordOf (.service q c)).ra).toNat) := by
  simp only [execSuspend, issue_eq s _ _ _ h, thread_issued]
  rfl

@[simp] theorem svc_suspended_advance : ((s.issued (.service q c)).advance (.service q c)).svc.suspended = s.svc.suspended := by
  rw [State.advance_service]
  rfl

@[simp] theorem poolSize_advance : ((s.issued (.service q c)).advance (.service q c)).poolSize = s.poolSize := by
  rw [State.advance_service]
  rfl

theorem execSuspend_block (h : s.Issues (.service q c) 0x23) (hroom : s.svc.suspended.length < s.poolSize) :
    execSuspend (.service q c) s = .next (((s.issued (.service q c)).updSvc (fun v => { v with suspended := v.suspended ++
      [⟨({ s.ctx q c with pc := (s.ctx q c).pc + 1 } : Ctx).parked,
        ((s.regs (.service q c)).get (s.wordOf (.service q c)).ra).toNat⟩] })).freeCtx q c) := by
  obtain ⟨n, b, hctx⟩ := ctx_issued s q c
  rw [execSuspend_issued h, State.suspendCtx_block (by simpa using hroom), State.advance_service, State.updCtx_same]
  simp only [Ctx.parked, hctx]
  exact congrArg Host.Outcome.next (State.freeCtx_updSvc_updCtx _ q c _ (· ++ [_]))

theorem execContextBlockAvailable_block {k : Nat} (hwait : (s.ctx q c).wait = .block k)
    (hroom : s.svc.suspended.length < s.poolSize) (hgo : s.safeCheck q c = .go) :
    execContextBlockAvailable q c s = .next (s.suspendCtx q c k) := by
  simp only [execContextBlockAvailable, hwait, if_pos hroom, hgo]

end

/-! ### Resumption -/

section
variable {s : State} {ring slot : Nat} {b : Suspended}

/-- The pool of context blocks without that of a command. -/
def State.dropBlock (s : State) (ring slot : Nat) : State :=
  s.updSvc (fun v => { v with suspended := v.suspended.filter (fun y => ¬(y.ctx.ring = ring ∧ y.ctx.slot = slot)) })

/-- The command is to abort: one is registered and it has not committed (R217). -/
def Service.aborts (v : Service) (ring slot : Nat) : Bool := (v.cmd ring slot).any (fun y => y.aborted && !y.committed)

variable {q : SeqId} {c : CtxId} (hfo : s.clusters.failOver = none)
  (hfind : s.svc.suspended.find? (fun b => b.ctx.ring = ring ∧ b.ctx.slot = slot) = some b) (hfree : s.freeContext = some (q, c))
include hfo hfind hfree

/-- A suspended command takes the free context where it may resume, at its abort handler where it is to abort (R218). -/
theorem execContextResume_found : execContextResume ring slot s = .next (
    if s.svc.aborts ring slot ∨ s.resumable b then
      (s.dropBlock ring slot).updCtx q c (fun _ =>
        { b.ctx with pc := if s.svc.aborts ring slot then s.abortWord b.ctx else b.ctx.pc })
    else s) := by
  cases hcmd : s.svc.cmd ring slot <;>
    simp only [execContextResume, hfo, Option.isSome_none, Bool.false_eq_true, if_false, hfind, hfree, Service.aborts, hcmd,
      Option.any_none, Option.any_some] <;> rfl

theorem execContextResume_stands (hcmd : ∀ y, s.svc.cmd ring slot = some y → y.aborted = false ∨ y.committed = true)
    (hres : s.resumable b = true) : execContextResume ring slot s = .next ((s.dropBlock ring slot).updCtx q c (fun _ => b.ctx)) := by
  have hkeep : s.svc.aborts ring slot = false := by
    cases hc : s.svc.cmd ring slot with
    | none => simp [Service.aborts, hc]
    | some y => rcases hcmd y hc with h | h <;> simp [Service.aborts, hc, h]
  simp [execContextResume_found hfo hfind hfree, hkeep, hres]

theorem execContextResume_aborts {y : CmdEntry} (hcmd : s.svc.cmd ring slot = some y) (habort : y.aborted = true)
    (hcommit : y.committed = false) : execContextResume ring slot s =
      .next ((s.dropBlock ring slot).updCtx q c (fun _ => { b.ctx with pc := s.abortWord b.ctx })) := by
  have haborts : s.svc.aborts ring slot = true := by simp [Service.aborts, hcmd, habort, hcommit]
  simp [execContextResume_found hfo hfind hfree, haborts]

end

/-! ### Commit and abort -/

section
variable {s : State} {q : SeqId} {c : CtxId} {y : CmdEntry}

theorem execCommit_issued (h : s.Issues (.service q c) 0x24) (hcmd : s.svc.cmd (s.ctx q c).ring (s.ctx q c).slot = some y) :
    execCommit (.service q c) s = .next (
      let t := s.issued (.service q c)
      if y.committed then t.advance (.service q c)
      else if y.aborted then t.toAbort q c
      else (t.commitCmd (s.ctx q c).ring (s.ctx q c).slot).advance (.service q c)) := by
  simp only [execCommit, issue_eq s _ _ _ h, ctx_issued_ring, ctx_issued_slot, svc_cmd_issued, hcmd]

/-- COMMIT is a safe point, which comes before its predicate (R215, R216): it acts on what the check answers. -/
theorem execCommit_safePoint (hready : s.ready (.service q c) = true) (hopc : (s.wordOf (.service q c)).opc = 0x24)
    (hmarks : (s.ctlStore (.service q c)).marks = [])
    (hlegal : wordLegal true (s.ctlStore (.service q c)).words.length (s.wordOf (.service q c)) = true) :
    (s.safeCheck q c = .abort → execCommit (.service q c) s = .next (s.toAbort q c))
    ∧ (s.safeCheck q c = .hold → execCommit (.service q c) s = .next (s.updCtx q c (fun x => { x with held := true }))) := by
  have herr : s.fetchErrors (.service q c) = (s, false) := by simp [State.fetchErrors, hmarks]
  have hsafe : (s.wordOf (.service q c)).isSafe = true := by simp [Word.isSafe, hopc]
  constructor <;> intro hact <;>
    simp [execCommit, State.issue, hready, hopc, herr, engService, hlegal, hsafe, hact]

theorem execAbtset_issued (h : s.Issues (.service q c) 0x25) :
    execAbtset (.service q c) s = .next (
      let v := ((s.regs (.service q c)).get (s.wordOf (.service q c)).ra).toNat
      let m := (s.issued (.service q c)).abtset (v / 2 ^ 32 % 2 ^ 16) (v % 2 ^ 32)
      m.2.setThread (.service q c) { m.2.thread (.service q c) with
        regs := (m.2.thread (.service q c)).regs.set (s.wordOf (.service q c)).rd (BitVec.ofNat 64 m.1),
        pc := (m.2.thread (.service q c)).pc + 1 }) := by
  simp only [execAbtset, issue_eq s _ _ _ h, thread_issued]
  rfl

/-! ### Engines and tokens -/

theorem execEng_issued (h : s.Issues (.service q c) 0x30) :
    execEng (.service q c) s = .next (
      if 1024 ≤ s.tokensOut q then (s.issued (.service q c)).updCtx q c (fun x => { x with wait := .tokens })
      else (s.issued (.service q c)).engIssue q c (s.wordOf (.service q c))) := by
  simp only [execEng, issue_eq s _ _ _ h, tokensOut_issued]
  rfl

/-- The engines whose request goes out and needs nothing more (R219). -/
theorem State.engIssue_plain {w : Word} (hsel : w.sel ∈ [0, 1, 2, 5]) :
    s.engIssue q c w =
      let m := s.newToken q (s.ctx q c).ring (s.ctx q c).slot w.sel (s.ctx q c).regs.body
      m.2.updCtx q c (fun y => { y with wait := .none, regs := y.regs.set w.rd (BitVec.ofNat 64 m.1), pc := y.pc + 1 }) := by
  have hother : w.sel ≠ 3 ∧ w.sel ≠ 4 ∧ w.sel ≠ 6 := by
    simp only [List.mem_cons, List.not_mem_nil, or_false] at hsel
    omega
  obtain ⟨h3, h4, h6⟩ := hother
  simp only [State.engIssue, if_neg h3, if_neg h4, if_neg h6]

end

section
variable {s : State} {id : Nat} {k : Token} (hid : s.svc.token id = some k) (hstate : k.state = 0)
include hid hstate

theorem State.completeToken_outstanding (error : Bool) :
    s.completeToken id error = (s.markToken id error).afterToken ⟨k.seq % 16, by omega⟩ := by
  simp only [State.completeToken, hid, hstate, ne_eq, not_true_eq_false, if_false]

/-- A completion that brings no reads is taken, or held where it is a response of the cluster service and a mirror record is owed (R504);
in a fail-over the cluster service gives none (R507). -/
theorem execTokenComplete_taken (hheld : s.heldTokens.any (fun y => y.1 = id) = false)
    (hserved : k.engine = 5 → s.clusters.failOver = none) (error : Bool) (i : SpanId) :
    execTokenComplete id error i [] s = .next (
      if k.engine = 5 ∧ s.mirrorOwed then { s with heldTokens := s.heldTokens ++ [(id, error, s.clusters.mirrorSent)] }
      else s.completeToken id error) := by
  have hgo : ¬ (k.state ≠ 0 ∨ (k.engine = 5 ∧ s.clusters.failOver.isSome = true) ∨ s.heldTokens.any (fun y => y.1 = id) = true) := by
    rintro (h | ⟨h5, hfo⟩ | h)
    · exact h hstate
    · simp [hserved h5] at hfo
    · exact absurd h (ne_true_of_eq_false hheld)
  simp only [execTokenComplete, hid, if_neg hgo, List.foldl_nil, State.holdsToken, Bool.and_eq_true, beq_iff_eq]

end

/-- Settles O13: each by its lemma; a suspension by whether a context block is free, a commit by what the command state table says. -/
theorem suspendCommitAndTokens : Obligations.SuspendCommitAndTokens := by
  refine fun s q c => ⟨execSuspend_block, fun h hfull => ?_, fun k hwait hroom hgo => ?_,
    fun ring slot b hfo hfind hfree => ⟨execContextResume_stands hfo hfind hfree, fun y => execContextResume_aborts hfo hfind hfree⟩,
    fun y h hcmd => ⟨fun hcommit habort => ?_, fun hcommit => ?_⟩, fun hready hopc hmarks hlegal => execCommit_safePoint hready hopc hmarks hlegal,
    execAbtset_issued, fun h hroom => ?_, fun h hroom hsel => ?_, fun h hfull => ?_,
    fun id error i k hid hstate hheld => ⟨fun hgo => ?_, fun h5 hfo howed => ?_⟩⟩
  · exact (execSuspend_issued h).trans (congrArg Host.Outcome.next (State.suspendCtx_waits (by simpa using hfull) _))
  · exact (execContextBlockAvailable_block hwait hroom hgo).trans (congrArg Host.Outcome.next (State.suspendCtx_block hroom k))
  · exact (execCommit_issued h hcmd).trans (by simp [hcommit, habort])
  · exact (execCommit_issued h hcmd).trans (by simp [hcommit])
  · exact (execEng_issued h).trans (congrArg Host.Outcome.next (if_neg (Nat.not_le.mpr hroom)))
  · refine (execEng_issued h).trans (congrArg Host.Outcome.next ((if_neg (Nat.not_le.mpr hroom)).trans ?_))
    rw [State.engIssue_plain hsel, ctx_issued_ring, ctx_issued_slot, ctx_issued_regs]
    rfl
  · exact (execEng_issued h).trans (congrArg Host.Outcome.next (if_pos hfull))
  · have hfree : ¬ (k.engine = 5 ∧ s.mirrorOwed = true) := by
      rcases hgo with h | ⟨-, howed⟩
      · exact fun h5 => h h5.1
      · simp [howed]
    have hserved : k.engine = 5 → s.clusters.failOver = none := fun h5 => hgo.elim (absurd h5) And.left
    refine (execTokenComplete_taken hid hstate hheld hserved error i).trans (congrArg Host.Outcome.next ((if_neg hfree).trans ?_))
    exact State.completeToken_outstanding hid hstate error
  · exact (execTokenComplete_taken hid hstate hheld (fun _ => hfo) error i).trans (congrArg Host.Outcome.next (if_pos ⟨h5, howed⟩))

end Sys2Proof.Machine

namespace Sys2Proof.Machine
open Sys2Proof

/-! ### Chains and descriptor reads -/

section
variable {s : State} {n : Nat} {r : Ring} {q : SeqId} {c : CtxId}

theorem execChainStart_none (h : s.pickRing = none ∨ s.freeContext = none) : execChainStart s = .next s := by
  rcases h with h | h
  · simp only [execChainStart, h]
  · cases hpick : s.pickRing <;> simp only [execChainStart, h, hpick]

variable (hring : s.ring? n = some r)
include hring

/-- The slots that a read was issued for come to the ring, and reads of its connection that waited go out (R348, R362). -/
theorem execDescriptorReadResponse_comes {data : List Byte} (hreading : r.reading ≠ 0) (hlen : data.length = r.reading) :
    execDescriptorReadResponse n data s = .next (
      let s1 := (s.updRing n (fun r => { r with fetched := r.fetched ++ data.drop r.skip, reading := 0, skip := 0 })).readSlots n
      (s1.host.rings.filter (fun y => y.conn = r.conn)).foldl (fun s y => s.readSlots y.num) s1) := by
  simp only [execDescriptorReadResponse, hring, hlen, hreading, ne_eq, not_true_eq_false, or_self, if_false]

/-- A chain whose slots are covered and read is framed, whatever they hold (R371). -/
theorem execChainFrame_frames (hframing : r.framing = some (q, c)) (hfetched : 64 * chainLen r.fetched ≤ r.fetched.length)
    (hreading : r.reading = 0) (hcovered : chainLen r.fetched ≤ r.waiting) (hframed : s.framed r.admin = true) :
    execChainFrame n s = .next (s.frameChain r q c (chainLen r.fetched)) := by
  have hready : ¬ (r.fetched.length < 64 * chainLen r.fetched ∨ r.reading ≠ 0 ∨ r.waiting < chainLen r.fetched ∨ ¬ s.framed r.admin = true) := by
    simp only [hreading, hframed, ne_eq, not_true_eq_false, or_false, false_or]
    omega
  simp only [execChainFrame, hring, hframing, if_neg hready]

/-! ### Head words -/

theorem State.publish_eq : s.publish n =
    let m := advanceHead r.head r.chains
    if m.1 = r.head ∨ s.clusters.failOver ≠ none ∨ s.mirrorHeld ≠ [] ∨ s.mirrorOwed = true ∨ s.hostStopped = true then s
    else
      let r' := { r with head := m.1, chains := m.2, rnr := 0 }
      ((s.updRing n (fun _ => r')).sendHead r').mirrorRing n := by
  simp only [State.publish, hring, Option.isSome_iff_ne_none, List.isEmpty_iff]

variable {k : Conn} (hconn : s.conn? r.conn = some k) (hnotify : r.notify = true)
include hconn hnotify

/-- A head word on a notify ring is written again while the retry count allows, where 7 is without limit (R377, R393). -/
theorem execRnrNak_notify : execRnrNak n s = .next (
    if k.rnrLimit = 7 ∨ r.rnr < k.rnrLimit then (s.updRing n (fun r => { r with rnr := r.rnr + 1 })).sendHead r
    else s.endConn r.conn 4) := by
  simp only [execRnrNak, hring, hconn, hnotify, not_true_eq_false, if_false]

end

/-- Settles O34: each command by its lemma, a head by whether the hub holds it (R387, R504), a NAK by the retry count. -/
theorem framingAndHeads : Obligations.FramingAndHeads := by
  refine fun s => ⟨fun r turn left q c hpick hfree => ?_, execChainStart_none,
    fun n r data hring hreading hlen => execDescriptorReadResponse_comes hring hreading hlen,
    fun n r q c => execChainFrame_frames, fun n r hring hnew hfo hheld howed hstopped => ?_, fun n r hring hholds => ?_,
    fun n r k hring hconn hnotify => ⟨fun hagain => ?_, fun hlimit hover => ?_⟩⟩
  · change execChainStart s = _
    cases hconn : s.conn? r.conn <;> simp only [execChainStart, hpick, hfree, hconn]
  · refine congrArg Host.Outcome.next ((State.publish_eq hring).trans (if_neg ?_))
    simp [hnew, hfo, hheld, howed, hstopped]
  · exact congrArg Host.Outcome.next ((State.publish_eq hring).trans (if_pos hholds))
  · exact (execRnrNak_notify hring hconn hnotify).trans (congrArg Host.Outcome.next (if_pos hagain))
  · refine (execRnrNak_notify hring hconn hnotify).trans (congrArg Host.Outcome.next (if_neg ?_))
    exact not_or.mpr ⟨hlimit, Nat.not_lt.mpr hover⟩

end Sys2Proof.Machine

namespace Sys2Proof.Machine
open Sys2Proof

/-! ### Which image Boot runs -/

theorem toList_pair {α : Type} (v : Vector α 2) : v.toList = [v[0], v[1]] := by
  refine List.ext_getElem (by simp) fun i hi _ => ?_
  rw [Vector.length_toList] at hi
  obtain rfl | rfl : i = 0 ∨ i = 1 := by omega
  · exact Vector.getElem_toList _
  · exact Vector.getElem_toList _

section
variable {s : State}

/-- The state of an image of flash after every check of R535. -/
def State.imageSt (s : State) (i : Fin 2) : Nat := s.imageStateOf s.flash.image[i]

theorem State.pickImage_preferred {x : FwImage} (hvalid : s.imageSt s.flash.preferred = 1) (himage : s.flash.image[s.flash.preferred] = some x) :
    ∃ t, s.pickImage = .ok (x, t) ∧ t.window.running = s.flash.preferred.val ∧ t.window.imageState[s.flash.preferred] = 1 := by
  have hst : (s.flash.image.map s.imageStateOf)[s.flash.preferred] = 1 := by simpa [State.imageSt] using hvalid
  simp only [State.pickImage, hst, if_true, himage]
  exact ⟨_, rfl, rfl, by simp⟩

theorem State.pickImage_other {x : FwImage} (hpref : s.imageSt s.flash.preferred ≠ 1) (hvalid : s.imageSt (otherImage s.flash.preferred) = 1)
    (himage : s.flash.image[otherImage s.flash.preferred] = some x) :
    ∃ t, s.pickImage = .ok (x, t) ∧ t.window.running = (otherImage s.flash.preferred).val := by
  have hp : (s.flash.image.map s.imageStateOf)[s.flash.preferred] ≠ 1 := by simpa [State.imageSt] using hpref
  have hq : (s.flash.image.map s.imageStateOf)[otherImage s.flash.preferred] = 1 := by simpa [State.imageSt] using hvalid
  simp only [State.pickImage, hp, hq, if_true, if_false, himage]
  exact ⟨_, rfl, rfl⟩

theorem State.pickImage_none (hpref : s.imageSt s.flash.preferred ≠ 1) (hother : s.imageSt (otherImage s.flash.preferred) ≠ 1) :
    s.pickImage = .error (failCode [s.imageSt 0, s.imageSt 1]) := by
  have hp : (s.flash.image.map s.imageStateOf)[s.flash.preferred] ≠ 1 := by simpa [State.imageSt] using hpref
  have hq : (s.flash.image.map s.imageStateOf)[otherImage s.flash.preferred] ≠ 1 := by simpa [State.imageSt] using hother
  have hlist : (s.flash.image.map s.imageStateOf).toList = [s.imageSt 0, s.imageSt 1] := by
    rw [toList_pair, Vector.getElem_map, Vector.getElem_map]
    rfl
  simp only [State.pickImage, hp, hq, if_false, hlist]

end

/-- The failure code of a start without an image that passes, by the states of the two slots (R535). -/
theorem failCode_pair (u v : Nat) :
    failCode [u, v] = if (u = 3 ∨ v = 3) ∧ (u = 0 ∨ u = 3) ∧ (v = 0 ∨ v = 3) then 0x31 else 0x30 := by
  by_cases hu : u = 0
  · by_cases hv : v = 0 <;> simp [failCode, hu, hv]
  · by_cases hv : v = 0
    · simp [failCode, hu, hv]
    · have hboth : ((u = 3 ∨ v = 3) ∧ (u = 0 ∨ u = 3) ∧ (v = 0 ∨ v = 3)) ↔ (u = 3 ∧ v = 3) := by omega
      simp only [hboth]
      simp [failCode, hu, hv]

/-- Of the two slots, the preferred one and the other are all. -/
theorem failCode_preferred (f : Fin 2 → Nat) (p : Fin 2) : failCode [f 0, f 1] =
    if (f p = 3 ∨ f (otherImage p) = 3) ∧ (f p = 0 ∨ f p = 3) ∧ (f (otherImage p) = 0 ∨ f (otherImage p) = 3) then 0x31 else 0x30 := by
  rw [failCode_pair]
  match p with
  | 0 => rfl
  | 1 =>
    have hother : otherImage 1 = 0 := rfl
    rw [hother]
    exact ite_congr (propext (by omega)) (fun _ => rfl) (fun _ => rfl)

/-! ### The end of SelfTest -/

/-- Every unit's test has passed. -/
def allPassed : SelfTestResult := ⟨true, true, 0, 0, 0, 0⟩

theorem foldl_unchanged {β : Type} (l : List β) (s : State) : l.foldl (fun t _ => t) s = s := by
  induction l with
  | nil => rfl
  | cons _ _ ih => exact ih

theorem State.failUnits_allPassed (s : State) : s.failUnits allPassed = s := by
  simp only [State.failUnits, allPassed, Nat.zero_testBit, Bool.and_false, Bool.false_eq_true, if_false, foldl_unchanged]

/-- The roles of both clusters, as SelfTest's end reads them. -/
def State.roles (s : State) : List Role := s.clusters.unit.toList.map (fun u => u.role)

/-- The state of the image that is not running is noted after its verification (R538, R551). -/
def State.otherVerified (s : State) : State :=
  let o : Fin 2 := if s.window.running = 0 then 1 else 0
  { s with window := { s.window with imageState := s.window.imageState.set o.val (s.imageStateOf s.flash.image[o]) o.isLt } }

section
variable {s : State}

theorem State.roles_eq : s.roles = [s.clusters.unit[0].role, s.clusters.unit[1].role] := by
  simp [State.roles, toList_pair]

theorem State.roles_contains {x : Role} : s.roles.contains x = true ↔ ∃ c : ClusterId, s.clusters.unit[c].role = x := by
  rw [State.roles_eq, List.contains_iff_mem, Fin.exists_fin_two]
  simp only [List.mem_cons, List.not_mem_nil, or_false]
  exact or_congr eq_comm eq_comm

theorem State.roles_all_out : s.roles.all (fun x => x = .out) = true ↔ ∀ c : ClusterId, s.clusters.unit[c].role = .out := by
  simp [State.roles_eq, Fin.forall_fin_two]

theorem State.roles_not_all_out (hin : ∃ c : ClusterId, s.clusters.unit[c].role ≠ .out) : ¬ s.roles.all (fun x => x = .out) = true :=
  mt State.roles_all_out.mp (Classical.not_forall.mpr hin)

/-- The tests have not ended, or not as those of this state: nothing happens. -/
theorem execSelftestDone_early (r : SelfTestResult)
    (h : s.dev.state ≠ .selfTest ∨ s.dev.testsEnded = true ∨ ∃ c : ClusterId, s.clusters.unit[c].role = .selfTest) :
    execSelftestDone r s = .next s := by
  rw [← State.roles_contains] at h
  exact congrArg Host.Outcome.next (if_pos h)

variable (hstate : s.dev.state = .selfTest) (hends : s.dev.testsEnded = false) (hroles : ∀ c : ClusterId, s.clusters.unit[c].role ≠ .selfTest)
include hstate hends hroles

theorem selftest_judged :
    ¬ (s.dev.state ≠ .selfTest ∨ s.dev.testsEnded = true ∨ s.roles.contains .selfTest = true) := by
  rw [State.roles_contains]
  simp only [hstate, hends, ne_eq, not_true_eq_false, Bool.false_eq_true, false_or, not_exists]
  exact hroles

theorem execSelftestDone_allOut (r : SelfTestResult) (hout : ∀ c : ClusterId, s.clusters.unit[c].role = .out) :
    execSelftestDone r s = .next (s.endStart 0x50) :=
  congrArg Host.Outcome.next ((if_neg (selftest_judged hstate hends hroles)).trans (if_pos (State.roles_all_out.mpr hout)))

variable (hin : ∃ c : ClusterId, s.clusters.unit[c].role ≠ .out)
include hin

theorem execSelftestDone_cache {r : SelfTestResult} (hcache : r.cacheOk = false) :
    execSelftestDone r s = .next (s.endStart 0x52) :=
  congrArg Host.Outcome.next ((if_neg (selftest_judged hstate hends hroles)).trans ((if_neg (State.roles_not_all_out hin)).trans
    (if_pos (ne_true_of_eq_false hcache))))

theorem execSelftestDone_engines {r : SelfTestResult} (hcache : r.cacheOk = true) (hengines : r.enginesOk = false) :
    execSelftestDone r s = .next (s.endStart 0x53) :=
  congrArg Host.Outcome.next ((if_neg (selftest_judged hstate hends hroles)).trans ((if_neg (State.roles_not_all_out hin)).trans
    ((if_neg (not_not_intro hcache)).trans (if_pos (ne_true_of_eq_false hengines)))))

/-- With no failing unit FACTORY, a cluster Out, the hold entry and a pending move to Lee decide (R525, R538). -/
theorem execSelftestDone_allPassed : execSelftestDone allPassed s = .next (
    if s.dev.factory = true ∧ s.dev.pendingLee = none then s.otherVerified.enterState .bench
    else if (∃ c : ClusterId, s.clusters.unit[c].role = .out) ∨ s.param 0x7001 1 = 1 ∨ s.dev.pendingLee ≠ none then
      { s.otherVerified with dev := { s.otherVerified.dev with testsEnded := true } }
    else s.otherVerified.enterState .assemble) := by
  have hgo := selftest_judged hstate hends hroles
  have hsome := State.roles_not_all_out hin
  have hout := State.roles_contains (s := s) (x := .out)
  simp only [State.roles] at hgo hsome hout
  have hunits : ∀ n, unitsOf n 0 = [] := fun n => by simp [unitsOf]
  have htiles : ∀ n, ((List.range n).any fun _ => false) = false := fun n => by simp
  simp only [execSelftestDone, if_neg hgo, if_neg hsome, State.failUnits_allPassed]
  simp only [allPassed, not_true_eq_false, if_false, hunits, Nat.zero_testBit, htiles, List.isEmpty_nil, Bool.not_true, Bool.or_false, hout,
    Option.isNone_iff_eq_none, Option.isSome_iff_ne_none]
  rfl

/-- Otherwise the device stays in SelfTest with its tests ended (assumption 49), or goes on to Lee (assumption 171). -/
theorem execSelftestDone_stays (hbench : s.dev.factory = false ∨ s.dev.pendingLee ≠ none)
    (hstay : (∃ c : ClusterId, s.clusters.unit[c].role = .out) ∨ s.param 0x7001 1 = 1 ∨ s.dev.pendingLee ≠ none) :
    execSelftestDone allPassed s = .next { s.otherVerified with dev := { s.otherVerified.dev with testsEnded := true } } := by
  have hnot : ¬ (s.dev.factory = true ∧ s.dev.pendingLee = none) := fun h =>
    hbench.elim (fun hfactory => ne_true_of_eq_false hfactory h.1) (fun hlee => hlee h.2)
  exact (execSelftestDone_allPassed hstate hends hroles hin).trans (congrArg Host.Outcome.next ((if_neg hnot).trans (if_pos hstay)))

theorem execSelftestDone_bench (hfactory : s.dev.factory = true) (hlee : s.dev.pendingLee = none) :
    execSelftestDone allPassed s = .next (s.otherVerified.enterState .bench) :=
  (execSelftestDone_allPassed hstate hends hroles hin).trans (congrArg Host.Outcome.next (if_pos ⟨hfactory, hlee⟩))

theorem execSelftestDone_assemble (hfactory : s.dev.factory = false) (hout : ∀ c : ClusterId, s.clusters.unit[c].role ≠ .out)
    (hhold : s.param 0x7001 1 ≠ 1) (hlee : s.dev.pendingLee = none) :
    execSelftestDone allPassed s = .next (s.otherVerified.enterState .assemble) := by
  have hnot : ¬ ((∃ c : ClusterId, s.clusters.unit[c].role = .out) ∨ s.param 0x7001 1 = 1 ∨ s.dev.pendingLee ≠ none) :=
    not_or.mpr ⟨not_exists.mpr hout, not_or.mpr ⟨hhold, not_not_intro hlee⟩⟩
  exact (execSelftestDone_allPassed hstate hends hroles hin).trans (congrArg Host.Outcome.next
    ((if_neg fun h => ne_true_of_eq_false hfactory h.1).trans (if_neg hnot)))

end

/-- Settles O55: the choice of an image by the states of the preferred and the other one, the end of SelfTest by its lemmas. -/
theorem imageChoiceAndSelfTest : Obligations.ImageChoiceAndSelfTest := by
  refine ⟨fun s => ⟨fun x => State.pickImage_preferred, fun x => State.pickImage_other, fun hpref hother => ?_⟩,
    fun s r => ⟨execSelftestDone_early r, fun hstate hends hroles => ⟨execSelftestDone_allOut hstate hends hroles r, fun hin =>
      ⟨execSelftestDone_cache hstate hends hroles hin, execSelftestDone_engines hstate hends hroles hin, ?_, ?_⟩⟩⟩⟩
  · exact (State.pickImage_none hpref hother).trans (congrArg Except.error (failCode_preferred s.imageSt s.flash.preferred))
  · rintro rfl hfactory hout
    have hassemble := execSelftestDone_assemble hstate hends hroles hin hfactory hout
    have hstays := execSelftestDone_stays hstate hends hroles hin (.inl hfactory)
    exact ⟨hassemble, fun hhold => hstays (.inr (.inl hhold))⟩
  · rintro rfl
    have hbench := execSelftestDone_bench hstate hends hroles hin
    have hstays := execSelftestDone_stays hstate hends hroles hin
    exact ⟨hbench, fun hlee => hstays (.inr hlee) (.inr (.inr hlee)), fun hfactory hout => hstays (.inl hfactory) (.inl hout)⟩

end Sys2Proof.Machine

namespace Sys2Proof.Machine
open Sys2Proof

/-! ### Output words that the two cores compare -/

/-- A word that core 1 formed too acts, another is a miscompare (R229). -/
theorem compared_both {r : Bool → Res} {acts miscompares : State} (h : ∀ same, r same = .next (if same then acts else miscompares)) :
    r true = .next acts ∧ r false = .next miscompares := ⟨h true, h false⟩

/-! ### A head's wedge -/

/-- The head as its loop takes it up in this wedge, with the off-track offset of a ladder's read (R179, R237). -/
def State.headBefore (s : State) (p : PackId) (a : ArmId) (h : HeadId) : HeadServo :=
  { (s.lane p a h).servo with ladderOffset := s.passOffset p a h }

/-- The head after the loop has taken its demodulator's result, and the loop's saturations (R237 to R241, R252 to R255). -/
def State.headAfter (s : State) (p : PackId) (a : ArmId) (h : HeadId) (d : Demod) : HeadServo × Nat :=
  headWedge (s.arm p a).servo (s.servoParams p) s.packs[p].micro ((s.arm p a).servo.maTrim.getD h.val 0) d (s.demodValid p a h d)
    (s.headBefore p a h)

/-- The head's result is stored with a free prediction of the next position, and its strokes are counted (R241). -/
def State.headStored (s : State) (p : PackId) (a : ArmId) (h : HeadId) (d : Demod) : State :=
  (({ s with free := s.free + 1 }.updLane p a h (fun l =>
    { l with servo := { (s.headAfter p a h d).1 with predicted := signedNat 40 (Config.freeValue s.free % 2 ^ 40) } })).updServo p a
      (fun u => { u with saturations := sat32 u.saturations (s.headAfter p a h d).2, reported := u.reported ||| laneBit h })).countStrokes p a h

/-- A head that comes into inhibit bars its lane's writes (R156, R253). -/
def State.headBarred (s : State) (p : PackId) (a : ArmId) (h : HeadId) (d : Demod) : State :=
  if (s.headAfter p a h d).1.inhibit = true ∧ ¬ (s.headBefore p a h).inhibit = true then (s.headStored p a h d).barWrites p a (laneBit h)
  else s.headStored p a h d

/-- The head's command goes out in an MA frame where its driver is enabled and the link is up (R239). -/
def State.headDriven (s : State) (p : PackId) (a : ArmId) (h : HeadId) (d : Demod) : State :=
  if (s.arm p a).sendsMa h then
    (s.headBarred p a h d).send (.frame p.val a.val (maFrame h.val (s.headAfter p a h d).1.command (s.predictedWedge p a % 256)))
  else s.headBarred p a h d

/-- Every head in service of the arm has its result of this wedge (R245). -/
def State.allReported (s : State) (p : PackId) (a : ArmId) : Bool :=
  (List.finRange 16).all (fun g => (s.arm p a).servo.reported.testBit g.val || !(s.lane p a g).inService)

/-- A lost head takes the arm's target with its loop cleared, sits out the operation, and bars its lane's writes (R239, R255). -/
def State.loseHead (s : State) (p : PackId) (a : ArmId) (h : HeadId) : State :=
  ((s.updArm p a (fun x =>
    ({ x.updLane h (fun l =>
         { l with servo := { (l.servo.clearLoop.inhibitNow).followArm x.servo.target with status := .lost, settled := false } }) with
        servo := { x.servo with sitOut := x.servo.sitOut ||| laneBit h } }).settle)).barWrites p a (laneBit h)).updFmt p a
      (fun f => if f.running then { f with satOut := f.satOut ||| laneBit h } else f)

section
variable {s : State} {p : PackId} {a : ArmId} {h : HeadId}

theorem execServoDemodResult_unheard (hoff : s.laneOn p a h = false ∨ (s.arm p a).servo.mode.loaded = false ∨ s.tiles[tileOf p].servoOut = true)
    (d : Demod) (same : Bool) : execServoDemodResult p a h d same s = .next s :=
  congrArg Host.Outcome.next (if_pos (hoff.imp Bool.eq_false_iff.mp (Or.imp_left Bool.eq_false_iff.mp)))

section
variable (hlane : s.laneOn p a h = true) (hload : (s.arm p a).servo.mode.loaded = true) (hin : s.tiles[tileOf p].servoOut = false)
include hlane hload hin

theorem demodResult_heard : ¬ (¬ s.laneOn p a h = true ∨ ¬ (s.arm p a).servo.mode.loaded = true ∨ s.tiles[tileOf p].servoOut = true) :=
  not_or.mpr ⟨not_not_intro hlane, not_or.mpr ⟨not_not_intro hload, Bool.eq_false_iff.mp hin⟩⟩

theorem execServoDemodResult_differs (d : Demod) : execServoDemodResult p a h d false s = .next (s.miscompare (tileOf p)) :=
  congrArg Host.Outcome.next ((if_neg (demodResult_heard hlane hload hin)).trans (if_pos Bool.false_ne_true))

/-- The arm's wedge follows the result of its last head in service (R245). -/
theorem execServoDemodResult_same (d : Demod) : execServoDemodResult p a h d true s = .next (
    if (s.headDriven p a h d).allReported p a then ((s.headDriven p a h d).updServo p a (fun u => { u with reported := 0 })).armWedge p a
    else s.headDriven p a h d) :=
  congrArg Host.Outcome.next ((if_neg (demodResult_heard hlane hload hin)).trans (if_neg (not_not_intro rfl)))

end

/-! ### Heads lost and found again -/

section
variable (hmisses : 8 ≤ (s.lane p a h).servo.missRun) (hhad : (s.lane p a h).servo.status ≠ .lost)
  (hserved : (s.lane p a h).servo.status ≠ .notInService)
include hmisses hhad hserved

theorem execHeadLost_missed (same : Bool) :
    execHeadLost p a h same s = .next (if same then s.loseHead p a h else s.miscompare (tileOf p)) :=
  congrArg Host.Outcome.next (if_pos ⟨hmisses, hhad, hserved⟩)

end

theorem execHeadLost_kept (hkept : (s.lane p a h).servo.missRun < 8 ∨ (s.lane p a h).servo.status = .lost
    ∨ (s.lane p a h).servo.status = .notInService) (same : Bool) : execHeadLost p a h same s = .next s := by
  refine congrArg Host.Outcome.next (if_neg fun ⟨hmisses, hhad, hserved⟩ => ?_)
  obtain hfew | hlost | hnone := hkept
  · exact absurd hmisses (Nat.not_le.mpr hfew)
  · exact hhad hlost
  · exact hserved hnone

theorem execHeadReturn_lost (hlost : (s.lane p a h).servo.status = .lost) : execHeadReturn p a h s = .next (
    if 16 ≤ (s.lane p a h).servo.validRun then s.updLane p a h (fun l => { l with servo := { l.servo with status := .satOut } }) else s) :=
  congrArg Host.Outcome.next (ite_congr (propext (and_iff_right hlost)) (fun _ => rfl) (fun _ => rfl))

/-! ### The cores' state -/

theorem execServoStateCrcCompare_same : execServoStateCrcCompare p a (s.arm p a).unitCrc s = .next s :=
  congrArg Host.Outcome.next (if_pos (beq_self_eq_true _))

theorem execServoStateCrcCompare_differs {crc : Nat} (hcrc : crc ≠ (s.arm p a).unitCrc) :
    execServoStateCrcCompare p a crc s = .next (s.miscompare (tileOf p)) :=
  congrArg Host.Outcome.next (if_neg (mt beq_iff_eq.mp hcrc))

end

/-- Settles O24: a result by whether it is heard and whether core 1 formed the same word, a head by its runs, the state by its CRC. The predicted
position is a free value, and the order of the words under the CRC is the model's choice (log entries 2 and 119). -/
theorem servoWedge : Obligations.ServoWedge := by
  refine fun s p a h => ⟨fun d hlane hload hin => ⟨fun hall => ?_, fun hmore => ?_, execServoDemodResult_differs hlane hload hin d⟩,
    fun d same hoff => execServoDemodResult_unheard hoff d same, fun hmisses hhad hserved =>
      compared_both (r := fun same => exec (.cHeadLost p a h same) s) (execHeadLost_missed hmisses hhad hserved),
    fun same hkept => execHeadLost_kept hkept same, fun hlost hback => ?_, fun hlost hfew => ?_, execServoStateCrcCompare_same,
    fun crc => execServoStateCrcCompare_differs⟩
  · exact (execServoDemodResult_same hlane hload hin d).trans (congrArg Host.Outcome.next (if_pos hall))
  · exact (execServoDemodResult_same hlane hload hin d).trans (congrArg Host.Outcome.next (if_neg (ne_true_of_eq_false hmore)))
  · exact (execHeadReturn_lost hlost).trans (congrArg Host.Outcome.next (if_pos hback))
  · exact (execHeadReturn_lost hlost).trans (congrArg Host.Outcome.next (if_neg (Nat.not_le.mpr hfew)))

end Sys2Proof.Machine

namespace Sys2Proof.Machine
open Sys2Proof

/-! ### Loads, parks and Gale retracts of an arm -/

/-- The lanes of the last SEEK that have not settled (R252). -/
def Arm.lateLanes (x : Arm) : Nat :=
  ((List.finRange 16).filter (fun h => x.servo.seekLanes.testBit h.val && !x.lanes[h].servo.settled)).foldl (fun m h => m ||| laneBit h) 0

/-- The arm with the lanes of `m` sitting out, on its target, and settled if no other is left (R239, R250, R252). -/
def Arm.sitOutLanes (x : Arm) (m : Nat) : Arm :=
  ({ x with
    servo := { x.servo with sitOut := x.servo.sitOut ||| m },
    lanes := Vector.ofFn (fun h : Fin 16 =>
      let l := x.lanes[h]
      if m.testBit h.val ∧ l.servo.status ≠ LaneServo.lost then
        { l with servo := { l.servo.followArm x.servo.target with status := .satOut } } else l) }).settle

/-- The late lanes sit out the arm's mode and its routine (R252). -/
def State.sitOutLate (s : State) (p : PackId) (a : ArmId) : State :=
  (s.updArm p a (fun x => x.sitOutLanes (s.arm p a).lateLanes)).updFmt p a
    (fun f => if f.running then { f with satOut := f.satOut ||| (s.arm p a).lateLanes } else f)

/-- The Gale time's end keeps that the arm is out, and stops the spindle after a miscompare (R265, R266). -/
def State.galeKept (s : State) (p : PackId) (a : ArmId) : State :=
  let s0 := s.updServo p a (fun v => { v with outGale := v.outGale || v.galeOut })
  if (s.arm p a).servo.galeMiscompare = true then s0.updSpin p Spindle.stop else s0

section
variable {s : State} {p : PackId} {a : ArmId}

theorem execLoadTimeEnd_loading (hmode : (s.arm p a).servo.mode = .loading) : execLoadTimeEnd p a s =
    .next ((s.updServo p a (fun v => { v with mode := .searching, setPoint := 0 })).followLocked p a) :=
  congrArg Host.Outcome.next (if_pos hmode)

theorem execSearchTimeout_searching (hmode : (s.arm p a).servo.mode = .searching) (same : Bool) : execSearchTimeout p a same s = .next (
    if s.packs[p].tb.state = .locked then s.startFollowing p a
    else if same then ((s.parkArm p a).countLoadFailure p a).kickPack p else s.miscompare (tileOf p)) :=
  congrArg Host.Outcome.next (if_neg (not_not_intro hmode))

theorem execSearchTimeout_unlocked (hmode : (s.arm p a).servo.mode = .searching) (hfree : s.packs[p].tb.state ≠ .locked) (same : Bool) :
    execSearchTimeout p a same s = .next (if same then ((s.parkArm p a).countLoadFailure p a).kickPack p else s.miscompare (tileOf p)) :=
  (execSearchTimeout_searching hmode same).trans (congrArg Host.Outcome.next (if_neg hfree))

theorem execSearchTimeout_locked (hmode : (s.arm p a).servo.mode = .searching) (hlock : s.packs[p].tb.state = .locked) (same : Bool) :
    execSearchTimeout p a same s = .next (s.startFollowing p a) :=
  (execSearchTimeout_searching hmode same).trans (congrArg Host.Outcome.next (if_pos hlock))

theorem execSettleTimeout_settling (hmode : (s.arm p a).servo.mode = .settling) (same : Bool) : execSettleTimeout p a same s = .next (
    if 1024 ≤ (s.arm p a).servo.wedgesSettling then (if same then s.sitOutLate p a else s.miscompare (tileOf p)) else s) :=
  congrArg Host.Outcome.next (ite_congr (propext (and_iff_right hmode)) (fun _ => rfl) (fun _ => rfl))

theorem execSettleTimeout_late (hmode : (s.arm p a).servo.mode = .settling) (hlate : 1024 ≤ (s.arm p a).servo.wedgesSettling) (same : Bool) :
    execSettleTimeout p a same s = .next (if same then s.sitOutLate p a else s.miscompare (tileOf p)) :=
  (execSettleTimeout_settling hmode same).trans (congrArg Host.Outcome.next (if_pos hlate))

theorem execSettleTimeout_early (hmode : (s.arm p a).servo.mode = .settling) (hearly : (s.arm p a).servo.wedgesSettling < 1024) (same : Bool) :
    execSettleTimeout p a same s = .next s :=
  (execSettleTimeout_settling hmode same).trans (congrArg Host.Outcome.next (if_neg (Nat.not_le.mpr hearly)))

theorem execParkTimeout_parking (hmode : (s.arm p a).servo.mode = .parking) (same : Bool) : execParkTimeout p a same s =
    .next (if same then (s.galeArm p a true false).kick p a else s.miscompare (tileOf p)) := congrArg Host.Outcome.next (if_pos hmode)

theorem execParkTimeout_elsewhere (hmode : (s.arm p a).servo.mode ≠ .parking) (same : Bool) : execParkTimeout p a same s = .next s :=
  congrArg Host.Outcome.next (if_neg hmode)

theorem execUnloadTimeEnd_unloading (hmode : (s.arm p a).servo.mode = .parking) (hstage : (s.arm p a).servo.stage = .unload) :
    execUnloadTimeEnd p a s = .next (((s.sendCmd p a 4 0).armDown p a .unloaded).kick p a) :=
  congrArg Host.Outcome.next (if_pos ⟨hmode, hstage⟩)

theorem execGaleTimeEnd_gale (hmode : (s.arm p a).servo.mode = .gale) : execGaleTimeEnd p a s =
    .next ((((s.galeKept p a).armDown p a (if (s.arm p a).servo.galeHard then .out else .unloaded)).checkOut p).kick p a) :=
  congrArg Host.Outcome.next (if_pos hmode)

/-! ### The VCM's loops -/

/-- The back-EMF loop's set-point from a free value, and what is left of a back-EMF park's way (R258, R259). -/
def State.driveByBackEmf (s : State) (p : PackId) (a : ArmId) : State :=
  let v := (s.arm p a).servo
  let est := backEmfVelocity v.coef v s.buses[busOf p].volts (s.vcmPeriod p)
  let drive := sat16 (Config.velocityLoop (Config.freeValue s.free) (v.wantedVelocity a) est)
  let left := v.parkLeft - signedNat 8 (coefAt v.coef 0x0F (8 + a.val) % 256) * est
  { s with free := s.free + 1 }.updServo p a (fun v =>
    { v with setPoint := drive.val, setPointNew := true, saturations := sat32 v.saturations drive.sats,
             parkLeft := if v.stage = ParkStage.backEmf then left else v.parkLeft,
             stage := if v.stage = ParkStage.backEmf ∧ left ≤ 0 then .unload else v.stage })

theorem execBackEmfVelocityLoop_drives (hmode : (s.arm p a).servo.mode = .loading ∨ (s.arm p a).servo.mode = .searching
    ∨ ((s.arm p a).servo.mode = .parking ∧ (s.arm p a).servo.stage ≠ .position)) (same : Bool) :
    execBackEmfVelocityLoop p a same s = .next (if same then s.driveByBackEmf p a else s.miscompare (tileOf p)) :=
  congrArg Host.Outcome.next (if_pos hmode)

/-- One period of the current loop at the sample `current` (R247). -/
def State.vcmPeriodDone (s : State) (p : PackId) (a : ArmId) (current : Int) : State :=
  let v := (s.arm p a).servo
  let err := v.setPoint - current
  let i := integStep v.currentInteg (coefInt v.coef 0x0D 2 * err) (coefInt v.coef 0x0D 3)
  let u := stageOut (coefInt v.coef 0x0D 1 * err + i.val) (coefAt v.coef 0x0D 4)
  let bus := s.buses[busOf p].volts
  let duty := clampTo (coefInt v.coef 0x0D 9) (if bus = 0 then u.val else roundDiv (u.val * Config.nominalBus) bus)
  s.updServo p a (fun v =>
    { v with current := current, lastCurrent := v.current, currentInteg := i.val, duty := duty, setPointNew := false,
             legs := if v.mode = .gale then Vector.replicate 2 {} else bridgeLegs (s.vcmPeriod p) (s.param 0x7030 11) duty,
             saturations := sat32 v.saturations (i.sats + u.sats),
             noSetPoint := if v.setPointNew then 0 else v.noSetPoint + 1 })

theorem execVcmCurrentLoop_drives (hmode : (s.arm p a).servo.mode.driven = true) (hgates : s.gatesLive = true) (current : Int) :
    execVcmCurrentLoop p a current s = .next (s.vcmPeriodDone p a current) :=
  congrArg Host.Outcome.next (if_neg (not_or.mpr ⟨not_not_intro hmode, not_not_intro hgates⟩))

theorem execVcmCurrentLoop_idle (hidle : (s.arm p a).servo.mode.driven = false ∨ s.gatesLive = false) (current : Int) :
    execVcmCurrentLoop p a current s = .next s :=
  congrArg Host.Outcome.next (if_pos (hidle.imp Bool.eq_false_iff.mp Bool.eq_false_iff.mp))

theorem execVcmSetpointWatchdog_starved (hmode : (s.arm p a).servo.mode.driven = true) (hmissing : 4 ≤ (s.arm p a).servo.noSetPoint) :
    execVcmSetpointWatchdog p a s = .next ((s.galeArm p a true false).kick p a) := congrArg Host.Outcome.next (if_pos ⟨hmode, hmissing⟩)

theorem execVcmSetpointWatchdog_fed (hfed : (s.arm p a).servo.noSetPoint < 4) : execVcmSetpointWatchdog p a s = .next s :=
  congrArg Host.Outcome.next (if_neg fun h => Nat.not_le.mpr hfed h.2)

theorem execTilePllUnlock_fitted {t : TileId} (hfit : s.tileFitted t = true) : execTilePllUnlock t s =
    .next ((packsOfTile t).foldl (fun s p => (s.galePack p false false).kickPack p) s) := congrArg Host.Outcome.next (if_pos hfit)

end

/-- Settles O25: each timer by its arm's mode, each loop by whether its arm is driven. Where core 1 compares, the clauses of a shared word and
of another are one lemma at `true` and at `false`. The loop's law is free and the way left in a back-EMF park is reckoned by the model's choice (log
entry 153), and so are the constant nominal bus voltage (23) and the unscaled output of a bus that measures 0. -/
theorem armLoadsParksAndVcm : Obligations.ArmLoadsParksAndVcm := by
  refine ⟨fun s p a => ⟨execLoadTimeEnd_loading,
      fun hmode hfree => compared_both (r := fun same => exec (.cSearchTimeout p a same) s) (execSearchTimeout_unlocked hmode hfree),
      fun same hmode hlock => execSearchTimeout_locked hmode hlock same,
      fun hmode hlate => compared_both (r := fun same => exec (.cSettleTimeout p a same) s) (execSettleTimeout_late hmode hlate),
      fun same hmode hearly => execSettleTimeout_early hmode hearly same, rfl, rfl,
      fun hmode => compared_both (r := fun same => exec (.cParkTimeout p a same) s) (execParkTimeout_parking hmode),
      fun same hmode => execParkTimeout_elsewhere hmode same, execUnloadTimeEnd_unloading, fun out mis => rfl, execGaleTimeEnd_gale⟩,
    fun s p a => ⟨fun hmode => 
      compared_both (r := fun same => exec (.cBackEmfVelocityLoop p a same) s) (execBackEmfVelocityLoop_drives hmode),
      fun current hmode hgates => execVcmCurrentLoop_drives hmode hgates current, fun hidle current => execVcmCurrentLoop_idle hidle current,
      execVcmSetpointWatchdog_starved, execVcmSetpointWatchdog_fed, fun t => execTilePllUnlock_fitted⟩⟩

end Sys2Proof.Machine

namespace Sys2Proof.Machine
open Sys2Proof

/-! ### Discrete inputs -/

section
variable {s : State} {pin : InputPin} {level : Bool}

/-- Reading an input does not see the chatter edges of its class. -/
theorem Inputs.get_chatterEdges (x : Inputs) (edges : Vector Nat 5) (pin : InputPin) : { x with chatterEdges := edges }.get pin = x.get pin := by
  cases pin <;> rfl

/-! #### Filtered changes -/

/-- The filtered level follows, and EPO_N and PSF_N act at once (R500, R515). -/
def State.levelTaken (s : State) (pin : InputPin) (level : Bool) : State :=
  (s.updPin pin (fun y =>
    { y with filtered := level, changedAt := s.now, stuckMs := s.param 0x7082 ((pinCls pin).val + 1) })).atOnce pin level

/-- A change within a window is one of chatter, in the input's count and in its class's (R498, R515). -/
def State.chatters (s : State) (pin : InputPin) : State :=
  let t := s.updPin pin (fun y => { y with chatter := sat32 y.chatter 1 })
  { t with inputs := { t.inputs with
      chatterEdges := t.inputs.chatterEdges.set (pinCls pin).val (sat32 t.inputs.chatterEdges[pinCls pin] 1) (pinCls pin).isLt } }

theorem State.chatters_get (s : State) (pin : InputPin) :
    (s.chatters pin).inputs.get pin = { s.inputs.get pin with chatter := sat32 (s.inputs.get pin).chatter 1 } :=
  (Inputs.get_chatterEdges _ _ pin).trans (State.updPin_same s pin _)

theorem State.filteredChange_unchanged (h : s.dev.aonUp = false ∨ s.pinFitted pin = false ∨ (s.inputs.get pin).filtered = level) :
    s.filteredChange pin level = s :=
  if_pos (h.imp Bool.eq_false_iff.mp (Or.imp_left Bool.eq_false_iff.mp))

theorem State.filteredChange_new (hup : s.dev.aonUp = true) (hfit : s.pinFitted pin = true) (hnew : (s.inputs.get pin).filtered ≠ level) :
    s.filteredChange pin level =
      if ((s.levelTaken pin level).inputs.get pin).window then (s.levelTaken pin level).chatters pin
      else if ((s.levelTaken pin level).inputs.get pin).conditioned = level then s.levelTaken pin level
      else (s.levelTaken pin level).acceptPin pin level :=
  if_neg (not_or.mpr ⟨not_not_intro hup, not_or.mpr ⟨not_not_intro hfit, hnew⟩⟩)

section
variable (hup : s.dev.aonUp = true) (hfit : s.pinFitted pin = true) (hnew : (s.inputs.get pin).filtered ≠ level)
include hup hfit hnew

theorem State.filteredChange_chatters (hwindow : ((s.levelTaken pin level).inputs.get pin).window = true) :
    s.filteredChange pin level = (s.levelTaken pin level).chatters pin :=
  (State.filteredChange_new hup hfit hnew).trans (if_pos hwindow)

section
variable (hopen : ((s.levelTaken pin level).inputs.get pin).window = false)
include hopen

/-- A change back to the conditioned level is no event (R498). -/
theorem State.filteredChange_back (hsame : ((s.levelTaken pin level).inputs.get pin).conditioned = level) :
    s.filteredChange pin level = s.levelTaken pin level :=
  (State.filteredChange_new hup hfit hnew).trans ((if_neg (ne_true_of_eq_false hopen)).trans (if_pos hsame))

theorem State.filteredChange_accepted (hdiff : ((s.levelTaken pin level).inputs.get pin).conditioned ≠ level) :
    s.filteredChange pin level = (s.levelTaken pin level).acceptPin pin level :=
  (State.filteredChange_new hup hfit hnew).trans ((if_neg (ne_true_of_eq_false hopen)).trans (if_neg hdiff))

end
end

/-- A masked input goes on tracking its level, and gives no event. -/
theorem State.acceptPin_masked (hmask : (s.inputs.get pin).masked = true) (level : Bool) : s.acceptPin pin level =
    s.updPin pin (fun y =>
      { y with conditioned := level, window := true, chatter := 0, stuck := y.stuck && level, activeAt := s.now,
               windowEnd := s.now + s.param 0x7081 ((pinCls pin).val + 1) * 1000 }) := if_pos hmask

/-! #### Windows -/

theorem execRateWindowEnd_ended (hwindow : (s.inputs.get pin).window = true) (hend : (s.inputs.get pin).windowEnd ≤ s.now) :
    execRateWindowEnd pin s = .next (
      let s1 := s.updPin pin (fun y => { y with window := false })
      if (s.inputs.get pin).filtered = (s.inputs.get pin).conditioned then s1 else s1.acceptPin pin (s.inputs.get pin).filtered) := by
  have hdue : ¬ (¬ (s.inputs.get pin).window = true ∨ s.now < (s.inputs.get pin).windowEnd) :=
    not_or.mpr ⟨not_not_intro hwindow, Nat.not_lt.mpr hend⟩
  simp only [execRateWindowEnd, if_neg hdue, State.updPin_same]

theorem execRateWindowEnd_runs (h : (s.inputs.get pin).window = false ∨ s.now < (s.inputs.get pin).windowEnd) :
    execRateWindowEnd pin s = .next s := congrArg Host.Outcome.next (if_pos (h.imp_left Bool.eq_false_iff.mp))

/-! #### The stuck detector -/

/-- The input is stuck, masked if it has a source, and counted in its class (R499). -/
def State.stuckCounted (s : State) (pin : InputPin) : State :=
  let t := s.updPin pin (fun y => { y with stuck := true, masked := (pinSource pin).isSome })
  { t with inputs := { t.inputs with
      stuckEvents := t.inputs.stuckEvents.set (pinCls pin).val (sat32 t.inputs.stuckEvents[pinCls pin] 1) (pinCls pin).isLt } }

/-- The stuck source of an input, where it has one, is raised (R499). -/
def State.stuckRaised (s : State) (pin : InputPin) : State := match pinSource pin with | some k => s.raise k | none => s

theorem execStuckTimeout_stuck (hfit : s.pinFitted pin = true) (hactive : (s.inputs.get pin).conditioned = true)
    (hstuck : (s.inputs.get pin).stuck = false) (hmask : (s.inputs.get pin).masked = false) (hset : (s.inputs.get pin).stuckMs ≠ 0)
    (hlong : (s.inputs.get pin).activeAt + (s.inputs.get pin).stuckMs * 1000000 < s.now) :
    execStuckTimeout pin s = .next (((s.stuckCounted pin).stuckRaised pin).record
      { type := 0x13, code := (pinCls pin).val + 1, detail := detailAt 0x24 (pinBit pin) }) := by
  refine congrArg Host.Outcome.next (if_neg ?_)
  simp only [hfit, hactive, hstuck, hmask, hset, Nat.not_le.mpr hlong, not_true_eq_false, Bool.false_eq_true, or_self, not_false_eq_true]

theorem execStuckTimeout_early (h : (s.inputs.get pin).conditioned = false ∨ (s.inputs.get pin).stuck = true ∨ (s.inputs.get pin).masked = true
    ∨ (s.inputs.get pin).stuckMs = 0 ∨ s.now ≤ (s.inputs.get pin).activeAt + (s.inputs.get pin).stuckMs * 1000000) :
    execStuckTimeout pin s = .next s :=
  congrArg Host.Outcome.next (if_pos (.inr (h.imp_left Bool.eq_false_iff.mp)))

theorem execStuckMaskLift_lifts (hmask : (s.inputs.get pin).masked = true) (hquiet : (s.inputs.get pin).filtered = false)
    (hlong : (s.inputs.get pin).changedAt + s.param 0x7081 ((pinCls pin).val + 1) * 1000 ≤ s.now) :
    execStuckMaskLift pin s = .next (s.updPin pin (fun y => { y with masked := false, stuck := false })) :=
  congrArg Host.Outcome.next (if_pos ⟨hmask, Bool.eq_false_iff.mp hquiet, hlong⟩)

/-! #### EPO_N -/

/-- The first filtered assertion of EPO_N parks and stops, and Lee waits for the arms (R500, R541). -/
theorem State.atOnce_epo_first (hfirst : s.inputs.epoActing = false) : s.atOnce .epo true =
    (((State.parkAndStop { s with inputs := { s.inputs with epoActing := true, epo := { s.inputs.epo with filtered := true } } }).endAllConns
      6).stopBackground).pendLee false 1 := if_neg (ne_true_of_eq_false hfirst)

theorem State.atOnce_epo_again (hacting : s.inputs.epoActing = true) : s.atOnce .epo true = s := if_pos hacting

end

/-- Settles O48: a filtered change by the window and the conditioned level, the timers by their conditions, EPO_N by whether its action is under
way. That each assertion of EPO_N after a deassertion acts, and that a masked input goes on tracking its level, is the model's choice (log entry
67). -/
theorem discreteInputs : Obligations.DiscreteInputs := by
  refine fun s => ⟨fun pin level h => congrArg Host.Outcome.next (State.filteredChange_unchanged h),
    fun pin level hup hfit hnew => ⟨fun hwindow => ?_, fun hopen hsame => ?_, fun hopen hdiff => ?_⟩, fun pin level hmask => ?_,
    fun pin => execRateWindowEnd_ended, fun pin => execRateWindowEnd_runs, fun pin => execStuckTimeout_stuck,
    fun pin => execStuckTimeout_early, fun pin => execStuckMaskLift_lifts, State.atOnce_epo_first, State.atOnce_epo_again,
    fun hup hquiet => ⟨fun hopen hcond => ?_, rfl⟩⟩
  · refine ⟨_, congrArg Host.Outcome.next (State.filteredChange_chatters hup hfit hnew hwindow), ?_⟩
    rw [State.chatters_get]
    exact ⟨rfl, rfl, rfl, rfl⟩
  · exact congrArg Host.Outcome.next (State.filteredChange_back hup hfit hnew hopen hsame)
  · exact congrArg Host.Outcome.next (State.filteredChange_accepted hup hfit hnew hopen hdiff)
  · simp [State.acceptPin_masked hmask]
  · have hnew : (s.inputs.get .epo).filtered ≠ true := ne_true_of_eq_false hquiet
    exact congrArg Host.Outcome.next (State.filteredChange_accepted hup rfl hnew hopen (ne_true_of_eq_false hcond))

end Sys2Proof.Machine

namespace Sys2Proof.Machine
open Sys2Proof

/-! ### State commands -/

section
variable {s : State}

/-! #### What a command answers -/

/-- A command that is carried out leaves its number (R526). -/
def State.commanded (s : State) (v : Nat) : State := { s with dev := { s.dev with lastCommand := v } }

@[simp] theorem State.commanded_pendingLee (s : State) (v : Nat) : (s.commanded v).dev.pendingLee = s.dev.pendingLee := rfl

theorem State.stateCommand_reserved {v : Nat} (hv : v = 0 ∨ 8 ≤ v) : s.stateCommand v = .error 0x06090030 := if_pos hv

/-- While an earlier command is carried out every other one is refused. -/
theorem State.stateCommand_barred (hruns : s.commandRuns = true) (v : Nat) : okOr s (s.stateCommand v) = s := by
  unfold State.stateCommand
  rw [if_pos hruns]
  split <;> rfl

/-- A command without effect in the present state is refused. -/
theorem State.stateCommand_refused {v : Nat} (heffect : s.commandEffect v = none) : okOr s (s.stateCommand v) = s := by
  cases hruns : s.commandRuns
  · unfold State.stateCommand
    split
    · rfl
    · rw [if_neg (ne_true_of_eq_false hruns), heffect]
      rfl
  · exact State.stateCommand_barred hruns v

theorem State.stateCommand_taken (hidle : s.commandRuns = false) {v : Nat} (hv : ¬ (v = 0 ∨ 8 ≤ v)) {t : State}
    (heffect : s.commandEffect v = some t) : okOr s (s.stateCommand v) = t.commanded v := by
  rw [State.stateCommand, if_neg hv, if_neg (ne_true_of_eq_false hidle), heffect]
  rfl

/-! #### The effect of each command, by the state of the device -/

theorem State.commandEffect_open : s.commandEffect 1 =
    if s.dev.state = .assemble ∧ s.store.isOpen = true ∨ s.dev.state = .quiesce then some (s.enterState .opened) else none := by
  cases h : s.dev.state <;> simp [State.commandEffect, h]

theorem State.commandEffect_quiesce : s.commandEffect 2 =
    if s.dev.state = .opened then some (s.enterState .quiesce) else none := by
  cases h : s.dev.state <;> simp [State.commandEffect, h]

/-- A command is being carried out (R526). -/
def State.busy (s : State) : State := { s with dev := { s.dev with commandBusy := true } }

@[simp] theorem State.busy_pendingLee (s : State) : s.busy.dev.pendingLee = s.dev.pendingLee := rfl

/-- The orderly close begins (R540). -/
def State.beginClose (s : State) : State := State.busy { s with dev := { s.dev with closeStep := 1 } }

/-- The move to Lee by command waits for the arms (R525). -/
def State.beginLee (s : State) : State := (s.packsToLee.pendLee false 0).busy

theorem State.commandEffect_lee_quiesce (h : s.dev.state = .quiesce) : s.commandEffect 3 = some s.beginClose := by
  simp [State.commandEffect, h, State.beginClose, State.busy]

theorem State.commandEffect_lee_opened (h : s.dev.state = .opened) : s.commandEffect 3 = some (s.enterState .quiesce).beginClose := by
  simp [State.commandEffect, h, State.beginClose, State.busy]

theorem State.commandEffect_lee_unopened (h : s.dev.state = .selfTest ∨ s.dev.state = .assemble ∨ s.dev.state = .bench) :
    s.commandEffect 3 = some s.beginLee := by
  obtain h | h | h := h <;> simp [State.commandEffect, h, State.beginLee, State.busy]

theorem State.commandEffect_lee_none (h : s.dev.state = .lee ∨ s.dev.state = .boot ∨ s.dev.state = .zephyr ∨ s.dev.state = .off) :
    s.commandEffect 3 = none := by
  obtain h | h | h | h := h <;> simp [State.commandEffect, h]

theorem State.commandEffect_start : s.commandEffect 4 =
    if s.dev.state ≠ .lee ∨ s.inputs.epo.filtered = true ∨ s.dev.leeCause = 2 ∨ s.dev.leeCause = 8 then none
    else some (s.startBoot 0 true (decide (s.dev.leeForm = 0))) := by
  cases h : s.dev.state <;> simp [State.commandEffect, h]

theorem State.commandEffect_powerDown : s.commandEffect 5 =
    if s.dev.state ≠ .lee ∨ s.dev.leeForm ≠ 0 then none
    else some (({ s with dev := { s.dev with powerDown := true, commandBusy := true } }).tryPowerDown) := by
  cases h : s.dev.state <;> simp [State.commandEffect, h]

theorem State.commandEffect_zephyr : s.commandEffect 6 = if s.mayZephyr = true then some s.beginZephyr.busy else none := by
  cases h : s.dev.state with
  | lee => simp only [State.commandEffect, h, State.busy]
  | _ => simp [State.commandEffect, State.mayZephyr, h]

theorem State.commandEffect_assemble : s.commandEffect 7 =
    if s.dev.state ≠ .selfTest ∨ s.dev.testsEnded = false then none else some (s.enterState .assemble) := by
  cases h : s.dev.state <;> simp [State.commandEffect, h]
  cases s.dev.testsEnded <;> rfl

/-! #### The device after a command -/

/-- A device that leaves its state for one in which the store stays as it is. -/
theorem State.enterState_dev (s : State) {d : DevState} (hd : d ≠ .assemble) :
    (s.enterState d).dev = { s.dev.settled with state := d, leeForm := 255, leeCause := 255 } := by
  have hleave : s.leaveState.dev = s.dev := State.dev_of_standing s.leaveState_standing
  have hbench : ∀ t : State, (if d = .bench then { t with bench := { t.bench with entrySec := t.dev.opSec } } else t).dev = t.dev :=
    fun t => by split <;> rfl
  unfold State.enterState
  dsimp only
  rw [if_neg hd, State.dev_of_standing (State.refreshDomains_standing _), hbench, State.setDevState_dev, hleave]

/-- Whether the device runs, and the move to Lee it waits for. Packs that are sent to Lee leave it, though in Assemble the store may open. -/
def State.leeWait (s : State) : Bool × Option PendingLee := (s.dev.state.running, s.dev.pendingLee)

theorem State.leeWait_of_standing {s t : State} (h : t.standing = s.standing) : t.leeWait = s.leeWait := by
  rw [State.leeWait, State.dev_of_standing h]
  rfl

/-- The store as Assemble finds it, brought from the disk where it is not held yet (R334). -/
def State.storeFound (s : State) : State :=
  if s.store.formed then s
  else if s.store.disk.packs.any (fun p => match s.packState p with | .ready => true | .draining => true | .spent => true | _ => false) then
    s.replay.noteJournal
  else s

theorem State.storeFound_standing (s : State) : s.storeFound.standing = s.standing := by
  have hreplay : s.replay.standing = s.standing := rfl
  simp [State.storeFound, hreplay]

theorem State.tryOpen_assemble (h : ¬ (s.dev.state ≠ .assemble ∨ ¬ s.store.disk.present ∨ s.clusters.active.isNone)) : s.tryOpen =
    if s.storeFound.store.formed ∧ s.storeFound.store.journalWhole then
      let s2 := s.storeFound.updStore (fun t => { t with isOpen := true })
      if s.param 0x7001 2 = 1 ∧ ¬ s.dev.commandBusy ∧ s.dev.pendingLee.isNone then s2.setDevState .opened 255 255 else s2
    else s.storeFound := if_neg h

/-- A store that opens takes the device at most from Assemble to Open. -/
theorem State.tryOpen_leeWait (s : State) : s.tryOpen.leeWait = s.leeWait := by
  by_cases h : s.dev.state ≠ .assemble ∨ ¬ s.store.disk.present ∨ s.clusters.active.isNone
  · rw [State.tryOpen, if_pos h]
  · have hassemble : s.dev.state = .assemble := Decidable.not_not.mp (not_or.mp h).1
    have hfound := s.storeFound_standing
    have hopened : ∀ t : State, t.standing = s.standing → (t.setDevState .opened 255 255).leeWait = s.leeWait := fun t ht => by
      simp [State.leeWait, State.setDevState_dev, State.dev_of_standing ht, hassemble, DevState.running]
    rw [State.tryOpen_assemble h]
    dsimp only
    split
    · split
      · exact hopened _ (by simp [hfound])
      · exact State.leeWait_of_standing (by simp [hfound])
    · exact State.leeWait_of_standing hfound

theorem State.noteSpans_leeWait (s : State) : s.noteSpans.leeWait = s.leeWait :=
  (State.tryOpen_leeWait _).trans (State.leeWait_of_standing (by simp))

theorem State.setPackState_leeWait (s : State) (p n) : (s.setPackState p n).leeWait = s.leeWait := by
  unfold State.setPackState
  dsimp only
  split
  · rfl
  · exact (State.noteSpans_leeWait _).trans (State.leeWait_of_standing (by simp))

theorem State.packToVerified_leeWait (s : State) (p) : (s.packToVerified p).leeWait = s.leeWait := by
  have hstate := State.setPackState_leeWait (s.releaseSpin p) p .verified
  exact (State.leeWait_of_standing (by simp [State.packToVerified])).trans (hstate.trans (State.leeWait_of_standing (by simp)))

theorem State.packsToLee_leeWait (s : State) : s.packsToLee.leeWait = s.leeWait := by
  rw [State.packsToLee]
  refine List.foldlRecOn (motive := fun t : State => t.leeWait = s.leeWait) _ _ rfl (fun t ht p _ => Eq.trans ?_ ht)
  split
  · exact State.packToVerified_leeWait t p
  · exact State.packToVerified_leeWait t p
  · exact State.packToVerified_leeWait t p
  · exact State.leeWait_of_standing (by simp)

/-- A device that runs and waits for no move to Lee waits for the one that is asked for. -/
theorem State.pendLee_first (hrun : s.dev.state.running = true) (hnone : s.dev.pendingLee = none) (reduced : Bool) (cause : Nat) :
    (s.pendLee reduced cause).dev.pendingLee = some ⟨reduced, cause⟩ := by
  simp [State.pendLee, hrun, hnone]

theorem State.pendingLee_of_idle (hidle : s.commandRuns = false) : s.dev.pendingLee = none := by
  simp only [State.commandRuns, Bool.or_eq_false_iff, Option.isSome_eq_false_iff, Option.isNone_iff_eq_none] at hidle
  obtain ⟨⟨⟨⟨_, hnone⟩, _⟩, _⟩, _⟩ := hidle
  exact hnone

theorem State.beginLee_pending (hidle : s.commandRuns = false) (hrun : s.dev.state.running = true) :
    s.beginLee.dev.pendingLee = some ⟨false, 0⟩ := by
  have hkept := s.packsToLee_leeWait
  simp only [State.leeWait, Prod.mk.injEq] at hkept
  obtain ⟨hrun', hnone⟩ := hkept
  exact (State.busy_pendingLee _).trans (State.pendLee_first (hrun'.trans hrun) (hnone.trans (State.pendingLee_of_idle hidle)) false 0)

/-! #### The commands -/

/-- A command acts as its effect says. -/
theorem next_of_effect (hidle : s.commandRuns = false) {v : Nat} (hv : ¬ (v = 0 ∨ 8 ≤ v)) {t : State} (heffect : s.commandEffect v = some t) :
    (.next (okOr s (s.stateCommand v)) : Res) = .next (t.commanded v) :=
  congrArg Host.Outcome.next (State.stateCommand_taken hidle hv heffect)

theorem next_of_noEffect {v : Nat} (heffect : s.commandEffect v = none) : (.next (okOr s (s.stateCommand v)) : Res) = .next s :=
  congrArg Host.Outcome.next (State.stateCommand_refused heffect)

/-- While an earlier command is carried out every command is refused. -/
theorem exec_stateCommand_barred (hruns : s.commandRuns = true) {i : Instr} (hi : i ∈ [Instr.cStateCmdOpen, .cStateCmdQuiesce, .cStateCmdLee,
    .cStateCmdStart, .cStateCmdPowerDown, .cStateCmdZephyr, .cStateCmdAssemble]) : exec i s = .next s := by
  have hbarred : ∀ v, (.next (okOr s (s.stateCommand v)) : Res) = .next s := fun v =>
    congrArg Host.Outcome.next (State.stateCommand_barred hruns v)
  simp only [List.mem_cons, List.not_mem_nil, or_false] at hi
  obtain rfl | rfl | rfl | rfl | rfl | rfl | rfl := hi <;> exact hbarred _

end

/-- Settles O56: a command that runs bars the others, and each takes effect as its equation by the state of the device says. A start from the
reduced form turns the rails off first by the model's choice (log entry 40). -/
theorem stateCommands : Obligations.StateCommands := by
  refine fun s => ⟨fun hruns i hi => exec_stateCommand_barred hruns hi, fun hidle =>
    ⟨fun h => next_of_effect hidle (by decide) (State.commandEffect_open.trans (if_pos h)),
      fun h => next_of_noEffect (State.commandEffect_open.trans (if_neg h)),
      fun h => next_of_effect hidle (by decide) (State.commandEffect_quiesce.trans (if_pos h)),
      fun h => next_of_noEffect (State.commandEffect_quiesce.trans (if_neg h)),
      fun h => next_of_effect hidle (by decide) (State.commandEffect_lee_quiesce h),
      fun h => ⟨_, next_of_effect hidle (by decide) (State.commandEffect_lee_unopened h),
        (State.commanded_pendingLee _ 3).trans (State.beginLee_pending hidle ?_), rfl, rfl⟩,
      fun h => ⟨_, next_of_effect hidle (by decide) (State.commandEffect_lee_opened h), ?_, rfl, rfl⟩,
      fun h => next_of_noEffect (State.commandEffect_lee_none h),
      fun hlee hepo hcause hcause' => next_of_effect hidle (by decide) (State.commandEffect_start.trans (if_neg ?_)),
      fun h => next_of_noEffect (State.commandEffect_start.trans (if_pos h)),
      fun hlee hform => next_of_effect hidle (by decide) (State.commandEffect_powerDown.trans (if_neg ?_)),
      fun h => next_of_noEffect (State.commandEffect_powerDown.trans (if_pos h)),
      fun h => ⟨_, next_of_effect hidle (by decide) (State.commandEffect_zephyr.trans (if_pos h)), rfl, rfl, rfl⟩,
      fun h => next_of_noEffect (State.commandEffect_zephyr.trans (if_neg (ne_true_of_eq_false h))),
      fun htest hends => next_of_effect hidle (by decide) (State.commandEffect_assemble.trans (if_neg ?_)),
      fun h => next_of_noEffect (State.commandEffect_assemble.trans (if_pos h))⟩,
    fun v => State.stateCommand_reserved⟩
  · obtain h | h | h := h <;> rw [h] <;> rfl
  · exact congrArg Device.state (s.enterState_dev (d := .quiesce) (by decide))
  · simp [hlee, hepo, hcause, hcause']
  · simp [hlee, hform]
  · simp [htest, hends]

end Sys2Proof.Machine

namespace Sys2Proof.Machine
open Sys2Proof

/-! ### VDD_AON, RESET_N and loss of supply -/

/-! #### What the rails' going off leaves alone -/

/-- The part, boot flash and the spindles' speeds, which stay while rails and domains go off (R271, R334). -/
def State.lasting (s : State) : Part × Flash × Vector Nat 32 := (s.part, s.flash, s.packs.map (fun k => k.spindle.speed))

theorem State.gatesOff_lasting (s : State) : s.gatesOff.lasting = s.lasting := by
  simp only [State.lasting, State.gatesOff, Vector.map_map]
  rfl

theorem State.domainsOff_lasting (s : State) : s.domainsOff.lasting = s.lasting := by
  simp only [State.lasting, State.domainsOff, Vector.map_map]
  rfl

theorem State.disableRail_lasting (s : State) (r) : (s.disableRail r).lasting = s.lasting := by
  unfold State.disableRail
  split
  · dsimp only
    split
    · exact State.gatesOff_lasting _
    · rfl
  · rfl

theorem State.railsOff_lasting (s : State) : s.railsOff.lasting = s.lasting := by
  rw [State.railsOff, State.domainsOff_lasting]
  exact List.foldlRecOn (motive := fun t : State => t.lasting = s.lasting) _ _ rfl
    (fun t ht r _ => (State.disableRail_lasting t r).trans ht)

theorem State.lasting_iff {s t : State} : t.lasting = s.lasting ↔ t.part = s.part ∧ t.flash = s.flash
    ∧ t.packs.map (fun k => k.spindle.speed) = s.packs.map (fun k => k.spindle.speed) := by
  simp only [State.lasting, Prod.mk.injEq]

theorem State.speed_of_lasting {s t : State} (h : t.lasting = s.lasting) (p : PackId) : t.packs[p].spindle.speed = s.packs[p].spindle.speed := by
  obtain ⟨_, _, hspeed⟩ := State.lasting_iff.mp h
  simpa using congrArg (fun v : Vector Nat 32 => v[p]) hspeed

/-! #### A chip reset -/

section
variable (s : State)

/-- What a chip reset takes back to its reset value (R525). -/
theorem State.chipReset_clears : s.chipReset.dev.state = .boot ∧ s.chipReset.faults = {} ∧ s.chipReset.svc = {} ∧ s.chipReset.host = {}
    ∧ s.chipReset.buf = {} ∧ s.chipReset.clusters = {} ∧ s.chipReset.dict = {} ∧ s.chipReset.lock = {} := by
  unfold State.chipReset
  generalize s.railsOff = k
  exact ⟨rfl, rfl, rfl, rfl, rfl, rfl, rfl, rfl⟩

/-- The operating seconds, boot flash and the part stay (R334, R549). -/
theorem State.chipReset_keeps : s.chipReset.dev.opSec = s.dev.opSec ∧ s.chipReset.flash = s.flash ∧ s.chipReset.part = s.part := by
  obtain ⟨hpart, hflash, _⟩ := State.lasting_iff.mp s.railsOff_lasting
  rw [← hpart, ← hflash, ← s.railsOff_dev]
  unfold State.chipReset
  generalize s.railsOff = k
  exact ⟨rfl, rfl, rfl⟩

/-- A pack slot reads Absent, and its spindle turns on (R91, R271). -/
theorem State.chipReset_pack (p : PackId) :
    s.chipReset.packs[p].spindle.speed = s.packs[p].spindle.speed ∧ s.chipReset.packs[p].state = .absent := by
  rw [← State.speed_of_lasting s.railsOff_lasting p]
  unfold State.chipReset
  generalize s.railsOff = k
  simp

end

/-! #### The commands -/

section
variable {s : State}

theorem execVddAonApply_applied (hoff : s.dev.state = .off) (hdown : s.dev.aonUp = false) (x : BootFlash) (pin crystal : Bool) :
    ∃ t, execVddAonApply (some x) pin crystal s = .next t ∧ t.dev.aonUp = true ∧ t.dev.crystal = crystal
      ∧ t.dev.state = (if pin then .boot else .off) ∧ t.flash.image = #v[x.imageA, x.imageB] ∧ t.flash.counters = x.counters
      ∧ t.dev.opSec = (match x.counters with | some c => (c.opSec + 600) % 2 ^ 32 | none => 0) := by
  refine ⟨_, congrArg Host.Outcome.next (if_neg ?_), rfl, rfl, rfl, rfl, rfl, rfl⟩
  simp [hoff, hdown]

theorem execVddAonApply_powered (h : s.dev.state ≠ .off ∨ s.dev.aonUp = true) (x : Option BootFlash) (pin crystal : Bool) :
    execVddAonApply x pin crystal s = .next s := congrArg Host.Outcome.next (if_pos h)

theorem execResetNAssert_off (h : s.dev.state = .off) : execResetNAssert s = .next s := congrArg Host.Outcome.next (if_pos h)

theorem execResetNAssert_on (h : s.dev.state ≠ .off) : execResetNAssert s = .next s.chipReset := congrArg Host.Outcome.next (if_neg h)

theorem execLossOfSupply_declares {r : RailId} (hon : s.rails[r].enable = true) (hgood : s.rails[r].state = 2) (hfirst : s.dev.supplyLost = false)
    (hup : s.dev.state ≠ .off) : execLossOfSupply r s =
    .next ((((({ s with dev := { s.dev with supplyLost := true } }).supplyGale).raise (401 + r.val)).endAllConns 6).stopBackground) := by
  refine congrArg Host.Outcome.next (if_neg ?_)
  simp only [hon, hfirst, hup, hgood, not_true_eq_false, ne_eq, Bool.false_eq_true, or_self, not_false_eq_true]

theorem execLossOfSupply_elsewhere {r : RailId} (h : s.rails[r].enable = false ∨ s.rails[r].state ≠ 2 ∨ s.dev.supplyLost = true) :
    execLossOfSupply r s = .next s := by
  refine congrArg Host.Outcome.next (if_pos ?_)
  obtain h | h | h := h
  · exact .inl (ne_true_of_eq_false h)
  · exact .inr (.inr (.inr h))
  · exact .inr (.inl h)

/-- The rails go off and the device is in Lee, reduced form, where it may be already. -/
theorem execLossOfSupplyRailOff_lost (h : s.dev.supplyLost = true) : ∃ t, execLossOfSupplyRailOff s = .next t ∧ t.dev.state = .lee
    ∧ t.dev.leeForm = 1 ∧ t.dev.supplyLost = false := by
  refine ⟨_, congrArg Host.Outcome.next (if_neg (not_not_intro h)), ?_⟩
  generalize s.saveCounters.railsOff = k
  dsimp only
  split
  case isTrue hlee =>
    obtain ⟨hstate, hform⟩ := hlee
    exact ⟨hstate, hform, rfl⟩
  case isFalse =>
    rw [State.enterLee_dev]
    exact ⟨rfl, rfl, rfl⟩

end

/-- Settles O52: VDD_AON and RESET_N by their equations, with what the rails' going off leaves alone; loss of supply by its conditions. The contents
of flash as an operand of VDD_AON_APPLY (log entry 35) and the counts at power-on (38) are the model's choice. -/
theorem supplyAndReset : Obligations.SupplyAndReset := by
  refine fun s => ⟨fun hoff hdown x pin crystal => execVddAonApply_applied hoff hdown x pin crystal,
    fun h x pin crystal => execVddAonApply_powered h x pin crystal, ⟨_, rfl, rfl, rfl, rfl, rfl, rfl, rfl, rfl, rfl⟩,
    execResetNAssert_off, fun hup => ?_,
    fun r => execLossOfSupply_declares, fun r => execLossOfSupply_elsewhere, execLossOfSupplyRailOff_lost⟩
  obtain ⟨hstate, hfaults, hsvc, hhost, hbuf, hclusters, hdict, hlock⟩ := s.chipReset_clears
  obtain ⟨hsec, hflash, hpart⟩ := s.chipReset_keeps
  exact ⟨_, execResetNAssert_on hup, hstate, hfaults, hsvc, hhost, hbuf, hclusters, hdict, hlock, hsec, hflash, hpart, s.chipReset_pack⟩

end Sys2Proof.Machine

namespace Sys2Proof.Machine
open Sys2Proof

/-! ### Motor buses -/

/-! #### A sample -/

@[simp] theorem State.updBus_same (s : State) (x f) : (s.updBus x f).buses[x] = f s.buses[x] := by simp [State.updBus]

theorem State.updBus_other (s : State) {x y : BusId} (f) (h : y ≠ x) : (s.updBus x f).buses[y] = s.buses[y] := by
  simp only [State.updBus, Fin.getElem_fin]
  exact Vector.getElem_set_ne _ _ (fun e => h (Fin.ext e.symm))

theorem runOf_hit {hit : Prop} [Decidable hit] (h : hit) (n : Nat) : runOf (decide hit) n = min (n + 1) (2 ^ 20) := if_pos (decide_eq_true h)

theorem runOf_miss {hit : Prop} [Decidable hit] (h : ¬ hit) (n : Nat) : runOf (decide hit) n = 0 := if_neg (by simpa using h)

/-- The chopper gate after a sample: off unless gates are live and no fault holds it, else by its thresholds with hysteresis (R292, R519). -/
def Bus.chopperGate (b : Bus) (live : Bool) (th : Nat → Nat) (code : Nat) : Bool :=
  if b.fault ∨ ¬ live then false
  else if decide (th 1 * 8 ≤ code * 75) then true else if decide (code * 75 ≤ th 2 * 8) then false else b.gate

section
variable {b : Bus} {live : Bool} {th : Nat → Nat} {code : Nat}

theorem Bus.chopperGate_barred (h : b.fault = true ∨ live = false) : b.chopperGate live th code = false := by
  refine if_pos ?_
  rwa [Bool.not_eq_true]

section
variable (hfault : b.fault = false) (hlive : live = true)
include hfault hlive

/-- Without a fault, with live gates, the thresholds decide. -/
theorem Bus.chopperGate_free : b.chopperGate live th code =
    if th 1 * 8 ≤ code * 75 then true else if code * 75 ≤ th 2 * 8 then false else b.gate := by
  simp only [Bus.chopperGate, hfault, hlive, Bool.false_eq_true, not_true_eq_false, or_self, if_false, decide_eq_true_eq]

theorem Bus.chopperGate_on (h : th 1 * 8 ≤ code * 75) : b.chopperGate live th code = true :=
  (Bus.chopperGate_free hfault hlive).trans (if_pos h)

theorem Bus.chopperGate_off (h : code * 75 < th 1 * 8) (hlow : code * 75 ≤ th 2 * 8) : b.chopperGate live th code = false :=
  (Bus.chopperGate_free hfault hlive).trans ((if_neg (Nat.not_le.mpr h)).trans (if_pos hlow))

theorem Bus.chopperGate_between (h : code * 75 < th 1 * 8) (hlow : th 2 * 8 < code * 75) : b.chopperGate live th code = b.gate :=
  (Bus.chopperGate_free hfault hlive).trans ((if_neg (Nat.not_le.mpr h)).trans (if_neg (Nat.not_le.mpr hlow)))

end
end

/-- A bus after a sample (R291, R292). -/
def Bus.sampled (b : Bus) (live : Bool) (th : Nat → Nat) (code : Nat) (feedback : Bool) : Bus :=
  let on := b.chopperGate live th code
  { b with
    volts := code * 75 / 8, peak := max b.peak (code * 75 / 8), gate := on, feedback := feedback,
    activations := if on ∧ ¬ b.gate then sat32 b.activations 1 else b.activations,
    freewheelRun := runOf (decide (th 4 * 8 ≤ code * 75)) b.freewheelRun, releaseRun := runOf (decide (code * 75 < th 5 * 8)) b.releaseRun,
    faultRun := runOf (decide (th 3 * 8 ≤ code * 75)) b.faultRun, underRun := runOf (decide (code * 75 ≤ th 6 * 8)) b.underRun,
    underEndRun := runOf (decide ((th 6 + 1000) * 8 ≤ code * 75)) b.underEndRun }

theorem Bus.sampled_activations (b : Bus) (live th code feedback) : (b.sampled live th code feedback).activations =
    if (b.sampled live th code feedback).gate = true ∧ b.gate = false then sat32 b.activations 1 else b.activations := by
  simp only [Bus.sampled, Bool.not_eq_true]

section
variable {s : State} {x : BusId}

theorem execMotorBusSample_fitted (hfit : s.busFitted x = true) (code : Nat) (feedback : Bool) : execMotorBusSample x code feedback s =
    .next (s.updBus x (fun b => b.sampled s.gatesLive (fun i => s.param 0x7030 i) code feedback)) :=
  congrArg Host.Outcome.next (if_neg (not_not_intro hfit))

/-! #### The conditions of a bus -/

theorem execChopperFeedbackTimeout_follows (h : s.buses[x].feedback = s.buses[x].gate) : execChopperFeedbackTimeout x s = .next s :=
  congrArg Host.Outcome.next (if_pos h)

theorem State.chopperFault_first (hfit : s.busFitted x = true) (hfault : s.buses[x].fault = false) : s.chopperFault x =
    (((s.updBus x (fun b => { b with fault := true, gate := false })).forBus x (fun s p => s.updSpin p (fun y =>
      if y.state.braked then y.faultBrake else y))).raise (48 + 2 * x.val)).forBus x (fun s p => (s.packFail p 13).kickPack p) := by
  refine if_neg ?_
  simp only [hfit, hfault, Bool.false_eq_true, not_true_eq_false, or_self, not_false_eq_true]

theorem execChopperFeedbackTimeout_differs (hfit : s.busFitted x = true) (hfault : s.buses[x].fault = false)
    (h : s.buses[x].feedback ≠ s.buses[x].gate) : execChopperFeedbackTimeout x s = .next (
      (((s.updBus x (fun b => { b with fault := true, gate := false })).forBus x (fun s p => s.updSpin p (fun y =>
        if y.state.braked then y.faultBrake else y))).raise (48 + 2 * x.val)).forBus x (fun s p => (s.packFail p 13).kickPack p)) :=
  congrArg Host.Outcome.next ((if_neg h).trans (State.chopperFault_first hfit hfault))

theorem execBusFreewheel_high (hrun : 2 ≤ s.buses[x].freewheelRun) (hfirst : s.buses[x].freewheel = false) : execBusFreewheel x s =
    .next ((s.updBus x (fun b => { b with freewheel := true })).forBus x (fun s p => s.updSpin p (fun y => y.freewheelBy true))) :=
  congrArg Host.Outcome.next (if_pos ⟨hrun, ne_true_of_eq_false hfirst⟩)

theorem execBusFreewheelRelease_low (hrun : 2 ≤ s.buses[x].releaseRun) (hfree : s.buses[x].freewheel = true) : execBusFreewheelRelease x s =
    .next ((s.updBus x (fun b => { b with freewheel := false })).forBus x (fun s p => s.updSpin p (fun y =>
      if y.state = .freewheel ∧ y.byBus then y.faultBrake else y))) :=
  congrArg Host.Outcome.next (if_pos ⟨hrun, hfree⟩)

theorem execBusUndervoltage_low (hrun : 100 ≤ s.buses[x].underRun) (hfirst : s.buses[x].undervoltage = false) : execBusUndervoltage x s =
    .next (((s.updBus x (fun b => { b with undervoltage := true })).forBus x (fun s p => s.updSpin p (fun y =>
      { y with noDrive := true, qSet := 0 }))).raise (49 + 2 * x.val)) :=
  congrArg Host.Outcome.next (if_pos ⟨hrun, ne_true_of_eq_false hfirst⟩)

theorem execBusUndervoltageEnd_back (hrun : 100 ≤ s.buses[x].underEndRun) (hunder : s.buses[x].undervoltage = true) : execBusUndervoltageEnd x s =
    .next ((s.updBus x (fun b => { b with undervoltage := false })).forBus x (fun s p => s.updSpin p (fun y =>
      let z := { y with noDrive := false, ref := y.speed * 1024 }
      if y.state = .atSpeed ∧ ¬ withinMille (y.coef 0x1D 3) y.speed y.target then { z.fresh with state := .accelerate } else z))) :=
  congrArg Host.Outcome.next (if_pos ⟨hrun, hunder⟩)

end

/-- Settles O28: a sample by the bus it makes, its gate by the thresholds and its runs by whether they are hit; each condition by its run. -/
theorem motorBuses : Obligations.MotorBuses := by
  refine fun s x => ⟨fun code feedback hfit => ⟨_, execMotorBusSample_fitted hfit code feedback, ?_, rfl, fun y => State.updBus_other s _⟩,
    execChopperFeedbackTimeout_follows, execChopperFeedbackTimeout_differs,
    fun hrun => congrArg Host.Outcome.next (if_pos hrun), fun hrun => congrArg Host.Outcome.next (if_neg (Nat.not_le.mpr hrun)),
    execBusFreewheel_high, execBusFreewheelRelease_low, execBusUndervoltage_low, execBusUndervoltageEnd_back⟩
  rw [State.updBus_same]
  exact ⟨rfl, rfl, rfl, rfl, Bus.chopperGate_barred, Bus.chopperGate_on, Bus.chopperGate_off, Bus.chopperGate_between,
    Bus.sampled_activations _ _ _ _ _,
    fun h => runOf_miss (Nat.not_le.mpr h) _, fun h => runOf_hit h _, fun h => runOf_miss (Nat.not_le.mpr h) _, fun h => runOf_hit h _,
    fun h => runOf_miss (Nat.not_lt.mpr h) _, fun h => runOf_hit h _, fun h => runOf_miss (Nat.not_le.mpr h) _, fun h => runOf_hit h _⟩

end Sys2Proof.Machine

namespace Sys2Proof.Machine
open Sys2Proof

/-! ### The current loop and the speed loop of a spindle -/

/-! #### Changes of one spindle -/

@[simp] theorem State.updSpin_spindle (s : State) (p f) : (s.updSpin p f).packs[p].spindle = f s.packs[p].spindle := by
  rw [State.updSpin, State.updPack_same]

/-- Of the packs only `p` differs, and of that one only the spindle. -/
def State.SpindleOnly (s : State) (p : PackId) (t : State) : Prop :=
  t.packs[p] = { s.packs[p] with spindle := t.packs[p].spindle } ∧ ∀ q, q ≠ p → t.packs[q] = s.packs[q]

/-- A change of the spindle adds to what stands by then. -/
theorem State.SpindleOnly.updSpin {s t : State} {p : PackId} (h : s.SpindleOnly p t) (f) : s.SpindleOnly p (t.updSpin p f) := by
  obtain ⟨hpack, hothers⟩ := h
  refine ⟨?_, fun q hq => (State.updPack_other t p q _ (Ne.symm hq)).trans (hothers q hq)⟩
  rw [State.updSpin, State.updPack_same, hpack]

theorem State.SpindleOnly.of_packs {s t : State} (h : t.packs = s.packs) (p : PackId) : s.SpindleOnly p t := by
  rw [State.SpindleOnly, h]
  exact ⟨rfl, fun _ _ => rfl⟩

/-! #### A driven period -/

/-- What a driven period makes of the spindle `y`, by the spec's own values (R276 to R278, R284); `x` is the spindle before it. -/
def Spindle.Driven (s : State) (p : PackId) (shunt : Option ShuntPair) (observer : Nat) (moved : Int × Int × Int) (x y : Spindle) : Prop :=
  y.missedSamples = (if shunt.isSome then x.missedSamples else sat32 x.missedSamples 1)
  ∧ y.forced = (if x.state = .forced then x.forced + (x.forcedFrac + x.coef 0x1D 1 * 1024 * s.pwmPeriod p) / 10 ^ 9 else x.forced)
  ∧ y.forcedFrac = (if x.state = .forced then (x.forcedFrac + x.coef 0x1D 1 * 1024 * s.pwmPeriod p) % 10 ^ 9 else x.forcedFrac)
  ∧ (x.state ≠ .forced → y.agreeRun = 0)
  ∧ (x.state = .forced →
     y.agreeRun = if observer * 1024 * 10 ≤ y.forced * 11 ∧ y.forced * 9 ≤ observer * 1024 * 10 then x.agreeRun + 1 else 0)
  ∧ y.qSet = (if x.noDrive = true then 0 else if x.state = .align then x.scaled (x.coef 0x1C 2)
      else if x.state = .forced then x.scaled (x.coef 0x1C 1) else x.qSet)
  ∧ y.debt = #v[moved.1, moved.2.1, moved.2.2]
  ∧ y.shift = windowShifts (s.param 0x7030 8) y.duty
  ∧ y.sampleAt = sampleTimes (s.pwmPeriod p) (s.param 0x7030 8) (s.param 0x7030 9) y.duty
  ∧ (y.state, y.target, y.speed, y.attempts) = (x.state, x.target, x.speed, x.attempts)

theorem State.drivePeriod_spindleOnly (s : State) (p : PackId) (shunt observer angle moved) :
    s.SpindleOnly p (s.drivePeriod p shunt observer angle moved) := by
  unfold State.drivePeriod
  exact State.SpindleOnly.updSpin (State.SpindleOnly.of_packs rfl p) _

theorem State.drivePeriod_driven (s : State) (p : PackId) (shunt observer angle moved) :
    s.packs[p].spindle.Driven s p shunt observer moved (s.drivePeriod p shunt observer angle moved).packs[p].spindle := by
  have hfree : s.takeFree3.2.2.2.packs[p].spindle = s.packs[p].spindle := rfl
  unfold State.drivePeriod
  dsimp only
  rw [State.updSpin_spindle, hfree]
  generalize s.packs[p].spindle = x
  refine ⟨rfl, rfl, rfl, fun h => if_neg (fun hagree => h hagree.1), fun h => ?_, rfl, rfl, rfl, rfl, rfl⟩
  simp only [h, true_and, Bool.and_eq_true, decide_eq_true_eq]

/-- Learning the commutation offset leaves the rest of the spindle (R278). -/
theorem Spindle.Driven.learn {s : State} {p : PackId} {shunt observer moved} {x y : Spindle} (h : x.Driven s p shunt observer moved y)
    (o e : Nat) : x.Driven s p shunt observer moved (y.learn o e) := by
  unfold Spindle.learn
  dsimp only
  split <;> exact h

section
variable {s : State} {p : PackId}

/-! #### The current loop -/

theorem execSpindleCurrentLoop_drives (hlive : s.gatesLive = true) (hbrake : s.packs[p].spindle.braking = false)
    (hdriven : s.packs[p].spindle.state.driven = true) (shunt observer angle moved) :
    ∃ t, execSpindleCurrentLoop p shunt observer angle moved s = .next t
      ∧ s.packs[p].spindle.Driven s p shunt observer moved t.packs[p].spindle ∧ s.SpindleOnly p t := by
  have hdrives := s.drivePeriod_driven p shunt observer angle moved
  have honly := s.drivePeriod_spindleOnly p shunt observer angle moved
  refine ⟨_, congrArg Host.Outcome.next
    ((if_neg (not_not_intro hlive)).trans ((if_neg (ne_true_of_eq_false hbrake)).trans (if_pos hdriven))), ?_⟩
  dsimp only
  split
  · rw [State.updSpin_spindle]
    exact ⟨hdrives.learn _ _, honly.updSpin _⟩
  · exact ⟨hdrives, honly⟩

theorem execSpindleCurrentLoop_brakes (hlive : s.gatesLive = true) (hbrake : s.packs[p].spindle.braking = true) (shunt observer angle moved) :
    execSpindleCurrentLoop p shunt observer angle moved s = .next (s.brakePeriod p shunt) :=
  congrArg Host.Outcome.next ((if_neg (not_not_intro hlive)).trans (if_pos hbrake))

theorem execSpindleCurrentLoop_idle (h : s.gatesLive = false ∨ (s.packs[p].spindle.braking = false ∧ s.packs[p].spindle.state.driven = false))
    (shunt observer angle moved) : execSpindleCurrentLoop p shunt observer angle moved s = .next s := by
  refine congrArg Host.Outcome.next ?_
  by_cases hlive : s.gatesLive = true
  · obtain ⟨hbrake, hdriven⟩ := h.resolve_left (by simp [hlive])
    exact (if_neg (not_not_intro hlive)).trans ((if_neg (ne_true_of_eq_false hbrake)).trans (if_neg (ne_true_of_eq_false hdriven)))
  · exact if_pos hlive

/-! #### Short braking -/

/-- The sum of the positive phase currents stands above its limit (R289). -/
def Spindle.overCurrent (x : Spindle) (sum : Option ShuntPair) : Bool :=
  match sum with | some v => decide (x.scaled (x.coef 0x1C 4) < v.first) | none => false

/-- The next short interval of braking: a free value within the period, shorter than before over the limit (R289). -/
def State.shortInterval (s : State) (p : PackId) (sum : Option ShuntPair) : Nat :=
  Config.freeValue s.free % (if s.packs[p].spindle.overCurrent sum then max s.packs[p].spindle.brakeOn 1 else s.pwmPeriod p + 1)

theorem State.shortInterval_le (s : State) (p sum) : s.shortInterval p sum ≤ max s.packs[p].spindle.brakeOn (s.pwmPeriod p) := by
  unfold State.shortInterval
  split
  · have hmod := Nat.mod_lt (Config.freeValue s.free) (y := max s.packs[p].spindle.brakeOn 1) (by omega)
    omega
  · have hmod := Nat.mod_lt (Config.freeValue s.free) (y := s.pwmPeriod p + 1) (by omega)
    omega

theorem State.shortInterval_lt {v : ShuntPair} (h : s.packs[p].spindle.scaled (s.packs[p].spindle.coef 0x1C 4) < v.first) :
    s.shortInterval p (some v) < max s.packs[p].spindle.brakeOn 1 := by
  have hover : s.packs[p].spindle.overCurrent (some v) = true := decide_eq_true h
  rw [State.shortInterval, if_pos hover]
  exact Nat.mod_lt _ (by omega)

/-- The spindle after a period of short braking (R271, R289). -/
theorem State.brakePeriod_spindle (s : State) (p sum) : (s.brakePeriod p sum).packs[p].spindle =
    { s.packs[p].spindle with
      brakeOn := s.shortInterval p sum, duty := Vector.replicate 3 0, legs := Vector.replicate 3 { low := [(0, s.shortInterval p sum)] },
      sampleAt := (s.shortInterval p sum + 500, 0),
      current := match sum with
        | some v => s.packs[p].spindle.milliamps (Config.brakeCurrent v.first)
        | none => s.packs[p].spindle.current } := by
  unfold State.brakePeriod
  dsimp only
  rw [State.updSpin_spindle]
  rfl

/-! #### The speed loop -/

/-- What an update of the speed loop makes of the spindle `y`, by the spec's own values (R279, R280); `x` is the spindle before it, `loaded` says that
an arm of the pack is loaded. -/
def Spindle.Updated (speed : Nat) (backward loaded : Bool) (x y : Spindle) : Prop :=
  let closed := x.state = .accelerate ∨ x.state = .atSpeed ∨ x.state = .stop
  y.speed = speed ∧ y.backward = backward ∧ (y.state, y.target, y.attempts) = (x.state, x.target, x.attempts)
  ∧ (¬ closed → y.ref = x.ref ∧ y.qSet = x.qSet)
  ∧ (closed → (x.noDrive = true ∨ x.shortBrake = true) → y.qSet = 0)
  ∧ (y.overRun = if x.target ≠ 0 ∧ x.target * 105 < speed * 100 then x.overRun + 1 else 0)
  ∧ (y.inWindowRun = if x.target ≠ 0 ∧ closed ∧ withinMille (x.coef 0x1D 3) speed x.target = true then min (x.inWindowRun + 1) 32 else 0)
  ∧ (y.devRun = if x.state = .atSpeed ∧ loaded = true ∧ withinMille 20 speed x.target = false then x.devRun + 1 else 0)

/-- A spindle whose speed loop runs is updated before the time base, the removal and the spindle act on its speed. -/
theorem execSpindleSpeedLoop_updates (hstate : s.packs[p].spindle.state ≠ .off) (observer : Nat) (backward : Bool) :
    ∃ s1 : State, execSpindleSpeedLoop p observer backward s = .next (((s1.tbSpeed p).checkRemoval p).spinSpeed p)
      ∧ s.packs[p].spindle.Updated (s.measuredSpeed p observer) backward (s.packs[p].arms.any (fun a => a.servo.mode.loaded))
          s1.packs[p].spindle
      ∧ s.SpindleOnly p s1 := by
  refine ⟨_, congrArg Host.Outcome.next (if_neg hstate), ?_, (State.SpindleOnly.of_packs rfl p).updSpin _⟩
  rw [State.updSpin_spindle]
  generalize s.packs[p].spindle = x
  have hclosed : (x.state = .accelerate || x.state = .atSpeed || x.state = .stop) = true ↔
      x.state = .accelerate ∨ x.state = .atSpeed ∨ x.state = .stop := by simp [or_assoc]
  refine ⟨rfl, rfl, rfl, fun h => ⟨if_neg (mt hclosed.mp h), if_pos (mt hclosed.mp h)⟩, fun h hno => ?_, rfl, ?_, ?_⟩
  · exact (if_neg (not_not_intro (hclosed.mpr h))).trans (if_pos hno)
  · refine ite_congr (propext ?_) (fun _ => rfl) (fun _ => rfl)
    simp only [Bool.and_eq_true, decide_eq_true_eq, hclosed, and_assoc]
  · refine ite_congr (propext ?_) (fun _ => rfl) (fun _ => rfl)
    simp only [Bool.not_eq_true]

theorem execSpindleSpeedLoop_off (h : s.packs[p].spindle.state = .off) (observer : Nat) (backward : Bool) :
    execSpindleSpeedLoop p observer backward s =
      .next (((s.updSpin p (fun x => { x with speed := s.measuredSpeed p observer, backward := backward })).tbSpeed p).checkRemoval p) :=
  congrArg Host.Outcome.next (if_pos h)

end

/-- Settles O26: a driven period by `Spindle.Driven`, a braking one by `State.shortInterval`, an update of the speed loop by `Spindle.Updated`. The
transformations, the speed error's scale and the next short interval are free, which is the model's choice. -/
theorem spindleLoops : Obligations.SpindleLoops := by
  refine fun s p => ⟨fun shunt observer angle moved hlive hbrake hdriven =>
      execSpindleCurrentLoop_drives hlive hbrake hdriven shunt observer angle moved,
    fun shunt observer angle moved hlive hbrake => ⟨_, execSpindleCurrentLoop_brakes hlive hbrake shunt observer angle moved, ?_⟩,
    fun h shunt observer angle moved => execSpindleCurrentLoop_idle h shunt observer angle moved,
    fun observer backward hstate => execSpindleSpeedLoop_updates hstate observer backward,
    fun hoff observer backward => execSpindleSpeedLoop_off hoff observer backward⟩
  rw [State.brakePeriod_spindle]
  refine ⟨rfl, s.shortInterval_le p shunt, fun v hv hover => ?_⟩
  rw [hv]
  exact State.shortInterval_lt hover

end Sys2Proof.Machine

namespace Sys2Proof.Machine
open Sys2Proof

/-! ### Commands on a context and under a key's lock -/

section
variable {s : State} {q : SeqId} {c : CtxId}

/-- A command that runs goes on where it stands, with its context as it is (R24, R212, R217). -/
theorem State.Runs.onCommand {op : Nat} (hrun : s.Runs q c op) (f : Ctx → State) : s.onCommand q c op f = f (s.ctx q c) := by
  unfold State.onCommand
  dsimp only
  rw [if_neg (by simp only [hrun.busy, hrun.chain, hrun.idle, hrun.free, hrun.opcode, hrun.sound, hrun.active, hrun.served,
    Option.isNone_iff_eq_none, ne_eq, not_true_eq_false, Bool.false_eq_true, or_self, not_false_eq_true])]
  cases hcmd : s.svc.cmd (s.ctx q c).ring (s.ctx q c).slot with
  | none => rfl
  | some y =>
    obtain ⟨hcommitted, haborted⟩ := hrun.fresh y hcmd
    simp only [hcommitted, haborted, Bool.false_eq_true, if_false]

/-- A GET that holds its version goes on though it has committed (R323, R324). -/
theorem State.GoesOn.onCommand {g : HeldGet} (hgoes : s.GoesOn q c g) (f : Ctx → State) : s.onCommand q c 2 f = f (s.ctx q c) := by
  unfold State.onCommand
  dsimp only
  rw [if_neg (by simp only [hgoes.busy, hgoes.chain, hgoes.idle, hgoes.free, hgoes.opcode, hgoes.sound, hgoes.active, hgoes.served,
    Option.isNone_iff_eq_none, ne_eq, not_true_eq_false, Bool.false_eq_true, or_self, not_false_eq_true])]
  cases hcmd : s.svc.cmd (s.ctx q c).ring (s.ctx q c).slot with
  | none => rfl
  | some y => simp only [hgoes.committed y hcmd, hgoes.held, if_true]

section
variable {s1 : State} {x : Ctx} (hturn : s.behindOlder x.ring x.slot (s.chainHash x.chain) = false)
include hturn

/-- With no older command before it and the lock of its key, a modifying command runs (R325, R326). -/
theorem State.locked_holds (hlock : s.takeLock (s.chainHash x.chain) x.ring x.slot = (true, s1)) (f : Nat → State → State) :
    s.locked q c x f = f (s.chainHash x.chain) s1 := by
  simp only [State.locked, hturn, hlock, Bool.false_eq_true, if_false, if_true]

/-- While another command holds the lock of its key it is suspended (R325). -/
theorem State.locked_waits (hlock : s.takeLock (s.chainHash x.chain) x.ring x.slot = (false, s1)) (f : Nat → State → State) :
    s.locked q c x f = s1.suspendCtx q c 0 := by
  simp only [State.locked, hturn, hlock, Bool.false_eq_true, if_false]

end

/-! ### PUT -/

section
variable {x : Ctx} {hash : Nat}

theorem State.putObject_unmet {st v : Nat} (hunmet : conditionFails x.chain (s.store.entry hash) false = some (st, v)) (data : List Byte) :
    s.putObject q c x data hash = s.finish q c st 0 v := by
  simp only [State.putObject, hunmet]

section
variable {i : SpanId} {data : List Byte} (hmet : conditionFails x.chain (s.store.entry hash) false = none)
  (hspan : s.putSpan (fieldAt x.chain 6 1) = some i) (htakes : s.spanTakes i = true)
include hmet hspan htakes

theorem State.putObject_formed {slot : Nat} {ext : List Nat} {w : Placed} {s1 : State}
    (hform : s.formVersion i hash (padTo (fieldAt x.chain 0x10 8) data) (isDurable x.chain) = .ok (slot, ext, w, s1)) :
    s.putObject q c x data hash = s1.commitVersion q c x i hash (padTo (fieldAt x.chain 0x10 8) data).length slot ext w := by
  simp only [State.putObject, hmet, hspan, htakes, not_true_eq_false, if_false, hform]

theorem State.putObject_unformed {st : Nat}
    (hform : s.formVersion i hash (padTo (fieldAt x.chain 0x10 8) data) (isDurable x.chain) = .error st) :
    s.putObject q c x data hash = s.finish q c st 0 0 := by
  simp only [State.putObject, hmet, hspan, htakes, not_true_eq_false, if_false, hform]

end
end

section
variable {s1 : State} (hrun : s.Runs q c 1)
  (hturn : s.behindOlder (s.ctx q c).ring (s.ctx q c).slot (s.chainHash (s.ctx q c).chain) = false)
include hrun hturn

theorem execPut_locked (hlock : s.takeLock (s.chainHash (s.ctx q c).chain) (s.ctx q c).ring (s.ctx q c).slot = (true, s1))
    (data : List Byte) :
    execPut q c data s = .next (s1.putObject q c (s.ctx q c) data (s.chainHash (s.ctx q c).chain)) :=
  congrArg Host.Outcome.next ((hrun.onCommand _).trans (State.locked_holds hturn hlock _))

theorem execPut_waits (hlock : s.takeLock (s.chainHash (s.ctx q c).chain) (s.ctx q c).ring (s.ctx q c).slot = (false, s1))
    (data : List Byte) : execPut q c data s = .next (s1.suspendCtx q c 0) :=
  congrArg Host.Outcome.next ((hrun.onCommand _).trans (State.locked_waits hturn hlock _))

end

/-! ### GET -/

section
variable {x : Ctx} (hturn : s.behindOlder x.ring x.slot (s.chainHash x.chain) = false)
include hturn

theorem State.lookUp_absent (habsent : s.store.entry (s.chainHash x.chain) = none) : s.lookUp q c x = s.finish q c 0x20 0 0 := by
  simp only [State.lookUp, hturn, Bool.false_eq_true, if_false, habsent]

variable {e : ObjEntry} (hentry : s.store.entry (s.chainHash x.chain) = some e)
include hentry

theorem State.lookUp_unmet {st v : Nat} (hunmet : conditionFails x.chain (some e) true = some (st, v)) :
    s.lookUp q c x = s.finish q c st 0 v := by
  simp only [State.lookUp, hturn, Bool.false_eq_true, if_false, hentry, hunmet]

/-- An offset beyond the object is refused; else the GET commits and holds the version it has found (R323, R324, R329). -/
theorem State.lookUp_found (hmet : conditionFails x.chain (some e) true = none) :
    s.lookUp q c x = if e.size < fieldAt x.chain 8 8 then s.finish q c 0x17 0 0
      else ((s.commitCmd x.ring x.slot).updStore (fun t => { t with gets := t.gets ++ [⟨x.ring, x.slot, e⟩] })).getVersion q c x e := by
  simp only [State.lookUp, hturn, Bool.false_eq_true, if_false, hentry, hmet]

end

theorem execGet_looksUp (hrun : s.Runs q c 2)
    (hnone : s.pollJobs.store.gets.find? (fun g => g.ring = (s.ctx q c).ring ∧ g.slot = (s.ctx q c).slot) = none) :
    execGet q c s = .next (s.pollJobs.lookUp q c (s.ctx q c)) := by
  unfold execGet
  rw [hrun.onCommand]
  simp only [hnone]

theorem execGet_goesOn {g : HeldGet} (hgoes : s.GoesOn q c g) : execGet q c s = .next (s.pollJobs.getVersion q c (s.ctx q c) g.entry) := by
  unfold execGet
  rw [hgoes.onCommand]
  simp only [hgoes.version]

/-- Stripe addresses of a version whose bytes a range touches (R336). -/
def ObjEntry.touched (e : ObjEntry) (stripe off stop : Nat) : List Nat :=
  ((e.pieces stripe).filter (fun y => decide (y.2.1 < stop ∧ off < y.2.2))).map (fun y => y.1)

/-- The end of a GET's range within its version (R321). -/
def ObjEntry.stopOf (e : ObjEntry) (l : List Byte) : Nat := min (fieldAt l 8 8 + fieldAt l 0x10 8) e.size

section
variable {x : Ctx} {e : ObjEntry} (hspan : e.span < 8) {u : State}

theorem State.getVersion_waits
    (hreads : s.gather ⟨e.span, hspan⟩ (some (x.ring, x.slot))
      (e.touched (s.store.spans[(⟨e.span, hspan⟩ : SpanId)].k * leafBytes) (fieldAt x.chain 8 8) (e.stopOf x.chain)) = (u, true)) :
    s.getVersion q c x e = u := by
  unfold ObjEntry.touched ObjEntry.stopOf at hreads
  simp only [State.getVersion, dif_pos hspan, hreads, if_true]

/-- The first `n` bytes of a GET's range go to the host (R336, R385). -/
def State.sendRange (s : State) (x : Ctx) (r : Ring) (e : ObjEntry) (n : Nat) : State :=
  s.sendHost (.write r.conn (fieldAt x.chain 0x18 8) (fieldAt x.chain 0x20 4) (((s.objectBytes e).drop (fieldAt x.chain 8 8)).take n) none)

section
variable {r : Ring} {n : Nat}
  (hreads : s.gather ⟨e.span, hspan⟩ (some (x.ring, x.slot))
    (e.touched (s.store.spans[(⟨e.span, hspan⟩ : SpanId)].k * leafBytes) (fieldAt x.chain 8 8) (e.stopOf x.chain)) = (u, false))
  (hring : u.ring? x.ring = some r) (hbytes : 0 < n)
include hreads hring hbytes

/-- Every stripe delivered, the whole range goes to the host (R321, R336). -/
theorem State.getVersion_whole
    (hgood : u.goodPrefix ⟨e.span, hspan⟩ e (fieldAt x.chain 8 8) (e.stopOf x.chain) (u.undelivered ⟨e.span, hspan⟩ (some (x.ring, x.slot)))
      = (n, none)) :
    s.getVersion q c x e =
      (((u.sendRange x r e n).settleReads (x.ring, x.slot)).finish q c 0 e.size e.version).killUnnamed := by
  unfold ObjEntry.touched at hreads
  unfold ObjEntry.stopOf at hreads hgood
  simp only [State.getVersion, dif_pos hspan, hreads, Bool.false_eq_true, if_false, hgood, hring,
    if_neg (Nat.ne_of_gt hbytes), Option.isSome_none]
  rfl

/-- With a stripe lost, what stands before it goes to the host, and the stripe counts (R336). -/
theorem State.getVersion_part {a : Nat}
    (hgood : u.goodPrefix ⟨e.span, hspan⟩ e (fieldAt x.chain 8 8) (e.stopOf x.chain) (u.undelivered ⟨e.span, hspan⟩ (some (x.ring, x.slot)))
      = (n, some a)) :
    s.getVersion q c x e =
      ((((u.sendRange x r e n).countLost ⟨e.span, hspan⟩ a).settleReads (x.ring, x.slot)).finish q c 0x34 n e.version).killUnnamed := by
  unfold ObjEntry.touched at hreads
  unfold ObjEntry.stopOf at hreads hgood
  simp only [State.getVersion, dif_pos hspan, hreads, Bool.false_eq_true, if_false, hgood, hring,
    if_neg (Nat.ne_of_gt hbytes), Option.isSome_some, if_true]
  rfl

end
end

/-! ### PATCH -/

section
variable {s1 : State} (hrun : s.Runs q c 3)
  (hturn : s.pollJobs.behindOlder (s.ctx q c).ring (s.ctx q c).slot (s.pollJobs.chainHash (s.ctx q c).chain) = false)
include hrun hturn

theorem execPatch_locked
    (hlock : s.pollJobs.takeLock (s.pollJobs.chainHash (s.ctx q c).chain) (s.ctx q c).ring (s.ctx q c).slot = (true, s1)) (data : List Byte) :
    execPatch q c data s = .next (s1.patchObject q c (s.ctx q c) data (s.pollJobs.chainHash (s.ctx q c).chain)) :=
  congrArg Host.Outcome.next ((hrun.onCommand _).trans (State.locked_holds hturn hlock _))

theorem execPatch_waits
    (hlock : s.pollJobs.takeLock (s.pollJobs.chainHash (s.ctx q c).chain) (s.ctx q c).ring (s.ctx q c).slot = (false, s1)) (data : List Byte) :
    execPatch q c data s = .next (s1.suspendCtx q c 0) :=
  congrArg Host.Outcome.next ((hrun.onCommand _).trans (State.locked_waits hturn hlock _))

end

/-- A PATCH to `stop` rewrites the object whole where its result, or the version it patches, is under the 256 KiB of a petit-four object (R322). -/
def ObjEntry.rewritten (e : ObjEntry) (stop : Nat) : Bool := decide (max e.size stop < 262144 ∨ e.size < 262144)

/-- A PATCH's new version, whole or by stripes: where its entry goes, what it holds, and the state that has formed it; or its status (R322). -/
def State.formPatched (s : State) (i : SpanId) (e : ObjEntry) (hash : Nat) (l : List Byte) (data : List Byte) :
    Except Nat (Nat × List Nat × Placed × State) :=
  let patch := padTo (fieldAt l 0x10 8) data
  if e.rewritten (fieldAt l 8 8 + fieldAt l 0x10 8) then
    s.formVersion i hash (patchBytes (s.objectBytes e) (fieldAt l 8 8) patch) (isDurable l)
  else s.patchStripes i e (fieldAt l 8 8) patch

/-- A PATCH passes every check before its reads: its object is there and its condition met, its range begins within the object and ends below
2^40, and its span takes data (R321, R322, R337). -/
structure State.Patches (s : State) (l : List Byte) (hash : Nat) (e : ObjEntry) : Prop where
  entry : s.store.entry hash = some e
  met : conditionFails l (some e) true = none
  span : e.span < 8
  within : fieldAt l 8 8 ≤ e.size
  short : fieldAt l 8 8 + fieldAt l 0x10 8 < 2 ^ 40
  takes : s.spanTakes ⟨e.span, span⟩ = true

/-- Stripe addresses that a PATCH reads before it forms its version (R322). -/
def State.patchReads (s : State) (i : SpanId) (e : ObjEntry) (l : List Byte) : List Nat :=
  e.patched (s.store.spans[i].k * leafBytes) (fieldAt l 8 8) (fieldAt l 0x10 8) (e.rewritten (fieldAt l 8 8 + fieldAt l 0x10 8))

section
variable {x : Ctx} {hash : Nat}

theorem State.patchObject_absent (habsent : s.store.entry hash = none) (data : List Byte) :
    s.patchObject q c x data hash = s.finish q c 0x20 0 0 := by
  simp only [State.patchObject, habsent]

variable {e : ObjEntry} {u : State} (hpatch : s.Patches x.chain hash e)
include hpatch

theorem State.patchObject_waits
    (hreads : s.gather ⟨e.span, hpatch.span⟩ (some (x.ring, x.slot)) (s.patchReads ⟨e.span, hpatch.span⟩ e x.chain) = (u, true))
    (data : List Byte) : s.patchObject q c x data hash = u := by
  unfold State.patchReads ObjEntry.rewritten at hreads
  simp only [State.patchObject, hpatch.entry, hpatch.met, if_neg (Nat.not_lt.mpr hpatch.within),
    if_neg (Nat.not_le.mpr hpatch.short), dif_pos hpatch.span, hpatch.takes, not_true_eq_false, if_false, hreads, if_true]

/-- With every stripe delivered that it reads, a PATCH commits the version it has formed (R322, R323). -/
theorem State.patchObject_formed {data : List Byte} {slot : Nat} {ext : List Nat} {w : Placed} {s1 : State}
    (hreads : s.gather ⟨e.span, hpatch.span⟩ (some (x.ring, x.slot)) (s.patchReads ⟨e.span, hpatch.span⟩ e x.chain) = (u, false))
    (hgood : (s.patchReads ⟨e.span, hpatch.span⟩ e x.chain).all (fun a =>
      u.stripeReads ⟨e.span, hpatch.span⟩ a (u.undelivered ⟨e.span, hpatch.span⟩ (some (x.ring, x.slot)))) = true)
    (hform : (u.settleReads (x.ring, x.slot)).formPatched ⟨e.span, hpatch.span⟩ e hash x.chain data = .ok (slot, ext, w, s1)) :
    s.patchObject q c x data hash =
      s1.commitVersion q c x ⟨e.span, hpatch.span⟩ hash (max e.size (fieldAt x.chain 8 8 + fieldAt x.chain 0x10 8)) slot ext w := by
  have hnone : (s.patchReads ⟨e.span, hpatch.span⟩ e x.chain).find? (fun a =>
      !u.stripeReads ⟨e.span, hpatch.span⟩ a (u.undelivered ⟨e.span, hpatch.span⟩ (some (x.ring, x.slot)))) = none :=
    List.find?_eq_none.mpr fun a ha => by
      simp only [List.all_eq_true.mp hgood a ha, Bool.not_true, Bool.false_eq_true, not_false_eq_true]
  unfold State.patchReads ObjEntry.rewritten at hreads hnone
  unfold State.formPatched ObjEntry.rewritten at hform
  dsimp only at hform
  simp only [State.patchObject, hpatch.entry, hpatch.met, if_neg (Nat.not_lt.mpr hpatch.within),
    if_neg (Nat.not_le.mpr hpatch.short), dif_pos hpatch.span, hpatch.takes, not_true_eq_false, if_false, hreads, Bool.false_eq_true, hnone, hform]

end

/-! ### DELETE, LIST and NOP -/

theorem execDelete_locked {s1 : State} (hrun : s.Runs q c 4)
    (hturn : s.behindOlder (s.ctx q c).ring (s.ctx q c).slot (s.chainHash (s.ctx q c).chain) = false)
    (hlock : s.takeLock (s.chainHash (s.ctx q c).chain) (s.ctx q c).ring (s.ctx q c).slot = (true, s1)) :
    execDelete q c s = .next (s1.deleteObject q c (s.ctx q c) (s.chainHash (s.ctx q c).chain)) :=
  congrArg Host.Outcome.next ((hrun.onCommand _).trans (State.locked_holds hturn hlock _))

section
variable {x : Ctx} {hash : Nat}

theorem State.deleteObject_absent (habsent : s.store.entry hash = none) : s.deleteObject q c x hash = s.finish q c 0x20 0 0 := by
  simp only [State.deleteObject, habsent]

/-- A DELETE takes a generation and commits its change, which names the version deleted (R301, R321, R372). -/
theorem State.deleteObject_commits {e : ObjEntry} (hentry : s.store.entry hash = some e) (hmet : conditionFails x.chain (some e) true = none) :
    s.deleteObject q c x hash = (s.updStore (fun t => { t with counter := t.counter + 1 })).commitChange q c x
      { slot := e.slot, hash := hash, entry := none, gen := e.version, durable := if isDurable x.chain then some (x.ring, x.slot) else none } := by
  simp only [State.deleteObject, hentry, hmet, State.takeGen]

end

/-- A LIST writes its records where there are some, then the next start, and completes with their count (R330, R373). -/
theorem execList_lists {r : Ring} (hrun : s.Runs q c 5) (hring : s.ring? (s.ctx q c).ring = some r) :
    execList q c s = .next (
      let l := (s.ctx q c).chain
      let found := s.store.listRange (fieldAt l 0x30 16) (fieldAt l 68 16) (fieldAt l 84 16) (fieldAt l 0x10 8)
      let s1 := if found.1.isEmpty then s
        else s.sendHost (.write r.conn (fieldAt l 0x18 8) (fieldAt l 0x20 4) ((found.1.map s.listRecord).flatten) none)
      (s1.sendHost (.write r.conn (r.slotAddr ((s.ctx q c).slot + 1) + 0x30) r.key (natBytes 16 found.2) none)).finish q c 0 found.1.length 0) := by
  unfold execList
  rw [hrun.onCommand]
  simp only [hring]

theorem execNopCommand_completes (hrun : s.Runs q c 0x0F) : execNopCommand q c s = .next (s.finish q c 0 0 0) :=
  congrArg Host.Outcome.next (hrun.onCommand _)

end

/-- Settles O29: each command once it runs by its lemma, then by what its object, its condition, its reads and the placement are. That a command
runs whole in one step is the model's choice (log entry 33), and so is that a GET or a PATCH asks for its reads and goes on when it is presented
again (156). -/
theorem objectCommands : Obligations.ObjectCommands := by
  refine fun s q c => ⟨fun data s1 hrun hturn hlock => ⟨fun st v hunmet => ?_, fun i slot ext w s2 hmet hspan htakes hform => ?_,
      fun i st hmet hspan htakes hform => ?_⟩,
    fun data s1 hrun hturn hlock => execPut_waits hrun hturn hlock data,
    fun hrun hnone hturn => ⟨fun habsent => ?_, fun e st v hentry hunmet => ?_, fun e hentry hmet hbeyond => ?_,
      fun e hentry hmet hwithin => ?_⟩,
    fun g u hspan hgoes => ⟨fun hreads => ?_, fun r n hreads hring hbytes => ⟨fun hgood => ?_, fun a hgood => ?_⟩⟩,
    fun data s1 hrun hturn hlock => ⟨fun habsent => ?_, fun e u hspan hentry hmet hwithin hshort htakes => ?_⟩,
    fun data s1 hrun hturn hlock => execPatch_waits hrun hturn hlock data,
    fun s1 hrun hturn hlock => ⟨fun habsent => ?_, fun e hentry hmet => ?_⟩,
    fun r hrun hring => execList_lists hrun hring, fun hrun => execNopCommand_completes hrun⟩
  · exact (execPut_locked hrun hturn hlock data).trans (congrArg Host.Outcome.next (State.putObject_unmet hunmet data))
  · exact (execPut_locked hrun hturn hlock data).trans (congrArg Host.Outcome.next (State.putObject_formed hmet hspan htakes hform))
  · exact (execPut_locked hrun hturn hlock data).trans (congrArg Host.Outcome.next (State.putObject_unformed hmet hspan htakes hform))
  · exact (execGet_looksUp hrun hnone).trans (congrArg Host.Outcome.next (State.lookUp_absent hturn habsent))
  · exact (execGet_looksUp hrun hnone).trans (congrArg Host.Outcome.next (State.lookUp_unmet hturn hentry hunmet))
  · exact (execGet_looksUp hrun hnone).trans (congrArg Host.Outcome.next ((State.lookUp_found hturn hentry hmet).trans (if_pos hbeyond)))
  · refine (execGet_looksUp hrun hnone).trans (congrArg Host.Outcome.next ((State.lookUp_found hturn hentry hmet).trans (if_neg ?_)))
    exact Nat.not_lt.mpr hwithin
  · exact (execGet_goesOn hgoes).trans (congrArg Host.Outcome.next (State.getVersion_waits hspan hreads))
  · exact (execGet_goesOn hgoes).trans (congrArg Host.Outcome.next (State.getVersion_whole hspan hreads hring hbytes hgood))
  · exact (execGet_goesOn hgoes).trans (congrArg Host.Outcome.next (State.getVersion_part hspan hreads hring hbytes hgood))
  · exact (execPatch_locked hrun hturn hlock data).trans (congrArg Host.Outcome.next (State.patchObject_absent habsent data))
  · have hpatch : s1.Patches (s.ctx q c).chain (s.pollJobs.chainHash (s.ctx q c).chain) e := ⟨hentry, hmet, hspan, hwithin, hshort, htakes⟩
    exact ⟨fun hreads =>
        (execPatch_locked hrun hturn hlock data).trans (congrArg Host.Outcome.next (State.patchObject_waits hpatch hreads data)),
      fun hreads hgood slot ext w s2 hform =>
        (execPatch_locked hrun hturn hlock data).trans (congrArg Host.Outcome.next (State.patchObject_formed hpatch hreads hgood hform))⟩
  · exact (execDelete_locked hrun hturn hlock).trans (congrArg Host.Outcome.next (State.deleteObject_absent habsent))
  · exact (execDelete_locked hrun hturn hlock).trans (congrArg Host.Outcome.next (State.deleteObject_commits hentry hmet))

end Sys2Proof.Machine

namespace Sys2Proof.Machine
open Sys2Proof

/-! ### Initialisation of the store -/

theorem State.foldl_keeps {α β : Type} (g : State → β) {f : State → α → State} (hf : ∀ s a, g (f s a) = g s) (l : List α) (s : State) :
    g (l.foldl f s) = g s := by
  induction l generalizing s with
  | nil => rfl
  | cons a l ih => exact (ih (f s a)).trans (hf s a)

section
variable (s : State)

theorem State.journalBands_store (p : PackId) : (s.journalBands p).store = s.store := by
  refine State.foldl_keeps State.store (fun s a => State.foldl_keeps State.store (fun s _ => ?_) _ s) _ s
  dsimp only
  split <;> rfl

/-- What initialisation sets of a store before it forms the spans (R301, R302). -/
def Store.base (t : Store) : Bool × Nat × Nat × List ObjEntry := (t.formed, t.counter, t.slots, t.objs)

theorem State.formSpan_base (i : SpanId) : (s.formSpan i).store.base = s.store.base := by
  unfold State.formSpan
  dsimp only
  split <;> rfl

theorem State.formSpan_foldl_base (l : List SpanId) : (l.foldl State.formSpan s).store.base = s.store.base :=
  State.foldl_keeps (fun s => s.store.base) State.formSpan_base l s

theorem State.journalBands_foldl_store (l : List PackId) : (l.foldl State.journalBands s).store = s.store :=
  State.foldl_keeps State.store State.journalBands_store l s

theorem State.noteJournal_base : s.noteJournal.store.base = s.store.base := rfl

end

section
variable {s : State}

/-- A build within R312 and R401 is formed in Assemble with the counter at 1, its slots and an empty index, on media too, and then the spans take
note of their packs. -/
theorem State.initialiseStore_forms (hstate : s.dev.state = .assemble) (hbuild : (List.range 8).all s.spanConfigOk = true)
    (hfits : (s.regionSizes.foldl (· + ·) 0 + 4) * 2 ^ 30 ≤ s.bufSize) :
    ∃ t : State, s.initialiseStore = .ok t.noteSpans ∧ t.store.base = (true, 1, s.param 0x2001 1 * 2 ^ 30 / 48, [])
      ∧ t.store.disk.present = true ∧ t.store.disk.counter = t.store.counter ∧ t.store.disk.objs = [] := by
  have hgo : ¬ (¬ (List.range 8).all s.spanConfigOk = true ∨ s.bufSize < (s.regionSizes.foldl (· + ·) 0 + 4) * 2 ^ 30) :=
    not_or.mpr ⟨not_not_intro hbuild, Nat.not_lt.mpr hfits⟩
  unfold State.initialiseStore
  rw [if_neg (not_not_intro hstate), if_neg hgo]
  dsimp only
  generalize hformed : List.foldl State.journalBands _ _ = u
  have hbase : u.store.base = (true, 1, s.param 0x2001 1 * 2 ^ 30 / 48, []) := by
    rw [← hformed, State.journalBands_foldl_store, State.noteJournal_base, State.updBuf_store, State.formSpan_foldl_base, State.updStore_store,
      Store.base]
  exact ⟨_, rfl, hbase, rfl, rfl, rfl⟩

theorem next_okOr_congr {r r' : Except Nat State} (h : r = r') : (.next (okOr s r) : Res) = .next (okOr s r') :=
  congrArg (fun r => Host.Outcome.next (okOr s r)) h

theorem State.initialiseStore_elsewhere (helsewhere : s.dev.state ≠ .assemble) : s.initialiseStore = .error 0x08000022 :=
  if_pos helsewhere

/-- A build that breaks the limits of a span or does not fit buffer memory is refused (R312, R401). -/
theorem State.initialiseStore_refused (hstate : s.dev.state = .assemble)
    (hbuild : (List.range 8).all s.spanConfigOk = false ∨ s.bufSize < (s.regionSizes.foldl (· + ·) 0 + 4) * 2 ^ 30) :
    s.initialiseStore = .error 0x06090030 :=
  (if_neg (not_not_intro hstate)).trans (if_pos (hbuild.imp_left Bool.eq_false_iff.mp))

end

/-! ### Span commands -/

section
variable {s : State} {x : SpanId} (hstate : s.dev.state = .opened ∨ s.dev.state = .quiesce) (hspan : s.store.spans[x].configured = true)
include hstate hspan

theorem State.spanCommand_allowed : ¬ (¬ (s.dev.state = .opened ∨ s.dev.state = .quiesce) ∨ ¬ s.store.spans[x].configured = true) :=
  not_or.mpr ⟨not_not_intro hstate, not_not_intro hspan⟩

/-- Add pack takes a Verified or Ready pack that is a member of no span (R347). -/
theorem State.spanCommand_add : s.spanCommand x 1 =
    let p := s.param (0x3001 + x.val * 0x40) 2
    if (s.packState p = .verified ∨ s.packState p = .ready) ∧ ¬ s.store.spans.any (fun z => z.configured && z.members.testBit p) = true then
      let ids := match s.pack? p with | some k => (match k.identity with | some d => [(p, d.uniqueId)] | none => []) | none => []
      .ok ((s.updSpan x (fun y => { y with members := y.members ||| 2 ^ p, ids := y.ids ++ ids })).saveBands.noteSpans)
    else .error 0x08000022 :=
  if_neg (State.spanCommand_allowed hstate hspan)

/-- Start rebuild rebuilds the members that do not read (R340, R347). -/
theorem State.spanCommand_rebuild : s.spanCommand x 2 =
    let lost := s.store.spans[x].packs.filter (fun p => !s.packReads s.store.spans[x] p)
    if lost = [] then .error 0x08000022
    else .ok ((s.updSpan x (fun y => { y with rebuilding := lost.foldl (fun r p => r ||| 2 ^ p) y.rebuilding, rebuilt := 0 })).noteSpans) :=
  if_neg (State.spanCommand_allowed hstate hspan)

/-- Drain pack lets a member leave while k + m members, and at least 4, stay (R347). -/
theorem State.spanCommand_drain : s.spanCommand x 3 =
    let y := s.store.spans[x]
    let p := s.param (0x3001 + x.val * 0x40) 2
    if ¬ y.members.testBit p = true ∨ (y.packs.filter (fun j => j ≠ p ∧ ¬ y.leaving.testBit j)).length < max 4 (y.k + y.m) then
      .error 0x08000022
    else .ok ((s.updSpan x (fun y => { y with leaving := y.leaving ||| 2 ^ p })).noteLeft x).noteEmpty :=
  if_neg (State.spanCommand_allowed hstate hspan)

end

/-- Settles O32: the initialisation by what it forms and what refuses it, each span command by its equation in Open and Quiesce. -/
theorem storeAndSpanCommands : Obligations.StoreAndSpanCommands := by
  refine ⟨fun s hstate hbuild hfits => ?_, fun s hrefused => ?_, fun s x hstate hspan =>
    ⟨fun hpack hfree => ?_, fun hmember => ?_, fun hlost => ?_, fun hnone => ?_, fun hmember hstay => ?_, fun hother => ?_⟩⟩
  · obtain ⟨t, ht, hbase, hpresent, hcounter, hobjs⟩ := State.initialiseStore_forms hstate hbuild hfits
    simp only [Store.base, Prod.mk.injEq] at hbase
    obtain ⟨hformed, hone, hslots, hempty⟩ := hbase
    exact ⟨t, next_okOr_congr ht, hformed, hone, hempty, hslots, hpresent, hcounter.trans hone, hobjs⟩
  · by_cases hstate : s.dev.state = .assemble
    · have hbuild := hrefused.resolve_left (not_not_intro hstate)
      exact next_okOr_congr (State.initialiseStore_refused hstate (.inl hbuild))
    · exact next_okOr_congr (State.initialiseStore_elsewhere hstate)
  · refine next_okOr_congr ((State.spanCommand_add hstate hspan).trans (if_pos ⟨hpack, ?_⟩))
    exact Bool.eq_false_iff.mp hfree
  · exact next_okOr_congr ((State.spanCommand_add hstate hspan).trans (if_neg fun h => h.2 hmember))
  · exact next_okOr_congr ((State.spanCommand_rebuild hstate hspan).trans (if_neg hlost))
  · exact next_okOr_congr ((State.spanCommand_rebuild hstate hspan).trans (if_pos hnone))
  · refine next_okOr_congr ((State.spanCommand_drain hstate hspan).trans (if_neg ?_))
    exact not_or.mpr ⟨not_not_intro hmember, Nat.not_lt.mpr hstay⟩
  · refine next_okOr_congr ((State.spanCommand_drain hstate hspan).trans (if_pos (.inl ?_)))
    exact Bool.eq_false_iff.mp hother

end Sys2Proof.Machine
namespace Sys2Proof.Machine
open Sys2Proof

/-! ### The canonical form of the two stores

One lemma for each operation says that it leads from a sound state (`State.Inv`) to a sound one. An operation that touches neither store has an
equivalence, since soundness rests on the part, the code words and the dictionary values alone. One that may write to a store has
`State.Sustains`, which `simp` takes for an unconditional rewriting rule, so that a chain of operations of any length comes down to the state
that it starts from. An operation that answers an error or a state has `SoundOk`, a command has `Sound`. -/

theorem State.inv_congr {s t : State} (hpart : t.part = s.part) (hwords : t.buf.words = s.buf.words) (hvals : t.dict.vals = s.dict.vals) :
    t.Inv ↔ s.Inv := by
  rw [iff_def]
  constructor <;> rintro ⟨hm, hd⟩
  · exact ⟨(State.wf_of_same s t hpart hwords).symm.trans hm, by rw [← hvals, ← hpart]; exact hd⟩
  · exact ⟨(State.wf_of_same s t hpart hwords).trans hm, by rw [hvals, hpart]; exact hd⟩

/-- Keeps `simp` from rewriting inside a state of which only the soundness is asked. -/
@[congr] theorem State.inv_congr_rfl {s : State} : s.Inv = s.Inv := rfl

/-- Reads the soundness of a record whose stores hold what those of `s` hold. -/
@[simp] theorem State.mk_inv {pending now free tiles packs spinQueue buses fmtStore svc bench ref100Lost ref156Lost dict lock host store buf movers
    lastMoverError layers raw can heldAccess faults inputs clusters arbiter injection dev boot rails domains
    flash fuses window sec recorder mirrorHeld
    heldTokens tileHeld out} (s : State) (hwords : buf.words = s.buf.words) (hvals : dict.vals = s.dict.vals) :
    State.Inv ⟨pending, now, free, s.part, tiles, packs, spinQueue, buses, fmtStore, svc, bench, ref100Lost, ref156Lost, dict, lock, host,
      store, buf, movers, lastMoverError, layers, raw, can, heldAccess, faults, inputs, clusters, arbiter, injection, dev, boot, rails, domains,
      flash, fuses, window, sec, recorder, mirrorHeld, heldTokens, tileHeld, out⟩ ↔ s.Inv := State.inv_congr rfl hwords hvals

/-- `t` is sound although `s` was not: what a write to a store may bring about besides keeping the form. -/
def State.Mends (s t : State) : Prop := ¬ s.Inv ∧ t.Inv

@[congr] theorem State.mends_congr_rfl {s t : State} : s.Mends t = s.Mends t := rfl

/-- From a sound state `s` the state `t` is sound too. -/
abbrev State.Sustains (s t : State) : Prop := t.Inv ↔ s.Inv ∨ s.Mends t

theorem State.Sustains.inv {s t : State} (h : s.Sustains t) (hs : s.Inv) : t.Inv := h.mpr (.inl hs)

theorem State.Sustains.of {s t : State} (h : s.Inv → t.Inv) : s.Sustains t :=
  ⟨fun ht => (Classical.em s.Inv).imp_right fun hs => ⟨hs, ht⟩, fun ht => ht.elim h And.right⟩

@[simp] theorem State.ite_inv (c : Prop) [Decidable c] (s t : State) : (if c then s else t).Inv ↔ if c then s.Inv else t.Inv := by
  split <;> rfl

@[simp] theorem State.dite_inv (c : Prop) [Decidable c] (s : c → State) (t : ¬ c → State) :
    (if h : c then s h else t h).Inv ↔ if h : c then (s h).Inv else (t h).Inv := by
  split <;> rfl

@[simp] theorem State.ite_fst_inv {α : Type} (c : Prop) [Decidable c] (x y : State × α) :
    (if c then x else y).1.Inv ↔ if c then x.1.Inv else y.1.Inv := by
  split <;> rfl

@[simp] theorem State.ite_snd_inv {α : Type} (c : Prop) [Decidable c] (x y : α × State) :
    (if c then x else y).2.Inv ↔ if c then x.2.Inv else y.2.Inv := by
  split <;> rfl

/-- A state with its soundness: the step of a fold is judged at one. -/
structure SoundState where
  state : State
  sound : state.Inv

@[simp] theorem SoundState.inv (s : SoundState) : s.state.Inv := s.sound

@[simp] theorem State.foldl_sound {α : Type} (f : State → α → State) (hf : ∀ (s : SoundState) a, (f s.state a).Inv) (l : List α)
    (s : State) : s.Sustains (l.foldl f s) := .of fun h => by
  induction l generalizing s with
  | nil => exact h
  | cons a l ih => exact ih _ (hf ⟨s, h⟩ a)

@[simp] theorem State.foldl_fst_sound {α β : Type} (f : State × β → α → State × β) (hf : ∀ (s : SoundState) b a, (f (s.state, b) a).1.Inv)
    (l : List α) (t : State × β) : t.1.Sustains (l.foldl f t).1 := .of fun h => by
  induction l generalizing t with
  | nil => exact h
  | cons a l ih => exact ih _ (hf ⟨t.1, h⟩ t.2 a)

/-- A command's answer, if it is a state, is a sound one. -/
def Sound (o : Res) : Prop := ∀ t, o = .next t → t.Inv

@[simp] theorem sound_next (t : State) : Sound (.next t) ↔ t.Inv := by simp [Sound]

/-- An answer that is a state is a sound one. -/
def SoundOk (e : Except Nat State) : Prop := ∀ t, e = .ok t → t.Inv

@[simp] theorem soundOk_ok (t : State) : SoundOk (.ok t) ↔ t.Inv := by simp [SoundOk]

@[simp] theorem soundOk_error (e : Nat) : SoundOk (.error e) := by simp [SoundOk]

@[simp] theorem soundOk_ite (c : Prop) [Decidable c] (x y : Except Nat State) :
    SoundOk (if c then x else y) ↔ if c then SoundOk x else SoundOk y := by split <;> rfl

@[simp] theorem soundOk_dite (c : Prop) [Decidable c] (x : c → Except Nat State) (y : ¬ c → Except Nat State) :
    SoundOk (if h : c then x h else y h) ↔ if h : c then SoundOk (x h) else SoundOk (y h) := by split <;> rfl

/-! #### Machine/Ops -/

@[simp] theorem State.takeFree_inv (s : State) : s.takeFree.2.Inv ↔ s.Inv := State.inv_congr rfl rfl rfl

@[simp] theorem State.mirror_sound (s : State) (r) : s.Sustains (s.mirror r) := .of fun hs => by simp [State.mirror, hs]

@[simp] theorem State.mirrorUpTo_inv (s : State) (n) : (s.mirrorUpTo n).Inv ↔ s.Inv := State.inv_congr rfl rfl rfl

@[simp] theorem State.send_inv (s : State) (o) : (s.send o).Inv ↔ s.Inv := State.inv_congr rfl rfl rfl

@[simp] theorem State.updPack_inv (s : State) (p f) : (s.updPack p f).Inv ↔ s.Inv := State.inv_congr rfl rfl rfl

@[simp] theorem State.updArm_inv (s : State) (p a f) : (s.updArm p a f).Inv ↔ s.Inv := State.inv_congr rfl rfl rfl

@[simp] theorem State.updLane_inv (s : State) (p a h f) : (s.updLane p a h f).Inv ↔ s.Inv := State.inv_congr rfl rfl rfl

@[simp] theorem State.updServo_inv (s : State) (p a f) : (s.updServo p a f).Inv ↔ s.Inv := State.inv_congr rfl rfl rfl

@[simp] theorem State.updTile_inv (s : State) (t f) : (s.updTile t f).Inv ↔ s.Inv := State.inv_congr rfl rfl rfl

@[simp] theorem State.setParam_sound (s : State) (idx sub v) : s.Sustains (s.setParam idx sub v) :=
  .of fun hs => ⟨(State.wf_of_same s (s.setParam idx sub v) rfl rfl).trans hs.memory, putVal_wf _ _ _ _ hs.dictionary⟩

@[simp] theorem State.gatesOff_inv (s : State) : s.gatesOff.Inv ↔ s.Inv := State.inv_congr rfl rfl rfl

@[simp] theorem State.updDomain_inv (s : State) (d f) : (s.updDomain d f).Inv ↔ s.Inv := State.inv_congr rfl rfl rfl

/-! #### Machine/BufferOps -/

@[simp] theorem State.updMem_inv (s : State) (n f) : (s.updMem n f).Inv ↔ s.Inv := by
  unfold State.updMem
  split
  · exact State.inv_congr rfl rfl rfl
  · rfl

@[simp] theorem State.updBuf_inv (s : State) (f) (hf : ∀ b, (f b).words = b.words) : (s.updBuf f).Inv ↔ s.Inv :=
  State.inv_congr rfl (hf s.buf) rfl

@[simp] theorem State.storeWord_sound (s : State) (g data check) : s.Sustains (s.storeWord g data check) :=
  .of fun hs => ⟨State.storeWord_wf _ _ _ _ hs.memory, hs.dictionary⟩

@[simp] theorem State.failChannel_sound (s : State) (ch) : s.Sustains (s.failChannel ch).1 := .of fun hs => by simp [State.failChannel, hs]

@[simp] theorem State.logError_sound (s : State) (g kind) : s.Sustains (s.logError g kind) := .of fun hs => by simp [State.logError, hs]

@[simp] theorem State.memRead_sound (s : State) (g x) : s.Sustains (s.memRead g x).2.1 := .of fun hs => by
  unfold State.memRead
  rcases s.granPlace g with ⟨ch, n, k⟩
  dsimp only
  repeat' split
  all_goals simp [hs]

@[simp] theorem State.memPut_sound (s : State) (g data check) : s.Sustains (s.memPut g data check) := .of fun hs => by
  unfold State.memPut
  repeat' split
  all_goals simp [hs]

@[simp] theorem State.memWrite_sound (s : State) (g data) : s.Sustains (s.memWrite g data) := .of fun hs => by simp [State.memWrite, hs]

@[simp] theorem State.memPoison_sound (s : State) (g data) : s.Sustains (s.memPoison g data) := .of fun hs => by simp [State.memPoison, hs]

@[simp] theorem State.updLine_inv (s : State) (l f) : (s.updLine l f).Inv ↔ s.Inv := State.inv_congr rfl rfl rfl

@[simp] theorem State.dropLine_inv (s : State) (l) : (s.dropLine l).Inv ↔ s.Inv := State.inv_congr rfl rfl rfl

@[simp] theorem State.countBack_inv (s : State) : s.countBack.Inv ↔ s.Inv := State.inv_congr rfl rfl rfl

@[simp] theorem State.writeBack_sound (s : State) (x) : s.Sustains (s.writeBack x) := .of fun hs => by simp [State.writeBack, hs]

theorem State.victim_sound {s : State} {set mask x} (h : s.victim set mask = some x) (hs : s.Inv) : x.2.Inv := by
  unfold State.victim at h
  dsimp only at h
  split at h
  · obtain rfl := Option.some.inj h
    exact hs
  · split at h
    · cases h
    · obtain ⟨w, -, rfl⟩ := Option.map_eq_some_iff.mp h
      simp [hs]

theorem State.allocate_sound {s : State} {l mask age t} (h : s.allocate l mask age = some t) (hs : s.Inv) : t.Inv := by
  unfold State.allocate at h
  split at h
  · cases h
  next hv =>
    cases h
    have := State.victim_sound hv hs
    split <;> simp_all

@[simp] theorem State.countHit_inv (s : State) : s.countHit.Inv ↔ s.Inv := State.inv_congr rfl rfl rfl

@[simp] theorem State.countMiss_inv (s : State) : s.countMiss.Inv ↔ s.Inv := State.inv_congr rfl rfl rfl

@[simp] theorem State.countBypass_inv (s : State) : s.countBypass.Inv ↔ s.Inv := State.inv_congr rfl rfl rfl

@[simp] theorem State.sramError_sound (s : State) (g e) : s.Sustains (s.sramError g e).1 := .of fun hs => by
  unfold State.sramError
  dsimp only
  repeat' split
  all_goals simp [hs]

@[simp] theorem State.cacheRead_sound (s : State) (r own g x e) : s.Sustains (s.cacheRead r own g x e).2.1 := .of fun hs => by
  unfold State.cacheRead
  dsimp only
  repeat' split
  all_goals simp [hs]
  next h => exact State.allocate_sound h (by simp [hs])

@[simp] theorem State.granRead_sound (s : State) (r own g x e) : s.Sustains (s.granRead r own g x e).2.1 := .of fun hs => by
  simp [State.granRead, hs]

@[simp] theorem State.granWrite_sound (s : State) (r own g data e) : s.Sustains (s.granWrite r own g data e).1 := .of fun hs => by
  unfold State.granWrite
  dsimp only
  repeat' split
  all_goals simp [hs]
  next h => exact State.allocate_sound h (by simp [hs])

@[simp] theorem State.mergePut_sound (s : State) (g data) : s.Sustains (s.mergePut g data) := .of fun hs => by
  unfold State.mergePut; split <;> simp [hs]

@[simp] theorem State.gransRead_sound (s : State) (r own x e l) : s.Sustains (s.gransRead r own x e l).2.1 := .of fun hs => by
  induction l generalizing s e with
  | nil => exact hs
  | cons g l ih =>
    unfold State.gransRead
    dsimp only
    split <;> simp [ih, hs]

@[simp] theorem State.bufRead_sound (s : State) (r own addr len x e) : s.Sustains (s.bufRead r own addr len x e).2.1 := .of fun hs => by
  unfold State.bufRead
  split <;> simp [hs]

@[simp] theorem State.gransWrite_sound (s : State) (r own e g l n) : s.Sustains (s.gransWrite r own e g l n).1 := .of fun hs => by
  induction n generalizing s e g l with
  | zero => exact hs
  | succ n ih => simp [State.gransWrite, ih, hs]

@[simp] theorem State.bufWrite_sound (s : State) (r own addr l e) : s.Sustains (s.bufWrite r own addr l e).1 := .of fun hs => by
  simp [State.bufWrite, hs]

/-! #### Machine/HostWire -/

@[simp] theorem State.sendOn_sound (s : State) (w m) : s.Sustains (s.sendOn w m) := .of fun hs => by simp [State.sendOn, hs]

@[simp] theorem State.resumeHost_sound (s : State) : s.Sustains s.resumeHost := .of fun hs => by simp [State.resumeHost, hs]

@[simp] theorem State.updHost_inv (s : State) (f) : (s.updHost f).Inv ↔ s.Inv := State.inv_congr rfl rfl rfl

@[simp] theorem State.updConn_inv (s : State) (n f) : (s.updConn n f).Inv ↔ s.Inv := State.inv_congr rfl rfl rfl

@[simp] theorem State.sendHost_sound (s : State) (m) : s.Sustains (s.sendHost m) := .of fun hs => by
  unfold State.sendHost; split <;> simp [hs]

@[simp] theorem State.sendCm_sound (s : State) (q sub peer kind conn l) : s.Sustains (s.sendCm q sub peer kind conn l) := .of fun hs => by
  simp [State.sendCm, hs]

/-! #### Machine/BlockResets -/

/-- The words of other channels stay (R403). -/
@[simp] theorem State.reinitChannel_sound (s : State) (c) : s.Sustains (s.reinitChannel c) := .of fun hs => by
  unfold State.reinitChannel
  rw [State.updMem_inv]
  exact ⟨State.wf_of_filter s _ (fun w => !decide ((s.granPlace w.gran).1 = c.val)) rfl rfl hs.memory, hs.dictionary⟩

@[simp] theorem State.resetPort_sound (s : State) (q) : s.Sustains (s.resetPort q) := .of fun hs => by simp [State.resetPort, hs]

/-! #### Machine/Contexts -/

@[simp] theorem State.updCtx_inv (s : State) (q c f) : (s.updCtx q c f).Inv ↔ s.Inv := State.inv_congr rfl rfl rfl

@[simp] theorem State.updSvc_inv (s : State) (f) : (s.updSvc f).Inv ↔ s.Inv := State.inv_congr rfl rfl rfl

@[simp] theorem State.toAbort_inv (s : State) (q c) : (s.toAbort q c).Inv ↔ s.Inv := State.inv_congr rfl rfl rfl

@[simp] theorem State.waitChecks_sound (s : State) : s.Sustains s.waitChecks := .of fun hs => by simp [State.waitChecks, hs]

/-! #### Machine/Recorder -/

@[simp] theorem State.updRecorder_inv (s : State) (f) : (s.updRecorder f).Inv ↔ s.Inv := State.inv_congr rfl rfl rfl

@[simp] theorem State.queueForPack_sound (s : State) (r) : s.Sustains (s.queueForPack r) := .of fun hs => by simp [State.queueForPack, hs]

@[simp] theorem State.numberRecord_sound (s : State) (r) : s.Sustains (s.numberRecord r) := .of fun hs => by simp [State.numberRecord, hs]

@[simp] theorem State.stageRecord_sound (s : State) (r) : s.Sustains (s.stageRecord r) := .of fun hs => by simp [State.stageRecord, hs]

@[simp] theorem State.formRecord_sound (s : State) (t) : s.Sustains (s.formRecord t) := .of fun hs => by simp [State.formRecord, hs]

@[simp] theorem State.storeOrdinary_inv (s : State) (r) : (s.storeOrdinary r).Inv ↔ s.Inv := State.inv_congr rfl rfl rfl

@[simp] theorem State.storePinned_sound (s : State) (r) : s.Sustains (s.storePinned r) := .of fun hs => by simp [State.storePinned, hs]

@[simp] theorem State.formFatal_sound (s : State) (t) : s.Sustains (s.formFatal t) := .of fun hs => by simp [State.formFatal, hs]

@[simp] theorem State.mergeRecord_sound (s : State) : s.Sustains s.mergeRecord := .of fun hs => by
  unfold State.mergeRecord; split <;> simp [hs]

@[simp] theorem State.record_sound (s : State) (t) : s.Sustains (s.record t) := .of fun hs => by simp [State.record, hs]

@[simp] theorem State.storeStaged_sound (s : State) (g) : s.Sustains (s.storeStaged g) := .of fun hs => by simp [State.storeStaged, hs]

@[simp] theorem State.flushStaging_sound (s : State) (keep) : s.Sustains (s.flushStaging keep) := .of fun hs => by
  simp [State.flushStaging, hs]

@[simp] theorem State.flushAll_sound (s : State) : s.Sustains s.flushAll := .of fun hs => by simp [State.flushAll, hs]

/-! #### Machine/Faults -/

@[simp] theorem State.updSource_sound (s : State) (k f) : s.Sustains (s.updSource k f) := .of fun hs => by simp [State.updSource, hs]

@[simp] theorem State.emcy_sound (s : State) (code src) : s.Sustains (s.emcy code src) := .of fun hs => by simp [State.emcy, hs]

@[simp] theorem State.pushHistory_inv (s : State) (code) : (s.pushHistory code).Inv ↔ s.Inv := State.inv_congr rfl rfl rfl

@[simp] theorem State.recordAgain_sound (s : State) (k lane subject flags) : s.Sustains (s.recordAgain k lane subject flags) :=
  .of fun hs => by
  simp [State.recordAgain, hs]

@[simp] theorem State.recordFirst_sound (s : State) (k lane subject flags) : s.Sustains (s.recordFirst k lane subject flags) :=
  .of fun hs => by
  simp [State.recordFirst, hs]

@[simp] theorem State.updCluster_inv (s : State) (c f) : (s.updCluster c f).Inv ↔ s.Inv := State.inv_congr rfl rfl rfl

@[simp] theorem State.deliver_sound (s : State) (q) : s.Sustains (s.deliver q) := .of fun hs => by
  unfold State.deliver
  repeat' split
  all_goals simp [hs]

@[simp] theorem State.leaveFaults_sound (s : State) (l why) : s.Sustains (s.leaveFaults l why) := .of fun hs => by
  simp [State.leaveFaults, hs]

@[simp] theorem State.setSticky_sound (s : State) (k) : s.Sustains (s.setSticky k) := .of fun hs => by simp [State.setSticky, hs]

@[simp] theorem State.notePins_inv (s : State) : s.notePins.Inv ↔ s.Inv := State.inv_congr rfl rfl rfl

@[simp] theorem State.beginFailOver_sound (s : State) (cause swap) : s.Sustains (s.beginFailOver cause swap) := .of fun hs => by
  unfold State.beginFailOver
  split <;> simp [hs]

@[simp] theorem State.resetCluster_sound (s : State) (c) : s.Sustains (s.resetCluster c) := .of fun hs => by simp [State.resetCluster, hs]

@[simp] theorem State.resetClusterBlock_sound (s : State) (c) : s.Sustains (s.resetClusterBlock c) := .of fun hs => by
  unfold State.resetClusterBlock
  repeat' split
  all_goals simp [hs]

@[simp] theorem State.requestReset_sound (s : State) (k) : s.Sustains (s.requestReset k) := .of fun hs => by simp [State.requestReset, hs]

@[simp] theorem State.react_sound (s : State) (k) : s.Sustains (s.react k) := .of fun hs => by unfold State.react; split <;> simp [hs]

@[simp] theorem State.raiseWith_sound (s : State) (k lane subject flags) : s.Sustains (s.raiseWith k lane subject flags) := .of fun hs => by
  simp [State.raiseWith, hs]

@[simp] theorem State.raise_sound (s : State) (k) : s.Sustains (s.raise k) := .of fun hs => by simp [State.raise, hs]

@[simp] theorem State.raisePack_sound (s : State) (p k) : s.Sustains (s.raisePack p k) := .of fun hs => by simp [State.raisePack, hs]

@[simp] theorem State.raiseLane_sound (s : State) (p a h k) : s.Sustains (s.raiseLane p a h k) := .of fun hs => by
  simp [State.raiseLane, hs]

/-! #### Machine/Links -/

@[simp] theorem State.updLink_inv (s : State) (p a f) : (s.updLink p a f).Inv ↔ s.Inv := State.inv_congr rfl rfl rfl

@[simp] theorem State.sendNumbered_sound (s : State) (p a frame) : s.Sustains (s.sendNumbered p a frame) := .of fun hs => by
  simp [State.sendNumbered, hs]

@[simp] theorem State.sendCmd_sound (s : State) (p a opcode mask) : s.Sustains (s.sendCmd p a opcode mask) := .of fun hs => by
  simp [State.sendCmd, hs]

@[simp] theorem State.disarm_sound (s : State) (p a) : s.Sustains (s.disarm p a) := .of fun hs => by simp [State.disarm, hs]

@[simp] theorem State.echo_inv (s : State) (p a n) : (s.echo p a n).Inv ↔ s.Inv := State.inv_congr rfl rfl rfl

/-! #### Machine/LaneOps -/

@[simp] theorem State.updFmt_inv (s : State) (p a f) : (s.updFmt p a f).Inv ↔ s.Inv := State.inv_congr rfl rfl rfl

@[simp] theorem State.updChan_inv (s : State) (p a h f) : (s.updChan p a h f).Inv ↔ s.Inv := State.inv_congr rfl rfl rfl

@[simp] theorem State.updHealth_inv (s : State) (p a h f) : (s.updHealth p a h f).Inv ↔ s.Inv := State.inv_congr rfl rfl rfl

@[simp] theorem State.updMedia_inv (s : State) (p f) : (s.updMedia p f).Inv ↔ s.Inv := State.inv_congr rfl rfl rfl

@[simp] theorem State.forLanes_sound (s : State) (m) (f : State → HeadId → State) (hf : ∀ (s : SoundState) h, (f s.state h).Inv) :
    s.Sustains (s.forLanes m f) := State.foldl_sound f hf _ s

@[simp] theorem State.passPointer_sound (s : State) (p h addr) : s.Sustains (s.passPointer p h addr) := .of fun hs => by
  simp [State.passPointer, hs]

@[simp] theorem State.recordBands_inv (s : State) (p) : (s.recordBands p).Inv ↔ s.Inv := State.inv_congr rfl rfl rfl

@[simp] theorem State.writeDefects_sound (s : State) (p) : s.Sustains (s.writeDefects p) := .of fun hs => by simp [State.writeDefects, hs]

@[simp] theorem State.addDefect_sound (s : State) (p type addr) : s.Sustains (s.addDefect p type addr) := .of fun hs => by
  simp [State.addDefect, hs]

@[simp] theorem State.growDefect_sound (s : State) (p addr) : s.Sustains (s.growDefect p addr) := .of fun hs => by
  simp [State.growDefect, hs]

@[simp] theorem State.setQuality_sound (s : State) (p a h q) : s.Sustains (s.setQuality p a h q) := .of fun hs => by
  simp [State.setQuality, hs]

@[simp] theorem State.assessLane_sound (s : State) (p a h) : s.Sustains (s.assessLane p a h) := .of fun hs => by simp [State.assessLane, hs]

@[simp] theorem State.hubGets_inv (s : State) (p a o) : (s.hubGets p a o).Inv ↔ s.Inv := State.inv_congr rfl rfl rfl

@[simp] theorem State.toHub_sound (s : State) (p a o) : s.Sustains (s.toHub p a o) := .of fun hs => by simp [State.toHub, hs]

@[simp] theorem State.releaseTiles_sound (s : State) : s.Sustains s.releaseTiles := .of fun hs => by simp [State.releaseTiles, hs]

@[simp] theorem State.deliverEnd_sound (s : State) (p a h e) : s.Sustains (s.deliverEnd p a h e) := .of fun hs => by
  simp [State.deliverEnd, hs]

@[simp] theorem State.deliverAll_sound (s : State) (p a h) : s.Sustains (s.deliverAll p a h) := .of fun hs => by simp [State.deliverAll, hs]

@[simp] theorem State.saveSuspects_inv (s : State) (p) : (s.saveSuspects p).Inv ↔ s.Inv := State.inv_congr rfl rfl rfl

@[simp] theorem State.noteWritten_sound (s : State) (p addr) : s.Sustains (s.noteWritten p addr) := .of fun hs => by
  simp [State.noteWritten, hs]

@[simp] theorem State.drive_sound (s : State) (p a h cut) : s.Sustains (s.drive p a h cut) := .of fun hs => by
  unfold State.drive
  dsimp only
  repeat' split
  all_goals simp [hs]

@[simp] theorem State.closeWrite_sound (s0 : State) (p a h torn) : s0.Sustains (s0.closeWrite p a h torn) := .of fun hs => by
  unfold State.closeWrite
  split <;> simp [hs]

@[simp] theorem State.armTurn_sound (s : State) (p a) : s.Sustains (s.armTurn p a) := .of fun hs => by simp [State.armTurn, hs]

@[simp] theorem State.afterGates_sound (s : State) (p a) : s.Sustains (s.afterGates p a) := .of fun hs => by simp [State.afterGates, hs]

@[simp] theorem State.barWrites_sound (s : State) (p a m) : s.Sustains (s.barWrites p a m) := .of fun hs => by simp [State.barWrites, hs]

@[simp] theorem State.idleWrites_sound (s : State) (p a) : s.Sustains (s.idleWrites p a) := .of fun hs => by simp [State.idleWrites, hs]

/-! #### Machine/SpanWatch -/

@[simp] theorem State.setDevState_sound (s : State) (d form cause) : s.Sustains (s.setDevState d form cause) := .of fun hs => by
  simp [State.setDevState, hs]

@[simp] theorem State.updSpan_inv (s : State) (x f) : (s.updSpan x f).Inv ↔ s.Inv := State.inv_congr rfl rfl rfl

@[simp] theorem State.updStore_inv (s : State) (f) : (s.updStore f).Inv ↔ s.Inv := State.inv_congr rfl rfl rfl

@[simp] theorem State.noteJournal_inv (s : State) : s.noteJournal.Inv ↔ s.Inv := State.inv_congr rfl rfl rfl

@[simp] theorem State.replay_inv (s : State) : s.replay.Inv ↔ s.Inv := State.inv_congr rfl rfl rfl

@[simp] theorem State.tryOpen_sound (s : State) : s.Sustains s.tryOpen := .of fun hs => by simp [State.tryOpen, hs]

@[simp] theorem State.noteSpans_sound (s : State) : s.Sustains s.noteSpans := .of fun hs => by simp [State.noteSpans, hs]

/-! #### Machine/ServoOps -/

@[simp] theorem State.writeLife_sound (s : State) (p readBack) : s.Sustains (s.writeLife p readBack) := .of fun hs => by
  simp [State.writeLife, hs]

@[simp] theorem State.saveLife_sound (s : State) (p) : s.Sustains (s.saveLife p) := .of fun hs => by simp [State.saveLife, hs]

@[simp] theorem State.packWarning_sound (s : State) (p code) : s.Sustains (s.packWarning p code) := .of fun hs => by
  simp [State.packWarning, hs]

@[simp] theorem State.updTb_inv (s : State) (p f) : (s.updTb p f).Inv ↔ s.Inv := State.inv_congr rfl rfl rfl

@[simp] theorem State.tbArmsDown_sound (s : State) (p) : s.Sustains (s.tbArmsDown p) := .of fun hs => by
  unfold State.tbArmsDown
  repeat' split
  all_goals simp [hs]

@[simp] theorem State.inhibitArm_sound (s : State) (p a cut) : s.Sustains (s.inhibitArm p a cut) := .of fun hs => by
  simp [State.inhibitArm, hs]

@[simp] theorem State.parkServo_sound (s : State) (p a cut) : s.Sustains (s.parkServo p a cut) := .of fun hs => by
  simp [State.parkServo, hs]

@[simp] theorem State.armDown_sound (s : State) (p a m) : s.Sustains (s.armDown p a m) := .of fun hs => by simp [State.armDown, hs]

@[simp] theorem State.loadServo_inv (s : State) (p a k) : (s.loadServo p a k).Inv ↔ s.Inv := State.inv_congr rfl rfl rfl

@[simp] theorem State.galeServo_sound (s : State) (p a outs miscompare) : s.Sustains (s.galeServo p a outs miscompare) := .of fun hs => by
  simp [State.galeServo, hs]

/-! #### Machine/Routines -/

@[simp] theorem State.applyArrays_inv (s : State) (p a) : (s.applyArrays p a).Inv ↔ s.Inv := State.inv_congr rfl rfl rfl

@[simp] theorem State.trimActive_sound (s : State) (p a) : s.Sustains (s.trimActive p a) := .of fun hs => by simp [State.trimActive, hs]

@[simp] theorem State.dropReads_inv (s : State) (p a) : (s.dropReads p a).Inv ↔ s.Inv := State.inv_congr rfl rfl rfl

@[simp] theorem State.abandonRoutine_sound (s : State) (p a counted) : s.Sustains (s.abandonRoutine p a counted) := .of fun hs => by
  simp [State.abandonRoutine, hs]

@[simp] theorem State.giveBack_sound (s : State) (p b h e) : s.Sustains (s.giveBack p b h e) := .of fun hs => by simp [State.giveBack, hs]

@[simp] theorem State.stopWith_sound (s : State) (p a h e) : s.Sustains (s.stopWith p a h e) := .of fun hs => by simp [State.stopWith, hs]

@[simp] theorem State.stopSector_sound (s : State) (p a h addr outcome verify) :
    s.Sustains (s.stopSector p a h addr outcome verify) := .of fun hs => by
  simp [State.stopSector, hs]

@[simp] theorem State.stopSix_sound (s : State) (p a outcome x) : s.Sustains (s.stopSix p a outcome x) := .of fun hs => by
  unfold State.stopSix
  dsimp only
  repeat' split
  all_goals simp [hs]

@[simp] theorem State.dropSixes_sound (s : State) (p a m) : s.Sustains (s.dropSixes p a m) := .of fun hs => by simp [State.dropSixes, hs]

@[simp] theorem State.stopLane_sound (s : State) (p a h outcome) : s.Sustains (s.stopLane p a h outcome) := .of fun hs => by
  simp [State.stopLane, hs]

@[simp] theorem State.stopSectors_sound (s : State) (p a outcome) : s.Sustains (s.stopSectors p a outcome) := .of fun hs => by
  simp [State.stopSectors, hs]

@[simp] theorem State.cancelWrites_sound (s : State) (p a ends h) : s.Sustains (s.cancelWrites p a ends h) := .of fun hs => by
  unfold State.cancelWrites
  split <;> simp [hs]

@[simp] theorem State.settleRoutine_sound (s : State) (p a outcome) : s.Sustains (s.settleRoutine p a outcome) := .of fun hs => by
  unfold State.settleRoutine
  dsimp only
  repeat' split
  all_goals simp [hs]

@[simp] theorem State.chargeBack_sound (s : State) (p a) : s.Sustains (s.chargeBack p a) := .of fun hs => by
  unfold State.chargeBack
  dsimp only
  repeat' split
  all_goals simp [hs]

@[simp] theorem State.closeRoutine_sound (s : State) (p a left result) : s.Sustains (s.closeRoutine p a left result) := .of fun hs => by
  simp [State.closeRoutine, hs]

@[simp] theorem State.endRoutine_sound (s : State) (p a outcome) : s.Sustains (s.endRoutine p a outcome) := .of fun hs => by
  simp [State.endRoutine, hs]

@[simp] theorem State.refuseRequest_sound (s : State) (p a req outcome) : s.Sustains (s.refuseRequest p a req outcome) := .of fun hs => by
  simp [State.refuseRequest, hs]

@[simp] theorem State.formatterFault_sound (s : State) (p a) : s.Sustains (s.formatterFault p a) := .of fun hs => by
  simp [State.formatterFault, hs]

@[simp] theorem State.parkArmBy_sound (s : State) (p a cut) : s.Sustains (s.parkArmBy p a cut) := .of fun hs => by
  simp [State.parkArmBy, hs]

@[simp] theorem State.parkArm_sound (s : State) (p a) : s.Sustains (s.parkArm p a) := .of fun hs => by simp [State.parkArm, hs]

@[simp] theorem State.parkPack_sound (s : State) (p) : s.Sustains (s.parkPack p) := .of fun hs => by simp [State.parkPack, hs]

@[simp] theorem State.parkAll_sound (s : State) : s.Sustains s.parkAll := .of fun hs => by simp [State.parkAll, hs]

@[simp] theorem State.galeArm_sound (s : State) (p a outs miscompare) : s.Sustains (s.galeArm p a outs miscompare) := .of fun hs => by
  simp [State.galeArm, hs]

@[simp] theorem State.galePack_sound (s : State) (p outs miscompare) : s.Sustains (s.galePack p outs miscompare) := .of fun hs => by
  simp [State.galePack, hs]

@[simp] theorem State.loseLink_sound (s : State) (p a) : s.Sustains (s.loseLink p a) := .of fun hs => by simp [State.loseLink, hs]

/-! #### Machine/PackOps -/

@[simp] theorem State.updSpin_inv (s : State) (p f) : (s.updSpin p f).Inv ↔ s.Inv := State.inv_congr rfl rfl rfl

@[simp] theorem State.updBus_inv (s : State) (x f) : (s.updBus x f).Inv ↔ s.Inv := State.inv_congr rfl rfl rfl

@[simp] theorem State.setPackState_sound (s : State) (p n) : s.Sustains (s.setPackState p n) := .of fun hs => by
  simp [State.setPackState, hs]

@[simp] theorem State.grantSpin_sound (s : State) (p) : s.Sustains (s.grantSpin p) := .of fun hs => by simp [State.grantSpin, hs]

@[simp] theorem State.passOver_sound (s : State) (l) : s.Sustains (s.passOver l) := .of fun hs => by
  induction l generalizing s with
  | nil => exact hs
  | cons p l ih => unfold State.passOver; simp [ih, hs]

@[simp] theorem State.admissionPass_sound (s : State) : s.Sustains s.admissionPass := .of fun hs => by simp [State.admissionPass, hs]

@[simp] theorem State.releaseSpin_inv (s : State) (p) : (s.releaseSpin p).Inv ↔ s.Inv := State.inv_congr rfl rfl rfl

@[simp] theorem State.packToVerified_sound (s : State) (p) : s.Sustains (s.packToVerified p) := .of fun hs => by
  simp [State.packToVerified, hs]

@[simp] theorem State.packFail_sound (s : State) (p cause) : s.Sustains (s.packFail p cause) := .of fun hs => by simp [State.packFail, hs]

@[simp] theorem State.checkOut_sound (s : State) (p) : s.Sustains (s.checkOut p) := .of fun hs => by simp [State.checkOut, hs]

@[simp] theorem State.checkLoaded_sound (s : State) (p) : s.Sustains (s.checkLoaded p) := .of fun hs => by simp [State.checkLoaded, hs]

@[simp] theorem State.removeLane_sound (s : State) (p a h) : s.Sustains (s.removeLane p a h) := .of fun hs => by simp [State.removeLane, hs]

@[simp] theorem State.countLoadFailure_sound (s : State) (p a) : s.Sustains (s.countLoadFailure p a) := .of fun hs => by
  simp [State.countLoadFailure, hs]

@[simp] theorem State.sendElement_sound (s : State) (p a v) : s.Sustains (s.sendElement p a v) := .of fun hs => by
  simp [State.sendElement, hs]

@[simp] theorem State.wakePreamp_sound (s : State) (p a) : s.Sustains (s.wakePreamp p a) := .of fun hs => by simp [State.wakePreamp, hs]

@[simp] theorem State.loadArm_sound (s : State) (p a) : s.Sustains (s.loadArm p a) := .of fun hs => by
  unfold State.loadArm
  repeat' split
  all_goals simp [hs]

@[simp] theorem State.routineMechanics_sound (s : State) (p a) : s.Sustains (s.routineMechanics p a) := .of fun hs => by
  simp [State.routineMechanics, hs]

@[simp] theorem State.idlePoint_sound (s : State) (p a) : s.Sustains (s.idlePoint p a) := .of fun hs => by simp [State.idlePoint, hs]

@[simp] theorem State.startRequest_sound (s : State) (p a r rest held back) : s.Sustains (s.startRequest p a r rest held back) :=
  .of fun hs => by
  simp [State.startRequest, hs]

@[simp] theorem State.startBack_sound (s : State) (p a b) : s.Sustains (s.startBack p a b) := .of fun hs => by simp [State.startBack, hs]

@[simp] theorem State.kick_sound (s : State) (p a) : s.Sustains (s.kick p a) := .of fun hs => by
  unfold State.kick
  dsimp only
  repeat' split
  all_goals simp [hs]

@[simp] theorem State.kickPack_sound (s : State) (p) : s.Sustains (s.kickPack p) := .of fun hs => by simp [State.kickPack, hs]

@[simp] theorem State.kickAll_sound (s : State) : s.Sustains s.kickAll := .of fun hs => by simp [State.kickAll, hs]

@[simp] theorem State.microFault_sound (s : State) (p a) : s.Sustains (s.microFault p a) := .of fun hs => by simp [State.microFault, hs]

@[simp] theorem State.miscompare_sound (s : State) (t) : s.Sustains (s.miscompare t) := .of fun hs => by simp [State.miscompare, hs]

@[simp] theorem State.compared_sound (s : State) (t same) (f : State → State) (hf : ∀ s : SoundState, (f s.state).Inv) :
    s.Sustains (s.compared t same f) := .of fun hs => by
  unfold State.compared
  split
  · exact hf ⟨s, hs⟩
  · simp [hs]

@[simp] theorem State.retirePack_sound (s : State) (p) : s.Sustains (s.retirePack p) := .of fun hs => by simp [State.retirePack, hs]

@[simp] theorem State.noteEmpty_sound (s : State) : s.Sustains s.noteEmpty := .of fun hs => by simp [State.noteEmpty, hs]

/-! #### Machine/RingOps -/

@[simp] theorem State.updRing_inv (s : State) (n f) : (s.updRing n f).Inv ↔ s.Inv := State.inv_congr rfl rfl rfl

@[simp] theorem State.updPort_inv (s : State) (q f) : (s.updPort q f).Inv ↔ s.Inv := State.inv_congr rfl rfl rfl

@[simp] theorem State.updCmd_inv (s : State) (ring slot f) : (s.updCmd ring slot f).Inv ↔ s.Inv := State.inv_congr rfl rfl rfl

@[simp] theorem State.hostOut_sound (s : State) (o mirrored) : s.Sustains (s.hostOut o mirrored) := .of fun hs => by
  simp [State.hostOut, hs]

@[simp] theorem State.sendHead_sound (s : State) (r) : s.Sustains (s.sendHead r) := .of fun hs => by simp [State.sendHead, hs]

@[simp] theorem State.mirrorRing_sound (s : State) (n) : s.Sustains (s.mirrorRing n) := .of fun hs => by
  unfold State.mirrorRing; split <;> simp [hs]

@[simp] theorem State.publish_sound (s : State) (n) : s.Sustains (s.publish n) := .of fun hs => by unfold State.publish; split <;> simp [hs]

@[simp] theorem State.dropLocks_inv (s : State) (ring slot) : (s.dropLocks ring slot).Inv ↔ s.Inv := State.inv_congr rfl rfl rfl

@[simp] theorem State.endReads_inv (s : State) (ring slot) : (s.endReads ring slot).Inv ↔ s.Inv := State.inv_congr rfl rfl rfl

@[simp] theorem State.countStatus_inv (s : State) (status) : (s.countStatus status).Inv ↔ s.Inv := State.inv_congr rfl rfl rfl

@[simp] theorem State.completeWith_sound (s : State) (ring slot status size value) :
    s.Sustains (s.completeWith ring slot status size value) :=
  .of fun hs => by
  unfold State.completeWith
  dsimp only
  repeat' split
  all_goals simp [hs]

@[simp] theorem State.completeCommand_sound (s : State) (ring slot status) : s.Sustains (s.completeCommand ring slot status) :=
  .of fun hs => by
  simp [State.completeCommand, hs]

@[simp] theorem State.abortRing_sound (s : State) (n) : s.Sustains (s.abortRing n) := .of fun hs => by simp [State.abortRing, hs]

@[simp] theorem State.dropFraming_sound (s : State) (n) : s.Sustains (s.dropFraming n) := .of fun hs => by
  unfold State.dropFraming
  repeat' split
  all_goals simp [hs]

@[simp] theorem State.faultFraming_sound (s : State) (q) : s.Sustains (s.faultFraming q) := .of fun hs => by simp [State.faultFraming, hs]

@[simp] theorem State.ringFatal_sound (s : State) (n cause) : s.Sustains (s.ringFatal n cause) := .of fun hs => by
  unfold State.ringFatal
  split <;> simp [hs]

@[simp] theorem State.dropCommands_inv (s : State) (rings) : (s.dropCommands rings).Inv ↔ s.Inv := State.inv_congr rfl rfl rfl

@[simp] theorem State.freeLock_sound (s : State) (code) : s.Sustains (s.freeLock code) := .of fun hs => by simp [State.freeLock, hs]

@[simp] theorem State.stopMovers_inv (s : State) (conn status) : (s.stopMovers conn status).Inv ↔ s.Inv := State.inv_congr rfl rfl rfl

@[simp] theorem State.endConn_sound (s : State) (n cause) : s.Sustains (s.endConn n cause) := .of fun hs => by
  unfold State.endConn; split <;> simp [hs]

@[simp] theorem State.endAllConns_sound (s : State) (cause) : s.Sustains (s.endAllConns cause) := .of fun hs => by
  simp [State.endAllConns, hs]

/-! #### Machine/Micro -/

@[simp] theorem State.setThread_sound (s : State) (e t) : s.Sustains (s.setThread e t) := .of fun hs => by
  unfold State.setThread; split <;> simp [hs]

@[simp] theorem State.serviceFault_sound (s : State) (q) : s.Sustains (s.serviceFault q) := .of fun hs => by simp [State.serviceFault, hs]

@[simp] theorem State.engFault_sound (s : State) (x) : s.Sustains (s.engFault x) := .of fun hs => by
  unfold State.engFault; split <;> simp [hs]

@[simp] theorem State.advance_sound (s : State) (e) : s.Sustains (s.advance e) := .of fun hs => by simp [State.advance, hs]

@[simp] theorem State.noteTurn_inv (s : State) (q c) : (s.noteTurn q c).Inv ↔ s.Inv := State.inv_congr rfl rfl rfl

@[simp] theorem State.countIssue_sound (s : State) (e safe) : s.Sustains (s.countIssue e safe) := .of fun hs => by
  unfold State.countIssue
  split <;> simp [hs]

@[simp] theorem State.fetchErrors_sound (s : State) (e) : s.Sustains (s.fetchErrors e).1 := .of fun hs => by
  unfold State.fetchErrors
  dsimp only
  repeat' split
  all_goals simp [hs]

@[simp] theorem State.issue_sound (s : State) (e opc) (f : Word → State → State) (hf : ∀ (s : SoundState) w, (f w s.state).Inv) :
    s.Sustains (s.issue e opc f) := .of fun hs => by
  have hact : ∀ (s : State) w, s.Inv → (f w s).Inv := fun s w hs => hf ⟨s, hs⟩ w
  unfold State.issue
  dsimp only
  repeat' split
  all_goals simp [hact, hs]

@[simp] theorem State.alu_sound (s : State) (e opc g) : s.Sustains (s.alu e opc g) := .of fun hs => by simp [State.alu, hs]

/-! #### Machine/Sequencers -/

@[simp] theorem execNop_sound (e) {s : State} (hs : s.Inv) : Sound (execNop e s) := by simp [execNop, hs]

@[simp] theorem execAdd_sound (e) {s : State} (hs : s.Inv) : Sound (execAdd e s) := by simp [execAdd, hs]

@[simp] theorem execSub_sound (e) {s : State} (hs : s.Inv) : Sound (execSub e s) := by simp [execSub, hs]

@[simp] theorem execAnd_sound (e) {s : State} (hs : s.Inv) : Sound (execAnd e s) := by simp [execAnd, hs]

@[simp] theorem execOr_sound (e) {s : State} (hs : s.Inv) : Sound (execOr e s) := by simp [execOr, hs]

@[simp] theorem execXor_sound (e) {s : State} (hs : s.Inv) : Sound (execXor e s) := by simp [execXor, hs]

@[simp] theorem execShl_sound (e) {s : State} (hs : s.Inv) : Sound (execShl e s) := by simp [execShl, hs]

@[simp] theorem execShr_sound (e) {s : State} (hs : s.Inv) : Sound (execShr e s) := by simp [execShr, hs]

@[simp] theorem execCmp_sound (e) {s : State} (hs : s.Inv) : Sound (execCmp e s) := by simp [execCmp, hs]

@[simp] theorem execMovi_sound (e) {s : State} (hs : s.Inv) : Sound (execMovi e s) := by simp [execMovi, hs]

@[simp] theorem execMin_sound (e) {s : State} (hs : s.Inv) : Sound (execMin e s) := by simp [execMin, hs]

@[simp] theorem execMax_sound (e) {s : State} (hs : s.Inv) : Sound (execMax e s) := by simp [execMax, hs]

@[simp] theorem State.angleFault_sound (s : State) (e) : s.Sustains (s.angleFault e) := .of fun hs => by
  unfold State.angleFault; split <;> simp [hs]

@[simp] theorem execAdda_sound (e) {s : State} (hs : s.Inv) : Sound (execAdda e s) := by simp [execAdda, hs]

@[simp] theorem execAcmp_sound (e) {s : State} (hs : s.Inv) : Sound (execAcmp e s) := by simp [execAcmp, hs]

@[simp] theorem execNow_sound (e) {s : State} (hs : s.Inv) : Sound (execNow e s) := by unfold execNow; split <;> simp [hs]

@[simp] theorem State.angleWait_sound (s : State) (p a target) : s.Sustains (s.angleWait p a target) := .of fun hs => by
  simp [State.angleWait, hs]

@[simp] theorem execWaita_sound (e) {s : State} (hs : s.Inv) : Sound (execWaita e s) := by unfold execWaita; split <;> simp [hs]

@[simp] theorem execWaitr_sound (e) {s : State} (hs : s.Inv) : Sound (execWaitr e s) := by unfold execWaitr; split <;> simp [hs]

@[simp] theorem execAngleWaitReached_sound (p a) {s : State} (hs : s.Inv) : Sound (execAngleWaitReached p a s) := by
  unfold execAngleWaitReached
  split <;> simp [hs]

@[simp] theorem execLd_sound (e) {s : State} (hs : s.Inv) : Sound (execLd e s) := by
  unfold execLd
  refine (sound_next _).mpr ((State.issue_sound _ _ _ _ fun s w => ?_).inv hs)
  dsimp only
  repeat' split
  all_goals simp

@[simp] theorem execSt_sound (e) {s : State} (hs : s.Inv) : Sound (execSt e s) := by simp [execSt, hs]

@[simp] theorem execJmp_sound (e) {s : State} (hs : s.Inv) : Sound (execJmp e s) := by simp [execJmp, hs]

@[simp] theorem execCall_sound (e) {s : State} (hs : s.Inv) : Sound (execCall e s) := by simp [execCall, hs]

@[simp] theorem execRet_sound (e) {s : State} (hs : s.Inv) : Sound (execRet e s) := by
  unfold execRet
  refine (sound_next _).mpr ((State.issue_sound _ _ _ _ fun s w => ?_).inv hs)
  dsimp only
  split <;> simp

@[simp] theorem execJmpr_sound (e) {s : State} (hs : s.Inv) : Sound (execJmpr e s) := by simp [execJmpr, hs]

@[simp] theorem State.endWait_sound (s : State) (e timeout) : s.Sustains (s.endWait e timeout) := .of fun hs => by
  unfold State.endWait
  split <;> simp [hs]

@[simp] theorem execWaite_sound (e) {s : State} (hs : s.Inv) : Sound (execWaite e s) := by unfold execWaite; split <;> simp [hs]

@[simp] theorem State.leaveWait_sound (s : State) (e timeout) : s.Sustains (s.leaveWait e timeout) := .of fun hs => by
  unfold State.leaveWait
  split <;> simp [hs]

@[simp] theorem execWaiteConditionMet_sound (e) {s : State} (hs : s.Inv) : Sound (execWaiteConditionMet e s) := by
  unfold execWaiteConditionMet
  split <;> simp [hs]

@[simp] theorem execWaiteTimeout_sound (e) {s : State} (hs : s.Inv) : Sound (execWaiteTimeout e s) := by
  unfold execWaiteTimeout
  split <;> simp [hs]

@[simp] theorem State.applySynth_inv (s : State) (p a) : (s.applySynth p a).Inv ↔ s.Inv := State.inv_congr rfl rfl rfl

@[simp] theorem State.takeOrder_sound (s : State) (p a) : s.Sustains (s.takeOrder p a) := .of fun hs => by
  unfold State.takeOrder
  dsimp only
  repeat' split
  all_goals simp [hs]

@[simp] theorem State.seek_sound (s : State) (p a lanes) : s.Sustains (s.seek p a lanes) := .of fun hs => by simp [State.seek, hs]

@[simp] theorem execSeek_sound (e same) {s : State} (hs : s.Inv) : Sound (execSeek e same s) := by unfold execSeek; split <;> simp [hs]

@[simp] theorem execGrp_sound (e) {s : State} (hs : s.Inv) : Sound (execGrp e s) := by unfold execGrp; split <;> simp [hs]

@[simp] theorem State.wantActive_sound (s : State) (p a h) : s.Sustains (s.wantActive p a h) := .of fun hs => by simp [State.wantActive, hs]

@[simp] theorem State.sitOutXfer_sound (s : State) (p a out first count type) :
    s.Sustains (s.sitOutXfer p a out first count type) := .of fun hs => by
  simp [State.sitOutXfer, hs]

@[simp] theorem State.xfer_sound (s : State) (p a set first count type) : s.Sustains (s.xfer p a set first count type) := .of fun hs => by
  unfold State.xfer
  repeat' split
  all_goals simp [hs]

@[simp] theorem execXfer_sound (e) {s : State} (hs : s.Inv) : Sound (execXfer e s) := by unfold execXfer; split <;> simp [hs]

@[simp] theorem execLadder_sound (e) {s : State} (hs : s.Inv) : Sound (execLadder e s) := by unfold execLadder; split <;> simp [hs]

@[simp] theorem execLink_sound (e) {s : State} (hs : s.Inv) : Sound (execLink e s) := by unfold execLink; split <;> simp [hs]

@[simp] theorem execControlStoreScrub_sound (e word) {s : State} (hs : s.Inv) : Sound (execControlStoreScrub e word s) := by
  unfold execControlStoreScrub
  dsimp only
  repeat' split
  all_goals simp [hs]

@[simp] theorem execLockedStoreWrite_sound (e word value) {s : State} (hs : s.Inv) : Sound (execLockedStoreWrite e word value s) := by
  unfold execLockedStoreWrite
  repeat' split
  all_goals simp [hs]

/-! #### Machine/FormatterCmds -/

@[simp] theorem State.enqueue_sound (s : State) (p a req) : s.Sustains (s.enqueue p a req) := .of fun hs => by simp [State.enqueue, hs]

@[simp] theorem State.formatterRequest_sound (s : State) (p a req) : s.Sustains (s.formatterRequest p a req) := .of fun hs => by
  simp [State.formatterRequest, hs]

@[simp] theorem State.releaseRequests_sound (s : State) : s.Sustains s.releaseRequests := .of fun hs => by simp [State.releaseRequests, hs]

@[simp] theorem execFormatterRequest_sound (p a req) {s : State} (hs : s.Inv) : Sound (execFormatterRequest p a req s) := by
  simp [execFormatterRequest, hs]

@[simp] theorem execRoutineRestart_sound (p a) {s : State} (hs : s.Inv) : Sound (execRoutineRestart p a s) := by
  simp [execRoutineRestart, hs]

@[simp] theorem execFormatterCancel_sound (p a) {s : State} (hs : s.Inv) : Sound (execFormatterCancel p a s) := by
  simp [execFormatterCancel, hs]

@[simp] theorem execPerArrayWriteApply_sound (p a) {s : State} (hs : s.Inv) : Sound (execPerArrayWriteApply p a s) := by
  simp [execPerArrayWriteApply, hs]

/-! #### Machine/TimeBases -/

@[simp] theorem State.tbLost_sound (s : State) (p) : s.Sustains (s.tbLost p) := .of fun hs => by simp [State.tbLost, hs]

@[simp] theorem State.tbAcquire_sound (s : State) (p dets) : s.Sustains (s.tbAcquire p dets) := .of fun hs => by
  unfold State.tbAcquire
  dsimp only
  repeat' split
  all_goals simp [hs]

@[simp] theorem State.tbCorrect_inv (s : State) (p) : (s.tbCorrect p).Inv ↔ s.Inv := State.inv_congr rfl rfl rfl

@[simp] theorem State.sumSkews_sound (s : State) (p dets) : s.Sustains (s.sumSkews p dets) := .of fun hs => by simp [State.sumSkews, hs]

@[simp] theorem State.watchDrift_sound (s : State) (p a) : s.Sustains (s.watchDrift p a) := .of fun hs => by simp [State.watchDrift, hs]

@[simp] theorem State.countWedge_sound (s0 : State) (p) : s0.Sustains (s0.countWedge p) := .of fun hs => by simp [State.countWedge, hs]

@[simp] theorem State.startMeasuring_inv (s : State) (p) : (s.startMeasuring p).Inv ↔ s.Inv := State.inv_congr rfl rfl rfl

@[simp] theorem State.startFollowing_inv (s : State) (p a) : (s.startFollowing p a).Inv ↔ s.Inv := State.inv_congr rfl rfl rfl

@[simp] theorem State.followLocked_sound (s : State) (p a) : s.Sustains (s.followLocked p a) := .of fun hs => by
  simp [State.followLocked, hs]

@[simp] theorem State.followPack_sound (s : State) (p) : s.Sustains (s.followPack p) := .of fun hs => by simp [State.followPack, hs]

@[simp] theorem State.tbLocked_sound (s : State) (p) : s.Sustains (s.tbLocked p) := .of fun hs => by simp [State.tbLocked, hs]

@[simp] theorem State.acquireWedge_sound (s : State) (p err) : s.Sustains (s.acquireWedge p err) := .of fun hs => by
  simp [State.acquireWedge, hs]

@[simp] theorem State.endHold_inv (s : State) (p) : (s.endHold p).Inv ↔ s.Inv := State.inv_congr rfl rfl rfl

@[simp] theorem State.lockedWedge_sound (s : State) (p dets err) : s.Sustains (s.lockedWedge p dets err) := .of fun hs => by
  unfold State.lockedWedge
  split <;> simp [hs]

@[simp] theorem State.applyTuning_sound (s : State) (p) : s.Sustains (s.applyTuning p) := .of fun hs => by simp [State.applyTuning, hs]

@[simp] theorem State.atWedge_sound (s : State) (p) : s.Sustains (s.atWedge p) := .of fun hs => by simp [State.atWedge, hs]

@[simp] theorem execWedgePhaseUpdate_sound (p dets) {s0 : State} (hs : s0.Inv) : Sound (execWedgePhaseUpdate p dets s0) := by
  unfold execWedgePhaseUpdate
  dsimp only
  repeat' split
  all_goals simp [hs]

@[simp] theorem execTbCoastLimit_sound (p) {s : State} (hs : s.Inv) : Sound (execTbCoastLimit p s) := by simp [execTbCoastLimit, hs]

@[simp] theorem execTbAcquireTimeout_sound (p) {s : State} (hs : s.Inv) : Sound (execTbAcquireTimeout p s) := by
  simp [execTbAcquireTimeout, hs]

@[simp] theorem State.takeSkews_sound (s : State) (p a) : s.Sustains (s.takeSkews p a) := .of fun hs => by simp [State.takeSkews, hs]

@[simp] theorem execSkewMeasurementDone_sound (p) {s : State} (hs : s.Inv) : Sound (execSkewMeasurementDone p s) := by
  simp [execSkewMeasurementDone, hs]

@[simp] theorem execSkewRemeasureStart_sound (p) {s : State} (hs : s.Inv) : Sound (execSkewRemeasureStart p s) := by
  simp [execSkewRemeasureStart, hs]

@[simp] theorem execArmReload_sound (p a) {s : State} (hs : s.Inv) : Sound (execArmReload p a s) := by simp [execArmReload, hs]

/-! #### Machine/Servo -/

@[simp] theorem State.countStrokes_sound (s : State) (p a h) : s.Sustains (s.countStrokes p a h) := .of fun hs => by
  simp [State.countStrokes, hs]

@[simp] theorem execServoStateCrcCompare_sound (p a crc1) {s : State} (hs : s.Inv) : Sound (execServoStateCrcCompare p a crc1 s) := by
  simp [execServoStateCrcCompare, hs]

@[simp] theorem State.armWedge_sound (s0 : State) (p a) : s0.Sustains (s0.armWedge p a) := .of fun hs => by
  unfold State.armWedge
  dsimp only
  repeat' split
  all_goals simp [hs]

@[simp] theorem execServoDemodResult_sound (p a h d same) {s : State} (hs : s.Inv) : Sound (execServoDemodResult p a h d same s) := by
  simp [execServoDemodResult, hs]

@[simp] theorem execHeadLost_sound (p a h same) {s : State} (hs : s.Inv) : Sound (execHeadLost p a h same s) := by simp [execHeadLost, hs]

@[simp] theorem execHeadReturn_sound (p a h) {s : State} (hs : s.Inv) : Sound (execHeadReturn p a h s) := by simp [execHeadReturn, hs]

@[simp] theorem execLoadTimeEnd_sound (p a) {s : State} (hs : s.Inv) : Sound (execLoadTimeEnd p a s) := by simp [execLoadTimeEnd, hs]

@[simp] theorem execSearchTimeout_sound (p a same) {s : State} (hs : s.Inv) : Sound (execSearchTimeout p a same s) := by
  simp [execSearchTimeout, hs]

@[simp] theorem execSettleTimeout_sound (p a same) {s : State} (hs : s.Inv) : Sound (execSettleTimeout p a same s) := by
  simp [execSettleTimeout, hs]

@[simp] theorem execArmPark_sound (p a same) {s : State} (hs : s.Inv) : Sound (execArmPark p a same s) := by simp [execArmPark, hs]

@[simp] theorem execParkTimeout_sound (p a same) {s : State} (hs : s.Inv) : Sound (execParkTimeout p a same s) := by
  simp [execParkTimeout, hs]

@[simp] theorem execUnloadTimeEnd_sound (p a) {s : State} (hs : s.Inv) : Sound (execUnloadTimeEnd p a s) := by simp [execUnloadTimeEnd, hs]

@[simp] theorem execGaleRetract_sound (p a out miscompare) {s : State} (hs : s.Inv) : Sound (execGaleRetract p a out miscompare s) := by
  simp [execGaleRetract, hs]

@[simp] theorem execGaleTimeEnd_sound (p a) {s : State} (hs : s.Inv) : Sound (execGaleTimeEnd p a s) := by simp [execGaleTimeEnd, hs]

@[simp] theorem execBackEmfVelocityLoop_sound (p a same) {s : State} (hs : s.Inv) : Sound (execBackEmfVelocityLoop p a same s) := by
  simp [execBackEmfVelocityLoop, hs]

@[simp] theorem execVcmCurrentLoop_sound (p a current) {s : State} (hs : s.Inv) : Sound (execVcmCurrentLoop p a current s) := by
  simp [execVcmCurrentLoop, hs]

@[simp] theorem execVcmSetpointWatchdog_sound (p a) {s : State} (hs : s.Inv) : Sound (execVcmSetpointWatchdog p a s) := by
  simp [execVcmSetpointWatchdog, hs]

@[simp] theorem execTilePllUnlock_sound (t) {s : State} (hs : s.Inv) : Sound (execTilePllUnlock t s) := by simp [execTilePllUnlock, hs]

/-! #### Machine/ArmLinks -/

@[simp] theorem State.discardFrame_inv (s : State) (p a) : (s.discardFrame p a).Inv ↔ s.Inv := State.inv_congr rfl rfl rfl

@[simp] theorem State.removeLanes_sound (s : State) (p a mask driver) : s.Sustains (s.removeLanes p a mask driver) := .of fun hs => by
  simp [State.removeLanes, hs]

@[simp] theorem execStatusFrame_sound (p a frame) {s : State} (hs : s.Inv) : Sound (execStatusFrame p a frame s) := by
  simp [execStatusFrame, hs]

@[simp] theorem execRegrespFrame_sound (p a frame) {s : State} (hs : s.Inv) : Sound (execRegrespFrame p a frame s) := by
  unfold execRegrespFrame
  dsimp only
  repeat' split
  all_goals simp [hs]

@[simp] theorem execArmLinkRxTimeout_sound (p a) {s : State} (hs : s.Inv) : Sound (execArmLinkRxTimeout p a s) := by
  simp [execArmLinkRxTimeout, hs]

@[simp] theorem execCmdEchoTimeout_sound (p a) {s : State} (hs : s.Inv) : Sound (execCmdEchoTimeout p a s) := by
  unfold execCmdEchoTimeout
  dsimp only
  repeat' split
  all_goals simp [hs]

@[simp] theorem execArmLinkTrainingDone_sound (p a) {s : State} (hs : s.Inv) : Sound (execArmLinkTrainingDone p a s) := by
  simp [execArmLinkTrainingDone, hs]

@[simp] theorem execArmLinkTrainingTimeout_sound (p a) {s : State} (hs : s.Inv) : Sound (execArmLinkTrainingTimeout p a s) := by
  simp [execArmLinkTrainingTimeout, hs]

@[simp] theorem execD2dKeepaliveSend_sound (t byHub) {s : State} (hs : s.Inv) : Sound (execD2dKeepaliveSend t byHub s) := by
  simp [execD2dKeepaliveSend, hs]

@[simp] theorem State.finishWrites_sound (s : State) (p a) : s.Sustains (s.finishWrites p a) := .of fun hs => by
  simp [State.finishWrites, hs]

@[simp] theorem execD2dLinkLostTile_sound (t) {s : State} (hs : s.Inv) : Sound (execD2dLinkLostTile t s) := by
  simp [execD2dLinkLostTile, hs]

@[simp] theorem State.linkLostHub_sound (s : State) (t) : s.Sustains (s.linkLostHub t) := .of fun hs => by simp [State.linkLostHub, hs]

@[simp] theorem execD2dLinkLostHub_sound (t) {s : State} (hs : s.Inv) : Sound (execD2dLinkLostHub t s) := by simp [execD2dLinkLostHub, hs]

/-! #### Machine/Chains -/

@[simp] theorem State.freeCtx_inv (s : State) (q c) : (s.freeCtx q c).Inv ↔ s.Inv := State.inv_congr rfl rfl rfl

@[simp] theorem State.endCommand_sound (s : State) (q c status size value) : s.Sustains (s.endCommand q c status size value) :=
  .of fun hs => by
  simp [State.endCommand, hs]

@[simp] theorem State.commitCmd_sound (s : State) (ring slot) : s.Sustains (s.commitCmd ring slot) := .of fun hs => by
  simp [State.commitCmd, hs]

@[simp] theorem State.onCommand_sound (s : State) (q c op) (f : Ctx → State) (hf : ∀ x, (f x).Inv) :
    s.Sustains (s.onCommand q c op f) := .of fun hs => by
  unfold State.onCommand
  dsimp only
  repeat' split
  all_goals simp [hf, hs]

@[simp] theorem State.readSlots_sound (s : State) (n) : s.Sustains (s.readSlots n) := .of fun hs => by
  unfold State.readSlots; split <;> simp [hs]

@[simp] theorem State.abtset_sound (s : State) (ring idx) : s.Sustains (s.abtset ring idx).2 := .of fun hs => by
  unfold State.abtset
  repeat' split
  all_goals simp [hs]

/-! #### Machine/Spindles -/

@[simp] theorem State.brakePeriod_inv (s : State) (p sum) : (s.brakePeriod p sum).Inv ↔ s.Inv := State.inv_congr rfl rfl rfl

@[simp] theorem State.drivePeriod_inv (s : State) (p shunt observer angle moved) :
    (s.drivePeriod p shunt observer angle moved).Inv ↔ s.Inv :=
  State.inv_congr rfl rfl rfl

@[simp] theorem execSpindleCurrentLoop_sound (p shunt observer angle moved) {s : State} (hs : s.Inv) :
    Sound (execSpindleCurrentLoop p shunt observer angle moved s) := by
  simp [execSpindleCurrentLoop, hs]

@[simp] theorem State.tbSpeed_sound (s : State) (p) : s.Sustains (s.tbSpeed p) := .of fun hs => by unfold State.tbSpeed; split <;> simp [hs]

@[simp] theorem State.checkRemoval_sound (s : State) (p) : s.Sustains (s.checkRemoval p) := .of fun hs => by simp [State.checkRemoval, hs]

@[simp] theorem State.spinSpeed_sound (s : State) (p) : s.Sustains (s.spinSpeed p) := .of fun hs => by
  unfold State.spinSpeed
  dsimp only
  repeat' split
  all_goals simp [hs]

@[simp] theorem execSpindleSpeedLoop_sound (p observer backward) {s : State} (hs : s.Inv) :
    Sound (execSpindleSpeedLoop p observer backward s) := by
  simp [execSpindleSpeedLoop, hs]

@[simp] theorem execSpeedInWindow_sound (p) {s : State} (hs : s.Inv) : Sound (execSpeedInWindow p s) := by simp [execSpeedInWindow, hs]

@[simp] theorem execSpindleOverspeed_sound (p) {s : State} (hs : s.Inv) : Sound (execSpindleOverspeed p s) := by
  simp [execSpindleOverspeed, hs]

@[simp] theorem execSpindleSpeedDeviation_sound (p) {s : State} (hs : s.Inv) : Sound (execSpindleSpeedDeviation p s) := by
  simp [execSpindleSpeedDeviation, hs]

@[simp] theorem execWatchEnd_sound (p speed backward amplitude angle) {s0 : State} (hs : s0.Inv) :
    Sound (execWatchEnd p speed backward amplitude angle s0) := by
  simp [execWatchEnd, hs]

@[simp] theorem execAlignEnd_sound (p) {s : State} (hs : s.Inv) : Sound (execAlignEnd p s) := by simp [execAlignEnd, hs]

@[simp] theorem execForcedHandover_sound (p) {s : State} (hs : s.Inv) : Sound (execForcedHandover p s) := by simp [execForcedHandover, hs]

@[simp] theorem execStartAttemptFailed_sound (p) {s : State} (hs : s.Inv) : Sound (execStartAttemptFailed p s) := by
  simp [execStartAttemptFailed, hs]

@[simp] theorem execControlledStopBegin_sound (p) {s : State} (hs : s.Inv) : Sound (execControlledStopBegin p s) := by
  unfold execControlledStopBegin
  dsimp only
  repeat' split
  all_goals simp [hs]

@[simp] theorem State.forBus_sound (s : State) (x) (f : State → PackId → State) (hf : ∀ (s : SoundState) p, (f s.state p).Inv) :
    s.Sustains (s.forBus x f) := State.foldl_sound f hf _ s

@[simp] theorem execMotorBusSample_sound (x code feedback) {s : State} (hs : s.Inv) : Sound (execMotorBusSample x code feedback s) := by
  simp [execMotorBusSample, hs]

@[simp] theorem State.chopperFault_sound (s : State) (x) : s.Sustains (s.chopperFault x) := .of fun hs => by simp [State.chopperFault, hs]

@[simp] theorem execChopperFeedbackTimeout_sound (x) {s : State} (hs : s.Inv) : Sound (execChopperFeedbackTimeout x s) := by
  simp [execChopperFeedbackTimeout, hs]

@[simp] theorem execChopperFault_sound (x) {s : State} (hs : s.Inv) : Sound (execChopperFault x s) := by simp [execChopperFault, hs]

@[simp] theorem execBusFreewheel_sound (x) {s : State} (hs : s.Inv) : Sound (execBusFreewheel x s) := by simp [execBusFreewheel, hs]

@[simp] theorem execBusFreewheelRelease_sound (x) {s : State} (hs : s.Inv) : Sound (execBusFreewheelRelease x s) := by
  simp [execBusFreewheelRelease, hs]

@[simp] theorem execBusUndervoltage_sound (x) {s : State} (hs : s.Inv) : Sound (execBusUndervoltage x s) := by
  simp [execBusUndervoltage, hs]

@[simp] theorem execBusUndervoltageEnd_sound (x) {s : State} (hs : s.Inv) : Sound (execBusUndervoltageEnd x s) := by
  simp [execBusUndervoltageEnd, hs]

@[simp] theorem State.powerStage_sound (s : State) (p) : s.Sustains (s.powerStage p) := .of fun hs => by simp [State.powerStage, hs]

@[simp] theorem execPowerStageFault_sound (p) {s : State} (hs : s.Inv) : Sound (execPowerStageFault p s) := by
  simp [execPowerStageFault, hs]

/-! #### Machine/ClusterOps -/

@[simp] theorem State.parkAndStop_sound (s : State) : s.Sustains s.parkAndStop := .of fun hs => by simp [State.parkAndStop, hs]

@[simp] theorem State.pendLee_sound (s : State) (reduced cause) : s.Sustains (s.pendLee reduced cause) := .of fun hs => by
  simp [State.pendLee, hs]

@[simp] theorem State.stopBackground_inv (s : State) : s.stopBackground.Inv ↔ s.Inv := State.inv_congr rfl rfl rfl

@[simp] theorem State.stopDevice_sound (s : State) (cause) : s.Sustains (s.stopDevice cause) := .of fun hs => by simp [State.stopDevice, hs]

@[simp] theorem State.arbiterFail_sound (s : State) (k cause flags) : s.Sustains (s.arbiterFail k cause flags) := .of fun hs => by
  simp [State.arbiterFail, hs]

@[simp] theorem State.deviceStop_sound (s : State) : s.Sustains s.deviceStop := .of fun hs => by simp [State.deviceStop, hs]

@[simp] theorem State.activate_inv (s : State) (c) : (s.activate c).Inv ↔ s.Inv := State.inv_congr rfl rfl rfl

@[simp] theorem State.clusterOut_sound (s : State) (c) : s.Sustains (s.clusterOut c) := .of fun hs => by simp [State.clusterOut, hs]

@[simp] theorem State.clustersOff_inv (s : State) : s.clustersOff.Inv ↔ s.Inv := State.inv_congr rfl rfl rfl

@[simp] theorem State.releaseClusters_inv (s : State) (boot) : (s.releaseClusters boot).Inv ↔ s.Inv := State.inv_congr rfl rfl rfl

@[simp] theorem State.resetStandby_sound (s : State) (c) : s.Sustains (s.resetStandby c) := .of fun hs => by simp [State.resetStandby, hs]

/-! #### Machine/EventStore -/

@[simp] theorem State.saveCounters_sound (s : State) : s.Sustains s.saveCounters := .of fun hs => by simp [State.saveCounters, hs]

@[simp] theorem State.flashWriteFails_sound (s : State) : s.Sustains s.flashWriteFails := .of fun hs => by simp [State.flashWriteFails, hs]

@[simp] theorem execCounterSave_sound (flashOk) {s : State} (hs : s.Inv) : Sound (execCounterSave flashOk s) := by
  simp [execCounterSave, hs]

@[simp] theorem execStagingFlush_sound (flashOk) {s : State} (hs : s.Inv) : Sound (execStagingFlush flashOk s) := by
  simp [execStagingFlush, hs]

@[simp] theorem execStagingHoldExpiry_sound (flashOk) {s : State} (hs : s.Inv) : Sound (execStagingHoldExpiry flashOk s) := by
  simp [execStagingHoldExpiry, hs]

@[simp] theorem State.putReader_inv (s : State) (r) : (s.putReader r).Inv ↔ s.Inv := State.inv_congr rfl rfl rfl

@[simp] theorem State.windowRead_sound (s : State) (who cap) : s.Sustains (s.windowRead who cap).2 := .of fun hs => by
  simp [State.windowRead, hs]

@[simp] theorem State.restage_inv (s : State) : s.restage.Inv ↔ s.Inv := State.inv_congr rfl rfl rfl

@[simp] theorem State.bootScan_sound (s : State) : s.Sustains s.bootScan := .of fun hs => by simp [State.bootScan, hs]

/-! #### Machine/Buffers -/

@[simp] theorem State.raiseAll_sound (s : State) (l) : s.Sustains (s.raiseAll l) := .of fun hs => by simp [State.raiseAll, hs]

@[simp] theorem State.diagRead_sound (s : State) (addr len) : s.Sustains (s.diagRead addr len).2 := .of fun hs => by
  simp [State.diagRead, hs]

@[simp] theorem execBufferRead_sound (r own addr len x e) {s : State} (hs : s.Inv) : Sound (execBufferRead r own addr len x e s) := by
  simp [execBufferRead, hs]

@[simp] theorem State.coreWrite_sound (s : State) (r own x e addr l n) : s.Sustains (s.coreWrite r own x e addr l n).1 := .of fun hs => by
  induction n generalizing s addr l with
  | zero => exact hs
  | succ n ih =>
    unfold State.coreWrite
    dsimp only
    repeat' split
    all_goals simp [ih, hs]

@[simp] theorem State.coreStore_sound (s : State) (c own addr data x e) : s.Sustains (s.coreStore c own addr data x e) := .of fun hs => by
  simp [State.coreStore, hs]

@[simp] theorem State.failWrites_sound (s : State) (x) : s.Sustains (s.failWrites x).1 :=
  State.foldl_fst_sound _ (fun _ _ _ => by simp) _ (s, [])

@[simp] theorem execBufferWrite_sound (r own addr data x e) {s : State} (hs : s.Inv) : Sound (execBufferWrite r own addr data x e s) := by
  unfold execBufferWrite
  dsimp only
  repeat' split
  all_goals simp [hs]

@[simp] theorem execCoreNarrowWrite_sound (c own addr data x e) {s : State} (hs : s.Inv) :
    Sound (execCoreNarrowWrite c own addr data x e s) := by
  simp [execCoreNarrowWrite, hs]

@[simp] theorem State.reinitCommand_sound {s : State} (c) (hs : s.Inv) : SoundOk (s.reinitCommand c) := by simp [State.reinitCommand, hs]

@[simp] theorem okOr_sound {s : State} {e} (hs : s.Inv) (he : SoundOk e) : (okOr s e).Inv := by
  cases e with
  | ok t => exact he t rfl
  | error => exact hs

@[simp] theorem execChannelReinit_sound (c) {s : State} (hs : s.Inv) : Sound (execChannelReinit c s) := by simp [execChannelReinit, hs]

@[simp] theorem execChannelReinitDone_sound (c) {s : State} (hs : s.Inv) : Sound (execChannelReinitDone c s) := by
  simp [execChannelReinitDone, hs]

@[simp] theorem State.scrubPeriod_sound (s : State) : s.Sustains s.scrubPeriod := .of fun hs => by simp [State.scrubPeriod, hs]

/-- The check-byte arithmetic of `classify` is put behind a name: the kernel need not compute it. -/
@[simp] theorem execBufferScrub_sound (g x) {s : State} (hs : s.Inv) : Sound (execBufferScrub g x s) := by
  rw [execBufferScrub]
  obtain ⟨classify, hc⟩ : ∃ f, f = State.classify := ⟨_, rfl⟩
  obtain ⟨t, ht⟩ : ∃ t, t = s.scrubPeriod := ⟨_, rfl⟩
  have htInv : t.Inv := by simp [ht, hs]
  rw [← hc, ← ht]
  dsimp only
  repeat' split
  all_goals simp [htInv]

@[simp] theorem execGddr7Refresh_sound (c hot fastest) {s : State} (hs : s.Inv) : Sound (execGddr7Refresh c hot fastest s) := by
  simp [execGddr7Refresh, hs]

@[simp] theorem State.rangeCommand_sound {s : State} (code base length mask) (hs : s.Inv) :
    SoundOk (s.rangeCommand code base length mask) :=
  by
  simp [State.rangeCommand, hs]

@[simp] theorem State.rangeBy_sound {s : State} (code own) (hs : s.Inv) : SoundOk (s.rangeBy code own) := by
  unfold State.rangeBy
  repeat' split
  all_goals simp [hs]

@[simp] theorem execRangeClean_sound (own) {s : State} (hs : s.Inv) : Sound (execRangeClean own s) := by simp [execRangeClean, hs]

@[simp] theorem execRangeInvalidate_sound (own) {s : State} (hs : s.Inv) : Sound (execRangeInvalidate own s) := by
  simp [execRangeInvalidate, hs]

@[simp] theorem execRangeCleanInvalidate_sound (own) {s : State} (hs : s.Inv) : Sound (execRangeCleanInvalidate own s) := by
  simp [execRangeCleanInvalidate, hs]

@[simp] theorem execRangeFill_sound (own) {s : State} (hs : s.Inv) : Sound (execRangeFill own s) := by simp [execRangeFill, hs]

@[simp] theorem State.cleanLines_sound (s : State) (p) : s.Sustains (s.cleanLines p) := .of fun hs => by simp [State.cleanLines, hs]

@[simp] theorem State.discardLines_inv (s : State) (p) : (s.discardLines p).Inv ↔ s.Inv := State.inv_congr rfl rfl rfl

@[simp] theorem State.fillLine_sound (s : State) (mask l) : s.Sustains (s.fillLine mask l).1 := .of fun hs => by
  unfold State.fillLine
  split
  · exact hs
  split
  · simp [hs]
  next h =>
    refine (State.foldl_fst_sound _ (fun t b i => ?_) _ _).inv (State.allocate_sound h hs)
    dsimp only
    split <;> simp

@[simp] theorem State.rangeEffect_sound (s : State) (o) : s.Sustains (s.rangeEffect o).1 := .of fun hs => by
  unfold State.rangeEffect
  split
  case h_4 => exact (State.foldl_fst_sound _ (fun _ _ _ => by simp) _ (s, [])).inv hs
  all_goals simp [hs]

@[simp] theorem execRangeOpDone_sound {s : State} (hs : s.Inv) : Sound (execRangeOpDone s) := by unfold execRangeOpDone; split <;> simp [hs]

@[simp] theorem State.writeEnable_sound {s : State} (v) (hs : s.Inv) : SoundOk (s.writeEnable v) := by simp [State.writeEnable, hs]

@[simp] theorem execCacheDisable_sound {s : State} (hs : s.Inv) : Sound (execCacheDisable s) := by simp [execCacheDisable, hs]

@[simp] theorem execCacheEnable_sound {s : State} (hs : s.Inv) : Sound (execCacheEnable s) := by simp [execCacheEnable, hs]

@[simp] theorem State.writeDiagnostic_sound {s : State} (v) (hs : s.Inv) : SoundOk (s.writeDiagnostic v) := by
  simp [State.writeDiagnostic, hs]

@[simp] theorem execDiagnosticModeSet_sound (v) {s : State} (hs : s.Inv) : Sound (execDiagnosticModeSet v s) := by
  simp [execDiagnosticModeSet, hs]

/-! #### Machine/MoverQueue -/

@[simp] theorem State.updMover_inv (s : State) (c f) : (s.updMover c f).Inv ↔ s.Inv := State.inv_congr rfl rfl rfl

@[simp] theorem State.wantDomain_inv (s : State) (d) : (s.wantDomain d).Inv ↔ s.Inv := State.inv_congr rfl rfl rfl

@[simp] theorem State.submitMover_sound (s : State) (desc token) : s.Sustains (s.submitMover desc token) := .of fun hs => by
  simp [State.submitMover, hs]

@[simp] theorem State.placeChecks_inv (s : State) : s.placeChecks.Inv ↔ s.Inv := State.inv_congr rfl rfl rfl

@[simp] theorem execMoverDescriptorSubmit_sound (desc) {s : State} (hs : s.Inv) : Sound (execMoverDescriptorSubmit desc s) := by
  simp [execMoverDescriptorSubmit, hs]

/-! #### Machine/Packs -/

@[simp] theorem State.startLog_sound (s : State) (p) : s.Sustains (s.startLog p) := .of fun hs => by simp [State.startLog, hs]

@[simp] theorem State.readLog_sound (s : State) (p l) : s.Sustains (s.readLog p l) := .of fun hs => by simp [State.readLog, hs]

@[simp] theorem State.presAssert_sound (s : State) (p) : s.Sustains (s.presAssert p) := .of fun hs => by simp [State.presAssert, hs]

@[simp] theorem State.presDeassert_sound (s : State) (p) : s.Sustains (s.presDeassert p) := .of fun hs => by simp [State.presDeassert, hs]

@[simp] theorem execPackPresAssert_sound (p) {s : State} (hs : s.Inv) : Sound (execPackPresAssert p s) := by simp [execPackPresAssert, hs]

@[simp] theorem execPackPresDeassert_sound (p) {s : State} (hs : s.Inv) : Sound (execPackPresDeassert p s) := by
  simp [execPackPresDeassert, hs]

@[simp] theorem State.takeMemory_sound (s : State) (p m) : s.Sustains (s.takeMemory p m) := .of fun hs => by simp [State.takeMemory, hs]

@[simp] theorem execPackSettleDone_sound (p m) {s : State} (hs : s.Inv) : Sound (execPackSettleDone p m s) := by
  unfold execPackSettleDone
  dsimp only
  repeat' split
  all_goals simp [hs]

@[simp] theorem execI2cRetry_sound (p dev) {s : State} (hs : s.Inv) : Sound (execI2cRetry p dev s) := by simp [execI2cRetry, hs]

@[simp] theorem execLifeRecordWrite_sound (p readBack) {s : State} (hs : s.Inv) : Sound (execLifeRecordWrite p readBack s) := by
  simp [execLifeRecordWrite, hs]

@[simp] theorem State.packCommand_sound {s : State} (p v) (hs : s.Inv) : SoundOk (s.packCommand p v) := by simp [State.packCommand, hs]

@[simp] theorem State.tryPackCommand_sound (s : State) (p v) : s.Sustains (s.tryPackCommand p v) := .of fun hs => by
  unfold State.tryPackCommand
  split
  next h => exact State.packCommand_sound p v hs _ h
  · exact hs

@[simp] theorem execPackCmdDrain_sound (p) {s : State} (hs : s.Inv) : Sound (execPackCmdDrain p s) := by simp [execPackCmdDrain, hs]

@[simp] theorem execPackCmdCancelDrain_sound (p) {s : State} (hs : s.Inv) : Sound (execPackCmdCancelDrain p s) := by
  simp [execPackCmdCancelDrain, hs]

@[simp] theorem execPackCmdRetire_sound (p) {s : State} (hs : s.Inv) : Sound (execPackCmdRetire p s) := by simp [execPackCmdRetire, hs]

@[simp] theorem execPackCmdPrepareRemoval_sound (p) {s : State} (hs : s.Inv) : Sound (execPackCmdPrepareRemoval p s) := by
  simp [execPackCmdPrepareRemoval, hs]

@[simp] theorem execSpinupRequest_sound (p) {s : State} (hs : s.Inv) : Sound (execSpinupRequest p s) := by simp [execSpinupRequest, hs]

@[simp] theorem execSpinupTimeout_sound (p) {s : State} (hs : s.Inv) : Sound (execSpinupTimeout p s) := by simp [execSpinupTimeout, hs]

@[simp] theorem State.setHold_sound (s : State) (p) : s.Sustains (s.setHold p) := .of fun hs => by simp [State.setHold, hs]

@[simp] theorem State.actOnSensors_sound (s : State) (p i temp helium) : s.Sustains (s.actOnSensors p i temp helium) := .of fun hs => by
  unfold State.actOnSensors
  cases temp <;> cases helium <;> simp [hs]

@[simp] theorem execPackSensorPoll_sound (p temp helium) {s : State} (hs : s.Inv) : Sound (execPackSensorPoll p temp helium s) := by
  unfold execPackSensorPoll
  dsimp only
  repeat' split
  all_goals simp [hs]

@[simp] theorem execPackLogWrite_sound (p readBack) {s : State} (hs : s.Inv) : Sound (execPackLogWrite p readBack s) := by
  unfold execPackLogWrite
  dsimp only
  repeat' split
  all_goals simp [hs]

@[simp] theorem execPackLogRepeatRewrite_sound (p) {s : State} (hs : s.Inv) : Sound (execPackLogRepeatRewrite p s) := by
  unfold execPackLogRepeatRewrite
  dsimp only
  repeat' split
  all_goals simp [hs]

/-! #### Machine/PowerOps -/

@[simp] theorem State.updRail_inv (s : State) (r f) : (s.updRail r f).Inv ↔ s.Inv := State.inv_congr rfl rfl rfl

@[simp] theorem State.enableRail_inv (s : State) (r) : (s.enableRail r).Inv ↔ s.Inv := State.inv_congr rfl rfl rfl

@[simp] theorem State.disableRail_sound (s : State) (r) : s.Sustains (s.disableRail r) := .of fun hs => by simp [State.disableRail, hs]

@[simp] theorem State.domainsOff_inv (s : State) : s.domainsOff.Inv ↔ s.Inv := State.inv_congr rfl rfl rfl

@[simp] theorem State.railsOff_sound (s : State) : s.Sustains s.railsOff := .of fun hs => by
  unfold State.railsOff
  exact State.domainsOff_inv _ |>.mpr ((State.foldl_sound _ (fun s r => by simp) _ s).inv hs)

@[simp] theorem State.refreshDomains_sound (s : State) : s.Sustains s.refreshDomains := .of fun hs => by simp [State.refreshDomains, hs]

@[simp] theorem State.packsToLee_sound (s : State) : s.Sustains s.packsToLee :=
  State.foldl_sound _ (fun s p => by split <;> simp) _ s

@[simp] theorem State.widthDue_sound (s : State) (key) : s.Sustains (s.widthDue key) := .of fun hs => by simp [State.widthDue, hs]

/-- Parameters stored one after another. -/
theorem State.setParams_sound {s : State} (l : List (Nat × Nat)) (hs : s.Inv) :
    (l.foldl (fun (s : State) x => s.setParam (x.1 / 256) (x.1 % 256) x.2) s).Inv :=
  (State.foldl_sound _ (fun s x => by simp) l s).inv hs

/-- The values beneath an overlay take no part in the form. -/
@[simp] theorem State.applyMask_sound (s : State) (mask) : s.Sustains (s.applyMask mask) := .of fun hs => by
  unfold State.applyMask
  extract_lets _ back vals under on
  have hback : back.Inv := State.setParams_sound _ ((State.mk_inv s (by rfl) (by rfl)).mpr hs)
  have hon : on.Inv := State.setParams_sound _ hback
  exact (State.foldl_sound _ (fun s x => by simp) _ _).inv ((State.mk_inv on (by rfl) (by rfl)).mpr hon)

/-- A store from which values are dropped keeps its form. -/
theorem storeWf_filter {d : Nat → Nat} {l : List (Nat × Nat)} (p : Nat × Nat → Bool) (h : storeWf d l = true) :
    storeWf d (l.filter p) = true := by
  simp only [storeWf, Bool.and_eq_true, decide_eq_true_eq, List.all_eq_true] at h ⊢
  exact ⟨fun x hx => h.1 x (List.mem_filter.mp hx).1, h.2.filter _⟩

@[simp] theorem State.leaveBench_sound (s : State) : s.Sustains s.leaveBench := .of fun hs => by
  unfold State.leaveBench
  extract_lets s1 gone
  have hs1 : s1.Inv := by
    unfold s1
    split <;> simp [hs]
  refine (State.foldl_sound _ (fun s x => by simp) _ _).inv ?_
  exact ⟨(State.wf_of_same s1 _ rfl rfl).trans hs1.memory, storeWf_filter _ hs1.dictionary⟩

@[simp] theorem State.leaveState_sound (s : State) : s.Sustains s.leaveState := .of fun hs => by
  unfold State.leaveState; split <;> simp [hs]

@[simp] theorem State.writeLives_sound (s : State) : s.Sustains s.writeLives := .of fun hs => by simp [State.writeLives, hs]

@[simp] theorem State.enterLee_sound (s : State) (reduced cause) : s.Sustains (s.enterLee reduced cause) := .of fun hs => by
  simp [State.enterLee, hs]

@[simp] theorem State.enterState_sound (s : State) (d) : s.Sustains (s.enterState d) := .of fun hs => by simp [State.enterState, hs]

@[simp] theorem State.hubAtStart_sound (s : State) : s.Sustains s.hubAtStart :=
  .of fun hs => ⟨State.wf_of_empty _ rfl, hs.dictionary⟩

/-- A chip reset empties both stores. -/
@[simp] theorem State.chipReset_inv (s : State) : s.chipReset.Inv := ⟨State.wf_of_empty _ rfl, rfl⟩

/-! #### Machine/Hosts -/

@[simp] theorem State.freshQp_inv (s : State) : s.freshQp.2.Inv ↔ s.Inv := State.inv_congr rfl rfl rfl

@[simp] theorem execCmReq_sound (r) {s : State} (hs : s.Inv) : Sound (execCmReq r s) := by
  unfold execCmReq
  dsimp only
  repeat' split
  all_goals simp [hs]

@[simp] theorem execCmRtu_sound (conn) {s : State} (hs : s.Inv) : Sound (execCmRtu conn s) := by unfold execCmRtu; split <;> simp [hs]

@[simp] theorem execCmDreq_sound (conn) {s : State} (hs : s.Inv) : Sound (execCmDreq conn s) := by unfold execCmDreq; split <;> simp [hs]

@[simp] theorem execCmDrep_sound (_conn) {s : State} (hs : s.Inv) : Sound (execCmDrep _conn s) := by simpa [execCmDrep] using hs

@[simp] theorem execInvalidRequest_sound (conn) {s : State} (hs : s.Inv) : Sound (execInvalidRequest conn s) := by
  simp [execInvalidRequest, hs]

@[simp] theorem execNakReceived_sound (conn) {s : State} (hs : s.Inv) : Sound (execNakReceived conn s) := by simp [execNakReceived, hs]

@[simp] theorem State.ignoreDoorbell_inv (s : State) : s.ignoreDoorbell.Inv ↔ s.Inv := State.inv_congr rfl rfl rfl

@[simp] theorem State.ringDoorbell_sound (s : State) (r word) : s.Sustains (s.ringDoorbell r word) := .of fun hs => by
  simp [State.ringDoorbell, hs]

@[simp] theorem State.doorbellWord_sound (s : State) (conn loc word) : s.Sustains (s.doorbellWord conn loc word) := .of fun hs => by
  unfold State.doorbellWord
  split <;> simp [hs]

@[simp] theorem State.doorbellWords_sound (s : State) (conn loc l) : s.Sustains (s.doorbellWords conn loc l) := .of fun hs => by
  induction l generalizing s loc with
  | nil => exact hs
  | cons w l ih => simp [State.doorbellWords, ih, hs]

@[simp] theorem execDoorbell_sound (conn key offset data) {s : State} (hs : s.Inv) : Sound (execDoorbell conn key offset data s) := by
  unfold execDoorbell
  split <;> simp [hs]

@[simp] theorem execChainStart_sound {s : State} (hs : s.Inv) : Sound (execChainStart s) := by unfold execChainStart; split <;> simp [hs]

@[simp] theorem execDescriptorReadResponse_sound (ring data) {s : State} (hs : s.Inv) : Sound (execDescriptorReadResponse ring data s) := by
  unfold execDescriptorReadResponse; split <;> simp [hs]

@[simp] theorem execHeadPublish_sound (ring) {s : State} (hs : s.Inv) : Sound (execHeadPublish ring s) := by simp [execHeadPublish, hs]

@[simp] theorem execRnrNak_sound (ring) {s : State} (hs : s.Inv) : Sound (execRnrNak ring s) := by
  unfold execRnrNak
  repeat' split
  all_goals simp [hs]

@[simp] theorem execAckTimeout_sound (conn made) {s : State} (hs : s.Inv) : Sound (execAckTimeout conn made s) := by
  unfold execAckTimeout
  split <;> simp [hs]

@[simp] theorem execCeMarkedPacket_sound (conn) {s : State} (hs : s.Inv) : Sound (execCeMarkedPacket conn s) := by
  unfold execCeMarkedPacket
  split <;> simp [hs]

@[simp] theorem execCnpReceived_sound (conn) {s : State} (hs : s.Inv) : Sound (execCnpReceived conn s) := by
  simpa [execCnpReceived] using hs

@[simp] theorem execDcqcnRateIncreaseTimer_sound (conn) {s : State} (hs : s.Inv) : Sound (execDcqcnRateIncreaseTimer conn s) := by
  simpa [execDcqcnRateIncreaseTimer] using hs

@[simp] theorem execDcqcnByteCounter_sound (conn) {s : State} (hs : s.Inv) : Sound (execDcqcnByteCounter conn s) := by
  simpa [execDcqcnByteCounter] using hs

@[simp] theorem execPfcFrame_sound (q sub prio pause) {s : State} (hs : s.Inv) : Sound (execPfcFrame q sub prio pause s) := by
  simp [execPfcFrame, hs]

@[simp] theorem execPauseFrame_sound {s : State} (hs : s.Inv) : Sound (execPauseFrame s) := by simpa [execPauseFrame] using hs

@[simp] theorem execPortLinkTraining_sound (q up) {s : State} (hs : s.Inv) : Sound (execPortLinkTraining q up s) := by
  simp [execPortLinkTraining, hs]

@[simp] theorem execPortLinkDown_sound (q sub) {s : State} (hs : s.Inv) : Sound (execPortLinkDown q sub s) := by simp [execPortLinkDown, hs]

/-! #### Machine/StoreOps -/

theorem State.slotOn_sound {s : State} {i p a r} (h : s.slotOn i p a = some r) (hs : s.Inv) : r.2.Inv := by
  unfold State.slotOn at h
  dsimp only at h
  split at h
  · cases h
  split at h
  · cases h; simp [hs]
  split at h
  · cases h
  · obtain ⟨x, -, rfl⟩ := Option.map_eq_some_iff.mp h
    simp [hs]

theorem State.placeLeaf_sound {s : State} {i held doubled spare not r} (h : s.placeLeaf i held doubled spare not = some r) (hs : s.Inv) :
    r.2.Inv := by
  unfold State.placeLeaf at h
  dsimp only at h
  split at h
  · cases h
  · obtain ⟨a, -, ha⟩ := List.exists_of_findSome?_eq_some h
    exact State.slotOn_sound ha (by simp [hs])

theorem State.placeLeaves_sound {s : State} {i n held r} (h : s.placeLeaves i n held = some r) (hs : s.Inv) : r.2.Inv := by
  induction n generalizing s held with
  | zero => cases h; exact hs
  | succ n ih =>
    unfold State.placeLeaves at h
    dsimp only at h
    split at h
    · cases h
    next hl => exact ih h (State.placeLeaf_sound hl hs)

@[simp] theorem State.layerRequest_sound (s : State) (p a back req) : s.Sustains (s.layerRequest p a back req) := .of fun hs => by
  unfold State.layerRequest
  split <;> simp [hs]

@[simp] theorem State.takeTag_inv (s : State) : s.takeTag.2.Inv ↔ s.Inv := State.inv_congr rfl rfl rfl

@[simp] theorem State.updStripe_inv (s : State) (i addr f) : (s.updStripe i addr f).Inv ↔ s.Inv := State.inv_congr rfl rfl rfl

@[simp] theorem State.issueLeaf_sound (s : State) (i addr leaf l back) : s.Sustains (s.issueLeaf i addr leaf l back) := .of fun hs => by
  unfold State.issueLeaf
  split <;> simp [hs]

@[simp] theorem State.issueStripe_sound (s : State) (i addr) : s.Sustains (s.issueStripe i addr) := .of fun hs => by
  unfold State.issueStripe
  split
  · exact hs
  · exact (State.foldl_sound _ (fun s x => by split <;> simp) _ s).inv hs

theorem State.moveLeaf_sound {s : State} {i addr leaf spare back not t} (h : s.moveLeaf i addr leaf spare back not = some t) (hs : s.Inv) :
    t.Inv := by
  unfold State.moveLeaf at h
  dsimp only at h
  split at h
  · cases h
  · obtain ⟨y, hy, rfl⟩ := Option.map_eq_some_iff.mp h
    simp [State.placeLeaf_sound hy hs]

@[simp] theorem State.moveLeaf_getD_sound {s t : State} (i addr leaf spare back not) (hs : s.Inv) (ht : t.Inv) :
    ((s.moveLeaf i addr leaf spare back not).getD t).Inv := by
  cases h : s.moveLeaf i addr leaf spare back not with
  | none => exact ht
  | some u => exact State.moveLeaf_sound h hs

@[simp] theorem State.takeGen_inv (s : State) : s.takeGen.2.Inv ↔ s.Inv := State.inv_congr rfl rfl rfl

theorem State.addrBlock_sound {s : State} {i n r} (h : s.addrBlock i n = some r) (hs : s.Inv) : r.2.Inv := by
  obtain ⟨a, -, rfl⟩ := Option.map_eq_some_iff.mp h
  simp [hs]

theorem State.extentSlots_sound {s : State} {taken n r} (h : s.extentSlots taken n = some r) (hs : s.Inv) : r.2.Inv := by
  induction n generalizing s taken r with
  | zero => cases h; exact hs
  | succ n ih => grind [State.extentSlots, State.takeFree_inv]

theorem State.indexRoom_sound {s : State} {hash runs r} (h : s.indexRoom hash runs = .ok r) (hs : s.Inv) : r.2.2.Inv := by
  unfold State.indexRoom at h
  grind [State.extentSlots_sound, State.takeFree_inv]

/-- `placeLeaves` is put behind a name before the recursion is unfolded: the kernel need not run it. -/
theorem State.formStripes_sound {s : State} (i hash owner base l) (hs : s.Inv) : SoundOk (s.formStripes i hash owner base l) := by
  delta State.formStripes State.formStripes._f
  obtain ⟨place, hp⟩ : ∃ f, f = @State.placeLeaves := ⟨_, rfl⟩
  have hplace : ∀ {s i n held r}, place s i n held = some r → s.Inv → r.2.Inv := hp ▸ State.placeLeaves_sound
  rw [← hp]
  induction l generalizing s base with
  | nil => exact (soundOk_ok s).mpr hs
  | cons x l ih =>
    dsimp only
    split
    · simp
    next hl => exact ih _ (by simp [hplace hl hs])

@[simp] theorem State.tryPlace_sound (s : State) (i addr) : s.Sustains (s.tryPlace i addr) := .of fun hs => by
  unfold State.tryPlace
  split
  · exact hs
  split
  · exact hs
  split
  · exact hs
  next hl => simp [State.placeLeaves_sound hl hs]

@[simp] theorem State.sealPetit_sound (s : State) (i) : s.Sustains (s.sealPetit i) := .of fun hs => by
  unfold State.sealPetit
  dsimp only
  repeat' split
  all_goals simp [hs]

theorem State.petitAppend_sound {s : State} {i hash data durable r} (h : s.petitAppend i hash data durable = .ok r) (hs : s.Inv) :
    r.2.Inv := by
  unfold State.petitAppend at h
  extract_lets n x s1 opened at h
  have hs1 : s1.Inv := by
    unfold s1
    split <;> simp [hs]
  have hopened : ∀ t, opened = some t → t.Inv := by
    unfold opened
    split
    · rintro t ⟨⟩; exact hs1
    · intro t ht
      obtain ⟨y, hy, rfl⟩ := Option.map_eq_some_iff.mp ht
      simp [State.addrBlock_sound hy hs1]
  clear_value opened
  split at h
  · cases h
  next ho =>
    split at h
    · cases h
    · cases h
      simpa using hopened _ rfl

@[simp] theorem State.sendJob_sound (s : State) (j l) : s.Sustains (s.sendJob j l) := .of fun hs => by simp [State.sendJob, hs]

@[simp] theorem State.readLeaf_sound (s : State) (i addr leaf who verify back bad) :
    s.Sustains (s.readLeaf i addr leaf who verify back bad) :=
  .of fun hs => by
  unfold State.readLeaf
  dsimp only
  repeat' split
  all_goals simp [hs]

@[simp] theorem State.endJob_sound (s : State) (j r) : s.Sustains (s.endJob j r) := .of fun hs => by simp [State.endJob, hs]

@[simp] theorem State.retryJob_sound (s : State) (j) : s.Sustains (s.retryJob j) := .of fun hs => by
  unfold State.retryJob
  dsimp only
  repeat' split
  all_goals simp [hs]

@[simp] theorem State.pollJob_sound (s : State) (j) : s.Sustains (s.pollJob j) := .of fun hs => by
  unfold State.pollJob
  dsimp only
  repeat' split
  all_goals simp [hs]

@[simp] theorem State.pollJobs_sound (s : State) : s.Sustains s.pollJobs := .of fun hs => by simp [State.pollJobs, hs]

@[simp] theorem State.gather_sound (s : State) (i who addrs) : s.Sustains (s.gather i who addrs).1 := .of fun hs => by
  simp [State.gather, hs]

@[simp] theorem State.fetchLeaf_sound (s : State) (i addr leaf back) : s.Sustains (s.fetchLeaf i addr leaf back).1 := .of fun hs => by
  unfold State.fetchLeaf
  split <;> simp [hs]

theorem State.fetchLeaf_eq_sound {s t : State} {i addr leaf back e} (h : s.fetchLeaf i addr leaf back = (t, e)) (hs : s.Inv) : t.Inv := by
  have ht := (s.fetchLeaf_sound i addr leaf back).inv hs
  rwa [h] at ht

@[simp] theorem State.dropJobs_inv (s : State) (p) : (s.dropJobs p).Inv ↔ s.Inv := State.inv_congr rfl rfl rfl

@[simp] theorem State.countLost_sound (s : State) (i addr) : s.Sustains (s.countLost i addr) := .of fun hs => by
  unfold State.countLost
  split <;> simp [hs]

@[simp] theorem State.outcomeAction_sound (s : State) (i addr leaf outcome step) :
    s.Sustains (s.outcomeAction i addr leaf outcome step) := .of fun hs => by
  unfold State.outcomeAction
  extract_lets x
  split
  · exact hs
  split
  · simp [hs]
  split
  · extract_lets s1
    have hs1 : s1.Inv := by
      unfold s1
      repeat' split
      all_goals simp [hs]
    clear_value s1
    split
    · exact State.moveLeaf_getD_sound _ _ _ _ _ _ hs1 hs1
    · exact hs1
  · exact hs

@[simp] theorem State.queueBodies_inv (s : State) (l fin) : (s.queueBodies l fin).Inv ↔ s.Inv := State.inv_congr rfl rfl rfl

@[simp] theorem State.queueChanges_sound (s : State) : s.Sustains s.queueChanges := .of fun hs => by simp [State.queueChanges, hs]

@[simp] theorem State.killUnnamed_sound (s : State) : s.Sustains s.killUnnamed := .of fun hs => by simp [State.killUnnamed, hs]

@[simp] theorem State.makeVisible_sound (s : State) (c) : s.Sustains (s.makeVisible c) := .of fun hs => by simp [State.makeVisible, hs]

@[simp] theorem State.releaseContext_inv (s : State) (ring slot) : (s.releaseContext ring slot).Inv ↔ s.Inv := State.inv_congr rfl rfl rfl

@[simp] theorem State.commitRecord_sound (s : State) (r) : s.Sustains (s.commitRecord r) := .of fun hs => by
  unfold State.commitRecord
  repeat' split
  all_goals simp [hs]

@[simp] theorem State.commitJournal_sound (s : State) (n) : s.Sustains (s.commitJournal n) := .of fun hs => by
  simp [State.commitJournal, hs]

@[simp] theorem State.saveBands_inv (s : State) : s.saveBands.Inv ↔ s.Inv := State.inv_congr rfl rfl rfl

@[simp] theorem State.suspendCtx_sound (s : State) (q c token) : s.Sustains (s.suspendCtx q c token) := .of fun hs => by
  simp [State.suspendCtx, hs]

@[simp] theorem State.newToken_inv (s : State) (q ring slot engine body) : (s.newToken q ring slot engine body).2.Inv ↔ s.Inv :=
  State.inv_congr rfl rfl rfl

@[simp] theorem State.takeLock_sound (s : State) (hash ring slot) : s.Sustains (s.takeLock hash ring slot).2 := .of fun hs => by
  unfold State.takeLock
  split <;> simp [hs]

/-! #### Machine/Service -/

@[simp] theorem execLdl_sound (e) {s : State} (hs : s.Inv) : Sound (execLdl e s) := by unfold execLdl; split <;> simp [hs]

@[simp] theorem execStl_sound (e) {s : State} (hs : s.Inv) : Sound (execStl e s) := by simp [execStl, hs]

@[simp] theorem State.takeEight_sound (s : State) (n) : s.Sustains (s.takeEight n).2 := .of fun hs => by
  induction n generalizing s with
  | zero => exact hs
  | succ n ih => simp [State.takeEight, ih, hs]

@[simp] theorem execMemoryLoadComplete_sound (q c x e) {s : State} (hs : s.Inv) : Sound (execMemoryLoadComplete q c x e s) := by
  unfold execMemoryLoadComplete
  dsimp only
  repeat' split
  all_goals simp [hs]

@[simp] theorem State.endService_sound (s : State) (q c status) : s.Sustains (s.endService q c status) := .of fun hs => by
  simp [State.endService, hs]

@[simp] theorem State.tryEnd_sound (s : State) (q c status) : s.Sustains (s.tryEnd q c status) := .of fun hs => by simp [State.tryEnd, hs]

@[simp] theorem execEnd_sound (e) {s : State} (hs : s.Inv) : Sound (execEnd e s) := by unfold execEnd; split <;> simp [hs]

@[simp] theorem State.dispatch_sound (s : State) (q c d) : s.Sustains (s.dispatch q c d) := .of fun hs => by simp [State.dispatch, hs]

@[simp] theorem execDisp_sound (e) {s : State} (hs : s.Inv) : Sound (execDisp e s) := by unfold execDisp; split <;> simp [hs]

@[simp] theorem execSuspend_sound (e) {s : State} (hs : s.Inv) : Sound (execSuspend e s) := by unfold execSuspend; split <;> simp [hs]

@[simp] theorem execContextBlockAvailable_sound (q c) {s : State} (hs : s.Inv) : Sound (execContextBlockAvailable q c s) := by
  unfold execContextBlockAvailable
  repeat' split
  all_goals simp [hs]

@[simp] theorem execContextResume_sound (ring slot) {s : State} (hs : s.Inv) : Sound (execContextResume ring slot s) := by
  unfold execContextResume
  repeat' split
  all_goals simp [hs]

@[simp] theorem execCommit_sound (e) {s : State} (hs : s.Inv) : Sound (execCommit e s) := by
  unfold execCommit
  refine (sound_next _).mpr ((State.issue_sound _ _ _ _ fun s w => ?_).inv hs)
  dsimp only
  repeat' split
  all_goals simp

@[simp] theorem execAbtset_sound (e) {s : State} (hs : s.Inv) : Sound (execAbtset e s) := by simp [execAbtset, hs]

@[simp] theorem State.markToken_inv (s : State) (id error) : (s.markToken id error).Inv ↔ s.Inv := State.inv_congr rfl rfl rfl

@[simp] theorem State.engFormatter_sound (s : State) (id body) : s.Sustains (s.engFormatter id body) := .of fun hs => by
  unfold State.engFormatter
  dsimp only
  repeat' split
  all_goals simp [hs]

@[simp] theorem State.engIssue_sound (s : State) (q c w) : s.Sustains (s.engIssue q c w) := .of fun hs => by simp [State.engIssue, hs]

@[simp] theorem execEng_sound (e) {s : State} (hs : s.Inv) : Sound (execEng e s) := by unfold execEng; split <;> simp [hs]

@[simp] theorem State.afterToken_sound (s : State) (q) : s.Sustains (s.afterToken q) := .of fun hs => by
  unfold State.afterToken
  dsimp only
  refine (State.foldl_sound _ (fun s k => ?_) _ _).inv ?_
  · refine (State.foldl_sound _ (fun s c => ?_) _ _).inv s.sound
    split <;> simp
  · repeat' split
    all_goals simp [hs]

@[simp] theorem State.completeToken_sound (s : State) (id error) : s.Sustains (s.completeToken id error) := .of fun hs => by
  unfold State.completeToken
  split <;> simp [hs]

@[simp] theorem execTokenComplete_sound (id error x reads) {s : State} (hs : s.Inv) : Sound (execTokenComplete id error x reads s) := by
  unfold execTokenComplete
  split <;> simp [hs]

@[simp] theorem State.chainRead_sound (s : State) (ring slot) : s.Sustains (s.chainRead ring slot) := .of fun hs => by
  simp [State.chainRead, hs]

@[simp] theorem State.frameChain_sound (s : State) (r q c len) : s.Sustains (s.frameChain r q c len) := .of fun hs => by
  unfold State.frameChain
  dsimp only
  repeat' split
  all_goals simp [hs]

@[simp] theorem execChainFrame_sound (ring) {s : State} (hs : s.Inv) : Sound (execChainFrame ring s) := by
  unfold execChainFrame
  repeat' split
  all_goals simp [hs]

@[simp] theorem execSafePointOverrun_sound (q c) {s : State} (hs : s.Inv) : Sound (execSafePointOverrun q c s) := by
  simp [execSafePointOverrun, hs]

/-! #### Machine/Boot -/

theorem State.pickImage_sound {s : State} {r} (h : s.pickImage = .ok r) (hs : s.Inv) : r.2.Inv := by
  unfold State.pickImage at h
  grind [State.mk_inv]

/-- Values laid over a store in its form leave it in its form. -/
theorem layOver_wf {part : Part} {under : List (Nat × Nat)} (l : List (Nat × Nat)) (h : storeWf (dictDefault part) under = true) :
    storeWf (dictDefault part) (layOver part under l) = true := by
  unfold layOver
  induction l generalizing under with
  | nil => exact h
  | cons x l ih => exact ih (putVal_wf _ _ _ _ h)

/-- The layers give a store in its form, whatever values stood before (R470). -/
@[simp] theorem State.loadLayers_sound {s : State} (hs : s.Inv) : SoundOk s.loadLayers := by
  unfold State.loadLayers
  split
  · simp
  next i b _ =>
    have hbase : storeWf (dictDefault s.part) (layOver s.part [] (imageSets b)) = true := layOver_wf _ rfl
    extract_lets base st vals code ov is _ _ _ s1 want mask s2
    have hvals : storeWf (dictDefault s.part) vals = true := by
      unfold vals
      cases st with
      | some x => exact layOver_wf _ hbase
      | none => exact hbase
    have hs1 : s1.Inv := ⟨(State.wf_of_same s s1 rfl rfl).trans hs.memory, hvals⟩
    have hs2 : s2.Inv := by
      refine (State.foldl_sound _ (fun s n => ?_) _ _).inv ?_
      · split <;> simp
      · split <;> simp [hs1]
    simp [hs2]

@[simp] theorem State.endStart_sound (s : State) (code) : s.Sustains (s.endStart code) := .of fun hs => by simp [State.endStart, hs]

@[simp] theorem State.attemptFails_sound (s : State) (code) : s.Sustains (s.attemptFails code) := .of fun hs => by
  simp [State.attemptFails, hs]

@[simp] theorem State.startBoot_sound (s : State) (wake fromLee kept) : s.Sustains (s.startBoot wake fromLee kept) := .of fun hs => by
  simp [State.startBoot, hs]

@[simp] theorem State.startCan_sound (s : State) : s.Sustains s.startCan := .of fun hs => by simp [State.startCan, hs]

@[simp] theorem State.firstRail_sound (s : State) : s.Sustains s.firstRail := .of fun hs => by simp [State.firstRail, hs]

@[simp] theorem execBootStart_sound (factory nodeId fusesOk) {s : State} (hs : s.Inv) : Sound (execBootStart factory nodeId fusesOk s) := by
  simp [execBootStart, hs]

@[simp] theorem State.pgAccept_sound (s : State) (r) : s.Sustains (s.pgAccept r) := .of fun hs => by simp [State.pgAccept, hs]

@[simp] theorem execRailPgAccept_sound (r) {s : State} (hs : s.Inv) : Sound (execRailPgAccept r s) := by simp [execRailPgAccept, hs]

@[simp] theorem execRailEnDelay_sound (r) {s : State} (hs : s.Inv) : Sound (execRailEnDelay r s) := by simp [execRailEnDelay, hs]

@[simp] theorem execRailPgTimeout_sound (r) {s : State} (hs : s.Inv) : Sound (execRailPgTimeout r s) := by simp [execRailPgTimeout, hs]

@[simp] theorem execStartRetry_sound {s : State} (hs : s.Inv) : Sound (execStartRetry s) := by simp [execStartRetry, hs]

@[simp] theorem execReferenceMeasurementEnd_sound (ok100 ok156) {s : State} (hs : s.Inv) :
    Sound (execReferenceMeasurementEnd ok100 ok156 s) := by
  simp [execReferenceMeasurementEnd, hs]

@[simp] theorem execPllLockTimeout_sound {s : State} (hs : s.Inv) : Sound (execPllLockTimeout s) := by simp [execPllLockTimeout, hs]

/-- The fill leaves no word that differs from an unlisted one (R402). -/
@[simp] theorem execBufferFillDone_sound {s : State} (hs : s.Inv) : Sound (execBufferFillDone s) := by
  unfold execBufferFillDone
  rw [sound_next]
  split
  · exact hs
  · exact ⟨State.wf_of_empty _ rfl, hs.dictionary⟩

@[simp] theorem State.noteCheckers_inv (s : State) (bad) : (s.noteCheckers bad).Inv ↔ s.Inv := State.inv_congr rfl rfl rfl

@[simp] theorem State.bootDone_sound (s : State) (x) : s.Sustains (s.bootDone x) := .of fun hs => by simp [State.bootDone, hs]

@[simp] theorem execBootEnd_sound (r) {s : State} (hs : s.Inv) : Sound (execBootEnd r s) := by
  unfold execBootEnd
  dsimp only
  repeat' split
  all_goals simp [hs]
  next hp _ _ hl _ => simp [State.loadLayers_sound (State.pickImage_sound hp (by simp [hs])) _ hl]

@[simp] theorem State.failUnits_sound (s : State) (r) : s.Sustains (s.failUnits r) := .of fun hs => by simp [State.failUnits, hs]

@[simp] theorem execSelftestDone_sound (r) {s : State} (hs : s.Inv) : Sound (execSelftestDone r s) := by simp [execSelftestDone, hs]

/-! #### Machine/Clusters -/

@[simp] theorem State.beat_sound (s : State) (c seen) : s.Sustains (s.beat c seen) := .of fun hs => by
  unfold State.beat; split <;> simp [hs]

@[simp] theorem State.viewMirror_inv (s : State) (v) : (s.viewMirror v).Inv ↔ s.Inv := State.inv_congr rfl rfl rfl

@[simp] theorem State.raiseCause_sound (s : State) (c why flags) : s.Sustains (s.raiseCause c why flags) := .of fun hs => by
  simp [State.raiseCause, hs]

@[simp] theorem State.leaveActive_sound (s : State) (c why) : s.Sustains (s.leaveActive c why) := .of fun hs => by
  simp [State.leaveActive, hs]

@[simp] theorem State.checkStandby_sound (s : State) (b) : s.Sustains (s.checkStandby b) := .of fun hs => by simp [State.checkStandby, hs]

@[simp] theorem execArbiterCheck_sound (v) {s : State} (hs : s.Inv) : Sound (execArbiterCheck v s) := by
  unfold execArbiterCheck
  dsimp only
  repeat' split
  all_goals simp [hs]

@[simp] theorem execClusterSelfTestDone_sound (c pass) {s : State} (hs : s.Inv) : Sound (execClusterSelfTestDone c pass s) := by
  simp [execClusterSelfTestDone, hs]

@[simp] theorem execClusterSyncDone_sound (c) {s : State} (hs : s.Inv) : Sound (execClusterSyncDone c s) := by
  simp [execClusterSyncDone, hs]

@[simp] theorem State.readmit_sound {s : State} (v) (hs : s.Inv) : SoundOk (s.readmit v) := by simp [State.readmit, hs]

@[simp] theorem execReadmitCluster_sound (c) {s : State} (hs : s.Inv) : Sound (execReadmitCluster c s) := by simp [execReadmitCluster, hs]

@[simp] theorem State.releaseTokens_sound (s : State) (all) : s.Sustains (s.releaseTokens all) := .of fun hs => by
  simp [State.releaseTokens, hs]

@[simp] theorem State.releaseHeld_sound (s : State) (all) : s.Sustains (s.releaseHeld all) := .of fun hs => by simp [State.releaseHeld, hs]

@[simp] theorem execMirrorAck_sound (n) {s : State} (hs : s.Inv) : Sound (execMirrorAck n s) := by simp [execMirrorAck, hs]

@[simp] theorem State.roleSwap_sound (s : State) (pass) : s.Sustains (s.roleSwap pass) := .of fun hs => by
  unfold State.roleSwap; split <;> simp [hs]

@[simp] theorem execRoleSwap_sound (pass) {s : State} (hs : s.Inv) : Sound (execRoleSwap pass s) := by simp [execRoleSwap, hs]

@[simp] theorem State.swapNow_sound {s : State} (v pass) (hs : s.Inv) : SoundOk (s.swapNow v pass) := by simp [State.swapNow, hs]

@[simp] theorem execRoleSwapNow_sound (pass) {s : State} (hs : s.Inv) : Sound (execRoleSwapNow pass s) := by simp [execRoleSwapNow, hs]

@[simp] theorem State.settleOld_sound (s : State) (c) : s.Sustains (s.settleOld c) := .of fun hs => by simp [State.settleOld, hs]

@[simp] theorem State.releaseHub_sound (s : State) (f) : s.Sustains (s.releaseHub f) := .of fun hs => by simp [State.releaseHub, hs]

@[simp] theorem execArbiterLockstepMismatch_sound {s : State} (hs : s.Inv) : Sound (execArbiterLockstepMismatch s) := by
  simp [execArbiterLockstepMismatch, hs]

@[simp] theorem execArbiterWatchdogExpiry_sound {s : State} (hs : s.Inv) : Sound (execArbiterWatchdogExpiry s) := by
  simp [execArbiterWatchdogExpiry, hs]

@[simp] theorem State.injectionToken_sound {s : State} (l) (hs : s.Inv) : SoundOk (s.injectionToken l) := by simp [State.injectionToken, hs]

@[simp] theorem execInjectionTokenWrite_sound (token) {s : State} (hs : s.Inv) : Sound (execInjectionTokenWrite token s) := by
  simp [execInjectionTokenWrite, hs]

@[simp] theorem State.injectionArm_sound {s : State} (v) (hs : s.Inv) : SoundOk (s.injectionArm v) := by simp [State.injectionArm, hs]

@[simp] theorem execInjectionArm_sound (arm) {s : State} (hs : s.Inv) : Sound (execInjectionArm arm s) := by simp [execInjectionArm, hs]

@[simp] theorem execInjectionPeriodic_sound {s : State} (hs : s.Inv) : Sound (execInjectionPeriodic s) := by
  simp [execInjectionPeriodic, hs]

/-! #### Machine/Recovery -/

@[simp] theorem State.clearSuspect_sound (s : State) (p addr) : s.Sustains (s.clearSuspect p addr) := .of fun hs => by
  simp [State.clearSuspect, hs]

@[simp] theorem State.suspect_sound (s : State) (p addr) : s.Sustains (s.suspect p addr) := .of fun hs => by
  unfold State.suspect; split <;> simp [hs]

@[simp] theorem State.endSector_sound (s : State) (p a h e) : s.Sustains (s.endSector p a h e) := .of fun hs => by
  simp [State.endSector, hs]

@[simp] theorem State.queueStepSix_sound (s : State) (p a h addr) : s.Sustains (s.queueStepSix p a h addr) := .of fun hs => by
  simp [State.queueStepSix, hs]

@[simp] theorem State.putLadder_inv (s : State) (p a x) : (s.putLadder p a x).Inv ↔ s.Inv := State.inv_congr rfl rfl rfl

@[simp] theorem State.dropLadder_inv (s : State) (p a x) : (s.dropLadder p a x).Inv ↔ s.Inv := State.inv_congr rfl rfl rfl

@[simp] theorem State.toLadder_sound (s : State) (p a h x) : s.Sustains (s.toLadder p a h x) := .of fun hs => by simp [State.toLadder, hs]

@[simp] theorem State.unrecovered_sound (s : State) (p a x e six) : s.Sustains (s.unrecovered p a x e six) := .of fun hs => by
  simp [State.unrecovered, hs]

@[simp] theorem State.ladderOn_sound (s : State) (p a x0 e) : s.Sustains (s.ladderOn p a x0 e) := .of fun hs => by
  unfold State.ladderOn
  dsimp only
  repeat' split
  all_goals simp [hs]

/-! #### Machine/Lanes -/

@[simp] theorem execLaneActivate_sound (p a h) {s : State} (hs : s.Inv) : Sound (execLaneActivate p a h s) := by simp [execLaneActivate, hs]

@[simp] theorem execLaneGatingDelayExpiry_sound (p a h) {s : State} (hs : s.Inv) : Sound (execLaneGatingDelayExpiry p a h s) := by
  simp [execLaneGatingDelayExpiry, hs]

@[simp] theorem State.sitOutRest_sound (s : State) (p a h) : s.Sustains (s.sitOutRest p a h) := .of fun hs => by simp [State.sitOutRest, hs]

@[simp] theorem State.gateConflict_sound (s : State) (p a h) : s.Sustains (s.gateConflict p a h) := .of fun hs => by
  simp [State.gateConflict, hs]

@[simp] theorem execServoWindowOpen_sound (p a h) {s : State} (hs : s.Inv) : Sound (execServoWindowOpen p a h s) := by
  simp [execServoWindowOpen, hs]

@[simp] theorem State.skipListed_sound (s : State) (p a h write n) : s.Sustains (s.skipListed p a h write n) := .of fun hs => by
  induction n generalizing s with
  | zero => exact hs
  | succ n ih =>
    unfold State.skipListed
    split <;> simp [ih, hs]

@[simp] theorem State.atNext_sound (s : State) (p a h write) : s.Sustains (s.atNext p a h write) := .of fun hs => by simp [State.atNext, hs]

@[simp] theorem State.skippedOut_sound {s s0 : State} (p a h write) (hs : s.Inv) (hs0 : s0.Inv) : (s.skippedOut s0 p a h write).Inv := by
  unfold State.skippedOut
  split <;> simp [hs, hs0]

@[simp] theorem State.openLadder_sound (s : State) (p a h) : s.Sustains (s.openLadder p a h) := .of fun hs => by
  unfold State.openLadder
  dsimp only
  repeat' split
  all_goals simp [hs]

/-- The state at the lane's next sector and the gate sought are put behind names: the kernel need not compute them. -/
@[simp] theorem execReadGateOpen_sound (p a h) {s0 : State} (hs : s0.Inv) : Sound (execReadGateOpen p a h s0) := by
  rw [execReadGateOpen, sound_next]
  obtain ⟨t, ht⟩ : ∃ t, t = s0.atNext p a h false := ⟨_, rfl⟩
  obtain ⟨due, hd⟩ : ∃ f, f = State.dueGate := ⟨_, rfl⟩
  have htInv : t.Inv := by simp [ht, hs]
  rw [← ht, ← hd]
  dsimp only
  repeat' split
  all_goals simp [hs, htInv]

@[simp] theorem execSyncWindowDecision_sound (p a h bits) {s : State} (hs : s.Inv) : Sound (execSyncWindowDecision p a h bits s) := by
  unfold execSyncWindowDecision
  dsimp only
  repeat' split
  all_goals simp [hs]

@[simp] theorem State.endCapture_sound (s : State) (p a h samples) : s.Sustains (s.endCapture p a h samples) := .of fun hs => by
  unfold State.endCapture
  split
  · extract_lets b buf s1 s2
    have hs2 : s2.Inv := by simp [s2, s1, hs]
    exact (State.mk_inv s2 rfl rfl).mpr hs2
  · exact hs

@[simp] theorem execReadGateClose_sound (p a h cells) {s0 : State} (hs : s0.Inv) : Sound (execReadGateClose p a h cells s0) := by
  unfold execReadGateClose
  dsimp only
  repeat' split
  all_goals simp [hs]

@[simp] theorem State.teachCache_sound (s : State) (p a h r) : s.Sustains (s.teachCache p a h r) := .of fun hs => by
  unfold State.teachCache
  repeat' split
  all_goals simp [hs]

@[simp] theorem execFirstDecodeDone_sound (p a h result snr) {s : State} (hs : s.Inv) : Sound (execFirstDecodeDone p a h result snr s) := by
  unfold execFirstDecodeDone
  repeat' split
  all_goals simp [hs]

@[simp] theorem execStoredRecoveryDone_sound (p a h found) {s : State} (hs : s.Inv) : Sound (execStoredRecoveryDone p a h found s) := by
  unfold execStoredRecoveryDone
  dsimp only
  repeat' split
  all_goals simp [hs]

@[simp] theorem execLadderReadDone_sound (p a h addr v) {s0 : State} (hs : s0.Inv) : Sound (execLadderReadDone p a h addr v s0) := by
  unfold execLadderReadDone
  dsimp only
  repeat' split
  all_goals simp [hs]

@[simp] theorem execSectorDelivery_sound (p a h) {s : State} (hs : s.Inv) : Sound (execSectorDelivery p a h s) := by
  unfold execSectorDelivery
  split <;> simp [hs]

@[simp] theorem execWriteBufferDeadline_sound (p a h data) {s0 : State} (hs : s0.Inv) : Sound (execWriteBufferDeadline p a h data s0) := by
  unfold execWriteBufferDeadline
  dsimp only
  repeat' split
  all_goals simp [hs]

/-- The state at the lane's next sector and the gate sought are put behind names: the kernel need not compute them. -/
@[simp] theorem execWriteGateOpen_sound (p a h) {s0 : State} (hs : s0.Inv) : Sound (execWriteGateOpen p a h s0) := by
  rw [execWriteGateOpen, sound_next]
  obtain ⟨t, ht⟩ : ∃ t, t = s0.atNext p a h true := ⟨_, rfl⟩
  obtain ⟨due, hd⟩ : ∃ f, f = State.dueGate := ⟨_, rfl⟩
  have htInv : t.Inv := by simp [ht, hs]
  rw [← ht, ← hd]
  dsimp only
  repeat' split
  all_goals simp [hs, htInv]

@[simp] theorem State.endWriteRun_sound (s : State) (p a h) : s.Sustains (s.endWriteRun p a h) := .of fun hs => by
  unfold State.endWriteRun
  split <;> simp [hs]

@[simp] theorem State.checkLife_sound (s : State) (p) : s.Sustains (s.checkLife p) := .of fun hs => by simp [State.checkLife, hs]

/-- The plan of the gate is put behind a name: the kernel need not compute it. -/
@[simp] theorem State.joinNext_sound (s : State) (p a h closeAt last) : s.Sustains (s.joinNext p a h closeAt last) := .of fun hs => by
  unfold State.joinNext
  obtain ⟨plan, hp⟩ : ∃ f, f = State.gatePlan := ⟨_, rfl⟩
  rw [← hp]
  dsimp only
  repeat' split
  all_goals simp [hs]

@[simp] theorem State.writeCloses_sound (s : State) (p a h) : s.Sustains (s.writeCloses p a h) := .of fun hs => by
  unfold State.writeCloses
  dsimp only
  repeat' split
  all_goals simp [hs]

@[simp] theorem execWriteGateClose_sound (p a h) {s : State} (hs : s.Inv) : Sound (execWriteGateClose p a h s) := by
  simp [execWriteGateClose, hs]

@[simp] theorem execServoProtectStart_sound (p a h) {s : State} (hs : s.Inv) : Sound (execServoProtectStart p a h s) := by
  simp [execServoProtectStart, hs]

@[simp] theorem State.loadZones_sound (s : State) (p copy t l) : s.Sustains (s.loadZones p copy t l) := .of fun hs => by
  simp [State.loadZones, hs]

@[simp] theorem execZoneTableReadDone_sound (p copy0 copy1 lists) {s : State} (hs : s.Inv) :
    Sound (execZoneTableReadDone p copy0 copy1 lists s) := by
  unfold execZoneTableReadDone; split <;> simp [hs]

/-! #### Machine/Power -/

/-- Off, the device holds no store's contents (R525). -/
@[simp] theorem execVddAonRemoved_sound (s : State) : Sound (execVddAonRemoved s) :=
  (sound_next _).mpr ⟨State.wf_of_empty _ rfl, rfl⟩

@[simp] theorem execVddAonApply_sound (flash resetN crystal) {s : State} (hs : s.Inv) : Sound (execVddAonApply flash resetN crystal s) := by
  simp [execVddAonApply, hs]

@[simp] theorem execResetNAssert_sound {s : State} (hs : s.Inv) : Sound (execResetNAssert s) := by simp [execResetNAssert, hs]

@[simp] theorem State.supplyGale_sound (s : State) : s.Sustains s.supplyGale := .of fun hs => by simp [State.supplyGale, hs]

@[simp] theorem State.supplyLoss_sound (s : State) (r) : s.Sustains (s.supplyLoss r) := .of fun hs => by simp [State.supplyLoss, hs]

@[simp] theorem execLossOfSupply_sound (r) {s : State} (hs : s.Inv) : Sound (execLossOfSupply r s) := by simp [execLossOfSupply, hs]

@[simp] theorem execLossOfSupplyRailOff_sound {s : State} (hs : s.Inv) : Sound (execLossOfSupplyRailOff s) := by
  simp [execLossOfSupplyRailOff, hs]

@[simp] theorem State.readRail_sound (s : State) (x) : s.Sustains (s.readRail x) := .of fun hs => by simp [State.readRail, hs]

@[simp] theorem execPmbusPoll_sound (samples) {s : State} (hs : s.Inv) : Sound (execPmbusPoll samples s) := by simp [execPmbusPoll, hs]

@[simp] theorem State.groupOn_inv (s : State) (p a) : (s.groupOn p a).Inv ↔ s.Inv := State.inv_congr rfl rfl rfl

@[simp] theorem execDomainSwitchOn_sound (d) {s : State} (hs : s.Inv) : Sound (execDomainSwitchOn d s) := by simp [execDomainSwitchOn, hs]

@[simp] theorem execEngineSliceIdle_sound (d) {s : State} (hs : s.Inv) : Sound (execEngineSliceIdle d s) := by
  simp [execEngineSliceIdle, hs]

@[simp] theorem execReference100mhzLost_sound {s : State} (hs : s.Inv) : Sound (execReference100mhzLost s) := by
  simp [execReference100mhzLost, hs]

@[simp] theorem execReference156mhzLost_sound {s : State} (hs : s.Inv) : Sound (execReference156mhzLost s) := by
  simp [execReference156mhzLost, hs]

@[simp] theorem State.tryPowerDown_sound (s : State) : s.Sustains s.tryPowerDown := .of fun hs => by simp [State.tryPowerDown, hs]

@[simp] theorem execLeeEntryArmsUnloaded_sound {s : State} (hs : s.Inv) : Sound (execLeeEntryArmsUnloaded s) := by
  unfold execLeeEntryArmsUnloaded
  split <;> simp [hs]

@[simp] theorem execReducedFormRailOff_sound {s : State} (hs : s.Inv) : Sound (execReducedFormRailOff s) := by
  simp [execReducedFormRailOff, hs]

@[simp] theorem State.beginZephyr_sound (s : State) : s.Sustains s.beginZephyr := .of fun hs => by simp [State.beginZephyr, hs]

@[simp] theorem execZephyrDelayExpiry_sound {s : State} (hs : s.Inv) : Sound (execZephyrDelayExpiry s) := by
  simp [execZephyrDelayExpiry, hs]

@[simp] theorem execZephyrEntryDone_sound (energy) {s : State} (hs : s.Inv) : Sound (execZephyrEntryDone energy s) := by
  simp [execZephyrEntryDone, hs]

@[simp] theorem State.wakeRecord_sound (s : State) (bit chatter temp) : s.Sustains (s.wakeRecord bit chatter temp) := .of fun hs => by
  simp [State.wakeRecord, hs]

@[simp] theorem State.wakeEvent_sound (s : State) (bit chatter temp) : s.Sustains (s.wakeEvent bit chatter temp) := .of fun hs => by
  simp [State.wakeEvent, hs]

@[simp] theorem execWakeEvent_sound (bit chatter) {s : State} (hs : s.Inv) : Sound (execWakeEvent bit chatter s) := by
  simp [execWakeEvent, hs]

@[simp] theorem execZephyrTick_sound (x) {s : State} (hs : s.Inv) : Sound (execZephyrTick x s) := by simp [execZephyrTick, hs]

theorem State.commandEffect_sound {s : State} {v t} (h : s.commandEffect v = some t) (hs : s.Inv) : t.Inv := by
  unfold State.commandEffect at h
  repeat' split at h
  all_goals simp only [reduceCtorEq, Option.some.injEq] at h
  all_goals rw [← h]
  all_goals simp [hs]

@[simp] theorem State.stateCommand_sound {s : State} (v) (hs : s.Inv) : SoundOk (s.stateCommand v) := by
  unfold State.stateCommand
  cases h : s.commandEffect v with
  | none => simp
  | some t => simp [State.commandEffect_sound h hs]

@[simp] theorem execStateCmdOpen_sound {s : State} (hs : s.Inv) : Sound (execStateCmdOpen s) := by simp [execStateCmdOpen, hs]

@[simp] theorem execStateCmdQuiesce_sound {s : State} (hs : s.Inv) : Sound (execStateCmdQuiesce s) := by simp [execStateCmdQuiesce, hs]

@[simp] theorem execStateCmdLee_sound {s : State} (hs : s.Inv) : Sound (execStateCmdLee s) := by simp [execStateCmdLee, hs]

@[simp] theorem execStateCmdStart_sound {s : State} (hs : s.Inv) : Sound (execStateCmdStart s) := by simp [execStateCmdStart, hs]

@[simp] theorem execStateCmdPowerDown_sound {s : State} (hs : s.Inv) : Sound (execStateCmdPowerDown s) := by
  simp [execStateCmdPowerDown, hs]

@[simp] theorem execStateCmdZephyr_sound {s : State} (hs : s.Inv) : Sound (execStateCmdZephyr s) := by simp [execStateCmdZephyr, hs]

@[simp] theorem execStateCmdAssemble_sound {s : State} (hs : s.Inv) : Sound (execStateCmdAssemble s) := by simp [execStateCmdAssemble, hs]

@[simp] theorem State.closeFrom4_sound (s : State) : s.Sustains s.closeFrom4 := .of fun hs => by simp [State.closeFrom4, hs]

@[simp] theorem execOrderlyCloseStepDone_sound {s : State} (hs : s.Inv) : Sound (execOrderlyCloseStepDone s) := by
  unfold execOrderlyCloseStepDone
  repeat' split
  all_goals simp [hs]

@[simp] theorem execShutdownTimeout_sound {s : State} (hs : s.Inv) : Sound (execShutdownTimeout s) := by simp [execShutdownTimeout, hs]

/-! #### Machine/FaultCmds -/

@[simp] theorem execFaultOccurrence_sound (source) {s : State} (hs : s.Inv) : Sound (execFaultOccurrence source s) := by
  simp [execFaultOccurrence, hs]

@[simp] theorem State.clearSticky_sound {s : State} (k) (hs : s.Inv) : SoundOk (s.clearSticky k) := by simp [State.clearSticky, hs]

@[simp] theorem execClearSticky_sound (source) {s : State} (hs : s.Inv) : Sound (execClearSticky source s) := by simp [execClearSticky, hs]

@[simp] theorem State.pinFault_sound (s : State) (k) : s.Sustains (s.pinFault k) := .of fun hs => by
  unfold State.pinFault; split <;> simp [hs]

@[simp] theorem State.reactReset_sound (s : State) : s.Sustains s.reactReset := .of fun hs => by simp [State.reactReset]

@[simp] theorem execChipResetReaction_sound {s : State} (hs : s.Inv) : Sound (execChipResetReaction s) := by
  unfold execChipResetReaction
  split <;> simp [hs]

@[simp] theorem execChipResetParkWaitEnd_sound {s : State} (hs : s.Inv) : Sound (execChipResetParkWaitEnd s) := by
  simp [execChipResetParkWaitEnd, hs]

@[simp] theorem State.unlockToken_sound {s : State} (l) (hs : s.Inv) : SoundOk (s.unlockToken l) := by simp [State.unlockToken, hs]

@[simp] theorem execTapUnlockToken_sound (token) {s : State} (hs : s.Inv) : Sound (execTapUnlockToken token s) := by
  simp [execTapUnlockToken, hs]

@[simp] theorem State.lifeSecond_sound (s : State) (p) : s.Sustains (s.lifeSecond p) := .of fun hs => by simp [State.lifeSecond, hs]

@[simp] theorem execOperatingSecondsTick_sound {s : State} (hs : s.Inv) : Sound (execOperatingSecondsTick s) := by
  simp [execOperatingSecondsTick, hs]

/-! #### Machine/Store -/

@[simp] theorem State.finish_sound (s : State) (q c status size value) : s.Sustains (s.finish q c status size value) := .of fun hs => by
  simp [State.finish, hs]

@[simp] theorem State.locked_sound (s : State) (q c x) (f : Nat → State → State) (hf : ∀ h (s : SoundState), (f h s.state).Inv) :
    s.Sustains (s.locked q c x f) := .of fun hs => by
  have hact : ∀ h s, s.Inv → (f h s).Inv := fun h s hs => hf h ⟨s, hs⟩
  unfold State.locked
  simp [hact, hs]

/-- `cutStripes` is put behind a name: the kernel need not run it. -/
theorem State.formVersion_sound {s : State} {i hash data durable r} (h : s.formVersion i hash data durable = .ok r) (hs : s.Inv) :
    r.2.2.2.Inv := by
  unfold State.formVersion at h
  obtain ⟨cut, hc⟩ : ∃ f, f = cutStripes := ⟨_, rfl⟩
  rw [← hc] at h
  dsimp only at h
  split at h
  · split at h
    · cases h
    next hroom => cases h; exact State.indexRoom_sound hroom hs
  split at h
  · split at h
    · cases h
    next hroom =>
      split at h
      · cases h
      next hpetit => cases h; exact State.petitAppend_sound hpetit (State.indexRoom_sound hroom hs)
  split at h
  · cases h
  split at h
  · cases h
  next hroom =>
    split at h
    · cases h
    next hblock =>
      split at h
      · cases h
      next hform => cases h; exact State.formStripes_sound _ _ _ _ _ (State.addrBlock_sound hblock (State.indexRoom_sound hroom hs)) _ hform

@[simp] theorem State.commitChange_sound (s : State) (q c x change) : s.Sustains (s.commitChange q c x change) := .of fun hs => by
  unfold State.commitChange
  split <;> simp [hs]

@[simp] theorem State.commitVersion_sound (s : State) (q c x i hash size slot ext w) :
    s.Sustains (s.commitVersion q c x i hash size slot ext w) := .of fun hs => by
  simp [State.commitVersion, hs]

@[simp] theorem State.putObject_sound (s : State) (q c x data hash) : s.Sustains (s.putObject q c x data hash) := .of fun hs => by
  unfold State.putObject
  dsimp only
  repeat' split
  all_goals simp [hs]
  next h => simp [State.formVersion_sound h hs]

@[simp] theorem execPut_sound (q c data) {s : State} (hs : s.Inv) : Sound (execPut q c data s) := by simp [execPut, hs]

@[simp] theorem State.settleReads_sound (s : State) (who) : s.Sustains (s.settleReads who) := .of fun hs => by
  unfold State.settleReads
  refine (State.foldl_sound _ (fun s j => ?_) _ _).inv (by simp [hs])
  split <;> simp

@[simp] theorem State.getVersion_sound (s0 : State) (q c x e) : s0.Sustains (s0.getVersion q c x e) := .of fun hs => by
  unfold State.getVersion
  dsimp only
  repeat' split
  all_goals simp [hs]

@[simp] theorem State.lookUp_sound (s : State) (q c x) : s.Sustains (s.lookUp q c x) := .of fun hs => by
  unfold State.lookUp
  dsimp only
  repeat' split
  all_goals simp [hs]

@[simp] theorem execGet_sound (q c) {s : State} (hs : s.Inv) : Sound (execGet q c s) := by
  unfold execGet
  refine (sound_next _).mpr ((State.onCommand_sound _ _ _ _ _ fun x => ?_).inv hs)
  dsimp only
  split <;> simp [hs]

/-- `addrBlock`, `indexRoom` and `formStripes` are put behind names before the definition is unfolded: the kernel need not run them. -/
theorem State.patchStripes_sound {s : State} {i e off data r} (h : s.patchStripes i e off data = .ok r) (hs : s.Inv) : r.2.2.2.Inv := by
  obtain ⟨patch, hpatch⟩ : ∃ f, f = @State.patchStripes := ⟨_, rfl⟩
  obtain ⟨block, hb⟩ : ∃ f, f = State.addrBlock := ⟨_, rfl⟩
  obtain ⟨room, hr⟩ : ∃ f, f = State.indexRoom := ⟨_, rfl⟩
  obtain ⟨form, hf⟩ : ∃ f, f = State.formStripes := ⟨_, rfl⟩
  have hblock : ∀ {s i n r}, block s i n = some r → s.Inv → r.2.Inv := hb ▸ State.addrBlock_sound
  have hroom : ∀ {s hash n r}, room s hash n = .ok r → s.Inv → r.2.2.Inv := hr ▸ State.indexRoom_sound
  have hform : ∀ {s} i hash owner base l, s.Inv → SoundOk (form s i hash owner base l) := hf ▸ State.formStripes_sound
  rw [← hpatch] at h
  delta State.patchStripes at hpatch
  rw [← hb, ← hr, ← hf] at hpatch
  rw [hpatch] at h
  dsimp only at h
  split at h
  · cases h
  next hbase =>
    split at h
    · cases h
    split at h
    · cases h
    split at h
    · cases h
    next hindex =>
      split at h
      · cases h
      next hstripes => cases h; exact hform _ _ _ _ _ (hroom hindex (hblock hbase hs)) _ hstripes

@[simp] theorem State.patchObject_sound (s : State) (q c x data hash) : s.Sustains (s.patchObject q c x data hash) := .of fun hs => by
  unfold State.patchObject
  dsimp only
  repeat' split
  all_goals simp [hs]
  next hf =>
    split at hf
    · simp [State.formVersion_sound hf (by simp [hs])]
    · simp [State.patchStripes_sound hf (by simp [hs])]

@[simp] theorem execPatch_sound (q c data) {s : State} (hs : s.Inv) : Sound (execPatch q c data s) := by simp [execPatch, hs]

@[simp] theorem State.deleteObject_sound (s : State) (q c x hash) : s.Sustains (s.deleteObject q c x hash) := .of fun hs => by
  unfold State.deleteObject
  dsimp only
  repeat' split
  all_goals simp [hs]

@[simp] theorem execDelete_sound (q c) {s : State} (hs : s.Inv) : Sound (execDelete q c s) := by simp [execDelete, hs]

@[simp] theorem execList_sound (q c) {s : State} (hs : s.Inv) : Sound (execList q c s) := by
  unfold execList
  refine (sound_next _).mpr ((State.onCommand_sound _ _ _ _ _ fun x => ?_).inv hs)
  dsimp only
  split <;> simp [hs]

@[simp] theorem execNopCommand_sound (q c) {s : State} (hs : s.Inv) : Sound (execNopCommand q c s) := by simp [execNopCommand, hs]

@[simp] theorem execKeyLockGrant_sound (hash) {s : State} (hs : s.Inv) : Sound (execKeyLockGrant hash s) := by
  unfold execKeyLockGrant
  repeat' split
  all_goals simp [hs]

/-! #### Machine/StoreBytes -/

@[simp] theorem State.writeSector_sound (s : State) (l) : s.Sustains (s.writeSector l) := .of fun hs => by simp [State.writeSector, hs]

@[simp] theorem State.writeSectors_sound (s : State) (n) : s.Sustains (s.writeSectors n) := .of fun hs => by simp [State.writeSectors, hs]

@[simp] theorem State.sendSegment_inv (s : State) (pack n) : (s.sendSegment pack n).Inv ↔ s.Inv := State.inv_congr rfl rfl rfl

@[simp] theorem State.bringUp_sound (s : State) (pack) : s.Sustains (s.bringUp pack) := .of fun hs => by simp [State.bringUp, hs]

/-! #### Machine/StoreWork -/

@[simp] theorem execPetitFourDurableSeal_sound (x) {s : State} (hs : s.Inv) : Sound (execPetitFourDurableSeal x s) := by
  unfold execPetitFourDurableSeal
  split <;> simp [hs]

@[simp] theorem execPetitFourLazySeal_sound (x) {s : State} (hs : s.Inv) : Sound (execPetitFourLazySeal x s) := by
  unfold execPetitFourLazySeal
  split <;> simp [hs]

@[simp] theorem execStripePlacementRetry_sound (x addr) {s : State} (hs : s.Inv) : Sound (execStripePlacementRetry x addr s) := by
  unfold execStripePlacementRetry
  dsimp only
  repeat' split
  all_goals simp [hs]

@[simp] theorem State.noteLeft_sound (s : State) (x) : s.Sustains (s.noteLeft x) := .of fun hs => by simp [State.noteLeft, hs]

@[simp] theorem State.leafPlaced_sound (s : State) (x w) : s.Sustains (s.leafPlaced x w) := .of fun hs => by
  unfold State.leafPlaced
  dsimp only
  repeat' split
  all_goals simp [hs]

@[simp] theorem execLeafWriteDone_sound (p a tag) {s : State} (hs : s.Inv) : Sound (execLeafWriteDone p a tag s) := by
  unfold execLeafWriteDone
  dsimp only
  repeat' split
  all_goals simp [hs]
  next hm => simp [State.slotOn_sound (Option.ite_none_right_eq_some.mp hm).2 (by simp [hs])]

@[simp] theorem execJournalSectorCommit_sound (untorn) {s : State} (hs : s.Inv) : Sound (execJournalSectorCommit untorn s) := by
  simp [execJournalSectorCommit, hs]

@[simp] theorem State.flushJournal_sound (s : State) : s.Sustains s.flushJournal := .of fun hs => by simp [State.flushJournal, hs]

@[simp] theorem execJournalLagExpiry_sound {s : State} (hs : s.Inv) : Sound (execJournalLagExpiry s) := by simp [execJournalLagExpiry, hs]

@[simp] theorem execCheckpointSegmentWrite_sound {s : State} (hs : s.Inv) : Sound (execCheckpointSegmentWrite s) := by
  simp [execCheckpointSegmentWrite, hs]

@[simp] theorem State.journalBands_sound (s : State) (p) : s.Sustains (s.journalBands p) := .of fun hs => by
  unfold State.journalBands
  refine (State.foldl_sound _ (fun s a => ?_) _ _).inv hs
  refine (State.foldl_sound _ (fun s n => ?_) _ _).inv s.sound
  dsimp only
  split <;> simp

@[simp] theorem execJournalPackReplace_sound (p) {s : State} (hs : s.Inv) : Sound (execJournalPackReplace p s) := by
  simp [execJournalPackReplace, hs]

@[simp] theorem execBackgroundWindow_sound (p a) {s : State} (hs : s.Inv) : Sound (execBackgroundWindow p a s) := by
  simp [execBackgroundWindow, hs]

@[simp] theorem execRebuildDelayExpiry_sound (p) {s : State} (hs : s.Inv) : Sound (execRebuildDelayExpiry p s) := by
  unfold execRebuildDelayExpiry
  split <;> simp [hs]

@[simp] theorem State.failJob_sound (s : State) (x addr leaf e) : s.Sustains (s.failJob x addr leaf e) := .of fun hs => by
  simp [State.failJob, hs]

@[simp] theorem execRebuildStripe_sound (x addr) {s0 : State} (hs : s0.Inv) : Sound (execRebuildStripe x addr s0) := by
  unfold execRebuildStripe
  dsimp only
  repeat' split
  all_goals simp [hs]

@[simp] theorem execDrainLeaf_sound (x addr leaf) {s0 : State} (hs : s0.Inv) : Sound (execDrainLeaf x addr leaf s0) := by
  unfold execDrainLeaf
  dsimp only
  repeat' split
  all_goals simp [hs]
  next h => simp [State.fetchLeaf_eq_sound h (by simp [hs])]
  next h _ => simp [State.fetchLeaf_eq_sound h (by simp [hs])]
  next h _ => simp [State.fetchLeaf_eq_sound h (by simp [hs])]

@[simp] theorem State.resetBand_sound (s : State) (x p b) : s.Sustains (s.resetBand x p b) := .of fun hs => by simp [State.resetBand, hs]

@[simp] theorem State.rewriteEntry_sound (s : State) (e needs) : s.Sustains (s.rewriteEntry e needs) := .of fun hs => by
  simp [State.rewriteEntry, hs]

@[simp] theorem State.mergeRuns_sound (s : State) (hash) : s.Sustains (s.mergeRuns hash) := .of fun hs => by
  unfold State.mergeRuns
  dsimp only
  repeat' split
  all_goals simp [hs]
  next h => simp [State.addrBlock_sound h hs]

@[simp] theorem State.repackPetit_sound (s : State) (x u) : s.Sustains (s.repackPetit x u) := .of fun hs => by
  unfold State.repackPetit
  refine (State.killUnnamed_sound _).inv ((State.foldl_sound _ (fun s o => ?_) _ _).inv hs)
  split
  · exact s.sound
  split
  · exact s.sound
  next h => simp [State.petitAppend_sound h s.sound]

@[simp] theorem State.copyLeaf_sound (s : State) (x addr leaf) : s.Sustains (s.copyLeaf x addr leaf) := .of fun hs => by
  unfold State.copyLeaf
  split
  next h => exact State.fetchLeaf_eq_sound h hs
  next h =>
    have h1 := State.fetchLeaf_eq_sound h hs
    split
    · simp [h1]
    split
    next hm => simp [State.moveLeaf_sound hm h1]
    · exact h1

@[simp] theorem execCompactionBand_sound (p b merge) {s0 : State} (hs0 : s0.Inv) : Sound (execCompactionBand p b merge s0) := by
  unfold execCompactionBand
  rw [sound_next]
  extract_lets s
  have hs : s.Inv := by
    unfold s
    split <;> simp [hs0]
  split
  · exact hs
  extract_lets
  split
  · split <;> simp [hs]
  · refine (State.foldl_sound _ (fun s v => ?_) _ _).inv hs
    repeat' split
    all_goals simp

@[simp] theorem execScrubLeaf_sound (x addr leaf) {s0 : State} (hs : s0.Inv) : Sound (execScrubLeaf x addr leaf s0) := by
  unfold execScrubLeaf
  dsimp only
  repeat' split
  all_goals simp [hs]

@[simp] theorem State.sendTest_sound (s : State) (p a req) : s.Sustains (s.sendTest p a req) := .of fun hs => by simp [State.sendTest, hs]

@[simp] theorem State.startTest_sound (s : State) (kind p) : s.Sustains (s.startTest kind p) := .of fun hs => by
  unfold State.startTest
  dsimp only
  repeat' split
  · simp [hs]
  · refine (State.foldl_sound _ (fun s b => ?_) _ _).inv ((State.foldl_sound _ (fun s x => by simp) _ _).inv hs)
    refine (State.foldl_sound _ (fun s i => ?_) _ _).inv s.sound
    exact (State.foldl_sound _ (fun s g => by simp) _ _).inv s.sound
  · simp [hs]

@[simp] theorem State.selfTestCommand_sound {s : State} (v) (hs : s.Inv) : SoundOk (s.selfTestCommand v) := by
  simp [State.selfTestCommand, hs]

@[simp] theorem execSelfTestShort_sound {s : State} (hs : s.Inv) : Sound (execSelfTestShort s) := by simp [execSelfTestShort, hs]

@[simp] theorem execSelfTestExtended_sound {s : State} (hs : s.Inv) : Sound (execSelfTestExtended s) := by simp [execSelfTestExtended, hs]

@[simp] theorem execSelfTestStop_sound {s : State} (hs : s.Inv) : Sound (execSelfTestStop s) := by simp [execSelfTestStop, hs]

@[simp] theorem execSelfTestShareEnd_sound (p) {s : State} (hs : s.Inv) : Sound (execSelfTestShareEnd p s) := by
  simp [execSelfTestShareEnd, hs]

@[simp] theorem State.takeBits_inv (s : State) (n) : (s.takeBits n).2.Inv ↔ s.Inv := State.inv_congr rfl rfl rfl

@[simp] theorem State.formSpan_sound (s : State) (i) : s.Sustains (s.formSpan i) := .of fun hs => by simp [State.formSpan, hs]

@[simp] theorem State.initialiseStore_sound {s : State} (hs : s.Inv) : SoundOk s.initialiseStore := by
  unfold State.initialiseStore; simp [hs]

@[simp] theorem execStoreInitialise_sound {s : State} (hs : s.Inv) : Sound (execStoreInitialise s) := by simp [execStoreInitialise, hs]

@[simp] theorem State.spanCommand_sound {s : State} (x v) (hs : s.Inv) : SoundOk (s.spanCommand x v) := by simp [State.spanCommand, hs]

@[simp] theorem execSpanAddPack_sound (x) {s : State} (hs : s.Inv) : Sound (execSpanAddPack x s) := by simp [execSpanAddPack, hs]

@[simp] theorem execSpanStartRebuild_sound (x) {s : State} (hs : s.Inv) : Sound (execSpanStartRebuild x s) := by
  simp [execSpanStartRebuild, hs]

@[simp] theorem execSpanDrainPack_sound (x) {s : State} (hs : s.Inv) : Sound (execSpanDrainPack x s) := by simp [execSpanDrainPack, hs]

/-! #### Machine/FlashOps -/

@[simp] theorem State.inTurn_sound {s : State} (mask) {e} (he : SoundOk e) : SoundOk (s.inTurn mask e) := by
  unfold State.inTurn
  simp [he]

@[simp] theorem State.flashStart_inv (s : State) (op data) : (s.flashStart op data).Inv ↔ s.Inv := State.inv_congr rfl rfl rfl

@[simp] theorem State.flashData_sound {s : State} (l) (hs : s.Inv) : SoundOk (s.flashData l) := by simp [State.flashData, hs]

@[simp] theorem execFlashDataWrite_sound (data) {s : State} (hs : s.Inv) : Sound (execFlashDataWrite data s) := by
  simp only [execFlashDataWrite, sound_next]
  exact okOr_sound hs (by simp [State.inTurn_sound, hs])

@[simp] theorem State.flashCommand_sound {s : State} (v) (hs : s.Inv) : SoundOk (s.flashCommand v) := by simp [State.flashCommand, hs]

@[simp] theorem execFlashErase_sound {s : State} (hs : s.Inv) : Sound (execFlashErase s) := by
  simp only [execFlashErase, sound_next]
  exact okOr_sound hs (by simp [State.inTurn_sound, hs])

@[simp] theorem execFlashVerify_sound {s : State} (hs : s.Inv) : Sound (execFlashVerify s) := by
  simp only [execFlashVerify, sound_next]
  exact okOr_sound hs (by simp [State.inTurn_sound, hs])

@[simp] theorem State.verifyTarget_sound (s : State) (t) : s.Sustains (s.verifyTarget t).2 := .of fun hs => by
  unfold State.verifyTarget
  repeat' split
  all_goals simp [hs]

@[simp] theorem State.noteErased_sound (s : State) (t) : s.Sustains (s.noteErased t) := .of fun hs => by simp [State.noteErased, hs]

@[simp] theorem State.flashFailed_sound (s : State) (first n) : s.Sustains (s.flashFailed first n) := .of fun hs => by
  simp [State.flashFailed, hs]

@[simp] theorem execFlashOperationDone_sound (ok content) {s : State} (hs : s.Inv) : Sound (execFlashOperationDone ok content s) := by
  unfold execFlashOperationDone
  dsimp only
  repeat' split
  all_goals simp [hs]

@[simp] theorem State.preferImage_sound {s : State} (v) (hs : s.Inv) : SoundOk (s.preferImage v) := by simp [State.preferImage, hs]

@[simp] theorem execBootSelectorWrite_sound (image) {s : State} (hs : s.Inv) : Sound (execBootSelectorWrite image s) := by
  simp only [execBootSelectorWrite, sound_next]
  exact okOr_sound hs (by simp [State.inTurn_sound, hs])

@[simp] theorem State.commitSecurity_sound {s : State} (v) (hs : s.Inv) : SoundOk (s.commitSecurity v) := by simp [State.commitSecurity, hs]

@[simp] theorem execSecurityVersionCommit_sound (version) {s : State} (hs : s.Inv) : Sound (execSecurityVersionCommit version s) := by
  simp only [execSecurityVersionCommit, sound_next]
  exact okOr_sound hs (by simp [State.inTurn_sound, hs])

@[simp] theorem State.revokeKey_sound {s : State} (v) (hs : s.Inv) : SoundOk (s.revokeKey v) := by simp [State.revokeKey, hs]

@[simp] theorem execKeyIndexRevoke_sound (index) {s : State} (hs : s.Inv) : Sound (execKeyIndexRevoke index s) := by
  simp only [execKeyIndexRevoke, sound_next]
  exact okOr_sound hs (by simp [State.inTurn_sound, hs])

@[simp] theorem State.escrowKey_sound {s : State} (v) (hs : s.Inv) : SoundOk (s.escrowKey v) := by simp [State.escrowKey, hs]

@[simp] theorem execEscrowKeyWrite_sound (key) {s : State} (hs : s.Inv) : Sound (execEscrowKeyWrite key s) := by
  simp only [execEscrowKeyWrite, sound_next]
  exact okOr_sound hs (by simp [State.inTurn_sound, hs])

@[simp] theorem State.importSecrets_sound (s : State) (l) : s.Sustains (s.importSecrets l) := .of fun hs => by
  simp [State.importSecrets, hs]

@[simp] theorem State.keyImport_sound {s : State} (l) (hs : s.Inv) : SoundOk (s.keyImport l) := by
  unfold State.keyImport
  repeat' split
  all_goals simp [hs]

@[simp] theorem execStoreKeyImport_sound (block) {s : State} (hs : s.Inv) : Sound (execStoreKeyImport block s) := by
  simp only [execStoreKeyImport, sound_next]
  exact okOr_sound hs (by simp [State.inTurn_sound, hs])

/-! #### Machine/Movers -/

@[simp] theorem State.readPieces_sound (s : State) (r own x l) : s.Sustains (s.readPieces r own x l).2.2.1 := .of fun hs => by
  induction l generalizing s with
  | nil => exact hs
  | cons p l ih =>
    unfold State.readPieces
    dsimp only
    split <;> simp [ih, hs]

@[simp] theorem State.drainStream_sound (s : State) (c d from_ bytes) : s.Sustains (s.drainStream c d from_ bytes).1 := .of fun hs => by
  simp [State.drainStream, hs]

@[simp] theorem State.moveUnit_sound (s : State) (c r u host newOp) : s.Sustains (s.moveUnit c r u host newOp) := .of fun hs => by
  simp [State.moveUnit, hs]

@[simp] theorem State.moveUnits_sound (s : State) (c limited from_ host l) : s.Sustains (s.moveUnits c limited from_ host l) :=
  .of fun hs => by
  induction l generalizing s with
  | nil => simp [State.moveUnits, hs]
  | cons u l ih =>
    unfold State.moveUnits
    dsimp only
    repeat' split
    all_goals simp [ih, hs]

@[simp] theorem State.moverWork_sound (s : State) (c host) : s.Sustains (s.moverWork c host) := .of fun hs => by
  unfold State.moverWork
  split <;> simp [hs]

@[simp] theorem State.readSource_sound (s : State) (c q x) : s.Sustains (s.readSource c q x) := .of fun hs => by simp [State.readSource, hs]

@[simp] theorem State.stopAtError_inv (s : State) (c) : (s.stopAtError c).Inv ↔ s.Inv := State.inv_congr rfl rfl rfl

@[simp] theorem execMoverDescriptorStart_sound (c x host) {s : State} (hs : s.Inv) : Sound (execMoverDescriptorStart c x host s) := by
  unfold execMoverDescriptorStart
  split <;> simp [hs]

@[simp] theorem execMoverRateWindow_sound (c host) {s : State} (hs : s.Inv) : Sound (execMoverRateWindow c host s) := by
  unfold execMoverRateWindow
  split <;> simp [hs]

@[simp] theorem execMoverDescriptorComplete_sound (c) {s : State} (hs : s.Inv) : Sound (execMoverDescriptorComplete c s) := by
  unfold execMoverDescriptorComplete
  dsimp only
  repeat' split
  all_goals simp [hs]

/-! #### Machine/DictRead -/

@[simp] theorem State.readEntry_sound (s : State) (who idx sub r inBand) : s.Sustains (s.readEntry who idx sub r inBand).2 :=
  .of fun hs => by
  unfold State.readEntry
  split <;> simp [hs]

/-! #### Machine/DictWrite -/

theorem State.dictRead_sound {s : State} {who idx sub inBand r} (h : s.dictRead who idx sub inBand = .ok r) (hs : s.Inv) : r.2.Inv := by
  unfold State.dictRead at h
  split at h
  · cases h
  split at h
  · cases h
  · cases h
    simp [hs]

@[simp] theorem State.writeStored_inv (s : State) : s.writeStored.Inv ↔ s.Inv := State.inv_congr rfl rfl rfl

@[simp] theorem State.storeParameters_sound {s : State} (v flashOk) (hs : s.Inv) : SoundOk (s.storeParameters v flashOk) := by
  simp [State.storeParameters, hs]

@[simp] theorem State.writeRefused_sound (s : State) (idx l e) : s.Sustains (s.writeRefused idx l e) := .of fun hs => by
  simp [State.writeRefused, hs]

@[simp] theorem State.restoreDefaults_sound {s : State} (v) (hs : s.Inv) : SoundOk (s.restoreDefaults v) := by
  simp [State.restoreDefaults, hs]

@[simp] theorem State.startApply_sound {s : State} (v) (hs : s.Inv) : SoundOk (s.startApply v) := by simp [State.startApply, hs]

@[simp] theorem State.writeLock_sound {s : State} (who v) (hs : s.Inv) : SoundOk (s.writeLock who v) := by simp [State.writeLock, hs]

@[simp] theorem State.rawEnd_inv (s : State) (status) : (s.rawEnd status).Inv ↔ s.Inv := State.inv_congr rfl rfl rfl

@[simp] theorem State.rawIssue_sound (s : State) (v) : s.Sustains (s.rawIssue v) := .of fun hs => by
  unfold State.rawIssue; split <;> simp [hs]

@[simp] theorem State.rawCommand_sound {s : State} (v) (hs : s.Inv) : SoundOk (s.rawCommand v) := by simp [State.rawCommand, hs]

@[simp] theorem State.armsPerPack_sound (s : State) : s.Sustains s.armsPerPack := .of fun hs => by simp [State.armsPerPack, hs]

@[simp] theorem State.afterWrite_sound (s : State) (idx sub) : s.Sustains (s.afterWrite idx sub) := .of fun hs => by
  simp [State.afterWrite, hs]

theorem State.writeSpecial_sound {s : State} {who idx sub v e} (h : s.writeSpecial who idx sub v = some e) (hs : s.Inv) : SoundOk e := by
  unfold State.writeSpecial at h
  dsimp only at h
  repeat' split at h
  all_goals cases h
  all_goals simp [hs]

theorem State.writeBytes_sound {s : State} {idx sub l e} (h : s.writeBytes idx sub l = some e) (hs : s.Inv) : SoundOk e := by
  unfold State.writeBytes at h
  repeat' split at h
  all_goals cases h
  all_goals simp [hs]

@[simp] theorem State.writeEffect_sound {s : State} (who idx sub r l) (hs : s.Inv) : SoundOk (s.writeEffect who idx sub r l) := by
  unfold State.writeEffect
  dsimp only
  split
  next h => exact State.writeBytes_sound h hs
  split
  · simp
  split
  next h => exact State.writeSpecial_sound h hs
  · simp [hs]

@[simp] theorem State.renewLease_sound (s : State) (who) : s.Sustains (s.renewLease who) := .of fun hs => by simp [State.renewLease, hs]

@[simp] theorem State.dictWrite_sound {s : State} (who idx sub l) (hs : s.Inv) : SoundOk (s.dictWrite who idx sub l) := by
  unfold State.dictWrite
  split
  · simp
  next r _ =>
    have hw := State.writeEffect_sound who idx sub r l hs
    cases h : s.writeEffect who idx sub r l with
    | error e => simp [Except.map]
    | ok t => simp [Except.map, hw t h]

/-! #### Machine/CanCmds -/

@[simp] theorem State.answer_inv (s : State) (client abort l) : (s.answer client abort l).Inv ↔ s.Inv := State.inv_congr rfl rfl rfl

@[simp] theorem State.endSession_inv (s : State) (client) : (s.endSession client).Inv ↔ s.Inv := State.inv_congr rfl rfl rfl

@[simp] theorem State.openSession_inv (s : State) (x) : (s.openSession x).Inv ↔ s.Inv := State.inv_congr rfl rfl rfl

@[simp] theorem State.serveDownload_sound (s : State) (client idx sub l) : s.Sustains (s.serveDownload client idx sub l) := .of fun hs => by
  unfold State.serveDownload
  split
  next h => simp [State.dictWrite_sound _ _ _ _ hs _ h]
  · simp [hs]

@[simp] theorem State.serveInit_sound (s : State) (q upload) : s.Sustains (s.serveInit q upload) := .of fun hs => by
  unfold State.serveInit
  dsimp only
  repeat' split
  all_goals simp [hs]
  next h => simp [State.dictRead_sound h (by simp [hs])]

@[simp] theorem State.serveSegment_sound (s : State) (q last) : s.Sustains (s.serveSegment q last) := .of fun hs => by
  unfold State.serveSegment
  split <;> simp [hs]

@[simp] theorem State.serveNext_sound (s : State) (client n) : s.Sustains (s.serveNext client n) := .of fun hs => by
  unfold State.serveNext
  split <;> simp [hs]

@[simp] theorem State.serve_sound (s : State) (q) : s.Sustains (s.serve q) := .of fun hs => by
  unfold State.serve
  split
  · split
    next h =>
      have ht := State.dictWrite_sound _ _ _ _ hs _ h
      split
      · simp [ht]
      · exact ht
    · dsimp only
      split <;> simp [hs]
  · simp [hs]
  · dsimp only
    split
    · simp [hs]
    next h => simp [State.dictRead_sound h (by simp [hs])]
  all_goals simp [hs]

@[simp] theorem State.request_sound (s : State) (q) : s.Sustains (s.request q) := .of fun hs => by simp [State.request, hs]

@[simp] theorem State.usdo_sound (s : State) (q) : s.Sustains (s.usdo q) := .of fun hs => by simp [State.usdo, hs]

@[simp] theorem execUsdoExpeditedDownload_sound (client idx sub data) {s : State} (hs : s.Inv) :
    Sound (execUsdoExpeditedDownload client idx sub data s) := by
  simp [execUsdoExpeditedDownload, hs]

@[simp] theorem execUsdoExpeditedUpload_sound (client idx sub) {s : State} (hs : s.Inv) :
    Sound (execUsdoExpeditedUpload client idx sub s) := by
  simp [execUsdoExpeditedUpload, hs]

@[simp] theorem execUsdoSegmentedDownloadInit_sound (client idx sub) {s : State} (hs : s.Inv) :
    Sound (execUsdoSegmentedDownloadInit client idx sub s) := by
  simp [execUsdoSegmentedDownloadInit, hs]

@[simp] theorem execUsdoDownloadSegment_sound (client data last) {s : State} (hs : s.Inv) :
    Sound (execUsdoDownloadSegment client data last s) := by
  simp [execUsdoDownloadSegment, hs]

@[simp] theorem execUsdoSegmentedUploadInit_sound (client idx sub) {s : State} (hs : s.Inv) :
    Sound (execUsdoSegmentedUploadInit client idx sub s) := by
  simp [execUsdoSegmentedUploadInit, hs]

@[simp] theorem execUsdoUploadSegment_sound (client size) {s : State} (hs : s.Inv) : Sound (execUsdoUploadSegment client size s) := by
  simp [execUsdoUploadSegment, hs]

@[simp] theorem execUsdoAbort_sound (client) {s : State} (hs : s.Inv) : Sound (execUsdoAbort client s) := by simp [execUsdoAbort, hs]

@[simp] theorem execUsdoSegmentTimeout_sound (client) {s : State} (hs : s.Inv) : Sound (execUsdoSegmentTimeout client s) := by
  simp [execUsdoSegmentTimeout, hs]

@[simp] theorem execDictionaryWrite_sound (who idx sub data) {s : State} (hs : s.Inv) : Sound (execDictionaryWrite who idx sub data s) := by
  simp [execDictionaryWrite, hs]

@[simp] theorem execLockTake_sound (who) {s : State} (hs : s.Inv) : Sound (execLockTake who s) := by simp [execLockTake, hs]

@[simp] theorem execLockFree_sound (who) {s : State} (hs : s.Inv) : Sound (execLockFree who s) := by simp [execLockFree, hs]

@[simp] theorem execLockLeaseExpiry_sound {s : State} (hs : s.Inv) : Sound (execLockLeaseExpiry s) := by simp [execLockLeaseExpiry, hs]

@[simp] theorem execStoreParameters_sound (flashOk) {s : State} (hs : s.Inv) : Sound (execStoreParameters flashOk s) := by
  unfold execStoreParameters
  split
  · simp [hs]
  · exact (sound_next _).mpr (okOr_sound hs (State.inTurn_sound _ (State.storeParameters_sound _ _ hs)))

@[simp] theorem execRestoreDefaultParameters_sound {s : State} (hs : s.Inv) : Sound (execRestoreDefaultParameters s) :=
  (sound_next _).mpr (okOr_sound hs (State.inTurn_sound _ (State.restoreDefaults_sound _ hs)))

@[simp] theorem execErrorHistoryClear_sound {s : State} (hs : s.Inv) : Sound (execErrorHistoryClear s) := by
  simp [execErrorHistoryClear, hs]

@[simp] theorem execOverlayApply_sound (who mask) {s : State} (hs : s.Inv) : Sound (execOverlayApply who mask s) := by
  simp [execOverlayApply, hs]

@[simp] theorem execOverlayQuietPoint_sound {s : State} (hs : s.Inv) : Sound (execOverlayQuietPoint s) := by
  simp [execOverlayQuietPoint, hs]

@[simp] theorem execOverlayQuietTimeout_sound {s : State} (hs : s.Inv) : Sound (execOverlayQuietTimeout s) := by
  simp [execOverlayQuietTimeout, hs]

theorem State.rawBegin_sound {s : State} {v t} (h : s.rawBegin v = some t) (hs : s.Inv) : t.Inv := by
  unfold State.rawBegin at h
  repeat' split at h
  all_goals cases h
  · exact hs
  next h => exact State.rawCommand_sound _ hs _ h

@[simp] theorem State.rawPoll_sound (s : State) (v) : s.Sustains (s.rawPoll v) := .of fun hs => by
  unfold State.rawPoll
  dsimp only
  repeat' split
  all_goals simp [hs]

@[simp] theorem State.rawGo_sound (s : State) (v) : s.Sustains (s.rawGo v) := .of fun hs => by
  unfold State.rawGo
  split
  · exact hs
  next h => simp [State.rawBegin_sound h hs]

@[simp] theorem execRawReadQuick_sound {s : State} (hs : s.Inv) : Sound (execRawReadQuick s) := by simp [execRawReadQuick, hs]

@[simp] theorem execRawReadFull_sound {s : State} (hs : s.Inv) : Sound (execRawReadFull s) := by simp [execRawReadFull, hs]

@[simp] theorem execRawSectorWrite_sound {s : State} (hs : s.Inv) : Sound (execRawSectorWrite s) := by simp [execRawSectorWrite, hs]

@[simp] theorem State.nmt_sound (s : State) (n) : s.Sustains (s.nmt n) := .of fun hs => by simp [State.nmt, hs]

@[simp] theorem execNmtStartRemoteNode_sound {s : State} (hs : s.Inv) : Sound (execNmtStartRemoteNode s) := by
  simp [execNmtStartRemoteNode, hs]

@[simp] theorem execNmtEnterPreOperational_sound {s : State} (hs : s.Inv) : Sound (execNmtEnterPreOperational s) := by
  simp [execNmtEnterPreOperational, hs]

@[simp] theorem execNmtStopRemoteNode_sound {s : State} (hs : s.Inv) : Sound (execNmtStopRemoteNode s) := by
  simp [execNmtStopRemoteNode, hs]

@[simp] theorem execNmtResetCommunication_sound {s : State} (hs : s.Inv) : Sound (execNmtResetCommunication s) := by
  simp [execNmtResetCommunication, hs]

@[simp] theorem execNmtResetNode_sound {s : State} (hs : s.Inv) : Sound (execNmtResetNode s) := by simp [execNmtResetNode, hs]

@[simp] theorem execHeartbeat_sound {s : State} (hs : s.Inv) : Sound (execHeartbeat s) := by simp [execHeartbeat, hs]

@[simp] theorem execEmcyTransmit_sound {s : State} (hs : s.Inv) : Sound (execEmcyTransmit s) := by
  unfold execEmcyTransmit
  split <;> simp [hs]

@[simp] theorem execCanBusOff_sound {s : State} (hs : s.Inv) : Sound (execCanBusOff s) := by simp [execCanBusOff, hs]

@[simp] theorem execEventMark_sound (who data) {s : State} (hs : s.Inv) : Sound (execEventMark who data s) := by simp [execEventMark, hs]

@[simp] theorem execEventReadWindow_sound (client) {s : State} (hs : s.Inv) : Sound (execEventReadWindow client s) := by
  simp [execEventReadWindow, hs]

@[simp] theorem execFailoverHubRelease_sound {s : State} (hs : s.Inv) : Sound (execFailoverHubRelease s) := by
  unfold execFailoverHubRelease
  split <;> simp [hs]

/-! #### Machine/HostAdmin -/

@[simp] theorem execCreateRing_sound (q c) {s : State} (hs : s.Inv) : Sound (execCreateRing q c s) := by
  unfold execCreateRing
  refine (sound_next _).mpr ((State.onCommand_sound _ _ _ _ _ fun x => ?_).inv hs)
  dsimp only
  split <;> simp [hs]

@[simp] theorem execDeleteRing_sound (q c) {s : State} (hs : s.Inv) : Sound (execDeleteRing q c s) := by simp [execDeleteRing, hs]

@[simp] theorem State.completeDeletes_sound (s : State) (n) : s.Sustains (s.completeDeletes n) := .of fun hs => by
  simp [State.completeDeletes, hs]

@[simp] theorem execDeleteRingDone_sound (ring) {s : State} (hs : s.Inv) : Sound (execDeleteRingDone ring s) := by
  simp [execDeleteRingDone, hs]

@[simp] theorem execAbort_sound (q c) {s : State} (hs : s.Inv) : Sound (execAbort q c s) := by simp [execAbort, hs]

@[simp] theorem State.dictRefused_sound (s : State) (q c code) : s.Sustains (s.dictRefused q c code) := .of fun hs => by
  simp [State.dictRefused, hs]

@[simp] theorem execDictRead_sound (q c) {s : State} (hs : s.Inv) : Sound (execDictRead q c s) := by
  unfold execDictRead
  refine (sound_next _).mpr ((State.onCommand_sound _ _ _ _ _ fun x => ?_).inv hs)
  dsimp only
  repeat' split
  all_goals simp [hs]
  all_goals simp [State.dictRead_sound ‹_› hs]

@[simp] theorem execDictWrite_sound (q c data) {s : State} (hs : s.Inv) : Sound (execDictWrite q c data s) := by
  unfold execDictWrite
  refine (sound_next _).mpr ((State.onCommand_sound _ _ _ _ _ fun x => ?_).inv hs)
  dsimp only
  repeat' split
  all_goals simp [hs]
  next h => simp [State.dictWrite_sound _ _ _ _ hs _ h]

/-! #### Machine/Inputs -/

@[simp] theorem State.updPin_inv (s : State) (i f) : (s.updPin i f).Inv ↔ s.Inv := State.inv_congr rfl rfl rfl

@[simp] theorem State.epoAssert_sound (s : State) : s.Sustains s.epoAssert := .of fun hs => by simp [State.epoAssert, hs]

@[simp] theorem State.pinEvent_sound (s : State) (i level chatter) : s.Sustains (s.pinEvent i level chatter) := .of fun hs => by
  unfold State.pinEvent
  split <;> simp [hs]

@[simp] theorem State.acceptPin_sound (s : State) (i level) : s.Sustains (s.acceptPin i level) := .of fun hs => by
  simp [State.acceptPin, hs]

@[simp] theorem State.atOnce_sound (s : State) (i level) : s.Sustains (s.atOnce i level) := .of fun hs => by
  unfold State.atOnce; split <;> simp [hs]

@[simp] theorem State.filteredChange_sound (s : State) (i level) : s.Sustains (s.filteredChange i level) := .of fun hs => by
  simp [State.filteredChange, hs]

@[simp] theorem execEpoNAssert_sound {s : State} (hs : s.Inv) : Sound (execEpoNAssert s) := by simp [execEpoNAssert, hs]

@[simp] theorem execInputFilteredChange_sound (pin level) {s : State} (hs : s.Inv) : Sound (execInputFilteredChange pin level s) := by
  simp [execInputFilteredChange, hs]

@[simp] theorem execRateWindowEnd_sound (pin) {s : State} (hs : s.Inv) : Sound (execRateWindowEnd pin s) := by simp [execRateWindowEnd, hs]

@[simp] theorem execStuckTimeout_sound (pin) {s : State} (hs : s.Inv) : Sound (execStuckTimeout pin s) := by
  unfold execStuckTimeout
  split <;> simp [hs]

@[simp] theorem execStuckMaskLift_sound (pin) {s : State} (hs : s.Inv) : Sound (execStuckMaskLift pin s) := by simp [execStuckMaskLift, hs]

/-! #### Machine/Exec and Machine/Step -/

theorem exec_sound (c : Instr) {s : State} (hs : s.Inv) : Sound (exec c s) := by
  cases c <;> simp [exec, hs]

theorem State.tick_inv (s : State) : s.tick.Inv ↔ s.Inv := State.inv_congr rfl rfl rfl

theorem step_sound {s : State} (hs : s.Inv) : Sound (step s) := by
  unfold step
  split
  · exact (sound_next _).mpr (s.tick_inv.mpr hs)
  next rest _ => exact exec_sound _ ((State.mk_inv s rfl rfl).mpr hs)

/-- Settles O7: each command leads from a sound state to a sound one, and so does the passing of time. -/
theorem invariantKept : Obligations.InvariantKept := fun _ t hs => step_sound hs t

/-- Settles O6. -/
theorem invariantAtReset : Obligations.InvariantAtReset := ⟨by decide +kernel, by decide +kernel⟩

end Sys2Proof.Machine
namespace Sys2Proof.Machine
open Sys2Proof

/-! ### A step, and what a store gives back -/

/-- Settles O1. The idle tick is the model's choice (assumption 1). -/
theorem stepRunsFrontCommand : Obligations.StepRunsFrontCommand := by
  have hidle : ∀ {s : State}, s.pending = [] → step s = .next s.tick := fun h => by simp only [step, h]
  exact ⟨fun c rest s h => by simp only [step, h], fun s h => hidle h⟩

/-- The code word that a list of words holds for a granule. -/
def wordAt (g : Nat) (l : List CodeWord) : Option CodeWord := l.find? (fun w => w.gran = g)

theorem State.stored_eq (s : State) (g : Nat) :
    s.stored g = ((wordAt g s.buf.words).map (fun w => (w.data, w.check))).getD (0, s.checkBytes g 0 false) := by
  unfold State.stored wordAt
  split <;> next h => rw [h]; rfl

theorem wordAt_putWord_same (w : CodeWord) (l : List CodeWord) : wordAt w.gran (putWord w l) = some w := by
  induction l with
  | nil => simp [putWord, wordAt]
  | cons x l ih =>
    unfold putWord
    split
    · simp [wordAt]
    split
    · simp [wordAt]
    next hne => simpa [wordAt, List.find?_cons, Ne.symm hne] using ih

theorem wordAt_putWord_other {w : CodeWord} {a : Nat} (l : List CodeWord) (h : a ≠ w.gran) : wordAt a (putWord w l) = wordAt a l := by
  induction l with
  | nil => simp [putWord, wordAt, h.symm]
  | cons x l ih =>
    unfold putWord
    split
    · simp [wordAt, List.find?_cons, h.symm]
    split
    next heq => simp [wordAt, h.symm, ← heq]
    · simp only [wordAt, List.find?_cons] at ih ⊢
      rw [ih]

theorem wordAt_erase_same (g : Nat) (l : List CodeWord) : wordAt g (l.filter (fun w => w.gran ≠ g)) = none := by
  simp [wordAt]

theorem wordAt_erase_other {g a : Nat} (l : List CodeWord) (h : a ≠ g) : wordAt a (l.filter (fun w => w.gran ≠ g)) = wordAt a l := by
  unfold wordAt
  rw [List.find?_filter]
  congr 1
  funext w
  grind

theorem State.storeWord_stored_same (s : State) (g data check : Nat) : (s.storeWord g data check).stored g = (data, check) := by
  rw [State.stored_eq, State.checkBytes_storeWord]
  simp only [State.storeWord, State.updBuf]
  split
  next h => rw [wordAt_erase_same, h.1, h.2]; rfl
  · rw [wordAt_putWord_same ⟨g, data, check⟩]; rfl

theorem State.storeWord_stored_other (s : State) {g a : Nat} (data check : Nat) (h : a ≠ g) :
    (s.storeWord g data check).stored a = s.stored a := by
  rw [State.stored_eq, State.stored_eq, State.checkBytes_storeWord]
  simp only [State.storeWord, State.updBuf]
  split
  · rw [wordAt_erase_other _ h]
  · rw [wordAt_putWord_other _ h]

theorem State.setParam_param_same {s : State} (idx sub v : Nat) (h : storeWf (dictDefault s.part) s.dict.vals = true) :
    (s.setParam idx sub v).param idx sub = v := by
  simp only [storeWf, Bool.and_eq_true, decide_eq_true_eq] at h
  exact getVal_putVal_same _ _ _ _ h.2

theorem State.setParam_param_other (s : State) {idx sub i j : Nat} (v : Nat) (h : dictKey i j ≠ dictKey idx sub) :
    (s.setParam idx sub v).param i j = s.param i j := getVal_putVal_other _ _ _ _ _ _ h

/-- Settles O38. -/
theorem storesReadBack : Obligations.StoresReadBack :=
  ⟨fun s g data check h => ⟨s.storeWord_stored_same g data check, fun _ ha => s.storeWord_stored_other data check ha,
      s.storeWord_wf g data check h⟩,
    fun s idx sub v h => ⟨State.setParam_param_same idx sub v h, fun _ _ hk => s.setParam_param_other v hk,
      putVal_wf _ _ _ _ h⟩⟩

end Sys2Proof.Machine
namespace Sys2Proof.Machine
open Sys2Proof

/-! ### NMT commands, the heartbeat and EMCY messages -/

section
variable {s : State}

theorem State.nmt_started (h : s.can.started = true) (n : Nmt) : s.nmt n = { s with can := { s.can with nmt := n } } := if_pos h

theorem State.nmt_notStarted (h : s.can.started = false) (n : Nmt) : s.nmt n = s := if_neg (by simp [h])

theorem State.startCan_out (s : State) : s.startCan.out = if s.can.listenOnly then s.out else s.out ++ [.bootUp s.can.nodeId] := by
  by_cases h : s.can.nodeId = 0 <;> simp [State.startCan, Can.listenOnly, h, State.send]

theorem State.startCan_can (s : State) : s.startCan.can = { s.can with started := true, nmt := .preOperational, sessions := [] } := by
  by_cases h : s.can.nodeId = 0 <;> simp [State.startCan, Can.listenOnly, h]

theorem exec_nmtResetCommunication (h : s.can.started = true) : exec .cNmtResetCommunication s = .next s.startCan :=
  congrArg Host.Outcome.next (if_pos h)

theorem exec_nmtResetNode_parked (h : s.can.started = true) (hstate : s.dev.state = .lee ∨ s.dev.state = .bench) :
    exec .cNmtResetNode s = .next s.reactReset := by
  simp [exec, execNmtResetNode, h, hstate]

theorem exec_nmtResetNode_ignored (h : s.can.started = true) (hlee : s.dev.state ≠ .lee) (hbench : s.dev.state ≠ .bench) :
    exec .cNmtResetNode s = .next { s with can := { s.can with nmtIgnored := sat32 s.can.nmtIgnored 1 } } := by
  simp [exec, execNmtResetNode, h, hlee, hbench]

theorem exec_canBusOff (h : s.can.started = true) :
    exec .cCanBusOff s = .next (({ s with can := { s.can with busOffs := sat32 s.can.busOffs 1 } }).raise 412) :=
  congrArg Host.Outcome.next (if_pos h)

/-- A controller that has not started takes nothing from the network and sends nothing. -/
theorem exec_network_notStarted (h : s.can.started = false) : ∀ i ∈ [Instr.cNmtStartRemoteNode, .cNmtEnterPreOperational, .cNmtStopRemoteNode,
    .cNmtResetCommunication, .cNmtResetNode, .cCanBusOff, .cHeartbeat], exec i s = .next s := by
  simp [exec, execNmtStartRemoteNode, execNmtEnterPreOperational, execNmtStopRemoteNode, State.nmt_notStarted h, execNmtResetCommunication,
    execNmtResetNode, execCanBusOff, execHeartbeat, h]

theorem exec_heartbeat (h : s.can.started = true) (hnode : s.can.listenOnly = false) (hoff : s.dev.state ≠ .off)
    (hzephyr : s.dev.state ≠ .zephyr) : exec .cHeartbeat s = .next (s.send (.heartbeat s.can.nodeId s.can.nmt)) := by
  simp [exec, execHeartbeat, h, hnode, hoff, hzephyr]

theorem exec_emcyTransmit {m : Emcy} {l : List Emcy} (hq : s.can.emcyQueue = m :: l) (h : s.can.started = true) (hnmt : s.can.nmt ≠ .stopped)
    (hdue : s.emcyDue = true) : exec .cEmcyTransmit s = .next (({ s with can := { s.can with emcyQueue := l, emcyAt := some s.now } }).send
      (.emcy m.code m.register (natBytes 2 m.source ++ natBytes 1 m.cls ++ natBytes 1 m.unit ++ natBytes 4 m.opSec))) := by
  simp [exec, execEmcyTransmit, hq, h, hnmt, hdue]

theorem exec_emcyTransmit_waits (h : s.can.emcyQueue = [] ∨ s.can.nmt = .stopped ∨ s.emcyDue = false) :
    exec .cEmcyTransmit s = .next s := by
  refine congrArg Host.Outcome.next ?_
  cases hq : s.can.emcyQueue with
  | nil => rfl
  | cons m l => exact if_pos (by simpa [hq] using Or.inr h)

end

/-- Settles O46. -/
theorem networkCommands : Obligations.NetworkCommands := by
  refine fun s => ⟨fun h => ?_, exec_network_notStarted, fun h hnode hoff hzephyr => exec_heartbeat h hnode hoff hzephyr,
    fun m l hq h hnmt hdue => ⟨_, exec_emcyTransmit hq h hnmt hdue, rfl, rfl, rfl⟩, exec_emcyTransmit_waits⟩
  have hnmt (n : Nmt) : (.next (s.nmt n) : Res) = .next { s with can := { s.can with nmt := n } } := congrArg _ (State.nmt_started h n)
  refine ⟨hnmt _, hnmt _, hnmt _, ⟨_, exec_nmtResetCommunication h, ?_, ?_, ?_, s.startCan_out⟩, exec_nmtResetNode_parked h,
    exec_nmtResetNode_ignored h, exec_canBusOff h⟩
  all_goals rw [State.startCan_can]

end Sys2Proof.Machine
namespace Sys2Proof.Machine
open Sys2Proof

/-! ### USDO transfers and sessions -/

section
variable {s : State} {q : DictReq}

theorem State.usdo_ignored (h : s.usdoOpen q.who = false) : s.usdo q = s := by simp [State.usdo, h]

theorem State.usdo_held (h : s.usdoOpen q.who = true) (hover : s.clusters.failOver ≠ none) :
    s.usdo q = { s with heldAccess := s.heldAccess ++ [q] } := by
  simp [State.usdo, h, State.request, Option.isSome_iff_ne_none.mpr hover]

theorem State.usdo_served (h : s.usdoOpen q.who = true) (hover : s.clusters.failOver = none) : s.usdo q = s.serve q := by
  simp [State.usdo, h, State.request, hover]

end

/-- CAN takes nothing from this client. -/
theorem exec_usdo_ignored {s : State} {n : Nat} (h : s.usdoOpen n = false) (idx sub : Nat) (data : List Byte) (last : Bool) (size : Nat) :
    ∀ i ∈ [Instr.cUsdoExpeditedDownload n idx sub data, .cUsdoExpeditedUpload n idx sub, .cUsdoSegmentedDownloadInit n idx sub,
      .cUsdoDownloadSegment n data last, .cUsdoSegmentedUploadInit n idx sub, .cUsdoUploadSegment n size, .cUsdoAbort n],
      exec i s = .next s := by
  have hignored (q : DictReq) (hq : q.who = n) : (.next (s.usdo q) : Res) = .next s := by rw [State.usdo_ignored (by rw [hq, h])]
  simp only [List.forall_mem_cons]
  exact ⟨hignored _ rfl, hignored _ rfl, hignored _ rfl, hignored _ rfl, hignored _ rfl, hignored _ rfl,
    congrArg Host.Outcome.next (if_neg (by simp [h])), by simp⟩

/-! #### What the server answers -/

section
variable {s : State} {n idx sub : Nat}

theorem State.serveDownload_ok {data : List Byte} {t : State} (h : s.dictWrite n idx sub data = .ok t) :
    s.serveDownload n idx sub data = t.answer n 0 [] := by
  simp [State.serveDownload, h]

theorem State.serveDownload_error {data : List Byte} {e : Nat} (h : s.dictWrite n idx sub data = .error e) :
    s.serveDownload n idx sub data = (s.writeRefused idx data e).answer n e [] := by
  simp [State.serveDownload, h]

theorem State.serve_upload_ok {l : List Byte} {t : State} (h : (s.endSession n).dictRead n idx sub none = .ok (l, t)) :
    s.serve ⟨2, n, idx, sub, []⟩ = t.answer n 0 l := by
  simp [State.serve, h]

theorem State.serve_upload_error {e : Nat} (h : (s.endSession n).dictRead n idx sub none = .error e) :
    s.serve ⟨2, n, idx, sub, []⟩ = (s.endSession n).answer n e [] := by
  simp [State.serve, h]

section
variable (hroom : (s.endSession n).can.sessions.length < 16)
include hroom

theorem State.serveInit_upload {l : List Byte} {t : State} (h : (s.endSession n).dictRead n idx sub none = .ok (l, t)) :
    s.serveInit ⟨6, n, idx, sub, []⟩ true = (t.openSession ⟨n, true, idx, sub, l⟩).answer n 0 [] := by
  simp [State.serveInit, h, Nat.not_le.mpr hroom]

theorem State.serveInit_download :
    s.serveInit ⟨3, n, idx, sub, []⟩ false = ((s.endSession n).openSession ⟨n, false, idx, sub, []⟩).answer n 0 [] := by
  simp [State.serveInit, Nat.not_le.mpr hroom]

end

theorem State.serveInit_full {q : DictReq} (hfull : 16 ≤ (s.endSession q.who).can.sessions.length) (upload : Bool) :
    s.serveInit q upload = (s.endSession q.who).answer q.who 0x05040005 [] := by
  simp [State.serveInit, hfull]

section
variable {x : UsdoSession} (hx : s.can.session n = some x)
include hx

theorem State.serveSegment_more (hdown : x.upload = false) (data : List Byte) :
    s.serveSegment ⟨4, n, 0, 0, data⟩ false = (s.openSession { x with data := x.data ++ data }).answer n 0 [] := by
  simp [State.serveSegment, hx, hdown]

theorem State.serveSegment_last (hdown : x.upload = false) (data : List Byte) :
    s.serveSegment ⟨5, n, 0, 0, data⟩ true = (s.endSession n).serveDownload n x.index x.sub (x.data ++ data) := by
  simp [State.serveSegment, hx, hdown]

theorem State.serveNext_session (hup : x.upload = true) (size : Nat) : s.serveNext n size =
    (if x.data.length ≤ size then s.endSession n else s.openSession { x with data := x.data.drop size }).answer n 0 (x.data.take size) := by
  simp [State.serveNext, hx, hup, List.drop_eq_nil_iff]

end

end

theorem State.endSession_writeRefused {s : State} {n idx : Nat} (h : idx ≠ 0x1010) (l : List Byte) (e : Nat) :
    (s.endSession n).writeRefused idx l e = s.endSession n := if_neg fun hw => h hw.1

theorem State.endSession_session_same (s : State) (n : Nat) : (s.endSession n).can.session n = none := by
  simp [Can.session, State.endSession]

theorem State.endSession_session_other (s : State) {n m : Nat} (h : m ≠ n) : (s.endSession n).can.session m = s.can.session m := by
  simp only [Can.session, State.endSession, List.find?_filter]
  congr 1
  funext x
  grind

theorem exec_usdoSegmentTimeout {s : State} {n : Nat} (h : s.can.session n ≠ none) :
    exec (.cUsdoSegmentTimeout n) s = .next ((s.endSession n).answer n 0x05040000 []) :=
  congrArg Host.Outcome.next (if_pos (Option.isSome_iff_ne_none.mpr h))

/-- Settles O43. -/
theorem usdoSessions : Obligations.UsdoSessions := by
  refine fun s n => ⟨fun h idx sub data last size => exec_usdo_ignored h idx sub data last size,
    fun h hover idx sub data => ⟨congrArg Host.Outcome.next (State.usdo_held h hover), congrArg Host.Outcome.next (State.usdo_held h hover)⟩,
    fun h hover idx sub => ?_, exec_usdoSegmentTimeout, fun _ l e hidx => State.endSession_writeRefused hidx l e,
    s.endSession_session_same n, fun _ hm => s.endSession_session_other hm⟩
  have hserve (q : DictReq) {t : State} (hq : q.who = n) (ht : s.serve q = t) : (.next (s.usdo q) : Res) = .next t := by
    rw [State.usdo_served (by rw [hq, h]) hover, ht]
  refine ⟨fun data t ht => hserve _ rfl (State.serveDownload_ok ht), fun data e he => hserve _ rfl (State.serveDownload_error he),
    fun l t ht => ⟨hserve _ rfl (State.serve_upload_ok ht), fun hroom => hserve _ rfl (State.serveInit_upload hroom ht)⟩,
    fun e he => hserve _ rfl (State.serve_upload_error he), fun hroom => hserve _ rfl (State.serveInit_download hroom),
    fun hfull => ?_, fun x data hx hdown => ⟨hserve _ rfl (State.serveSegment_more hx hdown data),
      fun t ht => hserve _ rfl ((State.serveSegment_last hx hdown data).trans (State.serveDownload_ok ht)),
      fun e he => hserve _ rfl ((State.serveSegment_last hx hdown data).trans (State.serveDownload_error he))⟩,
    fun x size hx hup => hserve _ rfl (State.serveNext_session hx hup size), congrArg Host.Outcome.next (if_pos h)⟩
  simp only [List.forall_mem_cons]
  exact ⟨hserve _ rfl (State.serveInit_full hfull _), hserve _ rfl (State.serveInit_full hfull _), by simp⟩

end Sys2Proof.Machine
namespace Sys2Proof.Machine
open Sys2Proof

/-! ### The lock, the stored layer and the error history -/

/-- The row of the lock's entry. -/
def lockRow : Row := { off := 0x2401, lo := 1, hi := 1, ty := .u16, acc := .rw, chg := 500, rng := .within 0 1 }

theorem entryRow_lock : entryRow 0x2401 1 = some lockRow := by decide +kernel

theorem existsCheck_lock : existsCheck 0x2401 1 = .ok lockRow := by
  simp only [existsCheck, entryRow_lock]

section
variable {s : State} {who : Nat}

/-- A write of the lock that the states allow takes or frees it, and renews the lease of one who then holds it. -/
theorem State.dictWrite_lock {v : Nat} {l : List Byte} (hl : (v = 1 ∧ l = [1, 0]) ∨ (v = 0 ∧ l = [0, 0]))
    (hheld : s.lockHeldByOther who l = false) (hstate : s.stateRefuses 0x2401 1 lockRow l = false) :
    s.dictWrite who 0x2401 1 l = .ok (({ s with lock := { s.lock with holder := if v = 1 then who else 0 } } : State).renewLease who) := by
  obtain ⟨rfl, rfl⟩ | ⟨rfl, rfl⟩ := hl
  all_goals
    rw [State.dictWrite_effect existsCheck_lock (by decide) (by simpa [State.lockRefuses] using hheld) hstate (by rfl),
      State.writeEffect_special rfl rfl (by rfl) (by rfl)]
    rfl

theorem State.dictWrite_lock_held {l : List Byte} (hheld : s.lockHeldByOther who l = true) :
    s.dictWrite who 0x2401 1 l = .error 0x08000021 :=
  State.dictWrite_locked existsCheck_lock (by decide) (by simpa [State.lockRefuses] using hheld)

variable (hover : s.clusters.failOver = none) (hwho : 128 ≤ who)
include hover hwho

/-- A write by an identity that is no USDO client is not answered. -/
theorem request_write_ok {idx sub : Nat} {l : List Byte} {t : State} (h : s.dictWrite who idx sub l = .ok t) :
    s.request ⟨0, who, idx, sub, l⟩ = t := by
  rw [State.request, hover, if_neg (by simp), State.serve_write_ok h, if_neg (Nat.not_lt.mpr hwho)]

theorem request_write_error {idx sub e : Nat} {l : List Byte} (h : s.dictWrite who idx sub l = .error e) (he : e ≠ 0x08000020) :
    s.request ⟨0, who, idx, sub, l⟩ = s := by
  rw [State.request, hover, if_neg (by simp), State.serve_write_error h he, if_neg (Nat.not_lt.mpr hwho)]

theorem exec_lockTake (hstate : s.stateRefuses 0x2401 1 lockRow [1, 0] = false) (hfree : s.lock.holder = 0 ∨ s.lock.holder = who) :
    exec (.cLockTake who) s = .next { s with lock := { s.lock with holder := who, since := s.now } } := by
  have hheld : s.lockHeldByOther who [1, 0] = false := by
    obtain h | h := hfree <;> simp [State.lockHeldByOther, leNat, h]
  refine congrArg Host.Outcome.next ((request_write_ok hover hwho (State.dictWrite_lock (.inl ⟨rfl, rfl⟩) hheld hstate)).trans ?_)
  exact if_pos rfl

theorem exec_lockTake_held (hheld : s.lock.holder ≠ 0) (hother : s.lock.holder ≠ who) : exec (.cLockTake who) s = .next s := by
  have hbar : s.lockHeldByOther who [1, 0] = true := by simp [State.lockHeldByOther, leNat, hheld, hother]
  exact congrArg Host.Outcome.next (request_write_error hover hwho (State.dictWrite_lock_held hbar) (by decide))

theorem exec_lockFree (hstate : s.stateRefuses 0x2401 1 lockRow [0, 0] = false) (hmine : s.lock.holder = who) :
    exec (.cLockFree who) s = .next { s with lock := { s.lock with holder := 0 } } := by
  have hheld : s.lockHeldByOther who [0, 0] = false := by simp [State.lockHeldByOther, leNat, hmine]
  refine congrArg Host.Outcome.next ((request_write_ok hover hwho (State.dictWrite_lock (.inr ⟨rfl, rfl⟩) hheld hstate)).trans ?_)
  exact if_neg (show (0 : Nat) ≠ who by omega)

theorem exec_lockFree_other (hother : s.lock.holder ≠ who) : exec (.cLockFree who) s = .next s := by
  have hbar : s.lockHeldByOther who [0, 0] = true := by simp [State.lockHeldByOther, leNat, hother]
  exact congrArg Host.Outcome.next (request_write_error hover hwho (State.dictWrite_lock_held hbar) (by decide))

end

/-! #### The stored layer -/

section
variable {s : State}

theorem State.inTurn_allowed {mask : Nat} (h : s.changeable mask = true) (r : Except Nat State) : s.inTurn mask r = r := if_pos h

theorem okOr_inTurn_barred {mask : Nat} (h : s.changeable mask = false) (r : Except Nat State) : okOr s (s.inTurn mask r) = s := by
  simp [State.inTurn, h, okOr]

theorem State.writeStored_flash {i : Fin 2} {x : DictImage} (h : pickCopy (s.dictImageOk 3 0 s.dict.base) s.flash.stored = some (i, x)) :
    s.writeStored.flash.stored = s.flash.stored.set (otherImage i).val
      (some (storedImage ((x.revision + 1) % 2 ^ 32) (partProduct s.part) (s.storedSets.map recordFor))) (otherImage i).isLt := by
  unfold State.writeStored
  simp only [h]
  rfl

theorem State.writeStored_dict (s : State) : s.writeStored.dict = s.dict := rfl

theorem otherImage_ne (i : Fin 2) : otherImage i ≠ i := by
  unfold otherImage
  split <;> omega

section
variable (h : s.changeable statesUsual = true)
include h

theorem exec_storeParameters_failed : exec (.cStoreParameters false) s = .next (({ s with free := s.free + 1 }).raise 10) := by
  refine congrArg Host.Outcome.next ((if_pos ⟨h, by simp⟩).trans ?_)
  exact if_pos ⟨rfl, by decide, rfl⟩

theorem exec_storeParameters_done : exec (.cStoreParameters true) s = .next s.writeStored := by
  refine congrArg Host.Outcome.next ((if_neg (by simp)).trans ?_)
  rw [State.inTurn_allowed h]
  rfl

theorem exec_restoreDefaults : exec .cRestoreDefaultParameters s = .next
    ((({ s with flash := { s.flash with stored := Vector.replicate 2 none }, layers := { s.layers with storedState := 3 } }).send
      (.flashWrite 0 0)).send (.flashWrite 0 1)) := by
  refine congrArg Host.Outcome.next ?_
  rw [State.inTurn_allowed h]
  rfl

end

section
variable (h : s.changeable statesUsual = false)
include h

theorem exec_storeParameters_barred (ok : Bool) : exec (.cStoreParameters ok) s = .next s :=
  congrArg Host.Outcome.next ((if_neg (by simp [h])).trans (okOr_inTurn_barred h _))

theorem exec_restoreDefaults_barred : exec .cRestoreDefaultParameters s = .next s :=
  congrArg Host.Outcome.next (okOr_inTurn_barred h _)

end

end

/-- Settles O44. -/
theorem lockAndStoredLayer : Obligations.LockAndStoredLayer := by
  refine fun s => ⟨fun who r hover hr _ hwho hstate => ?_,
    fun hheld hdue => congrArg Host.Outcome.next (if_neg (not_or.mpr ⟨hheld, Nat.not_lt.mpr hdue⟩)),
    fun h => congrArg Host.Outcome.next (if_pos h), fun h => ⟨exec_storeParameters_failed h, fun i x hi => ?_, ?_⟩,
    fun h ok => ⟨exec_storeParameters_barred h ok, exec_restoreDefaults_barred h⟩, fun h => congrArg Host.Outcome.next (if_pos h)⟩
  · obtain rfl : lockRow = r := Except.ok.inj (existsCheck_lock.symm.trans hr)
    exact ⟨exec_lockTake hover hwho (hstate _ (by simp)), exec_lockTake_held hover hwho, exec_lockFree hover hwho (hstate _ (by simp)),
      exec_lockFree_other hover hwho⟩
  · refine ⟨_, _, exec_storeParameters_done h, ?_, ?_, rfl, s.writeStored_dict⟩
    · rw [State.writeStored_flash hi]
      exact Vector.getElem_set_self _
    · rw [State.writeStored_flash hi]
      exact Vector.getElem_set_ne _ _ (Fin.val_ne_of_ne (otherImage_ne i))
  · exact ⟨_, exec_restoreDefaults h, by simp [State.send], by simp [State.send], rfl⟩

end Sys2Proof.Machine
namespace Sys2Proof.Machine
open Sys2Proof

/-! ### The entry to Lee and the orderly close -/

section
variable {s : State}

/-- A move to Lee is pending: it completes once its wait is over. -/
theorem exec_leeEntry {m : PendingLee} (hm : s.dev.pendingLee = some m) : exec .cLeeEntryArmsUnloaded s =
    .next (if s.allArmsDown = false ∨ (m.cause = 0 ∧ s.svc.cmds ≠ []) then s else s.enterLee m.reduced m.cause) := by
  simp [exec, execLeeEntryArmsUnloaded, hm]

theorem State.clustersOff_role (s : State) (c : ClusterId) : s.clustersOff.clusters.unit[c].role = .off := by
  simp [State.clustersOff]

theorem State.refreshDomains_clusters (s : State) : s.refreshDomains.clusters = s.clusters := rfl

theorem State.enterLee_reduced_role (s : State) (cause : Nat) (c : ClusterId) : (s.enterLee true cause).clusters.unit[c].role = .off := by
  unfold State.enterLee
  dsimp only
  rw [State.refreshDomains_clusters, if_pos rfl, State.clustersOff_role]

/-! #### The steps of the close -/

/-- The close stands in one of its steps: what ends that step. -/
theorem exec_closeStep_first (h : s.dev.closeStep = 1) : exec .cOrderlyCloseStepDone s =
    .next (if s.noDataCommand then { s.stopBackground with dev := { s.dev with closeStep := 2 } } else s) := by
  simp only [exec, execOrderlyCloseStepDone, h]
  rfl

theorem exec_closeStep_second (h : s.dev.closeStep = 2) : exec .cOrderlyCloseStepDone s =
    .next (if s.backgroundEnded then { s with dev := { s.dev with closeStep := 3 } } else s) := by
  simp only [exec, execOrderlyCloseStepDone, h]

theorem exec_closeStep_third (h : s.dev.closeStep = 3) (hchanges : s.store.changes = []) (hjournal : s.store.journal = []) :
    exec .cOrderlyCloseStepDone s = .next s.closeFrom4 := by
  simp [exec, execOrderlyCloseStepDone, h, hchanges, hjournal]

theorem exec_closeStep_fifth (h : s.dev.closeStep = 5) (hdown : s.allArmsDown = true) :
    ∃ t, exec .cOrderlyCloseStepDone s = .next t ∧ t.dev.closeStep = 6 := by
  simp [exec, execOrderlyCloseStepDone, h, hdown]

theorem exec_closeStep_sixth (h : s.dev.closeStep = 6) (hnone : s.dev.pendingLee = none) :
    exec .cOrderlyCloseStepDone s = .next (s.enterLee false 0) := by
  simp only [exec, execOrderlyCloseStepDone, h, hnone]

theorem exec_closeStep_sixth_pending (h : s.dev.closeStep = 6) {m : PendingLee} (hm : s.dev.pendingLee = some m) :
    exec .cOrderlyCloseStepDone s = .next (s.enterLee m.reduced m.cause) := by
  simp only [exec, execOrderlyCloseStepDone, h, hm]

theorem exec_noClose (h : s.dev.closeStep = 0) : exec .cOrderlyCloseStepDone s = .next s ∧ exec .cShutdownTimeout s = .next s := by
  simp [exec, execOrderlyCloseStepDone, execShutdownTimeout, h]

theorem exec_reducedFormRailOff (h : s.dev.powerDown = false) : exec .cReducedFormRailOff s =
    .next (if s.dev.state = .lee ∧ s.dev.leeForm = 1 ∧ s.spindlesOff = true then s.flushAll.railsOff else s) := by
  simp [exec, execReducedFormRailOff, State.tryPowerDown, h]

end

/-- Settles O57. That a move by command waits for the framed commands (log entry 48), and that the close ends in the form of the move that
waits (log entry 171), are the model's choices. -/
theorem leeAndOrderlyClose : Obligations.LeeAndOrderlyClose := by
  refine fun s => ⟨fun m hm hdown hwait => ?_, fun m hm hwait => (exec_leeEntry hm).trans (congrArg _ (if_pos hwait)),
    fun reduced cause => ?_, fun h hidle => ?_, fun h hidle => ?_, fun h hend => ?_, fun h hend => ?_,
    exec_closeStep_third, exec_closeStep_fifth, exec_closeStep_sixth, fun _ h hm => exec_closeStep_sixth_pending h hm, exec_noClose,
    fun hfirst hlast => congrArg Host.Outcome.next (if_pos ⟨hfirst, hlast⟩),
    fun h hlee hform hoff => (exec_reducedFormRailOff h).trans (congrArg _ (if_pos ⟨hlee, hform, hoff⟩)),
    fun h hnot => (exec_reducedFormRailOff h).trans (congrArg _ (if_neg ?_))⟩
  · refine (exec_leeEntry hm).trans (congrArg _ (if_neg ?_))
    rintro (hup | ⟨hzero, hcmds⟩)
    · exact Bool.noConfusion (hdown.symm.trans hup)
    · exact hwait.elim (fun h => h hzero) hcmds
  · refine ⟨?_, ?_, ?_, ?_, ?_, fun hreduced c => ?_⟩
    · rw [State.enterLee_dev]
    · rw [State.enterLee_dev]
    · rw [State.enterLee_dev]
    · rw [State.enterLee_dev]; rfl
    · rw [State.enterLee_dev]; rfl
    · rw [hreduced, State.enterLee_reduced_role]
  · exact ⟨_, (exec_closeStep_first h).trans (congrArg _ (if_pos hidle)), rfl, rfl, rfl, rfl⟩
  · rw [exec_closeStep_first h, hidle]; rfl
  · rw [exec_closeStep_second h, hend]; rfl
  · rw [exec_closeStep_second h, hend]; rfl
  · rintro ⟨hlee, hform, hoff⟩
    simp [hlee, hform, hoff] at hnot

end Sys2Proof.Machine
namespace Sys2Proof.Machine
open Sys2Proof

/-! ### Records, rails and the state around them -/

/-- Staging a record leaves everything as it was but the recorder. -/
theorem State.stageRecord_eq (s : State) (r : EvRec) : s.stageRecord r = { s with recorder := (s.stageRecord r).recorder } := by
  unfold State.stageRecord
  extract_lets region room
  split <;> rfl

theorem State.queueForPack_eq (s : State) (r : EvRec) : s.queueForPack r = { s with packs := (s.queueForPack r).packs } := by
  unfold State.queueForPack
  repeat' split
  all_goals rfl

theorem State.numberRecord_eq (s : State) (r : EvRec) :
    s.numberRecord r = { s with recorder := (s.numberRecord r).recorder, packs := (s.numberRecord r).packs } := by
  unfold State.numberRecord
  rw [State.queueForPack_eq]
  rfl

/-- A new record changes the recorder and the logs of packs alone. -/
theorem State.formRecord_eq (s : State) (t : EvRec) :
    s.formRecord t = { s with recorder := (s.formRecord t).recorder, packs := (s.formRecord t).packs } := by
  unfold State.formRecord
  dsimp only
  rw [State.stageRecord_eq, State.numberRecord_eq]

theorem State.mergeRecord_eq (s : State) : s.mergeRecord = { s with recorder := s.mergeRecord.recorder, packs := s.mergeRecord.packs } := by
  unfold State.mergeRecord
  dsimp only
  repeat' split
  all_goals rfl

theorem State.record_eq (s : State) (t : EvRec) : s.record t = { s with recorder := (s.record t).recorder, packs := (s.record t).packs } := by
  unfold State.record
  split
  · exact s.mergeRecord_eq
  · exact s.formRecord_eq t

theorem State.setDevState_eq (s : State) (d : DevState) (form cause : Nat) : s.setDevState d form cause =
    { s with dev := { s.dev with state := d, leeForm := form, leeCause := cause }, recorder := (s.setDevState d form cause).recorder,
             packs := (s.setDevState d form cause).packs } :=
  State.record_eq _ _

/-- What the rails' going off leaves of the hub: no connection is made, and the commands and the clusters stay. -/
def State.hubParts (s : State) : List Conn × List CmdEntry × Clusters := (s.host.conns, s.svc.cmds, s.clusters)

theorem State.disableRail_hubParts (s : State) (r : RailId) : (s.disableRail r).hubParts = s.hubParts := by
  unfold State.disableRail
  split
  · dsimp only
    split <;> rfl
  · rfl

theorem State.domainsOff_hubParts (s : State) : s.domainsOff.hubParts = s.hubParts := rfl

theorem State.railsOff_hubParts (s : State) : s.railsOff.hubParts = s.hubParts := by
  rw [State.railsOff, State.domainsOff_hubParts]
  exact List.foldlRecOn (motive := fun t : State => t.hubParts = s.hubParts) _ _ rfl (fun t ht r _ => (State.disableRail_hubParts t r).trans ht)

/-! ### Zephyr, its ticks and wake events -/

section
variable {s : State}

/-! #### The entry -/

theorem exec_zephyrDelayExpiry (hdelay : s.param 0x7001 4 ≠ 0) (hmay : s.mayZephyr = true) (hentry : s.dev.zephyrEntry = false) :
    exec .cZephyrDelayExpiry s = .next s.beginZephyr := by
  simp [exec, execZephyrDelayExpiry, hdelay, hmay, hentry]

theorem exec_zephyrDelayExpiry_waits (h : s.param 0x7001 4 = 0 ∨ s.mayZephyr = false ∨ s.dev.zephyrEntry = true) :
    exec .cZephyrDelayExpiry s = .next s := by
  refine congrArg Host.Outcome.next (if_neg ?_)
  rintro ⟨hdelay, hmay, hentry⟩
  simp [hdelay, hmay, hentry] at h

theorem State.beginZephyr_enable (s : State) (r : RailId) : s.beginZephyr.rails[r].enable = false := by
  unfold State.beginZephyr
  dsimp only
  exact State.railsOff_enable s.saveCounters.clustersOff r

/-- The device in Zephyr, its wake levels noted. -/
def State.inZephyr (s : State) (energy : Nat) : State :=
  let t := ({ s with dev := { s.dev with zephyrEntry := false, commandBusy := false } }).setDevState .zephyr 255 255
  { t with dev := { t.dev with presAtEntry := t.presBits, energyAtEntry := energy, latchedWake := 0 } }

theorem exec_zephyrEntryDone (hentry : s.dev.zephyrEntry = true) (energy : Nat) : exec (.cZephyrEntryDone energy) s =
    .next (if s.dev.latchedWake = 0 then s.inZephyr energy else (s.inZephyr energy).startBoot s.dev.latchedWake false false) :=
  congrArg Host.Outcome.next (if_neg (by simp [hentry]))

theorem exec_zephyrEntryDone_none (hentry : s.dev.zephyrEntry = false) (energy : Nat) : exec (.cZephyrEntryDone energy) s = .next s :=
  congrArg Host.Outcome.next (if_pos (by simp [hentry]))

theorem State.inZephyr_dev (s : State) (energy : Nat) : (s.inZephyr energy).dev =
    { s.dev with state := .zephyr, leeForm := 255, leeCause := 255, zephyrEntry := false, commandBusy := false, presAtEntry := s.presBits,
                 energyAtEntry := energy, latchedWake := 0 } := by
  unfold State.inZephyr
  rw [State.setDevState_eq]
  rfl

/-! #### A start of Boot -/

theorem State.startBoot_state (s : State) (wake : Nat) (fromLee kept : Bool) : (s.startBoot wake fromLee kept).dev.state = .boot := by
  unfold State.startBoot
  dsimp only
  rw [State.setDevState_eq]

theorem State.startBoot_hubParts (s : State) (wake : Nat) (fromLee kept : Bool) :
    (s.startBoot wake fromLee kept).hubParts = ([], [], s.clustersOff.clusters) := by
  unfold State.startBoot
  extract_lets s1 s2 _ _ t
  have hrails : s2.hubParts = s1.hubParts := by
    unfold s2
    split
    · rfl
    · exact State.railsOff_hubParts _
  have ht : t.hubParts = s2.hubParts := by
    unfold t
    rw [State.setDevState_eq]
    rfl
  exact ht.trans hrails

theorem State.startBoot_cleared (s : State) (wake : Nat) (fromLee kept : Bool) : (s.startBoot wake fromLee kept).host.conns = []
    ∧ (s.startBoot wake fromLee kept).svc.cmds = [] ∧ ∀ c : ClusterId, (s.startBoot wake fromLee kept).clusters.unit[c].role = .off := by
  have hparts := s.startBoot_hubParts wake fromLee kept
  simp only [State.hubParts, Prod.mk.injEq] at hparts
  obtain ⟨hconns, hcmds, hclusters⟩ := hparts
  exact ⟨hconns, hcmds, fun c => by rw [hclusters]; exact s.clustersOff_role c⟩

/-! #### Wake events -/

section
variable {bit chatter temp : Nat}

theorem State.wakeEvent_masked (hoff : s.dev.state ≠ .off) (hmask : (s.param 0x7050 1).testBit bit = false) : s.wakeEvent bit chatter temp =
    let t := s.wakeRecord bit chatter temp
    { t with dev := { t.dev with wakes := sat32 t.dev.wakes 1, lastWake := 2 ^ bit } } := by
  simp [State.wakeEvent, hoff, hmask]

variable (hmask : (s.param 0x7050 1).testBit bit = true)
include hmask

theorem State.wakeEvent_latched (hoff : s.dev.state ≠ .off) (hentry : s.dev.zephyrEntry = true) : s.wakeEvent bit chatter temp =
    let t := s.wakeRecord bit chatter temp
    { t with dev := { t.dev with wakes := sat32 t.dev.wakes 1, lastWake := 2 ^ bit,
                                 latchedWake := if t.dev.latchedWake = 0 then wakeKind bit else t.dev.latchedWake } } := by
  simp [State.wakeEvent, hoff, hmask, hentry]

variable (hentry : s.dev.zephyrEntry = false)
include hentry

theorem State.wakeEvent_zephyr (hstate : s.dev.state = .zephyr) : s.wakeEvent bit chatter temp =
    let t := s.wakeRecord bit chatter temp
    ({ t with dev := { t.dev with wakes := sat32 t.dev.wakes 1, lastWake := 2 ^ bit } }).startBoot (wakeKind bit) false false := by
  simp [State.wakeEvent, hmask, hentry, hstate]

theorem State.wakeEvent_lee (hstate : s.dev.state = .lee) (hform : s.dev.leeForm = 1) (hcause : s.dev.leeCause = 0) :
    s.wakeEvent bit chatter temp =
    let t := s.wakeRecord bit chatter temp
    ({ t with dev := { t.dev with wakes := sat32 t.dev.wakes 1, lastWake := 2 ^ bit } }).startBoot (wakeKind bit) true false := by
  simp [State.wakeEvent, hmask, hentry, hstate, hform, hcause]

end

theorem State.wakeEvent_off (hoff : s.dev.state = .off) (bit chatter temp : Nat) : s.wakeEvent bit chatter temp = s := if_pos hoff

/-! #### Ticks -/

/-- The state in which a tick compares: it is counted. -/
def State.ticked (s : State) : State := { s with dev := { s.dev with ticks := sat32 s.dev.ticks 1 } }

theorem exec_zephyrTick_outside (h : s.dev.state ≠ .zephyr) (x : TickSample) : exec (.cZephyrTick x) s = .next s :=
  congrArg Host.Outcome.next (if_pos h)

/-- The die is no hotter than its threshold. -/
def State.dieCool (s : State) (die : Int) : Prop := die ≤ signedNat 8 (s.param 0x7060 4) * 256

section
variable (hstate : s.dev.state = .zephyr) {x : TickSample}
include hstate

section
variable (htemps : x.temps = [])
include htemps

theorem exec_zephyrTick_quiet (hpres : s.presBits = s.dev.presAtEntry) (hcool : s.dieCool x.die) (henergy : x.energy = 0) :
    exec (.cZephyrTick x) s = .next s.ticked := by
  simp [exec, execZephyrTick, hstate, htemps, hpres, henergy, Int.not_lt.mpr hcool, State.ticked]

theorem exec_zephyrTick_presence (hpres : s.presBits ≠ s.dev.presAtEntry) (hcool : s.dieCool x.die) (henergy : x.energy = 0) :
    exec (.cZephyrTick x) s = .next (s.ticked.wakeEvent 5 0 0) := by
  simp [exec, execZephyrTick, hstate, htemps, hpres, henergy, Int.not_lt.mpr hcool, State.ticked]

theorem exec_zephyrTick_hot (hpres : s.presBits = s.dev.presAtEntry) (hhot : ¬ s.dieCool x.die) (henergy : x.energy = 0) :
    exec (.cZephyrTick x) s = .next (s.ticked.wakeEvent 4 0 (lowBits 16 x.die)) := by
  simp [exec, execZephyrTick, hstate, htemps, hpres, henergy, Int.not_le.mp hhot, State.ticked]

theorem exec_zephyrTick_energy (hpres : s.presBits = s.dev.presAtEntry) (hcool : s.dieCool x.die) {q : PortId} (hfit : s.portFitted q = true)
    (hon : x.energy.testBit q.val = true) (hbefore : s.dev.energyAtEntry.testBit q.val = false) :
    exec (.cZephyrTick x) s = .next (s.ticked.wakeEvent 6 0 0) := by
  have hany : ∃ q : PortId, (s.portFitted q = true ∧ x.energy.testBit q.val = true) ∧ s.dev.energyAtEntry.testBit q.val = false :=
    ⟨q, ⟨hfit, hon⟩, hbefore⟩
  simp [exec, execZephyrTick, hstate, htemps, hpres, Int.not_lt.mpr hcool, State.ticked, hany]

end

theorem exec_zephyrTick_pack (hpres : s.presBits = s.dev.presAtEntry) {p : PackId} {v : Int} (hfit : s.packFitted p = true)
    (hin : s.inputs.pres[p].conditioned = true) (hbeyond : s.packBeyond v = true) {die : Int} (hcool : s.dieCool die) :
    exec (.cZephyrTick { temps := [⟨p, v⟩], die := die, energy := 0 }) s = .next (s.ticked.wakeEvent 4 0 (lowBits 16 v)) := by
  simp only [Fin.getElem_fin] at hin
  simp [exec, execZephyrTick, hstate, hpres, hfit, hin, hbeyond, Int.not_lt.mpr hcool, State.ticked]

end

end

/-- Settles O58. That the last wake event reads 2 to the power of its bit is the model's choice (log entry 47). -/
theorem zephyrAndWake : Obligations.ZephyrAndWake := by
  refine fun s => ⟨exec_zephyrDelayExpiry, exec_zephyrDelayExpiry_waits, ⟨rfl, rfl, rfl, s.beginZephyr_enable⟩,
    fun hentry hnone energy => ?_, fun hentry hlatched energy => ?_, exec_zephyrEntryDone_none, fun bit n hoff => ?_,
    fun bit n hoff => congrArg Host.Outcome.next (State.wakeEvent_off hoff _ _ _), fun wake fromLee kept => ?_,
    fun x h => exec_zephyrTick_outside h x, fun hstate x htemps => ⟨exec_zephyrTick_quiet hstate htemps, exec_zephyrTick_presence hstate htemps,
      exec_zephyrTick_hot hstate htemps, fun hpres hcool q hfit hon hbefore => exec_zephyrTick_energy hstate htemps hpres hcool hfit hon hbefore⟩,
    fun hstate hpres p v hfit hin hbeyond die hcool => exec_zephyrTick_pack hstate hpres hfit hin hbeyond hcool⟩
  · refine ⟨_, (exec_zephyrEntryDone hentry energy).trans (congrArg _ (if_pos hnone)), ?_⟩
    rw [State.inZephyr_dev]
    exact ⟨rfl, rfl, rfl, rfl⟩
  · exact ⟨_, (exec_zephyrEntryDone hentry energy).trans (congrArg _ (if_neg hlatched)), State.startBoot_state _ _ _ _, rfl⟩
  · exact ⟨fun hmask => congrArg Host.Outcome.next (State.wakeEvent_masked hoff hmask),
      fun hmask hentry hstate => congrArg Host.Outcome.next (State.wakeEvent_zephyr hmask hentry hstate),
      fun hmask hentry hstate hform hcause => congrArg Host.Outcome.next (State.wakeEvent_lee hmask hentry hstate hform hcause),
      fun hmask hentry => congrArg Host.Outcome.next (State.wakeEvent_latched hmask hoff hentry)⟩
  · obtain ⟨hconns, hcmds, hroles⟩ := s.startBoot_cleared wake fromLee kept
    exact ⟨s.startBoot_state wake fromLee kept, rfl, rfl, rfl, hconns, hcmds, hroles⟩

end Sys2Proof.Machine
namespace Sys2Proof.Machine
open Sys2Proof

/-! ### Event records formed, flushed and read -/

section
variable {s : State}

/-! #### A record formed or merged -/

theorem State.record_new {t : EvRec} (h : s.mergeable t = false) : s.record t = s.formRecord t := if_neg (by simp [h])

theorem State.record_merged {t : EvRec} (h : s.mergeable t = true) : s.record t = s.mergeRecord := if_pos h

theorem State.queueForPack_recorder (s : State) (r : EvRec) : (s.queueForPack r).recorder = s.recorder := by
  rw [State.queueForPack_eq]

theorem State.numberRecord_recorder (s : State) (r : EvRec) : (s.numberRecord r).recorder =
    { s.recorder with nextSeq := (s.recorder.nextSeq + 1) % 2 ^ 32, formed := sat32 s.recorder.formed 1,
                      newest := keepLast 64 (s.recorder.newest ++ [r]) } :=
  State.queueForPack_recorder _ r

theorem State.numberRecord_clusters (s : State) (r : EvRec) : (s.numberRecord r).clusters = s.clusters := by
  rw [State.numberRecord_eq]

/-- A record is staged, or lost for want of room. -/
theorem State.stageRecord_recorder (s : State) (r : EvRec) :
    (s.stageRecord r).recorder = { s.recorder with staging := s.recorder.staging ++ [⟨s.clusters.active.isSome, r⟩] }
    ∨ (s.stageRecord r).recorder = { s.recorder with lost := sat32 s.recorder.lost 1, lostUnreported := s.recorder.lostUnreported + 1 } := by
  unfold State.stageRecord
  extract_lets region room
  split
  · exact .inl rfl
  · exact .inr rfl

theorem State.formRecord_recorder (s : State) (t : EvRec) :
    (s.formRecord t).recorder = { (s.numberRecord (s.stamp t)).recorder with
      staging := s.recorder.staging ++ [⟨s.clusters.active.isSome, s.stamp t⟩] }
    ∨ (s.formRecord t).recorder = { (s.numberRecord (s.stamp t)).recorder with
      lost := sat32 s.recorder.lost 1, lostUnreported := s.recorder.lostUnreported + 1 } := by
  have h := (s.numberRecord (s.stamp t)).stageRecord_recorder (s.stamp t)
  simp only [State.numberRecord_clusters, State.numberRecord_recorder] at h ⊢
  exact h

theorem State.mergeRecord_recorder (s : State) : s.mergeRecord.recorder =
    { s.recorder with merged := sat32 s.recorder.merged 1, staging := bumpStaged s.recorder.staging, newest := bumpLast s.recorder.newest } := by
  unfold State.mergeRecord
  dsimp only
  repeat' split
  all_goals rfl

theorem bumpStaged_length (l : List Staged) : (bumpStaged l).length = l.length := by
  unfold bumpStaged
  split
  next h => rw [List.reverse_eq_nil_iff.mp h]
  next g rest h => simpa using (congrArg List.length h).symm

/-! #### The counter block -/

theorem State.formRecord_flash (s : State) (t : EvRec) : (s.formRecord t).flash = s.flash := by
  rw [State.formRecord_eq]

theorem State.storeStaged_counters (s : State) (g : Staged) : (s.storeStaged g).flash.counters = s.flash.counters := by
  unfold State.storeStaged
  split
  · unfold State.storePinned
    dsimp only
    split
    · rfl
    · rw [State.formRecord_flash]
  · rfl

theorem State.flushStaging_counters (s : State) (keep : Nat) : (s.flushStaging keep).flash.counters = s.flash.counters := by
  have hfold (l : List Staged) (t : State) : (l.foldl State.storeStaged t).flash.counters = t.flash.counters := by
    induction l generalizing t with
    | nil => rfl
    | cons g l ih => exact (ih _).trans (t.storeStaged_counters g)
  unfold State.flushStaging
  dsimp only
  split
  · exact hfold _ _
  · rw [State.formRecord_flash]
    exact hfold _ _

theorem State.flushAll_counters (s : State) : s.flushAll.flash.counters = s.flash.counters := by
  unfold State.flushAll
  split
  · exact s.flushStaging_counters 0
  · rfl

theorem State.saveCounters_counters (h : s.flashReachable = true) :
    s.saveCounters.flash.counters = some ⟨s.dev.opSec, s.dev.powerCycles, s.recorder.fatalOverwritten⟩ := by
  rw [State.saveCounters, if_pos h, State.flushAll_counters]

theorem State.flashWriteFails_reached (h : s.flashReachable = true) :
    s.flashWriteFails = (s.updRecorder (fun c => { c with writeFailures := sat32 c.writeFailures 1 })).raise 9 := if_pos h

theorem exec_stagingFlush_failed (h : 1 < s.recorder.staging.length) : exec (.cStagingFlush false) s = .next s.flashWriteFails :=
  congrArg Host.Outcome.next ((if_neg (by simp)).trans (if_neg (Nat.not_le.mpr h)))

theorem exec_stagingHoldExpiry_failed (h : s.recorder.staging ≠ []) : exec (.cStagingHoldExpiry false) s = .next s.flashWriteFails :=
  congrArg Host.Outcome.next ((if_neg (by simp)).trans (if_neg h))

/-- While flash cannot be reached nothing is saved or flushed. -/
theorem exec_flushes_unreached (h : s.flashReachable = false) (ok : Bool) :
    exec (.cCounterSave ok) s = .next s ∧ exec (.cStagingFlush ok) s = .next s := by
  cases ok <;> simp [exec, execCounterSave, execStagingFlush, State.saveCounters, State.flashWriteFails, h]

/-! #### The read window -/

/-- The row of the read window's entry. -/
def windowRow : Row := { off := 0x8802, lo := 3, hi := 3, ty := .dom 65536, acc := .ro }

theorem entryRow_window : entryRow 0x8802 3 = some windowRow := by decide +kernel

theorem existsCheck_window : existsCheck 0x8802 3 = .ok windowRow := by
  simp only [existsCheck, entryRow_window]

/-- A USDO client that may read takes at most 64 records from the read window. -/
theorem State.dictRead_window {n : Nat} (hstate : s.readRefuses 0x8802 = false) :
    s.dictRead n 0x8802 3 none = .ok (((s.windowRead n 64).1.map EvRec.bytes).flatten, (s.windowRead n 64).2) := by
  simp only [State.dictRead, existsCheck_window, hstate]
  rfl

end

theorem examine_length (f n : Nat) (c : Option Nat) (l : List EvRec) : (examine f n c l).1.length ≤ n := by
  induction l generalizing n c with
  | nil => cases n <;> simp [examine]
  | cons r l ih =>
    cases n with
    | zero => simp [examine]
    | succ n =>
      unfold examine
      dsimp only
      split
      · simpa using ih n _
      · exact ih (n + 1) _

theorem examine_passes (f n : Nat) (c : Option Nat) (l : List EvRec) : ∀ r ∈ (examine f n c l).1, r ∈ l ∧ passesFilter f r = true := by
  induction l generalizing n c with
  | nil => cases n <;> simp [examine]
  | cons x l ih =>
    cases n with
    | zero => simp [examine]
    | succ n =>
      unfold examine
      dsimp only
      split
      next hpass =>
        intro r hr
        obtain rfl | hr := List.mem_cons.mp hr
        · exact ⟨List.mem_cons_self, hpass⟩
        · exact (ih n _ r hr).imp_left (List.mem_cons_of_mem _)
      · exact fun r hr => (ih (n + 1) _ r hr).imp_left (List.mem_cons_of_mem _)

section
variable (s : State) (who cap : Nat)

theorem State.windowRead_length : (s.windowRead who cap).1.length ≤ cap := examine_length _ _ _ _

theorem State.windowRead_passes : ∀ r ∈ (s.windowRead who cap).1, r ∈ s.heldRecords ∧ passesFilter (s.reader who).filter r = true :=
  fun r hr => (examine_passes _ _ _ _ r hr).imp_left fun h => (List.mem_filter.mp h).1

end

/-- Settles O60. -/
theorem recorderWrites : Obligations.RecorderWrites := by
  refine fun s => ⟨fun r hnew => ?_, fun r hmerge => ?_, fun h => ⟨_, rfl, State.saveCounters_counters h⟩,
    fun h => ⟨?_, ?_, fun hstaged => ?_, fun hstaged => ?_⟩,
    exec_flushes_unreached, rfl, fun who data t hover hwho ht => congrArg Host.Outcome.next (request_write_ok hover hwho ht),
    fun n r hopen hover hr hstate => ?_, fun n => ⟨s.windowRead_length n 64, s.windowRead_passes n 64⟩⟩
  · rw [State.record_new hnew]
    obtain h | h := s.formRecord_recorder r <;> rw [h, State.numberRecord_recorder]
    · exact ⟨rfl, rfl, rfl, .inl rfl⟩
    · exact ⟨rfl, rfl, rfl, .inr ⟨rfl, rfl⟩⟩
  · rw [State.record_merged hmerge, State.mergeRecord_recorder]
    exact ⟨rfl, rfl, bumpStaged_length _⟩
  · exact congrArg Host.Outcome.next (State.flashWriteFails_reached h)
  · exact congrArg Host.Outcome.next (if_pos h)
  · rw [exec_stagingFlush_failed hstaged, State.flashWriteFails_reached h]
  · rw [exec_stagingHoldExpiry_failed hstaged, State.flashWriteFails_reached h]
  · refine congrArg Host.Outcome.next ((State.usdo_served hopen hover).trans (State.serve_upload_ok ?_))
    exact State.dictRead_window hstate

end Sys2Proof.Machine
namespace Sys2Proof.Machine
open Sys2Proof

/-! ### Injection, its token, and the unlock token of the test access port -/

/-- A write that is refused leaves the state as it is. -/
theorem next_refused {s : State} {r : Except Nat State} {e : Nat} (h : r = .error e) : (.next (okOr s r) : Res) = .next s := by
  rw [h]; rfl

theorem next_taken {s t : State} {r : Except Nat State} (h : r = .ok t) : (.next (okOr s r) : Res) = .next t := by
  rw [h]; rfl

section
variable {s : State} {l : List Byte}

/-! #### The tokens -/

theorem State.injectionToken_outside (h : s.dev.state ≠ .bench) : s.injectionToken l = .error 0x08000022 := if_pos h

section
variable (h : s.dev.state = .bench)
include h

theorem State.injectionToken_good (hgood : s.tokenGood 0x4946564F s.injection.nonce 3 l = true) : s.injectionToken l =
    .ok { s with injection := ⟨s.free, 1, fieldAt l 0x1C 4, fieldAt l 0x18 4⟩, free := s.free + 1 } := by
  simp [State.injectionToken, h, hgood]

theorem State.injectionToken_bad (hbad : s.tokenGood 0x4946564F s.injection.nonce 3 l = false) : s.injectionToken l =
    .ok { s with injection := { s.injection with nonce := s.free, tokenState := 2, permissions := 0 }, free := s.free + 1 } := by
  simp [State.injectionToken, h, hbad]

end

theorem State.unlockToken_outside (hlee : s.dev.state ≠ .lee) (hbench : s.dev.state ≠ .bench) : s.unlockToken l = .error 0x08000022 :=
  if_pos ⟨hlee, hbench⟩

section
variable (h : s.dev.state = .lee ∨ s.dev.state = .bench)
include h

theorem State.unlockToken_good (hgood : s.tokenGood 0x5554564F s.sec.tapNonce 2 l = true) : s.unlockToken l =
    .ok { s with free := s.free + 1, sec := ⟨true, fieldAt l 0x1C 4, s.free⟩ } :=
  (if_neg fun ⟨hlee, hbench⟩ => h.elim hlee hbench).trans (if_pos hgood)

theorem State.unlockToken_bad (hbad : s.tokenGood 0x5554564F s.sec.tapNonce 2 l = false) : s.unlockToken l =
    .ok (({ s with free := s.free + 1, sec := { s.sec with tapNonce := s.free } }).raise 415) :=
  (if_neg fun ⟨hlee, hbench⟩ => h.elim hlee hbench).trans (if_neg (ne_true_of_eq_false hbad))

end

/-! #### Arming -/

theorem State.injectionArm_closed (h : s.injectionOpen (s.param 0xF100 5) = false) (v : Nat) : s.injectionArm v = .error 0x08000022 :=
  if_pos (ne_true_of_eq_false h)

section
variable (h : s.injectionOpen (s.param 0xF100 5) = true)
include h

theorem State.injectionArm_zero : s.injectionArm 0 = .ok (s.setParam 0xF100 6 0) := (if_neg (not_not.mpr h)).trans (if_pos rfl)

/-- Arming acts as the mode says. -/
theorem State.injectionArm_one : s.injectionArm 1 =
    if s.param 0xF100 5 = 1 ∨ s.param 0xF100 5 = 2 then .ok ((s.setParam 0xF100 6 1).raiseWith (s.param 0xF100 4) 0 0xFFFF 4)
    else if s.param 0xF100 5 = 4 then .ok ((s.setParam 0xF100 6 1).arbiterFail 0 3 4)
    else .ok (s.setParam 0xF100 6 1) :=
  ((if_neg (not_not.mpr h)).trans (if_neg (by decide))).trans (if_pos rfl)

end

end

/-- Settles O51. -/
theorem tokensAndInjection : Obligations.TokensAndInjection := by
  refine fun s l => ⟨fun h => next_refused (State.injectionToken_outside h),
    fun h => ⟨fun hgood => next_taken (State.injectionToken_good h hgood),
      fun hbad => ⟨_, next_taken (State.injectionToken_bad h hbad), rfl, rfl, rfl⟩⟩,
    fun h arm => next_refused (State.injectionArm_closed h _),
    fun h => ⟨next_taken (State.injectionArm_zero h), fun hmode => ?_, fun hmode => ?_, fun hmode => ?_⟩,
    fun harmed hmode hopen => congrArg Host.Outcome.next (if_pos ⟨harmed, hmode, hopen⟩),
    fun hoff => congrArg Host.Outcome.next (if_neg fun ⟨harmed, _⟩ => hoff harmed),
    fun hlee hbench => next_refused (State.unlockToken_outside hlee hbench),
    fun h => ⟨fun hgood => ⟨_, next_taken (State.unlockToken_good h hgood), rfl⟩, fun hbad => next_taken (State.unlockToken_bad h hbad)⟩⟩
  · exact next_taken ((State.injectionArm_one h).trans (if_pos hmode))
  · exact next_taken ((State.injectionArm_one h).trans (by simp [hmode]))
  · exact next_taken ((State.injectionArm_one h).trans (by simp [hmode]))

end Sys2Proof.Machine
namespace Sys2Proof.Machine
open Sys2Proof

/-! ### The flash window, the boot selector, the fuses and the store's secrets -/

section
variable {s : State}

/-- A write in turn acts as its effect. -/
theorem next_inTurn {mask : Nat} {t : State} {r : Except Nat State} (hturn : s.changeable mask = true) (h : r = .ok t) :
    (.next (okOr s (s.inTurn mask r)) : Res) = .next t :=
  next_taken ((State.inTurn_allowed hturn r).trans h)

theorem next_inTurn_refused {mask e : Nat} {r : Except Nat State} (h : r = .error e) : (.next (okOr s (s.inTurn mask r)) : Res) = .next s := by
  unfold State.inTurn
  split
  · exact next_refused h
  · rfl

theorem next_outOfTurn {mask : Nat} (h : s.changeable mask = false) (r : Except Nat State) :
    (.next (okOr s (s.inTurn mask r)) : Res) = .next s := congrArg _ (okOr_inTurn_barred h r)

/-! #### The flash window -/

section
variable {l : List Byte}

theorem exec_flashDataWrite (hlong : l ≠ []) (hshort : l.length ≤ 65536) :
    exec (.cFlashDataWrite l) s = .next (okOr s (s.inTurn statesUsual (s.flashData l))) :=
  congrArg Host.Outcome.next (congrArg (okOr s) (if_neg (by simp [hlong, hshort])))

theorem exec_flashDataWrite_barred (h : ∀ r, r = s.flashData l → okOr s (s.inTurn statesUsual r) = s) :
    exec (.cFlashDataWrite l) s = .next s := by
  refine congrArg Host.Outcome.next ?_
  split
  · rfl
  · exact h _ rfl

theorem State.flashData_starts (hidle : s.window.state ≠ 1) (hfree : s.targetHeld (s.param 0x7402 1) = false)
    (hfits : s.param 0x7402 2 + l.length ≤ targetSize (s.param 0x7402 1))
    (herased : s.erasedAt (s.param 0x7402 1) (s.param 0x7402 2) l.length = true) :
    s.flashData l = .ok ((s.flashStart 3 l).setParam 0x7402 2 (s.param 0x7402 2 + l.length)) :=
  (if_neg (by simp [hidle, hfree])).trans (if_neg (by simp [hfits, herased]))

theorem State.flashData_refused (h : s.window.state = 1 ∨ s.targetHeld (s.param 0x7402 1) = true
    ∨ targetSize (s.param 0x7402 1) < s.param 0x7402 2 + l.length ∨ s.erasedAt (s.param 0x7402 1) (s.param 0x7402 2) l.length = false) :
    ∃ e, s.flashData l = .error e := by
  by_cases hbusy : s.window.state = 1 ∨ s.targetHeld (s.param 0x7402 1) = true
  · exact ⟨_, if_pos hbusy⟩
  · refine ⟨_, (if_neg hbusy).trans (if_pos ?_)⟩
    rw [not_or] at hbusy
    simpa [hbusy] using h

end

theorem State.flashCommand_starts {v : Nat} (hv : v = 1 ∨ v = 2) (hidle : s.window.state ≠ 1)
    (hfree : v = 1 → s.targetHeld (s.param 0x7402 1) = false) : s.flashCommand v = .ok (s.flashStart v []) :=
  (if_neg (by omega)).trans (if_neg (by rintro (h | ⟨h, hheld⟩); exacts [hidle h, by simp [hfree h] at hheld]))

theorem State.flashCommand_refused {v : Nat} (hv : v = 1 ∨ v = 2)
    (h : s.window.state = 1 ∨ (v = 1 ∧ s.targetHeld (s.param 0x7402 1) = true)) : s.flashCommand v = .error 0x08000022 :=
  (if_neg (by omega)).trans (if_pos h)

theorem State.verifyTarget_flash (s : State) (t : Nat) : (s.verifyTarget t).2.flash = s.flash := by
  unfold State.verifyTarget
  repeat' split
  all_goals rfl

theorem State.noteErased_image {t : Nat} (h : t < 2) :
    s.noteErased t = { s with window := { s.window with imageState := s.window.imageState.set t 0 h } } := dif_pos h

theorem exec_flashErase_done (hop : s.window.op = 1) (content : FlashContent) :
    exec (.cFlashOperationDone true content) s = .next (({ s with
      flash := s.flash.setTarget s.window.target .none,
      window := { s.window with
        placed := s.window.placed.filter (fun x => x ≠ s.window.target), state := 2, op := 0,
        bytes := s.window.bytes.filter (fun x =>
          decide (x.1 < s.window.target * 2 ^ 24 ∨ s.window.target * 2 ^ 24 + 2 ^ 24 ≤ x.1)) } }).noteErased s.window.target) := by
  simp only [exec, execFlashOperationDone, hop, if_true]

theorem exec_flashErased (hop : s.window.op = 1) (htarget : s.window.target < 2) (content : FlashContent) :
    ∃ t, exec (.cFlashOperationDone true content) s = .next t ∧ t.window.state = 2 ∧ t.window.op = 0
      ∧ t.flash = s.flash.setTarget s.window.target .none ∧ (t.window.imageState.toList[s.window.target]?) = some 0 := by
  refine ⟨_, exec_flashErase_done hop content, ?_⟩
  rw [State.noteErased_image htarget]
  exact ⟨rfl, rfl, rfl, by simp [htarget]⟩

theorem exec_flashVerified (hop : s.window.op = 2) (content : FlashContent) :
    ∃ t, exec (.cFlashOperationDone true content) s = .next t ∧ t.window.op = 0
      ∧ t.window.state = (if (s.verifyTarget s.window.target).1 then 2 else 4) ∧ t.flash = s.flash := by
  refine ⟨_, rfl, ?_⟩
  simp only [hop, if_true, Bool.true_and]
  exact ⟨trivial, trivial, s.verifyTarget_flash _⟩

theorem exec_flashProgrammed (hop : s.window.op = 3) (content : FlashContent) :
    exec (.cFlashOperationDone true content) s = .next { s with
      flash := s.flash.setTarget s.window.target content,
      window := { s.window with state := 2, op := 0, data := [],
                                bytes := mergeCells (s.window.target * 2 ^ 24 + s.window.offset) s.window.data s.window.bytes } } := by
  simp only [exec, execFlashOperationDone, hop, if_true]

/-! #### The boot selector and the fuses -/

theorem State.preferImage_decides {i : Fin 2} {x : Selector} (h : s.flash.decides = some (i, x)) {v : Nat} (hv : v < 2) : s.preferImage v =
    .ok (({ s with flash := { s.flash with
      selector := s.flash.selector.set (otherImage i).val (selectorBytes ⟨(x.seq + 1) % 2 ^ 32, v⟩) (otherImage i).isLt } }).send
        (.flashWrite 1 (otherImage i).val)) := by
  simp [State.preferImage, h, Nat.not_le.mpr hv]

theorem State.preferImage_reserved {v : Nat} (hv : 2 ≤ v) : s.preferImage v = .error 0x06090030 := if_pos hv

section
variable {v : Nat} {x y : FwImage} {run : Fin 2} (hrun : run = if s.window.running = 0 then 0 else 1) (hx : s.flash.image[run] = some x)
  (hy : s.flash.image[otherImage run] = some y)
include hrun hx hy

/-- A security version is committed that is new and that both images carry. -/
theorem State.commitSecurity_eq : s.commitSecurity v =
    if s.fuses.securityVersion < v ∧ v ≤ x.securityVersion ∧ s.window.imageState[otherImage run] = 1 ∧ v ≤ y.securityVersion then
      .ok (({ s with fuses := { s.fuses with securityVersion := v } }).record { type := 0x50, code := 6, detail := detailAt 0x24 v })
    else .error 0x06090030 := by
  subst hrun
  unfold State.commitSecurity
  simp only [hx, hy]

theorem State.commitSecurity_refused (h : x.securityVersion < v ∨ y.securityVersion < v) : s.commitSecurity v = .error 0x06090030 := by
  refine (State.commitSecurity_eq hrun hx hy).trans (if_neg ?_)
  rintro ⟨-, hvx, -, hvy⟩
  exact h.elim (Nat.not_lt.mpr hvx) (Nat.not_lt.mpr hvy)

end

theorem State.revokeKey_done {v : Nat} (hv : v < 64) : s.revokeKey v =
    .ok (({ s with fuses := { s.fuses with keyRevoked := s.fuses.keyRevoked ||| 2 ^ v } }).record
      { type := 0x50, code := 7, detail := detailAt 0x24 v }) := if_neg (Nat.not_le.mpr hv)

theorem State.revokeKey_reserved {v : Nat} (hv : 64 ≤ v) : s.revokeKey v = .error 0x06090030 := if_pos hv

/-! #### The store's secrets -/

theorem exec_escrowKeyWrite {key : List Byte} (hlength : key.length = 96) (hturn : s.changeable 0x24 = true) :
    exec (.cEscrowKeyWrite key) s = .next (if leNat key ≠ 0 ∧ s.dev.state = .assemble ∧ s.store.isOpen then
      (s.setParam 0x7404 2 (leNat key)).updStore (fun t => { t with disk := { t.disk with escrow := true } })
    else s.setParam 0x7404 2 (leNat key)) := by
  refine next_taken ((if_neg (by simp [hlength])).trans ?_)
  exact State.inTurn_allowed hturn _

theorem exec_escrowKeyWrite_length {key : List Byte} (hlength : key.length ≠ 96) : exec (.cEscrowKeyWrite key) s = .next s :=
  next_refused (if_pos hlength)

theorem importKeys_length {l x : List Byte} (h : importKeys l = some x) : ¬ (l.length = 0 ∨ 1024 < l.length) := by
  unfold importKeys at h
  dsimp only at h
  split at h
  next hmap =>
    obtain ⟨hmost, -, -, -, -, -, hlength⟩ := hmap
    omega
  · cases h

theorem exec_storeKeyImport {l x : List Byte} (h : importKeys l = some x) (hturn : s.changeable 0x20 = true) :
    exec (.cStoreKeyImport l) s = .next (s.importSecrets x) := by
  refine next_taken ((if_neg (importKeys_length h)).trans ?_)
  rw [State.inTurn_allowed hturn, State.keyImport, h]

theorem exec_storeKeyImport_refused {l : List Byte} (h : importKeys l = none ∨ s.changeable 0x20 = false) :
    exec (.cStoreKeyImport l) s = .next s := by
  simp only [exec, execStoreKeyImport]
  split
  · rfl
  · obtain h | h := h
    · exact next_inTurn_refused (by rw [State.keyImport, h])
    · exact next_outOfTurn h _

end

/-- Settles O59. That a window write is refused while an operation runs (log entry 55), and that the offset advances when a data write is
taken (log entry 56), are the model's choices. -/
theorem flashWindow : Obligations.FlashWindow := by
  refine fun s => ⟨fun hturn => ⟨fun l hlong hshort hidle hfree hfits herased => ?_, fun l h => ?_,
      fun hidle hfree => next_inTurn hturn (State.flashCommand_starts (.inl rfl) hidle fun _ => hfree),
      fun hidle => next_inTurn hturn (State.flashCommand_starts (.inr rfl) hidle (by simp)),
      fun hbusy => ⟨next_inTurn_refused (State.flashCommand_refused (.inl rfl) (.inl hbusy)),
        next_inTurn_refused (State.flashCommand_refused (.inr rfl) (.inl hbusy))⟩,
      fun hheld => next_inTurn_refused (State.flashCommand_refused (.inl rfl) (.inr ⟨rfl, hheld⟩)),
      fun i x hx v hv => next_inTurn hturn (State.preferImage_decides hx hv), fun v hv => next_inTurn_refused (State.preferImage_reserved hv)⟩,
    fun hturn l v => ?_, fun content hop htarget => exec_flashErased hop htarget content, fun content hop => exec_flashProgrammed hop content,
    fun content hop => exec_flashVerified hop content, fun v hturn => next_outOfTurn hturn _,
    fun v x y hturn hx hy hvalid hnew => ⟨fun hvx hvy =>
        next_inTurn hturn ((State.commitSecurity_eq rfl hx hy).trans (if_pos ⟨hnew, hvx, hvalid, hvy⟩)),
      fun hless => next_inTurn_refused (State.commitSecurity_refused rfl hx hy hless)⟩,
    fun v hv hturn => next_inTurn hturn (State.revokeKey_done hv), fun v h => ?_,
    fun key hlength hturn hshut => (exec_escrowKeyWrite hlength hturn).trans (congrArg _ (if_neg ?_)),
    fun key hlength hturn hzero hstate hopen => (exec_escrowKeyWrite hlength hturn).trans (congrArg _ (if_pos ⟨hzero, hstate, hopen⟩)),
    fun key hlength => exec_escrowKeyWrite_length hlength, fun l x hx hturn => exec_storeKeyImport hx hturn,
    fun l h => exec_storeKeyImport_refused h⟩
  · exact (exec_flashDataWrite hlong hshort).trans (next_inTurn hturn (State.flashData_starts hidle hfree hfits herased))
  · obtain ⟨e, he⟩ := State.flashData_refused h
    refine exec_flashDataWrite_barred fun r hr => ?_
    rw [hr, he, State.inTurn_allowed (mask := statesUsual) hturn]
    rfl
  · simp only [List.forall_mem_cons]
    exact ⟨exec_flashDataWrite_barred fun r _ => okOr_inTurn_barred hturn r, next_outOfTurn hturn _, next_outOfTurn hturn _,
      next_outOfTurn hturn _, by simp⟩
  · exact h.elim (fun hv => next_inTurn_refused (State.revokeKey_reserved hv)) (fun hturn => next_outOfTurn hturn _)
  · rintro ⟨hzero, hstate, hopen⟩
    simp [hzero, hstate, hopen] at hshut

end Sys2Proof.Machine
namespace Sys2Proof.Machine
open Sys2Proof

/-! ### Range operations and the cache's enable -/

/-! #### What a write to memory leaves of the cache and of the rest -/

theorem State.updMem_eq (s : State) (n : Nat) (f : MemChan → MemChan) : s.updMem n f = { s with buf := (s.updMem n f).buf } := by
  unfold State.updMem
  split <;> rfl

theorem State.memPut_eq (s : State) (g data check : Nat) : s.memPut g data check = { s with buf := (s.memPut g data check).buf } := by
  unfold State.memPut
  dsimp only
  repeat' split
  · rfl
  · rfl
  · rfl
  · rw [State.updMem_eq]; rfl

@[simp] theorem State.updMem_lines (s : State) (n : Nat) (f : MemChan → MemChan) : (s.updMem n f).buf.lines = s.buf.lines := by
  unfold State.updMem
  split <;> rfl

@[simp] theorem State.memPut_lines (s : State) (g data check : Nat) : (s.memPut g data check).buf.lines = s.buf.lines := by
  unfold State.memPut
  dsimp only
  repeat' split
  · rfl
  · rfl
  · rfl
  · exact State.updMem_lines _ _ _

/-- What the write-back of dirty granules keeps: the lines, the dictionary's values and the part. -/
def State.cachedParts (s : State) : List Line × Dict × Part := (s.buf.lines, s.dict, s.part)

theorem State.writeBack_cachedParts (s : State) (x : Line) : (s.writeBack x).cachedParts = s.cachedParts := by
  refine List.foldlRecOn (motive := fun t : State => t.cachedParts = s.cachedParts) _ _ rfl (fun t ht i _ => Eq.trans ?_ ht)
  split
  · have hwrite : (t.memWrite (2 * x.addr + i) (x.data i)).cachedParts = t.cachedParts := by
      unfold State.cachedParts State.memWrite
      rw [State.memPut_lines, State.memPut_eq]
    exact hwrite
  · rfl

/-- The lines written back in a pass over the cache. -/
theorem State.writeBacks_cachedParts (s : State) (l : List Line) : (l.foldl State.writeBack s).cachedParts = s.cachedParts :=
  List.foldlRecOn (motive := fun t : State => t.cachedParts = s.cachedParts) _ _ rfl (fun t ht x _ => (t.writeBack_cachedParts x).trans ht)

theorem State.cleanLines_lines (s : State) (p : Line → Bool) :
    (s.cleanLines p).buf.lines = s.buf.lines.map (fun x => if p x then { x with dirty := 0 } else x) := by
  have h := s.writeBacks_cachedParts (s.buf.lines.filter p)
  simp only [State.cachedParts, Prod.mk.injEq] at h
  obtain ⟨hlines, -, -⟩ := h
  rw [State.cleanLines, State.updBuf, hlines]

theorem State.cleanLines_dict (s : State) (p : Line → Bool) : (s.cleanLines p).dict = s.dict ∧ (s.cleanLines p).part = s.part := by
  have h := s.writeBacks_cachedParts (s.buf.lines.filter p)
  simp only [State.cachedParts, Prod.mk.injEq] at h
  obtain ⟨-, hdict, hpart⟩ := h
  exact ⟨hdict, hpart⟩

theorem State.discardLines_lines (s : State) (p : Line → Bool) : (s.discardLines p).buf.lines = s.buf.lines.filter (fun x => !p x) := rfl

/-- No line that is cleaned stays dirty. -/
theorem State.cleanLines_clean {s : State} {p : Line → Bool} {y : Line} (hy : y ∈ (s.cleanLines p).buf.lines) (hin : p y = true) : y.dirty = 0 := by
  rw [State.cleanLines_lines, List.mem_map] at hy
  obtain ⟨x, -, rfl⟩ := hy
  split
  · rfl
  next hout =>
    rw [if_neg hout] at hin
    exact absurd hin hout

/-- A line outside a pass of cleaning stays as it is. -/
theorem State.mem_cleanLines {s : State} {p : Line → Bool} {y : Line} (hy : y ∈ s.buf.lines) (hout : p y = false) :
    y ∈ (s.cleanLines p).buf.lines := by
  rw [State.cleanLines_lines, List.mem_map]
  exact ⟨y, hy, by simp [hout]⟩

theorem State.mem_discardLines {s : State} {p : Line → Bool} {y : Line} : y ∈ (s.discardLines p).buf.lines ↔ y ∈ s.buf.lines ∧ p y = false := by
  simp [State.discardLines_lines]

theorem State.raiseAll_nil (s : State) : s.raiseAll [] = s := rfl

theorem State.raiseAll_single (s : State) (k : Nat) : s.raiseAll [k] = s.raise k := rfl

section
variable {s : State}

/-! #### Range commands -/

section
variable {x : RangeArgs} (hidle : s.buf.op = none) (hbase : x.base % 128 = 0) (hsome : x.length ≠ 0) (hwhole : x.length % 128 = 0)
  (hfits : x.base + x.length ≤ s.bufSize)
include hidle hbase hsome hwhole hfits

theorem State.rangeBy_on (hon : s.cacheOn = true) (code : Nat) : s.rangeBy code (some x) =
    .ok (s.updBuf (fun b => { b with op := some ⟨code, x.base, x.length, x.mask⟩, result := 2, skipped := if code = 4 then 0 else b.skipped })) := by
  simp [State.rangeBy, State.rangeCommand, hidle, hbase, hsome, hwhole, Nat.not_lt.mpr hfits, hon]

theorem State.rangeBy_off (hoff : s.cacheOn = false) {code : Nat} (hcode : code ≠ 4) :
    s.rangeBy code (some x) = .ok (s.updBuf (fun b => { b with result := 1 })) := by
  simp [State.rangeBy, State.rangeCommand, hidle, hbase, hsome, hwhole, Nat.not_lt.mpr hfits, hoff, hcode]

theorem State.rangeBy_fill_off (hoff : s.cacheOn = false) : s.rangeBy 4 (some x) = .error 0x08000022 := by
  simp [State.rangeBy, State.rangeCommand, hidle, hbase, hsome, hwhole, Nat.not_lt.mpr hfits, hoff]

end

theorem State.rangeBy_busy (hbusy : s.buf.op ≠ none) (code : Nat) (own : Option RangeArgs) : s.rangeBy code own = .error 0x08000022 := by
  have hop : s.buf.op.isSome = true := Option.isSome_iff_ne_none.mpr hbusy
  unfold State.rangeBy
  cases own with
  | some x => exact if_pos hop
  | none =>
    dsimp only
    split
    · exact if_pos hop
    · rfl

/-! #### Their ends -/

/-- An operation that raises nothing ends: busy clears, or a disable's own pass begins. -/
theorem exec_rangeOpDone {o : RangeOp} (ho : s.buf.op = some o) (hcode : o.code ≠ 5) {t : State} (heffect : s.rangeEffect o = (t, [])) :
    exec .cRangeOpDone s = .next (t.updBuf (fun b =>
      { b with op := if b.disabling then some ⟨5, 0, 0, 0⟩ else none, result := if b.disabling then 2 else 1 })) := by
  simp only [exec, execRangeOpDone, ho, if_neg hcode, heffect, State.raiseAll_nil]

theorem exec_rangeOpDone_disable {o : RangeOp} (ho : s.buf.op = some o) (hcode : o.code = 5) :
    exec .cRangeOpDone s = .next ((((s.cleanLines (fun _ => true)).discardLines (fun _ => true)).updBuf (fun b =>
      { b with op := none, disabling := false, result := 1 })).setParam 0x6100 1 0) := by
  simp only [exec, execRangeOpDone, ho, if_pos hcode]

theorem State.setEnable_cacheOn {v : Nat} (h : storeWf (dictDefault s.part) s.dict.vals = true) :
    (s.setParam 0x6100 1 v).cacheOn = decide (v = 1) := by
  rw [State.cacheOn, State.setParam_param_same 0x6100 1 v h]

/-! #### The enable -/

section
variable (hstate : s.dev.state.cacheEnable = true)
include hstate

theorem State.writeEnable_disable (hon : s.cacheOn = true) (hno : s.buf.disabling = false) : s.writeEnable 0 =
    .ok (s.updBuf (fun b => { b with disabling := true, op := if b.op.isSome then b.op else some ⟨5, 0, 0, 0⟩, result := 2 })) := by
  simp [State.writeEnable, hstate, hon, hno]

theorem State.writeEnable_disabled (hoff : s.cacheOn = false) : s.writeEnable 0 = .ok s := by
  simp [State.writeEnable, hstate, hoff]

theorem State.writeEnable_enabled (hon : s.cacheOn = true) (hno : s.buf.disabling = false) : s.writeEnable 1 = .ok s := by
  simp [State.writeEnable, hstate, hon, hno]

theorem State.writeEnable_enable (hoff : s.cacheOn = false) (hno : s.buf.disabling = false) :
    s.writeEnable 1 = .ok ((s.setParam 0x6100 1 1).discardLines (fun _ => true)) := by
  simp [State.writeEnable, hstate, hoff, hno]

theorem State.writeEnable_disabling (h : s.buf.disabling = true) : s.writeEnable 1 = .error 0x08000022 := by
  simp [State.writeEnable, hstate, h]

end

end

/-- Settles O40. That an operation's effect is carried out whole at its end is the model's choice (log entry 85; R421 describes a walk). -/
theorem rangeEngine : Obligations.RangeEngine := by
  refine fun s => ⟨fun x hidle hbase hsome hwhole hfits => ⟨fun hon => ?_, fun hoff => ?_⟩, fun own hbusy => ?_, fun o ho hcode => ?_,
    fun o ho hcode => ?_, fun o ho hcode hwf => ?_, fun hstate => ⟨fun hon hno => ⟨next_taken (State.writeEnable_disable hstate hon hno),
        next_taken (State.writeEnable_enabled hstate hon hno)⟩,
      fun hoff hno => ⟨next_taken (State.writeEnable_disabled hstate hoff), fun hwf => ?_⟩,
      fun h => next_refused (State.writeEnable_disabling hstate h)⟩⟩
  · have htaken (code : Nat) := State.rangeBy_on hidle hbase hsome hwhole hfits hon code
    exact ⟨next_taken (htaken 1), next_taken (htaken 2), next_taken (htaken 3), next_taken (htaken 4)⟩
  · have hdone {code : Nat} (hcode : code ≠ 4) := State.rangeBy_off hidle hbase hsome hwhole hfits hoff hcode
    exact ⟨next_taken (hdone (by decide)), next_taken (hdone (by decide)), next_taken (hdone (by decide)),
      next_refused (State.rangeBy_fill_off hidle hbase hsome hwhole hfits hoff)⟩
  · have hbarred (code : Nat) : (.next (okOr s (s.rangeBy code own)) : Res) = .next s := next_refused (State.rangeBy_busy hbusy code own)
    simp only [List.forall_mem_cons]
    exact ⟨hbarred _, hbarred _, hbarred _, hbarred _, by simp⟩
  · refine ⟨_, exec_rangeOpDone ho (by omega) (t := s.cleanLines (fun x => o.has x.addr)) (by simp only [State.rangeEffect, hcode]),
      fun y hy hin => ?_⟩
    exact State.cleanLines_clean hy hin
  · have hends {p : Line → Bool} (heffect : s.rangeEffect o = ((s.cleanLines p).discardLines (fun x => o.has x.addr), []))
        (hp : ∀ y : Line, o.has y.addr = false → p y = false) : ∃ t, exec .cRangeOpDone s = .next t ∧ (∀ y ∈ t.buf.lines, o.has y.addr = false)
          ∧ (∀ y ∈ s.buf.lines, o.has y.addr = false → y ∈ t.buf.lines) :=
      ⟨_, exec_rangeOpDone ho (by omega) heffect, fun y hy => (State.mem_discardLines.mp hy).2,
        fun y hy hout => State.mem_discardLines.mpr ⟨State.mem_cleanLines hy (hp y hout), hout⟩⟩
    obtain hcode | hcode := hcode
    · exact hends (p := fun x => o.has x.addr && s.lockMask.testBit x.way) (by simp only [State.rangeEffect, hcode]) (by simp +contextual)
    · exact hends (p := fun x => o.has x.addr) (by simp only [State.rangeEffect, hcode]) (fun _ hout => hout)
  · obtain ⟨hdict, hpart⟩ := s.cleanLines_dict (fun _ => true)
    refine ⟨_, exec_rangeOpDone_disable ho hcode, ?_, rfl, rfl, ?_⟩
    · exact List.filter_eq_nil_iff.mpr (by simp)
    · refine (State.setEnable_cacheOn ?_).trans rfl
      show storeWf (dictDefault (s.cleanLines (fun _ => true)).part) (s.cleanLines (fun _ => true)).dict.vals = true
      rw [hdict, hpart, hwf]
  · refine ⟨_, next_taken (State.writeEnable_enable hstate hoff hno), ?_, List.filter_eq_nil_iff.mpr (by simp)⟩
    exact (State.setEnable_cacheOn hwf).trans rfl

end Sys2Proof.Machine

namespace Sys2Proof.Machine
open Sys2Proof

/-! ### Fill, re-initialisation, scrubbing and refresh (O39) -/

section
variable {s : State}

theorem State.scrubPeriod_granPlace (s : State) (g : Nat) : s.scrubPeriod.granPlace g = s.granPlace g := by
  unfold State.scrubPeriod
  split <;> rfl

/-- A clean read's tag checks: it names none. -/
theorem State.tagReads_cleanRead (s : State) (g : Nat) : s.tagReads g (cleanRead g) = true := rfl

/-- The power-on fill while buffer memory is not reachable. -/
theorem exec_bufferFillDone (hstate : s.dev.state = .boot) (hstep : s.boot.step = .plls) (hreach : s.buf.reachable = false) :
    ∃ (t : State) (n : Nat), exec .cBufferFillDone s = .next t ∧ t.buf.reachable = true ∧ t.buf.density = s.bootMemory 1
      ∧ t.buf.chans = s.buf.chans.map (fun c => if c.state = 1 then { c with state := 2, epoch := 0, filled := n, valid := [] } else c) := by
  have hgo : ¬ (s.dev.state ≠ .boot ∨ s.boot.step ≠ .plls ∨ s.buf.reachable = true) := by simp [hstate, hstep, hreach]
  exact ⟨_, _, (congrArg Host.Outcome.next (if_neg hgo) : execBufferFillDone s = _), rfl, rfl, rfl⟩

theorem State.reinitCommand_taken {c : ChanId} (hstate : s.dev.state = .selfTest ∨ s.dev.state = .bench) (hfit : s.chanFitted c = true) :
    s.reinitCommand c.val = .ok (s.reinitChannel c) := by
  have hc : ¬ ¬ (s.dev.state = .selfTest ∨ s.dev.state = .bench) := not_not_intro hstate
  rw [State.reinitCommand, if_neg hc, dif_pos c.isLt, if_neg (by simp [hfit])]

theorem State.reinitCommand_barred (hstate : ¬ (s.dev.state = .selfTest ∨ s.dev.state = .bench)) (c : Nat) :
    s.reinitCommand c = .error 0x08000022 := if_pos hstate

theorem State.reinitChannel_chan (s : State) (c : ChanId) :
    (s.reinitChannel c).buf.chans[c] = { s.buf.chans[c] with state := 3, epoch := (s.buf.chans[c].epoch + 1) % 65536, filled := 0, valid := [] } := by
  simp [State.reinitChannel, State.updMem, State.updBuf, c.isLt]

theorem exec_channelReinitDone {c : ChanId} (hc : s.buf.chans[c].state = 3) :
    exec (.cChannelReinitDone c) s = .next (s.updMem c.val (fun m => { m with state := 2, filled := s.segments, valid := [] })) := by
  simp only [exec, execChannelReinitDone, hc]
  rfl

theorem State.reinitChannel_lines (s : State) (c : ChanId) :
    (s.reinitChannel c).buf.lines = s.buf.lines.filter (fun x => (s.granPlace (2 * x.addr)).1 ≠ c.val) := by
  rw [State.reinitChannel, State.updMem_lines]
  simp [State.updBuf]

/-- The scrubber reads a granule of a ready channel that this scrub period has not seen: what it does is the class's (R409, R410). -/
theorem execBufferScrub_new {g : Nat} {ch : MemChan} {t u : State} {cls : ReadClass} {d k : Nat} (ht : s.scrubPeriod = t)
    (hu : t.updBuf (fun b => { b with scrubbed := g :: b.scrubbed }) = u) (hch : t.chan? (s.granPlace g).1 = some ch) (hready : ch.state = 2)
    (hsize : 64 * g < t.bufSize) (hnew : t.buf.scrubbed.contains g = false) (hcls : u.classify g (u.stored g).1 (u.stored g).2 = (cls, d, k)) :
    execBufferScrub g (cleanRead g) s = .next (
      match cls with
      | .clean => u
      | .poisoned => u
      | .corrected =>
        ((u.storeWord g d k).updMem (s.granPlace g).1 (fun m => { m with corrected := sat32 m.corrected 1 })).raise (56 + 4 * (s.granPlace g).1)
      | _ => (u.memPoison g (u.stored g).1).raise (56 + 4 * (s.granPlace g).1 + 1)) := by
  have hskip : ¬ (ch.state ≠ 2 ∨ t.bufSize ≤ 64 * g ∨ t.buf.scrubbed.contains g = true) := by
    rw [hready, hnew]
    simpa using hsize
  have htag : ¬ ¬ u.tagReads g (cleanRead g) = true := by rw [State.tagReads_cleanRead]; decide
  unfold execBufferScrub
  generalize s.granPlace g = place at hch ⊢
  obtain ⟨chan, row, slot⟩ := place
  rw [ht]
  refine congrArg Host.Outcome.next ?_
  show (match t.chan? chan with | none => t | some c => _) = _
  rw [show t.chan? chan = some ch from hch]
  refine (if_neg hskip).trans ?_
  rw [hu]
  have hflips : (cleanRead g).flips = [] := rfl
  have hother : (cleanRead g).other = none := rfl
  simp only [if_neg htag, hflips, hother, applyFlips, List.foldl_nil, List.isEmpty_nil, if_true, hcls]
  cases cls <;> rfl

theorem execBufferScrub_seen {g : Nat} {t : State} (ht : s.scrubPeriod = t) (hseen : t.buf.scrubbed.contains g = true) :
    execBufferScrub g (cleanRead g) s = .next t := by
  unfold execBufferScrub
  generalize s.granPlace g = place
  obtain ⟨chan, row, slot⟩ := place
  rw [ht]
  refine congrArg Host.Outcome.next ?_
  show (match t.chan? chan with | none => t | some c => _) = t
  split
  · rfl
  · exact if_pos (Or.inr (Or.inr hseen))

theorem exec_gddr7Refresh {c : ChanId} (hfit : s.chanFitted c = true) (htrained : s.buf.chans[c].state ≠ 0) (hup : s.buf.chans[c].state ≠ 4) :
    exec (.cGddr7Refresh c false false) s = .next (s.updMem c.val (fun m => { m with refreshes := sat64 m.refreshes 1 })) := by
  simp only [exec, execGddr7Refresh, hfit, htrained, hup]
  rfl

theorem State.writeDiagnostic_taken {v : Nat} (hv : v ≤ 1) (hstate : s.dev.state = .selfTest ∨ s.dev.state = .bench) (hoff : s.cacheOn = false)
    (hidle : s.buf.op = none) : s.writeDiagnostic v = .ok (s.setParam 0x6009 1 v) := by
  simp [State.writeDiagnostic, hstate, hoff, hidle, hv]

theorem State.writeDiagnostic_barred {v : Nat}
    (h : 1 < v ∨ s.cacheOn = true ∨ s.buf.op ≠ none ∨ ¬ (s.dev.state = .selfTest ∨ s.dev.state = .bench)) :
    ∃ e, s.writeDiagnostic v = .error e := by
  unfold State.writeDiagnostic
  split
  · exact ⟨_, rfl⟩
  next hpass =>
    simp only [not_or, not_not, Option.isSome_iff_ne_none, ne_eq] at hpass h
    obtain ⟨hstate, hoff, hidle⟩ := hpass
    have hv : ¬ v ≤ 1 := by
      obtain hv | hon | hbusy | hout := h
      · exact Nat.not_le.mpr hv
      · exact absurd hon hoff
      · exact absurd hidle hbusy
      · exact absurd hstate (by simpa using hout)
    exact ⟨_, if_neg hv⟩

end

/-- Settles O39. That the density is taken at the fill's end (log entry 37) and that the scrub raises the source of a granule it poisons
(log entries 85 and 129) are the model's choices. -/
theorem bufferUpkeep : Obligations.BufferUpkeep := by
  refine fun s => ⟨fun hstate hstep hreach => ?_, fun c hstate hfit => next_taken (State.reinitCommand_taken hstate hfit),
    fun c hstate => next_refused (State.reinitCommand_barred hstate c.val), fun c => ?_, fun c => exec_channelReinitDone,
    ?_, fun g => execBufferScrub_seen rfl,
    fun c => exec_gddr7Refresh, fun v hv hstate hoff hidle => next_taken (State.writeDiagnostic_taken hv hstate hoff hidle), fun v hbar => ?_⟩
  · obtain ⟨t, n, hstep, hup, hdensity, hchans⟩ := exec_bufferFillDone hstate hstep hreach
    refine ⟨t, hstep, hup, hdensity, fun c => ?_⟩
    rw [hchans]
    simp only [Fin.getElem_fin, Vector.getElem_map]
    split <;> rfl
  · rw [State.reinitChannel_chan]
    exact ⟨rfl, rfl, State.reinitChannel_lines s c⟩
  · intro g ch
    generalize ht : s.scrubPeriod = t
    intro t' u hch hready hsize hnew cls d k hcls
    refine (execBufferScrub_new ht rfl hch hready hsize hnew hcls).trans ?_
    cases cls <;> rfl
  · obtain ⟨e, he⟩ := State.writeDiagnostic_barred hbar
    exact next_refused he

end Sys2Proof.Machine

namespace Sys2Proof.Machine
open Sys2Proof

/-! ### Buffer memory read and written (O37) -/

/-- A granule aligned on 64 bytes is the one granule of its range. -/
theorem gransOf_granule (g : Nat) : gransOf (64 * g) 64 = [g] := by
  have hlast : (64 * g + 64 - 1) / 64 - 64 * g / 64 + 1 = 1 := by omega
  rw [gransOf, if_neg (by decide), hlast]
  simp

theorem length_natBytes (n v : Nat) : (natBytes n v).length = n := by
  induction n generalizing v with
  | zero => rfl
  | succ n ih => rw [natBytes, List.length_cons, ih]

/-- A granule taken out of its own range of bytes. -/
theorem take_natBytes_granule (g v : Nat) : ((natBytes 64 v).drop (64 * g % 64)).take 64 = natBytes 64 v := by
  rw [Nat.mul_mod_right, List.drop_zero, List.take_of_length_le (length_natBytes 64 v).le]

theorem dramOf_nil (g : Nat) : dramOf [] g = cleanRead g := rfl

section
variable {s : State} {r : Requester} {own : Bool} {addr len g : Nat} {x : List DramRead} {e : SramErr}

/-! #### Reads -/

/-- Nothing goes wrong on the way to a ready channel: the answer is the class's (R399, R409). -/
theorem State.memRead_cleanRead {ch : MemChan} {cls : ReadClass} {d k : Nat} (hch : s.chan? (s.granPlace g).1 = some ch) (hready : ch.state = 2)
    (hcls : s.classify g (s.stored g).1 (s.stored g).2 = (cls, d, k)) :
    s.memRead g (cleanRead g) =
      match cls with
      | .clean => (some d, s, [])
      | .corrected => (some d, (s.storeWord g d k).updMem (s.granPlace g).1 (fun m => { m with corrected := sat32 m.corrected 1 }),
          [56 + 4 * (s.granPlace g).1])
      | .poisoned => (none, s.logError g 1, [56 + 4 * (s.granPlace g).1 + 1])
      | .misdirected => (none, s.logError g 2, [56 + 4 * (s.granPlace g).1 + 1])
      | .uncorrectable => (none, s.logError g 0, [56 + 4 * (s.granPlace g).1 + 1]) := by
  have hflips : (cleanRead g).flips = [] := rfl
  have hother : (cleanRead g).other = none := rfl
  have hfails : ¬ 4 < (cleanRead g).crcFails := Nat.not_lt_zero 4
  have hup : ¬ ch.state = 4 := by omega
  have htag : ¬ ¬ s.tagReads g (cleanRead g) = true := by rw [State.tagReads_cleanRead]; decide
  have hvalid (n : Nat) : ¬ ¬ ch.isValid n = true := by simp [MemChan.isValid, hready]
  unfold State.memRead
  generalize s.granPlace g = place at hch ⊢
  obtain ⟨chan, row, slot⟩ := place
  simp only [hch, if_neg hup, if_neg hfails, if_neg (hvalid row), if_neg htag, hflips, hother, applyFlips, List.foldl_nil, List.isEmpty_nil,
    if_true, hcls]
  cases cls <;> rfl

/-- With the cache disabled a granule is read from its channel past the cache (R423). -/
theorem State.granRead_off (hoff : s.cacheOn = false) (y : DramRead) :
    s.granRead r own g y e = ((s.memRead g y).1.map ((s.memRead g y).2.1.countBypass.tabled g), (s.memRead g y).2.1.countBypass, (s.memRead g y).2.2) := by
  have hbypass : ¬ s.cacheOn = true := by simp [hoff]
  rw [State.granRead, State.cacheRead, if_pos hbypass]

/-- A resident valid granule is answered from its line (R414). -/
theorem State.granRead_hit {l : Line} (hon : s.cacheOn = true) (hline : s.line? (g / 2) = some l) (hvalid : l.valid.testBit (g % 2) = true)
    (y : DramRead) :
    let u := (if s.streams r own = true then s else s.updLine (g / 2) (fun z => { z with age := 0 })).countHit
    s.granRead r own g y .none = (some (u.tabled g (l.data (g % 2))), u, []) := by
  have hserved : ¬ ¬ s.cacheOn = true := not_not_intro hon
  have hsram : s.sramError g .none = (s, []) := by simp [State.sramError, hline]
  rw [State.granRead, State.cacheRead, if_neg hserved, hsram]
  simp only [hline, hvalid, if_true, Option.map_some]

theorem State.gransRead_single (s : State) (r : Requester) (own : Bool) (x : List DramRead) (e : SramErr) (g : Nat) :
    s.gransRead r own x e [g] = ((s.granRead r own g (dramOf x g) e).1.map (natBytes 64), (s.granRead r own g (dramOf x g) e).2.1,
      (s.granRead r own g (dramOf x g) e).2.2) := by
  rcases hp : s.granRead r own g (dramOf x g) e with ⟨d, s1, f⟩
  cases d <;> simp [State.gransRead, hp]

/-- A read of one whole granule (R400). -/
theorem State.bufRead_granule (hfits : 64 * g + 64 ≤ s.bufSize) :
    s.bufRead r own (64 * g) 64 x e = ((s.granRead r own g (dramOf x g) e).1.map (natBytes 64), (s.granRead r own g (dramOf x g) e).2.1,
      (s.granRead r own g (dramOf x g) e).2.2) := by
  rw [State.bufRead, if_neg (by omega), gransOf_granule, State.gransRead_single]
  simp only [Option.map_map]
  exact congrArg (·, _) (Option.map_congr fun v _ => take_natBytes_granule g v)

theorem State.bufRead_beyond (hbeyond : s.bufSize < addr + len) : s.bufRead r own addr len x e = (none, s, [154]) := if_pos hbeyond

theorem exec_bufferRead (hreach : s.buf.reachable = true) (hcore : (isCore r && s.diagnostic) = false) {p : Option (List Byte) × State × List Nat}
    (hp : s.bufRead r own addr len x e = p) :
    exec (.cBufferRead r own addr len x e) s = .next ((p.2.1.send (.bufferData (reqClass r) p.1)).raiseAll p.2.2) := by
  have hserved : ¬ ¬ s.buf.reachable = true := not_not_intro hreach
  have hplain : ¬ (isCore r = true ∧ s.diagnostic = true) := by simpa using hcore
  subst hp
  exact congrArg Host.Outcome.next ((if_neg hserved).trans (if_neg hplain))

/-! #### Writes -/

theorem exec_bufferWrite (hreach : s.buf.reachable = true) (hcore : isCore r = false) (data : List Byte) {s0 t : State} {f0 f : List Nat}
    (hfail : s.failWrites x = (s0, f0)) (hwrite : s0.bufWrite r own addr data e = (t, f)) :
    exec (.cBufferWrite r own addr data x e) s = .next
      ((if s0.bufSize < addr + data.length ∨ addr % 64 ≠ 0 ∨ data.length % 64 ≠ 0 then t.send (.bufferData (reqClass r) none) else t).raiseAll
        (f0 ++ f)) := by
  have hserved : ¬ ¬ s.buf.reachable = true := not_not_intro hreach
  show execBufferWrite r own addr data x e s = _
  rw [execBufferWrite, if_neg hserved, hfail]
  cases r with
  | cluster c => exact nomatch (show true = false from hcore)
  | _ => simp only [hwrite]

theorem State.bufWrite_beyond {data : List Byte} (hbeyond : s.bufSize < addr + data.length) : s.bufWrite r own addr data e = (s, [154]) :=
  if_pos hbeyond

theorem State.bufWrite_narrow {data : List Byte} (hfits : addr + data.length ≤ s.bufSize) (hnarrow : addr % 64 ≠ 0 ∨ data.length % 64 ≠ 0) :
    s.bufWrite r own addr data e = (s, [reqNarrow r]) :=
  (if_neg (Nat.not_lt.mpr hfits)).trans (if_pos hnarrow)

theorem State.granWrite_off (hoff : s.cacheOn = false) (data : Nat) : s.granWrite r own g data e = ((s.memWrite g data).countBypass, []) :=
  if_pos (by simp [hoff])

/-- A write of one whole granule with the cache disabled goes to its channel (R407, R423). -/
theorem State.bufWrite_granule {data : List Byte} (hoff : s.cacheOn = false) (hlen : data.length = 64) (hfits : 64 * g + 64 ≤ s.bufSize) :
    s.bufWrite r own (64 * g) data e = ((s.memWrite g (leNat data)).countBypass, []) := by
  have haddr : 64 * g / 64 = g := by omega
  rw [State.bufWrite, if_neg (by omega), if_neg (by omega), hlen, haddr]
  simp only [State.gransWrite, State.granWrite_off hoff, List.take_of_length_le hlen.le, List.append_nil]

/-! #### Writes of the cores -/

theorem exec_bufferWrite_core (hreach : s.buf.reachable = true) (c : ClusterId) (data : List Byte) :
    exec (.cBufferWrite (.cluster c) own addr data x e) s
      = .next (((s.failWrites x).1.coreStore c own addr data x e).raiseAll (s.failWrites x).2) :=
  congrArg Host.Outcome.next (if_neg (not_not_intro hreach))

theorem exec_coreNarrowWrite (hreach : s.buf.reachable = true) (c : ClusterId) (data : List Byte) :
    exec (.cCoreNarrowWrite c own addr data x e) s = .next (s.coreStore c own addr data x e) :=
  congrArg Host.Outcome.next (if_neg (not_not_intro hreach))

theorem State.coreStore_beyond {data : List Byte} {c : ClusterId} (hbeyond : s.bufSize < addr + data.length) :
    s.coreStore c own addr data x e = (s.send (.bufferData (6 + c.val) none)).raise 154 := if_pos hbeyond

theorem State.coreStore_fits {data : List Byte} {c : ClusterId} (hfits : addr + data.length ≤ s.bufSize) {t : State} {f : List Nat} {ok : Bool}
    (hwrite : s.coreWrite (.cluster c) own x e addr data (data.length + 1) = (t, f, ok)) :
    s.coreStore c own addr data x e = (if ok then t else t.send (.bufferData (6 + c.val) none)).raiseAll f := by
  rw [State.coreStore, if_neg (Nat.not_lt.mpr hfits), hwrite]

/-- No byte is left to write. -/
theorem State.coreWrite_nil (s : State) (r : Requester) (own : Bool) (x : List DramRead) (e : SramErr) (addr n : Nat) :
    s.coreWrite r own x e addr [] n = (s, [], true) := by
  cases n <;> rfl

/-- Bytes within one granule, but not the whole of it, are merged into what it reads, or not performed when it reads with an error (R408). -/
theorem State.coreWrite_narrow {data : List Byte} (hsome : data ≠ []) (hin : addr % 64 + data.length < 64) (n : Nat) :
    s.coreWrite r own x e addr data (n + 1) =
      match s.granRead r own (addr / 64) (dramOf x (addr / 64)) e with
      | (none, t, f) => (t, f, false)
      | (some v, t, f) => (t.mergePut (addr / 64) (overlay v (addr % 64) data), f, true) := by
  have hpart : data.take (64 - addr % 64) = data := List.take_of_length_le (by omega)
  have hnarrow : ¬ data.length = 64 := by omega
  have hgo : ¬ data.isEmpty = true := by simpa using hsome
  rw [State.coreWrite, if_neg hgo]
  simp only [hpart, if_neg hnarrow, List.drop_length]
  rcases s.granRead r own (addr / 64) (dramOf x (addr / 64)) e with ⟨_ | v, t, f⟩
  · rfl
  · simp only [if_true, State.coreWrite_nil, List.append_nil]

/-- A whole granule is written as it is: in diagnostic mode with the check override (R406). -/
theorem State.coreWrite_granule {data : List Byte} (hoff : s.cacheOn = false) (hlen : data.length = 64) (n : Nat) :
    s.coreWrite r own x e (64 * g) data (n + 1) =
      (if s.diagnostic then s.memPut g (leNat data) (s.param 0x6009 2) else (s.memWrite g (leNat data)).countBypass, [], true) := by
  have haddr : 64 * g / 64 = g := by omega
  have hpart : data.take (64 - 64 * g % 64) = data := List.take_of_length_le (by omega)
  have hgo : ¬ data.isEmpty = true := by
    rw [List.isEmpty_iff_length_eq_zero]
    omega
  rw [State.coreWrite, if_neg hgo]
  simp only [hpart, if_pos hlen, List.drop_length, State.coreWrite_nil, State.granWrite_off hoff, haddr]
  split <;> rfl

end

/-- Settles O37. That a granule of the store's tables reads as the store keeps it (`tabled`) is the model's choice (log entry 34). -/
theorem bufferAccess : Obligations.BufferAccess := by
  refine fun s => ⟨fun hreach r own addr len x data e => ?_, fun hreach r own hcore => ⟨fun addr len x e hbeyond => ?_, ?_, ?_, ?_⟩,
    fun hreach c own addr data x e => ⟨exec_bufferWrite_core hreach c data, exec_coreNarrowWrite hreach c data⟩,
    fun hreach c own addr data x e => ⟨fun hbeyond => ?_, ?_, ?_⟩⟩
  · have hout : ¬ s.buf.reachable = true := by simp [hreach]
    exact ⟨congrArg Host.Outcome.next (if_pos hout), congrArg Host.Outcome.next (if_pos hout)⟩
  · exact exec_bufferRead hreach hcore (State.bufRead_beyond hbeyond)
  · intro g ch hoff hfits hch hready cls d k hcls
    refine (exec_bufferRead hreach hcore (State.bufRead_granule hfits)).trans ?_
    rw [State.granRead_off hoff, dramOf_nil, State.memRead_cleanRead hch hready hcls]
    cases cls <;> rfl
  · intro g y hon hfits hline hvalid
    refine (exec_bufferRead hreach hcore (State.bufRead_granule hfits)).trans ?_
    rw [dramOf_nil, State.granRead_hit hon hline hvalid]
    rfl
  · intro hrequester addr data x e
    rcases hfail : s.failWrites x with ⟨s0, f0⟩
    have hexec {t : State} {f : List Nat} := exec_bufferWrite (own := own) (addr := addr) (e := e) (t := t) (f := f) hreach hrequester data hfail
    refine ⟨fun hbeyond => ?_, fun hfits hnarrow => ?_, fun g haddr hoff hlen hfits => ?_⟩
    · rw [hexec (State.bufWrite_beyond hbeyond), if_pos (.inl hbeyond)]
    · rw [hexec (State.bufWrite_narrow hfits hnarrow), if_pos (.inr hnarrow)]
    · subst haddr
      have hin : 64 * g + 64 ≤ s0.bufSize := hfits
      rw [hexec (State.bufWrite_granule hoff hlen hfits), if_neg (by omega), List.append_nil]
  · rw [exec_coreNarrowWrite hreach, State.coreStore_beyond hbeyond]
  · intro hfits hsome hin
    rcases hread : s.granRead (.cluster c) own (addr / 64) (dramOf x (addr / 64)) e with ⟨d, t, f⟩
    have hwrite := State.coreWrite_narrow (s := s) (r := .cluster c) (own := own) (x := x) (e := e) hsome hin data.length
    rw [hread] at hwrite
    refine ⟨fun hnone => ?_, fun v hv => ?_⟩
    · obtain rfl : d = none := hnone
      rw [exec_coreNarrowWrite hreach, State.coreStore_fits hfits hwrite]
      rfl
    · obtain rfl : d = some v := hv
      rw [exec_coreNarrowWrite hreach, State.coreStore_fits hfits hwrite]
      rfl
  · intro g hoff hlen hfits
    rw [exec_coreNarrowWrite hreach, State.coreStore_fits (by omega) (State.coreWrite_granule hoff hlen data.length)]
    rfl

end Sys2Proof.Machine

namespace Sys2Proof.Machine
open Sys2Proof

/-! ### Pattern sources (O4) -/

theorem patternStream_length (d : List Byte) : (patternStream d).length = descTotal d := by simp [patternStream]

theorem patternStream_getElem? {d : List Byte} (hlen : d.length = 64) {o : Nat} (ho : o < descTotal d) :
    (patternStream d)[o]? = d[8 + o % 8]? := by
  have hin : 8 + o % 8 < d.length := by omega
  rw [patternStream, List.getElem?_map, List.getElem?_range ho, Option.map_some, List.headD_eq_head?_getD, List.head?_drop,
    List.getElem?_eq_getElem hin, Option.getD_some]

section
variable {s : State} {c : MoverId} {q : MoverReq} {x : List DramRead} {d : List Byte}

/-- A run of a host source starts with nothing read (R436). -/
theorem State.readSource_host (hsrc : descSource q.desc = 1) :
    s.readSource c q x = s.updMover c (fun m => { m with running := m.running ++ [{ req := q }] }) := if_pos hsrc

/-- A run of a pattern source starts with its whole stream (R435). -/
theorem State.readSource_pattern (hsrc : descSource q.desc = 2) :
    s.readSource c q x = s.updMover c (fun m =>
      { m with running := m.running ++ [{ req := q, stream := swapStream (descSwap q.desc) (patternStream q.desc), readsDone := true }] }) :=
  (if_neg (by omega)).trans (if_pos hsrc)

theorem State.descMalformed_pattern (hsrc : descSource d = 2) (hflat : descScatter d = false) : s.descMalformed d = true := by
  have hrow : (descSource d == 2 && !descScatter d) = true := by simp [hsrc, hflat]
  simp only [State.descMalformed, hrow, Bool.or_true, Bool.true_or]

theorem State.descCheck_malformed (h : s.descMalformed d = true) : s.descCheck d = 1 := if_pos h

/-- A walk of one row whose step is the element's size. -/
theorem descWalk_row (hrows : descCount d 1 = 1) (hplanes : descCount d 2 = 1) (hstep : descStep d 0 = descElem d) :
    descWalk d = (List.range (descCount d 0)).map (fun (i : Nat) => (descWalked d : Int) + (i : Int) * descElem d) := by
  simp [descWalk, hrows, hplanes, hstep]

end

/-- Settles O4. -/
theorem patternSources : Obligations.PatternSources :=
  fun _ hlen => ⟨patternStream_length _, fun _ => patternStream_getElem? hlen,
    fun _ _ _ _ hdesc hsrc => by subst hdesc; exact State.readSource_pattern hsrc,
    fun _ hsrc hflat => State.descCheck_malformed (State.descMalformed_pattern hsrc hflat), descWalk_row⟩

/-! ### Data mover channels (O41) -/

section
variable {s : State} {c : MoverId} {q : MoverReq} {x : List DramRead} {r : MoverRun} {host : List Byte}

theorem padTo64_whole {l : List Byte} (hlen : l.length = 64) : State.submitMover.padTo64 l = l := by
  simp [State.submitMover.padTo64, hlen, List.take_of_length_le hlen.le]

theorem exec_moverDescriptorStart_none (hno : s.mayStart c = none) : exec (.cMoverDescriptorStart c x host) s = .next s := by
  show execMoverDescriptorStart c x host s = _
  rw [execMoverDescriptorStart, hno]

/-- The state in which the descriptor that a channel starts is checked: it has left the queue, and what waited has moved up (R428). -/
def State.startPoint (s : State) (c : MoverId) : State :=
  (s.updMover c (fun m => ({ m with queue := m.queue.drop 1 } : Mover).refill)).placeChecks

theorem exec_moverDescriptorStart_bad (hq : s.mayStart c = some q) (hbad : (s.startPoint c).descCheck q.desc ≠ 0) :
    exec (.cMoverDescriptorStart c x host) s = .next (((s.startPoint c).updMover c (fun m =>
      { m with running := m.running ++ [{ req := q, status := (s.startPoint c).descCheck q.desc, readsDone := true }] })).raise (180 + c.val)) := by
  show execMoverDescriptorStart c x host s = _
  rw [execMoverDescriptorStart, hq]
  exact congrArg Host.Outcome.next (if_pos hbad)

theorem exec_moverDescriptorStart_good (hq : s.mayStart c = some q) (hgood : (s.startPoint c).descCheck q.desc = 0) :
    exec (.cMoverDescriptorStart c x host) s = .next (
      if (s.startPoint c).movers[c].active = none ∧ 256 ≤ ((s.startPoint c).readSource c q x).moverShare c q.desc then
        (((s.startPoint c).readSource c q x).moverWork c host).stopAtError c
      else (s.startPoint c).readSource c q x) := by
  show execMoverDescriptorStart c x host s = _
  rw [execMoverDescriptorStart, hq]
  refine congrArg Host.Outcome.next ((if_neg (not_not_intro hgood)).trans ?_)
  simp only [Option.isNone_iff_eq_none, decide_eq_true_eq, Nat.not_lt]
  rfl

theorem exec_moverRateWindow_none (hidle : s.movers[c].active = none) : exec (.cMoverRateWindow c host) s = .next s := by
  show execMoverRateWindow c host s = _
  rw [execMoverRateWindow, hidle]

theorem exec_moverRateWindow_some (hrun : s.movers[c].active = some r) :
    exec (.cMoverRateWindow c host) s = .next (((s.updMover c (fun m =>
      { m with allowance := if s.moverShare c r.req.desc < 256 then min (s.windowBytes c r.req.desc : Int) (m.allowance + s.windowBytes c r.req.desc)
               else 0 })).moverWork c host).stopAtError c) := by
  show execMoverRateWindow c host s = _
  rw [execMoverRateWindow, hrun]

theorem exec_moverDescriptorComplete_none (hno : s.movers[c].running.find? MoverRun.ended = none) :
    exec (.cMoverDescriptorComplete c) s = .next s := by
  show execMoverDescriptorComplete c s = _
  rw [execMoverDescriptorComplete, hno]

/-- A run that names no completion granule ends: its counters and its token alone (R443). -/
theorem exec_moverDescriptorComplete_some (hrun : s.movers[c].running.find? MoverRun.ended = some r) (hgran : descGranule r.req.desc = 2 ^ 64 - 1)
    {s1 s2 : State} (h1 : s.updMover c (fun m =>
      { m with running := m.running.erase r, completed := sat32 m.completed 1, moved := sat64 m.moved r.done,
               failed := if r.status = 0 then m.failed else sat32 m.failed 1 }) = s1)
    (h2 : (if r.status = 0 then s1 else { s1 with lastMoverError := r.status + c.val * 256 }) = s2) :
    exec (.cMoverDescriptorComplete c) s = .next (if r.req.token = 0 then s2 else s2.completeToken r.req.token (r.status ≠ 0)) := by
  have hunwritten : ¬ (descGranule r.req.desc % 64 = 0 ∧ descGranule r.req.desc + 64 ≤ s2.bufSize) := by
    rw [hgran]
    exact fun h => absurd h.1 (by decide)
  show execMoverDescriptorComplete c s = _
  rw [execMoverDescriptorComplete, hrun]
  simp only [h1, h2, if_neg hunwritten, State.raiseAll_nil]

end

/-! #### The completion record (R443) -/

theorem MoverRun.record_length (r : MoverRun) : r.record.length = 64 := by simp [MoverRun.record, length_natBytes]

theorem MoverRun.record_status (r : MoverRun) : fieldAt r.record 0 1 = r.status % 256 := by
  simp [MoverRun.record, natBytes, fieldAt, leNat]

theorem leNat_natBytes_eight (v : Nat) : leNat (natBytes 8 v) = v % 2 ^ 64 := by
  simp only [natBytes, leNat, BitVec.toNat_ofNat]
  omega

theorem MoverRun.record_done (r : MoverRun) : fieldAt r.record 8 8 = r.done % 2 ^ 64 := by
  rw [← leNat_natBytes_eight]
  simp [MoverRun.record, natBytes, fieldAt]

/-- Settles O41. -/
theorem moverChannels : Obligations.MoverChannels := by
  refine fun s => ⟨fun desc hlen => ⟨fun hon => ?_, fun hoff => ?_⟩, fun c x host => exec_moverDescriptorStart_none, fun c x host q hq =>
      ⟨exec_moverDescriptorStart_bad hq, exec_moverDescriptorStart_good hq, State.readSource_host, State.readSource_pattern⟩,
    fun c host => exec_moverRateWindow_none, fun c host r => exec_moverRateWindow_some, fun c => exec_moverDescriptorComplete_none,
    fun c r hrun hgran => exec_moverDescriptorComplete_some hrun hgran rfl rfl,
    fun r => ⟨r.record_length, r.record_status, r.record_done⟩⟩
  · show Host.Outcome.next (s.submitMover desc 0) = _
    rw [State.submitMover, padTo64_whole hlen]
    exact congrArg Host.Outcome.next (if_pos hon)
  · show Host.Outcome.next (s.submitMover desc 0) = _
    rw [State.submitMover, padTo64_whole hlen]
    exact congrArg Host.Outcome.next (if_neg (by simp [hoff]))

end Sys2Proof.Machine

namespace Sys2Proof.Machine
open Sys2Proof

/-! ### What the record of an occurrence leaves -/

section
variable {s : State}

/-- A record into the pinned region changes the recorder, the logs of packs and the flash alone. -/
theorem State.storePinned_eq (s : State) (r : EvRec) : s.storePinned r =
    { s with recorder := (s.storePinned r).recorder, packs := (s.storePinned r).packs, flash := (s.storePinned r).flash } := by
  unfold State.storePinned
  dsimp only
  split
  · rfl
  · rw [State.formRecord_eq]

theorem State.formFatal_eq (s : State) (t : EvRec) : s.formFatal t =
    { s with recorder := (s.formFatal t).recorder, packs := (s.formFatal t).packs, flash := (s.formFatal t).flash } := by
  unfold State.formFatal
  dsimp only
  rw [State.numberRecord_eq]
  split
  · rw [State.storePinned_eq]
  · rw [State.stageRecord_eq]

/-- Messages of faults change the CAN controller alone, and not its history. -/
theorem State.emcy_eq (s : State) (code src : Nat) : s.emcy code src = { s with can := (s.emcy code src).can } := by
  unfold State.emcy
  repeat' split
  all_goals rfl

theorem State.emcy_history (s : State) (code src : Nat) : (s.emcy code src).can.history = s.can.history := by
  unfold State.emcy
  repeat' split
  all_goals rfl

/-- An interrupt or a trap delivered changes the clusters and what leaves the chip alone. -/
theorem State.deliver_eq (s : State) (q : Irq) : s.deliver q = { s with clusters := (s.deliver q).clusters, out := (s.deliver q).out } := by
  unfold State.deliver
  repeat' split
  all_goals rfl

/-! ### Sources -/

theorem State.source_congr {t : State} (h : t.faults.sources = s.faults.sources) (k : Nat) : t.source k = s.source k := by
  rw [State.source, State.source, h]

theorem State.updSource_source_same {k : Nat} (hk : k < 416) (f : FaultSource → FaultSource) : (s.updSource k f).source k = f (s.source k) := by
  simp [State.source, State.updSource, hk]

theorem State.updSource_source_other {j k : Nat} (hj : j ≠ k) (f : FaultSource → FaultSource) : (s.updSource k f).source j = s.source j := by
  unfold State.updSource
  split
  · simp [State.source, Vector.getElem?_set_ne, hj.symm]
  · rfl

/-- A source's change leaves the indicators. -/
theorem State.updSource_indicators (s : State) (k : Nat) (f : FaultSource → FaultSource) :
    (s.updSource k f).faults = { s.faults with sources := (s.updSource k f).faults.sources } := by
  unfold State.updSource
  split <;> rfl

theorem State.reaction_congr {t : State} (hdict : t.dict = s.dict) (hpart : t.part = s.part) (k : Nat) : t.reaction k = s.reaction k := by
  simp only [State.reaction, State.param, hdict, hpart]

/-! ### An occurrence -/

/-- What the record of an occurrence leaves: everything of the sources but that source's own times. -/
structure State.Recorded (s u : State) (k : Nat) : Prop where
  can : u.can = s.can
  dict : u.dict = s.dict
  part : u.part = s.part
  last : u.faults.lastSticky = s.faults.lastSticky
  sticky : (u.source k).sticky = (s.source k).sticky
  inState : (u.source k).inState = (s.source k).inState
  count : (u.source k).count = (s.source k).count
  others : ∀ j, j ≠ k → u.source j = s.source j

theorem State.Recorded.refl (s : State) (k : Nat) : s.Recorded s k := ⟨rfl, rfl, rfl, rfl, rfl, rfl, rfl, fun _ _ => rfl⟩

theorem State.Recorded.trans {t u : State} {k : Nat} (h1 : s.Recorded t k) (h2 : t.Recorded u k) : s.Recorded u k :=
  ⟨h2.can.trans h1.can, h2.dict.trans h1.dict, h2.part.trans h1.part, h2.last.trans h1.last, h2.sticky.trans h1.sticky, h2.inState.trans h1.inState,
    h2.count.trans h1.count, fun j hj => (h2.others j hj).trans (h1.others j hj)⟩

/-- A record with its number and place. -/
theorem State.Recorded.of_parts {k : Nat} (rec : Recorder) (packs : Vector Pack 32) (flash : Flash) :
    s.Recorded { s with recorder := rec, packs := packs, flash := flash } k := ⟨rfl, rfl, rfl, rfl, rfl, rfl, rfl, fun _ _ => rfl⟩

theorem State.Recorded.updSource {k : Nat} (hk : k < 416) (n : FaultSource → Nat) (m : FaultSource → Option Nat) :
    s.Recorded (s.updSource k (fun f => { f with heldBack := n f, formedAt := m f })) k := by
  have hsource := s.updSource_source_same hk (fun f => { f with heldBack := n f, formedAt := m f })
  refine ⟨State.updSource_can _ _ _, State.updSource_dict _ _ _, State.updSource_part _ _ _, by rw [State.updSource_indicators], ?_, ?_, ?_,
    fun j hj => State.updSource_source_other hj _⟩ <;> rw [hsource]

theorem State.recordFirst_recorded {k : Nat} (hk : k < 416) (lane subject flags : Nat) : s.Recorded (s.recordFirst k lane subject flags) k := by
  unfold State.recordFirst
  dsimp only
  refine State.Recorded.trans ?_ (State.Recorded.updSource hk _ _)
  split
  · rw [State.formFatal_eq]
    exact .of_parts _ _ _
  · rw [State.formRecord_eq]
    exact .of_parts _ _ _

theorem State.recordAgain_recorded {k : Nat} (hk : k < 416) (lane subject flags : Nat) : s.Recorded (s.recordAgain k lane subject flags) k := by
  unfold State.recordAgain
  extract_lets f t due
  split
  · rw [State.mergeRecord_eq]
    exact .of_parts _ _ _
  · split
    · exact .refl s k
    · split
      · exact .updSource hk _ FaultSource.formedAt
      · refine State.Recorded.trans ?_ (State.Recorded.updSource hk _ _)
        rw [State.formRecord_eq]
        exact .of_parts _ _ _

/-- The last indicator after an occurrence: of several sources at one instant the lowest. -/
def State.lastAfter (s : State) (k : Nat) : Nat :=
  if s.faults.lastSticky ≠ 0xFFFF ∧ s.faults.lastAt = s.now then min k s.faults.lastSticky else k

/-- A source's occurrence is counted. -/
def State.counted (s : State) (k : Nat) : State := s.updSource k (fun f => { f with count := sat32 f.count 1 })

theorem State.counted_source {k : Nat} (hk : k < 416) : (s.counted k).source k = { s.source k with count := sat32 (s.source k).count 1 } :=
  State.updSource_source_same hk _

theorem State.setSticky_source {k : Nat} (hk : k < 416) :
    (s.setSticky k).source k = { s.source k with sticky := true, inState := (s.source k).inState || srcHasState k } :=
  State.updSource_source_same hk _

theorem State.setSticky_source_other {j k : Nat} (hj : j ≠ k) : (s.setSticky k).source j = s.source j := State.updSource_source_other hj _

/-- What an occurrence of a source that is not sticky sets before its reaction (R491). -/
structure State.Occurred (s u : State) (k : Nat) : Prop where
  sticky : (u.source k).sticky = true
  inState : (u.source k).inState = ((s.source k).inState || srcHasState k)
  count : (u.source k).count = sat32 (s.source k).count 1
  last : u.faults.lastSticky = s.lastAfter k
  others : ∀ j, j ≠ k → u.source j = s.source j
  history : u.can.history = (srcCode k :: s.can.history).take 16

/-- The sticky bit, the message and the history of a source's first occurrence. -/
def State.noted (s : State) (k : Nat) : State := (((s.counted k).setSticky k).pushHistory (srcCode k)).emcy (srcCode k) k

theorem State.noted_occurred {k : Nat} (hk : k < 416) : s.Occurred (s.noted k) k := by
  have hfaults : (s.noted k).faults = ((s.counted k).setSticky k).faults := by rw [State.noted, State.emcy_eq]; rfl
  have hsources (j : Nat) : (s.noted k).source j = ((s.counted k).setSticky k).source j := State.source_congr (by rw [hfaults]) j
  have hlast : ((s.counted k).setSticky k).faults.lastSticky = (s.counted k).lastAfter k := rfl
  have hcounted : (s.counted k).lastAfter k = s.lastAfter k := by
    rw [State.lastAfter, State.counted, State.updSource_indicators, State.updSource_now]
    rfl
  refine ⟨?_, ?_, ?_, ?_, fun j hj => ?_, ?_⟩
  · rw [hsources, State.setSticky_source hk]
  · rw [hsources, State.setSticky_source hk, State.counted_source hk]
  · rw [hsources, State.setSticky_source hk, State.counted_source hk]
  · rw [hfaults, hlast, hcounted]
  · rw [hsources, State.setSticky_source_other hj, State.counted, State.updSource_source_other hj]
  · have hcan : ((s.counted k).setSticky k).can = s.can := (State.updSource_can _ _ _).trans (State.updSource_can _ _ _)
    rw [State.noted, State.emcy_history, State.pushHistory, hcan]

/-- The parameters stay. -/
theorem State.noted_dict (s : State) (k : Nat) : (s.noted k).dict = s.dict ∧ (s.noted k).part = s.part := by
  rw [State.noted, State.emcy_eq]
  exact ⟨(State.updSource_dict _ _ _).trans (State.updSource_dict _ _ _), (State.updSource_part _ _ _).trans (State.updSource_part _ _ _)⟩

theorem State.raise_first {k : Nat} (hk : k < 416) (hnew : (s.source k).sticky = false) :
    s.raise k = ((s.noted k).recordFirst k 0 0xFFFF 0).react k :=
  (if_neg (Nat.not_le.mpr hk)).trans (if_neg (by simp [hnew]))

theorem State.raise_again {k : Nat} (hk : k < 416) (hold : (s.source k).sticky = true) : s.raise k = (s.counted k).recordAgain k 0 0xFFFF 0 :=
  (if_neg (Nat.not_le.mpr hk)).trans (if_pos hold)

theorem State.raise_beyond {k : Nat} (hk : 416 ≤ k) : s.raise k = s := if_pos hk

theorem State.react_interrupt {k : Nat} (h : s.reaction k % 8 = 0) : s.react k = s.deliver ⟨false, k⟩ := by
  simp only [State.react, h]

/-- The first occurrence of a source whose reaction is an interrupt (R491, R494). -/
theorem State.raise_interrupt_occurred {k : Nat} (hk : k < 416) (hnew : (s.source k).sticky = false) (hreact : s.reaction k % 8 = 0) :
    s.Occurred (s.raise k) k := by
  have hnoted := s.noted_occurred hk
  obtain ⟨hcan, hdict, hpart, hlast, hsticky, hinState, hcount, hothers⟩ := (s.noted k).recordFirst_recorded hk 0 0xFFFF 0
  obtain ⟨hdict0, hpart0⟩ := s.noted_dict k
  rw [State.raise_first hk hnew, State.react_interrupt (by rwa [State.reaction_congr (hdict.trans hdict0) (hpart.trans hpart0)]), State.deliver_eq]
  exact ⟨hsticky.trans hnoted.sticky, hinState.trans hnoted.inState, hcount.trans hnoted.count, hlast.trans hnoted.last,
    fun j hj => (hothers j hj).trans (hnoted.others j hj), (congrArg Can.history hcan).trans hnoted.history⟩

/-- A further occurrence is counted, and leaves the indicators and the messages. -/
theorem State.raise_again_counted {k : Nat} (hk : k < 416) (hold : (s.source k).sticky = true) :
    ((s.raise k).source k).sticky = true ∧ ((s.raise k).source k).count = sat32 (s.source k).count 1 ∧ (s.raise k).can = s.can
      ∧ (s.raise k).faults.lastSticky = s.faults.lastSticky := by
  obtain ⟨hcan, -, -, hlast, hsticky, -, hcount, -⟩ := (s.counted k).recordAgain_recorded hk 0 0xFFFF 0
  rw [State.raise_again hk hold, hsticky, hcount, hcan, hlast, State.counted_source hk]
  exact ⟨hold, rfl, State.updSource_can _ _ _, by rw [State.counted, State.updSource_indicators]⟩

/-! ### The chip reset reaction and the sticky bits' clearing -/

theorem exec_chipResetReaction_none (h : s.faults.resetRequest = none) : exec .cChipResetReaction s = .next s := by
  show execChipResetReaction s = _
  rw [execChipResetReaction, h]

theorem exec_chipResetReaction_first {k : Nat} (h : s.faults.resetRequest = some k) (hfirst : s.faults.resetParking = false) {s1 : State}
    (h1 : ({ s.pinFault k with faults := { (s.pinFault k).faults with resetParking := true } } : State).parkAll = s1) :
    exec .cChipResetReaction s = .next (if s1.allArmsDown then s1.reactReset else s1) := by
  show execChipResetReaction s = _
  rw [execChipResetReaction, h]
  simp only [hfirst, Bool.false_eq_true, if_false, h1]

theorem exec_chipResetReaction_parking {k : Nat} (h : s.faults.resetRequest = some k) (hparking : s.faults.resetParking = true) :
    exec .cChipResetReaction s = .next (if s.allArmsDown then s.reactReset else s) := by
  show execChipResetReaction s = _
  rw [execChipResetReaction, h]
  simp only [hparking, if_true]

theorem State.clearSticky_taken {k : Nat} (hfull : s.fullServer = true) (hk : k < 416) (hclass : srcClass k = 0) :
    s.clearSticky k = .ok (s.updSource k (fun f => { f with sticky := false })) :=
  (if_neg (not_not_intro hfull)).trans (if_pos ⟨hk, hclass⟩)

theorem State.clearSticky_barred {k : Nat} (h : s.fullServer = false ∨ 416 ≤ k ∨ srcClass k ≠ 0) : ∃ e, s.clearSticky k = .error e := by
  unfold State.clearSticky
  split
  · exact ⟨_, rfl⟩
  next hfull =>
    have hcorrected : ¬ (k < 416 ∧ srcClass k = 0) := fun ⟨hk, hclass⟩ => by
      obtain hno | hbeyond | hother := h
      · exact hfull (by simp [hno])
      · omega
      · exact hother hclass
    exact ⟨_, if_neg hcorrected⟩

end

/-! ### The reactions that R487 allows -/

theorem reactionAllowed_default : ∀ k, k < 416 → reactionAllowed k (srcDefaultReaction k) = true := by decide +kernel

theorem srcHasState_fatal : ∀ k, k < 416 → srcClass k = 2 → srcHasState k = true := by decide +kernel

theorem srcClass_watchdogs {k : Nat} (hk : k < 2) : srcClass k = 2 := if_pos (by omega)

/-- A corrected source's reaction is an interrupt, and it leaves FATAL_N. -/
theorem reactionAllowed_corrected {k v : Nat} (h : reactionAllowed k v = true) (hclass : srcClass k = 0) : v % 8 = 0 ∧ v.testBit 4 = false := by
  have hk : ¬ k < 2 := fun hk => by
    rw [srcClass_watchdogs hk] at hclass
    exact absurd hclass (by decide)
  rw [reactionAllowed, if_neg hk, if_pos hclass] at h
  simpa using h

/-- A fatal source reacts and drives FATAL_N. -/
theorem reactionAllowed_fatal {k v : Nat} (hk : 2 ≤ k) (h : reactionAllowed k v = true) (hclass : srcClass k = 2) :
    v % 8 ≠ 0 ∧ v.testBit 4 = true := by
  rw [reactionAllowed, if_neg (by omega), if_neg (by omega), if_neg (by omega), Bool.and_eq_true] at h
  obtain ⟨hreacts, hpin⟩ := h
  refine ⟨fun hzero => ?_, hpin⟩
  simp [hzero] at hreacts

/-- Settles O47. That of several sources at one instant the lowest becomes the last (log entry 167), and that a reset reaction pins its record,
parks and follows at the wait's end (log entry 71), are the model's choices. -/
theorem faultSourcesAndReactions : Obligations.FaultSourcesAndReactions := by
  refine ⟨fun s => ⟨fun k => rfl, fun k hk => congrArg Host.Outcome.next (State.raise_beyond hk), fun k hk hnew hreact => ?_,
    fun k hk hold => ⟨s.raise k, rfl, State.raise_again_counted hk hold⟩, fun k hfull hk hclass => next_taken (State.clearSticky_taken hfull hk hclass),
    fun k hbar => ?_, exec_chipResetReaction_none, fun k h hfirst => exec_chipResetReaction_first h hfirst rfl, fun k => exec_chipResetReaction_parking,
    fun hparking => congrArg Host.Outcome.next (if_pos hparking)⟩,
    fun k hk => ⟨reactionAllowed_default k hk, fun v => reactionAllowed_corrected, fun v hlow => reactionAllowed_fatal hlow, srcHasState_fatal k hk⟩⟩
  · obtain ⟨hsticky, hinState, hcount, hlast, hothers, hhistory⟩ := State.raise_interrupt_occurred hk hnew hreact
    exact ⟨s.raise k, rfl, hsticky, hinState, hcount, hlast, hothers, hhistory⟩
  · obtain ⟨e, he⟩ := State.clearSticky_barred hbar
    exact next_refused he

end Sys2Proof.Machine

namespace Sys2Proof.Machine
open Sys2Proof

/-! ### Connection setup and end (O33) -/

section
variable {s : State} {n : Nat} {c : Conn}

theorem State.takeFree_twice (s : State) : s.takeFree.2.takeFree.2 = { s with free := s.free + 2 } := rfl

/-- The connection that a request sets up with the numbers, the window and the key picked for it (R354, R355). -/
def State.newConn (s : State) (r : CmReq) (n g w k qp : Nat) : Conn :=
  { num := n, port := r.port, sub := r.sub, management := fieldAt r.data 6 1 = 1, source := r.source, qp := qp,
    remote := r.qp, mtu := r.mtu, window := w, windowKey := k,
    adminRing :=
      { num := g, conn := n, loc := 0, admin := true, cls := 0, size := fieldAt r.data 7 1, limit := fieldAt r.data 0x20 2,
        addr := fieldAt r.data 8 8, key := fieldAt r.data 0x10 4, headAddr := fieldAt r.data 0x18 8, headKey := fieldAt r.data 0x14 4,
        coalesce := 0, notify := (fieldAt r.data 0x22 1).testBit 0 },
    retryLimit := s.param 0x6413 2, rnrLimit := s.param 0x6413 3, rate := s.host.ports[r.port].lineRate,
    target := s.host.ports[r.port].lineRate, raisedAt := s.now }

theorem exec_cmReq_rejected {r : CmReq} (hfit : s.portFitted r.port = true) (hup : s.host.ports[r.port].link[r.sub] = .up) {ring : Option Nat} {e : Nat}
    (hring : pickUnused 4096 (Config.freeValue (s.free + 1)) s.ringUsed = ring) (he : s.rejectCode r ring.isSome = some e) :
    execCmReq r s = .next (s.sendCm r.port r.sub r.source 2 0 (natBytes 1 e)) := by
  have hserved : ¬ (¬ s.portFitted r.port = true ∨ s.host.ports[r.port].link[r.sub] ≠ .up) := not_or.mpr ⟨not_not_intro hfit, not_not_intro hup⟩
  have hring' : pickUnused 4096 s.takeFree.2.takeFree.1 s.ringUsed = ring := hring
  rw [execCmReq, if_neg hserved]
  dsimp only
  rw [hring', he]

theorem exec_cmReq_accepted {r : CmReq} (hfit : s.portFitted r.port = true) (hup : s.host.ports[r.port].link[r.sub] = .up) {n g w k qp : Nat}
    {s3 : State} (hnum : pickUnused 1024 (Config.freeValue s.free) (fun n => (s.conn? n).isSome) = some n)
    (hring : pickUnused 4096 (Config.freeValue (s.free + 1)) s.ringUsed = some g)
    (hfresh : ({ s with free := s.free + 2 } : State).freshQp = (some (w, k, qp), s3)) (he : s.rejectCode r true = none) :
    execCmReq r s = .next ((s3.updHost (fun h => { h with conns := h.conns ++ [s.newConn r n g w k qp] })).sendCm r.port r.sub r.source 1 n
      (acceptBlock n w k g)) := by
  have hserved : ¬ (¬ s.portFitted r.port = true ∨ s.host.ports[r.port].link[r.sub] ≠ .up) := not_or.mpr ⟨not_not_intro hfit, not_not_intro hup⟩
  have hnum' : pickUnused 1024 s.takeFree.1 (fun n => (s.conn? n).isSome) = some n := hnum
  have hring' : pickUnused 4096 s.takeFree.2.takeFree.1 s.ringUsed = some g := hring
  have he' : s.rejectCode r (some g).isSome = none := he
  rw [execCmReq, if_neg hserved]
  rw [← State.takeFree_twice] at hfresh
  dsimp only
  rw [hfresh, hring', hnum', he']
  rfl

theorem exec_cmRtu (hc : s.conn? n = some c) (hready : c.ready = false) :
    exec (.cCmRtu n) s = .next ((s.updConn n (fun c => { c with ready := true })).updHost (fun h => { h with rings := h.rings ++ [c.adminRing] })) := by
  show execCmRtu n s = _
  rw [execCmRtu, hc]
  simp only [hready, Bool.false_eq_true, if_false]

theorem exec_cmDreq (hc : s.conn? n = some c) : exec (.cCmDreq n) s = .next ((s.sendCm c.port c.sub c.source 4 n []).endConn n 1) := by
  show execCmDreq n s = _
  rw [execCmDreq, hc]

theorem exec_ackTimeout (hc : s.conn? n = some c) (made : Nat) :
    exec (.cAckTimeout n made) s = .next (if made < c.retryLimit then s.updConn n (fun c => { c with retries := made + 1 }) else s.endConn n 3) := by
  show execAckTimeout n made s = _
  rw [execAckTimeout, hc]

/-- A doorbell write of a connection: its key decides, then its form (R349, R360). -/
theorem exec_doorbell (hc : s.conn? n = some c) (key off : Nat) (data : List Byte) :
    exec (.cDoorbell n key off data) s = .next (
      if key ≠ c.windowKey then s.sendHost (.nak n 2)
      else if off % 8 ≠ 0 ∨ data.length % 8 ≠ 0 ∨ data.length < 8 ∨ 512 < off + data.length then
        s.updHost (fun h => { h with ignored := sat32 h.ignored 1 })
      else s.doorbellWords n (off / 8) ((List.range (data.length / 8)).map (fun i => fieldAt data (8 * i) 8))) := by
  show execDoorbell n key off data s = _
  rw [execDoorbell, hc]
  rfl

end

/-- Settles O33. That numbers, windows and keys are free picks (log entry 27), and that a doorbell write beyond the window is discarded whole (log
entry 94), are the model's choices. -/
theorem connections : Obligations.Connections := by
  refine fun s => ⟨fun r hfit hup => ?_, fun n c => exec_cmRtu, fun n c => exec_cmDreq, fun n => rfl, fun n => rfl, fun n => rfl,
    fun n made c hc hmore => (exec_ackTimeout hc made).trans (by rw [if_pos hmore]),
    fun n made c hc hdone => (exec_ackTimeout hc made).trans (by rw [if_neg (Nat.not_lt.mpr hdone)]),
    fun n c key off data hc _ => ⟨fun hkey => ?_, fun hkey hbad => ?_, fun hkey hoff hlen hsome hfits => ?_⟩⟩
  · intro num ring fresh
    refine ⟨fun e he => exec_cmReq_rejected hfit hup rfl he, fun n g w k qp he hnum hring hfresh => ?_⟩
    have hfree : s.rejectCode r true = none :=
      (congrArg (fun x : Option Nat => s.rejectCode r x.isSome) hring).symm.trans he
    have hpicked : ({ s with free := s.free + 2 } : State).freshQp = (some (w, k, qp), fresh.2) := Prod.ext hfresh rfl
    exact ⟨s.newConn r n g w k qp, exec_cmReq_accepted hfit hup hnum hring hpicked hfree, rfl, rfl, decide_eq_true_iff, rfl, rfl, rfl⟩
  · rw [exec_doorbell hc, if_pos hkey]
  · rw [exec_doorbell hc, if_neg (not_not_intro hkey), if_pos hbad]
  · rw [exec_doorbell hc, if_neg (not_not_intro hkey), if_neg (by omega)]

/-! ### Congestion control and port events (O35) -/

section
variable {s : State} {n : Nat} {c : Conn}

theorem exec_ceMarkedPacket_due (hc : s.conn? n = some c) (hnever : c.cnpAt = none) :
    exec (.cCeMarkedPacket n) s = .next (((s.updConn n (fun c => { c with cnpAt := some s.now })).updPort c.port (fun p =>
      { p with cnps := p.cnps.set c.sub.val (sat32 p.cnps[c.sub] 1) })).sendHost (.cnp n)) := by
  show execCeMarkedPacket n s = _
  rw [execCeMarkedPacket, hc]
  simp only [hnever, if_true]

theorem exec_ceMarkedPacket_early (hc : s.conn? n = some c) {t : Nat} (hlast : c.cnpAt = some t) (hearly : s.now < t + s.param 0x6412 6 * 1000) :
    exec (.cCeMarkedPacket n) s = .next s := by
  have hnotDue : ¬ decide (t + s.param 0x6412 6 * 1000 ≤ s.now) = true := by simpa using hearly
  show execCeMarkedPacket n s = _
  rw [execCeMarkedPacket, hc]
  simp only [hlast, if_neg hnotDue]

theorem Conn.cut_rate_bounds (c : Conn) (g low now : Nat) :
    low ≤ (c.cut g low now).rate ∧ (low ≤ c.rate → (c.cut g low now).rate ≤ c.rate) ∧ (c.cut g low now).target = c.rate :=
  ⟨Nat.le_max_left _ _, fun hlow => Nat.max_le.mpr ⟨hlow, Nat.sub_le _ _⟩, rfl⟩

theorem Conn.raised_rate_bounds (c : Conn) (add low line : Nat) :
    low ≤ (c.raised add low line).rate ∧ (low ≤ line → (c.raised add low line).rate ≤ line)
      ∧ (c.rate ≤ c.target → c.target ≤ line → c.rate ≤ (c.raised add low line).rate) := by
  refine ⟨Nat.le_max_left _ _, fun hlow => Nat.max_le.mpr ⟨hlow, Nat.min_le_left _ _⟩, fun hbelow hline => ?_⟩
  have htarget : c.rate ≤ (c.raised add low line).target := by
    refine Nat.le_min.mpr ⟨hbelow.trans hline, ?_⟩
    split <;> omega
  have hhalf : c.rate ≤ (c.rate + (c.raised add low line).target) / 2 := by omega
  exact (Nat.le_min.mpr ⟨hbelow.trans hline, hhalf⟩).trans (Nat.le_max_right _ _)

theorem exec_pfcFrame {q : PortId} {sub : SubPortId} {prio : Fin 8} {pause : Bool} (hfit : s.portFitted q = true)
    (hnamed : (s.param 0x6411 5).testBit prio.val = true) :
    exec (.cPfcFrame q sub prio pause) s = .next ((s.updPort q (fun p =>
      { p with paused := p.paused.set sub.val (if pause then p.paused[sub] ||| 2 ^ prio.val else p.paused[sub] &&& (0xFF ^^^ 2 ^ prio.val)) })).resumeHost) :=
  congrArg Host.Outcome.next (if_neg (by simp [hfit, hnamed]))

theorem exec_pfcFrame_other {q : PortId} {sub : SubPortId} {prio : Fin 8} {pause : Bool} (hother : (s.param 0x6411 5).testBit prio.val = false) :
    exec (.cPfcFrame q sub prio pause) s = .next s :=
  congrArg Host.Outcome.next (if_pos (.inr (by simp [hother])))

end

/-- Settles O35. DCQCN's arithmetic (log entry 28), and that a change of the breakout ends the port's connections with code 7 (log entry 84), are
the model's choices. -/
theorem congestionAndPorts : Obligations.CongestionAndPorts := by
  refine fun s => ⟨fun n c => exec_ceMarkedPacket_due, fun n c t hc hlast hearly => exec_ceMarkedPacket_early hc hlast hearly, fun n => ⟨rfl, rfl, rfl⟩,
    Conn.cut_rate_bounds, Conn.raised_rate_bounds, fun q sub prio pause => exec_pfcFrame, fun q sub prio pause => exec_pfcFrame_other, rfl,
    fun q up hfit href hrun hdomain => ?_, fun q sub hfit => congrArg Host.Outcome.next (if_pos hfit)⟩
  have hpass : ¬ (¬ s.portFitted q = true ∨ s.ref156Lost = true ∨ ¬ s.dev.state.running = true ∨ s.domains[120 + q.val].state ≠ 2) := by
    simp [hfit, href, hrun, hdomain]
  exact congrArg Host.Outcome.next (if_neg hpass)

end Sys2Proof.Machine

namespace Sys2Proof.Machine
open Sys2Proof

/-! ### Admin commands (O36) -/

section
variable {s : State} {q : SeqId} {c : CtxId}

/-- The connection that a CREATE_RING's ring is for (R367). -/
def State.ringOwner (s : State) (x : Ctx) : Nat := (ownerOf x.chain (s.ringConn x.ring)).getD (s.ringConn x.ring)

theorem exec_createRing_made (hrun : s.Runs q c 0x80) {loc n : Nat} (hloc : s.freeLocal (s.ringOwner (s.ctx q c)) = some loc)
    (hnum : pickUnused 4096 (Config.freeValue s.free) s.ringUsed = some n) :
    exec (.cCreateRing q c) s = .next (
      ((({ s with free := s.free + 1 } : State).updHost (fun h =>
        { h with rings := h.rings ++ [ringOf (s.ctx q c).chain n (s.ringOwner (s.ctx q c)) loc] })).commitCmd
          (s.ctx q c).ring (s.ctx q c).slot).endCommand q c 0 loc n) := by
  have hnum' : pickUnused 4096 s.takeFree.1 s.ringUsed = some n := hnum
  have hloc' : s.freeLocal ((ownerOf (s.ctx q c).chain (s.ringConn (s.ctx q c).ring)).getD (s.ringConn (s.ctx q c).ring)) = some loc := hloc
  show execCreateRing q c s = _
  rw [execCreateRing, hrun.onCommand]
  dsimp only
  rw [hloc', hnum']
  rfl

theorem exec_createRing_full (hrun : s.Runs q c 0x80)
    (hfull : s.freeLocal (s.ringOwner (s.ctx q c)) = none ∨ pickUnused 4096 (Config.freeValue s.free) s.ringUsed = none) :
    exec (.cCreateRing q c) s = .next (s.endCommand q c 0x41 0 0) := by
  show execCreateRing q c s = _
  rw [execCreateRing, hrun.onCommand]
  refine congrArg Host.Outcome.next ?_
  dsimp only
  split
  next loc n hloc hnum =>
    obtain hnone | hnone := hfull
    · exact absurd (hloc.symm.trans hnone) (by simp)
    · exact absurd (hnum.symm.trans hnone) (by simp)
  · rfl

theorem exec_deleteRing (hrun : s.Runs q c 0x81) {n : Nat} (hn : fieldAt (s.ctx q c).chain 4 2 = n) {s2 : State}
    (h2 : (((((s.updRing n (fun r => { r with state := .deleting })).dropFraming n).abortRing n).updHost (fun h =>
      { h with deletes := h.deletes ++ [(n, (s.ctx q c).ring, (s.ctx q c).slot)] })).commitCmd (s.ctx q c).ring (s.ctx q c).slot) = s2) :
    exec (.cDeleteRing q c) s = .next ((s2.newToken q (s.ctx q c).ring (s.ctx q c).slot 5 []).2.suspendCtx q c s2.svc.nextToken) := by
  show execDeleteRing q c s = _
  rw [execDeleteRing, hrun.onCommand]
  subst hn h2
  rfl

theorem exec_deleteRingDone {n : Nat} (hidle : s.ringBusy n = false) (hasked : s.host.deletes.any (fun x => x.1 = n) = true)
    (hover : s.clusters.failOver = none) (hserves : s.hostStopped = false) :
    exec (.cDeleteRingDone n) s = .next (
      ((s.publish n).updHost (fun h => { h with rings := h.rings.filter (fun r => ¬(r.num = n ∧ r.state = .deleting)) })).completeDeletes n) := by
  have hall : s.host.deletes.all (fun x => x.1 ≠ n) = false := by
    rw [← Bool.not_eq_true, List.all_eq_true]
    obtain ⟨x, hx, hxn⟩ := List.any_eq_true.mp hasked
    exact fun h => absurd (of_decide_eq_true hxn) (of_decide_eq_true (h x hx))
  have hgo : ¬ (s.ringBusy n = true ∨ s.host.deletes.all (fun x => x.1 ≠ n) = true ∨ s.clusters.failOver.isSome = true
      ∨ s.hostStopped = true) := by
    rw [hidle, hall, hover, hserves]
    decide
  exact congrArg Host.Outcome.next (if_neg hgo)

theorem exec_abort (hrun : s.Runs q c 0x82) {v : Nat} {t : State}
    (hset : s.abtset (fieldAt (s.ctx q c).chain 4 2) (fieldAt (s.ctx q c).chain 8 4) = (v, t)) :
    exec (.cAbort q c) s = .next (t.endCommand q c (if v = 0 then 0 else v + 1) 0 0) := by
  show execAbort q c s = _
  rw [execAbort, hrun.onCommand]
  dsimp only
  rw [hset]

/-- The access that a DICT_READ makes. -/
def State.bandRead (s : State) (x : Ctx) : Except Nat (List Byte × State) :=
  s.dictRead (s.bandWriter x.ring) (fieldAt x.chain 4 2) (fieldAt x.chain 6 1) (some (fieldAt x.chain 0x14 4))

theorem exec_dictRead_refused (hrun : s.Runs q c 0x83) {e : Nat} (hread : s.bandRead (s.ctx q c) = .error e) :
    exec (.cDictRead q c) s = .next (s.endCommand q c 0x42 0 e) := by
  show execDictRead q c s = _
  rw [execDictRead, hrun.onCommand]
  rw [State.bandRead] at hread
  dsimp only
  rw [hread]
  rfl

theorem exec_dictRead_answered (hrun : s.Runs q c 0x83) {v : List Byte} {t : State} {r : Ring} (hread : s.bandRead (s.ctx q c) = .ok (v, t))
    (hfits : v.length ≤ fieldAt (s.ctx q c).chain 0x14 4) (hsome : v ≠ []) (hring : t.ring? (s.ctx q c).ring = some r) :
    exec (.cDictRead q c) s = .next ((t.sendHost (.write r.conn (fieldAt (s.ctx q c).chain 8 8) (fieldAt (s.ctx q c).chain 0x10 4) v none)).endCommand
      q c 0 v.length 0) := by
  show execDictRead q c s = _
  rw [execDictRead, hrun.onCommand]
  rw [State.bandRead] at hread
  dsimp only
  rw [hread]
  simp only [if_neg (Nat.not_lt.mpr hfits), hring, if_neg hsome]

/-- The access that a DICT_WRITE makes. -/
def State.bandWrite (s : State) (x : Ctx) (data : List Byte) : Except Nat State :=
  s.dictWrite (s.bandWriter x.ring) (fieldAt x.chain 4 2) (fieldAt x.chain 6 1) data

theorem exec_dictWrite_refused (hrun : s.Runs q c 0x84) {data : List Byte} (hlen : data.length = fieldAt (s.ctx q c).chain 0x14 4) {e : Nat}
    (hwrite : s.bandWrite (s.ctx q c) data = .error e) :
    exec (.cDictWrite q c data) s = .next ((s.writeRefused (fieldAt (s.ctx q c).chain 4 2) data e).endCommand q c 0x42 0 e) := by
  show execDictWrite q c data s = _
  rw [execDictWrite, hrun.onCommand]
  rw [State.bandWrite] at hwrite
  dsimp only
  rw [if_neg (not_not_intro hlen), hwrite]
  rfl

theorem exec_dictWrite_taken (hrun : s.Runs q c 0x84) {data : List Byte} (hlen : data.length = fieldAt (s.ctx q c).chain 0x14 4) {t : State}
    (hwrite : s.bandWrite (s.ctx q c) data = .ok t) :
    exec (.cDictWrite q c data) s = .next ((t.commitCmd (s.ctx q c).ring (s.ctx q c).slot).endCommand q c 0 0 0) := by
  show execDictWrite q c data s = _
  rw [execDictWrite, hrun.onCommand]
  rw [State.bandWrite] at hwrite
  dsimp only
  rw [if_neg (not_not_intro hlen), hwrite]

end

/-- Settles O36. That DELETE_RING waits on a token of engine 5 and completes at DELETE_RING_DONE (log entry 68), and that DICT_WRITE acts on data
of the whole length alone (log entry 69), are the model's choices. -/
theorem adminCommands : Obligations.AdminCommands :=
  fun _ _ _ => ⟨fun hrun => ⟨fun _ _ => exec_createRing_made hrun, exec_createRing_full hrun⟩, fun hrun => exec_deleteRing hrun rfl rfl,
    fun _ => exec_deleteRingDone, fun hrun => exec_abort hrun rfl,
    fun hrun => ⟨fun _ => exec_dictRead_refused hrun, fun _ _ _ => exec_dictRead_answered hrun⟩,
    fun _ hrun hlen => ⟨fun _ => exec_dictWrite_refused hrun hlen, fun _ => exec_dictWrite_taken hrun hlen⟩⟩

end Sys2Proof.Machine

namespace Sys2Proof.Machine
open Sys2Proof

/-! ### The descriptors that run, the latch of FATAL_N, and the fail-over under way

What records, parks, the end of connections, accesses of buffer memory, completions of tokens, and faults of no cluster leave as they find it is
`State.latched`; the lemmas stand in the order of the definitions, as those about `State.fixed` do. -/

/-- The descriptors that run on each mover channel, the latch of FATAL_N, whether a fail-over is under way, and how long the last one took. -/
def State.latched (s : State) : Vector (List MoverReq) 32 × Bool × Bool × Nat :=
  (s.movers.map (fun m => m.running.map MoverRun.req), s.faults.fatalLatch, s.clusters.failOver.isSome, s.clusters.lastDuration)

@[simp] theorem State.mk_latched {pending now free part tiles packs spinQueue buses fmtStore svc bench ref100Lost ref156Lost dict lock host
    store buf lastMoverError layers raw can heldAccess inputs arbiter injection dev boot rails domains
    flash fuses window sec recorder mirrorHeld heldTokens tileHeld out} (s : State) :
    State.latched ⟨pending, now, free, part, tiles, packs, spinQueue, buses, fmtStore, svc, bench, ref100Lost, ref156Lost, dict, lock, host,
      store, buf, s.movers, lastMoverError, layers, raw, can, heldAccess, s.faults, inputs, s.clusters, arbiter, injection, dev, boot, rails,
      domains, flash, fuses, window, sec, recorder, mirrorHeld, heldTokens, tileHeld, out⟩ = s.latched := by rfl

@[simp] theorem State.ite_latched (c : Prop) [Decidable c] (s t : State) :
    (if c then s else t).latched = if c then s.latched else t.latched := by
  split <;> rfl

@[simp] theorem State.dite_latched (c : Prop) [Decidable c] (s : c → State) (t : ¬ c → State) :
    (if h : c then s h else t h).latched = if h : c then (s h).latched else (t h).latched := by
  split <;> rfl

@[simp] theorem State.ite_snd_latched {α : Type} (c : Prop) [Decidable c] (x y : α × State) :
    (if c then x else y).2.latched = if c then x.2.latched else y.2.latched := by
  split <;> rfl

@[simp] theorem State.foldl_latched {α : Type} (f : State → α → State) (hf : ∀ s a, (f s a).latched = s.latched) (l : List α) (s : State) :
    (l.foldl f s).latched = s.latched := by
  induction l generalizing s with
  | nil => rfl
  | cons a l ih => rw [List.foldl_cons, ih, hf]

/-! #### Machine/Ops -/

@[simp] theorem State.takeFree_latched (s : State) : s.takeFree.2.latched = s.latched := by rfl
@[simp] theorem State.mirror_latched (s : State) (r) : (s.mirror r).latched = s.latched := by unfold State.mirror; split <;> rfl
@[simp] theorem State.send_latched (s : State) (o) : (s.send o).latched = s.latched := by rfl
@[simp] theorem State.updPack_latched (s : State) (p f) : (s.updPack p f).latched = s.latched := by rfl
@[simp] theorem State.updArm_latched (s : State) (p a f) : (s.updArm p a f).latched = s.latched := by rfl
@[simp] theorem State.updLane_latched (s : State) (p a h f) : (s.updLane p a h f).latched = s.latched := by rfl
@[simp] theorem State.updServo_latched (s : State) (p a f) : (s.updServo p a f).latched = s.latched := by rfl
@[simp] theorem State.updDomain_latched (s : State) (d f) : (s.updDomain d f).latched = s.latched := by rfl

/-! #### Machine/BufferOps -/

@[simp] theorem State.updMem_latched (s : State) (n f) : (s.updMem n f).latched = s.latched := by simp [State.updMem]
@[simp] theorem State.updBuf_latched (s : State) (f) : (s.updBuf f).latched = s.latched := by rfl
@[simp] theorem State.storeWord_latched (s : State) (g data check) : (s.storeWord g data check).latched = s.latched := by rfl
@[simp] theorem State.failChannel_latched (s : State) (ch) : (s.failChannel ch).1.latched = s.latched := by simp [State.failChannel]
@[simp] theorem State.logError_latched (s : State) (g kind) : (s.logError g kind).latched = s.latched := by simp [State.logError]

@[simp] theorem State.memRead_latched (s : State) (g x) : (s.memRead g x).2.1.latched = s.latched := by
  unfold State.memRead
  rcases s.granPlace g with ⟨ch, n, k⟩
  dsimp only
  repeat' split
  all_goals simp

@[simp] theorem State.memPut_latched (s : State) (g data check) : (s.memPut g data check).latched = s.latched := by rw [State.memPut_eq]; rfl
@[simp] theorem State.memWrite_latched (s : State) (g data) : (s.memWrite g data).latched = s.latched := by simp [State.memWrite]
@[simp] theorem State.memPoison_latched (s : State) (g data) : (s.memPoison g data).latched = s.latched := by simp [State.memPoison]
@[simp] theorem State.updLine_latched (s : State) (l f) : (s.updLine l f).latched = s.latched := by rfl
@[simp] theorem State.dropLine_latched (s : State) (l) : (s.dropLine l).latched = s.latched := by rfl
@[simp] theorem State.countBack_latched (s : State) : s.countBack.latched = s.latched := by rfl
@[simp] theorem State.writeBack_latched (s : State) (x) : (s.writeBack x).latched = s.latched := by simp [State.writeBack]

theorem State.victim_latched {s : State} {set mask x} (h : s.victim set mask = some x) : x.2.latched = s.latched := by
  unfold State.victim at h
  dsimp only at h
  split at h
  · obtain rfl := Option.some.inj h
    rfl
  · split at h
    · cases h
    · obtain ⟨w, -, rfl⟩ := Option.map_eq_some_iff.mp h
      simp

theorem State.allocate_latched {s : State} {l mask age t} (h : s.allocate l mask age = some t) : t.latched = s.latched := by
  unfold State.allocate at h
  split at h
  · cases h
  next hv =>
    cases h
    have := State.victim_latched hv
    split <;> simp_all

@[simp] theorem State.countHit_latched (s : State) : s.countHit.latched = s.latched := by rfl
@[simp] theorem State.countMiss_latched (s : State) : s.countMiss.latched = s.latched := by rfl
@[simp] theorem State.countBypass_latched (s : State) : s.countBypass.latched = s.latched := by rfl

@[simp] theorem State.sramError_latched (s : State) (g e) : (s.sramError g e).1.latched = s.latched := by
  unfold State.sramError
  dsimp only
  repeat' split
  all_goals simp

@[simp] theorem State.cacheRead_latched (s : State) (r own g x e) : (s.cacheRead r own g x e).2.1.latched = s.latched := by
  unfold State.cacheRead
  dsimp only
  repeat' split
  all_goals simp
  simp [State.allocate_latched ‹_›]

@[simp] theorem State.granRead_latched (s : State) (r own g x e) : (s.granRead r own g x e).2.1.latched = s.latched := by simp [State.granRead]

@[simp] theorem State.gransRead_latched (s : State) (r own x e l) : (s.gransRead r own x e l).2.1.latched = s.latched := by
  induction l generalizing s e with
  | nil => rfl
  | cons g l ih =>
    unfold State.gransRead
    dsimp only
    split <;> simp [ih]

@[simp] theorem State.bufRead_latched (s : State) (r own addr len x e) : (s.bufRead r own addr len x e).2.1.latched = s.latched := by
  unfold State.bufRead
  split <;> simp

@[simp] theorem State.granWrite_latched (s : State) (r own g data e) : (s.granWrite r own g data e).1.latched = s.latched := by
  unfold State.granWrite
  dsimp only
  repeat' split
  all_goals simp
  simp [State.allocate_latched ‹_›]

@[simp] theorem State.gransWrite_latched (s : State) (r own e g l n) : (s.gransWrite r own e g l n).1.latched = s.latched := by
  induction n generalizing s e g l with
  | zero => rfl
  | succ n ih => simp [State.gransWrite, ih]

@[simp] theorem State.bufWrite_latched (s : State) (r own addr l e) : (s.bufWrite r own addr l e).1.latched = s.latched := by
  unfold State.bufWrite
  repeat' split
  all_goals simp

/-! #### The sources of buffer memory are of no cluster -/

theorem State.memRead_sources (s : State) (g x) : ∀ k ∈ (s.memRead g x).2.2, 32 ≤ k := by
  unfold State.memRead
  rcases s.granPlace g with ⟨ch, n, j⟩
  dsimp only
  repeat' split
  all_goals simp [State.failChannel]
  all_goals omega

theorem State.sramError_sources (s : State) (g e) : ∀ k ∈ (s.sramError g e).2, 32 ≤ k := by
  unfold State.sramError
  dsimp only
  repeat' split
  all_goals simp

theorem State.cacheRead_sources (s : State) (r own g x e) : ∀ k ∈ (s.cacheRead r own g x e).2.2, 32 ≤ k := by
  have hsram := s.sramError_sources g e
  have hread (t : State) := t.memRead_sources g x
  unfold State.cacheRead
  dsimp only
  repeat' split
  all_goals grind

theorem State.granRead_sources (s : State) (r own g x e) : ∀ k ∈ (s.granRead r own g x e).2.2, 32 ≤ k := s.cacheRead_sources r own g x e

theorem State.gransRead_sources (s : State) (r own x e l) : ∀ k ∈ (s.gransRead r own x e l).2.2, 32 ≤ k := by
  induction l generalizing s e with
  | nil => simp [State.gransRead]
  | cons g l ih =>
    have hread := s.granRead_sources r own g (dramOf x g) e
    unfold State.gransRead
    dsimp only
    split
    · exact hread
    · exact fun k hk => (List.mem_append.mp hk).elim (hread k) (ih _ _ k)

theorem State.bufRead_sources (s : State) (r own addr len x e) : ∀ k ∈ (s.bufRead r own addr len x e).2.2, 32 ≤ k := by
  unfold State.bufRead
  split
  · simp
  · exact s.gransRead_sources r own x e _

theorem State.granWrite_sources (s : State) (r own g data e) : ∀ k ∈ (s.granWrite r own g data e).2, 32 ≤ k := by
  have hsram := s.sramError_sources g e
  unfold State.granWrite
  dsimp only
  repeat' split
  all_goals grind

theorem State.gransWrite_sources (s : State) (r own e g l n) : ∀ k ∈ (s.gransWrite r own e g l n).2, 32 ≤ k := by
  induction n generalizing s e g l with
  | zero => simp [State.gransWrite]
  | succ n ih => exact fun k hk => (List.mem_append.mp hk).elim (s.granWrite_sources r own g _ e k) (ih _ _ _ _ k)

theorem reqNarrow_beyond (r : Requester) : 32 ≤ reqNarrow r := by
  cases r <;> simp [reqNarrow]
  omega

theorem State.bufWrite_sources (s : State) (r own addr l e) : ∀ k ∈ (s.bufWrite r own addr l e).2, 32 ≤ k := by
  unfold State.bufWrite
  split
  · simp
  · split
    · simpa using reqNarrow_beyond r
    · exact s.gransWrite_sources r own e _ l _

/-! #### Machine/HostWire -/

@[simp] theorem State.sendOn_latched (s : State) (w m) : (s.sendOn w m).latched = s.latched := by simp [State.sendOn]
@[simp] theorem State.resumeHost_latched (s : State) : s.resumeHost.latched = s.latched := by simp [State.resumeHost]
@[simp] theorem State.updHost_latched (s : State) (f) : (s.updHost f).latched = s.latched := by rfl
@[simp] theorem State.updConn_latched (s : State) (n f) : (s.updConn n f).latched = s.latched := by rfl
@[simp] theorem State.sendHost_latched (s : State) (m) : (s.sendHost m).latched = s.latched := by unfold State.sendHost; split <;> simp

@[simp] theorem State.sendCm_latched (s : State) (q sub peer kind conn l) : (s.sendCm q sub peer kind conn l).latched = s.latched := by
  simp [State.sendCm]

/-! #### Machine/BlockResets -/

@[simp] theorem State.reinitChannel_latched (s : State) (c) : (s.reinitChannel c).latched = s.latched := by simp [State.reinitChannel]
@[simp] theorem State.resetPort_latched (s : State) (q) : (s.resetPort q).latched = s.latched := by simp [State.resetPort]

/-! #### Machine/Contexts -/

@[simp] theorem State.updCtx_latched (s : State) (q c f) : (s.updCtx q c f).latched = s.latched := by rfl
@[simp] theorem State.updSvc_latched (s : State) (f) : (s.updSvc f).latched = s.latched := by rfl
@[simp] theorem State.waitChecks_latched (s : State) : s.waitChecks.latched = s.latched := by simp [State.waitChecks]

/-! #### Machine/Recorder -/

@[simp] theorem State.updRecorder_latched (s : State) (f) : (s.updRecorder f).latched = s.latched := by rfl
@[simp] theorem State.queueForPack_latched (s : State) (r) : (s.queueForPack r).latched = s.latched := by simp [State.queueForPack]
@[simp] theorem State.numberRecord_latched (s : State) (r) : (s.numberRecord r).latched = s.latched := by simp [State.numberRecord]
@[simp] theorem State.stageRecord_latched (s : State) (r) : (s.stageRecord r).latched = s.latched := by simp [State.stageRecord]
@[simp] theorem State.formRecord_latched (s : State) (t) : (s.formRecord t).latched = s.latched := by simp [State.formRecord]
@[simp] theorem State.storePinned_latched (s : State) (r) : (s.storePinned r).latched = s.latched := by simp [State.storePinned]
@[simp] theorem State.formFatal_latched (s : State) (t) : (s.formFatal t).latched = s.latched := by simp [State.formFatal]
@[simp] theorem State.mergeRecord_latched (s : State) : s.mergeRecord.latched = s.latched := by unfold State.mergeRecord; split <;> simp
@[simp] theorem State.record_latched (s : State) (t) : (s.record t).latched = s.latched := by simp [State.record]

/-! #### Machine/Faults -/

@[simp] theorem State.updSource_latched (s : State) (k f) : (s.updSource k f).latched = s.latched := by unfold State.updSource; split <;> rfl
@[simp] theorem State.emcy_latched (s : State) (code src) : (s.emcy code src).latched = s.latched := by simp [State.emcy]
@[simp] theorem State.pushHistory_latched (s : State) (code) : (s.pushHistory code).latched = s.latched := by rfl

@[simp] theorem State.recordAgain_latched (s : State) (k lane subject flags) : (s.recordAgain k lane subject flags).latched = s.latched := by
  simp [State.recordAgain]

@[simp] theorem State.recordFirst_latched (s : State) (k lane subject flags) : (s.recordFirst k lane subject flags).latched = s.latched := by
  simp [State.recordFirst]

@[simp] theorem State.updCluster_latched (s : State) (c f) : (s.updCluster c f).latched = s.latched := by rfl

@[simp] theorem State.deliver_latched (s : State) (q) : (s.deliver q).latched = s.latched := by
  unfold State.deliver
  split
  next f hover => simp [State.latched, hover]
  · split
    · rfl
    · dsimp only
      split <;> rfl

@[simp] theorem State.leaveFaults_latched (s : State) (l why) : (s.leaveFaults l why).latched = s.latched := by simp [State.leaveFaults]
@[simp] theorem State.setSticky_latched (s : State) (k) : (s.setSticky k).latched = s.latched := State.updSource_latched s k _
@[simp] theorem State.resetCluster_latched (s : State) (c) : (s.resetCluster c).latched = s.latched := by simp [State.resetCluster]
@[simp] theorem State.requestReset_latched (s : State) (k) : (s.requestReset k).latched = s.latched := by unfold State.requestReset; split <;> rfl

/-- The reaction to a source of no cluster begins no fail-over. -/
theorem State.react_latched {k : Nat} (hk : k < 16 ∨ 32 ≤ k) (s : State) : (s.react k).latched = s.latched := by
  have hother : ¬ (16 ≤ k ∧ k < 32) := by omega
  unfold State.react
  split
  · exact State.deliver_latched _ _
  · exact State.deliver_latched _ _
  · rw [if_neg hother]
    simp
  · exact State.requestReset_latched _ _
  · rfl

theorem State.raiseWith_latched {k : Nat} (hk : k < 16 ∨ 32 ≤ k) (s : State) (lane subject flags) :
    (s.raiseWith k lane subject flags).latched = s.latched := by
  unfold State.raiseWith
  dsimp only
  repeat' split
  · rfl
  · simp
  · simp [State.react_latched hk]

theorem State.raise_latched {k : Nat} (hk : k < 16 ∨ 32 ≤ k) (s : State) : (s.raise k).latched = s.latched := State.raiseWith_latched hk s _ _ _
@[simp] theorem State.raisePack_latched (s : State) (p k) : (s.raisePack p k).latched = s.latched := State.raise_latched (.inr (by omega)) s

@[simp] theorem State.raiseLane_latched (s : State) (p a h k) : (s.raiseLane p a h k).latched = s.latched :=
  State.raiseWith_latched (.inr (by omega)) s _ _ _

/-! #### Machine/Links -/

@[simp] theorem State.updLink_latched (s : State) (p a f) : (s.updLink p a f).latched = s.latched := by rfl

@[simp] theorem State.sendNumbered_latched (s : State) (p a frame) : (s.sendNumbered p a frame).latched = s.latched := by
  simp [State.sendNumbered]

@[simp] theorem State.sendCmd_latched (s : State) (p a opcode mask) : (s.sendCmd p a opcode mask).latched = s.latched := by simp [State.sendCmd]
@[simp] theorem State.disarm_latched (s : State) (p a) : (s.disarm p a).latched = s.latched := by simp [State.disarm]

/-! #### Machine/LaneOps -/

@[simp] theorem State.updFmt_latched (s : State) (p a f) : (s.updFmt p a f).latched = s.latched := by rfl
@[simp] theorem State.updChan_latched (s : State) (p a h f) : (s.updChan p a h f).latched = s.latched := by rfl
@[simp] theorem State.updHealth_latched (s : State) (p a h f) : (s.updHealth p a h f).latched = s.latched := by rfl
@[simp] theorem State.updMedia_latched (s : State) (p f) : (s.updMedia p f).latched = s.latched := by rfl
@[simp] theorem State.passPointer_latched (s : State) (p h addr) : (s.passPointer p h addr).latched = s.latched := by simp [State.passPointer]
@[simp] theorem State.setQuality_latched (s : State) (p a h q) : (s.setQuality p a h q).latched = s.latched := by simp [State.setQuality]
@[simp] theorem State.assessLane_latched (s : State) (p a h) : (s.assessLane p a h).latched = s.latched := by simp [State.assessLane]
@[simp] theorem State.hubGets_latched (s : State) (p a o) : (s.hubGets p a o).latched = s.latched := by rfl
@[simp] theorem State.toHub_latched (s : State) (p a o) : (s.toHub p a o).latched = s.latched := by simp [State.toHub]
@[simp] theorem State.deliverEnd_latched (s : State) (p a h e) : (s.deliverEnd p a h e).latched = s.latched := by simp [State.deliverEnd]
@[simp] theorem State.deliverAll_latched (s : State) (p a h) : (s.deliverAll p a h).latched = s.latched := by simp [State.deliverAll]
@[simp] theorem State.saveSuspects_latched (s : State) (p) : (s.saveSuspects p).latched = s.latched := by rfl
@[simp] theorem State.noteWritten_latched (s : State) (p addr) : (s.noteWritten p addr).latched = s.latched := by simp [State.noteWritten]

@[simp] theorem State.drive_latched (s : State) (p a h cut) : (s.drive p a h cut).latched = s.latched := by
  unfold State.drive
  dsimp only
  repeat' split
  all_goals simp

@[simp] theorem State.closeWrite_latched (s0 : State) (p a h torn) : (s0.closeWrite p a h torn).latched = s0.latched := by
  unfold State.closeWrite
  split <;> simp

@[simp] theorem State.armTurn_latched (s : State) (p a) : (s.armTurn p a).latched = s.latched := by simp [State.armTurn]
@[simp] theorem State.afterGates_latched (s : State) (p a) : (s.afterGates p a).latched = s.latched := by simp [State.afterGates]
@[simp] theorem State.barWrites_latched (s : State) (p a m) : (s.barWrites p a m).latched = s.latched := by simp [State.barWrites]

/-! #### Machine/SpanWatch -/

@[simp] theorem State.setDevState_latched (s : State) (d form cause) : (s.setDevState d form cause).latched = s.latched := by
  simp [State.setDevState]

@[simp] theorem State.updStore_latched (s : State) (f) : (s.updStore f).latched = s.latched := by rfl
@[simp] theorem State.noteJournal_latched (s : State) : s.noteJournal.latched = s.latched := by rfl
@[simp] theorem State.replay_latched (s : State) : s.replay.latched = s.latched := by rfl
@[simp] theorem State.tryOpen_latched (s : State) : s.tryOpen.latched = s.latched := by simp [State.tryOpen]
@[simp] theorem State.noteSpans_latched (s : State) : s.noteSpans.latched = s.latched := by simp [State.noteSpans]

/-! #### Machine/ServoOps -/

@[simp] theorem State.inhibitArm_latched (s : State) (p a cut) : (s.inhibitArm p a cut).latched = s.latched := by simp [State.inhibitArm]
@[simp] theorem State.parkServo_latched (s : State) (p a cut) : (s.parkServo p a cut).latched = s.latched := by simp [State.parkServo]
@[simp] theorem State.loadServo_latched (s : State) (p a k) : (s.loadServo p a k).latched = s.latched := by rfl

/-! #### Machine/Routines -/

@[simp] theorem State.applyArrays_latched (s : State) (p a) : (s.applyArrays p a).latched = s.latched := by rfl
@[simp] theorem State.trimActive_latched (s : State) (p a) : (s.trimActive p a).latched = s.latched := by simp [State.trimActive]
@[simp] theorem State.dropReads_latched (s : State) (p a) : (s.dropReads p a).latched = s.latched := by rfl
@[simp] theorem State.giveBack_latched (s : State) (p b h e) : (s.giveBack p b h e).latched = s.latched := by simp [State.giveBack]
@[simp] theorem State.stopWith_latched (s : State) (p a h e) : (s.stopWith p a h e).latched = s.latched := by simp [State.stopWith]

@[simp] theorem State.stopSector_latched (s : State) (p a h addr outcome verify) :
    (s.stopSector p a h addr outcome verify).latched = s.latched := by simp [State.stopSector]

@[simp] theorem State.stopSix_latched (s : State) (p a outcome x) : (s.stopSix p a outcome x).latched = s.latched := by
  unfold State.stopSix
  dsimp only
  repeat' split
  all_goals simp

@[simp] theorem State.dropSixes_latched (s : State) (p a m) : (s.dropSixes p a m).latched = s.latched := by simp [State.dropSixes]
@[simp] theorem State.stopLane_latched (s : State) (p a h outcome) : (s.stopLane p a h outcome).latched = s.latched := by simp [State.stopLane]

@[simp] theorem State.stopSectors_latched (s : State) (p a outcome) : (s.stopSectors p a outcome).latched = s.latched := by
  simp [State.stopSectors]

@[simp] theorem State.cancelWrites_latched (s : State) (p a ends h) : (s.cancelWrites p a ends h).latched = s.latched := by
  unfold State.cancelWrites
  split <;> simp

@[simp] theorem State.settleRoutine_latched (s : State) (p a outcome) : (s.settleRoutine p a outcome).latched = s.latched := by
  unfold State.settleRoutine
  dsimp only
  repeat' split
  all_goals simp

@[simp] theorem State.chargeBack_latched (s : State) (p a) : (s.chargeBack p a).latched = s.latched := by
  unfold State.chargeBack
  dsimp only
  repeat' split
  all_goals simp

@[simp] theorem State.closeRoutine_latched (s : State) (p a left result) : (s.closeRoutine p a left result).latched = s.latched := by
  simp [State.closeRoutine]

@[simp] theorem State.endRoutine_latched (s : State) (p a outcome) : (s.endRoutine p a outcome).latched = s.latched := by simp [State.endRoutine]

@[simp] theorem State.refuseRequest_latched (s : State) (p a req outcome) : (s.refuseRequest p a req outcome).latched = s.latched := by
  simp [State.refuseRequest]

@[simp] theorem State.parkArmBy_latched (s : State) (p a cut) : (s.parkArmBy p a cut).latched = s.latched := by simp [State.parkArmBy]
@[simp] theorem State.parkArm_latched (s : State) (p a) : (s.parkArm p a).latched = s.latched := by simp [State.parkArm]
@[simp] theorem State.parkPack_latched (s : State) (p) : (s.parkPack p).latched = s.latched := by simp [State.parkPack]
@[simp] theorem State.parkAll_latched (s : State) : s.parkAll.latched = s.latched := by simp [State.parkAll]

/-! #### Machine/PackOps -/

@[simp] theorem State.updSpin_latched (s : State) (p f) : (s.updSpin p f).latched = s.latched := by rfl
@[simp] theorem State.setPackState_latched (s : State) (p n) : (s.setPackState p n).latched = s.latched := by simp [State.setPackState]
@[simp] theorem State.grantSpin_latched (s : State) (p) : (s.grantSpin p).latched = s.latched := by simp [State.grantSpin]

@[simp] theorem State.passOver_latched (s : State) (l) : (s.passOver l).latched = s.latched := by
  induction l generalizing s with
  | nil => rfl
  | cons p l ih => unfold State.passOver; simp [ih]

@[simp] theorem State.admissionPass_latched (s : State) : s.admissionPass.latched = s.latched := by simp [State.admissionPass]
@[simp] theorem State.releaseSpin_latched (s : State) (p) : (s.releaseSpin p).latched = s.latched := by rfl
@[simp] theorem State.packFail_latched (s : State) (p cause) : (s.packFail p cause).latched = s.latched := by simp [State.packFail]
@[simp] theorem State.sendElement_latched (s : State) (p a v) : (s.sendElement p a v).latched = s.latched := by simp [State.sendElement]
@[simp] theorem State.wakePreamp_latched (s : State) (p a) : (s.wakePreamp p a).latched = s.latched := by simp [State.wakePreamp]

@[simp] theorem State.loadArm_latched (s : State) (p a) : (s.loadArm p a).latched = s.latched := by
  unfold State.loadArm
  repeat' split
  all_goals simp

@[simp] theorem State.routineMechanics_latched (s : State) (p a) : (s.routineMechanics p a).latched = s.latched := by
  simp [State.routineMechanics]

@[simp] theorem State.idlePoint_latched (s : State) (p a) : (s.idlePoint p a).latched = s.latched := by simp [State.idlePoint]

@[simp] theorem State.startRequest_latched (s : State) (p a r rest held back) : (s.startRequest p a r rest held back).latched = s.latched := by
  simp [State.startRequest]

@[simp] theorem State.startBack_latched (s : State) (p a b) : (s.startBack p a b).latched = s.latched := by simp [State.startBack]

@[simp] theorem State.kick_latched (s : State) (p a) : (s.kick p a).latched = s.latched := by
  unfold State.kick
  dsimp only
  repeat' split
  all_goals simp

/-! #### Machine/RingOps -/

@[simp] theorem State.updRing_latched (s : State) (n f) : (s.updRing n f).latched = s.latched := by rfl
@[simp] theorem State.hostOut_latched (s : State) (o mirrored) : (s.hostOut o mirrored).latched = s.latched := by simp [State.hostOut]
@[simp] theorem State.sendHead_latched (s : State) (r) : (s.sendHead r).latched = s.latched := by simp [State.sendHead]
@[simp] theorem State.mirrorRing_latched (s : State) (n) : (s.mirrorRing n).latched = s.latched := by unfold State.mirrorRing; split <;> simp
@[simp] theorem State.publish_latched (s : State) (n) : (s.publish n).latched = s.latched := by unfold State.publish; split <;> simp
@[simp] theorem State.dropLocks_latched (s : State) (ring slot) : (s.dropLocks ring slot).latched = s.latched := by rfl
@[simp] theorem State.endReads_latched (s : State) (ring slot) : (s.endReads ring slot).latched = s.latched := by rfl
@[simp] theorem State.countStatus_latched (s : State) (status) : (s.countStatus status).latched = s.latched := by rfl

@[simp] theorem State.completeWith_latched (s : State) (ring slot status size value) :
    (s.completeWith ring slot status size value).latched = s.latched := by
  have hcount (t : State) : (if t.standbyFit = true then t else
      { t with clusters := { t.clusters with noStandbyCompletions := sat64 t.clusters.noStandbyCompletions 1 } }).latched = t.latched := by
    split <;> rfl
  unfold State.completeWith
  dsimp only
  split
  · simp
  · split <;> simp only [State.publish_latched, State.updRing_latched, State.hostOut_latched, hcount, State.countStatus_latched,
      State.endReads_latched, State.dropLocks_latched, State.mk_latched]

@[simp] theorem State.dropFraming_latched (s : State) (n) : (s.dropFraming n).latched = s.latched := by
  unfold State.dropFraming
  repeat' split
  all_goals simp

@[simp] theorem State.dropCommands_latched (s : State) (rings) : (s.dropCommands rings).latched = s.latched := by rfl
@[simp] theorem State.freeLock_latched (s : State) (code) : (s.freeLock code).latched = s.latched := by simp [State.freeLock]

/-- The movers of a connection that ends stop with a status, and stay the descriptors that run. -/
@[simp] theorem State.stopMovers_latched (s : State) (conn status) : (s.stopMovers conn status).latched = s.latched := by
  unfold State.latched State.stopMovers
  rw [Vector.map_map]
  refine congrArg (·, _) (Vector.map_congr_left fun m _ => ?_)
  rw [Function.comp_apply, List.map_map]
  refine List.map_congr_left fun r _ => ?_
  rw [Function.comp_apply]
  split <;> rfl

@[simp] theorem State.endConn_latched (s : State) (n cause) : (s.endConn n cause).latched = s.latched := by unfold State.endConn; split <;> simp
@[simp] theorem State.endAllConns_latched (s : State) (cause) : (s.endAllConns cause).latched = s.latched := by simp [State.endAllConns]

/-! #### Machine/FormatterCmds -/

@[simp] theorem State.enqueue_latched (s : State) (p a req) : (s.enqueue p a req).latched = s.latched := by simp [State.enqueue]

@[simp] theorem State.formatterRequest_latched (s : State) (p a req) : (s.formatterRequest p a req).latched = s.latched := by
  simp [State.formatterRequest]

/-! #### Machine/Chains -/

@[simp] theorem State.freeCtx_latched (s : State) (q c) : (s.freeCtx q c).latched = s.latched := by rfl

@[simp] theorem State.endCommand_latched (s : State) (q c status size value) : (s.endCommand q c status size value).latched = s.latched := by
  simp [State.endCommand]

@[simp] theorem State.readSlots_latched (s : State) (n) : (s.readSlots n).latched = s.latched := by unfold State.readSlots; split <;> simp

/-! #### Machine/ClusterOps -/

@[simp] theorem State.parkAndStop_latched (s : State) : s.parkAndStop.latched = s.latched := by
  unfold State.parkAndStop
  exact (State.mk_latched s.parkAll).trans (State.parkAll_latched s)

@[simp] theorem State.stopBackground_latched (s : State) : s.stopBackground.latched = s.latched := by rfl

/-! #### Machine/Buffers -/

theorem mem_sorted {k : Nat} (l : List Nat) : k ∈ l.foldr insertSource [] ↔ k ∈ l := by
  have hinsert (x : Nat) (l : List Nat) : k ∈ insertSource x l ↔ k = x ∨ k ∈ l := by
    induction l with
    | nil => simp [insertSource]
    | cons y l ih =>
      unfold insertSource
      split
      · simp
      · rw [List.mem_cons, ih, List.mem_cons]
        tauto
  induction l with
  | nil => rfl
  | cons x l ih => exact (hinsert x _).trans ((or_congr_right ih).trans List.mem_cons.symm)

theorem State.raiseAll_latched {l : List Nat} (hl : ∀ k ∈ l, 32 ≤ k) (s : State) : (s.raiseAll l).latched = s.latched := by
  refine List.foldlRecOn (motive := fun t : State => t.latched = s.latched) _ _ rfl (fun t ht k hk => ?_)
  rw [State.raise_latched (.inr (hl k ((mem_sorted l).mp hk))), ht]

/-! #### Machine/MoverQueue -/

@[simp] theorem State.wantDomain_latched (s : State) (d) : (s.wantDomain d).latched = s.latched := by rfl

/-- A change of a channel that keeps the descriptors of its runs keeps those that run. -/
theorem State.updMover_latched {s : State} {c : MoverId} {f : Mover → Mover}
    (hf : (f s.movers[c]).running.map MoverRun.req = s.movers[c].running.map MoverRun.req) : (s.updMover c f).latched = s.latched := by
  unfold State.latched State.updMover
  refine congrArg (·, _) ?_
  rw [Vector.map_set, hf]
  exact Vector.ext fun i hi => by
    rw [Vector.getElem_set]
    split
    next h => subst h; simp
    · rfl

@[simp] theorem State.submitMover_latched (s : State) (desc token) : (s.submitMover desc token).latched = s.latched := by
  unfold State.submitMover
  dsimp only
  split
  · exact (State.updMover_latched rfl).trans (State.updMover_latched rfl)
  · rw [State.wantDomain_latched]
    exact State.updMover_latched rfl

/-! #### Machine/StoreOps -/

@[simp] theorem State.newToken_latched (s : State) (q ring slot engine body) : (s.newToken q ring slot engine body).2.latched = s.latched := by
  rfl

/-! #### Machine/Service -/

@[simp] theorem State.endService_latched (s : State) (q c status) : (s.endService q c status).latched = s.latched := by simp [State.endService]
@[simp] theorem State.markToken_latched (s : State) (id error) : (s.markToken id error).latched = s.latched := by rfl

@[simp] theorem State.engFormatter_latched (s : State) (id body) : (s.engFormatter id body).latched = s.latched := by
  unfold State.engFormatter
  dsimp only
  split
  · simp
  · split
    · simp [State.raiseAll_latched (State.bufRead_sources _ _ _ _ _ _ _)]
    · simp [State.raiseAll_latched (State.bufRead_sources _ _ _ _ _ _ _)]

@[simp] theorem State.engIssue_latched (s : State) (q c w) : (s.engIssue q c w).latched = s.latched := by simp [State.engIssue]

@[simp] theorem State.afterToken_latched (s : State) (q) : (s.afterToken q).latched = s.latched := by
  unfold State.afterToken
  dsimp only
  rw [State.foldl_latched]
  · repeat' split
    all_goals simp
  · refine fun s k => State.foldl_latched _ (fun s c => ?_) _ s
    split <;> simp

@[simp] theorem State.completeToken_latched (s : State) (id error) : (s.completeToken id error).latched = s.latched := by
  unfold State.completeToken
  split <;> simp

/-! #### Machine/Store -/

end Sys2Proof.Machine

namespace Sys2Proof.Machine
open Sys2Proof

/-! ### A channel's queue and the runs at work (O3) -/

section
variable {s : State} {c : MoverId} {host : List Byte}

/-- A descriptor runs on a channel. -/
theorem State.mem_latched {q : MoverReq} : q ∈ s.latched.1[c] ↔ ∃ r ∈ s.movers[c].running, r.req = q := by
  simp [State.latched]

/-- What keeps the descriptors that run keeps each of them. -/
theorem State.mem_latched_congr {t : State} {q : MoverReq} (h : t.latched = s.latched) (hq : q ∈ s.latched.1[c]) : q ∈ t.latched.1[c] := h ▸ hq

theorem updFirstRun_reqs {f : MoverRun → MoverRun} (hf : ∀ r, (f r).req = r.req) (l : List MoverRun) :
    (updFirstRun f l).map MoverRun.req = l.map MoverRun.req := by
  induction l with
  | nil => rfl
  | cons r l ih =>
    unfold updFirstRun
    split
    · rw [List.map_cons, List.map_cons, hf]
    · rw [List.map_cons, List.map_cons, ih]

theorem State.updActive_latched {f : MoverRun → MoverRun} (hf : ∀ r, (f r).req = r.req) (s : State) (c : MoverId) :
    (s.updMover c (fun m => m.updActive f)).latched = s.latched :=
  State.updMover_latched (updFirstRun_reqs hf _)

@[simp] theorem State.drainStream_latched (s : State) (c d from_ bytes) : (s.drainStream c d from_ bytes).1.latched = s.latched := by
  unfold State.drainStream
  refine List.foldlRecOn (motive := fun t : State × List Nat => t.1.latched = s.latched) _ _ rfl fun t ht x _ => ?_
  rw [State.bufWrite_latched, ht]

theorem State.drainStream_sources (s : State) (c d from_ bytes) : ∀ k ∈ (s.drainStream c d from_ bytes).2, 32 ≤ k := by
  unfold State.drainStream
  refine List.foldlRecOn (motive := fun t : State × List Nat => ∀ k ∈ t.2, 32 ≤ k) _ _ (by simp) fun t ht x _ => ?_
  exact fun k hk => (List.mem_append.mp hk).elim (ht k) (State.bufWrite_sources _ _ _ _ _ _ k)

/-- A transfer unit moves bytes; the descriptors that run stay. -/
@[simp] theorem State.moveUnit_latched (s : State) (c r u host newOp) : (s.moveUnit c r u host newOp).latched = s.latched := by
  unfold State.moveUnit
  extract_lets d ops
  split
  · dsimp only
    rw [State.raiseAll_latched (State.drainStream_sources _ _ _ _ _), State.updActive_latched, State.drainStream_latched, State.sendHost_latched]
    exact fun _ => rfl
  · split
    · rw [State.updActive_latched, State.sendHost_latched]
      exact fun _ => rfl
    · dsimp only
      rw [State.raiseAll_latched (State.drainStream_sources _ _ _ _ _), State.updActive_latched, State.drainStream_latched]
      exact fun _ => rfl

theorem map_req_of_kept {f : MoverRun → MoverRun} (hf : ∀ r, (f r).req = r.req) (l : List MoverRun) :
    (l.map f).map MoverRun.req = l.map MoverRun.req := by
  rw [List.map_map]
  exact List.map_congr_left fun r _ => hf r

@[simp] theorem State.moveUnits_latched (limited from_ host l) (s : State) : (s.moveUnits c limited from_ host l).latched = s.latched := by
  induction l generalizing s with
  | nil =>
    refine State.updActive_latched ?_ s c
    exact fun _ => rfl
  | cons x l ih =>
    obtain ⟨o, a, n⟩ := x
    unfold State.moveUnits
    split
    · rfl
    next r _ =>
      have hallow (t : State) : (t.updMover c (fun m => { m with allowance := m.allowance - n })).latched = t.latched := State.updMover_latched rfl
      have hread (t : State) : (t.updMover c (fun m => { m with running := m.running.map (fun x =>
          if x.req = r.req ∧ x.status = 0 ∧ x.done = descTotal x.req.desc then { x with readsDone := true } else x) })).latched = t.latched :=
        State.updMover_latched (map_req_of_kept (fun x => by split <;> rfl) _)
      split
      · refine State.updActive_latched ?_ s c
        exact fun _ => rfl
      · split
        · rfl
        · split
          · rfl
          · dsimp only
            repeat' split
            all_goals simp only [hallow, hread, ih, State.moveUnit_latched]

@[simp] theorem State.moverWork_latched (s : State) (c host) : (s.moverWork c host).latched = s.latched := by
  unfold State.moverWork
  split
  · rfl
  · exact State.moveUnits_latched _ _ _ _ s

@[simp] theorem State.stopAtError_latched (s : State) (c) : (s.stopAtError c).latched = s.latched :=
  State.updMover_latched (map_req_of_kept (fun r => by split <;> rfl) _)

/-- A run put behind a channel's runs. -/
theorem State.mem_latched_append {r : MoverRun} {q : MoverReq} (hr : r.req = q) (s : State) (c : MoverId) :
    q ∈ (s.updMover c (fun m => { m with running := m.running ++ [r] })).latched.1[c] :=
  State.mem_latched.mpr ⟨r, by simp [State.updMover], hr⟩

theorem State.readPieces_sources (r : Requester) (own : Bool) (x : List DramRead) (l : List (Nat × Nat)) (s : State) :
    ∀ k ∈ (s.readPieces r own x l).2.2.2, 32 ≤ k := by
  induction l generalizing s with
  | nil => simp [State.readPieces]
  | cons p l ih =>
    have hread := s.bufRead_sources r own p.1 p.2 x .none
    unfold State.readPieces
    dsimp only
    split
    · exact hread
    · exact fun k hk => (List.mem_append.mp hk).elim (hread k) (ih _ k)

/-- The source of a run is read, and the run is among the channel's. -/
theorem State.mem_readSource (s : State) (c : MoverId) (q : MoverReq) (x : List DramRead) : q ∈ (s.readSource c q x).latched.1[c] := by
  unfold State.readSource
  extract_lets d unit
  split
  · refine State.mem_latched_append ?_ s c
    rfl
  · split
    · refine State.mem_latched_append ?_ s c
      rfl
    · have hsources := State.readPieces_sources (.mover c) (descStreams d) x (descPieces d (!descScatter d)) s
      revert hsources
      rcases s.readPieces (.mover c) (descStreams d) x (descPieces d (!descScatter d)) with ⟨b, bad, s1, l⟩
      intro hsources
      refine State.mem_latched_congr (State.raiseAll_latched hsources _) (State.mem_latched_append ?_ _ c)
      rfl

theorem State.mayStart_some_iff {q : MoverReq} : s.mayStart c = some q ↔
    s.bankOn c = true ∧ s.movers[c].queue.head? = some q
      ∧ (descBarrier q.desc = true → s.movers[c].running = [])
      ∧ (descBarrier q.desc = false → ∀ r, s.movers[c].running.getLast? = some r → r.readsDone = true) := by
  unfold State.mayStart
  dsimp only
  cases hqueue : s.movers[c].queue with
  | nil => simp
  | cons p l =>
    cases hbank : s.bankOn c with
    | false => simp
    | true =>
      by_cases hpq : p = q
      · subst hpq
        cases hbarrier : descBarrier p.desc with
        | true => simp [hbarrier]
        | false => cases hlast : s.movers[c].running.getLast? <;> simp [hbarrier]
      · have hhead : ¬ some p = some q := fun h => hpq (Option.some.inj h)
        rw [List.head?_cons]
        simp only [hhead, false_and, and_false, iff_false]
        repeat' split
        all_goals simp [hpq]

end

/-- Settles O3. -/
theorem moverStartsInOrder : Obligations.MoverStartsInOrder := by
  refine fun s c => ⟨fun q => State.mayStart_some_iff, fun x host => exec_moverDescriptorStart_none, fun x host q hq => ?_⟩
  by_cases hcheck : (s.startPoint c).descCheck q.desc = 0
  · refine ⟨_, exec_moverDescriptorStart_good hq hcheck, State.mem_latched.mp ?_⟩
    rw [State.ite_latched, State.stopAtError_latched, State.moverWork_latched, ite_self]
    exact State.mem_readSource _ c q x
  · refine ⟨_, exec_moverDescriptorStart_bad hq hcheck, State.mem_latched.mp ?_⟩
    rw [State.raise_latched (.inr (by omega))]
    refine State.mem_latched_append ?_ _ c
    rfl

end Sys2Proof.Machine

namespace Sys2Proof.Machine
open Sys2Proof

/-! ### Roles of the clusters (O50) -/

section
variable {s : State} {c : ClusterId}

theorem State.record_clusters (s : State) (t : EvRec) : (s.record t).clusters = s.clusters := by rw [State.record_eq]

theorem State.emcy_clusters (s : State) (code src : Nat) : (s.emcy code src).clusters = s.clusters := by rw [State.emcy_eq]

/-- Sources that leave fault state leave the clusters. -/
theorem State.leaveFaults_clusters (s : State) (l : List Nat) (why : Nat) : (s.leaveFaults l why).clusters = s.clusters := by
  have hclear (l : List Nat) (t : State) :
      (l.foldl (fun s k => s.updSource k (fun f => { f with sticky := false, inState := false })) t).clusters = t.clusters :=
    List.foldlRecOn (motive := fun u : State => u.clusters = t.clusters) _ _ rfl (fun u hu k _ => (State.updSource_clusters u k _).trans hu)
  unfold State.leaveFaults
  dsimp only
  refine List.foldlRecOn (motive := fun u : State => u.clusters = s.clusters) _ _ (hclear l s) (fun u hu k _ => ?_)
  rw [State.emcy_clusters, State.record_clusters, hu]

theorem State.updCluster_unit_same (s : State) (c : ClusterId) (f : Cluster → Cluster) :
    (s.updCluster c f).clusters.unit[c] = f s.clusters.unit[c] := by
  simp [State.updCluster]

theorem otherCluster_ne (c : ClusterId) : (otherCluster c).val ≠ c.val := by
  revert c
  decide

theorem State.updCluster_unit_other (s : State) (c : ClusterId) (f : Cluster → Cluster) :
    (s.updCluster c f).clusters.unit[otherCluster c] = s.clusters.unit[otherCluster c] := by
  simp [State.updCluster, Vector.getElem_set_ne _ _ (otherCluster_ne c).symm]

/-! #### Self-test, synchronising, readmission -/

theorem selfTest_ends (htest : s.clusters.unit[c].role = .selfTest) (hserves : s.hostStopped = false) :
    ¬ (s.clusters.unit[c].role ≠ .selfTest ∨ s.hostStopped = true) :=
  not_or.mpr ⟨not_not_intro htest, Bool.not_eq_true _ ▸ hserves⟩

theorem exec_selfTestDone_first (htest : s.clusters.unit[c].role = .selfTest) (hserves : s.hostStopped = false) (hnone : s.clusters.active = none)
    (hquiet : s.clusters.failOver = none) (hfirst : c = s.clusters.bootCluster ∨ s.clusters.unit[otherCluster c].role = .out) :
    exec (.cClusterSelfTestDone c true) s = .next (s.activate c) := by
  have hgo := selfTest_ends htest hserves
  have hlone : s.clusters.active.isNone = true ∧ s.clusters.failOver.isNone = true
      ∧ (c = s.clusters.bootCluster ∨ s.clusters.unit[otherCluster c].role = .out) := ⟨by simp [hnone], by simp [hquiet], hfirst⟩
  exact congrArg Host.Outcome.next ((if_neg hgo).trans ((if_pos rfl).trans (if_pos hlone)))

theorem exec_selfTestDone_second (htest : s.clusters.unit[c].role = .selfTest) (hserves : s.hostStopped = false)
    (hlater : s.clusters.active ≠ none ∨ s.clusters.failOver ≠ none
      ∨ (c ≠ s.clusters.bootCluster ∧ s.clusters.unit[otherCluster c].role ≠ .out)) :
    exec (.cClusterSelfTestDone c true) s = .next (s.updCluster c (fun u => { u with role := .synchronising })) := by
  have hgo := selfTest_ends htest hserves
  have hlone : ¬ (s.clusters.active.isNone = true ∧ s.clusters.failOver.isNone = true
      ∧ (c = s.clusters.bootCluster ∨ s.clusters.unit[otherCluster c].role = .out)) := by
    rintro ⟨hnone, hquiet, hfirst⟩
    obtain hactive | hover | ⟨hboot, hrole⟩ := hlater
    · exact hactive (Option.isNone_iff_eq_none.mp hnone)
    · exact hover (Option.isNone_iff_eq_none.mp hquiet)
    · exact hfirst.elim hboot hrole
  exact congrArg Host.Outcome.next ((if_neg hgo).trans ((if_pos rfl).trans (if_neg hlone)))

/-- A self-test that fails while the other cluster is Active puts the cluster Out. -/
theorem exec_selfTestDone_failed (htest : s.clusters.unit[c].role = .selfTest) (hserves : s.hostStopped = false)
    (hactive : (s.raise (22 + 8 * c.val)).clusters.active ≠ none) :
    exec (.cClusterSelfTestDone c false) s = .next ((s.raise (22 + 8 * c.val)).clusterOut c) := by
  have hgo := selfTest_ends htest hserves
  have hout : ((s.raise (22 + 8 * c.val)).clusterOut c).clusters.active = (s.raise (22 + 8 * c.val)).clusters.active := by
    rw [State.clusterOut, State.record_clusters]
    rfl
  have hserved : ¬ (((s.raise (22 + 8 * c.val)).clusterOut c).clusters.active.isNone = true
      ∧ ((s.raise (22 + 8 * c.val)).clusterOut c).clusters.failOver.isNone = true
      ∧ ((s.raise (22 + 8 * c.val)).clusterOut c).clusters.unit[otherCluster c].role = .synchronising) := by
    rw [hout]
    exact fun h => hactive (Option.isNone_iff_eq_none.mp h.1)
  exact congrArg Host.Outcome.next ((if_neg hgo).trans ((if_neg (by simp)).trans (if_neg hserved)))

theorem exec_selfTestDone_other (hrole : s.clusters.unit[c].role ≠ .selfTest) (pass : Bool) : exec (.cClusterSelfTestDone c pass) s = .next s :=
  congrArg Host.Outcome.next (if_pos (.inl hrole))

theorem exec_syncDone (hsync : s.clusters.unit[c].role = .synchronising) (hactive : s.clusters.active = some (otherCluster c))
    (hquiet : s.clusters.failOver = none) :
    ∃ t, exec (.cClusterSyncDone c) s = .next t ∧ t.clusters.unit[c].role = .standby
      ∧ t.clusters.mirrorApplied = max s.clusters.mirrorApplied s.clusters.mirrorSent ∧ t.clusters.active = s.clusters.active := by
  have hdone : s.clusters.unit[c].role = .synchronising ∧ s.clusters.active = some (otherCluster c) ∧ s.clusters.failOver.isNone = true :=
    ⟨hsync, hactive, by simp [hquiet]⟩
  refine ⟨_, (congrArg Host.Outcome.next (if_pos hdone) : execClusterSyncDone c s = _), ?_, ?_, rfl⟩
  · show (s.updCluster c (fun u => { u with role := .standby, missRun := 0 })).clusters.unit[c].role = .standby
    rw [State.updCluster_unit_same]
  · show max s.clusters.mirrorApplied (min s.clusters.mirrorSent s.clusters.mirrorSent) = _
    rw [Nat.min_self]

theorem State.readmits_iff : s.dev.state.readmits = true ↔
    (s.dev.state = .assemble ∨ s.dev.state = .opened ∨ s.dev.state = .quiesce ∨ s.dev.state = .bench) := by
  cases s.dev.state <;> simp [DevState.readmits]

/-- An Out cluster is readmitted through its self-test (R509). -/
theorem State.readmit_taken (hout : s.clusters.unit[c].role = .out) (hstate : s.dev.state.readmits = true) :
    ∃ t, s.readmit c.val = .ok t
      ∧ t.clusters = (s.updCluster c (fun u => { u with role := .selfTest, missRun := 0, failTimes := [] })).clusters := by
  refine ⟨_, (if_neg (not_not_intro hstate)).trans ((dif_pos c.isLt).trans (if_pos hout)), ?_⟩
  rw [State.record_clusters, State.leaveFaults_clusters]

theorem State.readmit_barred (h : s.clusters.unit[c].role ≠ .out ∨ s.dev.state.readmits ≠ true) : ∃ e, s.readmit c.val = .error e := by
  unfold State.readmit
  split
  · exact ⟨_, rfl⟩
  next hstate =>
    have hrole : ¬ s.clusters.unit[c].role = .out := h.resolve_right (not_not_intro (not_not.mp hstate))
    exact ⟨_, (dif_pos c.isLt).trans (if_neg hrole)⟩

/-! #### The mirror's acknowledgement and the arbiter's failure -/

theorem exec_mirrorAck (hquiet : s.clusters.failOver = none) (hserves : s.hostStopped = false) (n : Nat) :
    exec (.cMirrorAck n) s = .next (((s.mirrorUpTo n).releaseHeld false).releaseTokens false) := by
  have hstopped : (s.mirrorUpTo n).hostStopped = s.hostStopped := rfl
  have hover : (s.mirrorUpTo n).clusters.failOver = s.clusters.failOver := rfl
  exact congrArg Host.Outcome.next (if_neg (by simp [hstopped, hover, hquiet, hserves]))

theorem exec_mirrorAck_held (h : s.clusters.failOver ≠ none ∨ s.hostStopped = true) (n : Nat) :
    exec (.cMirrorAck n) s = .next (s.mirrorUpTo n) := by
  refine congrArg Host.Outcome.next (if_pos ?_)
  exact h.imp_left Option.isSome_iff_ne_none.mpr

/-- FATAL_N stays latched through the device stop. -/
theorem State.stopDevice_fatalLatch (s : State) (cause : Nat) : (s.stopDevice cause).faults.fatalLatch = true := by
  have hpend (t : State) : (t.pendLee true cause).latched = t.latched := by
    unfold State.pendLee
    extract_lets keep
    split <;> rfl
  have hstop : (s.stopDevice cause).latched = ({ s with faults := { s.faults with fatalLatch := true } } : State).latched := by
    unfold State.stopDevice
    dsimp only
    rw [hpend, State.stopBackground_latched, State.endAllConns_latched, State.parkAndStop_latched]
  rw [State.latched, State.latched] at hstop
  obtain ⟨-, hlatch⟩ := Prod.mk.inj hstop
  exact (Prod.mk.inj hlatch).1

theorem State.arbiterFail_first (h : s.arbiter.failed = false) (k cause : Nat) :
    s.arbiterFail k cause 0 = (State.formFatal (State.raise { s with arbiter := { s.arbiter with failed := true, cause := cause } } k)
      { type := 0x31, code := cause }).stopDevice 2 :=
  if_neg (by simp [h])

theorem State.arbiterFail_again (h : s.arbiter.failed = true) (k cause flags : Nat) : s.arbiterFail k cause flags = s := if_pos h

end

/-- Settles O50. -/
theorem clusterRoles : Obligations.ClusterRoles := by
  refine fun s c => ⟨fun htest hserves => ⟨exec_selfTestDone_first htest hserves, exec_selfTestDone_second htest hserves,
      fun _ => exec_selfTestDone_failed htest hserves⟩, exec_selfTestDone_other, exec_syncDone, fun hout hstate => ?_, fun hbar => ?_,
    fun n => ⟨rfl, fun hquiet hserves => exec_mirrorAck hquiet hserves n, fun h => exec_mirrorAck_held h n⟩,
    fun h => ⟨⟨congrArg Host.Outcome.next (State.arbiterFail_first h 0 1), State.stopDevice_fatalLatch _ _⟩,
      congrArg Host.Outcome.next (State.arbiterFail_first h 1 2), State.stopDevice_fatalLatch _ _⟩,
    fun h => ⟨congrArg Host.Outcome.next (State.arbiterFail_again h 0 1 0), congrArg Host.Outcome.next (State.arbiterFail_again h 1 2 0)⟩⟩
  · obtain ⟨t, ht, hclusters⟩ := State.readmit_taken hout (State.readmits_iff.mpr hstate)
    refine ⟨t, next_taken ht, ?_, ?_⟩ <;> rw [hclusters]
    · rw [State.updCluster_unit_same]
    · rw [State.updCluster_unit_other]
  · obtain ⟨e, he⟩ := State.readmit_barred (hbar.imp_right (mt State.readmits_iff.mp))
    exact next_refused he

end Sys2Proof.Machine

namespace Sys2Proof.Machine
open Sys2Proof

/-! ### The arbiter's check, fail-over and the release of the hub (O49) -/

section
variable {s : State} {c : ClusterId}

/-! #### A source raised while a fail-over is under way -/

theorem State.recordFirst_clusters (s : State) (k lane subject flags : Nat) : (s.recordFirst k lane subject flags).clusters = s.clusters := by
  unfold State.recordFirst
  dsimp only
  rw [State.updSource_clusters]
  split
  · rw [State.formFatal_eq]
  · rw [State.formRecord_eq]

theorem State.recordAgain_clusters (s : State) (k lane subject flags : Nat) : (s.recordAgain k lane subject flags).clusters = s.clusters := by
  unfold State.recordAgain
  extract_lets f t due
  split
  · rw [State.mergeRecord_eq]
  · split
    · rfl
    · split
      · exact State.updSource_clusters _ _ _
      · rw [State.updSource_clusters, State.formRecord_eq]

/-- No cluster is active while a fail-over is under way. -/
structure State.FailsOver (s : State) (f : FailOver) : Prop where
  begun : s.clusters.failOver = some f
  fenced : s.clusters.active = none

/-- What the clusters come to when only what a fail-over holds back has changed. -/
def State.HoldsMore (s : State) (f : FailOver) (t : State) : Prop := ∃ h, t.clusters = { s.clusters with failOver := some { f with held := h } }

theorem State.HoldsMore.of_same {t : State} {f : FailOver} (h : s.FailsOver f) (ht : t.clusters = s.clusters) : s.HoldsMore f t :=
  ⟨f.held, by rw [ht, ← h.begun]⟩

theorem State.deliver_holdsMore {f : FailOver} (h : s.FailsOver f) (q : Irq) : s.HoldsMore f (s.deliver q) := by
  rw [State.deliver, h.begun]
  exact ⟨f.held ++ [q], rfl⟩

theorem State.resetClusterBlock_failsOver {f : FailOver} (h : s.FailsOver f) (c : ClusterId) : s.resetClusterBlock c = s := by
  rw [State.resetClusterBlock, if_neg (by simp [h.fenced]), if_pos (by simp [h.begun])]

theorem State.resumeHost_clusters (s : State) : s.resumeHost.clusters = s.clusters :=
  List.foldlRecOn (motive := fun t : State => t.clusters = s.clusters) _ _ rfl (fun _ ht _ _ => ht)

/-- The reaction to a source during a fail-over is held back at most. -/
theorem State.react_holdsMore {f : FailOver} (h : s.FailsOver f) (k : Nat) : s.HoldsMore f (s.react k) := by
  unfold State.react
  split
  · exact State.deliver_holdsMore h _
  · exact State.deliver_holdsMore h _
  · split
    · exact .of_same h (congrArg State.clusters (State.resetClusterBlock_failsOver h _))
    · split
      · split
        · exact .of_same h ((State.leaveFaults_clusters _ _ _).trans (State.updMem_clusters _ _ _))
        · refine .of_same h ?_
          unfold State.requestReset
          split <;> rfl
      · split
        · exact .of_same h ((State.leaveFaults_clusters _ _ _).trans (State.resumeHost_clusters _))
        · exact .of_same h rfl
  · refine .of_same h ?_
    unfold State.requestReset
    split <;> rfl
  · exact .of_same h rfl

theorem State.raiseWith_holdsMore {f : FailOver} (h : s.FailsOver f) (k lane subject flags : Nat) : s.HoldsMore f (s.raiseWith k lane subject flags) := by
  unfold State.raiseWith
  dsimp only
  split
  · exact .of_same h rfl
  · split
    · exact .of_same h ((State.recordAgain_clusters _ _ _ _ _).trans (State.updSource_clusters _ _ _))
    · have hrecorded (t : State) (ht : t.clusters = s.clusters) : s.HoldsMore f (t.react k) := by
        obtain ⟨l, hl⟩ := State.react_holdsMore ⟨by rw [ht, h.begun], by rw [ht, h.fenced]⟩ k
        exact ⟨l, by rw [hl, ht]⟩
      refine hrecorded _ ?_
      rw [State.recordFirst_clusters, State.emcy_clusters]
      exact (State.updSource_clusters _ _ _).trans (State.updSource_clusters _ _ _)

/-! #### The beginning of a fail-over -/

theorem State.beginFailOver_clusters (hactive : s.clusters.active = some c) (cause : Nat) :
    (s.beginFailOver cause false).clusters = { (s.updCluster c (fun u => { u with role := .off, failTimes := s.now :: u.failTimes })).clusters with
      active := none, lastCause := cause, failOver := some ⟨cause, c, otherCluster c, false, s.now, []⟩ } := by
  rw [State.beginFailOver, hactive]
  rfl

theorem State.beginFailOver_swap_clusters (hactive : s.clusters.active = some c) (cause : Nat) :
    (s.beginFailOver cause true).clusters = { s.clusters with
      active := none, lastCause := cause, failOver := some ⟨cause, c, otherCluster c, true, s.now, []⟩ } := by
  rw [State.beginFailOver, hactive]
  rfl

theorem State.beginFailOver_failsOver (hactive : s.clusters.active = some c) (cause : Nat) :
    (s.beginFailOver cause false).FailsOver ⟨cause, c, otherCluster c, false, s.now, []⟩ := by
  constructor <;> rw [State.beginFailOver_clusters hactive]

theorem State.beginFailOver_off (hactive : s.clusters.active = some c) (cause : Nat) :
    (s.beginFailOver cause false).clusters.unit[c].role = .off := by
  rw [State.beginFailOver_clusters hactive]
  dsimp only
  rw [State.updCluster_unit_same]

/-- The cause's source, raised after its fail-over has begun, leaves the fail-over. -/
theorem State.raiseCause_holdsMore {f : FailOver} (h : s.FailsOver f) (c : ClusterId) (why flags : Nat) :
    ∃ l n, (s.raiseCause c why flags).clusters = { s.clusters with failOver := some { f with held := l }, trapStorms := n } := by
  unfold State.raiseCause
  split
  · obtain ⟨l, hl⟩ := State.raiseWith_holdsMore h (16 + 8 * c.val) 0 0xFFFF flags
    exact ⟨l, _, hl⟩
  · split
    · obtain ⟨l, hl⟩ := State.raiseWith_holdsMore
        (s := { s with clusters := { s.clusters with trapStorms := sat32 s.clusters.trapStorms 1 } }) ⟨h.begun, h.fenced⟩ (17 + 8 * c.val) 0 0xFFFF 0
      exact ⟨l, _, hl⟩
    · exact ⟨f.held, s.clusters.trapStorms, by rw [← h.begun]⟩

/-- The active cluster is left for a fit standby (R506, R507). -/
theorem State.leaveActive_fit (hactive : s.clusters.active = some c) (hfit : s.standbyFit = true) (why : Nat) :
    ∃ h, (s.leaveActive c why).clusters.active = none ∧ (s.leaveActive c why).clusters.unit[c].role = .off
      ∧ (s.leaveActive c why).clusters.failOver
        = some ⟨if why = 1 ∧ s.beatSuppressed = true then 5 else why, c, otherCluster c, false, s.now, h⟩ := by
  unfold State.leaveActive
  extract_lets injected flags s1 s2 arbiter
  rw [if_pos hfit]
  have hinjected : (injected = true) = (why = 1 ∧ s.beatSuppressed = true) := by simp [injected]
  have hclusters : s2.clusters = s1.clusters := by
    unfold s2
    split <;> rfl
  have hover := State.beginFailOver_failsOver hactive (if injected then 5 else why)
  have hoff := State.beginFailOver_off hactive (if injected then 5 else why)
  obtain ⟨l, n, hl⟩ := State.raiseCause_holdsMore (s := { s2 with arbiter := { s2.arbiter with decisions := sat32 s2.arbiter.decisions 1 } })
    ⟨hclusters ▸ hover.begun, hclusters ▸ hover.fenced⟩ c why flags
  refine ⟨l, ?_, ?_, ?_⟩ <;> rw [hl]
  · exact hclusters ▸ hover.fenced
  · exact hclusters ▸ hoff
  · simp only [hinjected]

/-- Without a fit standby the device stops (R506). -/
theorem State.leaveActive_unfit (hunfit : s.standbyFit = false) {why : Nat} (hwhy : why = 2 ∨ why = 3) :
    s.leaveActive c why = (s.raiseCause c why 0).deviceStop := by
  have hnot : ¬ why = 1 := by omega
  have hinjected : (decide (why = 1) && s.beatSuppressed) = false := by simp [hnot]
  simp only [State.leaveActive, hinjected, hunfit, Bool.false_eq_true, if_false]

/-! #### The check -/

theorem State.beat_keeps (s : State) (d : ClusterId) (seen : Bool) :
    (s.beat d seen).clusters.active = s.clusters.active ∧ (s.beat d seen).now = s.now := by
  unfold State.beat
  split
  · split <;> exact ⟨rfl, rfl⟩
  · split <;> exact ⟨rfl, rfl⟩
  · exact ⟨rfl, rfl⟩

/-- The heartbeats and the mirror are taken in at a check. -/
theorem State.checkView_keeps (s : State) (a b : Bool) (v : ArbiterView) :
    (((s.beat 0 a).beat 1 b).viewMirror v).clusters.active = s.clusters.active ∧ (((s.beat 0 a).beat 1 b).viewMirror v).now = s.now := by
  obtain ⟨hactive, hnow⟩ := s.beat_keeps 0 a
  obtain ⟨hactive1, hnow1⟩ := (s.beat 0 a).beat_keeps 1 b
  exact ⟨hactive1.trans hactive, hnow1.trans hnow⟩

theorem exec_arbiterCheck (hserves : s.hostStopped = false) (hquiet : s.clusters.failOver = none) (hactive : s.clusters.active = some c)
    (v : ArbiterView) {s1 : State}
    (h1 : ((s.beat 0 ((if (0 : ClusterId) = 0 then v.beatA else v.beatB) && !((0 : ClusterId) = c && s.beatSuppressed))).beat 1
      ((if (1 : ClusterId) = 0 then v.beatA else v.beatB) && !((1 : ClusterId) = c && s.beatSuppressed))).viewMirror v = s1) :
    exec (.cArbiterCheck v) s = .next ((s1.activeFails c).elim (s1.checkStandby (otherCluster c)) (s1.leaveActive c)) := by
  have hgo : ¬ s.hostStopped = true := by simp [hserves]
  show execArbiterCheck v s = _
  rw [execArbiterCheck, if_neg hgo, hquiet]
  refine congrArg Host.Outcome.next ?_
  rw [hactive]
  subst h1
  dsimp only
  cases State.activeFails _ c <;> rfl

/-! #### The release of the hub -/

theorem exec_failoverHubRelease {f : FailOver} (hover : s.clusters.failOver = some f) (hserves : s.hostStopped = false) :
    exec .cFailoverHubRelease s = .next (
      let s0 := ((s.releaseHub f).releaseTiles.releaseRequests).kickAll
      let s1 := (s0.host.rings.map (fun r => r.num)).foldl State.readSlots s0
      s1.heldAccess.foldl State.serve { s1 with heldAccess := [] }) := by
  have hgo : ¬ s.hostStopped = true := by simp [hserves]
  show execFailoverHubRelease s = _
  rw [execFailoverHubRelease, hover]
  exact congrArg Host.Outcome.next (if_neg hgo)

theorem exec_failoverHubRelease_none (hquiet : s.clusters.failOver = none) : exec .cFailoverHubRelease s = .next s := by
  show execFailoverHubRelease s = _
  rw [execFailoverHubRelease, hquiet]

/-- The old cluster's reset leaves whether a fail-over is under way. -/
theorem State.settleOld_latched (s : State) (c : ClusterId) : (s.settleOld c).latched = s.latched := by
  unfold State.settleOld State.clusterOut
  extract_lets s1 day recent
  have hreset : s1.latched = s.latched := by simp [s1]
  split
  · rw [State.record_latched, State.updCluster_latched, hreset]
  · exact hreset

theorem State.releaseHeld_latched (s : State) (all : Bool) : (s.releaseHeld all).latched = s.latched := by
  unfold State.releaseHeld
  simp

theorem State.releaseTokens_latched (s : State) (all : Bool) : (s.releaseTokens all).latched = s.latched := by
  unfold State.releaseTokens
  simp

/-- The hub's release ends the fail-over and reports how long it took (R507, R508). -/
theorem State.releaseHub_clusters (s : State) (f : FailOver) : (s.releaseHub f).clusters.failOver = none
    ∧ (s.releaseHub f).clusters.lastDuration = min ((s.now - f.startedAt) / 1000) 0xFFFFFFFF := by
  unfold State.releaseHub
  extract_lets us s1 before s2 s3 s4 s5 service s6 again
  have h3 : s3.latched = s2.latched := State.record_latched _ _
  have h4 : s4.latched = s3.latched := by
    unfold s4
    split
    · exact State.updCluster_latched _ _ _
    · exact State.settleOld_latched _ _
  have h5 : s5.latched = s4.latched := State.foldl_latched _ State.deliver_latched _ _
  have hend : (((again.foldl (fun (s : State) t => s.send (.engine 5 t.id t.body)) s6.waitChecks).releaseHeld true).releaseTokens true).latched
      = s2.latched := by
    rw [State.releaseTokens_latched, State.releaseHeld_latched, State.foldl_latched _ (fun _ _ => State.send_latched _ _), State.waitChecks_latched]
    exact (State.mk_latched s5).trans (h5.trans (h4.trans h3))
  simp only [State.latched, Prod.mk.injEq] at hend
  obtain ⟨-, -, hover, hlast⟩ := hend
  exact ⟨Option.not_isSome_iff_eq_none.mp (by simp [hover, s2]), hlast⟩

/-! #### Role swaps -/

theorem exec_roleSwap (hwaits : s.param 0x8011 1 ≠ 0 ∨ s.clusters.swapPostponed = true) (pass : Bool) :
    exec (.cRoleSwap pass) s = .next (s.roleSwap pass) := by
  refine congrArg Host.Outcome.next (if_neg ?_)
  rintro ⟨hoff, hnot⟩
  exact hwaits.elim (absurd hoff) hnot

theorem exec_roleSwapNow (hstate : s.dev.state = .opened ∨ s.dev.state = .quiesce) (pass : Bool) :
    exec (.cRoleSwapNow pass) s = .next (s.roleSwap pass) :=
  next_taken ((if_neg (not_not_intro hstate)).trans (if_pos rfl))

theorem exec_roleSwapNow_barred (hstate : ¬ (s.dev.state = .opened ∨ s.dev.state = .quiesce)) (pass : Bool) :
    exec (.cRoleSwapNow pass) s = .next s :=
  next_refused (if_pos hstate)

/-- A role swap that may begin: the standby's fitness and the comparison decide (R510). -/
theorem State.roleSwap_eq (hactive : s.clusters.active = some c) (hstate : s.dev.state = .opened ∨ s.dev.state = .quiesce)
    (hquiet : s.clusters.failOver = none) (hserves : s.hostStopped = false) (pass : Bool) :
    s.roleSwap pass =
      if ¬ s.standbyFit then { s with clusters := { s.clusters with swapPostponed := true } }
      else if pass then
        { s.beginFailOver 4 true with clusters := { (s.beginFailOver 4 true).clusters with swapPostponed := false } }
      else (s.raise 6).resetStandby (otherCluster c) := by
  have hgo : ¬ (¬ (s.dev.state = .opened ∨ s.dev.state = .quiesce) ∨ s.clusters.failOver.isSome = true ∨ s.hostStopped = true) := by
    simp [hstate, hquiet, hserves]
  rw [State.roleSwap, hactive]
  exact if_neg hgo

end

/-- Settles O49. -/
theorem arbiterAndFailOver : Obligations.ArbiterAndFailOver := by
  refine fun s => ⟨fun v hstopped => congrArg Host.Outcome.next (if_pos hstopped), fun v c hserves hquiet hactive => ?_, fun c cause hactive => ?_,
    fun f hover hserves => ⟨exec_failoverHubRelease hover hserves, State.releaseHub_clusters s f⟩, exec_failoverHubRelease_none,
    fun c pass hactive hstate hquiet hserves hwaits => ?_, fun pass hstate => exec_roleSwapNow_barred hstate pass⟩
  · intro seen s1
    obtain ⟨hkept, hnow⟩ : s1.clusters.active = s.clusters.active ∧ s1.now = s.now := s.checkView_keeps _ _ v
    have hcheck := exec_arbiterCheck hserves hquiet hactive v (s1 := s1) rfl
    refine ⟨fun why hfails hfit => ?_, fun why hfails hunfit hwhy => ?_, fun hfine => ?_⟩
    · obtain ⟨h, hnone, hoff, hover⟩ := State.leaveActive_fit (hkept.trans hactive) hfit why
      rw [hfails] at hcheck
      exact ⟨_, h, hcheck, hnone, hoff, hnow ▸ hover⟩
    · rw [hcheck, hfails]
      exact congrArg Host.Outcome.next (State.leaveActive_unfit hunfit hwhy)
    · rw [hcheck, hfine]
      rfl
  · obtain ⟨hover, hnone⟩ := State.beginFailOver_failsOver hactive cause
    refine ⟨hnone, State.beginFailOver_off hactive cause, ?_, hover, ?_⟩ <;> rw [State.beginFailOver_clusters hactive]
    dsimp only
    rw [State.updCluster_unit_other]
  · have hswap := State.roleSwap_eq hactive hstate hquiet hserves pass
    refine ⟨fun hunfit => ?_, fun hfit hpass => ?_, fun hfit hpass => ?_⟩
    · rw [exec_roleSwap hwaits, hswap, if_pos (by simp [hunfit])]
    · rw [if_neg (not_not_intro hfit), if_pos hpass] at hswap
      refine ⟨_, exec_roleSwap hwaits pass, exec_roleSwapNow hstate pass, ?_⟩
      rw [hswap]
      dsimp only
      rw [State.beginFailOver_swap_clusters hactive]
      exact ⟨rfl, rfl, rfl⟩
    · rw [if_neg (not_not_intro hfit), if_neg (by simp [hpass])] at hswap
      rw [exec_roleSwap hwaits, exec_roleSwapNow hstate, hswap]
      exact ⟨rfl, rfl⟩

end Sys2Proof.Machine
